-- ==== Sys2Proof/Word.lean ====
section
/-! DEFINITION. Bytes, and numbers made of little-endian fields (00_scope.md R2). -/

namespace Sys2Proof

abbrev Byte := BitVec 8
abbrev Word := BitVec 64

end Sys2Proof
end

