-- ==== Sys2Proof/Syntax.lean ====
section
/-! DEFINITION. The commands of the manager: one constructor of `Instr` for each row of opcode_table.json,
with the data the row's rule has the outside world (or the timed unit) bring. -/

namespace Sys2Proof

/-- The key of a ledger entry: kind, physical unit ID and sub-unit index (R36, R41). -/
structure UnitKey where
  kind : Nat
  unit : Nat
  sub  : Nat
deriving DecidableEq, Repr

/-- A reset domain with a state of its own (R330, R334). -/
inductive Domain where
  | keeper | compute | station (f : Fin 32) | port (k : Fin 16)
deriving DecidableEq, Repr

/-- A switchable function named by SWITCH (R267, R403). -/
inductive Func where
  | fieldTap (f : Fin 32) | fieldEpisode (f : Fin 32) | fieldScrub (f : Fin 32) | fieldSelfTest (f : Fin 32)
  | chorus (k : Fin 16) | securing
deriving DecidableEq, Repr

/-- The registers of R463 and R191 that KPR_ALLOWANCE_WRITE covers. -/
inductive AllowanceReg where
  | allowance | scrubShare | replayShare | selfTestShare | startup
deriving DecidableEq, Repr

/-- What ends an attachment at the PCI Express link (R382). -/
inductive PcieReset where
  | functionLevel | hot | linkDown
deriving DecidableEq, Repr

/-- Work that carries a timeout of R339 and has no row of its own for it. -/
inductive TimedWork where
  | command (cid : BitVec 32) | reset (dom : Domain) | visit (tile : Nat)
deriving DecidableEq, Repr

/-- A securing layer (R230, codes of R241). -/
inductive Layer where
  | partner | flash | store
deriving DecidableEq, Repr

/-- Role and contents of one collective of a Link Warden's list (R139). -/
structure Collective where
  port         : Nat
  coll         : Nat
  exactMode    : Bool
  contributes  : Bool
  receives     : Bool
  chunkLen     : Nat
  chunks       : Nat
  contributors : List Nat
  receivers    : List Nat
  transfer     : Nat
deriving DecidableEq, Repr

/-- What the loader brings with a program: its digest over the binary as delivered (R372) and the tables and
header values the manager reads (R139, R285, R308, R343, R365, R375). -/
structure Program where
  binary     : List Byte
  fieldMask  : Nat
  stallLimit : Nat
  namedPorts : List Nat
  peakPowerW : Nat
  profile    : Nat
  timeDependent : Bool
  semaphores : List (Nat × Nat)
  collectives : List Collective
deriving DecidableEq, Repr

/-- A management message (R411): its 48 (or, tagged, 80) bytes, byte 0 least significant. -/
abbrev MgmtMsg := BitVec 640

/-- An announcement of R143: its 32 (or, tagged, 64) bytes, byte 0 least significant. -/
abbrev Announcement := BitVec 512

/-- A remote-add packet (R290), 32 bytes as a little-endian number. -/
abbrev RemoteAdd := BitVec 256

/-- Operand formats of the matrix unit (R69, codes of R82). -/
inductive TapFmt where
  | bf16 | e4m3 | e5m2 | e3m2 | e2m3 | e2m1 | mxint8
deriving DecidableEq, Repr

/-- A result as it leaves the pre-rounding accumulator (R70): the fixed-point value in units of 2⁻²⁸⁶ for an MX
block, the fp32 bits for bf16; or NaN or infinity. -/
inductive TapResult where
  | fixed (v : Int) | fp32 (bits : BitVec 32) | nan | inf
deriving DecidableEq, Repr

/-- One output block as the tap sees it (R69, R70): element codes row by row, E8M0 scale bytes row by row (one per
32 values of k), C0 as fp32 bits, and the results. -/
structure TapBlock where
  fmtA : TapFmt
  fmtB : TapFmt
  m : Nat
  n : Nat
  k : Nat
  a : List Nat
  b : List Nat
  scaleA : List Nat
  scaleB : List Nat
  c0 : List (BitVec 32)
  results : List TapResult
  rangeFlag : Bool
  abandoned : Bool
  enteredBeforeOn : Bool
  /-- Its first operand entered after the tap had left ON (R88). -/
  afterOn : Bool := false
  streamPos : BitVec 32
deriving DecidableEq, Repr

/-- A flit as a Sentinel sees it (R101 to R103): mesh port (0 north, 1 east, 2 south, 3 west), virtual channel, epoch, header and
payload; `drawn` marks one that securing, a fill or a rotation draws from the tile's SRAM. -/
structure Flit where
  port    : Fin 4
  vc      : BitVec 2
  epoch   : BitVec 2
  header  : BitVec 64
  payload : BitVec 128
  drawn   : Bool
deriving DecidableEq, Repr

/-- What a checked tile does in one tile cycle, as its Sentinel sees it (R101, R103, R104): flits accepted from its input queues, its
stall line, values taken in (kind of R102 and value), flits emitted, and its register file and control state, lines that are not
zero. -/
structure TileCycle where
  arrivals : List Flit
  stalled  : Bool
  values   : List (BitVec 2 × BitVec 128)
  emitted  : List Flit
  context  : List (Fin 16 × BitVec 1024)
deriving DecidableEq, Repr

/-- The context and SRAM of a tile, 128-byte lines in address order, context first (R99); a line that is not listed is zero. -/
abbrev TileImage := List (Fin 784 × BitVec 1024)

/-- What a spare does in the W cycles of a replay (R108): the flits it emits with their cycles, and the image it ends with. -/
structure SpareRun where
  emitted : List (Fin 4096 × Flit)
  image   : TileImage
deriving DecidableEq, Repr

/-- Cycles of a tile that its capture has still to see. -/
structure TileCycles where
  tile   : Nat
  cycles : List TileCycle
deriving DecidableEq, Repr

/-- What a Sentinel finds at t0 (R99): the stream's position, the tile's image, and the flits resident in its input queues. -/
structure EpisodeInput where
  streamPos : BitVec 32
  image     : TileImage
  resident  : List Flit
deriving DecidableEq, Repr

/-- A line that a tile writes into its SRAM. -/
structure LineWrite where
  line : Fin 768
  data : BitVec 1024
deriving DecidableEq, Repr

/-- The stream's position as a test window opens, and the context that is saved (R174). -/
structure WindowContext where
  streamPos : BitVec 32
  context   : BitVec 16384
deriving DecidableEq, Repr

/-- Beats of a transplant that left the source wrong, and that changed on the way (R206). -/
structure FillReport where
  sent    : List (Fin 792 × BitVec 1024)
  changed : List (Fin 792 × BitVec 1024)
deriving DecidableEq, Repr

/-- Errors that have struck a codeword of 36 symbols of 4 bits: symbol, and the bits that are inverted in it (R27). -/
abbrev SymbolErrors := List (Fin 36 × BitVec 4)

/-- Signature and end digest of one run of a window (R103, R104). -/
structure RunResult where
  signature : BitVec 64
  digest : BitVec 64
deriving DecidableEq, Repr

/-- How one item of a visit ended (R169, R170, R186): the march with its failing banks, or a slice with its MISR. -/
inductive ItemResult where
  | march (banks : BitVec 12) | slice (misr golden : BitVec 64) | pack (misr golden : BitVec 64)
deriving DecidableEq, Repr

/-- A mesh input queue of a tile (R215). -/
structure QueueId where
  tile : Nat
  port : Nat
  vc : Nat
deriving DecidableEq, Repr

/-- Old-epoch flits of one queue still in the mesh when the drain deadline comes (R212, R215). -/
structure LeftFlits where
  queue : QueueId
  count : Nat
  header : BitVec 64
deriving DecidableEq, Repr

/-- A copy header as its 64 bytes, byte 0 least significant (R241). -/
abbrev HeaderBytes := BitVec 512
/-- A closing message: the copy header, and its tag under the session key (R239, R247). -/
abbrev ClosingBytes := BitVec 768

/-- A drive as its storage port finds it (R231, R330): block size and blocks of its namespace, and the headers of its slots. -/
structure DriveFound where
  blockSize : Nat
  blocks    : Nat
  headers   : List (Fin 4 × HeaderBytes)
deriving DecidableEq, Repr

/-- The operations of the Semaphore Store (R281). -/
inductive SemOp where
  | add | sub | wait | waitConsume
deriving DecidableEq, Repr

/-- A word of a manager memory (R27, R28). -/
inductive MemWord where
  | keeperStore (offset : Nat) | flightRecorder (offset : Nat) | replayBuffer (f : Fin 32) (offset : Nat)
  | ledger (index : Nat) | semaphore (counter : Nat) | remap (f : Fin 32) (index : Nat)
  | imem (core : Fin 68) | dmem (core : Fin 68)
deriving DecidableEq, Repr

/-- Targets behind the test access port (R474). -/
inductive TapTarget where
  | keeperScan | wardenScan (k : Fin 16) | fuses
deriving DecidableEq, Repr

/-- What a Sentinel reports of a stall (R344, R345). -/
structure StallInfo where
  wait : BitVec 4
  port : BitVec 2
  bundle : BitVec 16
  streamPos : BitVec 32
  semaphore : BitVec 12
  semValid : Bool
  semN : BitVec 32
  stalled : BitVec 32
  startWtc : BitVec 64
deriving DecidableEq, Repr

/-- Causes of a core restart (R430). -/
inductive RestartCause where
  | residue | watchdog | imem | dmem
deriving DecidableEq, Repr

/-- Every command: operations and events of the manager, one constructor per row of opcode_table.json. DESIGN CHOICE: log entry 87. -/
inductive Instr where
  /-- AOI_TICK (R16): Every 25 oscillator cycles the AOI raises the tick, increments AOI_TICK and samples every event input of the manager. -/
  | aoiTick
  /-- WATCHDOG_EXPIRY (R18): A core's watchdog expires; the core is restarted from its safe point, or its domain is reset after a molt on a second expiry. -/
  | watchdogExpiry (core : Fin 68)
  /-- POWER_GOOD_LOSS (R305): Loss of power-good asserts the resets of every domain except the AOI, with no molt. -/
  | powerGoodLoss
  /-- BRD_RESET_LOW (R478): BRD_RESET_N low acts as a loss of power-good. -/
  | brdResetLow
  /-- POWER_GOOD_RETURN (R318): Power-good returns with the AOI running and bring-up starts at stage 0. -/
  | powerGoodReturn
  /-- AOI_POWER_UP (R318): The Always-On Island powers up and a full bring-up from stage 0 begins. -/
  | aoiPowerUp
  /-- STAGE_0_POWER (R317): Stage 0 ends once power-good has held 10,000 consecutive ticks, with the oscillator trimmed and manager time loaded. -/
  | stage0Power (feedId : BitVec 8) (i3cSa : BitVec 2)
  /-- POWER_UNSTABLE (R317): Power-good does not hold within 1,000,000 ticks; stage 0 reports POWER_UNSTABLE and starts again. -/
  | powerUnstable (held : Nat)
  /-- STAGE_1_FUSES (R317): Stage 1 completes the fuse-map read and the read of the history region. -/
  | stage1Fuses (readOk : Bool)
  /-- STAGE_2_KEEPER (R321): Stage 2 completes the Keeper logic self-test and the cold or warm memory test. -/
  | stage2Keeper (passed : Bool) (failTest : BitVec 64)
  /-- STAGE_3_STATIONS (R317): Stage 3 completes station self-test, the Replay Buffer march, ring-oscillator counts, sensor samples and pack verification. -/
  | stage3Stations (only : Option (Fin 32)) (testFails marchFails : BitVec 32)
  /-- STAGE_4_TILES (R179): Stage 4 completes the start-up test of every tile and the lane loopback test. -/
  | stage4Tiles (fails laneFails : List UnitKey)
  /-- STAGE_5_LEDGER (R56): Stage 5 reconciles the fuse map with the start-up test and builds the launch map. -/
  | stage5Ledger
  /-- STAGE_6_TRAINING (R324): Stage 6 training of the link ports completes and discovery begins. -/
  | stage6Training (trained : List (Fin 16 × BitVec 32))
  /-- DISCOVERY_END (R324): Discovery ends 200,000 ticks after the last new peer or DISCOVERY_MS after training. -/
  | discoveryEnd
  /-- STAGE_7_READY (R317): Stage 7 is reached, READY is set and a launch is accepted. -/
  | stage7Ready
  /-- STAGE_TIMEOUT (R322): A stage overruns twice its bound; its units are reset and the stage runs once more, or bring-up halts. -/
  | stageTimeout
  /-- PORT_TRAINING_RETRY (R324): A down port retries training every 1,000,000 ticks. -/
  | portTrainingRetry (k : Fin 16) (lanes : BitVec 32)
  /-- MOLT_DONE (R334): A molt completes and the domain's reset is asserted. -/
  | moltDone
  /-- MOLT_BOUND_REACHED (R348): A molt reaches its bound, stops with PARTIAL set and the reset proceeds. -/
  | moltBoundReached
  /-- DOMAIN_RELEASE (R334): A domain held at least 16 ticks with no containing domain held is released and runs its stages. -/
  | domainRelease (dom : Domain)
  /-- REGISTER_WRITE (R7): A host or core write to a register with no behaviour of its own stores the value under its access code. -/
  | registerWrite (addr width : Nat) (value : BitVec 64)
  /-- LATCHED_LOW_WORD_READ (R6): A 4-byte read of the low word of a 64-bit register latches its high word. -/
  | latchedLowWordRead (addr : Nat)
  /-- LEDGER_LOW_HALF_READ (R43): An 8-byte read of the low half of a ledger entry latches its upper half. -/
  | ledgerLowHalfRead (index : Nat)
  /-- LEDGER_WINDOW_WRITE (R43): A write to the ledger window is discarded and sets ACCESS_ERR. -/
  | ledgerWindowWrite (addr width : Nat) (value : BitVec 64)
  /-- KEEPER_STORE_WINDOW_WRITE (R454): A write through the paged Keeper Store window is taken only into a load region whose condition holds. -/
  | keeperStoreWindowWrite (addr width : Nat) (value : BitVec 64)
  /-- FLIGHT_RECORDER_WINDOW_WRITE (R455): A write to the Flight Recorder window is discarded and sets ACCESS_ERR. -/
  | flightRecorderWindowWrite (addr width : Nat) (value : BitVec 64)
  /-- REGISTER_ACCESS_TIMEOUT (R341): A BAR0 access unanswered within 100 ticks completes as an unoccupied address and sets REG_TIMEOUT. -/
  | registerAccessTimeout (addr : Nat)
  /-- ENABLE_WRITE (R268): A write that changes a function's ENABLE bit raises an Enable or Disable event. -/
  | enableWrite (fn : Func) (request : Bool)
  /-- FUNCTION_START_DONE (R267): A switchable function finishes its start and enters ON, or DRAINING if a disable is pending. -/
  | functionStartDone (fn : Func)
  /-- FUNCTION_DRAIN_DONE (R267): A switchable function ends its drain and enters OFF. -/
  | functionDrainDone (fn : Func)
  /-- FUNCTION_PENDING_START (R267): A function OFF for a full tick with ENABLE_PENDING set enters STARTING. -/
  | functionPendingStart (fn : Func)
  /-- KPR_RESET_REQ_KEEPER (R337): A keyed write of KEEPER in KPR_RESET_REQ requests a Keeper reset. -/
  | kprResetReqKeeper (key : BitVec 8)
  /-- KPR_RESET_REQ_COMPUTE (R337): A keyed write of COMPUTE in KPR_RESET_REQ requests a tile compute reset. -/
  | kprResetReqCompute (key : BitVec 8)
  /-- KPR_RESET_REQ_PORT (R332): A keyed write of a PORTS bit requests a reset of link port k, ending a launch that names it. -/
  | kprResetReqPort (k : Fin 16) (key : BitVec 8)
  /-- FST_RESET (R337): A keyed write of RESET in FST_RESET requests a reset of Field Station f. -/
  | fstReset (f : Fin 32) (key : BitVec 8)
  /-- KPR_RECOVER_REQ (R355): A keyed write of RECOVER requests the recovery sequence. -/
  | kprRecoverReq (key : BitVec 8)
  /-- KPR_SCAN_ENTRY (R188): A write to KPR_SCAN_ENTRY advances, completes or breaks the SCAN_ENTRY sequence. -/
  | kprScanEntry (value : BitVec 32)
  /-- SCAN_ENTRY_TIMEOUT (R188): A SCAN_ENTRY sequence not complete within 1,000 ticks is reset and sets ENTRY_ERR. -/
  | scanEntryTimeout
  /-- KPR_FW_COMMIT (R449): Setting COMMIT verifies the staged firmware image. -/
  | kprFwCommit
  /-- FIRMWARE_SLOT_WRITE (R449): A verified image is written to the inactive slot within the flash write window and RESULT is reported. -/
  | firmwareSlotWrite
  /-- TSN_TAP_INJECT (R92): Setting INJECT requests the tap injection test on the next judged block. -/
  | tsnTapInject (tile : Nat)
  /-- TSN_EP_ARM (R118): Setting ARM in TSN_EP_CTRL requests a commanded arming of the tile. -/
  | tsnEpArm (tile : Nat)
  /-- TSN_ST_RUN (R187): Setting RUN in TSN_ST_CTRL orders a self-test visit of the tile. -/
  | tsnStRun (tile : Nat)
  /-- FST_TSN_GO (R457): Setting GO in FST_TSN_CMD starts a Sentinel register access over the warden channel. -/
  | fstTsnGo (f : Fin 32) (set : Fin 2)
  /-- SENTINEL_ACCESS_END (R457): A Sentinel access ends with its value, or with BAD_ADDR, UNAVAILABLE or TIMEOUT. -/
  | sentinelAccessEnd (f : Fin 32) (set : Fin 2) (answered : Bool)
  /-- KPR_ENGINE_WRITE (R461): A write to KPR_ENGINE sets the engine ID, or is refused while a launch or pairing stands. -/
  | kprEngineWrite (engine : BitVec 15)
  /-- IDENTITY_RECORD_WRITE (R461): The engine identity record is written to the ledger flash within the flash write window. -/
  | identityRecordWrite
  /-- KPR_ALLOWANCE_WRITE (R463): A write of the Screening Allowance or a share takes effect in the tick after it lands. -/
  | kprAllowanceWrite (which : AllowanceReg) (value : BitVec 12)
  /-- ROT_PERIOD_WRITE (R95): A write of ROT_PERIOD takes effect from the last advance, advancing the window at once if overdue. -/
  | rotPeriodWrite (f : Fin 32) (period : BitVec 16)
  /-- QUOTA_REEVALUATE (R129): In the tick after QUOTA_LOG2 changes, Sentinels re-evaluate arming and send arm or disarm reports. -/
  | quotaReevaluate (f : Fin 32)
  /-- HPT_RING_HEAD_WRITE (R395): A write of HPT_RING_HEAD acknowledges consumed ring units if the value is acceptable. -/
  | hptRingHeadWrite (head : BitVec 32)
  /-- HOST_PORT_LINK_RESET (R382): A Function Level Reset, hot reset or link-down of the host port ends the attachment. -/
  | hostPortLinkReset (kind : PcieReset)
  /-- APERTURE_UNIT_WRITE (R385): A host write covering byte 63 of an aperture unit sets its landed bit. -/
  | apertureUnitWrite (u : Fin 1024) (offset : Nat) (data : List Byte)
  /-- COMMAND_TAKE (R386): A complete command at HEAD is copied to the command queue, its units are freed and EXPECTED_SEQ advances. -/
  | commandTake
  /-- REJECT_RANGE (R390): When room returns, BUSY responses recorded as a range are croaked REJECT_RANGE. -/
  | rejectRange
  /-- APERTURE_STUCK (R387): A landed unit at HEAD not taken within 100 ticks sets APERTURE_STUCK and is croaked. -/
  | apertureStuck
  /-- OVERLOAD (R391): OUTSTANDING at 244 or more for 1,000 ticks sets OVERLOAD and croaks it. -/
  | overload
  /-- OVERLOAD_CLEAR (R391): OUTSTANDING below 244 for 1,000 ticks clears OVERLOAD. -/
  | overloadClear
  /-- COMMAND_TIMEOUT (R340): A command or manager work reaches its class timeout and is answered TIMEOUT and stopped. -/
  | commandTimeout (work : TimedWork)
  /-- EVENT_RING_WRITE (R394): A host-bound message is written to the Event Ring, header last, once room and bus mastering allow. -/
  | eventRingWrite
  /-- MSIX_HOLDOFF_END (R396): Headers written within the holdoff are signalled once at its end. -/
  | msixHoldoffEnd
  /-- ATTACH (R397): The host attaches, naming its Event Ring and version bitmap, and receives the Stage Reports and queued messages. -/
  | attach (cid seq : BitVec 32) (ringBase : BitVec 64) (ringUnits : BitVec 17) (versions : BitVec 3) (msix : Bool)
  /-- ATTACH_FORCE (R399): An ATTACH with FORCE set ends the current attachment and begins a new one. -/
  | attachForce (cid seq : BitVec 32) (ringBase : BitVec 64) (ringUnits : BitVec 17) (versions : BitVec 3) (msix : Bool)
  /-- DETACH (R400): After every earlier command is answered, the attachment ends and the key store is zeroised. -/
  | detach (cid : BitVec 32)
  /-- PING (R402): Returns the WTC and manager time. -/
  | ping (cid : BitVec 32)
  /-- REG_READ (R406): Performs a BAR0 read of WIDTH bytes and returns the value. -/
  | regRead (cid : BitVec 32) (addr : BitVec 24) (width : BitVec 4)
  /-- REG_WRITE (R406): Performs a BAR0 write ordered after every earlier command. -/
  | regWrite (cid : BitVec 32) (addr : BitVec 24) (width : BitVec 4) (value : BitVec 64)
  /-- STATUS (R404): Returns the status block of the manager. -/
  | status (cid : BitVec 32)
  /-- LEDGER_QUERY (R404): Returns a ledger entry and its newest history record. -/
  | ledgerQuery (cid : BitVec 32) (key : BitVec 32)
  /-- LEDGER_ADD (R407): Adds an operator entry in SUSPECT or QUARANTINED, or is refused. -/
  | ledgerAdd (cid : BitVec 32) (key : BitVec 32) (state : BitVec 3)
  /-- LEDGER_FREE (R407): Frees an entry of origin operator, returning the unit at the next stage 5. -/
  | ledgerFree (cid : BitVec 32) (key : BitVec 32)
  /-- LEDGER_ACCEPT (R59): Accepts a DISPUTED field, which is then reconciled without its limits. -/
  | ledgerAccept (cid : BitVec 32) (field : BitVec 5)
  /-- LEDGER_DROP (R59): Drops a DISPUTED field, making its station entry PERMANENT. -/
  | ledgerDrop (cid : BitVec 32) (field : BitVec 5)
  /-- JOB_KEY_LOAD (R407): Loads the 256-bit job digest key while no launch runs. -/
  | jobKeyLoad (cid : BitVec 32) (key : BitVec 256)
  /-- JOB_KEY_ZEROISE (R153): Zeroises the key store at once. -/
  | jobKeyZeroise (cid : BitVec 32)
  /-- PAIR (R407): Names or withdraws a holder for the next choice of holder. -/
  | pair (cid : BitVec 32) (holder : BitVec 15)
  /-- SWITCH (R407): Acts as a write of a function's ENABLE bit. -/
  | switch (cid : BitVec 32) (function : BitVec 4) (index : BitVec 5) (request : Bool)
  /-- SEM_ADD (R281): Adds n to a counter of the Semaphore Store. -/
  | semAdd (cid : BitVec 32) (counter : BitVec 12) (n : BitVec 32)
  /-- SEM_SUB (R281): Subtracts n from a counter of the Semaphore Store. -/
  | semSub (cid : BitVec 32) (counter : BitVec 12) (n : BitVec 32)
  /-- SEM_WAIT (R407): Waits until a counter reaches n, or times out at LIMIT. -/
  | semWait (cid : BitVec 32) (counter : BitVec 12) (n : BitVec 32) (limit : BitVec 32)
  /-- SEM_WAIT_CONSUME (R283): Waits until a counter reaches n and subtracts n at completion. -/
  | semWaitConsume (cid : BitVec 32) (counter : BitVec 12) (n : BitVec 32) (limit : BitVec 32)
  /-- TEST (R407): Orders a self-test visit of a physical tile and returns its visit record. -/
  | test (cid : BitVec 32) (unit : BitVec 19) (mode : BitVec 2)
  /-- PACK_PUSH (R185): Reads a pattern pack from host memory, verifies it and stores it. -/
  | packPush (cid : BitVec 32) (addr : BitVec 64) (length : BitVec 32) (readOk : Bool) (pack : List Byte)
  /-- PACK_FLASH_WRITE (R185): An accepted pack is written to its flash slot within the flash write window and becomes active. -/
  | packFlashWrite
  /-- LAUNCH (R407): Requests a launch at WTC_go, subject to the launch checks and barrier. -/
  | launch (cid : BitVec 32) (wtcGo : BitVec 64) (multi : Bool)
  /-- ROLLBACK (R250): Names step S and WTC_go for a rollback. -/
  | rollback (cid : BitVec 32) (step wtcGo : BitVec 64)
  /-- RECOVER (R355): Requests the recovery sequence. -/
  | recover (cid : BitVec 32)
  /-- RESET_KEEPER (R407): Resets the Keeper, answered before the reset is asserted. -/
  | resetKeeper (cid : BitVec 32)
  /-- RESET_COMPUTE (R407): Resets tile compute, answered when the domain reaches UP. -/
  | resetCompute (cid : BitVec 32)
  /-- RESET_STATION (R407): Resets Field Station f, answered when it reaches UP. -/
  | resetStation (cid : BitVec 32) (index : BitVec 5)
  /-- RESET_PORT (R407): Resets link port k, answered when it reaches UP. -/
  | resetPort (cid : BitVec 32) (index : BitVec 5)
  /-- RUN_DIGEST_QUERY (R376): Returns the run record. -/
  | runDigestQuery (cid : BitVec 32)
  /-- RUN_DIGEST_SET_WEIGHTS (R373): Sets WEIGHTS_DIGEST. -/
  | runDigestSetWeights (cid : BitVec 32) (digest : BitVec 256)
  /-- RUN_DIGEST_SET_INPUT (R373): Sets INPUT_DIGEST. -/
  | runDigestSetInput (cid : BitVec 32) (digest : BitVec 256)
  /-- RUN_DIGEST_RECOMPUTE (R376): The Run Digest is recomputed in the tick after any of its inputs changes. -/
  | runDigestRecompute
  /-- PROGRAM_LOAD (R372): The program loader streams the binary through the Keeper's SHA-256 engine to form PROGRAM_DIGEST. -/
  | programLoad (prog : Program)
  /-- PROGRAM_CHANGE (R211): A program brought in while a launch runs ends the launch and advances the epoch. -/
  | programChange (prog : Program)
  /-- HELLO_SEND (R412): A HELLO is sent when training ends and every 100,000 ticks while a port is up. -/
  | helloSend
  /-- HELLO_RECEIVE (R246): A HELLO fills or refreshes a Partner Directory entry. -/
  | helloReceive (port : Fin 16) (msg : MgmtMsg)
  /-- HELLO_MISSED (R246): 100,000 ticks without a HELLO raise MISSED, or at the third make the entry LOST. -/
  | helloMissed (engine : BitVec 15)
  /-- PAUSE_RECEIVE (R246): A pause notice makes the peer's entry PAUSED. -/
  | pauseReceive (port : Fin 16) (msg : MgmtMsg)
  /-- PAUSED_TIMEOUT (R246): A PAUSED peer silent for 3,000,000 ticks becomes LOST. -/
  | pausedTimeout (engine : BitVec 15)
  /-- HOLD_LOST_TIMEOUT (R249): A holder frees a lost client's reserve after HOLD_LOST_S seconds. -/
  | holdLostTimeout
  /-- VOID_RECEIVE (R414): A holder marks its held generation VOID if its boundary lies at or after the voiding WTC. -/
  | voidReceive (port : Fin 16) (msg : MgmtMsg)
  /-- PAIR_REQ_RECEIVE (R413): A holder answers a pairing request with PAIR_ACK or PAIR_NAK. -/
  | pairReqReceive (port : Fin 16) (msg : MgmtMsg)
  /-- PAIR_ACK_RECEIVE (R413): The pairing completes and the session key is derived. -/
  | pairAckReceive (port : Fin 16) (msg : MgmtMsg)
  /-- PAIR_NAK_RECEIVE (R247): A refused pairing passes to the next candidate. -/
  | pairNakReceive (port : Fin 16) (msg : MgmtMsg)
  /-- PAIR_END_RECEIVE (R413): PAIR_END ends the pairing as a loss. -/
  | pairEndReceive (port : Fin 16) (msg : MgmtMsg)
  /-- CHUNK_EGRESS (R142): After the last flit of a contributed chunk the Warden sends an announcement to each receiver. -/
  | chunkEgress (k : Fin 16) (coll : BitVec 16) (chunk : BitVec 12) (words : List (BitVec 32))
  /-- ANNOUNCEMENT_RECEIVE (R145): An announcement is accepted into its chorus or discarded. -/
  | announcementReceive (k : Fin 16) (ann : Announcement)
  /-- CHORUS_DATA_FLIT (R146): A data flit of a checked chunk opens a chorus or is digested at its element index. -/
  | chorusDataFlit (k : Fin 16) (coll : BitVec 16) (chunk : BitVec 12) (index : Nat) (first : BitVec 32) (rest : List (BitVec 32))
  /-- CHORUS_COMPARE (R147): With all data and announcements in, the Warden compares the digests and gives a verdict or starts a roll call. -/
  | chorusCompare (k : Fin 16) (coll : BitVec 16) (inst : BitVec 32) (chunk : BitVec 12)
  /-- CHORUS_DEADLINE (R146): An open chorus reaches its deadline and closes INCOMPLETE or TAG. -/
  | chorusDeadline (k : Fin 16) (coll : BitVec 16) (inst : BitVec 32) (chunk : BitVec 12)
  /-- ROLL_CALL_START (R148): A failed exact-mode chorus sends roll calls once this Warden's previous roll call has ended. -/
  | rollCallStart (k : Fin 16) (coll : BitVec 16) (inst : BitVec 32) (chunk : BitVec 12)
  /-- ROLL_CALL_RECEIVE (R148): A contributor looks up the chunk and re-issues its transfer, or answers STALE. -/
  | rollCallReceive (k : Fin 16) (ann : Announcement)
  /-- ROLL_CALL_ANSWER_SEND (R148): After the re-sent chunk leaves, the contributor's Warden sends its answer with the fresh digest. -/
  | rollCallAnswerSend (k : Fin 16) (coll : BitVec 16) (inst : BitVec 32) (chunk : BitVec 12) (receiver : BitVec 15) (words : List (BitVec 32))
  /-- ROLL_CALL_ANSWER_RECEIVE (R149): The receiver judges a roll-call answer and closes the chorus when all are in. -/
  | rollCallAnswerReceive (k : Fin 16) (ann : Announcement) (words : Option (List (BitVec 32)))
  /-- ROLL_CALL_DEADLINE (R149): The roll-call deadline closes the chorus with unresolved contributors. -/
  | rollCallDeadline (k : Fin 16) (coll : BitVec 16) (inst : BitVec 32) (chunk : BitVec 12)
  /-- NAME_NOTICE_RECEIVE (R150): A named wafer applies a CHORUS detection on the named port. -/
  | nameNoticeReceive (k : Fin 16) (ann : Announcement)
  /-- REMOTE_ADD_RECEIVE (R291): A remote add is applied if its data has landed, parked otherwise, or discarded. -/
  | remoteAddReceive (k : Fin 16) (add : RemoteAdd)
  /-- WRITE_LANDED (R289): A fabric write is acknowledged by its tile and LANDED rises; a watched count sends a release. -/
  | writeLanded (k : Fin 16) (source : BitVec 15)
  /-- PARKED_ADD_RELEASE (R291): On a release the Keeper applies every satisfied parked add of the source in ADD_SEQ order. -/
  | parkedAddRelease (k : Fin 16) (source : BitVec 15)
  /-- PRIORITY_INGRESS_RESUME (R292): A remote add held at ingress for a full Parking Buffer is taken once an entry frees. -/
  | priorityIngressResume (k : Fin 16)
  /-- PARK_TIMEOUT (R293): An add parked longer than PARK_MS is croaked PARK_TIMEOUT and stays parked. -/
  | parkTimeout (entry : Nat)
  /-- READY_DEADLINE (R278): At WTC_go − 1,000,000 a ready wafer sends READY on every named port, or refuses. -/
  | readyDeadline
  /-- READY_MARKER_RECEIVE (R278): A READY marker is received on a named port. -/
  | readyMarkerReceive (k : Fin 16)
  /-- ABORT_MARKER_RECEIVE (R278): An ABORT before WTC_go refuses the launch and is forwarded. -/
  | abortMarkerReceive (k : Fin 16)
  /-- READY_CHECK (R278): At WTC_go − 100,000 the wafer checks it has READY on every named port, or refuses with LATE_START. -/
  | readyCheck
  /-- LAUNCH_RELEASE (R278): At WTC_go the tiles are released and the launch begins. -/
  | launchRelease
  /-- WTC_EXCHANGE (R276): Every 1,000 ticks a non-root wafer exchanges timestamps with its parent and slews its WTC. -/
  | wtcExchange (k : Fin 16) (hops : Nat) (offset : Int)
  /-- WTC_SYNC_LOSS (R277): Synchronisation is lost; SYNCED clears and WTC_UNSYNC is croaked. -/
  | wtcSyncLoss
  /-- TAP_BLOCK_JUDGE (R80): The tap completes both comparisons of a block and passes it or sends a mismatch record. -/
  | tapBlockJudge (tile : Nat) (blk : TapBlock)
  /-- TAP_RECORD_ARRIVAL (R81): A tap record reaches the Field Station and is passed to the Keeper for the ledger. -/
  | tapRecordArrival (f : Fin 32) (record : BitVec 256)
  /-- TAP_HOLD_END (R83): A tap's 65,536-cycle hold period ends and a TYPE 2 record carries the held count. -/
  | tapHoldEnd (tile : Nat)
  /-- TAP_ENABLE (R88): A tap receives an Enable request. -/
  | tapEnable (tile : Nat)
  /-- TAP_DISABLE (R88): A tap receives a Disable request. -/
  | tapDisable (tile : Nat)
  /-- TAP_START_DONE (R88): After 128 tile cycles of STARTING the tap enters ON or DRAINING. -/
  | tapStartDone (tile : Nat)
  /-- TAP_DRAIN_DONE (R88): The block in progress is judged or abandoned and the tap enters OFF. -/
  | tapDrainDone (tile : Nat)
  /-- TAP_PENDING_START (R88): A tap OFF a full tick with ENABLE_PENDING set enters STARTING. -/
  | tapPendingStart (tile : Nat)
  /-- TAP_WINDOW_ADVANCE (R90): Every ROT_PERIOD ticks WINDOW_START advances by n_f. -/
  | tapWindowAdvance (f : Fin 32)
  /-- TAP_ALLOCATION_RECOMPUTE (R90): In the tick after a change of allowance, P_rsf or N_service, N_on and every n_f are recomputed. -/
  | tapAllocationRecompute
  /-- REPLAY_SHARE_SHED (R113): When the allowance falls, episodes with the latest t0 are abandoned until the replay share fits. -/
  | replayShareShed
  /-- ARM_REPORT_SEND (R117): An armed Sentinel sends an arm report when armed, after long idleness, or every 262,144 active cycles. -/
  | armReportSend (tile : Nat) (active idle : Nat)
  /-- ARM_REPORT (R117): An arm or disarm report reaches the station and enters, refreshes or leaves the armed queue. -/
  | armReport (tile : Nat) (disarm : Bool)
  /-- EPISODE_SLOT_OPEN (R119): A slot opens and issues a GO to a candidate tile, or lapses. -/
  | episodeSlotOpen (f : Fin 32)
  /-- EPISODE_START (R121): A tile holding a GO reaches t0, takes an episode number and begins its capture. -/
  | episodeStart (tile : Nat) (begun : EpisodeInput)
  /-- GO_WAIT_EXPIRY (R121): A GO not started within GO_WAIT lapses and its reservations are released. -/
  | goWaitExpiry (tile : Nat)
  /-- SNAPSHOT_COMPLETE (R108): The snapshot pass completes and the spare's load begins. -/
  | snapshotComplete (seen : TileCycles)
  /-- CAPTURE_OVERFLOW (R105): A capture queue overflow ends the episode INCONCLUSIVE with reason OVERFLOW. -/
  | captureOverflow (seen : TileCycles)
  /-- RECORD_REGION_OVERFLOW (R106): A recording beyond 18,432 records ends the episode INCONCLUSIVE with reason OVERFLOW. -/
  | recordRegionOverflow (tile : Nat) (cycles : List TileCycle)
  /-- REPLAY_RUN_DONE (R124): The replay spare has run W cycles and its end readout begins. -/
  | replayRunDone (tile : Nat)
  /-- EPISODE_COMPARE (R109): With both readouts complete the comparator gives MATCH or starts a confirming replay. -/
  | episodeCompare (tile : Nat) (cycles : List TileCycle) (emitted : List (Fin 4096 × Flit)) (image : TileImage)
  /-- CONFIRM_REPLAY_DONE (R109): The confirming replay on a second spare is compared and the verdict is decided. -/
  | confirmReplayDone (tile : Nat) (run : SpareRun)
  /-- CONFIRM_SPARE_TIMEOUT (R109): No second spare within 1,000 ticks gives MISMATCH with CONFIRM 0. -/
  | confirmSpareTimeout (tile : Nat)
  /-- EPISODE_DEADLINE (R112): No verdict within 10,000 ticks of t0 ends the episode ABANDONED with reason DEADLINE. -/
  | episodeDeadline (tile : Nat)
  /-- SCRUB_PASS_START (R160): Every PERIOD_S a field starts a scrub pass, or sets SCRUB_LATE. -/
  | scrubPassStart (f : Fin 32)
  /-- SCRUB_VISIT_START (R159): A tile receives a scrub turn and its Sentinel begins a visit of its table entries. -/
  | scrubVisitStart (tile : Nat) (count : Nat) (streamPos : BitVec 32)
  /-- SCRUB_VISIT_RESUME (R159): A scrub visit paused by a port holder resumes where it stopped. -/
  | scrubVisitResume (tile : Nat) (entry count : Nat) (streamPos : BitVec 32)
  /-- SCRUB_RECORD_ARRIVAL (R161): A scrub record of a failed check reaches the station and gives a RESIDENT_DIGEST detection. -/
  | scrubRecordArrival (f : Fin 32) (record : BitVec 256)
  /-- VISIT_SLOT (R176): A self-test visit slot opens and starts a visit on the oldest unit. -/
  | visitSlot (f : Fin 32)
  /-- TEST_WINDOW_OPEN (R174): A tile reaches OPEN_POS of a test window and its Sentinel saves the context if admitted. -/
  | testWindowOpen (tile : Nat) (saved : WindowContext)
  /-- VISIT_MOVE_DONE (R175): A rotation move out or back completes. -/
  | visitMoveDone (tile : Nat)
  /-- VISIT_SAVE_DONE (R175): The context save of a window visit completes and testing begins. -/
  | visitSaveDone (tile : Nat)
  /-- VISIT_ITEM_END (R175): A march or slice ends and the next item starts, or the visit restores or clears. -/
  | visitItemEnd (tile : Nat) (result : ItemResult)
  /-- VISIT_RESTORE_DONE (R175): The context restore of a window visit completes. -/
  | visitRestoreDone (tile : Nat)
  /-- VISIT_CLEAR_DONE (R175): The clear of a tested tile completes and it moves back or goes idle. -/
  | visitClearDone (tile : Nat)
  /-- VISIT_RECORD_ARRIVAL (R183): A visit record reaches the station and gives its detections. -/
  | visitRecordArrival (f : Fin 32) (record : BitVec 256)
  /-- VISIT_LATE (R177): A unit passes 2 × PERIOD without a completed visit and VISIT_LATE is set and croaked. -/
  | visitLate (unit : Nat)
  /-- CE_COUNTER_CLEAR (R182): Every hour the station clears the SRAM correctable-error counters. -/
  | ceCounterClear (f : Fin 32)
  /-- SRAM_CE_REPORT (R182): A tile SRAM correctable report counts per bank and may give SRAM_CE_RATE. -/
  | sramCeReport (tile : Nat) (bank : Fin 12) (count : Nat)
  /-- SRAM_UE_REPORT (R44): A tile SRAM uncorrectable report gives an SRAM_UE detection. -/
  | sramUeReport (tile : Nat) (bank : Fin 12)
  /-- TILE_FROZEN (R192): A quarantined tile stops at a bundle boundary and is frozen. -/
  | tileFrozen (tile : Nat)
  /-- SLACK_CHECK_DONE (R201): A slack check of a candidate completes; the spare is claimed or the next candidate is tried. -/
  | slackCheckDone (logical : Nat)
  /-- TRANSPLANT_START (R206): With the source frozen, the spare claimed and the row bus granted, the transplant runs. -/
  | transplantStart (logical : Nat)
  /-- TRANSPLANT_VERIFIED (R206): The transplant's verify digests agree and the regrowth moves to COMMIT. -/
  | transplantVerified (logical : Nat) (fill : FillReport)
  /-- TRANSPLANT_UE_WORD (R206): An uncorrectable source word ends the transplant and turns the regrowth to a copy fill. -/
  | transplantUeWord (logical : Nat)
  /-- REGROWTH_COMMIT (R209): With the epoch STEADY the Remap Table entry is written and an epoch advance is requested. -/
  | regrowthCommit (logical : Nat)
  /-- REFUSE_WAIT_EXPIRY (R209): A refusal unanswered within REFUSE_WAIT_MS escalates. -/
  | refuseWaitExpiry (logical : Nat)
  /-- REGROWTH_TIMEOUT (R209): 50,000 ticks of timeout time escalate the regrowth with reason TIMEOUT. -/
  | regrowthTimeout (logical : Nat)
  /-- REMAP_TABLE_UE (R218): An uncorrectable Remap Table word is rewritten from the Keeper's copy, or escalates with MAP_LOST. -/
  | remapTableUe (f : Fin 32) (index : Nat) (copyOk : Bool)
  /-- EPOCH_DRAIN_DONE (R470): Every old-epoch-empty line reads asserted and the epoch function returns to STEADY. -/
  | epochDrainDone
  /-- DRAIN_DEADLINE (R212): DRAIN_US elapses; remaining old-epoch flits are discarded and a Drain Report is sent. -/
  | drainDeadline (left : List LeftFlits)
  /-- EPOCH_PENDING_ADVANCE (R212): At a tick in STEADY with PROGRAM_PENDING or PENDING set the epoch advances again. -/
  | epochPendingAdvance
  /-- OLD_EPOCH_FLIT_LANDING (R213): An old-epoch flit landing at a moved tile is forwarded over the row bus or discarded. -/
  | oldEpochFlitLanding (tile : Nat) (q : QueueId) (header : BitVec 64)
  /-- BOUNDARY_TAKE (R233): The manager takes a step boundary from BOUNDARY_SEM and secures or releases it. -/
  | boundaryTake
  /-- CAPTURE_READS_DONE (R238): Every mapped extent has left the tiles and the boundary is released. -/
  | captureReadsDone
  /-- HOLDER_CLOSING_MESSAGE (R239): The holder applies a parked closing message once every write has landed, writes the header and acknowledges. -/
  | holderClosingMessage (k : Fin 16) (source : BitVec 15) (fseq : BitVec 32) (header : ClosingBytes)
  /-- COPY_COMMIT (R239): A copy commits on a layer and its securing record is written. -/
  | copyCommit (layer : Layer) (trickle : Bool)
  /-- COPY_VALID (R239): A committed copy becomes VALID at its validity delay after BOUNDARY_WTC. -/
  | copyValid (index : Fin 12)
  /-- SECURING_TIMEOUT (R242): A transfer not committed within the securing timeout fails on its layer and its generation becomes LOST. -/
  | securingTimeout (layer : Layer)
  /-- DRIVE_FAILURE (R232): A drive fails a command or is removed; its flash copies become LOST and it leaves the stripe. -/
  | driveFailure (drive : Fin 16)
  /-- RELOAD_COMPLETE (R251): The reload of step S completes with its content digest checked. -/
  | reloadComplete (data : List (Fin 445440 × Fin 768 × BitVec 1024))
  /-- RELOAD_LAYER_FAIL (R252): A reload layer fails or mismatches its digest; the next layer reloads afresh or NO_COPY is answered. -/
  | reloadLayerFail
  /-- ROLLBACK_RELEASE (R251): The rolled-back program is released at WTC_go through the launch barrier. -/
  | rollbackRelease
  /-- TILE_SEM_OP (R281): A semaphore operation from a tile is applied at the Semaphore Store. -/
  | tileSemOp (tile : Nat) (op : SemOp) (counter : BitVec 12) (n : BitVec 32)
  /-- SEM_POISON (R286): An uncorrectable counter is marked POISON and a class 3 event is raised. -/
  | semPoison (counter : BitVec 12)
  /-- MEMORY_PATROL (R29): The patrol reads each manager memory word and corrects or poisons it. -/
  | memoryPatrol (word : MemWord) (errors : SymbolErrors)
  /-- SPINE_BEAT_ERROR (R26): A spine beat is corrected, resent, or after four failed resends marks the station unreachable. -/
  | spineBeatError (f : Fin 32) (attempts : List SymbolErrors)
  /-- THERMAL_SAMPLE (R297): Every 1,000 ticks each field converts its thermal sensors and forms their RATE. -/
  | thermalSample (f : Fin 32) (readings : List (BitVec 11)) (aoi : BitVec 11)
  /-- OVER_TEMP_LINE (R298): A sensor's hard-wired line at 140 °C is sampled and raises the absolute trip. -/
  | overTempLine (f : Fin 32) (sensor : Fin 36)
  /-- TRIP_HOLD_RELEASE (R302): After 1,000 samples at or below 105 °C the trip hold is released and recovery runs. -/
  | tripHoldRelease
  /-- THERMAL_HOLD_END (R304): After 10,000 ticks and 10 calm samples the hold ends and the tile clocks restart. -/
  | thermalHoldEnd
  /-- HOLD_MAX_EXPIRY (R304): A thermal hold lasting HOLD_MAX_MS becomes an absolute trip. -/
  | holdMaxExpiry
  /-- DROOP_LATCH_SAMPLE (R306): At each tick the droop latches are sampled and cleared, giving warning and deep events. -/
  | droopLatchSample (f : Fin 32) (warning deep : BitVec 8)
  /-- RING_OSCILLATOR_COUNT (R307): Hourly each station counts its ring oscillators and forms RATIO and the slowdown. -/
  | ringOscillatorCount (f : Fin 32) (counts : List (BitVec 32))
  /-- POWER_SAMPLE (R471): A field power sample arrives and the 10,000-tick average is checked against the cap. -/
  | powerSample (f : Fin 32) (watts : Nat)
  /-- POWER_SAMPLE_MISSING (R471): A field with no sample for 300 ticks is reckoned at its highest recent sample. -/
  | powerSampleMissing (f : Fin 32)
  /-- POWER_CAP_ESCALATE (R308): An average still above the cap 100,000 ticks after shedding is croaked POWER_CAP. -/
  | powerCapEscalate
  /-- OSC_DRIFT_CHECK (R309): Every 1,000,000 ticks the tick count is compared with the WTC and OSC_DRIFT may be set. -/
  | oscDriftCheck
  /-- HAZARD_COMPUTE (R312): Every 1,000 ticks the Hazard Unit computes the hazard index from its terms. -/
  | hazardCompute
  /-- ESCAPE_ACCOUNT_UPDATE (R466): Every second of compute time the Escape Account forms its estimate E. -/
  | escapeAccountUpdate
  /-- AGE_CHECK (R48): Hourly, TRANSIENT entries with no detection in the window are freed. -/
  | ageCheck
  /-- TIME_ANCHOR_WRITE (R272): A time anchor is written to the ledger flash at least hourly. -/
  | timeAnchorWrite
  /-- HISTORY_RECORD_WRITE (R64): A staged history record is written to the ledger flash while the write window is open. -/
  | historyRecordWrite
  /-- MOLT_COPY (R353): An uncopied molt is copied to its flash slot while the window is open. -/
  | moltCopy
  /-- FUSE_BLOW (R311): Service tooling blows a fuse while the fuse write window is open. -/
  | fuseBlow (key : UnitKey) (bad : Bool) (revision : BitVec 4)
  /-- TEST_ACCESS_PORT_REQUEST (R474): A request through the test access port reaches an open target or returns zero. -/
  | testAccessPortRequest (target : TapTarget) (shiftIn : BitVec 64)
  /-- LANE_RETRAIN_TRIGGER (R325): A lane loses lock or makes too many replays and is striped out for retraining. -/
  | laneRetrainTrigger (k : Fin 16) (lane : Fin 32) (lostLock : Bool) (replays : Nat)
  /-- LANE_RETRAIN_DONE (R325): A lane retrain ends and the lane returns to the stripe or fails. -/
  | laneRetrainDone (k : Fin 16) (passed : Bool)
  /-- STALL_LIMIT_REACHED (R344): A Sentinel's TSN_STALL reaches the stall limit and it sends one stall record. -/
  | stallLimitReached (tile : Nat) (stall : StallInfo)
  /-- STALL_RECORD_ARRIVAL (R344): A stall record reaches the Keeper and opens or joins the naming window. -/
  | stallRecordArrival (tile : Nat) (stall : StallInfo)
  /-- NAMING_WINDOW_CLOSE (R344): The naming window closes, the hang record names the earliest stall and HANG is croaked. -/
  | namingWindowClose
  /-- CORE_WAKE (R30): An event for a stopped core or engine restarts its clock within 8 ticks. -/
  | coreWake (core : Fin 68)
  /-- ALARM_DUE (R426): An armed ALARM reaches its tick and becomes pending. -/
  | alarmDue (core : Fin 68)
  /-- ASYNC_COMPLETION (R436): An asynchronous operation completes and posts a COMPLETION or SEMAPHORE event. -/
  | asyncCompletion (core : Fin 68) (index : Nat) (status : BitVec 8) (value : BitVec 32)
  /-- CORE_RESTART (R430): The restart sequencer restarts a core from its safe point or cold. -/
  | coreRestart (core : Fin 68) (cause : RestartCause)
  /-- ADD (R423): rd gets rs1 + rs2. -/
  | add (core : Fin 68) (rd rs1 rs2 : BitVec 5)
  /-- SUB (R423): rd gets rs1 − rs2. -/
  | sub (core : Fin 68) (rd rs1 rs2 : BitVec 5)
  /-- AND (R423): rd gets rs1 AND rs2. -/
  | and (core : Fin 68) (rd rs1 rs2 : BitVec 5)
  /-- OR (R423): rd gets rs1 OR rs2. -/
  | or (core : Fin 68) (rd rs1 rs2 : BitVec 5)
  /-- XOR (R423): rd gets rs1 XOR rs2. -/
  | xor (core : Fin 68) (rd rs1 rs2 : BitVec 5)
  /-- SLL (R423): rd gets rs1 shifted left by rs2. -/
  | sll (core : Fin 68) (rd rs1 rs2 : BitVec 5)
  /-- SRL (R423): rd gets rs1 shifted right logically by rs2. -/
  | srl (core : Fin 68) (rd rs1 rs2 : BitVec 5)
  /-- SRA (R423): rd gets rs1 shifted right arithmetically by rs2. -/
  | sra (core : Fin 68) (rd rs1 rs2 : BitVec 5)
  /-- SLT (R423): rd gets 1 if rs1 < rs2 signed. -/
  | slt (core : Fin 68) (rd rs1 rs2 : BitVec 5)
  /-- SLTU (R423): rd gets 1 if rs1 < rs2 unsigned. -/
  | sltu (core : Fin 68) (rd rs1 rs2 : BitVec 5)
  /-- MIN (R423): rd gets the signed minimum. -/
  | min (core : Fin 68) (rd rs1 rs2 : BitVec 5)
  /-- MAX (R423): rd gets the signed maximum. -/
  | max (core : Fin 68) (rd rs1 rs2 : BitVec 5)
  /-- MINU (R423): rd gets the unsigned minimum. -/
  | minu (core : Fin 68) (rd rs1 rs2 : BitVec 5)
  /-- MAXU (R423): rd gets the unsigned maximum. -/
  | maxu (core : Fin 68) (rd rs1 rs2 : BitVec 5)
  /-- MUL (R423): rd gets the low 64 bits of the product. -/
  | mul (core : Fin 68) (rd rs1 rs2 : BitVec 5)
  /-- MULHU (R423): rd gets the unsigned high 64 bits of the product. -/
  | mulhu (core : Fin 68) (rd rs1 rs2 : BitVec 5)
  /-- DIVU (R423): rd gets the unsigned quotient. -/
  | divu (core : Fin 68) (rd rs1 rs2 : BitVec 5)
  /-- REMU (R423): rd gets the unsigned remainder. -/
  | remu (core : Fin 68) (rd rs1 rs2 : BitVec 5)
  /-- ADDM61 (R423): rd gets the sum mod 2⁶¹ − 1. -/
  | addm61 (core : Fin 68) (rd rs1 rs2 : BitVec 5)
  /-- MULM61 (R423): rd gets the product mod 2⁶¹ − 1. -/
  | mulm61 (core : Fin 68) (rd rs1 rs2 : BitVec 5)
  /-- ADDI (R424): rd gets rs1 plus the sign-extended immediate. -/
  | addi (core : Fin 68) (rd rs1 : BitVec 5) (imm : BitVec 16)
  /-- ANDI (R424): rd gets rs1 AND the zero-extended immediate. -/
  | andi (core : Fin 68) (rd rs1 : BitVec 5) (imm : BitVec 16)
  /-- ORI (R424): rd gets rs1 OR the zero-extended immediate. -/
  | ori (core : Fin 68) (rd rs1 : BitVec 5) (imm : BitVec 16)
  /-- XORI (R424): rd gets rs1 XOR the zero-extended immediate. -/
  | xori (core : Fin 68) (rd rs1 : BitVec 5) (imm : BitVec 16)
  /-- SLTI (R424): rd gets 1 if rs1 < the immediate, signed. -/
  | slti (core : Fin 68) (rd rs1 : BitVec 5) (imm : BitVec 16)
  /-- SLTIU (R424): rd gets 1 if rs1 < the immediate, unsigned. -/
  | sltiu (core : Fin 68) (rd rs1 : BitVec 5) (imm : BitVec 16)
  /-- SHIFTI_SLL (R424): rd gets rs1 shifted left by the immediate. -/
  | shiftiSll (core : Fin 68) (rd rs1 : BitVec 5) (sh : BitVec 6)
  /-- SHIFTI_SRL (R424): rd gets rs1 shifted right logically by the immediate. -/
  | shiftiSrl (core : Fin 68) (rd rs1 : BitVec 5) (sh : BitVec 6)
  /-- SHIFTI_SRA (R424): rd gets rs1 shifted right arithmetically by the immediate. -/
  | shiftiSra (core : Fin 68) (rd rs1 : BitVec 5) (sh : BitVec 6)
  /-- LUI (R424): rd gets the sign-extended immediate shifted left 16. -/
  | lui (core : Fin 68) (rd : BitVec 5) (imm : BitVec 16)
  /-- ORIH (R424): rd gets rs1 OR the immediate shifted left 32. -/
  | orih (core : Fin 68) (rd rs1 : BitVec 5) (imm : BitVec 16)
  /-- LD (R420): Loads 8 bytes. -/
  | ld (core : Fin 68) (rd rs1 : BitVec 5) (imm : BitVec 16)
  /-- LWU (R420): Loads 4 bytes zero-extended. -/
  | lwu (core : Fin 68) (rd rs1 : BitVec 5) (imm : BitVec 16)
  /-- LBU (R420): Loads 1 byte zero-extended. -/
  | lbu (core : Fin 68) (rd rs1 : BitVec 5) (imm : BitVec 16)
  /-- DLD (R420): Loads 32 bytes into a descriptor register. -/
  | dld (core : Fin 68) (d : Fin 8) (rs1 : BitVec 5) (imm : BitVec 16)
  /-- SD (R420): Stores 8 bytes. -/
  | sd (core : Fin 68) (rs rs1 : BitVec 5) (imm : BitVec 16)
  /-- SW (R420): Stores 4 bytes. -/
  | sw (core : Fin 68) (rs rs1 : BitVec 5) (imm : BitVec 16)
  /-- SB (R420): Stores 1 byte. -/
  | sb (core : Fin 68) (rs rs1 : BitVec 5) (imm : BitVec 16)
  /-- DST (R420): Stores a descriptor register as 32 bytes. -/
  | dst (core : Fin 68) (d : Fin 8) (rs1 : BitVec 5) (imm : BitVec 16)
  /-- DGET (R424): rd gets a word of a descriptor register. -/
  | dget (core : Fin 68) (rd : BitVec 5) (d : Fin 8) (w : Fin 4)
  /-- DPUT (R424): A word of a descriptor register gets rs1. -/
  | dput (core : Fin 68) (d : Fin 8) (w : Fin 4) (rs1 : BitVec 5)
  /-- DZERO (R424): A descriptor register is zeroed. -/
  | dzero (core : Fin 68) (d : Fin 8)
  /-- BEQ (R424): Branches if ra equals rb. -/
  | beq (core : Fin 68) (ra rb : BitVec 5) (off : BitVec 16)
  /-- BNE (R424): Branches if ra differs from rb. -/
  | bne (core : Fin 68) (ra rb : BitVec 5) (off : BitVec 16)
  /-- BLT (R424): Branches if ra < rb signed. -/
  | blt (core : Fin 68) (ra rb : BitVec 5) (off : BitVec 16)
  /-- BGE (R424): Branches if ra ≥ rb signed. -/
  | bge (core : Fin 68) (ra rb : BitVec 5) (off : BitVec 16)
  /-- BLTU (R424): Branches if ra < rb unsigned. -/
  | bltu (core : Fin 68) (ra rb : BitVec 5) (off : BitVec 16)
  /-- BGEU (R424): Branches if ra ≥ rb unsigned. -/
  | bgeu (core : Fin 68) (ra rb : BitVec 5) (off : BitVec 16)
  /-- JAL (R424): Jumps relative and links. -/
  | jal (core : Fin 68) (ra : BitVec 5) (off : BitVec 16)
  /-- JALR (R424): Jumps to rs1 plus the immediate and links. -/
  | jalr (core : Fin 68) (rd rs1 : BitVec 5) (imm : BitVec 16)
  /-- KICK (R425): Restarts the core's watchdog period. -/
  | kick (core : Fin 68)
  /-- SAFE (R429): Declares a safe point and retires every popped event. -/
  | safe (core : Fin 68)
  /-- EVPOP (R433): Pops the oldest unpopped event into a descriptor register. -/
  | evpop (core : Fin 68) (rd : BitVec 5) (d : Fin 8)
  /-- ERET (R425): Returns from a trap handler to EPC. -/
  | eret (core : Fin 68)
  /-- CSRR (R426): Reads a CSR. -/
  | csrr (core : Fin 68) (rd csr : BitVec 5)
  /-- CSRW (R426): Writes a CSR. -/
  | csrw (core : Fin 68) (csr rs1 : BitVec 5)
  /-- SEND (R425): Sends a descriptor as mail to another core. -/
  | send (core : Fin 68) (rd rs1 : BitVec 5) (d : Fin 8)
  /-- ARM (R440): Commands an arming of a physical tile. -/
  | arm (core : Fin 68) (rd rs1 : BitVec 5)
  /-- TEST_OPERATION (R440): Orders an asynchronous self-test visit of a tile. -/
  | testOperation (core : Fin 68) (rd rs1 : BitVec 5) (mode : BitVec 2)
  /-- QUAR (R440): Requests the firmware update SUSPECT to QUARANTINED of a ledger key. -/
  | quar (core : Fin 68) (rd rs1 : BitVec 5)
  /-- REMAP_RETRY (R440): Answers a refused regrowth with RETRY. -/
  | remapRetry (core : Fin 68) (rd rs1 : BitVec 5)
  /-- REMAP_ESCALATE (R440): Answers a refused regrowth with ESCALATE. -/
  | remapEscalate (core : Fin 68) (rd rs1 : BitVec 5)
  /-- FILL (R442): Reads the fill engines and regrowth queue of a field. -/
  | fill (core : Fin 68) (rd rs1 : BitVec 5) (d : Fin 8)
  /-- SECURE (R440): Names a boundary for a securing of reason firmware. -/
  | secure (core : Fin 68) (rd rs1 : BitVec 5) (layers : BitVec 3)
  /-- DIGEST_SHA256 (R443): Computes SHA-256 over a memory range. -/
  | digestSha256 (core : Fin 68) (rd : BitVec 5) (d : Fin 8)
  /-- DIGEST_HMAC (R443): Computes HMAC-SHA-256 with the job digest key over a memory range. -/
  | digestHmac (core : Fin 68) (rd : BitVec 5) (d : Fin 8)
  /-- DIGEST_PLD61 (R443): Computes a PLD-61 digest over a memory range. -/
  | digestPld61 (core : Fin 68) (rd : BitVec 5) (d : Fin 8)
  /-- LEDGER_QUERY_OP (R444): Queries a ledger key. -/
  | ledgerQueryOp (core : Fin 68) (rd rs1 rs2 : BitVec 5) (d : Fin 8)
  /-- LEDGER_UPDATE_OP (R444): Requests a firmware transition of a ledger entry with its expected state. -/
  | ledgerUpdateOp (core : Fin 68) (rd rs1 rs2 : BitVec 5) (d : Fin 8)
  /-- LEDGER_ADD_OP (R444): Applies one detection of origin runtime with a given cause. -/
  | ledgerAddOp (core : Fin 68) (rd rs1 rs2 : BitVec 5) (d : Fin 8)
  /-- SEMADD (R440): Adds n to a counter. -/
  | semadd (core : Fin 68) (rd rs1 rs2 : BitVec 5)
  /-- SEMSUB (R440): Subtracts n from a counter. -/
  | semsub (core : Fin 68) (rd rs1 rs2 : BitVec 5)
  /-- SEMWAIT (R440): Waits on a counter, stalling or asynchronously. -/
  | semwait (core : Fin 68) (rd rs1 rs2 : BitVec 5) (async : Bool)
  /-- SEMWAIT_CONSUME (R440): Waits on a counter and consumes n at completion. -/
  | semwaitConsume (core : Fin 68) (rd rs1 rs2 : BitVec 5) (async : Bool)
  /-- FENCE (R441): Waits until every earlier posted store and operation has taken effect. -/
  | fence (core : Fin 68) (rd : BitVec 5)
  /-- CROAK (R446): Queues a host-bound message from a buffer. -/
  | croak (core : Fin 68) (rd rs1 rs2 : BitVec 5) (cls : BitVec 3)
  /-- MOLT (R440): Requests recovery for a poisoned counter. -/
  | molt (core : Fin 68) (rd rs1 : BitVec 5)
  /-- TIME_MANAGER (R440): rd gets the manager time. -/
  | timeManager (core : Fin 68) (rd : BitVec 5)
  /-- TIME_WTC (R440): rd gets the WTC. -/
  | timeWtc (core : Fin 68) (rd : BitVec 5)
  /-- WAITEV (R434): Waits for a named event source, stopping the core's clock unless one is pending. -/
  | waitev (core : Fin 68) (rd rs1 : BitVec 5) (poll : Bool)
  /-- I3C_PRIVATE_READ (R477): The board controller reads the 8 status bytes. -/
  | i3cPrivateRead
  /-- I3C_PRIVATE_WRITE (R477): A private write is NACKed. -/
  | i3cPrivateWrite
  /-- ENTDAA (R477): The I3C target takes part in dynamic address assignment. -/
  | entdaa (address : BitVec 7)
  /-- SETDASA (R477): The I3C target receives its dynamic address from its static address. -/
  | setdasa (address : BitVec 7)
  /-- GETPID (R477): The I3C target returns its provisioned ID. -/
  | getpid
  /-- GETBCR (R477): The I3C target returns its bus characteristics register. -/
  | getbcr
  /-- GETDCR (R477): The I3C target returns its device characteristics register. -/
  | getdcr
  /-- GETSTATUS (R477): The I3C target returns its status. -/
  | getstatus
  /-- AOI_SUPPLY_LOSS (R330): The Always-On Island loses its own supply and every state of the manager, the ledger and manager time included, is lost. -/
  | aoiSupplyLoss
  /-- STORAGE_PORT_READY (R330): A storage port comes up with its drive after a Keeper reset, and the copy directory is rebuilt from that drive's copy headers. -/
  | storagePortReady (drive : Fin 16) (found : DriveFound)
  /-- BOUNDARY_WAIT_EXPIRY (R235): A boundary that has waited 50,000 ticks for a transplant regrowth between quarantine and DRAIN is skipped and released. -/
  | boundaryWaitExpiry
  /-- SCRUB_VISIT_END (R160): A Sentinel finishes its scrub visit, its turn is freed and the pass advances or ends. -/
  | scrubVisitEnd (tile : Nat)
  /-- REMOTE_ADD_SEND (R290): A remote add leaves the sending Warden stamped with FSEQ = SENT[d] and the current LAUNCH_WTC. -/
  | remoteAddSend (k : Fin 16) (dest : BitVec 15) (counter : BitVec 12) (amount : BitVec 32)
  /-- FABRIC_WRITE_SEND (R289): A data-class write leaves a Link Warden toward destination engine d and SENT[d] is incremented. -/
  | fabricWriteSend (k : Fin 16) (dest : BitVec 15)
  /-- ILLEGAL_INSTRUCTION (R422): A core fetches a word with an unassigned or reserved major opcode and traps as illegal. -/
  | illegalInstruction (core : Fin 68) (word : BitVec 32)
  /-- TILE_SRAM_WRITE (R158): A tile writes its SRAM; the Sentinel sets DIRTY for an in-window resident block and queues a pre-image for an untaken line during a capture. -/
  | tileSramWrite (tile : Nat) (write : LineWrite) (streamPos : BitVec 32)
deriving DecidableEq, Repr

end Sys2Proof
end

