-- ==== Sys2Proof/Decode.lean ====
section
/-! DEFINITION. The block has no instruction decoder: no row of opcode_table.json gives bits, so no word spells a
command (log entry 1). -/

namespace Sys2Proof

/-- The command that a word spells by the table's bits: none, for no row gives any. DESIGN CHOICE: log entry 1. -/
def decodeTableWord (_nbits _w : Nat) : Option Instr := none

end Sys2Proof
end

