-- ==== Sys2Proof/Config.lean ====
section
/-! DEFINITION. What an implementation fixes and the manual leaves open: opaque constants, no value of which can be
proved. Each is named in a log entry under notes/assumptions. -/

namespace Sys2Proof.Config

/-- A fresh value the manual leaves open, by the index `freeCtr` of the state (log entry 5). DESIGN CHOICE: log entry 5. -/
opaque freeWord : Nat → BitVec 64

/-- Feedback of the LFSR of random picks, whose polynomial the manual does not give (R119). DESIGN CHOICE: log entry 13. -/
opaque pickTaps : BitVec 32

/-- The logical position, below a bound, that a state of that LFSR draws: the manual says only that draws are uniform (R119).
DESIGN CHOICE: log entry 13. -/
opaque pickPosition : BitVec 32 → Nat → Nat

/-- The count of a process ring oscillator (4f + j) corrected from a reading, in units of 0.25 °C, to 85 °C by its fused coefficient,
whose form the manual does not give (R307). DESIGN CHOICE: log entry 81. -/
opaque ringCorrected : Nat → Nat → Int → Nat

/-- The fused baseline of that oscillator. DESIGN CHOICE: log entry 81. -/
opaque ringBaseline : Nat → Nat

end Sys2Proof.Config
end

