-- ==== Sys2Proof/Machine/RegMap.lean ====
section
/-! DEFINITION. Every register field the manual names (16_register_map.md R453 and the chapters it points to):
its place, access code (R7) and reset value, one constructor of `RF` each. -/

namespace Sys2Proof.Machine

/-- Access codes of R7. -/
inductive Access where
  | ro | rw | w1c | wo | rw1s | ros
deriving DecidableEq, Repr

/-- The part of the address map a register stands in (R453). Sentinel registers are reached by R456 only. -/
inductive Blk where
  | aoi | keeper | host | sem | station | warden | sentinel
deriving DecidableEq, Repr

/-- One register field: block, byte offset, distance of its instances in one unit, their number, lowest bit,
 width, access code and reset value. -/
structure RegSpec where
  blk : Blk
  addr : Nat
  stride : Nat
  count : Nat
  lo : Nat
  width : Nat
  acc : Access
  reset : Nat
deriving DecidableEq, Repr

/-- Every register field by name: block, register and field as the manual writes them. -/
inductive RF where
  /-- R66 KPR_LEDGER_STATUS -/
  | kprLedgerStatusUsed
  | kprLedgerStatusFull
  | kprLedgerStatusOverflow
  | kprLedgerStatusRebuilt
  | kprLedgerStatusFuseRevNew
  | kprLedgerStatusFuseRev
  | kprLedgerStatusFlashPending
  /-- R68 FST_RECONCILE -/
  | fstReconcileFuseBadPass
  | fstReconcileFuseGoodFail
  | fstReconcileDisputed
  | fstReconcileShort
  /-- R93 TSN_TAP_CTRL -/
  | tsnTapCtrlExclude
  | tsnTapCtrlInject
  | tsnTapCtrlState
  | tsnTapCtrlEnablePending
  | tsnTapCtrlDisablePending
  | tsnTapCtrlInjectEscape
  | tsnTapCtrlMismatchSat
  | tsnTapCtrlUncheckedSat
  /-- R94 TSN_TAP_BLOCKS -/
  | tsnTapBlocksBlocks
  /-- R94 TSN_TAP_MISMATCHES -/
  | tsnTapMismatchesMismatches
  /-- R94 TSN_TAP_UNCHECKED -/
  | tsnTapUncheckedUnchecked
  /-- R95 FST_TAP_CTRL -/
  | fstTapCtrlEnable
  | fstTapCtrlState
  | fstTapCtrlEnablePending
  | fstTapCtrlRotPeriod
  /-- R96 FST_TAP_STATUS -/
  | fstTapStatusEnabled
  | fstTapStatusWindowStart
  /-- R96 FST_TAP_BLOCKS -/
  | fstTapBlocksBlocks
  /-- R96 FST_TAP_FLAGS -/
  | fstTapFlagsRecordCrc
  | fstTapFlagsRecordSat
  /-- R97 KPR_TAP_SEED -/
  | kprTapSeedSeed
  /-- R97 KPR_TAP_COVER -/
  | kprTapCoverOn
  | kprTapCoverFraction
  /-- R97 KPR_TAP_SEED_ACTIVE -/
  | kprTapSeedActiveSeed
  /-- R128 TSN_EXPOSURE -/
  | tsnExposureExposure
  /-- R128 TSN_EXPOSURE_CHECKED -/
  | tsnExposureCheckedChecked
  /-- R128 TSN_EP_CTRL -/
  | tsnEpCtrlArmed
  | tsnEpCtrlGo
  | tsnEpCtrlCapturing
  | tsnEpCtrlArm
  | tsnEpCtrlOverflowSeen
  /-- R129 FST_EP_CTRL -/
  | fstEpCtrlEnable
  | fstEpCtrlState
  | fstEpCtrlEnablePending
  | fstEpCtrlMaxInflight
  | fstEpCtrlQuotaLog2
  | fstEpCtrlWindow
  /-- R130 FST_EP_RATE -/
  | fstEpRateRate
  | fstEpRateGoWait
  /-- R130 FST_EP_STATUS -/
  | fstEpStatusInflight
  | fstEpStatusArmed
  /-- R163 KPR_DIG_SEED -/
  | kprDigSeedSeed
  /-- R163 KPR_DIG_SEED_ACTIVE -/
  | kprDigSeedActiveDseed
  /-- R163 KPR_DIG_KEY -/
  | kprDigKeyLoaded
  | kprDigKeyTagEnable
  | kprDigKeyTagsActive
  | kprDigKeyZeroisePending
  /-- R164 LWD_DIG_CTRL -/
  | lwdDigCtrlEnable
  | lwdDigCtrlState
  | lwdDigCtrlEnablePending
  | lwdDigCtrlDeadlineMs
  | lwdDigCtrlRollcallMs
  /-- R164 LWD_DIG_STATUS -/
  | lwdDigStatusOpen
  | lwdDigStatusRollcall
  | lwdDigStatusBackpressure
  /-- R166 FST_SCRUB_CTRL -/
  | fstScrubCtrlEnable
  | fstScrubCtrlState
  | fstScrubCtrlEnablePending
  | fstScrubCtrlPeriodS
  /-- R166 FST_SCRUB_STATUS -/
  | fstScrubStatusActive
  | fstScrubStatusScrubLate
  | fstScrubStatusRecordCrc
  | fstScrubStatusCountSat
  /-- R166 FST_SCRUB_PASSES -/
  | fstScrubPassesPasses
  /-- R166 FST_SCRUB_MISMATCH -/
  | fstScrubMismatchMismatches
  /-- R167 TSN_RDT_BASE -/
  | tsnRdtBaseBase
  | tsnRdtBaseValid
  /-- R167 TSN_SCRUB_LAST_WTC -/
  | tsnScrubLastWtcWtc
  /-- R189 TSN_ST_CTRL -/
  | tsnStCtrlRun
  | tsnStCtrlMode
  | tsnStCtrlState
  | tsnStCtrlFailed
  | tsnStCtrlBankFail
  /-- R189 TSN_ST_SLICES -/
  | tsnStSlicesSliceFail
  /-- R189 TSN_TW_BASE -/
  | tsnTwBaseBase
  | tsnTwBaseValid
  /-- R189 TSN_ST_MISR -/
  | tsnStMisrMisr
  /-- R190 FST_ST_CTRL -/
  | fstStCtrlEnable
  | fstStCtrlState
  | fstStCtrlEnablePending
  | fstStCtrlPackPerVisit
  | fstStCtrlPeriodH
  | fstStCtrlCeLimit
  /-- R190 FST_ST_STATUS -/
  | fstStStatusUnderTest
  | fstStStatusVisitLate
  | fstStStatusRecordCrc
  | fstStStatusCountSat
  | fstStStatusOldestH
  /-- R190 FST_ST_VISITS -/
  | fstStVisitsVisits
  /-- R190 FST_ST_FAILS -/
  | fstStFailsFails
  /-- R190 FST_ST_ABORTS -/
  | fstStAbortsAborts
  /-- R191 KPR_ST_CTRL -/
  | kprStCtrlShare
  | kprStCtrlStartup
  /-- R191 KPR_SCAN_ENTRY -/
  | kprScanEntryEntry
  /-- R191 KPR_ST_STATUS -/
  | kprStStatusScanned
  | kprStStatusEntryErr
  | kprStStatusScanTarget
  /-- R191 KPR_ST_COUNT -/
  | kprStCountUnderTest
  | kprStCountLimit
  /-- R191 KPR_PACK_STATUS -/
  | kprPackStatusActive
  | kprPackStatusInvalidSeen
  /-- R224 FST_REGROW_STATUS -/
  | fstRegrowStatusEngine0
  | fstRegrowStatusEngine1
  | fstRegrowStatusQueued
  | fstRegrowStatusFreeSpares
  | fstRegrowStatusEntries
  /-- R224 FST_REGROW_DONE -/
  | fstRegrowDoneDone
  /-- R224 FST_REGROW_ESCALATED -/
  | fstRegrowEscalatedEscalated
  /-- R224 FST_REGROW_FLAGS -/
  | fstRegrowFlagsDoneSat
  | fstRegrowFlagsEscSat
  /-- R225 KPR_REGROW_CTRL -/
  | kprRegrowCtrlInPlace
  | kprRegrowCtrlRefuseWaitMs
  | kprRegrowCtrlDrainUs
  /-- R225 KPR_EPOCH -/
  | kprEpochCurrent
  | kprEpochDraining
  | kprEpochPending
  | kprEpochDiscardSat
  | kprEpochProgramPending
  /-- R225 KPR_DRAIN_DISCARDS -/
  | kprDrainDiscardsDiscards
  /-- R225 KPR_FIELDS_DROPPED -/
  | kprFieldsDroppedDropped
  /-- R225 KPR_RST_CTRL -/
  | kprRstCtrlValid
  | kprRstCtrlFormatErr
  /-- R256 KPR_SEC_CTRL -/
  | kprSecCtrlEnable
  | kprSecCtrlState
  | kprSecCtrlEnablePending
  | kprSecCtrlMapValid
  | kprSecCtrlPartnerEn
  | kprSecCtrlFlashEn
  | kprSecCtrlStoreEn
  | kprSecCtrlForceCofed
  | kprSecCtrlFlashOnHazard
  | kprSecCtrlSolo
  | kprSecCtrlKMax
  /-- R256 KPR_SEC_CFG -/
  | kprSecCfgLinkShare
  | kprSecCfgFlashEvery
  | kprSecCfgStoreEvery
  | kprSecCfgFlashGensM1
  | kprSecCfgStoreGensM1
  | kprSecCfgHoldLostS
  /-- R257 KPR_SEC_STATUS -/
  | kprSecStatusPhase
  | kprSecStatusCofed
  | kprSecStatusNoPartner
  | kprSecStatusDrivesOk
  | kprSecStatusFloorMissed
  | kprSecStatusFallbackSeen
  | kprSecStatusCountSat
  | kprSecStatusMapInvalid
  /-- R258 KPR_SEC_STEP -/
  | kprSecStepStep
  /-- R258 KPR_SEC_PAIR -/
  | kprSecPairHolder
  | kprSecPairHolderValid
  | kprSecPairClient
  | kprSecPairClientValid
  /-- R258 KPR_SEC_STORE_BASE -/
  | kprSecStoreBaseBase
  /-- R258 KPR_SEC_STORE_SIZE -/
  | kprSecStoreSizeSize
  /-- R258 KPR_SEC_STORE_RATE -/
  | kprSecStoreRateRate
  /-- R258 KPR_SEC_SECURINGS -/
  | kprSecSecuringsCount
  /-- R258 KPR_SEC_SKIPPED -/
  | kprSecSkippedCount
  /-- R258 KPR_SEC_VOIDED -/
  | kprSecVoidedCount
  /-- R258 KPR_SEC_FALLBACKS -/
  | kprSecFallbacksCount
  /-- R258 KPR_SEC_ROLLBACKS -/
  | kprSecRollbacksCount
  /-- R264 FST_EVT_STATUS -/
  | fstEvtStatusDepth
  | fstEvtStatusSliceFull
  /-- R274 AOI_TICK -/
  | aoiTickTick
  | aoiTickWraps
  /-- R274 AOI_TIME_STATUS -/
  | aoiTimeStatusAnchorLost
  | aoiTimeStatusAnchorPending
  /-- R280 KPR_WTC -/
  | kprWtcWtc
  /-- R280 KPR_WTC_CTRL -/
  | kprWtcCtrlRoot
  /-- R280 KPR_WTC_STATUS -/
  | kprWtcStatusSynced
  | kprWtcStatusUnsyncSeen
  | kprWtcStatusHops
  | kprWtcStatusParent
  | kprWtcStatusError
  /-- R280 KPR_LAUNCH_WTC -/
  | kprLaunchWtcWtcGo
  /-- R288 SEM_COUNT -/
  | semCountCount
  /-- R288 SEM_FLAGS -/
  | semFlagsAddSat
  | semFlagsSubSat
  | semFlagsWaiting
  | semFlagsParked
  | semFlagsPoison
  /-- R296 KPR_PARK_CTRL -/
  | kprParkCtrlParkMs
  /-- R296 KPR_PARK_STATUS -/
  | kprParkStatusUsed
  | kprParkStatusHigh
  | kprParkStatusFullSeen
  | kprParkStatusParkTimeoutSeen
  | kprParkStatusCountSat
  /-- R296 KPR_PARK_DISCARDS -/
  | kprParkDiscardsDiscards
  /-- R296 LWD_PARK_STATUS -/
  | lwdParkStatusBackpressure
  | lwdParkStatusDiscardSat
  /-- R296 LWD_PARK_DISCARD -/
  | lwdParkDiscardDiscards
  /-- R296 LWD_LANDED_SEL -/
  | lwdLandedSelEngine
  /-- R296 LWD_LANDED -/
  | lwdLandedLanded
  /-- R296 LWD_SENT -/
  | lwdSentSent
  /-- R315 FST_MON_STATUS -/
  | fstMonStatusThermalIn
  | fstMonStatusDroopIn
  | fstMonStatusRoIn
  | fstMonStatusBlind
  | fstMonStatusDroopDeepSeen
  | fstMonStatusCountSat
  | fstMonStatusSlowdown
  /-- R315 FST_MON_MAX -/
  | fstMonMaxMaxTemp
  | fstMonMaxMaxSensor
  /-- R315 FST_DROOP_EVENTS -/
  | fstDroopEventsEvents
  /-- R315 FST_DROOP_DEEP -/
  | fstDroopDeepEvents
  /-- R315 FST_RO_RATIO -/
  | fstRoRatioRatio
  | fstRoRatioInService
  /-- R315 FST_TEMP -/
  | fstTempReading
  | fstTempRate
  | fstTempInService
  /-- R316 KPR_MON_CTRL -/
  | kprMonCtrlRiseTrip
  | kprMonCtrlRiseResume
  | kprMonCtrlHoldMaxMs
  /-- R316 KPR_MON_STATUS -/
  | kprMonStatusHold
  | kprMonStatusTripped
  | kprMonStatusHoldSeen
  | kprMonStatusTripSeen
  | kprMonStatusFlashWindow
  | kprMonStatusFuseWindow
  | kprMonStatusOverCap
  | kprMonStatusOscDrift
  | kprMonStatusMaxTemp
  | kprMonStatusMaxField
  /-- R316 AOI_TEMP -/
  | aoiTempReading
  | aoiTempAoiSensorBad
  | aoiTempTrim
  /-- R336 AOI_RESET_CAUSE -/
  | aoiResetCauseAoiPower
  | aoiResetCausePowerGood
  | aoiResetCauseKeeperHost
  | aoiResetCauseKeeperWatchdog
  | aoiResetCauseKeeperStage
  | aoiResetCauseComputeHost
  | aoiResetCauseComputeRecovery
  | aoiResetCauseComputeTrip
  | aoiResetCauseStation
  | aoiResetCausePort
  /-- R336 AOI_DOMAINS -/
  | aoiDomainsKeeper
  | aoiDomainsCompute
  | aoiDomainsKeeperPending
  | aoiDomainsComputePending
  /-- R337 KPR_BRINGUP_STATUS -/
  | kprBringupStatusStage
  | kprBringupStatusBusy
  | kprBringupStatusHalted
  | kprBringupStatusRun
  | kprBringupStatusReady
  | kprBringupStatusCode
  /-- R337 KPR_BRINGUP_CFG -/
  | kprBringupCfgDiscoveryMs
  /-- R337 KPR_STAGE_TIME -/
  | kprStageTimeTicks
  /-- R337 KPR_RESET_REQ -/
  | kprResetReqKeeper
  | kprResetReqCompute
  | kprResetReqPorts
  | kprResetReqKey
  /-- R338 FST_RESET -/
  | fstResetReset
  | fstResetKey
  /-- R338 FST_RESET_STATUS -/
  | fstResetStatusState
  | fstResetStatusResetPending
  /-- R338 LWD_LANE_UP -/
  | lwdLaneUpUp
  /-- R338 LWD_PORT_STATUS -/
  | lwdPortStatusRetrainLane
  | lwdPortStatusRetraining
  | lwdPortStatusPortUp
  | lwdPortStatusNoPeer
  | lwdPortStatusCountSat
  | lwdPortStatusState
  | lwdPortStatusResetPending
  /-- R338 LWD_LANE_RETRAINS -/
  | lwdLaneRetrainsRetrains
  /-- R338 LWD_LANE_WITHDRAWN -/
  | lwdLaneWithdrawnWithdrawn
  /-- R360 KPR_HANG_CTRL -/
  | kprHangCtrlAutoRecover
  | kprHangCtrlRecoveryLimit
  /-- R360 KPR_HANG_STATUS -/
  | kprHangStatusRecovery
  | kprHangStatusStalled
  | kprHangStatusRegTimeout
  | kprHangStatusMoltPartial
  | kprHangStatusMoltOverwrite
  | kprHangStatusRecoveryLoop
  | kprHangStatusCroakDrop
  | kprHangStatusCountSat
  /-- R360 KPR_STALL_LIMIT -/
  | kprStallLimitLimit
  /-- R360 KPR_MOLT_STATUS -/
  | kprMoltStatusLatest
  | kprMoltStatusValid
  | kprMoltStatusCopied
  | kprMoltStatusCopying
  | kprMoltStatusPaired
  /-- R360 KPR_RECOVERIES -/
  | kprRecoveriesCount
  /-- R360 KPR_CMD_TIMEOUTS -/
  | kprCmdTimeoutsCount
  /-- R360 KPR_DETACHED_DEPTH -/
  | kprDetachedDepthDepth
  /-- R360 KPR_RECOVER_REQ -/
  | kprRecoverReqRecover
  | kprRecoverReqKey
  /-- R361 TSN_STREAM -/
  | tsnStreamPosition
  /-- R361 TSN_STALL -/
  | tsnStallStalled
  /-- R361 TSN_WAIT -/
  | tsnWaitSemaphore
  | tsnWaitWait
  | tsnWaitPort
  | tsnWaitSemValid
  /-- R361 TSN_BUNDLE -/
  | tsnBundleBundle
  /-- R378 KPR_PROFILE -/
  | kprProfileProfile
  /-- R378 KPR_RUN_STATUS -/
  | kprRunStatusProfileMatch
  | kprRunStatusWeightsSet
  | kprRunStatusInputSet
  | kprRunStatusProgramChanged
  | kprRunStatusTimeDependent
  | kprRunStatusDigestBusy
  /-- R415 HPT_STATUS -/
  | hptStatusAttached
  | hptStatusAccessErr
  | hptStatusApertureStuck
  | hptStatusOverload
  | hptStatusOverloadSeen
  | hptStatusRingWait
  | hptStatusTakeoverSeen
  | hptStatusCountSat
  | hptStatusVersion
  /-- R415 HPT_AP -/
  | hptApHead
  | hptApExpectedSeq
  /-- R415 HPT_CREDITS -/
  | hptCreditsOutstanding
  | hptCreditsHigh
  /-- R415 HPT_RING_BASE -/
  | hptRingBaseBase
  /-- R415 HPT_RING_SIZE -/
  | hptRingSizeUnits
  /-- R415 HPT_RING_TAIL -/
  | hptRingTailTail
  /-- R415 HPT_RING_HEAD -/
  | hptRingHeadHead
  /-- R415 HPT_MSIX_CTRL -/
  | hptMsixCtrlEnable
  | hptMsixCtrlHoldoffUs
  /-- R415 HPT_BUSY -/
  | hptBusyCount
  /-- R415 HPT_REJECTED -/
  | hptRejectedCount
  /-- R450 AOI_WDOG -/
  | aoiWdogPeriod
  /-- R451 KPR_FW_CTRL -/
  | kprFwCtrlCommit
  /-- R451 KPR_FW_LENGTH -/
  | kprFwLengthLength
  /-- R451 KPR_FW_STATUS -/
  | kprFwStatusResult
  | kprFwStatusBusy
  | kprFwStatusActiveSlot
  | kprFwStatusInvalidSeen
  /-- R451 KPR_FW_REVISION -/
  | kprFwRevisionRevision
  /-- R451 KPR_EV_ROUTE -/
  | kprEvRouteCore
  /-- R451 KPR_CORE_STATUS -/
  | kprCoreStatusState
  | kprCoreStatusSafeSet
  | kprCoreStatusRestarts
  | kprCoreStatusLast
  | kprCoreStatusHaltSeen
  | kprCoreStatusQueue
  /-- R452 FST_EV_ROUTE -/
  | fstEvRouteRoute
  /-- R455 KPR_KS_PAGE -/
  | kprKsPagePage
  /-- R455 KPR_FR_PAGE -/
  | kprFrPagePage
  /-- R456 FST_TSN_CMD -/
  | fstTsnCmdColumn
  | fstTsnCmdRow
  | fstTsnCmdOffset
  | fstTsnCmdWrite
  | fstTsnCmdWide
  | fstTsnCmdGo
  | fstTsnCmdErr
  /-- R456 FST_TSN_DATA -/
  | fstTsnDataData
  /-- R458 BRM_ID -/
  | brmIdStepping
  | brmIdGeneration
  | brmIdIxfold
  | brmIdNdoquel
  | brmIdFeedId
  /-- R460 KPR_GRADE -/
  | kprGradeGrade
  | kprGradeClockMaxMhz
  | kprGradeCapMax10w
  /-- R460 KPR_TILE_CFG -/
  | kprTileCfgClockMhz
  | kprTileCfgCap10w
  /-- R462 KPR_STATUS -/
  | kprStatusReady
  | kprStatusLaunched
  | kprStatusRecovering
  | kprStatusHold
  | kprStatusTripped
  | kprStatusDegraded
  | kprStatusAttention
  /-- R462 KPR_ATTN_FIELDS -/
  | kprAttnFieldsFields
  /-- R462 KPR_ATTN_OTHER -/
  | kprAttnOtherAoi
  | kprAttnOtherKeeper
  | kprAttnOtherHostPort
  | kprAttnOtherWardens
  /-- R463 KPR_ALLOWANCE -/
  | kprAllowanceSet
  | kprAllowanceInForce
  | kprAllowanceRotating
  /-- R463 KPR_SHARES -/
  | kprSharesScrub
  | kprSharesReplay
  /-- R464 KPR_SCREEN_POWER -/
  | kprScreenPowerTaps
  | kprScreenPowerRsf
  | kprScreenPowerReplay
  | kprScreenPowerSelfTest
  /-- R464 KPR_SCREEN_POWER2 -/
  | kprScreenPower2Scrub
  | kprScreenPower2Total
  /-- R465 KPR_HAZARD -/
  | kprHazardH
  | kprHazardHzSecure
  | kprHazardHzCroak
  | kprHazardPeak
  /-- R465 KPR_HAZARD_TERMS -/
  | kprHazardTermsCe
  | kprHazardTermsDroop
  | kprHazardTermsRise
  | kprHazardTermsDetect
  | kprHazardTermsPartner
  /-- R467 KPR_ESCAPE -/
  | kprEscapeEstimate
  | kprEscapeAboveGoal
  | kprEscapeAboveSeen
  /-- R467 KPR_ESCAPE_TIME -/
  | kprEscapeTimeComputeMs
  /-- R467 KPR_ESCAPE_CFG -/
  | kprEscapeCfgATap
  | kprEscapeCfgARep
  | kprEscapeCfgAScr
  /-- R467 KPR_ESCAPE_PRIOR -/
  | kprEscapePriorLambda0
  /-- R96 FST_TAP_RECORDS -/
  | fstTapRecordsCount
  /-- R96 FST_TAP_LAST -/
  | fstTapLastRecord
  /-- R67 KPR_LEDGER_DISPUTED -/
  | kprLedgerDisputedFields
  /-- R67 KPR_LEDGER_SHORT -/
  | kprLedgerShortFields
  /-- R132 KPR_EP_NEXT -/
  | kprEpNextNext
  /-- R131 FST_EP_MATCH -/
  | fstEpMatchCount
  /-- R131 FST_EP_MISMATCH -/
  | fstEpMismatchCount
  /-- R131 FST_EP_INCONCLUSIVE -/
  | fstEpInconclusiveCount
  /-- R131 FST_EP_ABANDONED -/
  | fstEpAbandonedCount
  /-- R131 FST_EP_LAPSED -/
  | fstEpLapsedCount
  /-- R131 FST_EP_NOSPARE -/
  | fstEpNospareCount
  /-- R131 FST_EP_RANDOM -/
  | fstEpRandomCount
  /-- R131 FST_EP_FLAGS -/
  | fstEpFlagsSat
  /-- R131 FST_EP_LAST -/
  | fstEpLastRecord
  /-- R165 LWD_CHORUS_PASS -/
  | lwdChorusPassCount
  /-- R165 LWD_CHORUS_FAIL -/
  | lwdChorusFailCount
  /-- R165 LWD_CHORUS_INCOMPLETE -/
  | lwdChorusIncompleteCount
  /-- R165 LWD_CHORUS_TAG -/
  | lwdChorusTagCount
  /-- R165 LWD_CHORUS_ABANDONED -/
  | lwdChorusAbandonedCount
  /-- R165 LWD_ANN_DISCARD -/
  | lwdAnnDiscardCount
  /-- R165 LWD_CHUNKS_UNCHECKED -/
  | lwdChunksUncheckedCount
  /-- R165 LWD_DIG_FLAGS -/
  | lwdDigFlagsSat
  /-- R165 LWD_CHORUS_LAST -/
  | lwdChorusLastRecord
  /-- R190 FST_ST_LAST -/
  | fstStLastRecord
  /-- R224 FST_REGROW_LAST -/
  | fstRegrowLastRecord
  /-- R258 KPR_SEC_LAST -/
  | kprSecLastRecord
  /-- R360 KPR_HANG_LAST -/
  | kprHangLastRecord
  /-- R378 KPR_PROGRAM_DIGEST -/
  | kprProgramDigestDigest
  /-- R378 KPR_RUN_DIGEST -/
  | kprRunDigestDigest
  /-- R378 KPR_RUN_RECORD -/
  | kprRunRecordRecord
  /-- R456 FST_ID -/
  | fstIdField
  | fstIdDropped
  /-- R461 KPR_ENGINE -/
  | kprEngineEngine
  | kprEngineValid
  /-- R452 FST_CORE_STATUS -/
  | fstCoreStatusState
  | fstCoreStatusSafeSet
  | fstCoreStatusRestarts
  | fstCoreStatusLast
  | fstCoreStatusHaltSeen
  | fstCoreStatusQueue
deriving DecidableEq, Repr

/-- Place, width, access and reset value of a field, as its rule lays it out. -/
def RF.spec : RF → RegSpec
  | .kprLedgerStatusUsed => ⟨.keeper, 0x10400, 0, 1, 0, 16, .ro, 0⟩
  | .kprLedgerStatusFull => ⟨.keeper, 0x10400, 0, 1, 16, 1, .ro, 0⟩
  | .kprLedgerStatusOverflow => ⟨.keeper, 0x10400, 0, 1, 17, 1, .ros, 0⟩
  | .kprLedgerStatusRebuilt => ⟨.keeper, 0x10400, 0, 1, 18, 1, .ros, 0⟩
  | .kprLedgerStatusFuseRevNew => ⟨.keeper, 0x10400, 0, 1, 19, 1, .ros, 0⟩
  | .kprLedgerStatusFuseRev => ⟨.keeper, 0x10400, 0, 1, 20, 4, .ro, 0⟩
  | .kprLedgerStatusFlashPending => ⟨.keeper, 0x10400, 0, 1, 24, 1, .ro, 0⟩
  | .fstReconcileFuseBadPass => ⟨.station, 0x200, 0, 1, 0, 10, .ro, 0⟩
  | .fstReconcileFuseGoodFail => ⟨.station, 0x200, 0, 1, 16, 10, .ro, 0⟩
  | .fstReconcileDisputed => ⟨.station, 0x200, 0, 1, 26, 1, .ro, 0⟩
  | .fstReconcileShort => ⟨.station, 0x200, 0, 1, 27, 1, .ro, 0⟩
  | .tsnTapCtrlExclude => ⟨.sentinel, 0x40, 0, 1, 0, 1, .rw, 0⟩
  | .tsnTapCtrlInject => ⟨.sentinel, 0x40, 0, 1, 1, 1, .rw1s, 0⟩
  | .tsnTapCtrlState => ⟨.sentinel, 0x40, 0, 1, 2, 2, .ro, 0⟩
  | .tsnTapCtrlEnablePending => ⟨.sentinel, 0x40, 0, 1, 4, 1, .ro, 0⟩
  | .tsnTapCtrlDisablePending => ⟨.sentinel, 0x40, 0, 1, 5, 1, .ro, 0⟩
  | .tsnTapCtrlInjectEscape => ⟨.sentinel, 0x40, 0, 1, 6, 1, .ros, 0⟩
  | .tsnTapCtrlMismatchSat => ⟨.sentinel, 0x40, 0, 1, 7, 1, .ros, 0⟩
  | .tsnTapCtrlUncheckedSat => ⟨.sentinel, 0x40, 0, 1, 8, 1, .ros, 0⟩
  | .tsnTapBlocksBlocks => ⟨.sentinel, 0x48, 0, 1, 0, 64, .ro, 0⟩
  | .tsnTapMismatchesMismatches => ⟨.sentinel, 0x50, 0, 1, 0, 32, .ro, 0⟩
  | .tsnTapUncheckedUnchecked => ⟨.sentinel, 0x54, 0, 1, 0, 32, .ro, 0⟩
  | .fstTapCtrlEnable => ⟨.station, 0x300, 0, 1, 0, 1, .rw, 1⟩
  | .fstTapCtrlState => ⟨.station, 0x300, 0, 1, 1, 2, .ro, 0⟩
  | .fstTapCtrlEnablePending => ⟨.station, 0x300, 0, 1, 3, 1, .ro, 0⟩
  | .fstTapCtrlRotPeriod => ⟨.station, 0x300, 0, 1, 16, 16, .rw, 1000⟩
  | .fstTapStatusEnabled => ⟨.station, 0x304, 0, 1, 0, 14, .ro, 0⟩
  | .fstTapStatusWindowStart => ⟨.station, 0x304, 0, 1, 14, 14, .ro, 0⟩
  | .fstTapBlocksBlocks => ⟨.station, 0x308, 0, 1, 0, 64, .ro, 0⟩
  | .fstTapFlagsRecordCrc => ⟨.station, 0x314, 0, 1, 0, 1, .ros, 0⟩
  | .fstTapFlagsRecordSat => ⟨.station, 0x314, 0, 1, 1, 1, .ros, 0⟩
  | .kprTapSeedSeed => ⟨.keeper, 0x10500, 0, 1, 0, 61, .rw, 0⟩
  | .kprTapCoverOn => ⟨.keeper, 0x10508, 0, 1, 0, 19, .ro, 0⟩
  | .kprTapCoverFraction => ⟨.keeper, 0x10508, 0, 1, 19, 13, .ro, 0⟩
  | .kprTapSeedActiveSeed => ⟨.keeper, 0x10510, 0, 1, 0, 61, .ro, 0⟩
  | .tsnExposureExposure => ⟨.sentinel, 0x60, 0, 1, 0, 64, .ro, 0⟩
  | .tsnExposureCheckedChecked => ⟨.sentinel, 0x68, 0, 1, 0, 64, .ro, 0⟩
  | .tsnEpCtrlArmed => ⟨.sentinel, 0x70, 0, 1, 0, 1, .ro, 0⟩
  | .tsnEpCtrlGo => ⟨.sentinel, 0x70, 0, 1, 1, 1, .ro, 0⟩
  | .tsnEpCtrlCapturing => ⟨.sentinel, 0x70, 0, 1, 2, 1, .ro, 0⟩
  | .tsnEpCtrlArm => ⟨.sentinel, 0x70, 0, 1, 3, 1, .rw1s, 0⟩
  | .tsnEpCtrlOverflowSeen => ⟨.sentinel, 0x70, 0, 1, 4, 1, .ros, 0⟩
  | .fstEpCtrlEnable => ⟨.station, 0x400, 0, 1, 0, 1, .rw, 1⟩
  | .fstEpCtrlState => ⟨.station, 0x400, 0, 1, 1, 2, .ro, 0⟩
  | .fstEpCtrlEnablePending => ⟨.station, 0x400, 0, 1, 3, 1, .ro, 0⟩
  | .fstEpCtrlMaxInflight => ⟨.station, 0x400, 0, 1, 4, 3, .rw, 6⟩
  | .fstEpCtrlQuotaLog2 => ⟨.station, 0x400, 0, 1, 8, 6, .rw, 30⟩
  | .fstEpCtrlWindow => ⟨.station, 0x400, 0, 1, 16, 13, .rw, 2048⟩
  | .fstEpRateRate => ⟨.station, 0x404, 0, 1, 0, 10, .rw, 512⟩
  | .fstEpRateGoWait => ⟨.station, 0x404, 0, 1, 16, 16, .rw, 2000⟩
  | .fstEpStatusInflight => ⟨.station, 0x408, 0, 1, 0, 3, .ro, 0⟩
  | .fstEpStatusArmed => ⟨.station, 0x408, 0, 1, 4, 14, .ro, 0⟩
  | .kprDigSeedSeed => ⟨.keeper, 0x10700, 0, 1, 0, 61, .rw, 0⟩
  | .kprDigSeedActiveDseed => ⟨.keeper, 0x10708, 0, 1, 0, 61, .ro, 0⟩
  | .kprDigKeyLoaded => ⟨.keeper, 0x10710, 0, 1, 0, 1, .ro, 0⟩
  | .kprDigKeyTagEnable => ⟨.keeper, 0x10710, 0, 1, 1, 1, .rw, 0⟩
  | .kprDigKeyTagsActive => ⟨.keeper, 0x10710, 0, 1, 2, 1, .ro, 0⟩
  | .kprDigKeyZeroisePending => ⟨.keeper, 0x10710, 0, 1, 3, 1, .ro, 0⟩
  | .lwdDigCtrlEnable => ⟨.warden, 0x100, 0, 1, 0, 1, .rw, 1⟩
  | .lwdDigCtrlState => ⟨.warden, 0x100, 0, 1, 1, 2, .ro, 0⟩
  | .lwdDigCtrlEnablePending => ⟨.warden, 0x100, 0, 1, 3, 1, .ro, 0⟩
  | .lwdDigCtrlDeadlineMs => ⟨.warden, 0x100, 0, 1, 6, 10, .rw, 100⟩
  | .lwdDigCtrlRollcallMs => ⟨.warden, 0x100, 0, 1, 16, 10, .rw, 200⟩
  | .lwdDigStatusOpen => ⟨.warden, 0x104, 0, 1, 0, 9, .ro, 0⟩
  | .lwdDigStatusRollcall => ⟨.warden, 0x104, 0, 1, 9, 1, .ro, 0⟩
  | .lwdDigStatusBackpressure => ⟨.warden, 0x104, 0, 1, 10, 1, .ro, 0⟩
  | .fstScrubCtrlEnable => ⟨.station, 0x500, 0, 1, 0, 1, .rw, 1⟩
  | .fstScrubCtrlState => ⟨.station, 0x500, 0, 1, 1, 2, .ro, 0⟩
  | .fstScrubCtrlEnablePending => ⟨.station, 0x500, 0, 1, 3, 1, .ro, 0⟩
  | .fstScrubCtrlPeriodS => ⟨.station, 0x500, 0, 1, 16, 16, .rw, 60⟩
  | .fstScrubStatusActive => ⟨.station, 0x504, 0, 1, 0, 14, .ro, 0⟩
  | .fstScrubStatusScrubLate => ⟨.station, 0x504, 0, 1, 14, 1, .ros, 0⟩
  | .fstScrubStatusRecordCrc => ⟨.station, 0x504, 0, 1, 15, 1, .ros, 0⟩
  | .fstScrubStatusCountSat => ⟨.station, 0x504, 0, 1, 16, 1, .ros, 0⟩
  | .fstScrubPassesPasses => ⟨.station, 0x508, 0, 1, 0, 32, .ro, 0⟩
  | .fstScrubMismatchMismatches => ⟨.station, 0x50c, 0, 1, 0, 32, .ro, 0⟩
  | .tsnRdtBaseBase => ⟨.sentinel, 0x80, 0, 1, 0, 17, .rw, 0⟩
  | .tsnRdtBaseValid => ⟨.sentinel, 0x80, 0, 1, 31, 1, .rw, 0⟩
  | .tsnScrubLastWtcWtc => ⟨.sentinel, 0x88, 0, 1, 0, 64, .ro, 0⟩
  | .tsnStCtrlRun => ⟨.sentinel, 0xa0, 0, 1, 0, 1, .rw1s, 0⟩
  | .tsnStCtrlMode => ⟨.sentinel, 0xa0, 0, 1, 1, 2, .rw, 0⟩
  | .tsnStCtrlState => ⟨.sentinel, 0xa0, 0, 1, 3, 3, .ro, 0⟩
  | .tsnStCtrlFailed => ⟨.sentinel, 0xa0, 0, 1, 6, 1, .ros, 0⟩
  | .tsnStCtrlBankFail => ⟨.sentinel, 0xa0, 0, 1, 8, 12, .ro, 0⟩
  | .tsnStSlicesSliceFail => ⟨.sentinel, 0xa4, 0, 1, 0, 32, .ro, 0⟩
  | .tsnTwBaseBase => ⟨.sentinel, 0xa8, 0, 1, 0, 17, .rw, 0⟩
  | .tsnTwBaseValid => ⟨.sentinel, 0xa8, 0, 1, 31, 1, .rw, 0⟩
  | .tsnStMisrMisr => ⟨.sentinel, 0xb0, 0, 1, 0, 64, .ro, 0⟩
  | .fstStCtrlEnable => ⟨.station, 0x600, 0, 1, 0, 1, .rw, 1⟩
  | .fstStCtrlState => ⟨.station, 0x600, 0, 1, 1, 2, .ro, 0⟩
  | .fstStCtrlEnablePending => ⟨.station, 0x600, 0, 1, 3, 1, .ro, 0⟩
  | .fstStCtrlPackPerVisit => ⟨.station, 0x600, 0, 1, 4, 4, .rw, 2⟩
  | .fstStCtrlPeriodH => ⟨.station, 0x600, 0, 1, 8, 8, .rw, 6⟩
  | .fstStCtrlCeLimit => ⟨.station, 0x600, 0, 1, 16, 4, .rw, 8⟩
  | .fstStStatusUnderTest => ⟨.station, 0x604, 0, 1, 0, 14, .ro, 0⟩
  | .fstStStatusVisitLate => ⟨.station, 0x604, 0, 1, 14, 1, .ros, 0⟩
  | .fstStStatusRecordCrc => ⟨.station, 0x604, 0, 1, 15, 1, .ros, 0⟩
  | .fstStStatusCountSat => ⟨.station, 0x604, 0, 1, 16, 1, .ros, 0⟩
  | .fstStStatusOldestH => ⟨.station, 0x604, 0, 1, 24, 8, .ro, 0⟩
  | .fstStVisitsVisits => ⟨.station, 0x608, 0, 1, 0, 32, .ro, 0⟩
  | .fstStFailsFails => ⟨.station, 0x60c, 0, 1, 0, 32, .ro, 0⟩
  | .fstStAbortsAborts => ⟨.station, 0x610, 0, 1, 0, 32, .ro, 0⟩
  | .kprStCtrlShare => ⟨.keeper, 0x10800, 0, 1, 0, 8, .rw, 30⟩
  | .kprStCtrlStartup => ⟨.keeper, 0x10800, 0, 1, 8, 12, .rw, 600⟩
  | .kprScanEntryEntry => ⟨.keeper, 0x10804, 0, 1, 0, 32, .wo, 0⟩
  | .kprStStatusScanned => ⟨.keeper, 0x10808, 0, 1, 0, 1, .ros, 0⟩
  | .kprStStatusEntryErr => ⟨.keeper, 0x10808, 0, 1, 1, 1, .ros, 0⟩
  | .kprStStatusScanTarget => ⟨.keeper, 0x10808, 0, 1, 2, 17, .ro, 0⟩
  | .kprStCountUnderTest => ⟨.keeper, 0x10810, 0, 1, 0, 19, .ro, 0⟩
  | .kprStCountLimit => ⟨.keeper, 0x10810, 0, 1, 32, 19, .ro, 0⟩
  | .kprPackStatusActive => ⟨.keeper, 0x10818, 0, 1, 0, 16, .ro, 0⟩
  | .kprPackStatusInvalidSeen => ⟨.keeper, 0x10818, 0, 1, 16, 1, .ros, 0⟩
  | .fstRegrowStatusEngine0 => ⟨.station, 0x700, 0, 1, 0, 3, .ro, 0⟩
  | .fstRegrowStatusEngine1 => ⟨.station, 0x700, 0, 1, 3, 3, .ro, 0⟩
  | .fstRegrowStatusQueued => ⟨.station, 0x700, 0, 1, 6, 4, .ro, 0⟩
  | .fstRegrowStatusFreeSpares => ⟨.station, 0x700, 0, 1, 10, 9, .ro, 0⟩
  | .fstRegrowStatusEntries => ⟨.station, 0x700, 0, 1, 19, 10, .ro, 0⟩
  | .fstRegrowDoneDone => ⟨.station, 0x704, 0, 1, 0, 32, .ro, 0⟩
  | .fstRegrowEscalatedEscalated => ⟨.station, 0x708, 0, 1, 0, 32, .ro, 0⟩
  | .fstRegrowFlagsDoneSat => ⟨.station, 0x70c, 0, 1, 0, 1, .ros, 0⟩
  | .fstRegrowFlagsEscSat => ⟨.station, 0x70c, 0, 1, 1, 1, .ros, 0⟩
  | .kprRegrowCtrlInPlace => ⟨.keeper, 0x10900, 0, 1, 0, 1, .rw, 1⟩
  | .kprRegrowCtrlRefuseWaitMs => ⟨.keeper, 0x10900, 0, 1, 4, 8, .rw, 10⟩
  | .kprRegrowCtrlDrainUs => ⟨.keeper, 0x10900, 0, 1, 16, 10, .rw, 50⟩
  | .kprEpochCurrent => ⟨.keeper, 0x10904, 0, 1, 0, 2, .ro, 0⟩
  | .kprEpochDraining => ⟨.keeper, 0x10904, 0, 1, 2, 1, .ro, 0⟩
  | .kprEpochPending => ⟨.keeper, 0x10904, 0, 1, 3, 1, .ro, 0⟩
  | .kprEpochDiscardSat => ⟨.keeper, 0x10904, 0, 1, 4, 1, .ros, 0⟩
  | .kprEpochProgramPending => ⟨.keeper, 0x10904, 0, 1, 5, 1, .ro, 0⟩
  | .kprDrainDiscardsDiscards => ⟨.keeper, 0x10908, 0, 1, 0, 32, .ro, 0⟩
  | .kprFieldsDroppedDropped => ⟨.keeper, 0x1090c, 0, 1, 0, 32, .ro, 0⟩
  | .kprRstCtrlValid => ⟨.keeper, 0x10910, 0, 1, 0, 1, .rw, 0⟩
  | .kprRstCtrlFormatErr => ⟨.keeper, 0x10910, 0, 1, 1, 1, .ros, 0⟩
  | .kprSecCtrlEnable => ⟨.keeper, 0x10a00, 0, 1, 0, 1, .rw, 1⟩
  | .kprSecCtrlState => ⟨.keeper, 0x10a00, 0, 1, 1, 2, .ro, 0⟩
  | .kprSecCtrlEnablePending => ⟨.keeper, 0x10a00, 0, 1, 3, 1, .ro, 0⟩
  | .kprSecCtrlMapValid => ⟨.keeper, 0x10a00, 0, 1, 4, 1, .rw, 0⟩
  | .kprSecCtrlPartnerEn => ⟨.keeper, 0x10a00, 0, 1, 5, 1, .rw, 1⟩
  | .kprSecCtrlFlashEn => ⟨.keeper, 0x10a00, 0, 1, 6, 1, .rw, 1⟩
  | .kprSecCtrlStoreEn => ⟨.keeper, 0x10a00, 0, 1, 7, 1, .rw, 0⟩
  | .kprSecCtrlForceCofed => ⟨.keeper, 0x10a00, 0, 1, 8, 1, .rw, 0⟩
  | .kprSecCtrlFlashOnHazard => ⟨.keeper, 0x10a00, 0, 1, 9, 1, .rw, 1⟩
  | .kprSecCtrlSolo => ⟨.keeper, 0x10a00, 0, 1, 10, 1, .rw, 0⟩
  | .kprSecCtrlKMax => ⟨.keeper, 0x10a00, 0, 1, 16, 16, .rw, 50⟩
  | .kprSecCfgLinkShare => ⟨.keeper, 0x10a04, 0, 1, 0, 5, .rw, 25⟩
  | .kprSecCfgFlashEvery => ⟨.keeper, 0x10a04, 0, 1, 8, 4, .rw, 1⟩
  | .kprSecCfgStoreEvery => ⟨.keeper, 0x10a04, 0, 1, 12, 4, .rw, 4⟩
  | .kprSecCfgFlashGensM1 => ⟨.keeper, 0x10a04, 0, 1, 16, 2, .rw, 2⟩
  | .kprSecCfgStoreGensM1 => ⟨.keeper, 0x10a04, 0, 1, 18, 2, .rw, 1⟩
  | .kprSecCfgHoldLostS => ⟨.keeper, 0x10a04, 0, 1, 20, 12, .rw, 600⟩
  | .kprSecStatusPhase => ⟨.keeper, 0x10a08, 0, 1, 0, 3, .ro, 0⟩
  | .kprSecStatusCofed => ⟨.keeper, 0x10a08, 0, 1, 3, 1, .ro, 0⟩
  | .kprSecStatusNoPartner => ⟨.keeper, 0x10a08, 0, 1, 4, 1, .ro, 0⟩
  | .kprSecStatusDrivesOk => ⟨.keeper, 0x10a08, 0, 1, 5, 16, .ro, 0⟩
  | .kprSecStatusFloorMissed => ⟨.keeper, 0x10a08, 0, 1, 21, 1, .ros, 0⟩
  | .kprSecStatusFallbackSeen => ⟨.keeper, 0x10a08, 0, 1, 22, 1, .ros, 0⟩
  | .kprSecStatusCountSat => ⟨.keeper, 0x10a08, 0, 1, 23, 1, .ros, 0⟩
  | .kprSecStatusMapInvalid => ⟨.keeper, 0x10a08, 0, 1, 24, 1, .ros, 0⟩
  | .kprSecStepStep => ⟨.keeper, 0x10a10, 0, 1, 0, 64, .ro, 0⟩
  | .kprSecPairHolder => ⟨.keeper, 0x10a18, 0, 1, 0, 15, .ro, 0⟩
  | .kprSecPairHolderValid => ⟨.keeper, 0x10a18, 0, 1, 15, 1, .ro, 0⟩
  | .kprSecPairClient => ⟨.keeper, 0x10a18, 0, 1, 16, 15, .ro, 0⟩
  | .kprSecPairClientValid => ⟨.keeper, 0x10a18, 0, 1, 31, 1, .ro, 0⟩
  | .kprSecStoreBaseBase => ⟨.keeper, 0x10a20, 0, 1, 0, 64, .rw, 0⟩
  | .kprSecStoreSizeSize => ⟨.keeper, 0x10a28, 0, 1, 0, 64, .rw, 0⟩
  | .kprSecStoreRateRate => ⟨.keeper, 0x10a30, 0, 1, 0, 16, .rw, 50⟩
  | .kprSecSecuringsCount => ⟨.keeper, 0x10a40, 0, 1, 0, 32, .ro, 0⟩
  | .kprSecSkippedCount => ⟨.keeper, 0x10a44, 0, 1, 0, 32, .ro, 0⟩
  | .kprSecVoidedCount => ⟨.keeper, 0x10a48, 0, 1, 0, 32, .ro, 0⟩
  | .kprSecFallbacksCount => ⟨.keeper, 0x10a4c, 0, 1, 0, 32, .ro, 0⟩
  | .kprSecRollbacksCount => ⟨.keeper, 0x10a50, 0, 1, 0, 32, .ro, 0⟩
  | .fstEvtStatusDepth => ⟨.station, 0x800, 0, 1, 0, 10, .ro, 0⟩
  | .fstEvtStatusSliceFull => ⟨.station, 0x800, 0, 1, 10, 1, .ros, 0⟩
  | .aoiTickTick => ⟨.aoi, 0x100, 0, 1, 0, 48, .ro, 0⟩
  | .aoiTickWraps => ⟨.aoi, 0x100, 0, 1, 48, 16, .ro, 0⟩
  | .aoiTimeStatusAnchorLost => ⟨.aoi, 0x108, 0, 1, 0, 1, .ros, 0⟩
  | .aoiTimeStatusAnchorPending => ⟨.aoi, 0x108, 0, 1, 1, 1, .ro, 0⟩
  | .kprWtcWtc => ⟨.keeper, 0x11000, 0, 1, 0, 64, .ro, 0⟩
  | .kprWtcCtrlRoot => ⟨.keeper, 0x11008, 0, 1, 0, 1, .rw, 0⟩
  | .kprWtcStatusSynced => ⟨.keeper, 0x1100c, 0, 1, 0, 1, .ro, 0⟩
  | .kprWtcStatusUnsyncSeen => ⟨.keeper, 0x1100c, 0, 1, 1, 1, .ros, 0⟩
  | .kprWtcStatusHops => ⟨.keeper, 0x1100c, 0, 1, 2, 4, .ro, 15⟩
  | .kprWtcStatusParent => ⟨.keeper, 0x1100c, 0, 1, 6, 4, .ro, 0⟩
  | .kprWtcStatusError => ⟨.keeper, 0x1100c, 0, 1, 16, 16, .ro, 0⟩
  | .kprLaunchWtcWtcGo => ⟨.keeper, 0x11010, 0, 1, 0, 64, .ro, 0⟩
  | .semCountCount => ⟨.sem, 0x40000, 8, 4096, 0, 32, .ro, 0⟩
  | .semFlagsAddSat => ⟨.sem, 0x40004, 8, 4096, 0, 1, .ros, 0⟩
  | .semFlagsSubSat => ⟨.sem, 0x40004, 8, 4096, 1, 1, .ros, 0⟩
  | .semFlagsWaiting => ⟨.sem, 0x40004, 8, 4096, 2, 1, .ro, 0⟩
  | .semFlagsParked => ⟨.sem, 0x40004, 8, 4096, 3, 1, .ro, 0⟩
  | .semFlagsPoison => ⟨.sem, 0x40004, 8, 4096, 4, 1, .ro, 0⟩
  | .kprParkCtrlParkMs => ⟨.keeper, 0x11100, 0, 1, 0, 16, .rw, 10⟩
  | .kprParkStatusUsed => ⟨.keeper, 0x11104, 0, 1, 0, 9, .ro, 0⟩
  | .kprParkStatusHigh => ⟨.keeper, 0x11104, 0, 1, 9, 9, .ro, 0⟩
  | .kprParkStatusFullSeen => ⟨.keeper, 0x11104, 0, 1, 18, 1, .ros, 0⟩
  | .kprParkStatusParkTimeoutSeen => ⟨.keeper, 0x11104, 0, 1, 19, 1, .ros, 0⟩
  | .kprParkStatusCountSat => ⟨.keeper, 0x11104, 0, 1, 20, 1, .ros, 0⟩
  | .kprParkDiscardsDiscards => ⟨.keeper, 0x11108, 0, 1, 0, 32, .ro, 0⟩
  | .lwdParkStatusBackpressure => ⟨.warden, 0x200, 0, 1, 0, 1, .ro, 0⟩
  | .lwdParkStatusDiscardSat => ⟨.warden, 0x200, 0, 1, 1, 1, .ros, 0⟩
  | .lwdParkDiscardDiscards => ⟨.warden, 0x204, 0, 1, 0, 32, .ro, 0⟩
  | .lwdLandedSelEngine => ⟨.warden, 0x208, 0, 1, 0, 15, .rw, 0⟩
  | .lwdLandedLanded => ⟨.warden, 0x20c, 0, 1, 0, 32, .ro, 0⟩
  | .lwdSentSent => ⟨.warden, 0x210, 0, 1, 0, 32, .ro, 0⟩
  | .fstMonStatusThermalIn => ⟨.station, 0x900, 0, 1, 0, 6, .ro, 36⟩
  | .fstMonStatusDroopIn => ⟨.station, 0x900, 0, 1, 6, 4, .ro, 8⟩
  | .fstMonStatusRoIn => ⟨.station, 0x900, 0, 1, 10, 3, .ro, 4⟩
  | .fstMonStatusBlind => ⟨.station, 0x900, 0, 1, 13, 1, .ro, 0⟩
  | .fstMonStatusDroopDeepSeen => ⟨.station, 0x900, 0, 1, 14, 1, .ros, 0⟩
  | .fstMonStatusCountSat => ⟨.station, 0x900, 0, 1, 15, 1, .ros, 0⟩
  | .fstMonStatusSlowdown => ⟨.station, 0x900, 0, 1, 16, 16, .ro, 0⟩
  | .fstMonMaxMaxTemp => ⟨.station, 0x904, 0, 1, 0, 11, .ro, 0⟩
  | .fstMonMaxMaxSensor => ⟨.station, 0x904, 0, 1, 16, 6, .ro, 0⟩
  | .fstDroopEventsEvents => ⟨.station, 0x908, 0, 1, 0, 32, .ro, 0⟩
  | .fstDroopDeepEvents => ⟨.station, 0x90c, 0, 1, 0, 32, .ro, 0⟩
  | .fstRoRatioRatio => ⟨.station, 0x920, 4, 4, 0, 16, .ro, 0⟩
  | .fstRoRatioInService => ⟨.station, 0x920, 4, 4, 31, 1, .ro, 1⟩
  | .fstTempReading => ⟨.station, 0x940, 4, 36, 0, 11, .ro, 0⟩
  | .fstTempRate => ⟨.station, 0x940, 4, 36, 16, 12, .ro, 0⟩
  | .fstTempInService => ⟨.station, 0x940, 4, 36, 31, 1, .ro, 1⟩
  | .kprMonCtrlRiseTrip => ⟨.keeper, 0x11200, 0, 1, 0, 8, .rw, 8⟩
  | .kprMonCtrlRiseResume => ⟨.keeper, 0x11200, 0, 1, 8, 8, .rw, 2⟩
  | .kprMonCtrlHoldMaxMs => ⟨.keeper, 0x11200, 0, 1, 16, 10, .rw, 500⟩
  | .kprMonStatusHold => ⟨.keeper, 0x11204, 0, 1, 0, 1, .ro, 0⟩
  | .kprMonStatusTripped => ⟨.keeper, 0x11204, 0, 1, 1, 1, .ro, 0⟩
  | .kprMonStatusHoldSeen => ⟨.keeper, 0x11204, 0, 1, 2, 1, .ros, 0⟩
  | .kprMonStatusTripSeen => ⟨.keeper, 0x11204, 0, 1, 3, 1, .ros, 0⟩
  | .kprMonStatusFlashWindow => ⟨.keeper, 0x11204, 0, 1, 4, 1, .ro, 0⟩
  | .kprMonStatusFuseWindow => ⟨.keeper, 0x11204, 0, 1, 5, 1, .ro, 0⟩
  | .kprMonStatusOverCap => ⟨.keeper, 0x11204, 0, 1, 6, 1, .ros, 0⟩
  | .kprMonStatusOscDrift => ⟨.keeper, 0x11204, 0, 1, 7, 1, .ros, 0⟩
  | .kprMonStatusMaxTemp => ⟨.keeper, 0x11204, 0, 1, 8, 11, .ro, 0⟩
  | .kprMonStatusMaxField => ⟨.keeper, 0x11204, 0, 1, 19, 5, .ro, 0⟩
  | .aoiTempReading => ⟨.aoi, 0x200, 0, 1, 0, 11, .ro, 0⟩
  | .aoiTempAoiSensorBad => ⟨.aoi, 0x200, 0, 1, 11, 1, .ros, 0⟩
  | .aoiTempTrim => ⟨.aoi, 0x200, 0, 1, 16, 4, .ro, 0⟩
  | .aoiResetCauseAoiPower => ⟨.aoi, 0x300, 0, 1, 0, 1, .w1c, 1⟩
  | .aoiResetCausePowerGood => ⟨.aoi, 0x300, 0, 1, 1, 1, .w1c, 0⟩
  | .aoiResetCauseKeeperHost => ⟨.aoi, 0x300, 0, 1, 2, 1, .w1c, 0⟩
  | .aoiResetCauseKeeperWatchdog => ⟨.aoi, 0x300, 0, 1, 3, 1, .w1c, 0⟩
  | .aoiResetCauseKeeperStage => ⟨.aoi, 0x300, 0, 1, 4, 1, .w1c, 0⟩
  | .aoiResetCauseComputeHost => ⟨.aoi, 0x300, 0, 1, 5, 1, .w1c, 0⟩
  | .aoiResetCauseComputeRecovery => ⟨.aoi, 0x300, 0, 1, 6, 1, .w1c, 0⟩
  | .aoiResetCauseComputeTrip => ⟨.aoi, 0x300, 0, 1, 7, 1, .w1c, 0⟩
  | .aoiResetCauseStation => ⟨.aoi, 0x300, 0, 1, 8, 1, .w1c, 0⟩
  | .aoiResetCausePort => ⟨.aoi, 0x300, 0, 1, 9, 1, .w1c, 0⟩
  | .aoiDomainsKeeper => ⟨.aoi, 0x310, 0, 1, 0, 2, .ro, 2⟩
  | .aoiDomainsCompute => ⟨.aoi, 0x310, 0, 1, 2, 2, .ro, 2⟩
  | .aoiDomainsKeeperPending => ⟨.aoi, 0x310, 0, 1, 4, 1, .ro, 0⟩
  | .aoiDomainsComputePending => ⟨.aoi, 0x310, 0, 1, 5, 1, .ro, 0⟩
  | .kprBringupStatusStage => ⟨.keeper, 0x11300, 0, 1, 0, 4, .ro, 0⟩
  | .kprBringupStatusBusy => ⟨.keeper, 0x11300, 0, 1, 4, 1, .ro, 0⟩
  | .kprBringupStatusHalted => ⟨.keeper, 0x11300, 0, 1, 5, 1, .ro, 0⟩
  | .kprBringupStatusRun => ⟨.keeper, 0x11300, 0, 1, 6, 2, .ro, 0⟩
  | .kprBringupStatusReady => ⟨.keeper, 0x11300, 0, 1, 8, 1, .ro, 0⟩
  | .kprBringupStatusCode => ⟨.keeper, 0x11300, 0, 1, 16, 16, .ro, 0⟩
  | .kprBringupCfgDiscoveryMs => ⟨.keeper, 0x11304, 0, 1, 0, 12, .rw, 1860⟩
  | .kprStageTimeTicks => ⟨.keeper, 0x11320, 4, 8, 0, 32, .ro, 0⟩
  | .kprResetReqKeeper => ⟨.keeper, 0x11340, 0, 1, 0, 1, .wo, 0⟩
  | .kprResetReqCompute => ⟨.keeper, 0x11340, 0, 1, 1, 1, .wo, 0⟩
  | .kprResetReqPorts => ⟨.keeper, 0x11340, 0, 1, 2, 16, .wo, 0⟩
  | .kprResetReqKey => ⟨.keeper, 0x11340, 0, 1, 24, 8, .wo, 0⟩
  | .fstResetReset => ⟨.station, 0xa00, 0, 1, 0, 1, .wo, 0⟩
  | .fstResetKey => ⟨.station, 0xa00, 0, 1, 24, 8, .wo, 0⟩
  | .fstResetStatusState => ⟨.station, 0xa04, 0, 1, 0, 2, .ro, 0⟩
  | .fstResetStatusResetPending => ⟨.station, 0xa04, 0, 1, 2, 1, .ro, 0⟩
  | .lwdLaneUpUp => ⟨.warden, 0x300, 0, 1, 0, 32, .ro, 0⟩
  | .lwdPortStatusRetrainLane => ⟨.warden, 0x304, 0, 1, 0, 5, .ro, 0⟩
  | .lwdPortStatusRetraining => ⟨.warden, 0x304, 0, 1, 5, 1, .ro, 0⟩
  | .lwdPortStatusPortUp => ⟨.warden, 0x304, 0, 1, 6, 1, .ro, 0⟩
  | .lwdPortStatusNoPeer => ⟨.warden, 0x304, 0, 1, 7, 1, .ro, 0⟩
  | .lwdPortStatusCountSat => ⟨.warden, 0x304, 0, 1, 8, 1, .ros, 0⟩
  | .lwdPortStatusState => ⟨.warden, 0x304, 0, 1, 9, 2, .ro, 2⟩
  | .lwdPortStatusResetPending => ⟨.warden, 0x304, 0, 1, 11, 1, .ro, 0⟩
  | .lwdLaneRetrainsRetrains => ⟨.warden, 0x308, 0, 1, 0, 32, .ro, 0⟩
  | .lwdLaneWithdrawnWithdrawn => ⟨.warden, 0x30c, 0, 1, 0, 32, .ro, 0⟩
  | .kprHangCtrlAutoRecover => ⟨.keeper, 0x11400, 0, 1, 0, 1, .rw, 1⟩
  | .kprHangCtrlRecoveryLimit => ⟨.keeper, 0x11400, 0, 1, 1, 3, .rw, 3⟩
  | .kprHangStatusRecovery => ⟨.keeper, 0x11404, 0, 1, 0, 3, .ro, 0⟩
  | .kprHangStatusStalled => ⟨.keeper, 0x11404, 0, 1, 3, 1, .ro, 0⟩
  | .kprHangStatusRegTimeout => ⟨.keeper, 0x11404, 0, 1, 4, 1, .ros, 0⟩
  | .kprHangStatusMoltPartial => ⟨.keeper, 0x11404, 0, 1, 5, 1, .ros, 0⟩
  | .kprHangStatusMoltOverwrite => ⟨.keeper, 0x11404, 0, 1, 6, 1, .ros, 0⟩
  | .kprHangStatusRecoveryLoop => ⟨.keeper, 0x11404, 0, 1, 7, 1, .ros, 0⟩
  | .kprHangStatusCroakDrop => ⟨.keeper, 0x11404, 0, 1, 8, 1, .ros, 0⟩
  | .kprHangStatusCountSat => ⟨.keeper, 0x11404, 0, 1, 9, 1, .ros, 0⟩
  | .kprStallLimitLimit => ⟨.keeper, 0x11408, 0, 1, 0, 32, .ro, 0⟩
  | .kprMoltStatusLatest => ⟨.keeper, 0x11410, 0, 1, 0, 2, .ro, 0⟩
  | .kprMoltStatusValid => ⟨.keeper, 0x11410, 0, 1, 2, 4, .ro, 0⟩
  | .kprMoltStatusCopied => ⟨.keeper, 0x11410, 0, 1, 6, 4, .ro, 0⟩
  | .kprMoltStatusCopying => ⟨.keeper, 0x11410, 0, 1, 10, 1, .ro, 0⟩
  | .kprMoltStatusPaired => ⟨.keeper, 0x11410, 0, 1, 11, 2, .ro, 0⟩
  | .kprRecoveriesCount => ⟨.keeper, 0x11414, 0, 1, 0, 32, .ro, 0⟩
  | .kprCmdTimeoutsCount => ⟨.keeper, 0x11418, 0, 1, 0, 32, .ro, 0⟩
  | .kprDetachedDepthDepth => ⟨.keeper, 0x1141c, 0, 1, 0, 13, .ro, 0⟩
  | .kprRecoverReqRecover => ⟨.keeper, 0x11420, 0, 1, 0, 1, .wo, 0⟩
  | .kprRecoverReqKey => ⟨.keeper, 0x11420, 0, 1, 24, 8, .wo, 0⟩
  | .tsnStreamPosition => ⟨.sentinel, 0xc0, 0, 1, 0, 32, .ro, 0⟩
  | .tsnStallStalled => ⟨.sentinel, 0xc4, 0, 1, 0, 32, .ro, 0⟩
  | .tsnWaitSemaphore => ⟨.sentinel, 0xc8, 0, 1, 0, 12, .ro, 0⟩
  | .tsnWaitWait => ⟨.sentinel, 0xc8, 0, 1, 12, 4, .ro, 0⟩
  | .tsnWaitPort => ⟨.sentinel, 0xc8, 0, 1, 16, 2, .ro, 0⟩
  | .tsnWaitSemValid => ⟨.sentinel, 0xc8, 0, 1, 18, 1, .ro, 0⟩
  | .tsnBundleBundle => ⟨.sentinel, 0xcc, 0, 1, 0, 16, .ro, 0⟩
  | .kprProfileProfile => ⟨.keeper, 0x11500, 0, 1, 0, 128, .ro, 0⟩
  | .kprRunStatusProfileMatch => ⟨.keeper, 0x11510, 0, 1, 0, 1, .ro, 0⟩
  | .kprRunStatusWeightsSet => ⟨.keeper, 0x11510, 0, 1, 1, 1, .ro, 0⟩
  | .kprRunStatusInputSet => ⟨.keeper, 0x11510, 0, 1, 2, 1, .ro, 0⟩
  | .kprRunStatusProgramChanged => ⟨.keeper, 0x11510, 0, 1, 3, 1, .ro, 0⟩
  | .kprRunStatusTimeDependent => ⟨.keeper, 0x11510, 0, 1, 4, 1, .ro, 0⟩
  | .kprRunStatusDigestBusy => ⟨.keeper, 0x11510, 0, 1, 5, 1, .ro, 0⟩
  | .hptStatusAttached => ⟨.host, 0x20000, 0, 1, 0, 1, .ro, 0⟩
  | .hptStatusAccessErr => ⟨.host, 0x20000, 0, 1, 1, 1, .ros, 0⟩
  | .hptStatusApertureStuck => ⟨.host, 0x20000, 0, 1, 2, 1, .ros, 0⟩
  | .hptStatusOverload => ⟨.host, 0x20000, 0, 1, 3, 1, .ro, 0⟩
  | .hptStatusOverloadSeen => ⟨.host, 0x20000, 0, 1, 4, 1, .ros, 0⟩
  | .hptStatusRingWait => ⟨.host, 0x20000, 0, 1, 5, 1, .ro, 0⟩
  | .hptStatusTakeoverSeen => ⟨.host, 0x20000, 0, 1, 6, 1, .ros, 0⟩
  | .hptStatusCountSat => ⟨.host, 0x20000, 0, 1, 7, 1, .ros, 0⟩
  | .hptStatusVersion => ⟨.host, 0x20000, 0, 1, 8, 3, .ro, 0⟩
  | .hptApHead => ⟨.host, 0x20008, 0, 1, 0, 10, .ro, 0⟩
  | .hptApExpectedSeq => ⟨.host, 0x20008, 0, 1, 32, 32, .ro, 0⟩
  | .hptCreditsOutstanding => ⟨.host, 0x20010, 0, 1, 0, 9, .ro, 0⟩
  | .hptCreditsHigh => ⟨.host, 0x20010, 0, 1, 9, 9, .ro, 0⟩
  | .hptRingBaseBase => ⟨.host, 0x20018, 0, 1, 0, 64, .ro, 0⟩
  | .hptRingSizeUnits => ⟨.host, 0x20020, 0, 1, 0, 17, .ro, 0⟩
  | .hptRingTailTail => ⟨.host, 0x20024, 0, 1, 0, 32, .ro, 0⟩
  | .hptRingHeadHead => ⟨.host, 0x20028, 0, 1, 0, 32, .rw, 0⟩
  | .hptMsixCtrlEnable => ⟨.host, 0x2002c, 0, 1, 0, 1, .rw, 0⟩
  | .hptMsixCtrlHoldoffUs => ⟨.host, 0x2002c, 0, 1, 8, 8, .rw, 10⟩
  | .hptBusyCount => ⟨.host, 0x20030, 0, 1, 0, 32, .ro, 0⟩
  | .hptRejectedCount => ⟨.host, 0x20034, 0, 1, 0, 32, .ro, 0⟩
  | .aoiWdogPeriod => ⟨.aoi, 0x400, 0, 1, 0, 20, .rw, 10000⟩
  | .kprFwCtrlCommit => ⟨.keeper, 0x11600, 0, 1, 0, 1, .rw1s, 0⟩
  | .kprFwLengthLength => ⟨.keeper, 0x11604, 0, 1, 0, 21, .rw, 0⟩
  | .kprFwStatusResult => ⟨.keeper, 0x11608, 0, 1, 0, 4, .ro, 0⟩
  | .kprFwStatusBusy => ⟨.keeper, 0x11608, 0, 1, 4, 1, .ro, 0⟩
  | .kprFwStatusActiveSlot => ⟨.keeper, 0x11608, 0, 1, 5, 1, .ro, 0⟩
  | .kprFwStatusInvalidSeen => ⟨.keeper, 0x11608, 0, 1, 6, 1, .ros, 0⟩
  | .kprFwRevisionRevision => ⟨.keeper, 0x1160c, 0, 1, 0, 32, .ro, 0⟩
  | .kprEvRouteCore => ⟨.keeper, 0x11610, 0, 1, 2, 24, .rw, 4476800⟩
  | .kprCoreStatusState => ⟨.keeper, 0x11620, 4, 4, 0, 2, .ro, 0⟩
  | .kprCoreStatusSafeSet => ⟨.keeper, 0x11620, 4, 4, 2, 1, .ro, 0⟩
  | .kprCoreStatusRestarts => ⟨.keeper, 0x11620, 4, 4, 3, 8, .ro, 0⟩
  | .kprCoreStatusLast => ⟨.keeper, 0x11620, 4, 4, 11, 4, .ro, 0⟩
  | .kprCoreStatusHaltSeen => ⟨.keeper, 0x11620, 4, 4, 15, 1, .ros, 0⟩
  | .kprCoreStatusQueue => ⟨.keeper, 0x11620, 4, 4, 16, 7, .ro, 0⟩
  | .fstEvRouteRoute => ⟨.station, 0xb10, 0, 1, 2, 10, .rw, 576⟩
  | .kprKsPagePage => ⟨.keeper, 0x10080, 0, 1, 0, 3, .rw, 0⟩
  | .kprFrPagePage => ⟨.keeper, 0x10084, 0, 1, 0, 4, .rw, 0⟩
  | .fstTsnCmdColumn => ⟨.station, 0x100, 32, 2, 0, 7, .rw, 0⟩
  | .fstTsnCmdRow => ⟨.station, 0x100, 32, 2, 7, 7, .rw, 0⟩
  | .fstTsnCmdOffset => ⟨.station, 0x100, 32, 2, 14, 8, .rw, 0⟩
  | .fstTsnCmdWrite => ⟨.station, 0x100, 32, 2, 22, 1, .rw, 0⟩
  | .fstTsnCmdWide => ⟨.station, 0x100, 32, 2, 23, 1, .rw, 0⟩
  | .fstTsnCmdGo => ⟨.station, 0x100, 32, 2, 24, 1, .rw1s, 0⟩
  | .fstTsnCmdErr => ⟨.station, 0x100, 32, 2, 25, 3, .ro, 0⟩
  | .fstTsnDataData => ⟨.station, 0x108, 32, 2, 0, 64, .rw, 0⟩
  | .brmIdStepping => ⟨.keeper, 0x10000, 0, 1, 0, 16, .ro, 0⟩
  | .brmIdGeneration => ⟨.keeper, 0x10000, 0, 1, 16, 4, .ro, 1⟩
  | .brmIdIxfold => ⟨.keeper, 0x10000, 0, 1, 20, 4, .ro, 1⟩
  | .brmIdNdoquel => ⟨.keeper, 0x10000, 0, 1, 24, 3, .ro, 1⟩
  | .brmIdFeedId => ⟨.keeper, 0x10000, 0, 1, 32, 8, .ro, 0⟩
  | .kprGradeGrade => ⟨.keeper, 0x10010, 0, 1, 0, 2, .ro, 0⟩
  | .kprGradeClockMaxMhz => ⟨.keeper, 0x10010, 0, 1, 4, 12, .ro, 0⟩
  | .kprGradeCapMax10w => ⟨.keeper, 0x10010, 0, 1, 16, 12, .ro, 0⟩
  | .kprTileCfgClockMhz => ⟨.keeper, 0x10014, 0, 1, 0, 12, .rw, 0⟩
  | .kprTileCfgCap10w => ⟨.keeper, 0x10014, 0, 1, 12, 12, .rw, 0⟩
  | .kprStatusReady => ⟨.keeper, 0x10020, 0, 1, 0, 1, .ro, 0⟩
  | .kprStatusLaunched => ⟨.keeper, 0x10020, 0, 1, 1, 1, .ro, 0⟩
  | .kprStatusRecovering => ⟨.keeper, 0x10020, 0, 1, 2, 1, .ro, 0⟩
  | .kprStatusHold => ⟨.keeper, 0x10020, 0, 1, 3, 1, .ro, 0⟩
  | .kprStatusTripped => ⟨.keeper, 0x10020, 0, 1, 4, 1, .ro, 0⟩
  | .kprStatusDegraded => ⟨.keeper, 0x10020, 0, 1, 5, 1, .ro, 0⟩
  | .kprStatusAttention => ⟨.keeper, 0x10020, 0, 1, 6, 1, .ro, 0⟩
  | .kprAttnFieldsFields => ⟨.keeper, 0x10024, 0, 1, 0, 32, .ro, 0⟩
  | .kprAttnOtherAoi => ⟨.keeper, 0x10028, 0, 1, 0, 1, .ro, 0⟩
  | .kprAttnOtherKeeper => ⟨.keeper, 0x10028, 0, 1, 1, 1, .ro, 0⟩
  | .kprAttnOtherHostPort => ⟨.keeper, 0x10028, 0, 1, 2, 1, .ro, 0⟩
  | .kprAttnOtherWardens => ⟨.keeper, 0x10028, 0, 1, 3, 16, .ro, 0⟩
  | .kprAllowanceSet => ⟨.keeper, 0x10030, 0, 1, 0, 8, .rw, 120⟩
  | .kprAllowanceInForce => ⟨.keeper, 0x10030, 0, 1, 8, 8, .ro, 120⟩
  | .kprAllowanceRotating => ⟨.keeper, 0x10030, 0, 1, 16, 1, .ro, 0⟩
  | .kprSharesScrub => ⟨.keeper, 0x10034, 0, 1, 0, 8, .rw, 12⟩
  | .kprSharesReplay => ⟨.keeper, 0x10034, 0, 1, 8, 8, .rw, 10⟩
  | .kprScreenPowerTaps => ⟨.keeper, 0x10038, 0, 1, 0, 16, .ro, 0⟩
  | .kprScreenPowerRsf => ⟨.keeper, 0x10038, 0, 1, 16, 16, .ro, 0⟩
  | .kprScreenPowerReplay => ⟨.keeper, 0x10038, 0, 1, 32, 16, .ro, 0⟩
  | .kprScreenPowerSelfTest => ⟨.keeper, 0x10038, 0, 1, 48, 16, .ro, 0⟩
  | .kprScreenPower2Scrub => ⟨.keeper, 0x10040, 0, 1, 0, 16, .ro, 0⟩
  | .kprScreenPower2Total => ⟨.keeper, 0x10040, 0, 1, 16, 16, .ro, 0⟩
  | .kprHazardH => ⟨.keeper, 0x10048, 0, 1, 0, 8, .ro, 0⟩
  | .kprHazardHzSecure => ⟨.keeper, 0x10048, 0, 1, 8, 8, .rw, 96⟩
  | .kprHazardHzCroak => ⟨.keeper, 0x10048, 0, 1, 16, 8, .rw, 128⟩
  | .kprHazardPeak => ⟨.keeper, 0x10048, 0, 1, 24, 8, .ro, 0⟩
  | .kprHazardTermsCe => ⟨.keeper, 0x10050, 0, 1, 0, 8, .ro, 0⟩
  | .kprHazardTermsDroop => ⟨.keeper, 0x10050, 0, 1, 8, 8, .ro, 0⟩
  | .kprHazardTermsRise => ⟨.keeper, 0x10050, 0, 1, 16, 8, .ro, 0⟩
  | .kprHazardTermsDetect => ⟨.keeper, 0x10050, 0, 1, 24, 8, .ro, 0⟩
  | .kprHazardTermsPartner => ⟨.keeper, 0x10050, 0, 1, 32, 8, .ro, 0⟩
  | .kprEscapeEstimate => ⟨.keeper, 0x10058, 0, 1, 0, 32, .ro, 0⟩
  | .kprEscapeAboveGoal => ⟨.keeper, 0x10058, 0, 1, 32, 1, .ro, 0⟩
  | .kprEscapeAboveSeen => ⟨.keeper, 0x10058, 0, 1, 33, 1, .ros, 0⟩
  | .kprEscapeTimeComputeMs => ⟨.keeper, 0x10060, 0, 1, 0, 64, .ro, 0⟩
  | .kprEscapeCfgATap => ⟨.keeper, 0x10068, 0, 1, 0, 16, .rw, 65470⟩
  | .kprEscapeCfgARep => ⟨.keeper, 0x10068, 0, 1, 16, 16, .rw, 58982⟩
  | .kprEscapeCfgAScr => ⟨.keeper, 0x10068, 0, 1, 32, 16, .rw, 6554⟩
  | .kprEscapePriorLambda0 => ⟨.keeper, 0x10070, 0, 1, 0, 32, .rw, 100000⟩
  | .fstTapRecordsCount => ⟨.station, 0x310, 0, 1, 0, 32, .ro, 0⟩
  | .fstTapLastRecord => ⟨.station, 0x320, 0, 1, 0, 256, .ro, 0⟩
  | .kprLedgerDisputedFields => ⟨.keeper, 0x10404, 0, 1, 0, 32, .ro, 0⟩
  | .kprLedgerShortFields => ⟨.keeper, 0x10408, 0, 1, 0, 32, .ro, 0⟩
  | .kprEpNextNext => ⟨.keeper, 0x10600, 0, 1, 0, 32, .ro, 0⟩
  | .fstEpMatchCount => ⟨.station, 0x410, 0, 1, 0, 32, .ro, 0⟩
  | .fstEpMismatchCount => ⟨.station, 0x414, 0, 1, 0, 32, .ro, 0⟩
  | .fstEpInconclusiveCount => ⟨.station, 0x418, 0, 1, 0, 32, .ro, 0⟩
  | .fstEpAbandonedCount => ⟨.station, 0x41c, 0, 1, 0, 32, .ro, 0⟩
  | .fstEpLapsedCount => ⟨.station, 0x420, 0, 1, 0, 32, .ro, 0⟩
  | .fstEpNospareCount => ⟨.station, 0x424, 0, 1, 0, 32, .ro, 0⟩
  | .fstEpRandomCount => ⟨.station, 0x428, 0, 1, 0, 32, .ro, 0⟩
  | .fstEpFlagsSat => ⟨.station, 0x42c, 0, 1, 0, 7, .ros, 0⟩
  | .fstEpLastRecord => ⟨.station, 0x440, 0, 1, 0, 384, .ro, 0⟩
  | .lwdChorusPassCount => ⟨.warden, 0x110, 0, 1, 0, 32, .ro, 0⟩
  | .lwdChorusFailCount => ⟨.warden, 0x114, 0, 1, 0, 32, .ro, 0⟩
  | .lwdChorusIncompleteCount => ⟨.warden, 0x118, 0, 1, 0, 32, .ro, 0⟩
  | .lwdChorusTagCount => ⟨.warden, 0x11c, 0, 1, 0, 32, .ro, 0⟩
  | .lwdChorusAbandonedCount => ⟨.warden, 0x120, 0, 1, 0, 32, .ro, 0⟩
  | .lwdAnnDiscardCount => ⟨.warden, 0x124, 0, 1, 0, 32, .ro, 0⟩
  | .lwdChunksUncheckedCount => ⟨.warden, 0x128, 0, 1, 0, 32, .ro, 0⟩
  | .lwdDigFlagsSat => ⟨.warden, 0x12c, 0, 1, 0, 7, .ros, 0⟩
  | .lwdChorusLastRecord => ⟨.warden, 0x140, 0, 1, 0, 384, .ro, 0⟩
  | .fstStLastRecord => ⟨.station, 0x620, 0, 1, 0, 256, .ro, 0⟩
  | .fstRegrowLastRecord => ⟨.station, 0x720, 0, 1, 0, 256, .ro, 0⟩
  | .kprSecLastRecord => ⟨.keeper, 0x10a60, 0, 1, 0, 256, .ro, 0⟩
  | .kprHangLastRecord => ⟨.keeper, 0x11440, 0, 1, 0, 512, .ro, 0⟩
  | .kprProgramDigestDigest => ⟨.keeper, 0x11520, 0, 1, 0, 256, .ro, 0⟩
  | .kprRunDigestDigest => ⟨.keeper, 0x11540, 0, 1, 0, 256, .ro, 0⟩
  | .kprRunRecordRecord => ⟨.keeper, 0x11580, 0, 1, 0, 768, .ro, 0⟩
  | .fstIdField => ⟨.station, 0, 0, 1, 0, 5, .ro, 0⟩
  | .fstIdDropped => ⟨.station, 0, 0, 1, 8, 1, .ro, 0⟩
  | .kprEngineEngine => ⟨.keeper, 0x10018, 0, 1, 0, 15, .rw, 32767⟩
  | .kprEngineValid => ⟨.keeper, 0x10018, 0, 1, 15, 1, .ro, 0⟩
  | .fstCoreStatusState => ⟨.station, 0xb00, 4, 2, 0, 2, .ro, 0⟩
  | .fstCoreStatusSafeSet => ⟨.station, 0xb00, 4, 2, 2, 1, .ro, 0⟩
  | .fstCoreStatusRestarts => ⟨.station, 0xb00, 4, 2, 3, 8, .ro, 0⟩
  | .fstCoreStatusLast => ⟨.station, 0xb00, 4, 2, 11, 4, .ro, 0⟩
  | .fstCoreStatusHaltSeen => ⟨.station, 0xb00, 4, 2, 15, 1, .ros, 0⟩
  | .fstCoreStatusQueue => ⟨.station, 0xb00, 4, 2, 16, 7, .ro, 0⟩

def RF.keeperList0 : List RF :=
  [.kprLedgerStatusUsed, .kprLedgerStatusFull, .kprLedgerStatusOverflow, .kprLedgerStatusRebuilt,
   .kprLedgerStatusFuseRevNew, .kprLedgerStatusFuseRev, .kprLedgerStatusFlashPending, .kprTapSeedSeed,
   .kprTapCoverOn, .kprTapCoverFraction, .kprTapSeedActiveSeed, .kprDigSeedSeed,
   .kprDigSeedActiveDseed, .kprDigKeyLoaded, .kprDigKeyTagEnable, .kprDigKeyTagsActive,
   .kprDigKeyZeroisePending, .kprStCtrlShare, .kprStCtrlStartup, .kprScanEntryEntry,
   .kprStStatusScanned, .kprStStatusEntryErr, .kprStStatusScanTarget, .kprStCountUnderTest]

def RF.keeperList1 : List RF :=
  [.kprStCountLimit, .kprPackStatusActive, .kprPackStatusInvalidSeen, .kprRegrowCtrlInPlace,
   .kprRegrowCtrlRefuseWaitMs, .kprRegrowCtrlDrainUs, .kprEpochCurrent, .kprEpochDraining,
   .kprEpochPending, .kprEpochDiscardSat, .kprEpochProgramPending, .kprDrainDiscardsDiscards,
   .kprFieldsDroppedDropped, .kprRstCtrlValid, .kprRstCtrlFormatErr, .kprSecCtrlEnable,
   .kprSecCtrlState, .kprSecCtrlEnablePending, .kprSecCtrlMapValid, .kprSecCtrlPartnerEn,
   .kprSecCtrlFlashEn, .kprSecCtrlStoreEn, .kprSecCtrlForceCofed, .kprSecCtrlFlashOnHazard]

def RF.keeperList2 : List RF :=
  [.kprSecCtrlSolo, .kprSecCtrlKMax, .kprSecCfgLinkShare, .kprSecCfgFlashEvery,
   .kprSecCfgStoreEvery, .kprSecCfgFlashGensM1, .kprSecCfgStoreGensM1, .kprSecCfgHoldLostS,
   .kprSecStatusPhase, .kprSecStatusCofed, .kprSecStatusNoPartner, .kprSecStatusDrivesOk,
   .kprSecStatusFloorMissed, .kprSecStatusFallbackSeen, .kprSecStatusCountSat, .kprSecStatusMapInvalid,
   .kprSecStepStep, .kprSecPairHolder, .kprSecPairHolderValid, .kprSecPairClient,
   .kprSecPairClientValid, .kprSecStoreBaseBase, .kprSecStoreSizeSize, .kprSecStoreRateRate]

def RF.keeperList3 : List RF :=
  [.kprSecSecuringsCount, .kprSecSkippedCount, .kprSecVoidedCount, .kprSecFallbacksCount,
   .kprSecRollbacksCount, .kprWtcWtc, .kprWtcCtrlRoot, .kprWtcStatusSynced,
   .kprWtcStatusUnsyncSeen, .kprWtcStatusHops, .kprWtcStatusParent, .kprWtcStatusError,
   .kprLaunchWtcWtcGo, .kprParkCtrlParkMs, .kprParkStatusUsed, .kprParkStatusHigh,
   .kprParkStatusFullSeen, .kprParkStatusParkTimeoutSeen, .kprParkStatusCountSat, .kprParkDiscardsDiscards,
   .kprMonCtrlRiseTrip, .kprMonCtrlRiseResume, .kprMonCtrlHoldMaxMs, .kprMonStatusHold]

def RF.keeperList4 : List RF :=
  [.kprMonStatusTripped, .kprMonStatusHoldSeen, .kprMonStatusTripSeen, .kprMonStatusFlashWindow,
   .kprMonStatusFuseWindow, .kprMonStatusOverCap, .kprMonStatusOscDrift, .kprMonStatusMaxTemp,
   .kprMonStatusMaxField, .kprBringupStatusStage, .kprBringupStatusBusy, .kprBringupStatusHalted,
   .kprBringupStatusRun, .kprBringupStatusReady, .kprBringupStatusCode, .kprBringupCfgDiscoveryMs,
   .kprStageTimeTicks, .kprResetReqKeeper, .kprResetReqCompute, .kprResetReqPorts,
   .kprResetReqKey, .kprHangCtrlAutoRecover, .kprHangCtrlRecoveryLimit, .kprHangStatusRecovery]

def RF.keeperList5 : List RF :=
  [.kprHangStatusStalled, .kprHangStatusRegTimeout, .kprHangStatusMoltPartial, .kprHangStatusMoltOverwrite,
   .kprHangStatusRecoveryLoop, .kprHangStatusCroakDrop, .kprHangStatusCountSat, .kprStallLimitLimit,
   .kprMoltStatusLatest, .kprMoltStatusValid, .kprMoltStatusCopied, .kprMoltStatusCopying,
   .kprMoltStatusPaired, .kprRecoveriesCount, .kprCmdTimeoutsCount, .kprDetachedDepthDepth,
   .kprRecoverReqRecover, .kprRecoverReqKey, .kprProfileProfile, .kprRunStatusProfileMatch,
   .kprRunStatusWeightsSet, .kprRunStatusInputSet, .kprRunStatusProgramChanged, .kprRunStatusTimeDependent]

def RF.keeperList6 : List RF :=
  [.kprRunStatusDigestBusy, .kprFwCtrlCommit, .kprFwLengthLength, .kprFwStatusResult,
   .kprFwStatusBusy, .kprFwStatusActiveSlot, .kprFwStatusInvalidSeen, .kprFwRevisionRevision,
   .kprEvRouteCore, .kprCoreStatusState, .kprCoreStatusSafeSet, .kprCoreStatusRestarts,
   .kprCoreStatusLast, .kprCoreStatusHaltSeen, .kprCoreStatusQueue, .kprKsPagePage,
   .kprFrPagePage, .brmIdStepping, .brmIdGeneration, .brmIdIxfold,
   .brmIdNdoquel, .brmIdFeedId, .kprGradeGrade, .kprGradeClockMaxMhz]

def RF.keeperList7 : List RF :=
  [.kprGradeCapMax10w, .kprTileCfgClockMhz, .kprTileCfgCap10w, .kprStatusReady,
   .kprStatusLaunched, .kprStatusRecovering, .kprStatusHold, .kprStatusTripped,
   .kprStatusDegraded, .kprStatusAttention, .kprAttnFieldsFields, .kprAttnOtherAoi,
   .kprAttnOtherKeeper, .kprAttnOtherHostPort, .kprAttnOtherWardens, .kprAllowanceSet,
   .kprAllowanceInForce, .kprAllowanceRotating, .kprSharesScrub, .kprSharesReplay,
   .kprScreenPowerTaps, .kprScreenPowerRsf, .kprScreenPowerReplay, .kprScreenPowerSelfTest]

def RF.keeperList8 : List RF :=
  [.kprScreenPower2Scrub, .kprScreenPower2Total, .kprHazardH, .kprHazardHzSecure,
   .kprHazardHzCroak, .kprHazardPeak, .kprHazardTermsCe, .kprHazardTermsDroop,
   .kprHazardTermsRise, .kprHazardTermsDetect, .kprHazardTermsPartner, .kprEscapeEstimate,
   .kprEscapeAboveGoal, .kprEscapeAboveSeen, .kprEscapeTimeComputeMs, .kprEscapeCfgATap,
   .kprEscapeCfgARep, .kprEscapeCfgAScr, .kprEscapePriorLambda0, .kprLedgerDisputedFields,
   .kprLedgerShortFields, .kprEpNextNext, .kprSecLastRecord, .kprHangLastRecord]

def RF.keeperList9 : List RF :=
  [.kprProgramDigestDigest, .kprRunDigestDigest, .kprRunRecordRecord, .kprEngineEngine,
   .kprEngineValid]

/-- The register fields of the keeper block. -/
def RF.keeperList : List RF := RF.keeperList0 ++ RF.keeperList1 ++ RF.keeperList2 ++ RF.keeperList3 ++ RF.keeperList4 ++
  RF.keeperList5 ++ RF.keeperList6 ++ RF.keeperList7 ++ RF.keeperList8 ++ RF.keeperList9

def RF.stationList0 : List RF :=
  [.fstReconcileFuseBadPass, .fstReconcileFuseGoodFail, .fstReconcileDisputed, .fstReconcileShort,
   .fstTapCtrlEnable, .fstTapCtrlState, .fstTapCtrlEnablePending, .fstTapCtrlRotPeriod,
   .fstTapStatusEnabled, .fstTapStatusWindowStart, .fstTapBlocksBlocks, .fstTapFlagsRecordCrc,
   .fstTapFlagsRecordSat, .fstEpCtrlEnable, .fstEpCtrlState, .fstEpCtrlEnablePending,
   .fstEpCtrlMaxInflight, .fstEpCtrlQuotaLog2, .fstEpCtrlWindow, .fstEpRateRate,
   .fstEpRateGoWait, .fstEpStatusInflight, .fstEpStatusArmed, .fstScrubCtrlEnable]

def RF.stationList1 : List RF :=
  [.fstScrubCtrlState, .fstScrubCtrlEnablePending, .fstScrubCtrlPeriodS, .fstScrubStatusActive,
   .fstScrubStatusScrubLate, .fstScrubStatusRecordCrc, .fstScrubStatusCountSat, .fstScrubPassesPasses,
   .fstScrubMismatchMismatches, .fstStCtrlEnable, .fstStCtrlState, .fstStCtrlEnablePending,
   .fstStCtrlPackPerVisit, .fstStCtrlPeriodH, .fstStCtrlCeLimit, .fstStStatusUnderTest,
   .fstStStatusVisitLate, .fstStStatusRecordCrc, .fstStStatusCountSat, .fstStStatusOldestH,
   .fstStVisitsVisits, .fstStFailsFails, .fstStAbortsAborts, .fstRegrowStatusEngine0]

def RF.stationList2 : List RF :=
  [.fstRegrowStatusEngine1, .fstRegrowStatusQueued, .fstRegrowStatusFreeSpares, .fstRegrowStatusEntries,
   .fstRegrowDoneDone, .fstRegrowEscalatedEscalated, .fstRegrowFlagsDoneSat, .fstRegrowFlagsEscSat,
   .fstEvtStatusDepth, .fstEvtStatusSliceFull, .fstMonStatusThermalIn, .fstMonStatusDroopIn,
   .fstMonStatusRoIn, .fstMonStatusBlind, .fstMonStatusDroopDeepSeen, .fstMonStatusCountSat,
   .fstMonStatusSlowdown, .fstMonMaxMaxTemp, .fstMonMaxMaxSensor, .fstDroopEventsEvents,
   .fstDroopDeepEvents, .fstRoRatioRatio, .fstRoRatioInService, .fstTempReading]

def RF.stationList3 : List RF :=
  [.fstTempRate, .fstTempInService, .fstResetReset, .fstResetKey,
   .fstResetStatusState, .fstResetStatusResetPending, .fstEvRouteRoute, .fstTsnCmdColumn,
   .fstTsnCmdRow, .fstTsnCmdOffset, .fstTsnCmdWrite, .fstTsnCmdWide,
   .fstTsnCmdGo, .fstTsnCmdErr, .fstTsnDataData, .fstTapRecordsCount,
   .fstTapLastRecord, .fstEpMatchCount, .fstEpMismatchCount, .fstEpInconclusiveCount,
   .fstEpAbandonedCount, .fstEpLapsedCount, .fstEpNospareCount, .fstEpRandomCount]

def RF.stationList4 : List RF :=
  [.fstEpFlagsSat, .fstEpLastRecord, .fstStLastRecord, .fstRegrowLastRecord,
   .fstIdField, .fstIdDropped, .fstCoreStatusState, .fstCoreStatusSafeSet,
   .fstCoreStatusRestarts, .fstCoreStatusLast, .fstCoreStatusHaltSeen, .fstCoreStatusQueue]

/-- The register fields of the station block. -/
def RF.stationList : List RF := RF.stationList0 ++ RF.stationList1 ++ RF.stationList2 ++ RF.stationList3 ++ RF.stationList4

def RF.sentinelList0 : List RF :=
  [.tsnTapCtrlExclude, .tsnTapCtrlInject, .tsnTapCtrlState, .tsnTapCtrlEnablePending,
   .tsnTapCtrlDisablePending, .tsnTapCtrlInjectEscape, .tsnTapCtrlMismatchSat, .tsnTapCtrlUncheckedSat,
   .tsnTapBlocksBlocks, .tsnTapMismatchesMismatches, .tsnTapUncheckedUnchecked, .tsnExposureExposure,
   .tsnExposureCheckedChecked, .tsnEpCtrlArmed, .tsnEpCtrlGo, .tsnEpCtrlCapturing,
   .tsnEpCtrlArm, .tsnEpCtrlOverflowSeen, .tsnRdtBaseBase, .tsnRdtBaseValid,
   .tsnScrubLastWtcWtc, .tsnStCtrlRun, .tsnStCtrlMode, .tsnStCtrlState]

def RF.sentinelList1 : List RF :=
  [.tsnStCtrlFailed, .tsnStCtrlBankFail, .tsnStSlicesSliceFail, .tsnTwBaseBase,
   .tsnTwBaseValid, .tsnStMisrMisr, .tsnStreamPosition, .tsnStallStalled,
   .tsnWaitSemaphore, .tsnWaitWait, .tsnWaitPort, .tsnWaitSemValid,
   .tsnBundleBundle]

/-- The register fields of the sentinel block. -/
def RF.sentinelList : List RF := RF.sentinelList0 ++ RF.sentinelList1

def RF.wardenList0 : List RF :=
  [.lwdDigCtrlEnable, .lwdDigCtrlState, .lwdDigCtrlEnablePending, .lwdDigCtrlDeadlineMs,
   .lwdDigCtrlRollcallMs, .lwdDigStatusOpen, .lwdDigStatusRollcall, .lwdDigStatusBackpressure,
   .lwdParkStatusBackpressure, .lwdParkStatusDiscardSat, .lwdParkDiscardDiscards, .lwdLandedSelEngine,
   .lwdLandedLanded, .lwdSentSent, .lwdLaneUpUp, .lwdPortStatusRetrainLane,
   .lwdPortStatusRetraining, .lwdPortStatusPortUp, .lwdPortStatusNoPeer, .lwdPortStatusCountSat,
   .lwdPortStatusState, .lwdPortStatusResetPending, .lwdLaneRetrainsRetrains, .lwdLaneWithdrawnWithdrawn]

def RF.wardenList1 : List RF :=
  [.lwdChorusPassCount, .lwdChorusFailCount, .lwdChorusIncompleteCount, .lwdChorusTagCount,
   .lwdChorusAbandonedCount, .lwdAnnDiscardCount, .lwdChunksUncheckedCount, .lwdDigFlagsSat,
   .lwdChorusLastRecord]

/-- The register fields of the warden block. -/
def RF.wardenList : List RF := RF.wardenList0 ++ RF.wardenList1

def RF.aoiList0 : List RF :=
  [.aoiTickTick, .aoiTickWraps, .aoiTimeStatusAnchorLost, .aoiTimeStatusAnchorPending,
   .aoiTempReading, .aoiTempAoiSensorBad, .aoiTempTrim, .aoiResetCauseAoiPower,
   .aoiResetCausePowerGood, .aoiResetCauseKeeperHost, .aoiResetCauseKeeperWatchdog, .aoiResetCauseKeeperStage,
   .aoiResetCauseComputeHost, .aoiResetCauseComputeRecovery, .aoiResetCauseComputeTrip, .aoiResetCauseStation,
   .aoiResetCausePort, .aoiDomainsKeeper, .aoiDomainsCompute, .aoiDomainsKeeperPending,
   .aoiDomainsComputePending, .aoiWdogPeriod]

/-- The register fields of the aoi block. -/
def RF.aoiList : List RF := RF.aoiList0

def RF.semList0 : List RF :=
  [.semCountCount, .semFlagsAddSat, .semFlagsSubSat, .semFlagsWaiting,
   .semFlagsParked, .semFlagsPoison]

/-- The register fields of the sem block. -/
def RF.semList : List RF := RF.semList0

def RF.hostList0 : List RF :=
  [.hptStatusAttached, .hptStatusAccessErr, .hptStatusApertureStuck, .hptStatusOverload,
   .hptStatusOverloadSeen, .hptStatusRingWait, .hptStatusTakeoverSeen, .hptStatusCountSat,
   .hptStatusVersion, .hptApHead, .hptApExpectedSeq, .hptCreditsOutstanding,
   .hptCreditsHigh, .hptRingBaseBase, .hptRingSizeUnits, .hptRingTailTail,
   .hptRingHeadHead, .hptMsixCtrlEnable, .hptMsixCtrlHoldoffUs, .hptBusyCount,
   .hptRejectedCount]

/-- The register fields of the host block. -/
def RF.hostList : List RF := RF.hostList0

end Sys2Proof.Machine
end

