-- ==== Sys2Proof/Machine/Tab.lean ====
section
/-! DEFINITION. Sparse tables: one canonical list of (key, value) pairs, keys strictly rising, no entry equal to
what an unlisted key reads as. All of the manager's indexed state (register fields, memory bytes, counters, tiles,
cores) is held this way, so equal contents are equal data. -/

namespace Sys2Proof.Machine

/-- A sparse table over natural keys. -/
abbrev Tab (α : Type) := List (Nat × α)

/-- The value at a key; `d` says what an unlisted key reads as. -/
def Tab.get {α : Type} (d : Nat → α) : Tab α → Nat → α
  | [], k => d k
  | (k', v) :: t, k => if k < k' then d k else if k = k' then v else Tab.get d t k

/-- The entries above a key. -/
def Tab.above {α : Type} (k : Nat) : Tab α → Tab α
  | [] => []
  | (k', v) :: t => if k' ≤ k then Tab.above k t else (k', v) :: t

/-- The table with the value `v` at key `k`; writing what an unlisted key reads as removes the entry. -/
def Tab.set {α : Type} [DecidableEq α] (d : Nat → α) : Tab α → Nat → α → Tab α
  | [], k, v => if v = d k then [] else [(k, v)]
  | (k', v') :: t, k, v =>
    if k < k' then (if v = d k then (k', v') :: t else (k, v) :: (k', v') :: t)
    else if k = k' then (if v = d k then Tab.above k t else (k, v) :: t)
    else (k', v') :: Tab.set d t k v

/-- The table without the keys that `p` picks. -/
def Tab.drop {α : Type} (p : Nat → Bool) (t : Tab α) : Tab α := t.filter (fun e => !p e.1)

/-- Every key listed lies above `b`, keys rise strictly, and no entry equals its default. -/
def Tab.wfFrom {α : Type} [DecidableEq α] (d : Nat → α) : Option Nat → Tab α → Bool
  | _, [] => true
  | b, (k, v) :: t =>
    (match b with
      | none => true
      | some b => decide (b < k)) && decide (v ≠ d k) && Tab.wfFrom d (some k) t

/-- The canonical form. -/
def Tab.wf {α : Type} [DecidableEq α] (d : Nat → α) (t : Tab α) : Bool := Tab.wfFrom d none t

/-- The lowest key at or above `k` that the table does not list. -/
def Tab.gap {α : Type} : Nat → Tab α → Nat
  | k, [] => k
  | k, (k', _) :: t => if k = k' then Tab.gap (k + 1) t else if k < k' then k else Tab.gap k t

end Sys2Proof.Machine
end

