-- ==== Sys2Proof/Machine/State.lean ====
section
/-! DEFINITION. The state of the manager, as plain data. Register fields stand in one table (`regs`); what the
manual names beside its registers stands in the structures below, one for each part of the block. Every default
value written here is the value at `State.reset`; where the manual gives none the value is named in log entry 3. -/

namespace Sys2Proof.Machine

/-- Why a step stops as a fault. DESIGN CHOICE: log entry 86. -/
inductive Fault where
  /-- Raised by a row that names a tile whose physical unit ID R36 does not allow (row or column above 119, field
  above 31): no such Sentinel exists. Safe: the manual gives no such event. -/
  | noSuchTile
deriving DecidableEq, Repr

/-- Why a command is refused by the model. -/
inductive Refusal where
  /-- Raised by `exec` for a command that has no meaning in the model yet. Safe. -/
  | notModelled (mnemonic : String)
deriving DecidableEq, Repr

/-! ### Fuses, fixed when the wafer is made (R56, R60, R311, R458, R460) -/

/-- DESIGN CHOICE: log entry 4. -/
structure Fuses where
  /-- 0 A, 1 B, 2 C. -/
  grade    : Nat := 0
  stepping : Nat := 0
  revision : Nat := 0
  /-- SHA-384 hashes of the keys of slots 0 and 1 (R185), first byte most significant. -/
  keyHash0 : Nat := 0
  keyHash1 : Nat := 0
  /-- Oscillator trim codes for −40 °C to 125 °C in steps of 11 °C (R309). -/
  trims    : List Nat := []
  /-- Units the fuse map lists as bad. -/
  bad      : List UnitKey := []
deriving DecidableEq, Repr

/-! ### Events (R259 to R264, R480) -/

/-- What applying an event does (R48, R409, R431). -/
inductive EvAct where
  /-- A detection applied to the ledger: key, cause of R44, origin of R42. -/
  | detect (key : UnitKey) (cause origin : Nat)
  /-- A record or notice posted to the core its kind routes to: kind of R431, field it arises in (32 for none), unit,
  length in bytes and contents (byte 0 least significant), and whether it is a notice. -/
  | post (kind field unit bytes : Nat) (body : Nat) (notice : Bool)
  /-- A croak: code, units, payload from byte 16. -/
  | croak (code units : Nat) (payload : Nat)
  /-- Secured copies of a boundary at or after a WTC value are voided (R111, R151, R161, R244). -/
  | void (wtc : Nat)
  /-- A correctable error or other input of the hazard terms of R312: 0 correctable, 1 droop, 2 detection, 3 partner loss. -/
  | hazard (term : Nat)
  /-- A link port failure (R326): its partners count a link-down and the port is reset. -/
  | portFail (k : Nat)
  /-- A rollback is requested because of a void (R151). -/
  | rollback (wtc : Nat)
  /-- An uncorrectable tile SRAM line or other cause to withdraw what the unit does without a ledger change. -/
  | log
deriving DecidableEq, Repr

/-- An event as sampled: class (R260), place in the order of R261, tick of sampling, and what its application does. -/
structure Ev where
  cls  : Nat
  loc  : Nat
  tick : Nat
  acts : List EvAct
deriving DecidableEq, Repr

/-! ### Wafer Defect Ledger and its history (R41, R42, R61, R62, R481) -/

/-- An occupied ledger entry (R42). -/
structure Entry where
  key       : UnitKey
  origin    : Nat
  state     : Nat
  count     : Nat
  cause     : Nat
  firstTick : Nat
deriving DecidableEq, Repr

/-- A history record (R62); `state` 7 is FREE, `recent` holds the eight times of RECENT. -/
structure HistRec where
  key        : UnitKey
  state      : Nat
  origin     : Nat
  retest     : Nat
  seq        : Nat
  detections : Nat
  evidence   : Nat
  firstSeen  : Nat
  lastSeen   : Nat
  recent     : List Nat
  recentNext : Nat
  fuseRev    : Nat
  created    : Nat
deriving DecidableEq, Repr

/-- A half header as read (R481). -/
structure HalfHeader where
  half    : Nat
  hseq    : Nat
  fuseRev : Nat
deriving DecidableEq, Repr

/-- A ledger command of the host that waits for its place in the tick (R51): opcode, COMMAND_ID, key or field, state. -/
structure LedgerCmd where
  opcode : Nat
  cid    : Nat
  key    : Nat
  arg    : Nat
deriving DecidableEq, Repr

structure Ledger where
  /-- Occupied entries by index (R42). -/
  slots   : Tab (Option Entry) := []
  /-- Units withdrawn though no entry could be stored (R53, R54). -/
  orphans : List UnitKey := []
  /-- Index and upper half latched by a low-half read (R43). -/
  latch   : Option (Nat × Nat) := none
  /-- Retest failures of the current start (R56). -/
  fails   : List UnitKey := []
  /-- Units that failed the latest start-up test; the fields that it tested, one bit each, and bit 32 for the lanes (R62). -/
  prevFails : List UnitKey := []
  testedFields : Nat := 0
  /-- Fields accepted by the host at this stage 5 (R59). -/
  accepted : List Nat := []
  /-- Ledger commands of the host in this tick (R51). -/
  cmds : List LedgerCmd := []
deriving DecidableEq, Repr

structure History where
  /-- Newest record of each key (history cache, R54). -/
  cache   : List HistRec := []
  /-- Records staged and not yet in flash (R64), oldest first. -/
  staged  : List HistRec := []
  /-- Records of the two halves as their 128 bytes, in order of append (R61). -/
  half0   : List Nat := []
  half1   : List Nat := []
  /-- Header sectors of the two halves: 32-byte headers in order of append; none where the sector reads erased (R481). -/
  head0   : List Nat := []
  head1   : List Nat := []
  /-- Active half, next HSEQ and next SEQ. -/
  active  : Nat := 0
  hseq    : Nat := 0
  seq     : Nat := 0
  /-- A half header waits for the flash write window (R481). -/
  headerDue : Bool := false
  /-- Records since the previous molt or the launch (R350). -/
  delta   : List HistRec := []
  /-- Last age check (R48). -/
  ageAt   : Nat := 0
deriving DecidableEq, Repr

/-! ### Host port (R383 to R401) -/

/-- A host-bound message: class, opcode or croak code, LENGTH, SEQ, COMMAND_ID, STATUS and the payload from byte 16. -/
structure Msg where
  cls     : Nat
  code    : Nat
  units   : Nat
  seq     : Nat
  cid     : Nat
  status  : Nat
  payload : Nat
deriving DecidableEq, Repr

/-- A command taken and not yet answered (R388, R389, R339). -/
structure Taken where
  cid    : Nat
  seq    : Nat
  opcode : Nat
  since  : Nat
  /-- Its first unit as it stood in the aperture; whether it has been applied (R386, R388). -/
  body   : Nat
  applied : Bool
deriving DecidableEq, Repr

structure HostPort where
  /-- Units of the command aperture, 64 bytes each (R385). -/
  aperture : Tab Nat := []
  landed   : Tab Bool := []
  /-- Tick at which the unit at HEAD was seen landed (R387). -/
  headAt   : Option Nat := none
  stuckSent : Bool := false
  taken    : List Taken := []
  /-- Outbound queue (R394), oldest first. -/
  outQ     : List Msg := []
  /-- Next SEQ of the host-bound series (R408). -/
  seqNext  : Nat := 0
  /-- Messages discarded, by class (R394). -/
  discards : Tab Nat := []
  /-- Rejection ranges (R390): first SEQ and count, oldest first. -/
  rejects  : List (Nat × Nat) := []
  /-- Start of the run of ticks at or above 244, and below it (R391); BUSY responses in that run. -/
  highSince : Option Nat := none
  lowSince  : Option Nat := none
  busyRun   : Nat := 0
  /-- Units of the Event Ring as written to host memory, by ring index. -/
  ring     : Tab Nat := []
  busMaster : Bool := false
  d3hot    : Bool := false
  /-- Last MSI-X signal (tick), a signal owed at the end of the holdoff, signals sent (R396). -/
  msixAt   : Option Nat := none
  msixOwed : Bool := false
  msixSent : Nat := 0
  /-- DETACH and RESET of the Keeper waiting for earlier commands (R388, R400). -/
  detaching : Option Nat := none
  resetting : Option Nat := none
  /-- MSI-X table entry (128 bits; bit 96 is the mask) and its pending bit (R396). -/
  msixEntry : Nat := 2 ^ 96
  msixPending : Bool := false
  /-- Latched high word of a 64-bit register (R6): address and value. -/
  latch    : Option (Nat × Nat) := none
deriving DecidableEq, Repr

/-! ### Ixfold cores (R416, R426, R429, R432) -/

/-- An event in a core's queue (R433). -/
structure CoreEv where
  kind   : Nat
  cls    : Nat
  slot   : Nat
  notice : Bool
  long   : Bool
  evseq  : Nat
  time   : Nat
  unit   : Nat
  id     : Nat
  status : Nat
  value  : Nat
  /-- The 64 bytes of its slot. -/
  body   : Nat
  popped : Bool
deriving DecidableEq, Repr

structure Shadow where
  pc    : Nat
  x     : Tab Word
  d     : Tab (BitVec 256)
  alarm : Word
  tvec  : Word
deriving DecidableEq, Repr

/-- An asynchronous operation outstanding (R436): major opcode, kind of its event, and its counter or tile. -/
structure AsyncOp where
  major : Nat
  kind  : Nat
  id    : Nat
deriving DecidableEq, Repr

/-- A LEDGER or QUAR operation that waits for its place in the tick (R51, R52, R439): 0 QUERY, 1 UPDATE, 2 ADD, 3 QUAR; key, rs2, the
registers it answers in, and once it is applied its STATUS and VALUE. -/
structure LedgerOp where
  kind : Nat
  key  : UnitKey
  arg  : Nat
  rd   : Nat
  d    : Nat
  done : Option (Nat × Nat)
deriving DecidableEq, Repr

/-- DESIGN CHOICE: log entry 3. -/
structure Core where
  loaded : Bool := false
  /-- 0 RUN, 1 WAITEV, 2 HALTED, 3 RESTARTING (R451). -/
  run    : Nat := 0
  pc     : Nat := 0
  x      : Tab Word := []
  d      : Tab (BitVec 256) := []
  imem   : Tab Byte := []
  dmem   : Tab Byte := []
  cycle  : Word := 0
  instret : Word := 0
  alarm  : Word := 0
  tvec   : Word := 0
  epc    : Word := 0
  cause  : Word := 0
  tval   : Word := 0
  restarts : Nat := 0
  lastCause : Nat := 0
  inTrap : Bool := false
  safe   : Option Shadow := none
  queue  : List CoreEv := []
  /-- Events that wait for a place in the queue (R432). -/
  waiting : List CoreEv := []
  evSeq  : Nat := 0
  async  : List AsyncOp := []
  /-- rd and mask of a WAITEV that stopped the clock (R434). -/
  wait   : Option (Nat × Nat) := none
  /-- rd of a SEMWAIT that stalls the core (R440). -/
  stall  : Option Nat := none
  /-- LEDGER or QUAR operation that stalls the core until the tick applies it (R440, R444). -/
  ledgerOp : Option LedgerOp := none
  /-- Posted stores issued since the last FENCE (R420, R441). -/
  posted : Nat := 0
  /-- Watchdog (R17): ticks counted before `wdFrom`, and the tick from which it counts. -/
  wdUsed : Nat := 0
  wdFrom : Nat := 0
  /-- Tick of the last expiry (R18). -/
  expiry : Option Nat := none
deriving DecidableEq, Repr

/-! ### Semaphore waits, parked adds, Link Warden counts (R283, R284, R289, R291) -/

inductive WaitOwner where
  | core (c : Nat) (rd : Nat) (async : Bool) | host (cid : Nat) (limit : Nat) | tile (id : Nat)
deriving DecidableEq, Repr

structure SemWait where
  owner   : WaitOwner
  counter : Nat
  n       : Nat
  consume : Bool
  since   : Nat
deriving DecidableEq, Repr

/-- An add in the Parking Buffer: entry, receiving port, packet (R290), tick parked, timeout raised. -/
structure Parked where
  slot  : Nat
  port  : Nat
  packet : Nat
  since : Nat
  timedOut : Bool
deriving DecidableEq, Repr

/-! ### Bring-up, launch, molts, recovery (R317, R278, R348, R356) -/

/-- What a stage has still to report (R327). DESIGN CHOICE: log entry 3. -/
structure Boot where
  /-- A run of stages is in progress or done; `last` is the last stage of the run. -/
  started : Bool := false
  stageFrom : Nat := 0
  runFrom : Nat := 0
  haltFrom : Option Nat := none
  haltTicks : Nat := 0
  /-- The stage overran once (R322). -/
  overran : Bool := false
  /-- Stage 2 failed once (R321). -/
  failed2 : Bool := false
  cold    : Bool := true
  /-- The AOI has power; manager time has been loaded since its power-up (R272); tick since which power-good has held. -/
  aoiOn   : Bool := true
  timed   : Bool := false
  powerGood : Option Nat := some 0
  /-- A full bring-up is in progress or due; stages 2, 3 and the training of stage 6 have passed since the loss of power. -/
  full    : Bool := true
  keeperTested : Bool := false
  stations : Bool := false
  /-- Ticks of the stages run so far (R337). -/
  total   : Nat := 0
  trained : Bool := false
  trainEnd : Nat := 0
  lastPeer : Nat := 0
  fusesRead : Bool := false
  /-- Latest Stage Report of each stage (R329). -/
  reports : Tab (Option Msg) := []
  dropped : Nat := 0
deriving DecidableEq, Repr

/-- State of a reset domain beside its STATE field (R334): when HELD began and the cause of the pending reset. -/
structure Dom where
  heldAt : Nat := 0
  cause  : Nat := 0
  /-- COMMAND_IDs of RESET to be answered when the domain reaches UP (R407). -/
  cids   : List Nat := []
  since  : Nat := 0
  /-- The port's reset waits for the recovery's molt (R332). -/
  waits  : Bool := false
deriving DecidableEq, Repr

/-- A launch, a launch barrier or a rollback barrier (R278, R250, R251). -/
structure Launch where
  running : Bool := false
  /-- A barrier is open: LAUNCH or ROLLBACK named WTC_go. -/
  barrier : Bool := false
  multi   : Bool := false
  wtcGo   : Nat := 0
  cid     : Option Nat := none
  rollback : Bool := false
  sentReady : Bool := false
  seenReady : Nat := 0
  ready   : Bool := false
  everLaunched : Bool := false
deriving DecidableEq, Repr

/-- One Flight Recorder slot (R348, R349). -/
structure MoltSlot where
  seq      : Nat
  cause    : Nat
  scope    : Nat
  field    : Nat
  tilesAbsent : Bool
  isPartial : Bool
  overwrote : Bool
  startTime : Nat
  startWtc : Nat
  duration : Nat
  bytes    : Nat
  step     : Nat
  sections : Nat
deriving DecidableEq, Repr

/-- A stall record (R344) as sampled. -/
structure StallRec where
  tile  : Nat
  info  : StallInfo
deriving DecidableEq, Repr

/-- A molt in progress: its (lower) slot, and the domains that wait for it in CAPTURE. -/
structure MoltRun where
  info  : MoltSlot
  slot  : Nat
  wafer : Bool
  doms  : List Nat
deriving DecidableEq, Repr

structure Molts where
  /-- The four slots; a wafer-scope molt stands in both slots of its pair. -/
  slots : Tab (Option MoltSlot) := []
  /-- Copies in the flash slots. -/
  flash : Tab (Option MoltSlot) := []
  seq   : Nat := 0
  /-- Molts in progress, oldest first. -/
  busy  : List MoltRun := []
  /-- A molt notice is due when the restart reaches UP (R410). -/
  noticeDue : List Nat := []
deriving DecidableEq, Repr

structure Recovery where
  /-- Completion times of automatic recoveries (R356). -/
  done   : List Nat := []
  /-- The recovery in progress was requested by the host (R358). -/
  byHost : Bool := false
  /-- RECOVER commands to be answered at the release that ends the recovery (R407). -/
  cids   : List Nat := []
  /-- Naming window: tick it opened, stall records gathered (R344). -/
  naming : Option Nat := none
  stalls : List StallRec := []
  /-- No further naming window opens (R344, R346). -/
  closed : Bool := false
deriving DecidableEq, Repr

/-- Hidden state of a switchable function (R267): tick it entered OFF, DISABLE_PENDING. -/
structure FnState where
  offAt : Nat := 0
  disablePending : Bool := false
  startAt : Nat := 0
  /-- First write of the latest tick in which ENABLE was written, and what stood before it: request, STATE,
  ENABLE_PENDING, DISABLE_PENDING, tick of OFF (R268). -/
  wroteAt : Option Nat := none
  before : Nat × Nat × Nat × Bool × Nat := (0, 0, 0, false, 0)
deriving DecidableEq, Repr

/-! ### Tiles, the wafer map, regrowth and epochs (R38, R73, R83, R88, R192, R209, R212, R223) -/

/-- A Remap Table entry (R223), with the whole logical ID; `kind` 0 launch map, 1 regrowth, 2 rotation. -/
structure Remap where
  logical  : Nat
  physCol  : Nat
  kind     : Nat
  tadpole  : Bool
  copyFill : Bool
  epoch    : Nat
deriving DecidableEq, Repr

/-- An entry of a field's armed queue (R117, R118). -/
structure Armed where
  tile      : Nat
  commanded : Bool
  at_       : Nat
  /-- Stale until the tile's next report: its GO lapsed, or its command was picked (R118, R121). -/
  stale     : Bool
deriving DecidableEq, Repr

/-- A beat of the capture queue (R100, R101, R103): a pre-image for the snapshot pass, the end pass or both, records of one tile
cycle, or the signature. -/
inductive CapBeat where
  | line (l data : Nat) (snap fin : Bool) | records (l : List Nat) | signature
deriving DecidableEq, Repr

/-- The capture of a checked tile (R99 to R105): the context latched at t0 (lines 0 to 15) and the tile's SRAM as it stands (lines 16
to 783); the context latched at t0 + W; tile cycles since t0; the taken bits of the snapshot pass and of the end pass; the capture queue, oldest first; records
captured; the run of stalled cycles in progress (first cycle and length); the signature; the sum of the end digest so far; the
signature's beat has been sent. -/
structure Capturing where
  image   : Tab Nat := []
  context : Tab Nat := []
  cycle   : Nat := 0
  taken   : Nat := 0
  taken2  : Nat := 0
  queue   : List CapBeat := []
  records : Nat := 0
  stall   : Option (Nat × Nat) := none
  misr    : Nat := 0
  sum     : Nat := 0
  queued  : Bool := false
  done    : Bool := false
deriving DecidableEq, Repr

/-- An episode or an outstanding GO (R106, R107, R114, R124). `phase`: 0 GO, 1 RECORD, 2 REPLAY, 3 READOUT, 4 CONFIRM. -/
structure Episode where
  tile    : Nat
  logical : Nat
  spare   : Nat
  spare2  : Nat := 0
  slot    : Nat
  phase   : Nat := 0
  select  : Nat
  number  : Nat := 0
  window  : Nat
  quota   : Nat
  goAt    : Nat
  t0      : Nat := 0
  startWtc : Nat := 0
  streamPos : Nat := 0
  saved   : Nat := 0
  overdue : Nat := 0
  epoch   : Nat := 0
  /-- The tile is active and waits for its row bus and a port (R121). -/
  ready   : Bool := false
  cap     : Capturing := {}
  /-- The first spare has been loaded; ticks at which the load and the readout of the spare in use were granted. -/
  loaded  : Bool := false
  loadAt  : Option Nat := none
  readAt  : Option Nat := none
  /-- Signatures and end digests differ; the search for a second spare began. -/
  sigDiff : Bool := false
  sramDiff : Bool := false
  confirmAt : Nat := 0
  /-- Results of the checked tile and of the first spare (R109). -/
  tileRun : Option RunResult := none
  spareRun : Option RunResult := none
deriving DecidableEq, Repr

/-- An episode that has met a condition of R112 in the tick in progress: verdict, reason, CONFIRM and the spares that receive
REPLAY_SPARE. Of several in one tick the lowest code wins (R113). -/
structure Ending where
  ep      : Episode
  verdict : Nat
  reason  : Nat
  confirm : Nat
  spares  : List Nat
deriving DecidableEq, Repr

/-- What a transfer on a row's transplant bus is for (R23, R24, R206, R208). -/
inductive Xfer where
  /-- The capture of a checked tile; the load and end readout of a replay spare (R24). -/
  | capture | load | readout
  /-- A transplant or a copy fill's staging; a rotation move, out or back (R206, R208). -/
  | transplant | move
deriving DecidableEq, Repr

/-- A transfer that holds a row's transplant bus (R23): the tile whose transfer it is, what it is of (the checked tile, or the logical
tile), the tick of its grant, and its length in tile cycles where that is fixed. -/
structure Transfer where
  what  : Xfer
  tile  : Nat
  owner : Nat
  since : Nat
  beats : Option Nat
deriving DecidableEq, Repr

/-- What a Sentinel holds beside its registers. -/
structure Tile where
  /-- Tap (R73, R83, R88): tick it entered OFF and STARTING, LFSR, BLOCK_SEQ, hold period, mismatches held back and the
  last of them, the block in progress at a Disable already judged. -/
  tapOffAt  : Nat := 0
  tapStartAt : Nat := 0
  lfsr      : Nat := 0
  tapSeq    : Nat := 0
  holdFrom  : Option Nat := none
  held      : Nat := 0
  heldInfo  : Nat := 0
  drained   : Bool := false
  /-- Quarantine (R192): stall line, collar sides closed, frozen; tick the stall line rose. -/
  stall     : Bool := false
  collarOut : Bool := false
  collarIn  : Bool := false
  frozen    : Bool := false
  stallAt   : Nat := 0
  /-- The tile replays an episode; it is under self-test. -/
  replaying : Bool := false
  /-- The tap went from STARTING to DRAINING and was never ON (R88). -/
  tapNever  : Bool := false
  /-- Active matrix cycles since the last arm report (R117). -/
  sinceArm  : Nat := 0
  underTest : Bool := false
  /-- A test failed in its window, and its context stands in its save area (R181). -/
  inWindow  : Bool := false
  /-- WTC at the start of the visit before the latest scrub visit (R159). -/
  scrubPrev : Nat := 0
deriving DecidableEq, Repr

/-- What a Field Station holds beside its registers. -/
structure FieldSt where
  /-- Taps allotted (n_f) and tick of the last advance of the window (R90). -/
  tapN      : Nat := 0
  tapAdvAt  : Nat := 0
  /-- WINDOW_START and n_f before the latest change of the window (R90); ROT_PERIOD in force (R95). -/
  tapWas    : Nat × Nat := (0, 0)
  rotNow    : Nat := 1000
  /-- Armed queue, oldest first; tick of the last episode slot; episode numbers in hand (R117, R119, R125). -/
  armed     : List Armed := []
  slotAt    : Nat := 0
  epNext    : Nat := 0
  epEnd     : Nat := 0
  /-- LFSR of the random picks (R119), and QUOTA_LOG2 as the Sentinels last evaluated it (R129). -/
  lfsr      : Nat := 0
  quotaSeen : Nat := 30
  /-- Beats delivered over the station's spine link (R26). -/
  beats     : Nat := 0
  /-- Verdict records of the episodes that a reset of the station abandoned, counted when it returns (R115). -/
  owed      : List Nat := []
  /-- Tick of the field's latest MATCH or MISMATCH (R131). -/
  verdictsAt : Option Nat := none
  /-- Self-test: tick of the last visit slot, tick at which every unit was stamped, next pack slice, last clearing of
  the correctable-error counters (R176, R182, R186). -/
  visitSlotAt : Nat := 0
  /-- Scrub pass (R160): tick it began, position ℓ of the next tile, in progress; the last pass end, and the start of
  the span over which the scrub share held 4 mW. -/
  scrubAt     : Nat := 0
  scrubPos    : Nat := 0
  scrubOn     : Bool := false
  scrubEnd    : Option Nat := none
  scrubFed    : Bool := true
  visitStamp  : Nat := 0
  /-- A reset of the station has made every unit due at once (R177). -/
  allDue      : Bool := false
  packPtr     : Nat := 0
  ceClearAt   : Nat := 0
deriving DecidableEq, Repr

/-- A regrowth (R209). `phase`: 0 QUEUED, 1 CLAIM, 2 CHECK, 3 FILL, 4 COMMIT, 5 DRAIN, 6 HANDED, 7 REFUSED. -/
structure Regrowth where
  logical  : Nat
  failed   : Nat
  cause    : Nat
  phase    : Nat := 0
  /-- Fill engine held, 2 for none. -/
  engine   : Nat := 2
  tried    : List Nat := []
  target   : Option Nat := none
  candidate : Option Nat := none
  tries    : Nat := 0
  slackFailed : Bool := false
  worstExcess : Nat := 0
  worstSpread : Nat := 0
  worstSlack  : Nat := 0
  worstQueue  : Nat := 0
  copyFill : Bool := false
  /-- The check passed and the claim waits for its place in the tick (R216, R265). -/
  passed   : Bool := false
  /-- The row bus is asked for; the transplant runs; its digests differed once (R206). -/
  asked    : Bool := false
  filling  : Bool := false
  retried  : Bool := false
  /-- Tick at which a clear of the tadpole began that its commit waits for (R206). -/
  clearFrom : Option Nat := none
  /-- Save area of the open test window in which the tile was quarantined: the transplant takes the context from it (R206). -/
  save     : Option Nat := none
  since    : Nat := 0
  /-- Timeout time used before `runFrom` (R209). -/
  used     : Nat := 0
  runFrom  : Nat := 0
  refusedAt : Nat := 0
  /-- Tick at which the transplant began. -/
  fillAt   : Nat := 0
  epoch    : Nat := 0
  layer    : Nat := 0
  /-- 0 a regrowth, 1 a rotation move out, 2 a move back (R172, R208); `phase` 8 is a rotation move done. -/
  rot      : Nat := 0
  /-- The commit request is in the batch that drains. -/
  inBatch  : Bool := false
  /-- Old-epoch tokens of its batch were discarded. -/
  discarded : Bool := false
deriving DecidableEq, Repr

/-- A Resident Digest Table as its Sentinel loaded it at the launch (R157, R158): its place in the tile's SRAM, windows (OPEN_POS,
CLOSE_POS) and entries (BLOCK, WINDOW). -/
structure ResidentTable where
  base    : Nat
  seed    : Nat
  windows : List (Nat × Nat)
  entries : List (Nat × Nat)
deriving DecidableEq, Repr

/-- A Test Window Table as loaded at the launch (R173): SAVE_ADDR and windows (OPEN_POS, LENGTH). -/
structure WindowTable where
  save    : Nat
  windows : List (Nat × Nat)
deriving DecidableEq, Repr

/-- A copy header, its fields (R241). `layer` is its code. -/
structure CopyHeader where
  layer     : Nat
  state     : Nat
  coFed     : Bool
  hazard    : Bool
  engine    : Nat
  drives    : Nat
  step      : Nat
  boundaryWtc : Nat
  bytes     : Nat
  mapDigest : Nat
  content   : Nat
deriving DecidableEq, Repr

/-- The epoch function beside KPR_EPOCH (R212). -/
structure EpochFn where
  drainAt  : Nat := 0
  drainWtc : Nat := 0
  /-- The drain in progress is for a program change. -/
  program  : Bool := false
  /-- Commits in the batch. -/
  batch    : Nat := 0
  discards : List LeftFlits := []
  drains   : Nat := 0
deriving DecidableEq, Repr

/-- A generation of the copy directory (R241, R243). `state`: 1 WRITING, 2 VALID, 3 VOID, 4 LOST. -/
structure Gen where
  layer     : Nat
  state     : Nat
  coFed     : Bool
  hazard    : Bool
  engine    : Nat
  drives    : Nat
  step      : Nat
  wtc       : Nat
  bytes     : Nat
  mapDigest : Nat
  content   : Nat
  committed : Bool
  /-- Tick at which its writing began. -/
  since     : Nat
  /-- Its slot on the drives (R231); its transfer has been granted the port or the link share (R265). -/
  slot      : Nat := 0
  started   : Bool := true
  /-- The securing it is of: REASON, tick of the boundary, ticks held (R255). -/
  reason    : Nat := 0
  boundaryAt : Nat := 0
  hold      : Nat := 0
deriving DecidableEq, Repr

/-- A securing in its capture phase (R238): layers not yet committed, and whether every read has left the tiles. -/
structure Capture where
  step    : Nat
  wtc     : Nat
  reason  : Nat
  layers  : List Nat
  since   : Nat
  hold    : Nat
  released : Bool
  /-- A trickle to the shared store follows at commit (SECURE, R440). -/
  toStore : Bool
  /-- The holder was lost: the hold lasts until flash commits (R249). -/
  flashToo : Bool
  hazard  : Bool := false
  /-- A layer has committed (KPR_SEC_SECURINGS). -/
  counted : Bool
  /-- Content digest of what the tiles were read to hold (R229). -/
  content : Nat := 0
deriving DecidableEq, Repr

/-- A trickle (R240): directory entries of its source and destination. -/
structure Trickle where
  src   : Nat
  dst   : Nat
  since : Nat
deriving DecidableEq, Repr

/-- A rollback command being carried out, or held (R250, R251, R356). -/
structure Rollback where
  cid    : Option Nat
  step   : Nat
  wtcGo  : Nat
  /-- 0 held for stage 5, 1 waits for the drain, 2 reloads, 3 waits at the barrier. -/
  phase  : Nat
  /-- Directory entry being reloaded, and those that failed. -/
  gen    : Option Nat
  since  : Nat
  asked  : Nat
  /-- The reload has been granted its port or link share (R265). -/
  started : Bool := false
deriving DecidableEq, Repr

/-- A Partner Directory entry (R245): `state` 1 ACTIVE, 2 PAUSED, 3 LOST; `seen` is the tick of its latest HELLO. -/
structure Peer where
  engine   : Nat
  feed     : Nat
  versions : Nat
  grade    : Nat
  state    : Nat
  role     : Nat
  missed   : Nat
  reserve  : Nat
  seen     : Nat
  /-- Tick of the latest HELLO, miss or pause, from which the next 100,000 or 3,000,000 ticks count. -/
  mark     : Nat
  holdsClient : Bool
  port     : Nat
deriving DecidableEq, Repr

/-- A closing message parked at this holder (R239). -/
structure Closing where
  port   : Nat
  source : Nat
  fseq   : Nat
  header : CopyHeader
deriving DecidableEq, Repr

/-- Securing beside its registers (R233 to R254). -/
structure Sec where
  /-- Copy directory, entries 0 to 11 (R243). -/
  gens     : Tab (Option Gen) := []
  /-- WTC of each add to BOUNDARY_SEM not yet taken (R233). -/
  adds     : List Nat := []
  /-- A boundary taken that waits for a regrowth by transplant (R235): step, WTC, tick, layers mask, reason. -/
  waiting  : Option Capture := none
  capture  : Option Capture := none
  trickles : List Trickle := []
  /-- The hazard index rose past HZ_SECURE since the previous boundary; a renewal is due (R234). -/
  hazRise  : Bool := false
  renewal  : Bool := false
  /-- SECURE requests: step (0 for the next boundary) and layers (R440, R445). -/
  named    : List (Nat × Nat) := []
  /-- Securings since the last flash copy, flash copies since the last store copy (R240). -/
  flashRun : Nat := 0
  storeRun : Nat := 0
  /-- Drives that have come up: logical block size and blocks of namespace 1 (R231). -/
  drives   : Tab (Nat × Nat) := []
  /-- A ROLLBACK_NEEDED is current, with the voiding WTC that caused it (R250). -/
  needed   : Bool := false
  voidWtc  : Option Nat := none
  /-- Tick of the rollback request that stands (R250), from which its record counts (R255). -/
  neededAt : Option Nat := none
  /-- WTC of the latest void (R244). -/
  lastVoid : Option Nat := none
  rollback : Option Rollback := none
  /-- Partner Directory, entries 0 to 63 (R245). -/
  peers    : Tab (Option Peer) := []
  ignoredHellos : Nat := 0
  /-- Holder named by PAIR; candidates tried in this choice; peer asked. -/
  hostNamed : Option Nat := none
  tried    : List Nat := []
  asked    : Option Nat := none
  sessionKey : Option Nat := none
  /-- Management sequence number (R411). -/
  mseq     : Nat := 0
  /-- Copy held for the client (R239), closing messages parked, and the tick at which the client was lost. -/
  held     : Option Gen := none
  closings : List Closing := []
  clientLostAt : Option Nat := none
  clientKey : Option Nat := none
  /-- Tick of the latest HELLO sent; tick at which the client was taken, and the PAIR_ACK sent to it (R412, R413). -/
  helloAt  : Nat := 0
  clientAt : Nat := 0
  ackSent  : Nat := 0
  /-- KPR_SEC_CFG as the current securing took it: a change takes effect at the next (R256). -/
  cfg      : Nat := 0x25864119
deriving DecidableEq, Repr

/-! ### Self-test visits (R168 to R191) -/

/-- Who ordered a visit. -/
inductive VisitOwner where
  | function | host (cid : Nat) | core (c : Nat) | register
deriving DecidableEq, Repr

/-- A visit (R175): its state stands in TSN_ST_CTRL. `item`: 0 the march, 1 to 32 base slices, 33 and above packs. -/
structure Visit where
  tile    : Nat
  logical : Option Nat
  spare   : Nat := 0
  path    : Nat
  owner   : VisitOwner
  mode    : Nat
  since   : Nat
  item    : Nat := 0
  /-- Items run since the visit began, one bit each. -/
  ran     : Nat := 0
  /-- Router slices alone remain (R174). -/
  routersOnly : Bool := false
  packsLeft : Nat := 0
  packFirst : Nat := 0
  banks   : Nat := 0
  slices  : Nat := 0
  packFail : Nat := 0
  packId  : Nat := 0
  patterns : Nat := 0
  cycles  : Nat := 0
  /-- Tile cycles left in the open window (R174). -/
  window  : Nat := 0
  aborted : Bool := false
  /-- The next item waits for room under the limit of R178; the tile is held isolated until its station returns (R181). -/
  paused  : Bool := false
  held    : Bool := false
deriving DecidableEq, Repr

/-- A stored pattern pack (R184). -/
structure Pack where
  slot     : Nat
  id       : Nat
  revision : Nat
  saGain   : Nat
  trGain   : Nat
  /-- Descriptors: seed, patterns, target, golden. -/
  slices   : List (Nat × Nat × Nat × Nat)
  /-- It stands in flash; it takes part in visits. -/
  stored   : Bool
  active   : Bool
  cid      : Option Nat
  since    : Nat
  /-- The pack as stored. -/
  bytes    : List Byte
deriving DecidableEq, Repr

structure SelfTest where
  visits  : List Visit := []
  /-- Progress of an incomplete window visit, by tile. -/
  parked  : List Visit := []
  /-- Tick of the last completed visit: logical tiles at their ID, free spares at 2¹⁹ + physical ID. -/
  done    : Tab Nat := []
  /-- Units whose lateness has been reported (R177). -/
  late    : List Nat := []
  packs   : List Pack := []
  /-- Visits ordered that the limit does not yet let in: tile, who ordered it, MODE (R178, R187). -/
  orders  : List (Nat × VisitOwner × Nat) := []
  /-- Tiles whose record on its way is of a diagnostic visit (R189). -/
  diag    : List Nat := []
  /-- Descriptors of active packs that ran on a tile: key (tile·16 + slot)·2¹⁴ + index. -/
  ran     : Tab Bool := []
  /-- SCAN_ENTRY writes accepted so far and the tick of the first (R188). -/
  scanStep : Nat := 0
  scanAt  : Nat := 0
deriving DecidableEq, Repr

/-- One contributor's answer to a roll call (R148, R149). -/
structure RollAnswer where
  engine : Nat
  stale  : Bool
  /-- Digest of the re-sent data, once it has all arrived. -/
  data   : Option Nat
deriving DecidableEq, Repr

/-- A chorus (R145, R146). `phase`: 0 OPEN, 1 COMPARE, 2 waits for this Warden's roll call, 3 ROLLCALL. -/
structure Chorus where
  coll    : Nat
  inst    : Nat
  chunk   : Nat
  phase   : Nat := 0
  /-- Announcements accepted: engine, digest and sending port. -/
  anns    : List (Nat × Nat × Nat) := []
  digest  : Nat := 0
  got     : Nat := 0
  openWtc : Nat
  openAt  : Nat
  tagFail : Bool := false
  rollAt  : Nat := 0
  answers : List RollAnswer := []
deriving DecidableEq, Repr

/-- An entry of the announcement log (R144). -/
structure LoggedAnn where
  coll     : Nat
  inst     : Nat
  chunk    : Nat
  digest   : Nat
  transfer : Nat
deriving DecidableEq, Repr

/-- What waits at a port's ingress for a chorus entry (R146). -/
inductive Piece where
  | ann (a : Announcement) | data (coll inst chunk index : Nat) (words : List (BitVec 32))
deriving DecidableEq, Repr

/-- A chunk re-issued for a roll call, and its receiver; the link share has been granted (R148, R265). -/
structure Reissue where
  logged   : LoggedAnn
  receiver : Nat
  granted  : Bool := false
deriving DecidableEq, Repr

/-- A scrub visit in progress (R159): the entries not yet treated, by their place in the table. -/
structure ScrubVisit where
  tile    : Nat
  left    : List Nat
deriving DecidableEq, Repr

/-- What the Hazard Unit and the Escape Account remember (R312, R314, R466): ticks of class 8 events, droop events with
the unit of their detector, and detections with their field (32 for none); the latest partner loss. -/
structure HazardSt where
  ce     : List Nat := []
  warn   : List (Nat × Nat) := []
  deep   : List (Nat × Nat) := []
  dets   : List (Nat × Nat) := []
  partnerAt : Option Nat := none
deriving DecidableEq, Repr

/-- What a Link Warden holds beside its registers (R289, R291, R292). -/
structure Warden where
  sent    : Tab Nat := []
  landed  : Tab Nat := []
  /-- FSEQ watched for a source (R291). -/
  watch   : Tab Nat := []
  /-- Remote-add sequence number of this wafer's adds (R290). -/
  addSeq  : Nat := 0
  /-- Adds held at ingress (R292), oldest first. -/
  ingress : List Nat := []
  /-- Chorus table (R145), oldest first; keys of choruses closed in this launch. -/
  chorus  : List Chorus := []
  closed  : List (Nat × Nat × Nat) := []
  /-- Announcement log, oldest first (R144); announcement sequence number; instances begun of each COLL, at egress and at ingress
  (R140). -/
  annLog  : List LoggedAnn := []
  annSeq  : Nat := 0
  insts   : Tab Nat := []
  instsIn : Tab Nat := []
  /-- New-epoch flits held at ingress while the epoch function drains (R213): COLL, CHUNK and index. -/
  heldFlits : List (Nat × Nat × Nat) := []
  /-- Chunks of which an announcement was discarded for its tag alone; pieces held at ingress, oldest first; chunks
  re-issued for roll calls. -/
  tagFails : List (Nat × Nat × Nat) := []
  pieces  : List Piece := []
  reissues : List Reissue := []
  /-- Management messages discarded (R15, R411). -/
  discards : Nat := 0
  /-- Lanes that wait to retrain; ticks of each lane's retrains of the last hour, newest first, and its failures in a row;
  tick of the latest attempt to train the port (R324 to R326). -/
  retrainQ : Nat := 0
  retrains : Tab (List Nat) := []
  failRuns : Tab Nat := []
  trainAt  : Nat := 0
deriving DecidableEq, Repr

/-- What the block has sent out (R468): management and fabric messages, markers and requests to the host wafer. -/
inductive Out where
  /-- A management message to an engine (R411). -/
  | mgmt (dest : Nat) (bytes : Nat)
  /-- A digest announcement, roll call, answer or name notice from a Warden (R143). -/
  | digest (port dest : Nat) (bytes : Nat)
  /-- A logged transfer re-issued to one receiver (R148). -/
  | reissue (port transfer receiver : Nat)
  /-- The closing message of a copy to its holder: fence sequence and copy header; the holder's acknowledgement (R239). -/
  | closing (dest fseq header : Nat) | closingAck (port dest : Nat)
  /-- A remote add leaving a Warden (R290). -/
  | remoteAdd (port : Nat) (packet : Nat)
  /-- A record a Sentinel sends on the warden channel (R82, R161, R183, R344). -/
  | record (tile : Nat) (bytes : Nat)
  /-- READY and ABORT markers (R278). -/
  | ready (port : Nat) | abort (port : Nat)
  /-- Tiles released at a launch (true) or stopped (false). -/
  | tiles (run : Bool)
  /-- The program loader started with the interrupted program (R356). -/
  | loader
  /-- A power lowering request to the board (R308). -/
  | powerShed
  /-- The answer of the I3C target (R477) and of the test access port (R474). -/
  | i3c (ack : Bool) (bytes : Nat) | jtag (value : Nat)
  /-- A word read by the host or core through BAR0 (R5, R6); a word marked poisoned (R28). -/
  | read (addr : Nat) (value : Nat) | readPoisoned (addr : Nat)
  /-- The resend of a spine beat is requested (R26). -/
  | resend (f : Nat)
  /-- A replay spare is loaded from a slot and runs W cycles with the records delivered at their offsets (R108). -/
  | replay (spare window : Nat) (image : Tab Nat) (records : List Nat)
  /-- The redirect state loaded into the routers (R469): Remap Table entries by key. -/
  | redirect (table : List (Nat × Remap))
  /-- A transplant runs over a row bus; the context comes from the tile or from the save area named (R206). -/
  | fill (src dst : Nat) (save : Option Nat)
  /-- An old-epoch flit forwarded over a row bus to the same input port of the new tile (R213). -/
  | forward (src dst port : Nat) (header : Nat)
  /-- A fabric flit enters the mesh at a Warden, stamped with the epoch (R211): COLL, CHUNK and index. -/
  | flit (port epoch coll chunk index : Nat)
  /-- Blocks read from or written to a drive; a copy header written to the first LBA of a slot on every drive of a mask, with Force
  Unit Access (R231, R239). -/
  | flash (write : Bool) (drive lba count : Nat) | flashHeader (drives lba header : Nat)
  /-- The header of a copy written to the shared store (R239, R244). -/
  | storeHeader (header : Nat)
deriving DecidableEq, Repr

/-- What is remembered of one monitor (R297, R299): the condition of R299 stands; samples since its last detection, and
samples at which it was absent; consecutive samples far from the median, and unchanged; twice the least and greatest median
over the latter; the last ten readings, newest first; ticks of the events of a droop detector. -/
structure Monitor where
  cur    : Bool := false
  run    : Nat := 0
  absent : Nat := 0
  far    : Nat := 0
  still  : Nat := 0
  lo     : Int := 0
  hi     : Int := 0
  last   : List Int := []
  events : List Nat := []
  /-- The condition held at a sample of this start's retest (R299). -/
  failed : Bool := false
deriving DecidableEq, Repr

/-- The monitors of a field: tick of its latest sample, samples since its reset (up to 11), consecutive samples calm
(R304) and cool (R302), sensors that met R303 at the latest sample, tick of the latest DROOP_DEEP notice, AGING and
SENSOR_BLIND told; power samples of the last 10,000 ticks, newest first (R471). -/
structure MonField where
  at_     : Option Nat := none
  samples : Nat := 0
  calm    : Nat := 0
  cool    : Nat := 0
  rose    : Nat := 0
  deepAt  : Option Nat := none
  aged    : Bool := false
  blind   : Bool := false
  power   : List (Nat × Nat) := []
deriving DecidableEq, Repr

/-- The wafer's monitors: start of the thermal hold and the field, sensor and reading behind it; tick of the AOI sample, its
consecutive cool samples and samples far from the corner mean; the bound that closed the flash write window (1 low,
2 high); power shed since, told, and below the cap since (R308); the marks of R309; tick of the latest hazard computation
and the thresholds that H met then; compute ticks since the Keeper reset, those at the latest estimate, and the spans of
compute time (R466). -/
structure MonWafer where
  holdAt   : Nat := 0
  holdSrc  : Nat × Nat × Nat := (0, 0, 0)
  /-- HOLD_SEEN was 0 when the hold began (R304). -/
  holdNew  : Bool := false
  aoiAt    : Option Nat := none
  aoiCool  : Nat := 0
  aoiFar   : Nat := 0
  closedBy : Nat := 0
  shedAt   : Option Nat := none
  capTold  : Bool := false
  underAt  : Option Nat := none
  driftTick : Nat := 0
  driftWtc  : Nat := 0
  hzAt     : Nat := 0
  hzAbove  : Nat := 0
  escTicks : Nat := 0
  escLast  : Nat := 0
  spans    : List (Nat × Nat) := []
deriving DecidableEq, Repr

/-- Two flash sectors of 32-byte records, appended in turn (R273, R461): (SEQ, value) of each record, oldest first. -/
structure FlashLog where
  sec0   : List (Nat × Nat) := []
  sec1   : List (Nat × Nat) := []
  active : Nat := 0
deriving DecidableEq, Repr

/-- Screening shares as they are in force (R463): scrub, replay, self-test, STARTUP. DESIGN CHOICE: log entry 3. -/
structure Shares where
  scrub   : Nat := 12
  replay  : Nat := 10
  test    : Nat := 30
  startup : Nat := 600
deriving DecidableEq, Repr

/-- A firmware image in a flash slot (R447): its bytes, and whether it verifies (R448). DESIGN CHOICE: log entry 3. -/
structure FwImage where
  bytes : List Byte
  valid : Bool
deriving DecidableEq, Repr

/-- The flash as delivered holds an image in slot A (log entry 16): VERSION 1, REVISION 0, any STEPPING, empty segments. DESIGN CHOICE: log entry 16. -/
def factoryImage : FwImage :=
  ⟨[1, 0, 0, 0, 0, 0, 0, 0, 0xFF, 0xFF] ++ List.replicate 246 0, true⟩

/-- Firmware slots A and B, the image being written to the slot that does not run, and the image cache (R447 to R449). DESIGN CHOICE: log entry 16. -/
structure Firmware where
  slotA  : Option FwImage := some factoryImage
  slotB  : Option FwImage := none
  staged : Option FwImage := none
  cache  : List Byte := []
deriving DecidableEq, Repr

/-- The run (R372 to R377): PROGRAM_DIGEST of the current run, the host's digests, its counts, and whether an input of
the Run Digest has changed since it was last formed. -/
structure RunSt where
  cur       : Option Nat := none
  weights   : Nat := 0
  input     : Nat := 0
  rollbacks : Nat := 0
  regrowths : Nat := 0
  stale     : Bool := false
deriving DecidableEq, Repr

/-- The state of the manager. DESIGN CHOICE: log entry 3. -/
structure State where
  /-- Commands waiting, first in first out (the model's own). -/
  pending : List Instr := []
  /-- Index of the next free value (the model's own; log entry 5). -/
  freeCtr : Nat := 0
  /-- Manager time (R272): [63:48] wrap count, [47:0] AOI_TICK. -/
  now     : Nat := 0
  /-- Wafer Time Counter (R275). -/
  wtc     : Nat := 0
  /-- Register fields by key (`regKey`). -/
  regs    : Tab Nat
  fuses   : Fuses := {}
  /-- FEED_ID and I3C_SA straps as sampled at stage 0. -/
  feedId  : Nat := 0
  i3cSa   : Nat := 0
  boot    : Boot := {}
  doms    : Tab Dom := []
  fns     : Tab FnState := []
  events  : List Ev := []
  /-- Records held back while their slice is full (R264). -/
  heldRecs : List Ev := []
  /-- Last events applied, newest first (R350). -/
  evLog   : List Ev := []
  ledger  : Ledger := {}
  hist    : History := {}
  host    : HostPort := {}
  cores   : Tab Core := []
  waits   : List SemWait := []
  park    : List Parked := []
  launch  : Launch := {}
  molts   : Molts := {}
  recov   : Recovery := {}
  /-- Tile clock (MHz) and power cap (10 W) in force: KPR_TILE_CFG as the latest launch took it (R460). -/
  clock   : Nat := 1100
  cap     : Nat := 2800
  tiles   : Tab Tile := []
  fields  : Tab FieldSt := []
  /-- A launch map is in force (R38). -/
  mapBuilt : Bool := false
  /-- Remap Tables: entry i of field f at key 1024 f + i (R223). -/
  remap   : Tab (Option Remap) := []
  regrows : List Regrowth := []
  epochFn : EpochFn := {}
  sec     : Sec := {}
  st      : SelfTest := {}
  /-- The program loaded, and one whose change waits for the drain (R211, R212, R372). -/
  prog    : Option Program := none
  progNext : Option Program := none
  /-- Episodes and GOs of the wafer, oldest first (R124). -/
  episodes : List Episode := []
  /-- Episodes that end in this tick (R113). -/
  ending  : List Ending := []
  /-- Transfers that hold row buses and Replay Buffer ports (R23, R24), oldest first; rotating pointers of the arbitrated resources
  (R265). -/
  transfers : List Transfer := []
  rotors  : Tab Nat := []
  /-- Replay Buffers (R106): 128-byte lines at key 32768·field + line. -/
  replayBuf : Tab Nat := []
  /-- Words of manager memories that were found uncorrectable and not written since (R28). -/
  poison  : List MemWord := []
  wardens : Tab Warden := []
  /-- Poisoned counters for which firmware has requested recovery (R286). -/
  poisonAsked : List Nat := []
  /-- WTC_go of the current program (R295); 2⁶⁴ after a program change until the new program is launched. -/
  goWtc   : Nat := 0
  /-- The job digest key in the key store (R153), byte 0 least significant. -/
  jobKey  : Option Nat := none
  /-- Remap Table words whose reads return zero (R218), by key. -/
  remapBad : List Nat := []
  scrubs  : List ScrubVisit := []
  /-- Resident Digest Tables and Test Window Tables as loaded at the launch (R158, R173); blocks sealed since the launch and not
  written in window since, at key 384·tile + block (R158). -/
  tables  : Tab (Option ResidentTable) := []
  winTabs : Tab (Option WindowTable) := []
  sealed  : Tab Bool := []
  /-- Tile SRAM as the manager's ports reach it: 128-byte lines at key 768·tile + line (R100, R159, R206). -/
  sram    : Tab Nat := []
  /-- Spares being cleared of fill beats, and since when (R197). -/
  clears  : List (Nat × Nat) := []
  /-- Redirect state that the routers hold, by key of the Remap Tables (R469). -/
  redirect : Tab (Option Remap) := []
  /-- Fields whose boundary routers refuse every flit and whose tile clocks are gated, one bit each (R220). -/
  shut    : Nat := 0
  /-- Field after the last one served with a scrub turn (R160). -/
  scrubNext : Nat := 0
  hz      : HazardSt := {}
  /-- Correctable-error counts of tile SRAM banks at key 12·tile + bank; 32 is added once the bank has given its
  detection (R182). -/
  ceCounts : Tab Nat := []
  run     : RunSt := {}
  /-- Tick of the latest timestamp exchange with the parent, and the correction still to be slewed, in units of 0.1 ns
  (R275, R276). -/
  wtcSyncAt : Nat := 0
  wtcSlew : Int := 0
  /-- Monitors at the unit part of their key, monitors of a field, of the wafer. -/
  mons    : Tab Monitor := []
  monF    : Tab MonField := []
  mon     : MonWafer := {}
  /-- Time anchors and identity records in the ledger flash, and an identity record that waits for the flash write window
  (R273, R461). -/
  anchors : FlashLog := {}
  idents  : FlashLog := {}
  identDue : Bool := false
  shares  : Shares := {}
  fw      : Firmware := {}
  /-- Tick at which GO was set, at key 2f + set (R456). -/
  tsnGo   : Tab Nat := []
  /-- Dynamic address of the I3C target (R477). -/
  i3cAddr : Option Nat := none
  /-- The 8 status bytes as the AOI latched them at the latest tick, byte 0 least significant (R477). -/
  i3cLatch : Nat := 0
  /-- Keeper Store bytes (R18 table, R321): offsets 0 to 0x5FF_FFFF, unlisted bytes zero. -/
  ks      : Tab Byte := []
  out     : List Out := []
deriving DecidableEq, Repr

/-- The key of a register field: instance index above, field below. -/
def regKey (F : RF) (i : Nat) : Nat := i * 512 + F.ctorIdx

/-- The reset value of the field that a key names. -/
def regDefault (k : Nat) : Nat := (RF.ofNat (k % 512)).spec.reset

/-- The machine right after reset: the Always-On Island has just powered up; every register holds its reset value.
KPR_TILE_CFG holds the limits of the fused grade A (R460, log entry 4). DESIGN CHOICE: log entries 3, 4. -/
def State.reset : State :=
  { regs := Tab.set regDefault (Tab.set regDefault [] (regKey .kprTileCfgClockMhz 0) 1100)
      (regKey .kprTileCfgCap10w 0) 2800 }

end Sys2Proof.Machine
end

