-- ==== Sys2Proof/Machine/Ops.lean ====
section
/-! DEFINITION. The named operations every command is written with: little-endian packing and the two CRCs, register
fields, units, reset domains, events and posts to cores, host-bound messages. -/

namespace Sys2Proof.Machine

/-! ### Bits, bytes, checks (R2, R270, R384) -/

/-- `w` bits of `v` from bit `lo`. -/
def bits (v lo w : Nat) : Nat := (v >>> lo) % 2 ^ w

/-- A little-endian structure from its fields (low bit, width, value). -/
def pack : List (Nat × Nat × Nat) → Nat
  | [] => 0
  | (lo, w, v) :: t => (v % 2 ^ w) <<< lo ||| pack t

/-- A Boolean as a bit. -/
def bit (b : Bool) : Nat := if b then 1 else 0

/-- The `n` bytes of `v` from byte `i`, lowest first. -/
def bytesOf (v : Nat) : Nat → Nat → List Nat
  | _, 0 => []
  | i, n + 1 => bits v (8 * i) 8 :: bytesOf v (i + 1) n

/-- The little-endian number that bytes spell. -/
def ofBytes : List Nat → Nat
  | [] => 0
  | b :: t => b % 256 + 256 * ofBytes t

def crc16Bit : Nat → Nat → Nat
  | 0, c => c
  | n + 1, c => crc16Bit n (if c / 0x8000 % 2 = 1 then (c * 2 ^^^ 0x1021) % 0x10000 else c * 2 % 0x10000)

/-- CRC-16/CCITT of R384. -/
def crc16 (bs : List Nat) : Nat := bs.foldl (fun c b => crc16Bit 8 (c ^^^ b * 256)) 0xFFFF

def crc32Bit : Nat → Nat → Nat
  | 0, c => c
  | n + 1, c => crc32Bit n (if c % 2 = 1 then c / 2 ^^^ 0xEDB88320 else c / 2)

/-- CRC-32 with the IEEE 802.3 polynomial (R62, R273). -/
def crc32 (bs : List Nat) : Nat := bs.foldl (fun c b => crc32Bit 8 (c ^^^ b)) 0xFFFFFFFF ^^^ 0xFFFFFFFF

/-- A record of `n` covered bytes followed by its CRC-16. -/
def withCrc16 (n v : Nat) : Nat := v ||| crc16 (bytesOf v 0 n) <<< (8 * n)

/-- A record of `n` covered bytes followed by its CRC-32. -/
def withCrc32 (n v : Nat) : Nat := v ||| crc32 (bytesOf v 0 n) <<< (8 * n)

/-- Serial-number order on 32 bits (R270): `b ≥ a`. -/
def serialGe (b a : Nat) : Bool := (b + 2 ^ 32 - a % 2 ^ 32) % 2 ^ 32 < 2 ^ 31

/-- Serial-number order: `b` is after `a`. -/
def serialAfter (b a : Nat) : Bool := serialGe b a && b % 2 ^ 32 != a % 2 ^ 32

/-- 32-bit successor. -/
def succ32 (n : Nat) : Nat := (n + 1) % 2 ^ 32

/-- A number clamped into a range ("takes effect as"). -/
def clamp (lo hi v : Nat) : Nat := Nat.max lo (Nat.min hi v)

/-- Two's complement of an integer in `w` bits. -/
def ofInt (w : Nat) (v : Int) : Nat := (v % (2 ^ w : Int)).toNat

/-- The integer that a `w`-bit two's complement field holds. -/
def toInt (w : Nat) (v : Nat) : Int := if v % 2 ^ w < 2 ^ (w - 1) then (v % 2 ^ w : Nat) else (v % 2 ^ w : Nat) - (2 ^ w : Int)

/-- The mask of the list positions below `n` that satisfy `p`. -/
def maskOf (n : Nat) (p : Nat → Bool) : Nat := ((List.range n).filter p).foldl (fun m i => m ||| 1 <<< i) 0

/-! ### Register fields -/

/-- The value of a register field, instance `i`. -/
def State.rf (s : State) (F : RF) (i : Nat) : Nat := Tab.get regDefault s.regs (regKey F i)

/-- The state with a register field at a value, cut to the field's width. -/
def State.put (s : State) (F : RF) (i v : Nat) : State :=
  { s with regs := Tab.set regDefault s.regs (regKey F i) (v % 2 ^ F.spec.width) }

/-- Several fields written in turn. -/
def State.puts (s : State) : List (RF × Nat × Nat) → State
  | [] => s
  | (F, i, v) :: t => (s.put F i v).puts t

/-- Add `n` to an event counter that saturates at its width and sets its gecko bit (R269). DEDUCED: log entry 89. -/
def State.bumpBy (s : State) (F : RF) (i n : Nat) (G : RF) (j m : Nat) : State :=
  if s.rf F i + n < 2 ^ F.spec.width then s.put F i (s.rf F i + n)
  else (s.put F i (2 ^ F.spec.width - 1)).put G j (s.rf G j ||| m)

/-- Count one event; the gecko bit is bit mask `m` of field `G`. DEDUCED: log entry 89. -/
def State.bump (s : State) (F : RF) (i : Nat) (G : RF) (j m : Nat) : State := s.bumpBy F i 1 G j m

/-- Every instance of the fields that `p` picks returns to its reset value (R3). -/
def State.resetRegs (s : State) (p : RF → Nat → Bool) : State :=
  { s with regs := Tab.drop (fun k => p (RF.ofNat (k % 512)) (k / 512)) s.regs }

/-- A free value of the manual: the next one, and the counter advanced. DESIGN CHOICE: log entry 5. -/
def State.free (s : State) : Nat × State := ((Config.freeWord s.freeCtr).toNat, { s with freeCtr := s.freeCtr + 1 })

/-! ### Units (R36, R37) -/

/-- A physical tile ID is valid. DESIGN CHOICE: log entry 86. -/
def tileOk (t : Nat) : Bool := decide (t < 2 ^ 19) && decide (bits t 7 7 < 120) && decide (bits t 0 7 < 120)

def tileField (t : Nat) : Nat := bits t 14 5
def tileRow (t : Nat) : Nat := bits t 7 7
def tileCol (t : Nat) : Nat := bits t 0 7
def tileId (f row col : Nat) : Nat := f * 2 ^ 14 + row * 2 ^ 7 + col

/-- A logical ID is valid (R36). -/
def logicalOk (l : Nat) : Bool := decide (l < 2 ^ 19) && decide (bits l 7 7 < 120) && decide (bits l 0 7 < 116)

/-- The home tile of a logical tile (R37). -/
def homeTile (l : Nat) : Nat := tileId (tileField l) (tileRow l) (tileCol l + tileCol l / 29)

/-- The quarter of a physical column, and its spare column. -/
def quarterOf (col : Nat) : Nat := col / 30
def spareCol (q : Nat) : Nat := 30 * q + 29
def isSpare (t : Nat) : Bool := decide (tileCol t % 30 = 29)

/-- Kinds of R42. -/
def kindTile : Nat := 1
def kindBank : Nat := 2
def kindRouter : Nat := 3
def kindLane : Nat := 4
def kindSensor : Nat := 5
def kindStation : Nat := 6

/-- A ledger key is valid (R36). -/
def keyOk (k : UnitKey) : Bool :=
  if k.kind = kindTile then tileOk k.unit && decide (k.sub = 0)
  else if k.kind = kindBank then tileOk k.unit && decide (k.sub < 12)
  else if k.kind = kindRouter then tileOk k.unit && decide (k.sub < 4)
  else if k.kind = kindLane then
    decide (k.unit < 2 ^ 18) && decide (bits k.unit 7 7 = 0) && (decide (bits k.unit 0 7 < 32) || decide (bits k.unit 0 7 = 127)) &&
      decide (k.sub = 0)
  else if k.kind = kindSensor then
    decide (k.unit < 2 ^ 19) && decide (k.sub = 0) &&
      ((decide (bits k.unit 7 7 = 0) && decide (bits k.unit 0 7 < 36)) ||
       (decide (bits k.unit 7 7 = 1) && decide (bits k.unit 0 7 < 8)) ||
       (decide (bits k.unit 7 7 = 2) && decide (bits k.unit 0 7 < 4)))
  else decide (k.kind = kindStation) && decide (k.unit < 2 ^ 19) && decide (bits k.unit 0 14 = 0) && decide (k.sub = 0)

def tileKey (t : Nat) : UnitKey := ⟨kindTile, t, 0⟩
def bankKey (t b : Nat) : UnitKey := ⟨kindBank, t, b⟩
def laneKey (k l : Nat) : UnitKey := ⟨kindLane, k * 2 ^ 14 + l, 0⟩
def sensorKey (f cls i : Nat) : UnitKey := ⟨kindSensor, f * 2 ^ 14 + cls * 2 ^ 7 + i, 0⟩
def stationKey (f : Nat) : UnitKey := ⟨kindStation, f * 2 ^ 14, 0⟩

/-- The 32-bit key of a ledger command (R403). -/
def keyWord (k : UnitKey) : Nat := pack [(0, 19, k.unit), (19, 4, k.kind), (23, 4, k.sub)]
def wordKey (w : Nat) : UnitKey := ⟨bits w 19 4, bits w 0 19, bits w 23 4⟩

/-- Whether a key names a tile or a part of one, and which. -/
def keyTile (k : UnitKey) : Option Nat :=
  if k.kind = kindTile ∨ k.kind = kindBank ∨ k.kind = kindRouter then some k.unit else none

/-- The field of a key that lies in one; lanes lie in none. -/
def keyField (k : UnitKey) : Option Nat := if k.kind = kindLane then none else some (bits k.unit 14 5)

/-! ### Engines (R15) -/

def engineReserved (e : Nat) : Bool := decide (20480 ≤ e)

/-- ENGINE holds a valid engine ID (R461). -/
def State.engineValid (s : State) : Bool := !engineReserved (s.rf .kprEngineEngine 0)

/-! ### Reset domains (R330, R334, R336, R338) -/

def domKey : Domain → Nat
  | .keeper => 0
  | .compute => 1
  | .station f => 2 + f.val
  | .port k => 34 + k.val

/-- 0 UP, 1 CAPTURE, 2 HELD, 3 RESTART. -/
def State.domState (s : State) : Domain → Nat
  | .keeper => s.rf .aoiDomainsKeeper 0
  | .compute => s.rf .aoiDomainsCompute 0
  | .station f => s.rf .fstResetStatusState f.val
  | .port k => s.rf .lwdPortStatusState k.val

def State.setDom (s : State) (d : Domain) (v : Nat) : State :=
  match d with
  | .keeper => s.put .aoiDomainsKeeper 0 v
  | .compute => s.put .aoiDomainsCompute 0 v
  | .station f => s.put .fstResetStatusState f.val v
  | .port k => s.put .lwdPortStatusState k.val v

/-- RESET_PENDING of a domain. -/
def State.domPending (s : State) : Domain → Nat
  | .keeper => s.rf .aoiDomainsKeeperPending 0
  | .compute => s.rf .aoiDomainsComputePending 0
  | .station f => s.rf .fstResetStatusResetPending f.val
  | .port k => s.rf .lwdPortStatusResetPending k.val

def State.setDomPending (s : State) (d : Domain) (v : Nat) : State :=
  match d with
  | .keeper => s.put .aoiDomainsKeeperPending 0 v
  | .compute => s.put .aoiDomainsComputePending 0 v
  | .station f => s.put .fstResetStatusResetPending f.val v
  | .port k => s.put .lwdPortStatusResetPending k.val v

def State.domInfo (s : State) (d : Domain) : Dom := Tab.get (fun _ => {}) s.doms (domKey d)
def State.setDomInfo (s : State) (d : Domain) (x : Dom) : State :=
  { s with doms := Tab.set (fun _ => {}) s.doms (domKey d) x }

def State.keeperUp (s : State) : Bool := decide (s.domState .keeper = 0)
/-- The Keeper answers: not HELD. -/
def State.keeperAwake (s : State) : Bool := decide (s.domState .keeper ≠ 2)
def State.computeUp (s : State) : Bool := decide (s.domState .compute = 0)

/-- Field f is dropped (R220). -/
def State.dropped (s : State) (f : Nat) : Bool := (s.rf .kprFieldsDroppedDropped 0).testBit f

/-- The station's gated part works: UP and its field not dropped. -/
def State.stationUp (s : State) (f : Fin 32) : Bool := decide (s.domState (.station f) = 0) && !s.dropped f.val
def State.portUp (s : State) (k : Fin 16) : Bool := decide (s.domState (.port k) = 0)

def toFin32 (f : Nat) : Fin 32 := ⟨f % 32, Nat.mod_lt _ (by decide)⟩
def toFin16 (k : Nat) : Fin 16 := ⟨k % 16, Nat.mod_lt _ (by decide)⟩

/-! ### Host-bound messages (R383, R394, R405, R408) -/

def State.attached (s : State) : Bool := decide (s.rf .hptStatusAttached 0 = 1)

/-- Non-responses in the outbound queue. -/
def outOthers (q : List Msg) : Nat := (q.filter (fun m => decide (m.cls ≠ 1))).length

/-- The outbound queue has a place for a message of the class: 4,096 places, 256 kept for responses (R394). -/
def outRoom (q : List Msg) (cls : Nat) : Bool :=
  decide (q.length < 4096) && (decide (cls = 1) || decide (outOthers q < 3840))

/-- A host-bound message enters the outbound queue, or is discarded and counted by class (R359, R394). A message
queued while attached takes the next SEQ of the series (R408). -/
def State.sendMsg (s : State) (cls code units cid status payload : Nat) : State :=
  if outRoom s.host.outQ cls then
    { s with host := { s.host with
        outQ := s.host.outQ ++ [⟨cls, code, units, if s.attached then s.host.seqNext else 0, cid, status, payload⟩]
        seqNext := if s.attached then succ32 s.host.seqNext else s.host.seqNext } }
  else
    { s with host := { s.host with discards := Tab.set (fun _ => 0) s.host.discards cls (Tab.get (fun _ => 0) s.host.discards cls + 1) } }.put
      .kprHangStatusCroakDrop 0 1

/-- A croak of R409; the payload stands from byte 16. -/
def State.croak (s : State) (code units payload : Nat) : State := s.sendMsg 2 code units 0 0 payload

/-- Commands taken, with OUTSTANDING and HIGH (R389). -/
def State.setTaken (s : State) (l : List Taken) : State :=
  ({ s with host := { s.host with taken := l } }).puts [(.hptCreditsOutstanding, 0, l.length),
    (.hptCreditsHigh, 0, Nat.max (s.rf .hptCreditsHigh 0) l.length)]

/-- The answer to a command: a response message, the command struck off and its credit returned (R389). While no
host is attached there is no one to answer. -/
def State.respond (s : State) (opcode cid status units payload : Nat) : State :=
  if s.attached then
    let s1 := s.sendMsg 1 opcode units cid status payload
    s1.setTaken (s1.host.taken.filter (fun t => decide (t.cid ≠ cid ∨ t.opcode ≠ opcode)))
  else s

/-- A rejection joins the range that it follows, or begins one (R390). -/
def addReject : List (Nat × Nat) → Nat → List (Nat × Nat)
  | [], q => [(q, 1)]
  | [(f, n)], q => if q = (f + n) % 2 ^ 32 then [(f, n + 1)] else [(f, n), (q, 1)]
  | r :: t, q => r :: addReject t q

/-- A command taken with every credit in use is answered BUSY, or recorded in a range (R389, R390). -/
def State.rejectBusy (s : State) (opcode cid seq : Nat) : State :=
  let s1 := ({ s with host := { s.host with busyRun := s.host.busyRun + 1 } }).bump .hptBusyCount 0 .hptStatusCountSat 0 1
  if outRoom s1.host.outQ 1 then s1.sendMsg 1 opcode 1 cid 1 0
  else { s1 with host := { s1.host with rejects := addReject s1.host.rejects seq } }

/-- A command of an attached host is applied (R388, R389): one taken from the aperture and waiting to be applied, or one
that lands now and takes a credit. While no host is attached it is discarded and counted (R397). DEDUCED: log entry 48. -/
def State.asHost (s : State) (opcode cid : Nat) (f : State → State) : State :=
  if s.attached = false then s.bump .hptRejectedCount 0 .hptStatusCountSat 0 1
  else if s.host.taken.any (fun t => decide (t.cid = cid ∧ t.opcode = opcode) && !t.applied) then
    f { s with host := { s.host with taken := s.host.taken.map (fun t =>
      if t.cid = cid ∧ t.opcode = opcode then { t with applied := true, since := s.now } else t) } }
  else if 256 ≤ s.host.taken.length then s.rejectBusy opcode cid (s.rf .hptApExpectedSeq 0)
  else f (s.setTaken (s.host.taken ++ [⟨cid, s.rf .hptApExpectedSeq 0, opcode, s.now, 0, true⟩]))

/-- Sets ACCESS_ERR (R4). -/
def State.accessErr (s : State) : State := s.put .hptStatusAccessErr 0 1

/-! ### Events (R259 to R264) -/

/-- Place of a Keeper event, a Warden event relayed by its station, a station's own and a tile's event (R261). -/
def locKeeper : Nat := 0
def wardenField (k : Nat) : Nat := if k < 8 then k else k + 16
def locWarden (k : Nat) : Nat := 1 + wardenField k * 2 ^ 20
def locStation (f : Nat) : Nat := 2 + f * 2 ^ 20
def locTile (t : Nat) : Nat := 3 + tileField t * 2 ^ 20 + t % 2 ^ 14

/-- The field whose slice an event waits in; none for the Keeper's. -/
def locField (l : Nat) : Option Nat := if l = 0 then none else some (l / 2 ^ 20)

/-- Events waiting in the slice of field f (R264). -/
def State.sliceDepth (s : State) (f : Nat) : Nat := (s.events.filter (fun e => decide (locField e.loc = some f))).length

/-- An event is sampled at the next tick. A full slice (512) holds the record back at its source (R264). DESIGN CHOICE: log entry 88. -/
def State.sample (s : State) (cls loc : Nat) (acts : List EvAct) : State :=
  match locField loc with
  | none => { s with events := s.events ++ [⟨cls, loc, s.now, acts⟩] }
  | some f =>
    if s.sliceDepth f < 512 then
      let s1 := { s with events := s.events ++ [⟨cls, loc, s.now, acts⟩] }
      if s.sliceDepth f + 1 = 512 then s1.put .fstEvtStatusSliceFull f 1 else s1
    else ({ s with heldRecs := s.heldRecs ++ [(⟨cls, loc, s.now, acts⟩ : Ev)] } : State).put .fstEvtStatusSliceFull f 1

/-! ### Cores: access and posts (R417, R431 to R433) -/

def State.core (s : State) (c : Nat) : Core := Tab.get (fun _ => {}) s.cores c
def State.setCore (s : State) (c : Nat) (x : Core) : State := { s with cores := Tab.set (fun _ => {}) s.cores c x }

def coreDomain (c : Nat) : Domain := if c < 64 then .station (toFin32 (c / 2)) else .keeper
/-- A slot of the queue that no event holds: the lowest. -/
def freeSlot (q : List CoreEv) : Option Nat := (List.range 64).find? (fun i => !q.any (fun e => decide (e.slot = i)))

/-- Bytes written into a byte table. DESIGN CHOICE: log entry 9. -/
def writeBytes (t : Tab Byte) : Nat → List Nat → Tab Byte
  | _, [] => t
  | a, b :: bs => writeBytes (Tab.set (fun _ => 0) t a (BitVec.ofNat 8 b)) (a + 1) bs

/-- DESIGN CHOICE: log entry 9. -/
def readByte (t : Tab Byte) (a : Nat) : Nat := (Tab.get (fun _ => 0) t a).toNat

/-- `n` bytes of a byte table as a little-endian number. -/
def readBytes (t : Tab Byte) (a : Nat) : Nat → Nat
  | 0 => 0
  | n + 1 => readByte t a + 256 * readBytes t (a + 1) n

/-- Sources of WAITEV that are pending (R434): classes 1 to 10, ALARM, kinds 13 and 14, mail. -/
def pendingMask (c : Core) (now : Nat) : Nat :=
  let un := c.queue.filter (fun e => !e.popped)
  maskOf 10 (fun i => un.any (fun e => decide (e.cls = i + 1))) |||
  (if c.alarm.toNat.testBit 63 && decide (c.alarm.toNat % 2 ^ 48 ≤ now % 2 ^ 48) then 1 <<< 10 else 0) |||
  (if un.any (fun e => decide (e.kind = 13 ∨ e.kind = 14)) then 1 <<< 11 else 0) |||
  (if un.any (fun e => decide (e.kind = 15)) then 1 <<< 12 else 0)

/-- An event enters a core's queue: the slot is written first (R432). With all 64 places taken it waits. -/
def Core.enqueue (c : Core) (e : CoreEv) : Core :=
  match freeSlot c.queue with
  | none => { c with waiting := c.waiting ++ [e] }
  | some i =>
    { c with
      dmem := writeBytes c.dmem (0xF000 + 64 * i) (bytesOf e.body 0 64)
      queue := c.queue ++ [{ e with slot := i, evseq := c.evSeq }]
      evSeq := succ32 c.evSeq }

/-- Waiting events take the places that have come free. -/
def Core.letIn : Nat → Core → Core
  | 0, c => c
  | n + 1, c =>
    match c.waiting, freeSlot c.queue with
    | e :: t, some _ => Core.letIn n ({ c with waiting := t }.enqueue e)
    | _, _ => c

def State.toCore (s : State) (c : Nat) (e : CoreEv) : State := s.setCore c ((s.core c).enqueue e)

/-- The core that an event kind routes to (R431, R451, R452). -/
def State.evCore (s : State) (kind field : Nat) : Nat :=
  let kc := 64 + bits (s.rf .kprEvRouteCore 0) (2 * (kind - 1)) 2
  if kind ≤ 5 ∧ field < 32 then
    let r := bits (s.rf .fstEvRouteRoute field) (2 * (kind - 1)) 2
    if r = 0 then 2 * field else if r = 1 then 2 * field + 1 else kc
  else kc

/-! ### Poisoned words (R28) -/

/-- The 16-byte word of a memory, under one name: the Flight Recorder is part of the Keeper Store. -/
def memWord : MemWord → MemWord
  | .keeperStore o => .keeperStore (o / 16 * 16)
  | .flightRecorder o => .keeperStore ((0x2000000 + o) / 16 * 16)
  | .replayBuffer f o => .replayBuffer f (o / 16 * 16)
  | m => m

/-- The word of a memory is marked poisoned. -/
def State.isPoisoned (s : State) (m : MemWord) : Bool := s.poison.contains (memWord m)

def State.setPoison (s : State) (m : MemWord) : State := if s.isPoisoned m then s else { s with poison := memWord m :: s.poison }

/-- Words written whole are good again. -/
def State.clearPoison (s : State) (p : MemWord → Bool) : State := { s with poison := s.poison.filter (fun m => !p m) }

/-- A poisoned word lies among `n` bytes of the Keeper Store. -/
def State.ksPoisoned (s : State) (off n : Nat) : Bool :=
  s.poison.any (fun m => match m with
    | .keeperStore o => decide (off < o + 16 ∧ o < off + n)
    | _ => false)

/-- Bytes written into the Keeper Store; every word that they cover whole is good again. -/
def State.writeKs (s : State) (off : Nat) (l : List Nat) : State :=
  ({ s with ks := writeBytes s.ks off l }).clearPoison (fun m => match m with
    | .keeperStore o => decide (off ≤ o ∧ o + 16 ≤ off + l.length)
    | _ => false)

/-- EVENT_POST (R431, R432): a record or notice of a class goes to the core that its kind routes to. A record longer
than 64 bytes stays in the Keeper Store general area at an address the manual does not give (a free value). DESIGN CHOICE: log entry 7. -/
def State.post (s : State) (cls kind field unit len body : Nat) (notice : Bool) : State :=
  let ev : CoreEv := ⟨kind, cls, 0, notice, decide (64 < len), 0, s.now, unit, 0, 0, 0, body % 2 ^ 512, false⟩
  if len ≤ 64 then s.toCore (s.evCore kind field) ev
  else
    let (v, s1) := s.free
    let off := 64 * (v % 0x40000)
    (s1.writeKs off (bytesOf body 0 len)).toCore (s.evCore kind field)
      { ev with body := body % 2 ^ 256 ||| (0x10000000 + off) <<< 256 ||| len <<< 320 }

/-- A notice slot: VERSION 1, CODE, FLAGS, payload from byte 16 (R432). -/
def noticeBody (code flags payload : Nat) : Nat := pack [(0, 8, 1), (8, 8, code), (16, 8, flags), (128, 384, payload)]

/-- The event of a notice. -/
def evNotice (kind field unit code flags payload : Nat) : EvAct := .post kind field unit 64 (noticeBody code flags payload) true

/-! ### Switchable functions (R267) -/

def fnKey : Func → Nat
  | .fieldTap f => f.val
  | .fieldEpisode f => 32 + f.val
  | .fieldScrub f => 64 + f.val
  | .fieldSelfTest f => 96 + f.val
  | .chorus k => 128 + k.val
  | .securing => 144

/-- ENABLE, STATE and ENABLE_PENDING fields of a function, and its instance. -/
def fnRegs : Func → RF × RF × RF × Nat
  | .fieldTap f => (.fstTapCtrlEnable, .fstTapCtrlState, .fstTapCtrlEnablePending, f.val)
  | .fieldEpisode f => (.fstEpCtrlEnable, .fstEpCtrlState, .fstEpCtrlEnablePending, f.val)
  | .fieldScrub f => (.fstScrubCtrlEnable, .fstScrubCtrlState, .fstScrubCtrlEnablePending, f.val)
  | .fieldSelfTest f => (.fstStCtrlEnable, .fstStCtrlState, .fstStCtrlEnablePending, f.val)
  | .chorus k => (.lwdDigCtrlEnable, .lwdDigCtrlState, .lwdDigCtrlEnablePending, k.val)
  | .securing => (.kprSecCtrlEnable, .kprSecCtrlState, .kprSecCtrlEnablePending, 0)

def fnDomain : Func → Domain
  | .fieldTap f => .station f
  | .fieldEpisode f => .station f
  | .fieldScrub f => .station f
  | .fieldSelfTest f => .station f
  | .chorus k => .port k
  | .securing => .keeper

def State.fn (s : State) (f : Func) : FnState := Tab.get (fun _ => {}) s.fns (fnKey f)
def State.setFn (s : State) (f : Func) (x : FnState) : State := { s with fns := Tab.set (fun _ => {}) s.fns (fnKey f) x }
def State.fnState (s : State) (f : Func) : Nat := s.rf (fnRegs f).2.1 (fnRegs f).2.2.2
def State.setFnState (s : State) (f : Func) (v : Nat) : State := s.put (fnRegs f).2.1 (fnRegs f).2.2.2 v
def State.fnRequest (s : State) (f : Func) : Nat := s.rf (fnRegs f).1 (fnRegs f).2.2.2
def State.fnPending (s : State) (f : Func) : Nat := s.rf (fnRegs f).2.2.1 (fnRegs f).2.2.2
def State.setFnPending (s : State) (f : Func) (v : Nat) : State := s.put (fnRegs f).2.2.1 (fnRegs f).2.2.2 v
/-- OFF 0, STARTING 1, ON 2, DRAINING 3. -/
def State.fnOn (s : State) (f : Func) : Bool := decide (s.fnState f = 2)

end Sys2Proof.Machine
end

