-- ==== Sys2Proof/Machine/Ecc.lean ====
section
/-! DEFINITION. The 144/128 code of the manager's memories and spine beats: 36 symbols of 4 bits, 32 of them data, one symbol corrected and
two detected (01_architecture.md R27). The manual gives the code's measures and not its check matrix: the columns here are 36 points
of an elliptic quadric over the field of 16 elements, no three of which depend on one another. DESIGN CHOICE: log entry 95. -/

namespace Sys2Proof.Machine

/-- Product in the field of 16 elements, x⁴ = x + 1. DESIGN CHOICE: log entry 95. -/
def gmul (a b : Nat) : Nat :=
  let x := fun (v : Nat) => if v < 8 then 2 * v else (2 * v) ^^^ 0x13
  (if b.testBit 0 then a else 0) ^^^ (if b.testBit 1 then x a else 0) ^^^
    (if b.testBit 2 then x (x a) else 0) ^^^ (if b.testBit 3 then x (x (x a)) else 0)

/-- Columns of the data symbols, four symbols each. DESIGN CHOICE: log entry 95. -/
def eccColumns : List Nat :=
  [0x0111, 0x068F, 0x069E, 0x078E, 0x079F, 0x0F5B, 0x0F4A, 0x0E5A, 0x0E4B, 0x09D5, 0x09C4, 0x08D4, 0x08C5, 0x1B4F, 0x14AE, 0x1FE1] ++
  [0x1CF3, 0x17BC, 0x185D, 0x1312, 0x18B3, 0x13FC, 0x1C1D, 0x1752, 0x1440, 0x1F0F, 0x10EE, 0x1BA1, 0x2FD1, 0x2A6F, 0x24AD, 0x2113]

/-- Column of symbol j: a check symbol's has a single one. DESIGN CHOICE: log entry 95. -/
def eccColumn (j : Nat) : Nat := if j < 32 then eccColumns[j]?.getD 0 else 1 <<< (4 * (j - 32))

/-- A column times a symbol. -/
def eccScale (a col : Nat) : Nat :=
  pack ((List.range 4).map (fun i => (4 * i, 4, gmul (bits col (4 * i) 4) a)))

/-- What the symbols of a word below `n` add up to. -/
def eccSum (n w : Nat) : Nat := (List.range n).foldl (fun acc j => acc ^^^ eccScale (bits w (4 * j) 4) (eccColumn j)) 0

/-- The codeword of 128 bits of data: the check symbols stand above them. DESIGN CHOICE: log entry 95. -/
def eccEncode (d : Nat) : Nat := d % 2 ^ 128 ||| eccSum 32 d <<< 128

/-- What the code finds in a word read (R28). -/
inductive EccFinding where
  | clean | correctable | uncorrectable
deriving DecidableEq, Repr

/-- The symbol error that a sum betrays. -/
def eccLocate (sum : Nat) : Option (Nat × Nat) :=
  ((List.range 36).flatMap (fun j => (List.range 15).map (fun a => (j, a + 1)))).find? (fun e => eccScale e.2 (eccColumn e.1) == sum)

/-- A codeword as received: the finding, and the data, corrected where one symbol was wrong. DESIGN CHOICE: log entry 95. -/
def eccRead (w : Nat) : EccFinding × Nat :=
  let t := eccSum 36 w
  if t = 0 then (.clean, w % 2 ^ 128)
  else match eccLocate t with
    | some (j, a) => (.correctable, (w ^^^ a <<< (4 * j)) % 2 ^ 128)
    | none => (.uncorrectable, w % 2 ^ 128)

/-- The inverted bits of a codeword, and the symbols that they touch. -/
def errorBits (e : SymbolErrors) : Nat := e.foldl (fun acc x => acc ^^^ x.2.toNat <<< (4 * x.1.val)) 0
def errorSymbols (e : SymbolErrors) : Nat := ((List.range 36).filter (fun j => bits (errorBits e) (4 * j) 4 ≠ 0)).length

/-- What the code finds in a word that errors have struck. The code is linear, so the word's data do not matter. What it makes of three
wrong symbols and more the manual leaves open: a free value. DESIGN CHOICE: log entry 95. -/
def State.eccFind (s : State) (e : SymbolErrors) : EccFinding × State :=
  if errorSymbols e ≤ 2 then ((eccRead (eccEncode 0 ^^^ errorBits e)).1, s)
  else
    let (v, s1) := s.free
    (if v % 3 = 0 then .clean else if v % 3 = 1 then .correctable else .uncorrectable, s1)

end Sys2Proof.Machine
end

