-- ==== Sys2Proof/Machine/MxNum.lean ====
section
/-! DEFINITION. The arithmetic of the Checksum Tap (R69 to R79): operand encodings, residues mod 2⁶¹ − 1, the LFSR
weights, the exact pair of sums for MX blocks and the bounded pair for bf16. The element encodings of the OCP
Microscaling formats, bf16 and fp32 are PRESUMED from their public definitions (log entry 10). -/

namespace Sys2Proof.Machine

def p61 : Nat := 2 ^ 61 - 1

/-- Sum over 0 … n − 1, mod p. -/
def sumP (n : Nat) (f : Nat → Nat) : Nat := (List.range n).foldl (fun acc i => (acc + f i) % p61) 0
/-- Sum over 0 … n − 1 of integers. -/
def sumI (n : Nat) (f : Nat → Int) : Int := (List.range n).foldl (fun acc i => acc + f i) 0

/-- An integer mod p. -/
def modP (v : Int) : Nat := (v % (p61 : Int)).toNat

/-- `b` to the power `e` mod p, by squaring; `fuel` bounds the bits of `e`. -/
def powP : Nat → Nat → Nat → Nat
  | 0, _, _ => 1
  | fuel + 1, b, e => if e = 0 then 1 else
      let r := powP fuel (b * b % p61) (e / 2)
      if e % 2 = 1 then r * b % p61 else r

/-- A value m·2^e, or a special (NaN, infinity). -/
inductive Num where
  | val (m : Int) (e : Int) | nan | inf
deriving DecidableEq, Repr

def signed (neg : Nat) (m : Nat) : Int := if neg = 1 then -(m : Int) else (m : Int)

/-- A small float without specials: exponent and mantissa widths, bias. -/
def smallFloat (ew mw bias code : Nat) : Num :=
  let man := bits code 0 mw
  let ex := bits code mw ew
  let sg := bits code (mw + ew) 1
  if ex = 0 then .val (signed sg man) (1 - (bias : Int) - mw)
  else .val (signed sg (2 ^ mw + man)) ((ex : Int) - bias - mw)

/-- Value of an element code in its format (R69; encodings: log entry 10). PRESUMED: log entry 10. -/
def elemNum (f : TapFmt) (code : Nat) : Num :=
  match f with
  | .bf16 =>
    if bits code 7 8 = 255 then (if bits code 0 7 = 0 then .inf else .nan) else smallFloat 8 7 127 code
  | .e4m3 => if bits code 0 7 = 0x7F then .nan else smallFloat 4 3 7 code
  | .e5m2 => if bits code 2 5 = 31 then (if bits code 0 2 = 0 then .inf else .nan) else smallFloat 5 2 15 code
  | .e3m2 => smallFloat 3 2 3 code
  | .e2m3 => smallFloat 2 3 1 code
  | .e2m1 => smallFloat 2 1 1 code
  | .mxint8 => .val (toInt 8 code) (-6)

/-- Codes of FMT_A and FMT_B (R82). -/
def fmtCode : TapFmt → Nat
  | .bf16 => 0 | .e4m3 => 1 | .e5m2 => 2 | .e3m2 => 3 | .e2m3 => 4 | .e2m1 => 5 | .mxint8 => 6

/-- fp32 bits as an integer in units of 2⁻¹⁴⁹; none for NaN and infinity. PRESUMED: log entry 10. -/
def fp32Val (b : Nat) : Option Int :=
  let man := bits b 0 23
  let ex := bits b 23 8
  if ex = 255 then none
  else if ex = 0 then some (signed (bits b 31 1) man)
  else some (signed (bits b 31 1) ((2 ^ 23 + man) <<< (ex - 1)))

/-- bf16 code as an integer in units of 2⁻¹³³; specials are caught before (R79). PRESUMED: log entry 10. -/
def bf16Val (code : Nat) : Int :=
  let man := bits code 0 7
  let ex := bits code 7 8
  if ex = 0 then signed (bits code 15 1) man else signed (bits code 15 1) ((128 + man) <<< (ex - 1))

/-- Residue of an MX operand: m·2^((e + X + 16) mod 61) mod p (R71). -/
def mxResidue (f : TapFmt) (code scale : Nat) : Nat :=
  match elemNum f code with
  | .val m e => modP (m * 2 ^ (((e + scale + 16) % 61).toNat))
  | _ => 0

/-! ### LFSR and weights (R73) -/

def lfsrStep (s : Nat) : Nat := if s % 2 = 1 then s / 2 ^^^ 0xB400 else s / 2
def lfsrSteps : Nat → Nat → Nat
  | 0, s => s
  | n + 1, s => lfsrSteps n (lfsrStep s)
/-- One word: 16 steps. -/
def lfsrWord (s : Nat) : Nat := lfsrSteps 16 s
/-- The next `n` words in order, the last one first. -/
def lfsrWords : Nat → Nat → List Nat
  | 0, _ => []
  | n + 1, s => lfsrWord s :: lfsrWords n (lfsrWord s)
/-- The LFSR at a launch (R73). -/
def lfsrStart (tile seed : Nat) : Nat :=
  let s := bits seed 0 16 ^^^ bits tile 0 16 ^^^ bits tile 16 3 <<< 13
  if s = 0 then 0xACE1 else s

/-! ### Operands of a block -/

def blkA (b : TapBlock) (i kk : Nat) : Nat := b.a.getD (i * b.k + kk) 0
def blkB (b : TapBlock) (kk j : Nat) : Nat := b.b.getD (kk * b.n + j) 0
def blkC0 (b : TapBlock) (i j : Nat) : Nat := (b.c0.getD (i * b.n + j) 0).toNat
def blkR (b : TapBlock) (i j : Nat) : TapResult := b.results.getD (i * b.n + j) (.fixed 0)
def blkMx (b : TapBlock) : Bool := decide (b.fmtA ≠ .bf16)
def blkRa (b : TapBlock) (i kk : Nat) : Nat :=
  mxResidue b.fmtA ((blkA b) i kk) (b.scaleA.getD (i * (b.k / 32) + kk / 32) 0)
def blkRb (b : TapBlock) (kk j : Nat) : Nat :=
  mxResidue b.fmtB ((blkB b) kk j) (b.scaleB.getD (kk / 32 * b.n + j) 0)
/-- C0 in units of 2⁻²⁸⁶, mod p. -/
def blkRc0 (b : TapBlock) (i j : Nat) : Nat := modP ((fp32Val ((blkC0 b) i j)).getD 0 * 2 ^ 137)
def blkRc (b : TapBlock) (i j : Nat) : Nat := match (blkR b) i j with | .fixed v => modP v | _ => 0

def numSpecial : Num → Bool
  | .val _ _ => false
  | _ => true

/-- An operand, C0 value or scale byte encodes NaN or infinity (R79). -/
def blkSpecial (b : TapBlock) : Bool :=
  b.a.any (fun c => numSpecial (elemNum b.fmtA c)) || b.b.any (fun c => numSpecial (elemNum b.fmtB c)) ||
  b.c0.any (fun c => (fp32Val c.toNat).isNone) || ((blkMx b) && (b.scaleA.any (fun x => decide (x = 255)) || b.scaleB.any (fun x => decide (x = 255))))

def resultNan : TapResult → Bool
  | .nan => true
  | .fp32 b => decide (bits b.toNat 23 8 = 255 ∧ bits b.toNat 0 23 ≠ 0)
  | _ => false
def resultInf : TapResult → Bool
  | .inf => true
  | .fp32 b => decide (bits b.toNat 23 8 = 255 ∧ bits b.toNat 0 23 = 0)
  | _ => false

/-- How R79 treats a block: judged by the sums, judged a mismatch on a special result, not judged and counted, or
not judged and not counted. -/
inductive TapCase where
  | sums | special | unchecked | ignored
deriving DecidableEq, Repr

def blkCase (b : TapBlock) : TapCase :=
  if (blkSpecial b) || b.abandoned then .unchecked
  else if b.enteredBeforeOn then .ignored
  else if b.results.any resultNan then .special
  else if (blkMx b) && b.rangeFlag then .unchecked
  else if b.results.any resultInf then (if (blkMx b) then .special else .unchecked)
  else .sums

/-- Outcome of the two comparisons: unweighted and weighted failure, and DIFF of the first that failed. -/
structure TapVerdict where
  unw  : Bool
  wtd  : Bool
  diff : Nat
deriving DecidableEq, Repr

/-- σ of a block (R74). -/
def sigmaOf (seed w0 : Nat) : Nat := let g := (seed + w0) % p61; if g ≤ 1 then 2 else g

/-- The exact comparison (R72, R74, R75); `inj` is 1 under injection (R92). -/
def mxJudge (b : TapBlock) (sigma inj : Nat) : TapVerdict :=
  let sOut := sumP b.m (fun i => sumP b.n (fun j => (blkRc b) i j))
  let c0 := sumP b.m (fun i => sumP b.n (fun j => (blkRc0 b) i j))
  let sRef := (sumP b.k (fun kk => sumP b.m (fun i => (blkRa b) i kk) * sumP b.n (fun j => (blkRb b) kk j)) + c0 + inj) % p61
  let w := fun i j => powP 11 sigma (i + 1 + 32 * j)
  let wOut := sumP b.m (fun i => sumP b.n (fun j => w i j * (blkRc b) i j))
  let wc0 := sumP b.m (fun i => sumP b.n (fun j => w i j * (blkRc0 b) i j))
  let wRef := (sumP b.k (fun kk => sumP b.m (fun i => powP 11 sigma (i + 1) * (blkRa b) i kk) *
    sumP b.n (fun j => powP 11 sigma (32 * j) * (blkRb b) kk j)) + wc0 + inj) % p61
  let d := if sOut ≠ sRef then (sOut + p61 - sRef) % p61 else (wOut + p61 - wRef) % p61
  ⟨decide (sOut ≠ sRef), decide (wOut ≠ wRef), d % 2 ^ 32⟩

/-- Power of two dividing a number; `fuel` bounds it. -/
def twoPart : Nat → Nat → Nat
  | 0, _ => 0
  | fuel + 1, v => if v = 0 then 0 else if v % 2 = 1 then 0 else twoPart fuel (v / 2) + 1

/-- One bounded comparison: |d|, tolerance and whether binary64 forms every sum exactly in any order. `d36` and `thr`
are the difference and the tolerance times 2³⁶. -/
structure BfCmp where
  d36   : Nat
  thr   : Nat
  m     : Nat
  exact : Bool
deriving DecidableEq, Repr

/-- Sums in units of 2⁻¹⁰⁷⁴, each row i weighted by 2^(wu i) and column j by 2^(wv j); `inject` adds 2·T + 1 ulp to
S_ref (R76, R77, R92). -/
def bfSums (b : TapBlock) (wu wv : Nat → Nat) (inject : Bool) : BfCmp :=
  let va := fun i kk => bf16Val ((blkA b) i kk) * 2 ^ (wu i)
  let vb := fun kk j => bf16Val ((blkB b) kk j) * 2 ^ (wv j)
  let vc := fun i j => (fp32Val ((blkC0 b) i j)).getD 0 * 2 ^ (wu i + wv j)
  let vr := fun i j => (match (blkR b) i j with | .fp32 x => (fp32Val x.toNat).getD 0 | _ => 0) * 2 ^ (wu i + wv j)
  let sOut := sumI b.m (fun i => sumI b.n (fun j => vr i j)) * 2 ^ 925
  let sRef := sumI b.k (fun kk => sumI b.m (fun i => va i kk) * sumI b.n (fun j => vb kk j)) * 2 ^ 808 +
    sumI b.m (fun i => sumI b.n (fun j => vc i j)) * 2 ^ 925
  let mag := sumI b.k (fun kk => sumI b.m (fun i => (va i kk).natAbs) * sumI b.n (fun j => (vb kk j).natAbs)) * 2 ^ 808 +
    sumI b.m (fun i => sumI b.n (fun j => (vc i j).natAbs)) * 2 ^ 925
  let outMag := sumI b.m (fun i => sumI b.n (fun j => (vr i j).natAbs)) * 2 ^ 925
  let gA := b.a.foldl (fun g c => Nat.gcd g (bf16Val c).natAbs) 0
  let gB := b.b.foldl (fun g c => Nat.gcd g (bf16Val c).natAbs) 0
  let gC := b.c0.foldl (fun g c => Nat.gcd g ((fp32Val c.toNat).getD 0).natAbs) 0
  let gR := sumI b.m (fun i => sumI b.n (fun j => ((vr i j).natAbs : Int)))
  let tzP := if gA = 0 ∨ gB = 0 then 1100 else twoPart 400 gA + twoPart 400 gB + 808
  let tzC := if gC = 0 then 1100 else twoPart 400 gC + 925
  let tzR := if gR = 0 then 1100 else 925
  let u := 2 ^ Nat.min tzP (Nat.min tzC tzR)
  let m := mag.natAbs
  let ulp := if sRef.natAbs < 2 ^ 53 then 1 else 2 ^ (Nat.log2 sRef.natAbs - 52)
  let inj36 := if inject then 2 * b.k * m * 2 ^ 12 + ulp * 2 ^ 36 else 0
  ⟨((sOut - sRef) * 2 ^ 36 - (inj36 : Nat)).natAbs, b.k * m * 2 ^ 12 + (if b.k = 1 then m else 0), m,
   !inject && decide (m / u < 2 ^ 53) && decide (outMag.natAbs / u < 2 ^ 53)⟩

/-- The bounded comparison fails: decided where rounding cannot matter, a free bit inside the band of 2⁻³⁶·M that
R78 grants the tap's own arithmetic (log entry 11). DEDUCED: log entry 11. -/
def BfCmp.fails (c : BfCmp) (freeBit : Bool) : Bool :=
  if c.exact then decide (c.thr < c.d36)
  else if c.d36 + c.m ≤ c.thr then false
  else if c.thr + c.m < c.d36 then true
  else freeBit

/-- DIFF of a bounded comparison: 16.16 fixed point, saturating; where rounding is open, a free value within the bound
that R78 sets to the tap's own error in the difference and in M. DEDUCED: log entry 11. -/
def BfCmp.ratio (c : BfCmp) (freeVal : Nat) : Nat :=
  if c.thr = 0 then 0xFFFFFFFF
  else if c.exact then
    Nat.min 0xFFFFFFFF (if c.d36 * 2 ^ 16 % c.thr = 0 then c.d36 * 2 ^ 16 / c.thr else c.d36 * 2 ^ 16 / c.thr + freeVal % 2)
  else
    let lo := (c.d36 - c.m) * 2 ^ 52 / (c.thr * (2 ^ 36 + 1))
    let hi := (c.d36 + c.m) * 2 ^ 52 / (c.thr * (2 ^ 36 - 1)) + 1
    Nat.min 0xFFFFFFFF (lo + freeVal % (hi - lo + 1))

/-- The bf16 judgement (R76 to R78) with the free values of log entry 11. DEDUCED: log entry 11. -/
def bfJudge (b : TapBlock) (w : Nat → Nat) (inject : Bool) (f1 f2 f3 : Nat) : TapVerdict :=
  let c1 := bfSums b (fun _ => 0) (fun _ => 0) inject
  let c2 := bfSums b (fun i => w i % 8) (fun j => w (32 + j) % 8) false
  let u := c1.fails (f1 % 2 = 1)
  let wt := c2.fails (f2 % 2 = 1)
  ⟨u, wt, if u then c1.ratio f3 else c2.ratio f3⟩

end Sys2Proof.Machine
end

