-- ==== Sys2Proof/Machine/Units.lean ====
section
/-! DEFINITION. Which units serve: the ledger as read (R41 to R47), the launch map and Remap Tables (R37 to R40, R223),
and the counts of logical tiles in service. -/

namespace Sys2Proof.Machine

def State.tile (s : State) (t : Nat) : Tile := Tab.get (fun _ => {}) s.tiles t
def State.setTile (s : State) (t : Nat) (x : Tile) : State := { s with tiles := Tab.set (fun _ => {}) s.tiles t x }
def State.field (s : State) (f : Nat) : FieldSt := Tab.get (fun _ => {}) s.fields f
def State.setField (s : State) (f : Nat) (x : FieldSt) : State := { s with fields := Tab.set (fun _ => {}) s.fields f x }

/-! ### Ledger lookup -/

/-- Every occupied entry with its index. -/
def State.entries (s : State) : List (Nat × Entry) :=
  s.ledger.slots.filterMap (fun e => e.2.map (fun x => (e.1, x)))

/-- The entry of a key (R41). -/
def State.findEntry (s : State) (k : UnitKey) : Option (Nat × Entry) := s.entries.find? (fun e => decide (e.2.key = k))

/-- The state withdraws its unit (R45): all but SUSPECT and TRANSIENT. -/
def withdraws (st : Nat) : Bool := decide (st ≠ 0 ∧ st ≠ 3)

/-- A unit is out of service by its own entry, or by an exclusion held without one (R47, R53). -/
def State.unitOut (s : State) (k : UnitKey) : Bool :=
  s.entries.any (fun e => decide (e.2.key = k) && withdraws e.2.state) || s.ledger.orphans.any (fun o => decide (o = k))

/-- Keys that are withdrawn. -/
def State.outKeys (s : State) : List UnitKey :=
  (s.entries.filter (fun e => withdraws e.2.state)).map (fun e => e.2.key) ++ s.ledger.orphans

/-- A tile is withdrawn by an entry of its own, of a bank or of a router port (R46). -/
def State.tileOut (s : State) (t : Nat) : Bool := s.outKeys.any (fun k => decide (keyTile k = some t))

/-- A SUSPECT entry stands for the tile or a part of it. -/
def State.tileSuspect (s : State) (t : Nat) : Bool :=
  s.entries.any (fun e => decide (keyTile e.2.key = some t) && decide (e.2.state = 0))

/-- A DISPUTED Field Station entry holds the field (R46). -/
def State.disputed (s : State) (f : Nat) : Bool := (s.rf .kprLedgerDisputedFields 0).testBit f

/-- No unit of the field is in service. -/
def State.fieldOut (s : State) (f : Nat) : Bool := s.dropped f || s.disputed f || s.unitOut (stationKey f)

/-! ### The launch map -/

/-- Valid Remap Table entries of a field, with their index. -/
def State.remaps (s : State) (f : Nat) : List (Nat × Remap) :=
  s.remap.filterMap (fun e => if e.1 / 1024 = f then e.2.map (fun r => (e.1 % 1024, r)) else none)

def remapTile (f : Nat) (r : Remap) : Nat := tileId f (tileRow r.logical) r.physCol

/-- The entry that names a logical tile. -/
def State.remapOf (s : State) (l : Nat) : Option Remap :=
  ((s.remaps (tileField l)).find? (fun e => decide (e.2.logical = l))).map (fun e => e.2)

/-- The physical tile the map names for a logical tile (R38, R223). -/
def State.serving (s : State) (l : Nat) : Nat :=
  match s.remapOf l with
  | some r => remapTile (tileField l) r
  | none => homeTile l

/-- A logical tile is in service: the map names a tile for it, and that tile is not withdrawn. -/
def State.served (s : State) (l : Nat) : Bool :=
  s.mapBuilt && logicalOk l && !s.fieldOut (tileField l) && !s.tileOut (s.serving l)

/-- The logical tile whose home a physical tile is (R37). -/
def logicalOfHome (t : Nat) : Option Nat :=
  if isSpare t then none else some (tileId (tileField t) (tileRow t) (tileCol t - tileCol t / 30))

/-- The logical tile that a physical tile serves, withdrawn or not. -/
def State.logicalOf (s : State) (t : Nat) : Option Nat :=
  if s.mapBuilt && tileOk t && !s.fieldOut (tileField t) then
    match (s.remaps (tileField t)).find? (fun e => decide (remapTile (tileField t) e.2 = t)) with
    | some e => some e.2.logical
    | none =>
      match logicalOfHome t with
      | some l => if s.remapOf l = none then some l else none
      | none => none
  else none

/-- Logical tiles of a field whose service the ledger or the map may have changed. -/
def State.touched (s : State) (f : Nat) : List Nat :=
  ((s.outKeys.filterMap keyTile).filter (fun t => decide (tileField t = f))).filterMap (fun t => s.logicalOf t)

def dedup : List Nat → List Nat
  | [] => []
  | a :: t => if t.contains a then dedup t else a :: dedup t

/-- Logical tiles of a field that are not in service. -/
def State.unserved (s : State) (f : Nat) : List Nat := (dedup (s.touched f)).filter (fun l => !s.served l)

/-- S_f: logical tiles of the field in service (R90). -/
def State.inService (s : State) (f : Nat) : Nat :=
  if s.mapBuilt && !s.fieldOut f then 13920 - (s.unserved f).length else 0

/-- N_service (R89). -/
def State.nService (s : State) : Nat := ((List.range 32).map s.inService).foldl (· + ·) 0

/-- Position of a logical tile in the order ℓ = 116·row + column (R90), and among those in service. -/
def ellOf (l : Nat) : Nat := 116 * tileRow l + tileCol l
def State.rank (s : State) (l : Nat) : Nat :=
  ellOf l - ((s.unserved (tileField l)).filter (fun u => decide (ellOf u < ellOf l))).length

/-- Spares that serve or are claimed by something (R40). -/
def State.spareBusy (s : State) (t : Nat) : Bool :=
  s.tileOut t || (s.logicalOf t).isSome || s.regrows.any (fun r => decide (r.target = some t)) || s.clears.any (fun c => decide (c.1 = t))

/-- Free spares of a field: those in service that serve nothing and are not claimed (R40, R224). -/
def State.freeSpares (s : State) (f : Nat) : Nat :=
  if s.mapBuilt && !s.fieldOut f then
    480 - (dedup (((s.outKeys.filterMap keyTile).filter (fun t => decide (tileField t = f ∧ isSpare t = true))) ++
      ((s.remaps f).map (fun e => remapTile f e.2)).filter isSpare ++
      ((s.regrows.filterMap (fun r => r.target) ++ s.clears.map (fun c => c.1)).filter (fun t => decide (tileField t = f ∧ isSpare t = true))))).length
  else 0

/-- Tile cycles have passed since a tick, at the tile clock in force (R1). -/
def State.cyclesPassed (s : State) (since cycles : Nat) : Bool := decide (cycles ≤ (s.now + 1 - since) * s.clock)

/-- The sides of a tile's isolation collar that are closed, output and input: both, while its field is dropped (R192, R220). -/
def State.collar (s : State) (t : Nat) : Bool × Bool :=
  if s.shut.testBit (tileField t) then (true, true) else ((s.tile t).collarOut, (s.tile t).collarIn)

/-! ### Tile SRAM (R99, R100, R158, R197) -/

/-- DESIGN CHOICE: log entry 9. -/
def State.sramLine (s : State) (t l : Nat) : Nat := if l < 768 then Tab.get (fun _ => 0) s.sram (768 * t + l) else 0

/-- `n` bytes of one line, from an address. -/
def State.sramBytes (s : State) (t a n : Nat) : Nat := bits (s.sramLine t (a / 128)) (8 * (a % 128)) (8 * n)

/-- DESIGN CHOICE: log entry 9. -/
def State.setSram (s : State) (t l v : Nat) : State := { s with sram := Tab.set (fun _ => 0) s.sram (768 * t + l) (v % 2 ^ 1024) }

/-- The lines of a tile that are not zero. -/
def State.sramOf (s : State) (t : Nat) : List (Nat × Nat) := (s.sram.filter (fun e => decide (e.1 / 768 = t))).map (fun e => (e.1 % 768, e.2))

/-- The manager writes a tile's whole SRAM: lines that are not listed are zero, and every block that is not frozen is DIRTY (R158). -/
def State.fillSram (s : State) (t : Nat) (l : List (Nat × Nat)) : State :=
  l.foldl (fun u e => u.setSram t e.1 e.2)
    { s with sram := Tab.drop (fun k => decide (k / 768 = t)) s.sram, sealed := Tab.drop (fun k => decide (k / 384 = t)) s.sealed }

/-- A tile is cleared: its SRAM to zero (R170). -/
def State.clearSram (s : State) (t : Nat) : State := s.fillSram t []

/-- A spare that has received fill beats is cleared before it is free again (R197): 3,072 tile cycles. -/
def State.clearSpare (s : State) (t : Nat) : State := { s.clearSram t with clears := s.clears ++ [(t, s.now)] }

/-- Clears that have had their time are over. -/
def State.endClears (s : State) : State := { s with clears := s.clears.filter (fun c => !s.cyclesPassed c.2 3072) }

/-- A row that names a tile acts only on a valid one. DESIGN CHOICE: log entry 86. -/
def onTile (t : Nat) (_s : State) (next : State) : Host.Outcome State Fault Refusal :=
  if tileOk t then .next next else .fault .noSuchTile

end Sys2Proof.Machine
end

