-- ==== Sys2Proof/Machine/Power.lean ====
section
/-! DEFINITION. The Screening Allowance: what each activity is charged and what is left for the next (R33 to R35,
R89, R463, R464). Power in microwatts. -/

namespace Sys2Proof.Machine

/-- Clock and wafer power cap limits of the fused grade (R460). -/
def State.clockMax (s : State) : Nat := if s.fuses.grade = 0 then 1100 else if s.fuses.grade = 1 then 950 else 800
def State.capMax (s : State) : Nat := if s.fuses.grade = 0 then 2800 else if s.fuses.grade = 1 then 2400 else 2000

/-- KPR_TILE_CFG as it takes effect (R460). -/
def State.effClock (s : State) : Nat := clamp 200 s.clockMax (s.rf .kprTileCfgClockMhz 0)
def State.effCap (s : State) : Nat := clamp 1 s.capMax (s.rf .kprTileCfgCap10w 0)

/-- Ceiling of the allowance in units of 10 W (R34): 160 at grade C, else 200. -/
def State.allowanceCeiling (s : State) : Nat := if s.fuses.grade = 2 then 160 else 200

/-- SET after R34, in units of 10 W. -/
def State.effAllowance (s : State) : Nat := Nat.min (s.rf .kprAllowanceSet 0) s.allowanceCeiling

/-- The allowance in force, microwatts. -/
def State.allowanceUw (s : State) : Nat := s.rf .kprAllowanceInForce 0 * 10000000

/-- P_rsf: 60 W for a capture, 60 W for a reload, 95 mW for each fill in progress (R35). -/
def State.rsfUw (s : State) : Nat :=
  (if s.sec.capture.isSome then 60000000 else 0) + (if s.sec.rollback.any (fun r => decide (r.phase = 2)) then 60000000 else 0) +
  95000 * (s.regrows.filter (fun r => r.filling)).length

/-- N_on (R89). -/
def State.nOn (s : State) : Nat := Nat.min s.nService ((s.allowanceUw - s.rsfUw) / 1500)

/-- n_f (R90). -/
def State.nField (s : State) (f : Nat) : Nat :=
  if s.nService = 0 then 0 else s.nOn * s.inService f / s.nService

/-- Taps that are not OFF, those of replaying spares apart: their power is in the charge of the episode (R89). -/
def State.tapsCharged (s : State) : List Nat :=
  (s.regs.filter (fun e => decide (e.1 % 512 = RF.ctorIdx .tsnTapCtrlState ∧ e.2 ≠ 0) && !(s.tile (e.1 / 512)).replaying)).map (fun e => e.1 / 512)

/-- 1.5 mW for each tap from STARTING until it reaches OFF (R89). -/
def State.tapsUw (s : State) : Nat := 1500 * s.tapsCharged.length

/-- Spares replaying, and tiles under self-test. -/
def State.replayCount (s : State) : Nat := (s.tiles.filter (fun e => e.2.replaying)).length
def State.testCount (s : State) : Nat := (s.tiles.filter (fun e => e.2.underTest)).length

/-- What the allowance leaves after recovery, securing, fills and taps (R33). -/
def State.leftUw (s : State) : Nat := s.allowanceUw - s.rsfUw - s.tapsUw

/-- A share in units of 10 W takes effect as the allowance when it is above it (R463). -/
def State.shareUw (s : State) (v : Nat) : Nat := Nat.min v (s.rf .kprAllowanceInForce 0) * 10000000

/-- Spares that may replay at once (50 mW each, R113). -/
def State.replayLimit (s : State) : Nat := if s.mon.shedAt.isSome then 0 else Nat.min s.leftUw (s.shareUw s.shares.replay) / 50000

/-- Tiles that may be under self-test at once (95 mW each, R178): the self-test share while a launch runs, STARTUP
otherwise. -/
def State.testLimit (s : State) : Nat :=
  if s.mon.shedAt.isSome then 0
  else if s.launch.running then
    Nat.min (s.leftUw - 50000 * s.replayCount) (s.shareUw s.shares.test) / 95000
  else clamp 1 s.capMax s.shares.startup * 10000000 / 95000

/-- What scrub receives (R33, R463). -/
def State.scrubUw (s : State) : Nat :=
  if s.mon.shedAt.isSome then 0 else Nat.min (s.leftUw - 50000 * s.replayCount - 95000 * s.testCount) (s.shareUw s.shares.scrub)

/-- Microwatts as units of 0.1 W, rounded up, saturating at 0xFFFF (R464). -/
def deciWatts (uw : Nat) : Nat := Nat.min 0xFFFF ((uw + 99999) / 100000)

end Sys2Proof.Machine
end

