-- ==== Sys2Proof/Machine/Transfers.lean ====
section
/-! DEFINITION. Transfers on the row transplant buses and through the Replay Buffer ports, and the same-tick arbitration of the resources that
requesters share (01_architecture.md R23, R24; 09_ticks_order_sync.md R265, R266). -/

namespace Sys2Proof.Machine

/-! ### Rotating pointers (R265) -/

/-- Requester classes, lowest first. -/
def clsRecovery : Nat := 0
def clsSecuring : Nat := 1
def clsFill : Nat := 2
def clsReplay : Nat := 3
def clsTest : Nat := 4
def clsScrub : Nat := 5

/-- Keys of the rotating pointers: a row bus, a field's Replay Buffer ports, a spare, the storage port, the link share. -/
def rotRow (f row : Nat) : Nat := 120 * f + row
def rotPort (f : Nat) : Nat := 4000 + f
def rotSpare (t : Nat) : Nat := 10000 + t
def rotStorage : Nat := 4100
def rotLink : Nat := 4101
def rotDigest : Nat := 4102

/-- DESIGN CHOICE: log entry 88. -/
def State.rotor (s : State) (k : Nat) : Nat := Tab.get (fun _ => 0) s.rotors k

/-- A resource's pointer moves to one past the granted index. -/
def State.rotate (s : State) (k i : Nat) : State := { s with rotors := Tab.set (fun _ => 0) s.rotors k (i + 1) }

/-- The least of a list by a key; the earlier of equals. -/
def leastBy {α : Type} (key : α → Nat) : List α → Option α
  | [] => none
  | a :: t =>
    match leastBy key t with
    | none => some a
    | some b => if key b < key a then some b else some a

/-- The requester that a resource is granted to: of the lowest class, the first at or after the pointer in ascending index, wrapping. -/
def arbitrate {α : Type} (cls idx : α → Nat) (ptr : Nat) (l : List α) : Option α :=
  match leastBy cls l with
  | none => none
  | some m => leastBy (fun a => (if ptr ≤ idx a then 0 else 2 ^ 32) + idx a) (l.filter (fun a => decide (cls a = cls m)))

/-! ### Transfers -/

/-- A transfer through the Replay Buffer holds one of its four ports; one from tile to tile holds none (R24). -/
def Xfer.port : Xfer → Bool
  | .capture | .load | .readout => true
  | .transplant | .move => false

/-- A row's bus carries a transfer (R23). -/
def State.rowBusy (s : State) (t : Nat) : Bool :=
  s.transfers.any (fun x => decide (tileField x.tile = tileField t ∧ tileRow x.tile = tileRow t))

/-- Ports of a field's Replay Buffer that are held (R24). -/
def State.portsHeld (s : State) (f : Nat) : Nat := (s.transfers.filter (fun x => decide (tileField x.tile = f) && x.what.port)).length

/-- The transfer of a kind and owner. -/
def State.transferOf (s : State) (w : Xfer) (owner : Nat) : Option Transfer :=
  s.transfers.find? (fun x => decide (x.what = w ∧ x.owner = owner))

/-- A transfer ends: its row bus, and its port, are free (R266). -/
def State.endTransfer (s : State) (p : Transfer → Bool) : State := { s with transfers := s.transfers.filter (fun x => !p x) }

/-- A transfer of fixed length has had the time for its beats. -/
def State.beatsDone (s : State) (x : Transfer) : Bool := match x.beats with | some n => s.cyclesPassed x.since n | none => false

/-- Transfers of fixed length that have sent their last beat release what they hold. -/
def State.endBeats (s : State) : State := s.endTransfer (fun x => s.beatsDone x)

/-- Another transfer will hold the row's bus for more than 1,000 ticks (R120). -/
def State.rowHeldLong (s : State) (t : Nat) : Bool :=
  s.transfers.any (fun x => decide (tileField x.tile = tileField t ∧ tileRow x.tile = tileRow t) &&
    (match x.beats with | some n => decide ((s.now - x.since + 1000) * s.clock < n) | none => false))

/-! ### Requests for a row bus (R23, R24, R265) -/

/-- A request: what for, the tile whose transfer it is, its owner, class, index at the Replay Buffer's ports and length. -/
structure Ask where
  what  : Xfer
  tile  : Nat
  owner : Nat
  cls   : Nat
  port  : Nat
  beats : Option Nat
deriving DecidableEq, Repr

def Ask.row (a : Ask) : Nat := rotRow (tileField a.tile) (tileRow a.tile)

/-- One request a row: the winner of its bus. A row whose bus is held grants nothing. -/
def State.rowWinners (s : State) (asks : List Ask) : List Ask :=
  (dedup (asks.map Ask.row)).filterMap (fun r =>
    match arbitrate Ask.cls (fun a => tileCol a.tile) (s.rotor r) (asks.filter (fun a => decide (a.row = r))) with
    | some a => if s.rowBusy a.tile then none else some a
    | none => none)

/-- A granted transfer begins, and the pointers move. -/
def State.beginTransfer (s : State) (a : Ask) : State :=
  let s1 := ({ s with transfers := s.transfers ++ [⟨a.what, a.tile, a.owner, s.now, a.beats⟩] } : State).rotate a.row (tileCol a.tile)
  if a.what.port then s1.rotate (rotPort (tileField a.tile)) a.port else s1

/-- Winners that need a port of field f take the free ones in turn; a winner without a port waits, and holds no bus. Transfers of one
episode slot have one index and go in the order capture, load, readout (R24). -/
def State.grantPorts : Nat → State → Nat → List Ask → List Ask × State
  | 0, s, _, _ => ([], s)
  | n + 1, s, f, l =>
    if 4 ≤ s.portsHeld f then ([], s)
    else match arbitrate Ask.cls (fun a => 4 * a.port + (if a.what = .capture then 0 else if a.what = .load then 1 else 2)) (4 * s.rotor (rotPort f)) l with
      | none => ([], s)
      | some a =>
        let r := State.grantPorts n (s.beginTransfer a) f (l.filter (fun b => decide (b ≠ a)))
        (a :: r.1, r.2)

/-- The row buses and ports of a tick are granted: the requests that begin, and the state in which they hold what they asked for. -/
def State.grantRows (s : State) (asks : List Ask) : List Ask × State :=
  let w := s.rowWinners asks
  let plain := w.filter (fun a => !a.what.port)
  let s1 := plain.foldl State.beginTransfer s
  (List.range 32).foldl (fun (acc : List Ask × State) f =>
    let r := State.grantPorts 4 acc.2 f (w.filter (fun a => a.what.port && decide (tileField a.tile = f)))
    (acc.1 ++ r.1, r.2)) (plain, s1)

end Sys2Proof.Machine
end

