-- ==== Sys2Proof/Machine/Captures.lean ====
section
/-! DEFINITION. What an episode captures (04_shadow_replay.md R99 to R106): the two passes with their taken bits, the capture queue, the
records of inputs and their layout, the signature, the end digest, and the slots of the Replay Buffer. -/

namespace Sys2Proof.Machine

/-- Lines of context, of context and SRAM, and of the capture queue (R99, R100). -/
def ctxLines : Nat := 16
def allLines : Nat := 784
def queueBeats : Nat := 32

/-! ### Records (R101, R102) -/

/-- A record of 32 bytes. -/
def inputRecord (header payload offset port epoch type resident run : Nat) : Nat :=
  pack [(0, 64, header), (64, 128, payload), (192, 12, offset), (204, 2, port), (206, 2, epoch), (208, 2, type), (210, 1, resident),
    (211, 13, run)]

def arrivalRecord (f : Flit) (offset : Nat) (resident : Bool) : Nat :=
  inputRecord f.header.toNat f.payload.toNat offset f.port.val f.epoch.toNat 0 (bit resident) 0

def stallRecord (first run : Nat) : Nat := inputRecord 0 0 first 0 0 1 0 (run - 1)

def valueRecord (kind : BitVec 2) (v : BitVec 128) (offset : Nat) : Nat := inputRecord kind.toNat v.toNat offset 0 0 2 0 0

/-- A flit of the job: warden-channel traffic (VC3) is never recorded nor absorbed (R101, R103). -/
def jobFlit (f : Flit) : Bool := decide (f.vc ≠ 3)

/-- Records in beats of four. -/
def recordBeats : Nat → List Nat → List CapBeat
  | 0, _ => []
  | n + 1, l => if l.isEmpty then [] else .records (l.take 4) :: recordBeats n (l.drop 4)

/-! ### Signature (R103) -/

/-- One step of the 64-bit MISR with polynomial x⁶⁴ + x⁴ + x³ + x + 1: a shift, and the word added. DESIGN CHOICE: log entry 94. -/
def misrStep (m w : Nat) : Nat := ((if m.testBit 63 then (m * 2) ^^^ 0x1B else m * 2) ^^^ w) % 2 ^ 64

/-- A flit's four words: header, payload, tag. -/
def misrFlit (offset : Nat) (m : Nat) (f : Flit) : Nat :=
  [f.header.toNat, bits f.payload.toNat 0 64, bits f.payload.toNat 64 64, offset + f.port.val * 2 ^ 12].foldl misrStep m

/-- The flits of one cycle in port order; those that securing, a fill or a rotation draws are left out. -/
def misrCycle (m offset : Nat) (l : List Flit) : Nat :=
  (List.range 4).foldl (fun m p => (l.filter (fun f => jobFlit f && !f.drawn && decide (f.port.val = p))).foldl (misrFlit offset) m) m

/-! ### End digest (R104) -/

/-- The episode seed. -/
def episodeSeed (tapSeed number : Nat) : Nat :=
  let v := (tapSeed + 1 + number) % p61
  if v ≤ 1 then 2 else v

/-- What a line adds to the end digest: words 32l to 32l + 31, each under its power of the seed. -/
def lineSum (seed l data : Nat) : Nat :=
  (List.range 32).foldl (fun acc i => (acc + powP 61 seed (32 * l + i + 1) * bits data (32 * i) 32) % p61) 0

/-- The end digest of a whole image. -/
def imageDigest (seed : Nat) (img : TileImage) : Nat := img.foldl (fun acc e => (acc + lineSum seed e.1.val e.2.toNat) % p61) 0

/-! ### The capture, tile cycle by tile cycle (R100, R104, R105) -/

def imageTab (img : TileImage) : Tab Nat := img.foldl (fun t e => Tab.set (fun _ => 0) t e.1.val e.2.toNat) []

/-- A line as the snapshot takes it, and as the end pass does: its context is the one latched at t0 + W (R104). -/
def Capturing.line (c : Capturing) (l : Nat) : Nat := Tab.get (fun _ => 0) c.image l
def Capturing.line2 (c : Capturing) (l : Nat) : Nat := if l < ctxLines then Tab.get (fun _ => 0) c.context l else c.line l

/-- The lowest line whose bit is clear. -/
def nextLine (taken : Nat) : Option Nat := (List.range allLines).find? (fun l => !taken.testBit l)

/-- Every line of the snapshot has been taken and its pre-images have left the queue; the same of the end pass. -/
def Capturing.snapDone (c : Capturing) : Bool :=
  (nextLine c.taken).isNone && !c.queue.any (fun b => match b with | .line _ _ snap _ => snap | _ => false)
def Capturing.endDone (c : Capturing) : Bool :=
  (nextLine c.taken2).isNone && !c.queue.any (fun b => match b with | .line _ _ _ fin => fin | _ => false)

/-- A beat of the row bus leaves for the station: the line for the slot, or the comparator, or the records. -/
inductive Sent where
  | none | line (l data : Nat) (snap fin : Bool) | records (l : List Nat) | signature
deriving DecidableEq, Repr

def beatSent : CapBeat → Sent
  | .line l d a b => .line l d a b
  | .records l => .records l
  | .signature => .signature

/-- The beat of a cycle: the head of the queue; else the next line of the snapshot in address order; else, once the snapshot is
complete and the window has ended, the next line of the end pass. -/
def Capturing.send (c : Capturing) (window : Nat) : Sent × Capturing :=
  match c.queue with
  | b :: q => (beatSent b, { c with queue := q })
  | [] =>
    match nextLine c.taken with
    | some l => (.line l (c.line l) true false, { c with taken := c.taken ||| 1 <<< l })
    | none =>
      if window ≤ c.cycle then
        match nextLine c.taken2 with
        | some l => (.line l (c.line2 l) false true, { c with taken2 := c.taken2 ||| 1 <<< l })
        | none => (.none, c)
      else (.none, c)

/-- The tile writes a line of its SRAM: a line that a pass in progress has not taken sends its old contents first (R100); one that
neither pass has taken sends one pre-image for both (R104). -/
def Capturing.write (c : Capturing) (window l data : Nat) : Capturing :=
  let a := !c.taken.testBit l
  let b := decide (window ≤ c.cycle) && !c.taken2.testBit l
  let c1 := if a || b then
      { c with queue := c.queue ++ [.line l (c.line l) a b]
               taken := if a then c.taken ||| 1 <<< l else c.taken
               taken2 := if b then c.taken2 ||| 1 <<< l else c.taken2 }
    else c
  { c1 with image := Tab.set (fun _ => 0) c1.image l data }

/-- The run of stalled cycles that ends here makes one record. -/
def Capturing.stallEnd (c : Capturing) (stalled : Bool) : List Nat × Capturing :=
  match c.stall, stalled with
  | some (a, n), true => ([], { c with stall := some (a, n + 1) })
  | some (a, n), false => ([stallRecord a n], { c with stall := none })
  | none, true => ([], { c with stall := some (c.cycle, 1) })
  | none, false => ([], c)

/-- The inputs of one cycle of the window join the queue, and its outputs the signature (R101, R103). -/
def Capturing.inputs (c : Capturing) (x : TileCycle) : Capturing :=
  let (st, c1) := c.stallEnd x.stalled
  let recs := st ++ (x.arrivals.filter jobFlit).map (fun f => arrivalRecord f c.cycle false) ++ x.values.map (fun v => valueRecord v.1 v.2 c.cycle)
  { c1 with queue := c1.queue ++ recordBeats recs.length recs, misr := misrCycle c1.misr c.cycle x.emitted }

/-- At t0 + W the context is latched for the end pass, and a stall run in progress ends (R104). -/
def Capturing.close (c : Capturing) (x : TileCycle) : Capturing :=
  let (st, c1) := c.stallEnd false
  { c1 with queue := c1.queue ++ recordBeats st.length st, context := x.context.foldl (fun t e => Tab.set (fun _ => 0) t e.1.val e.2.toNat) [] }

/-- One tile cycle: a beat leaves, and the cycle's inputs and outputs come in. After both passes the signature is sent, as the last beat (R103). -/
def Capturing.step (c : Capturing) (window : Nat) (x : TileCycle) : Sent × Capturing :=
  let (b, c1) := c.send window
  let c2 := if c1.cycle < window then c1.inputs x else if c1.cycle = window then c1.close x else c1
  let c3 := { c2 with cycle := c2.cycle + 1, done := c2.done || decide (b = .signature) }
  if !c3.queued && decide (window < c3.cycle) && c3.snapDone && c3.endDone then
    (b, { c3 with queue := c3.queue ++ [.signature], queued := true })
  else (b, c3)

/-! ### The Replay Buffer (R106) -/

/-- First line of slot n: 674 KiB each; the control area follows the six slots. -/
def slotLine (n : Nat) : Nat := 5392 * n
def controlLine : Nat := 32352

/-- Records that a slot holds. -/
def slotRecords : Nat := 18432

def bufKey (f line : Nat) : Nat := 32768 * f + line

def State.bufLine (s : State) (f line : Nat) : Nat := Tab.get (fun _ => 0) s.replayBuf (bufKey f line)

/-- A line written whole into the buffer is good again (R28). -/
def State.setBuf (s : State) (f line v : Nat) : State :=
  ({ s with replayBuf := Tab.set (fun _ => 0) s.replayBuf (bufKey f line) (v % 2 ^ 1024) }).clearPoison (fun m => match m with
    | .replayBuffer g o => decide (g.val = f ∧ o / 128 = line)
    | _ => false)

/-- A record goes to its place in the slot, in capture order. -/
def State.bufRecord (s : State) (f slot i r : Nat) : State :=
  let l := slotLine slot + allLines + i / 4
  let old := s.bufLine f l
  s.setBuf f l (pack ((List.range 4).map (fun k => (256 * k, 256, if k = i % 4 then r else if k < i % 4 then bits old (256 * k) 256 else 0))))

/-- Records of a slot, in capture order. -/
def State.slotRecs (s : State) (f slot n : Nat) : List Nat :=
  (List.range n).map (fun i => bits (s.bufLine f (slotLine slot + allLines + i / 4)) (256 * (i % 4)) 256)

/-- Context and snapshot of a slot. -/
def State.slotImage (s : State) (f slot : Nat) : Tab Nat :=
  (List.range allLines).foldl (fun t l => Tab.set (fun _ => 0) t l (s.bufLine f (slotLine slot + l))) []

/-- A word of the slot is poisoned (R28). -/
def State.slotPoisoned (s : State) (f slot : Nat) : Bool :=
  s.poison.any (fun m => match m with
    | .replayBuffer g o => decide (g.val = f ∧ slotLine slot ≤ o / 128 ∧ o / 128 < slotLine (slot + 1))
    | _ => false)

end Sys2Proof.Machine
end

