-- ==== Sys2Proof/Machine/Semaphores.lean ====
section
/-! DEFINITION. The Semaphore Store, its waits, the Parking Buffer and remote adds (09_ticks_order_sync.md R281 to
R296). -/

namespace Sys2Proof.Machine

/-! ### Cores and their results (R416, R435) -/

/-- A general register of a core; x0 reads zero (R416). -/
def Core.getX (c : Core) (r : Nat) : Word := if r = 0 then 0 else Tab.get (fun _ => 0) c.x r

/-- A write of a general register; x0 ignores it (R416). -/
def Core.setX (c : Core) (r : Nat) (v : Word) : Core := if r = 0 then c else { c with x := Tab.set (fun _ => 0) c.x r v }

def Core.getD (c : Core) (r : Nat) : BitVec 256 := Tab.get (fun _ => 0) c.d r
def Core.setD (c : Core) (r : Nat) (v : BitVec 256) : Core := { c with d := Tab.set (fun _ => 0) c.d r v }

/-- The result word of a manager operation (R435). -/
def opResult (status flags value : Nat) : Word := BitVec.ofNat 64 (pack [(0, 8, status), (8, 8, flags), (32, 32, value)])

/-- A core is a keeper core, and the field of a field core (R417). -/
def isKeeperCore (c : Nat) : Bool := decide (64 ≤ c)
def coreField (c : Nat) : Nat := c / 2

/-- HALT_SEEN of a core's status register. -/
def State.haltSeen (s : State) (c : Nat) : State :=
  if isKeeperCore c then s.put .kprCoreStatusHaltSeen (c - 64) 1 else s.put .fstCoreStatusHaltSeen c 1

/-- The core halts; its watchdog runs on (R427). -/
def State.haltCore (s : State) (c : Nat) : State := (s.setCore c { s.core c with run := 2 }).haltSeen c

/-- A target the core can fetch from. DEDUCED: log entry 18. -/
def fetchable (pc : Nat) : Bool := decide (pc < 65536 ∧ pc % 4 = 0)

/-- A trap (R427): causes 1 illegal, 2 misaligned, 3 access fault, 4 fetch fault, 5 misaligned target. With TVEC zero, or inside a
trap, the core halts; so does a handler address that cannot be fetched from. DEDUCED: log entry 18. -/
def State.trapAt (s : State) (c epc cause tval : Nat) : State :=
  let x := s.core c
  if x.tvec = 0 ∨ x.inTrap = true then s.haltCore c
  else
    let s1 := s.setCore c { x with epc := BitVec.ofNat 64 epc, cause := BitVec.ofNat 64 cause, tval := BitVec.ofNat 64 tval,
                                   inTrap := true, pc := x.tvec.toNat % 2 ^ 32 }
    if fetchable x.tvec.toNat then s1 else s1.haltCore c

def State.trap (s : State) (c cause tval : Nat) : State := s.trapAt c (s.core c).pc cause tval

/-- The instruction completes and the core goes on at a target; where that lies at or past IMEM byte 65,536, its fetch faults. DEDUCED: log entry 18. -/
def State.goTo (s : State) (c target : Nat) : State :=
  let x := s.core c
  let t := target % 2 ^ 32
  let s1 := s.setCore c { x with pc := t, instret := x.instret + 1 }
  if t < 65536 then s1 else s1.trapAt c t 4 t

/-- The instruction completes and the core goes on at the next. DEDUCED: log entry 18. -/
def State.goNext (s : State) (c : Nat) : State := s.goTo c ((s.core c).pc + 4)

/-- A general register is written and the core goes on. -/
def State.writeReg (s : State) (c rd : Nat) (v : Word) : State := (s.setCore c ((s.core c).setX rd v)).goNext c

/-- One asynchronous operation of a core ends: its entry leaves and its event enters the core's queue (R432, R436). -/
def State.asyncDone (s : State) (c major kind id status value body : Nat) : State :=
  let x := s.core c
  s.setCore c ({ x with async := x.async.erase ⟨major, kind, id⟩ }.enqueue
    ⟨kind, 0, 0, false, false, 0, s.now, 0, if kind = 13 then major else id, status, value, body, false⟩)

/-- Major opcode of SEMWAIT. -/
def majSemwait : Nat := 0x2B

/-! ### Counters (R281, R286) -/

def semPoisoned (s : State) (c : Nat) : Bool := decide (s.rf .semFlagsPoison c = 1)

/-- Place of a wait in the order of R261, Keeper waits first (R283). -/
def waitLoc : WaitOwner → Nat
  | .host _ _ => 0
  | .core c _ _ => if 64 ≤ c then 0 else locStation (c / 2)
  | .tile t => locTile t

/-- Stable insertion by a key. -/
def insertBy {α : Type} (key : α → Nat) (a : α) : List α → List α
  | [] => [a]
  | b :: t => if key a < key b then a :: b :: t else b :: insertBy key a t

/-- A list in ascending order of a key; equal keys keep their order. -/
def sortBy {α : Type} (key : α → Nat) (l : List α) : List α := l.foldl (fun acc a => insertBy key a acc) []

/-- Resolution of a counter's waits (R283): the waits that complete with the count at their completion, those that
stay, and the count that is left. -/
def resolveWaits (counter : Nat) : List SemWait → Nat → List (SemWait × Nat) × List SemWait × Nat
  | [], n => ([], [], n)
  | w :: t, n =>
    if w.counter = counter ∧ w.n ≤ n then
      let n' := if w.consume then n - w.n else n
      let (d, k, m) := resolveWaits counter t n'
      ((w, n') :: d, k, m)
    else
      let (d, k, m) := resolveWaits counter t n
      (d, w :: k, m)

/-- A wait ends: a stalled core gets rd, an asynchronous one its event, the host its response, a tile its release. DEDUCED: log entry 19. -/
def State.endWait (s : State) (w : SemWait) (status value : Nat) : State :=
  match w.owner with
  | .core c _ true => s.asyncDone c majSemwait 14 w.counter status value 0
  | .core c rd false => (s.setCore c { s.core c with stall := none }).writeReg c rd (opResult status 0 value)
  | .host cid _ =>
    s.respond 0x41 cid (if status = 0 then 0 else if status = 6 then 11 else if status = 8 then 2 else 3) 1
      (if status = 0 then value else 0)
  | .tile _ => s

def State.endWaits (s : State) (ws : List (SemWait × Nat)) (status : Nat) : State :=
  ws.foldl (fun t w => t.endWait w.1 status w.2) s

/-- Waits that `p` picks end with a status (R284, R285). DEDUCED: log entry 67. -/
def State.dropWaits (s : State) (p : SemWait → Bool) (status : Nat) : State :=
  ({ s with waits := s.waits.filter (fun w => !p w) }).endWaits ((s.waits.filter p).map (fun w => (w, 0))) status

/-- The counter's waits are resolved (R283). -/
def State.resolve (s : State) (c : Nat) : State :=
  let (done, left, n) := resolveWaits c (sortBy (fun w => waitLoc w.owner) s.waits) (s.rf .semCountCount c)
  (({ s with waits := left }).put .semCountCount c n).endWaits done 0

/-- BOUNDARY_SEM and RELEASE_SEM of the Securing Map header (R227). -/
def mapBase : Nat := 0x1800000
def State.boundarySem (s : State) : Nat := readBytes s.ks (mapBase + 8) 2 % 4096
def State.releaseSem (s : State) : Nat := readBytes s.ks (mapBase + 10) 2 % 4096

/-- The saturation event (class 10). -/
def State.satEvent (s : State) : State := s.sample 10 locKeeper [.log]

/-- A map header that names the boundary semaphores is loaded, whether or not MAP_VALID says that it is to be used (R227, R228). DEDUCED:
log entry 74. -/
def State.mapHere (s : State) : Bool := decide (s.rf .kprSecCtrlMapValid 0 = 1) || decide (readBytes s.ks mapBase 1 = 1)

/-- ADD n (R281), with the WTC of an add to BOUNDARY_SEM (R233), then the resolution of the counter's waits. -/
def State.semAdd (s : State) (c n : Nat) : State :=
  let v := s.rf .semCountCount c + n
  let s1 := s.put .semCountCount c (Nat.min v 0xFFFFFFFF)
  let s2 := if 0xFFFFFFFF < v then (s1.put .semFlagsAddSat c 1).satEvent else s1
  let s3 := if s2.mapHere ∧ c = s2.boundarySem then
      { s2 with sec := { s2.sec with adds := s2.sec.adds ++ List.replicate (Nat.min n 4096) s2.wtc } } else s2
  s3.resolve c

/-- SUB n (R281). -/
def State.semSub (s : State) (c n : Nat) : State :=
  let v := s.rf .semCountCount c
  let s1 := s.put .semCountCount c (v - n)
  if v < n then (s1.put .semFlagsSubSat c 1).satEvent else s1

/-- An add or subtract in the Store saturates. -/
def addSats (s : State) (c n : Nat) : Bool := decide (0xFFFFFFFF < s.rf .semCountCount c + n)
def subSats (s : State) (c n : Nat) : Bool := decide (s.rf .semCountCount c < n)

/-- The table of R284 that a wait stands in, and whether it is full: 64 Keeper waits, 256 for each field. -/
def waitTable : WaitOwner → Nat
  | .host _ _ => 32
  | .core c _ _ => if 64 ≤ c then 32 else c / 2
  | .tile t => tileField t

def State.waitFull (s : State) (w : WaitOwner) : Bool :=
  decide ((if waitTable w = 32 then 64 else 256) ≤ (s.waits.filter (fun x => decide (waitTable x.owner = waitTable w))).length)

/-- A wait is issued: it completes at once, or is held (R281, R283). The caller has checked poison and room. -/
def State.semWait (s : State) (w : SemWait) : State :=
  let v := s.rf .semCountCount w.counter
  if w.n ≤ v then
    if w.consume then (s.put .semCountCount w.counter (v - w.n)).endWait w 0 (v - w.n) else s.endWait w 0 v
  else { s with waits := s.waits ++ [w] }

/-- TILE_SEM_OP: an operation from a tile through its Field Station (R281). An operation with n = 0 or on a poisoned
counter is rejected (R286); a wait that finds its table full is held back at its source (R284). DEDUCED: log entry 19. -/
def State.tileSem (s : State) (t : Nat) (op : SemOp) (c n : Nat) : State :=
  if n = 0 ∨ semPoisoned s c = true then s
  else match op with
    | .add => s.semAdd c n
    | .sub => s.semSub c n
    | .wait => if s.waitFull (.tile t) then s else s.semWait ⟨.tile t, c, n, false, s.now⟩
    | .waitConsume => if s.waitFull (.tile t) then s else s.semWait ⟨.tile t, c, n, true, s.now⟩

/-- SEM_POISON (R286): POISON is set and the class 3 event raised, with its notice. -/
def State.semPoisonSet (s : State) (c : Nat) : State :=
  if semPoisoned s c then s
  else (s.put .semFlagsPoison c 1).sample 3 locKeeper [evNotice 11 32 0 0x80 0 (c)]

/-! ### Remote adds and the Parking Buffer (R289 to R296) -/

def State.warden (s : State) (k : Nat) : Warden := Tab.get (fun _ => {}) s.wardens k
def State.setWarden (s : State) (k : Nat) (w : Warden) : State := { s with wardens := Tab.set (fun _ => {}) s.wardens k w }

def State.landed (s : State) (k src : Nat) : Nat := Tab.get (fun _ => 0) (s.warden k).landed src
def State.sent (s : State) (k dst : Nat) : Nat := Tab.get (fun _ => 0) (s.warden k).sent dst

/-- Fields of a remote-add packet (R290). -/
def addCounter (p : Nat) : Nat := bits p 16 12
def addSource (p : Nat) : Nat := bits p 32 15
def addAmount (p : Nat) : Nat := bits p 64 32
def addFseq (p : Nat) : Nat := bits p 96 32
def addSeqNo (p : Nat) : Nat := bits p 128 32
def addLaunch (p : Nat) : Nat := bits p 160 64

/-- The packet is good: CRC, VERSION, AMOUNT, SOURCE (R290). -/
def addOk (p : Nat) : Bool :=
  decide (crc16 (bytesOf p 0 30) = bits p 240 16) && decide (bits p 0 4 = 1) && decide (addAmount p ≠ 0) &&
  !engineReserved (addSource p)

def State.parkDiscard (s : State) (n : Nat) : State := s.bumpBy .kprParkDiscardsDiscards 0 n .kprParkStatusCountSat 0 1

/-- An add applied at the Store; on a poisoned counter it is rejected (R286). -/
def State.applyAdd (s : State) (p : Nat) : State :=
  if semPoisoned s (addCounter p) then s else s.semAdd (addCounter p) (addAmount p)

/-- The lowest free entry of the Parking Buffer (R292: 256 entries). -/
def freeParkSlot (l : List Parked) : Nat :=
  ((List.range 256).find? (fun i => !l.any (fun p => decide (p.slot = i)))).getD 0

/-- The add takes a Parking Buffer entry, and the Warden watches its source (R291, R292). -/
def State.parkAdd (s : State) (k p : Nat) : State :=
  let w := s.warden k
  let l := s.park ++ [⟨freeParkSlot s.park, k, p, s.now, false⟩]
  let s1 := ({ s with park := l }).setWarden k { w with watch := Tab.set (fun _ => 0) w.watch (addSource p) (addFseq p) }
  let s2 := if s1.rf .kprParkStatusHigh 0 < l.length then s1.put .kprParkStatusHigh 0 l.length else s1
  if l.length = 256 then s2.put .kprParkStatusFullSeen 0 1 else s2

/-- REMOTE_ADD_RECEIVE (R290 to R292, R295). -/
def State.remoteAdd (s : State) (k p : Nat) : State :=
  if addOk p = false then s.bump .lwdParkDiscardDiscards k .lwdParkStatusDiscardSat k 1
  else if addLaunch p ≠ s.goWtc then s.parkDiscard 1
  else if serialGe (s.landed k (addSource p)) (addFseq p) &&
      !s.park.any (fun q => decide (addSource q.packet = addSource p ∧ q.port = k) && serialAfter (addSeqNo p) (addSeqNo q.packet)) then
    s.applyAdd p
  else if s.park.length < 256 then s.parkAdd k p
  else (s.setWarden k { s.warden k with ingress := (s.warden k).ingress ++ [p] }).put .lwdParkStatusBackpressure k 1

/-- Parked adds of a source in ADD_SEQ order. -/
def seqBefore (a b : Parked) : Bool := serialAfter (addSeqNo b.packet) (addSeqNo a.packet)

def insertSeq (a : Parked) : List Parked → List Parked
  | [] => [a]
  | b :: t => if seqBefore a b then a :: b :: t else b :: insertSeq a t

/-- PARKED_ADD_RELEASE (R291): every satisfied add of the source, in ADD_SEQ order. -/
def State.releaseAdds (s : State) (k src : Nat) : State :=
  let mine := fun (q : Parked) => decide (addSource q.packet = src ∧ q.port = k) && serialGe (s.landed k src) (addFseq q.packet)
  let go := (s.park.filter mine).foldl (fun acc q => insertSeq q acc) []
  go.foldl (fun t q => t.applyAdd q.packet) { s with park := s.park.filter (fun q => !mine q) }

/-- WRITE_LANDED (R289, R291): LANDED rises. The release follows when an add parked for the source is satisfied. A reserved source is
discarded and counted (R15). -/
def State.writeLanded (s : State) (k src : Nat) : State :=
  let w := s.warden k
  if engineReserved src then s.setWarden k { w with discards := w.discards + 1 }
  else s.setWarden k { w with landed := Tab.set (fun _ => 0) w.landed src (succ32 (Tab.get (fun _ => 0) w.landed src)) }

/-- PRIORITY_INGRESS_RESUME (R292): the add held longest is taken once an entry frees, or passes if satisfied. -/
def State.ingressResume (s : State) (k : Nat) : State :=
  let w := s.warden k
  match w.ingress with
  | [] => s.put .lwdParkStatusBackpressure k 0
  | p :: t =>
    if s.park.length < 256 ∨ serialGe (s.landed k (addSource p)) (addFseq p) = true then
      ((s.setWarden k { w with ingress := t }).put .lwdParkStatusBackpressure k (bit (!t.isEmpty))).remoteAdd k p
    else s

/-- PARK_MS as it takes effect, in ticks. -/
def State.parkTicks (s : State) : Nat := 1000 * Nat.max 1 (s.rf .kprParkCtrlParkMs 0)

/-- PARK_TIMEOUT (R293). -/
def State.parkTimeout (s : State) (entry : Nat) : State :=
  match s.park.find? (fun q => decide (q.slot = entry)) with
  | some q =>
    if q.timedOut = false ∧ q.since + s.parkTicks < s.now then
      (({ s with park := s.park.map (fun (x : Parked) => if x.slot = entry then { x with timedOut := true } else x) }).put
        .kprParkStatusParkTimeoutSeen 0 1).sample 7 locKeeper
        [.croak 0x13 1 (pack [(0, 15, addSource q.packet), (16, 12, addCounter q.packet), (32, 32, addFseq q.packet),
          (64, 32, s.landed q.port (addSource q.packet))])]
    else s
  | none => s

/-- The list of a PARK_FLUSH: count, then the packets from byte 32 of the message (R409). -/
def flushPayload (ps : List Nat) : Nat :=
  ps.length ||| (ps.foldr (fun p acc => p ||| acc <<< 256) 0) <<< 128

/-- PARK_FLUSH lists of up to 126 adds, delivered by firmware (R295, R431). -/
def State.parkFlush : Nat → State → List Nat → State
  | 0, s, _ => s
  | n + 1, s, ps =>
    if ps.isEmpty then s
    else
      let part := ps.take 126
      State.parkFlush n (s.sample 10 locKeeper
        [.post 11 32 0 (16 + 16 + 32 * part.length) (noticeBody 0x14 0 0 ||| flushPayload part <<< 128) true]) (ps.drop 126)

/-- Every parked add and every add held at ingress. -/
def State.allAdds (s : State) : List Nat :=
  s.park.map (fun q => q.packet) ++ ((List.range 16).map (fun k => (s.warden k).ingress)).foldl (· ++ ·) []

/-- The link counts and held adds of a port are cleared. -/
def State.clearWarden (s : State) (k : Nat) : State :=
  (s.setWarden k { s.warden k with sent := [], landed := [], watch := [], ingress := [] }).put .lwdParkStatusBackpressure k 0

/-- Semaphores that the program names as initially nonzero (R285). -/
def State.loadSems (s : State) (l : List (Nat × Nat)) : State :=
  l.foldl (fun t e => if e.1 < 4096 then t.put .semCountCount e.1 e.2 else t) s

/-- Every counter reads zero; poison stays (R285). -/
def State.clearCounts (s : State) : State := s.resetRegs (fun F _ => decide (F = .semCountCount))

/-- PROGRAM_START (R285, R286, R289, R295): counters cleared, waits ended, adds of the old program discarded, link
counts cleared; then the program's semaphore table is loaded. `flush` says that firmware lists the adds. DEDUCED: log entry 67. -/
def State.programStart (s : State) (init : List (Nat × Nat)) (wtcGo : Nat) (flush : Bool) : State :=
  let s1 := s.dropWaits (fun _ => true) 7
  let s2 := s1.poisonAsked.foldl (fun t c => t.put .semFlagsPoison c 0) { s1.clearCounts with poisonAsked := [] }
  let gone := s2.allAdds
  let s3 := ({ s2 with park := [], goWtc := wtcGo }).parkDiscard gone.length
  let s4 := if flush then State.parkFlush 64 s3 gone else s3
  ((List.range 16).foldl State.clearWarden { s4 with sec := { s4.sec with adds := [] } }).loadSems init

/-- REMOTE_ADD_SEND (R290): the packet leaves stamped with FSEQ and LAUNCH_WTC. -/
def State.remoteAddSend (s : State) (k dest c n : Nat) : State :=
  let w := s.warden k
  let p := withCrc16 30 (pack [(0, 4, 1), (4, 4, 1), (8, 2, s.rf .kprEpochCurrent 0), (16, 12, c),
    (32, 15, s.rf .kprEngineEngine 0), (48, 15, dest), (64, 32, n), (96, 32, s.sent k dest), (128, 32, w.addSeq), (160, 64, s.goWtc)])
  { s.setWarden k { w with addSeq := succ32 w.addSeq } with out := .remoteAdd k p :: s.out }

/-- FABRIC_WRITE_SEND (R289): SENT[d] rises. -/
def State.fabricSend (s : State) (k dest : Nat) : State :=
  let w := s.warden k
  s.setWarden k { w with sent := Tab.set (fun _ => 0) w.sent dest (succ32 (s.sent k dest)) }

/-! ### Rows -/

def execTileSemOp (tile : Nat) (op : SemOp) (counter : BitVec 12) (n : BitVec 32) (s : State) :
    Host.Outcome State Fault Refusal := onTile tile s (s.tileSem tile op counter.toNat n.toNat)

def execSemPoison (counter : BitVec 12) (s : State) : Host.Outcome State Fault Refusal := .next (s.semPoisonSet counter.toNat)

def execRemoteAddReceive (k : Fin 16) (add : RemoteAdd) (s : State) : Host.Outcome State Fault Refusal :=
  .next (s.remoteAdd k.val add.toNat)

def execWriteLanded (k : Fin 16) (source : BitVec 15) (s : State) : Host.Outcome State Fault Refusal :=
  .next ((s.writeLanded k.val source.toNat).releaseAdds k.val source.toNat)

def execParkedAddRelease (k : Fin 16) (source : BitVec 15) (s : State) : Host.Outcome State Fault Refusal :=
  .next (s.releaseAdds k.val source.toNat)

def execPriorityIngressResume (k : Fin 16) (s : State) : Host.Outcome State Fault Refusal := .next (s.ingressResume k.val)

def execParkTimeout (entry : Nat) (s : State) : Host.Outcome State Fault Refusal := .next (s.parkTimeout entry)

def execRemoteAddSend (k : Fin 16) (dest : BitVec 15) (counter : BitVec 12) (amount : BitVec 32) (s : State) :
    Host.Outcome State Fault Refusal := .next (s.remoteAddSend k.val dest.toNat counter.toNat amount.toNat)

def execFabricWriteSend (k : Fin 16) (dest : BitVec 15) (s : State) : Host.Outcome State Fault Refusal :=
  .next (s.fabricSend k.val dest.toNat)

end Sys2Proof.Machine
end

