-- ==== Sys2Proof/Machine/Sha.lean ====
section
/-! DEFINITION. SHA-256 and HMAC-SHA-256 over bytes, as the manual uses them (R143, R153, R228, R371 to R377, R413, R443).
The functions themselves are those of FIPS 180-4 and RFC 2104 (log entry 14). -/

namespace Sys2Proof.Machine

abbrev W32 := BitVec 32

/-! The constants are the first 32 bits of the fractional parts of roots of the first primes. -/

def hasDivisor (n : Nat) : Bool := (List.range n).any (fun d => decide (2 ≤ d) && decide (n % d = 0))

/-- The 64 primes below 312. -/
def shaPrimes : List Nat := ((List.range 310).map (· + 2)).filter (fun n => !hasDivisor n)

/-- The integer root of degree e of n, found bit by bit below 2^b. -/
def rootBelow (e n : Nat) : Nat → Nat → Nat
  | 0, r => r
  | b + 1, r => rootBelow e n b (if (r + 2 ^ b) ^ e ≤ n then r + 2 ^ b else r)

/-- The fraction of the root of degree e of n, to 32 bits. -/
def rootFrac (e n : Nat) : W32 := BitVec.ofNat 32 (rootBelow e (n <<< (32 * e)) 40 0)

def shaInit : List W32 := (shaPrimes.take 8).map (rootFrac 2)
def shaK : List W32 := shaPrimes.map (rootFrac 3)

/-- Three rotations of a word, the last a shift where `z` is set, added mod 2. -/
def mix3 (z : Bool) (i j k : Nat) (x : W32) : W32 :=
  [x.rotateRight j, if z then x >>> k else x.rotateRight k].foldl (· ^^^ ·) (x.rotateRight i)

def smallSigma0 : W32 → W32 := mix3 true 7 18 3
def smallSigma1 : W32 → W32 := mix3 true 17 19 10
def bigSigma0 : W32 → W32 := mix3 false 2 13 22
def bigSigma1 : W32 → W32 := mix3 false 6 11 25

/-- The message schedule, newest word first. -/
def shaExpand : Nat → List W32 → List W32
  | 0, w => w
  | n + 1, w => shaExpand n ((w.getD 15 0 + smallSigma0 (w.getD 14 0) + w.getD 6 0 + smallSigma1 (w.getD 1 0)) :: w)

def shaRound (h : List W32) (kw : W32 × W32) : List W32 :=
  match h with
  | [a, b, c, d, e, f, g, x] =>
    let choice := g ^^^ (e &&& (f ^^^ g))
    let major := (a &&& b) ||| (c &&& (a ||| b))
    let u := kw.1 + kw.2 + choice + bigSigma1 e + x
    [major + bigSigma0 a + u, a, b, c, u + d, e, f, g]
  | _ => h

/-- One block: 16 words in message order. -/
def shaBlock (h ws : List W32) : List W32 :=
  List.zipWith (· + ·) h ((shaK.zip (shaExpand 48 ws.reverse).reverse).foldl shaRound h)

/-- Big-endian words of bytes. -/
def beWords : Nat → List Nat → List W32
  | 0, _ => []
  | n + 1, bs => BitVec.ofNat 32 (ofBytes (bs.take 4).reverse) :: beWords n (bs.drop 4)

def shaBlocks : Nat → List W32 → List Nat → List W32
  | 0, h, _ => h
  | n + 1, h, bs => shaBlocks n (shaBlock h (beWords 16 (bs.take 64))) (bs.drop 64)

/-- Bytes of a number, highest first. -/
def beBytes (n v : Nat) : List Nat := (bytesOf v 0 n).reverse

def shaPad (bs : List Nat) : List Nat :=
  bs ++ 0x80 :: List.replicate ((119 - bs.length % 64) % 64) 0 ++ beBytes 8 (8 * bs.length)

/-- SHA-256 over bytes; 32 bytes, byte 0 first. PRESUMED: log entry 14. -/
def sha256 (bs : List Nat) : List Nat :=
  let p := shaPad bs
  ((shaBlocks (p.length / 64) shaInit p).map (fun w => beBytes 4 w.toNat)).foldl (· ++ ·) []

/-- HMAC-SHA-256 with a 32-byte key. PRESUMED: log entry 14. -/
def hmac256 (key msg : List Nat) : List Nat :=
  let k := key ++ List.replicate 32 0
  sha256 (k.map (· ^^^ 0x5C) ++ sha256 (k.map (· ^^^ 0x36) ++ msg))

/-- A 256-bit digest or key as a number, byte 0 least significant. -/
def shaNat (bs : List Nat) : Nat := ofBytes (sha256 bs)
def hmacNat (key : Nat) (msg : List Nat) : Nat := ofBytes (hmac256 (bytesOf key 0 32) msg)

end Sys2Proof.Machine
end

