-- ==== Sys2Proof/Machine/SecBase.lean ====
section
/-! DEFINITION. Securing, the shared operations: the Securing Map, the copy directory and its records, voiding (R244),
ROLLBACK_NEEDED (R250) and the management messages (R411). -/

namespace Sys2Proof.Machine

/-! ### Securing Map (R226 to R229) -/

def State.mapEntry (s : State) (lw : Nat) : Nat := readBytes s.ks (mapBase + 64 + 4 * lw) 4
def entryBlocks (e : Nat) : Nat := bits e 9 6 + bits e 24 6
def State.mapMask (s : State) : Nat := readBytes s.ks (mapBase + 4) 4
def State.mapDigest (s : State) : Nat := readBytes s.ks (mapBase + 32) 32
def State.reserveBase (s : State) : Nat := readBytes s.ks (mapBase + 12) 2 % 512
def State.reserveBlocks (s : State) : Nat := readBytes s.ks (mapBase + 14) 1 % 64

/-- Position of a logical tile in the map (R227). -/
def lwOf (l : Nat) : Nat := 13920 * tileField l + ellOf l

/-- The size B of a copy (R228). -/
def State.copyBytes (s : State) : Nat :=
  256 * ((List.range 32).map (fun f => if (s.mapMask).testBit f then
    ((List.range 13920).map (fun l => entryBlocks (s.mapEntry (13920 * f + l)))).foldl (· + ·) 0 else 0)).foldl (· + ·) 0

/-- An entry breaks R228: more than 48 blocks, an extent past block 383, overlapping extents, or one over the Copy
Reserve. -/
def badEntry (e rb rn : Nat) : Bool :=
  let b0 := bits e 0 9
  let n0 := bits e 9 6
  let b1 := bits e 15 9
  let n1 := bits e 24 6
  let meets := fun b n c m => decide (0 < n ∧ 0 < m ∧ b < c + m ∧ c < b + n)
  decide (48 < n0 + n1) || decide (0 < n0 ∧ 384 < b0 + n0) || decide (0 < n1 ∧ 384 < b1 + n1) || meets b0 n0 b1 n1 ||
  meets b0 n0 rb rn || meets b1 n1 rb rn

def State.mapEntries (s : State) : List Nat := (List.range 445440).map s.mapEntry

/-- The map is rejected at a launch (R228); one with a poisoned word too. DEDUCED: log entry 33. -/
def State.mapBad (s : State) (fieldMask : Nat) : Bool :=
  decide (readBytes s.ks mapBase 1 ≠ 1) || s.mapEntries.any (fun e => badEntry e s.reserveBase s.reserveBlocks) ||
  decide (s.mapMask ≠ fieldMask) || decide (shaNat ((List.range (4 * 445440)).map (fun i => readByte s.ks (mapBase + 64 + i))) ≠ s.mapDigest) ||
  s.ksPoisoned mapBase (64 + 4 * 445440)

/-! ### What a copy holds (R229) -/

/-- The logical tile at a position of the map. -/
def lwTile (lw : Nat) : Nat := tileId (lw / 13920) (lw % 13920 / 116) (lw % 116)

/-- Blocks of an entry in copy order: extent 0 before extent 1. -/
def extentBlocks (e : Nat) : List Nat :=
  (List.range (bits e 9 6)).map (fun i => bits e 0 9 + i) ++ (List.range (bits e 24 6)).map (fun i => bits e 15 9 + i)

/-- Logical tile and block of every block of a copy, in its order: ascending ℓw. -/
def State.copyBlocks (s : State) : List (Nat × Nat) :=
  (List.range 32).flatMap (fun f => if s.mapMask.testBit f then
    (List.range 13920).flatMap (fun l => (extentBlocks (s.mapEntry (13920 * f + l))).map (fun b => (lwTile (13920 * f + l), b))) else [])

/-- The seed of a copy's content digest. -/
def State.copySeed (s : State) (step : Nat) : Nat :=
  let v := (s.rf .kprDigSeedActiveDseed 0 + 2 + step % 2 ^ 60) % p61
  if v ≤ 1 then 2 else v

/-- PLD-61 over a copy of what the tiles hold, each logical tile read where the Remap Table says (R216, R229): block i of the copy is its
lines 2i and 2i + 1. -/
def State.copyDigest (s : State) (step : Nat) : Nat :=
  (s.copyBlocks.foldl (fun (acc : Nat × Nat) b =>
    let t := s.serving b.1
    (acc.1 + 1, (acc.2 + lineSum (s.copySeed step) (2 * acc.1) (s.sramLine t (2 * b.2)) +
      lineSum (s.copySeed step) (2 * acc.1 + 1) (s.sramLine t (2 * b.2 + 1))) % p61)) (0, 0)).2

/-- A line of a tile lies in an extent of the logical tile that it serves. -/
def State.mapped (s : State) (t l : Nat) : Bool :=
  match s.logicalOf t with
  | some x => s.mapMask.testBit (tileField x) && (extentBlocks (s.mapEntry (lwOf x))).contains (l / 2)
  | none => false

/-- A reloaded copy lands in the tiles' extents: lines that are not listed are zero (R251). -/
def State.landCopy (s : State) (data : List (Fin 445440 × Fin 768 × BitVec 1024)) : State :=
  data.foldl (fun u e =>
    let t := s.serving (lwTile e.1.val)
    if s.mapped t e.2.1.val then u.setSram t e.2.1.val e.2.2.toNat else u)
    { s with sram := Tab.drop (fun k => s.mapped (k / 768) (k % 768)) s.sram }

/-! ### Copy headers (R241) -/

/-- The header of a generation (R241). -/
def genHeader (g : Gen) : Nat :=
  withCrc32 60 (pack [(0, 8, 1), (8, 2, g.layer), (10, 3, g.state), (13, 1, bit g.coFed), (14, 1, bit g.hazard), (16, 15, g.engine),
    (32, 16, g.drives), (64, 64, g.step), (128, 64, g.wtc), (192, 64, g.bytes), (256, 64, g.mapDigest), (320, 64, g.content)])

/-- A header read back: none unless its CRC and VERSION are good. -/
def readHeader (h : Nat) : Option CopyHeader :=
  if crc32 (bytesOf h 0 60) = bits h 480 32 ∧ bits h 0 8 = 1 then
    some { layer := bits h 8 2, state := bits h 10 3, coFed := h.testBit 13, hazard := h.testBit 14, engine := bits h 16 15,
           drives := bits h 32 16, step := bits h 64 64, boundaryWtc := bits h 128 64, bytes := bits h 192 64,
           mapDigest := bits h 256 64, content := bits h 320 64 }
  else none

/-- The generation that a header tells of. -/
def headerGen (h : CopyHeader) (now : Nat) : Gen :=
  { layer := h.layer, state := h.state, coFed := h.coFed, hazard := h.hazard, engine := h.engine, drives := h.drives, step := h.step
    wtc := h.boundaryWtc, bytes := h.bytes, mapDigest := h.mapDigest, content := h.content, committed := true, since := now }

/-! ### Copy directory (R230, R241, R243) -/

def State.gen (s : State) (n : Nat) : Option Gen := Tab.get (fun _ => none) s.sec.gens n
def State.setGen (s : State) (n : Nat) (g : Option Gen) : State :=
  { s with sec := { s.sec with gens := Tab.set (fun _ => none) s.sec.gens n g } }

/-- Occupied directory entries with their index. -/
def State.genList (s : State) : List (Nat × Gen) := (List.range 12).filterMap (fun n => (s.gen n).map (fun g => (n, g)))

/-- A field of KPR_SEC_CFG in force (R256). -/
def State.secCfg (s : State) (lo w : Nat) : Nat := bits s.sec.cfg lo w

/-- Generations held on a layer (R230, R256). -/
def State.layerLimit (s : State) (layer : Nat) : Nat :=
  if layer = 1 then 1 else if layer = 2 then s.secCfg 16 2 + 1 else s.secCfg 18 2 + 1

/-- The generation of the oldest boundary (R230). -/
def oldestGen : List (Nat × Gen) → Option (Nat × Gen)
  | [] => none
  | g :: t =>
    match oldestGen t with
    | none => some g
    | some h => if h.2.wtc < g.2.wtc then some h else some g

/-- The directory entry a new generation of a layer takes: an empty one while the layer has room, else the layer's
oldest. -/
def State.genSlot (s : State) (layer : Nat) : Nat :=
  let mine := s.genList.filter (fun g => decide (g.2.layer = layer))
  if mine.length < s.layerLimit layer then
    ((List.range 12).find? (fun n => (s.gen n).isNone)).getD ((oldestGen mine).map (fun g => g.1) |>.getD 0)
  else ((oldestGen mine).map (fun g => g.1)).getD 0

/-! ### Drives (R231) -/

/-- Working drives of a mask. -/
def maskDrives (m : Nat) : List Nat := (List.range 16).filter (fun d => m.testBit d)

/-- N: blocks that a slot's data takes on each of so many drives. -/
def slotBlocks (bytes n : Nat) : Nat := if n = 0 then 0 else (bytes + n * 4096 - 1) / (n * 4096)

/-- The first LBA of a generation's slot. -/
def Gen.lba (g : Gen) : Nat := g.slot * (slotBlocks g.bytes (maskDrives g.drives).length + 1)

/-- Blocks of a copy on the drive at place j of n: 1 MiB stripes, round robin. -/
def stripeBlocks (bytes n j : Nat) : Nat :=
  let full := bytes / 2 ^ 20
  256 * (full / n + (if j < full % n then 1 else 0)) + (if full % n = j then (bytes % 2 ^ 20 + 4095) / 4096 else 0)

/-- The transfer of a flash generation's data, drive by drive. -/
def Gen.transfer (g : Gen) (write : Bool) : List Out :=
  let l := maskDrives g.drives
  (List.range l.length).map (fun j => Out.flash write (l.getD j 0) (g.lba + 1) (stripeBlocks g.bytes l.length j))

/-- The header of a generation is written on its layer, with a state: on the drives, or to the shared store (R239, R244). -/
def State.writeHeader (s : State) (g : Gen) (state : Nat) : State :=
  let h := genHeader { g with state := state }
  if g.layer = 2 then { s with out := .flashHeader g.drives g.lba h :: s.out }
  else if g.layer = 3 then { s with out := .storeHeader h :: s.out }
  else s

/-- The slot that a new flash generation takes on the drives: one that no other holds, or that of the generation it overwrites. -/
def State.driveSlot (s : State) (n : Nat) : Nat :=
  let used := (s.genList.filter (fun g => decide (g.2.layer = 2 ∧ g.1 ≠ n))).map (fun g => g.2.slot)
  ((List.range 4).find? (fun i => !used.contains i)).getD 0

/-- Of drives that are up, those whose namespace holds FLASH_GENS slots when so many share the copy. DEDUCED: log entry 76. -/
def State.fitDrives (s : State) (bytes : Nat) : Nat → List Nat → List Nat
  | 0, l => l
  | n + 1, l =>
    s.fitDrives bytes n (l.filter (fun d =>
      decide (s.layerLimit 2 * (slotBlocks bytes l.length + 1) ≤ (Tab.get (fun _ => (0, 0)) s.sec.drives d).2)))

/-- DRIVES_OK: the drives that are up with a logical block of 4,096 bytes and room enough (R231). -/
def State.judgeDrives (s : State) : State :=
  let up := (List.range 16).filter (fun d => decide ((Tab.get (fun _ => (0, 0)) s.sec.drives d).1 = 4096))
  s.put .kprSecStatusDrivesOk 0 (((s.fitDrives s.copyBytes 16 up).map (fun d => 2 ^ d)).foldl (· + ·) 0)

/-- A securing takes KPR_SEC_CFG as it stands (R256), and the drives are judged by it. -/
def State.latchCfg (s : State) : State :=
  ({ s with sec := { s.sec with cfg := pack [(0, 5, s.rf .kprSecCfgLinkShare 0), (8, 4, s.rf .kprSecCfgFlashEvery 0),
      (12, 4, s.rf .kprSecCfgStoreEvery 0), (16, 2, s.rf .kprSecCfgFlashGensM1 0), (18, 2, s.rf .kprSecCfgStoreGensM1 0),
      (20, 12, s.rf .kprSecCfgHoldLostS 0)] } }).judgeDrives

/-- V of R86 in units of the WTC. DEDUCED: log entry 66. -/
def State.validDelay (s : State) : Nat := 1000 * Nat.max 64 ((43048 + s.clock - 1) / s.clock + 8)

def State.secBump (s : State) (F : RF) : State := s.bump F 0 .kprSecStatusCountSat 0 1

/-- Working drives (R232). -/
def State.drivesOk (s : State) : Nat := s.rf .kprSecStatusDrivesOk 0
def State.driveCount (s : State) : Nat := ((List.range 16).filter (fun d => s.drivesOk.testBit d)).length

def State.holder (s : State) : Nat := if s.rf .kprSecPairHolderValid 0 = 1 then s.rf .kprSecPairHolder 0 else 0x7FFF

/-- A securing record (R255): kept in KPR_SEC_LAST and posted. -/
def State.secRecord (s : State) (ty reason layer : Nat) (coFed : Bool) (dur step wtc hold : Nat) : State :=
  let r := withCrc16 30 (pack [(0, 4, 1), (4, 4, ty), (8, 3, reason), (11, 2, layer), (13, 1, bit coFed), (16, 15, s.holder),
    (32, 32, dur), (64, 64, step), (128, 64, wtc), (192, 32, hold)])
  (s.put .kprSecLastRecord 0 r).sample 10 locKeeper [.post 8 32 0 32 r false]

/-! ### Management messages (R411, R413) -/

/-- TYPE codes of R411. -/
def mgHello : Nat := 1
def mgPause : Nat := 2
def mgVoid : Nat := 3
def mgPairReq : Nat := 4
def mgPairAck : Nat := 5
def mgPairNak : Nat := 6
def mgPairEnd : Nat := 7

/-- Copy Reserve offered, MiB (R412). -/
def State.reserveMib (s : State) : Nat :=
  if s.rf .kprSecCtrlMapValid 0 = 1 ∧ s.mapBuilt = true ∧ s.computeUp = true then s.reserveBlocks * 256 * s.nService / 2 ^ 20 else 0

/-- A management message leaves, tagged when a key stands for its type (R411, R413). -/
def State.sendMgmt (s : State) (ty dest arg0 arg1 : Nat) (key : Option Nat) : State :=
  let tagged := decide (3 ≤ ty) && key.isSome
  let body := withCrc16 46 (pack [(0, 4, 1), (4, 4, ty), (8, 1, bit tagged), (9, 1, if ty = mgHello then s.rf .kprSecPairClientValid 0 else 0),
    (16, 15, s.rf .kprEngineEngine 0), (32, 15, dest), (48, 8, s.feedId), (56, 3, 1), (59, 2, s.fuses.grade),
    (64, 32, if ty = mgHello then s.reserveMib else 0), (96, 32, s.sec.mseq), (128, 64, arg0), (192, 64, arg1)])
  let full := match key with
    | some k => if 3 ≤ ty then body ||| hmacNat k (bytesOf body 0 48) <<< 384 else body
    | none => body
  { s with out := .mgmt dest full :: s.out, sec := { s.sec with mseq := succ32 s.sec.mseq } }

/-- The key of messages toward the holder: the session key once paired, the job digest key before (R413). -/
def State.holderKey (s : State) : Option Nat := if s.sec.sessionKey.isSome then s.sec.sessionKey else s.jobKey

/-- The key of messages toward the client. -/
def State.clientAuth (s : State) : Option Nat := if s.sec.clientKey.isSome then s.sec.clientKey else s.jobKey

/-- A tile with reserve data is filled by copy: the client's copy is lost, and a void notice tells the client (R249).
DEDUCED: log entry 75. -/
def State.reserveLost (s : State) : State :=
  match s.sec.held with
  | some g =>
    if s.rf .kprSecPairClientValid 0 = 1 ∧ g.state ≠ 4 ∧ 0 < s.reserveBlocks then
      ({ s with sec := { s.sec with held := some { g with state := 4 } } }).sendMgmt mgVoid (s.rf .kprSecPairClient 0) g.wtc 0 s.clientAuth
    else s
  | none => s

/-! ### Boundaries (R233) -/

/-- The boundary is released: RELEASE_SEM + 1. -/
def State.releaseBoundary (s : State) : State :=
  if semPoisoned s s.releaseSem then s else s.semAdd s.releaseSem 1

/-- A held capture lets its boundary go. -/
def State.dropHold (s : State) : State :=
  match s.sec.capture with
  | some c => if c.released then s else ({ s with sec := { s.sec with capture := some { c with released := true, hold := s.now - c.since } } }).releaseBoundary
  | none => s

/-! ### Lost and void generations (R240, R243, R244) -/

/-- A generation becomes LOST, with its record; a trickle from it stops and its destination is lost with it. A lost
partner copy asks for a renewal (R234). -/
def State.loseGen (s : State) (n : Nat) : State :=
  match s.gen n with
  | some g =>
    if g.state = 4 ∨ g.state = 3 then s
    else
      let s0 := (s.setGen n (some { g with state := 4 })).secRecord 5 0 g.layer g.coFed 0 g.step g.wtc 0
      let s1 := { s0 with sec := { s0.sec with renewal := s0.sec.renewal || decide (g.layer = 1) } }
      (s1.sec.trickles.filter (fun t => decide (t.src = n))).foldl (fun u t =>
        match u.gen t.dst with
        | some d => ({ u with sec := { u.sec with trickles := u.sec.trickles.filter (fun x => decide (x.src ≠ n)) } }.setGen t.dst
            (some { d with state := 4 })).secRecord 5 0 d.layer d.coFed 0 d.step d.wtc 0
        | none => u) s1
  | none => s

/-- Every generation of a layer that is not already lost or void becomes LOST. -/
def State.loseLayer (s : State) (layer : Nat) : State :=
  (s.genList.filter (fun g => decide (g.2.layer = layer))).foldl (fun t g => t.loseGen g.1) s

/-- One generation is voided: its record, its header rewritten, at the holder through a VOID message. DEDUCED: log entry 66. -/
def State.voidGen (s : State) (wtc : Nat) (n : Nat) : State :=
  match s.gen n with
  | some g =>
    let s0 := if g.committed then s.writeHeader g 3 else s
    let s1 := ((s0.setGen n (some { g with state := 3 })).secBump .kprSecVoidedCount).secRecord 4 0 g.layer g.coFed 0 g.step wtc 0
    if g.layer = 1 ∧ s1.rf .kprSecPairHolderValid 0 = 1 then s1.sendMgmt mgVoid s1.holder wtc 0 s1.holderKey else s1
  | none => s

/-- VALID generations that a rollback may draw on, newest first. -/
def insertNewest (g : Nat × Gen) : List (Nat × Gen) → List (Nat × Gen)
  | [] => [g]
  | h :: t => if h.2.step < g.2.step then g :: h :: t else h :: insertNewest g t

def State.validGens (s : State) : List (Nat × Gen) :=
  (s.genList.filter (fun g => decide (g.2.state = 2))).foldl (fun acc g => insertNewest g acc) []

/-- Steps listed in ROLLBACK_NEEDED (R250). -/
def State.listedSteps (s : State) : List Nat :=
  let ok := s.validGens.filter (fun g => match s.sec.voidWtc with | some w => decide (g.2.wtc < w) | none => true)
  (dedup (ok.map (fun g => g.2.step)).reverse).reverse

/-- ROLLBACK_NEEDED as a croak with its securing record of TYPE 6 (R250, R255, R409). -/
def State.croakNeeded (s : State) : State :=
  let l := s.listedSteps
  let steps := l.foldr (fun x acc => x % 2 ^ 64 ||| acc <<< 64) 0
  (s.croak 0x0C 2 (pack [(0, 4, l.length), (8, 1, bit s.sec.voidWtc.isSome), (64, 64, s.sec.voidWtc.getD 0)] ||| steps <<< 128)).secRecord
    6 0 0 false 0 (l.headD 0) 0 0

/-- A rollback command is answered and forgotten (R252, R407). -/
def State.answerRollback (s : State) (status code detail : Nat) : State :=
  match s.sec.rollback with
  | some r =>
    let s1 := { s with sec := { s.sec with rollback := none } }
    match r.cid with
    | some c => s1.respond 0x61 c status 1 (pack [(0, 16, code), (64, 64, detail)])
    | none => s1
  | none => s

/-- COPY_VOID (R244, R254): every generation at or after the WTC is void, its capture or trickle stops, a hold is
released; a current list that the void shortens is sent again; a rollback whose step is no longer VALID is answered
NO_COPY. -/
def State.voidCopies (s_ : State) (wtc : Nat) : State :=
  let s := { s_ with sec := { s_.sec with lastVoid := some wtc } }
  let before := s.listedSteps
  let hit := (s.genList.filter (fun g => decide (wtc ≤ g.2.wtc ∧ g.2.state ≤ 2))).map (fun g => g.1)
  let s1 := match s.sec.capture with
    | some c => if wtc ≤ c.wtc then (let t := s.dropHold; { t with sec := { t.sec with capture := none } }) else s
    | none => s
  let s2 := { s1 with sec := { s1.sec with trickles := s1.sec.trickles.filter (fun t => !hit.contains t.src && !hit.contains t.dst) } }
  let s3 := hit.foldl (fun t n => t.voidGen wtc n) s2
  let s4 := { s3 with sec := { s3.sec with
    renewal := s3.sec.renewal || s.genList.any (fun g => hit.contains g.1 && decide (g.2.layer = 1))
    voidWtc := if s3.sec.needed then some (match s3.sec.voidWtc with | some w => Nat.min w wtc | none => wtc) else s3.sec.voidWtc } }
  match s4.sec.rollback with
  | some r =>
    if s4.validGens.any (fun g => decide (g.2.step = r.step)) then s4
    else (({ s4 with sec := { s4.sec with needed := true, voidWtc := some wtc } }).answerRollback 10 0 0).croakNeeded
  | none => if s4.sec.needed = true ∧ s4.listedSteps.length < before.length then s4.croakNeeded else s4

end Sys2Proof.Machine
end

