-- ==== Sys2Proof/Machine/Taps.lean ====
section
/-! DEFINITION. Checksum Taps: judging a block, records, the hold period, the tap state machine and the rotation
window (03_checksum_taps.md). -/

namespace Sys2Proof.Machine

/-- The tile serves a logical tile in service, or replays an episode (R88, requests). -/
def State.tapServes (s : State) (t : Nat) : Bool :=
  (s.tile t).replaying || (match s.logicalOf t with | some l => s.served l | none => false)

/-- The logical tile lies among `n` positions from `start` in the order of its field (R90). -/
def State.inSpan (s : State) (start n l : Nat) : Bool :=
  let S := s.inService (tileField l)
  decide ((s.rank l + S - start % Nat.max S 1) % Nat.max S 1 < n)

/-- The logical tile lies in its field's rotation window (R90), and lay in it before the window last changed. -/
def State.inWindow (s : State) (l : Nat) : Bool :=
  s.inSpan (s.rf .fstTapStatusWindowStart (tileField l)) (s.field (tileField l)).tapN l
def State.wasInWindow (s : State) (l : Nat) : Bool :=
  s.inSpan (s.field (tileField l)).tapWas.1 (s.field (tileField l)).tapWas.2 l

/-- The tap of a tile is requested on (03_checksum_taps.md, "Switching taps"). -/
def State.tapWanted (s : State) (t : Nat) : Bool :=
  decide (s.rf .fstTapCtrlEnable (tileField t) = 1) && s.computeUp && !s.fieldOut (tileField t) && s.tapServes t &&
  decide (s.rf .tsnTapCtrlExclude t = 0) && !(s.tile t).underTest &&
  ((s.tile t).replaying || (match s.logicalOf t with | some l => s.inWindow l | none => false))

/-- Tiles of a field whose tap is not OFF (R96). -/
def State.tapsLit (s : State) (f : Nat) : List Nat :=
  (s.regs.filter (fun e => decide (e.1 % 512 = RF.ctorIdx .tsnTapCtrlState ∧ e.2 ≠ 0 ∧ tileField (e.1 / 512) = f))).map (fun e => e.1 / 512)

/-- Every tap that left the window has reached OFF (R90). A tap requested off for another reason does not count. -/
def State.windowClear (s : State) (f : Nat) : Bool :=
  (s.tapsLit f).all (fun t => (s.tile t).replaying || (match s.logicalOf t with | some l => s.inWindow l | none => true))

/-- The tap may take its Enable now (R90): one that enters the window waits for those that left it. -/
def State.tapMayStart (s : State) (t : Nat) : Bool :=
  (s.tile t).replaying || (match s.logicalOf t with | some l => s.wasInWindow l | none => false) || s.windowClear (tileField t)

/-- The tap enters STARTING: it loads TAP_SEED and the LFSR state of its tile (R73, R88). The LFSR of a tap that has
run in this launch goes on from where it stood. -/
def State.tapStart (s : State) (t : Nat) : State :=
  let x := s.tile t
  ((s.setTile t { x with
      lfsr := if x.lfsr = 0 then lfsrStart t (s.rf .kprTapSeedActiveSeed 0) else x.lfsr
      tapStartAt := s.now, drained := false, tapNever := false }).put .tsnTapCtrlState t 1).put .tsnTapCtrlEnablePending t 0

/-- Enable event at a tap (R88). -/
def State.tapEnableEv (s : State) (t : Nat) : State :=
  match s.rf .tsnTapCtrlState t with
  | 0 => if s.now - (s.tile t).tapOffAt ≥ 1 then s.tapStart t else s.put .tsnTapCtrlEnablePending t 1
  | 1 => s.put .tsnTapCtrlDisablePending t 0
  | 2 => s
  | _ => s.put .tsnTapCtrlEnablePending t 1

/-- Disable event at a tap (R88). -/
def State.tapDisableEv (s : State) (t : Nat) : State :=
  match s.rf .tsnTapCtrlState t with
  | 0 => s.put .tsnTapCtrlEnablePending t 0
  | 1 => s.put .tsnTapCtrlDisablePending t 1
  | 2 => s.put .tsnTapCtrlState t 3
  | _ => s.put .tsnTapCtrlEnablePending t 0

/-- The tap record of R82 without its CRC: TYPE, block, tile, verdict and COUNT. -/
def tapRecord (s : State) (ty tile : Nat) (b : TapBlock) (v : TapVerdict) (special : Bool) (seq cnt : Nat) : Nat :=
  withCrc16 30 (pack [(0, 4, 1), (4, 4, ty), (8, 4, fmtCode b.fmtA), (12, 4, fmtCode b.fmtB),
    (16, 1, bit v.unw), (17, 1, bit v.wtd), (18, 5, b.m - 1), (23, 5, b.n - 1), (28, 1, bit special),
    (32, 19, tile), (64, 19, (s.logicalOf tile).getD 0), (95, 1, bit (s.logicalOf tile).isNone), (96, 17, b.k),
    (128, 32, seq), (160, 32, b.streamPos.toNat), (192, 32, v.diff), (224, 16, cnt)])

/-- The record with another TYPE and COUNT, its CRC formed again (R83). -/
def tapRecordAs (rec ty cnt : Nat) : Nat :=
  withCrc16 30 (pack [(0, 4, 1), (4, 4, ty), (8, 216, bits rec 8 216), (224, 16, cnt)])

/-- A record leaves a Sentinel on the warden channel. -/
def State.sendRecord (s : State) (t bytes : Nat) : State := { s with out := .record t bytes :: s.out }

/-- A judged mismatch is counted, and sent or held back (R83). The manual does not say whose fields a TYPE 2 record carries: here those
of the last mismatch held back. DESIGN CHOICE: log entry 92. -/
def State.tapMismatch (s : State) (t rec : Nat) : State :=
  let s1 := s.bump .tsnTapMismatchesMismatches t .tsnTapCtrlMismatchSat t 1
  let x := s1.tile t
  match x.holdFrom with
  | none => (s1.setTile t { x with holdFrom := some s.now, held := 0, heldInfo := rec }).sendRecord t rec
  | some _ => s1.setTile t { x with held := Nat.min (x.held + 1) 65535, heldInfo := rec }

/-- The tap judges the block: ON; or DRAINING, if it was ON, with the block in progress at the Disable not yet judged (R88). -/
def State.tapJudges (s : State) (t : Nat) (b : TapBlock) : Bool :=
  decide (s.rf .tsnTapCtrlState t = 2) ||
    (decide (s.rf .tsnTapCtrlState t = 3) && !(s.tile t).drained && !(s.tile t).tapNever && !b.afterOn)

/-- INJECT acts on the block: it stays set while the tap is not ON (R92). -/
def State.tapInjects (s : State) (t : Nat) : Bool := decide (s.rf .tsnTapCtrlInject t = 1 ∧ s.rf .tsnTapCtrlState t = 2)

/-- A block with its verdict: counters, injection (R92), records. -/
def State.tapJudged (s : State) (t : Nat) (b : TapBlock) (v : TapVerdict) (special : Bool) (seq : Nat) : State :=
  let s1 := (s.put .tsnTapBlocksBlocks t (s.rf .tsnTapBlocksBlocks t + 1)).put .fstTapBlocksBlocks (tileField t)
    (s.rf .fstTapBlocksBlocks (tileField t) + 1)
  let bad := v.unw || v.wtd
  if s1.tapInjects t then
    let s2 := s1.put .tsnTapCtrlInject t 0
    if bad then s2.sendRecord t (tapRecord s2 3 t b v special seq 1)
    else (s2.put .tsnTapCtrlInjectEscape t 1).sample 10 (locTile t) [evNotice 1 (tileField t) t 0x04 0 t]
  else if bad then s1.tapMismatch t (tapRecord s1 1 t b v special seq 1)
  else s1

/-- TAP_BLOCK_JUDGE. The words of R73 are drawn for every block that reaches the tap, judged or not, and BLOCK_SEQ is the number of
such blocks before this one since the tap entered ON: the manual gives neither. DESIGN CHOICE: log entry 92. -/
def State.tapBlock (s : State) (t : Nat) (b : TapBlock) : State :=
  if s.tapJudges t b then
    let x := s.tile t
    let ws := lfsrWords 64 x.lfsr
    let w := fun i => ws.getD i 0
    let inj := bit (s.tapInjects t)
    let draining := decide (s.rf .tsnTapCtrlState t = 3)
    match blkCase b with
    | .ignored => s
    | .unchecked =>
      (s.setTile t { x with lfsr := w 63, tapSeq := succ32 x.tapSeq, drained := draining }).bump .tsnTapUncheckedUnchecked t .tsnTapCtrlUncheckedSat t 1
    | .special =>
      (s.setTile t { x with lfsr := w 63, tapSeq := succ32 x.tapSeq, drained := draining }).tapJudged t b ⟨true, true, 0xFFFFFFFF⟩ true x.tapSeq
    | .sums =>
      let s1 := s.setTile t { x with lfsr := w 63, tapSeq := succ32 x.tapSeq, drained := draining }
      if blkMx b then s1.tapJudged t b (mxJudge b (sigmaOf (s.rf .kprTapSeedActiveSeed 0) (w 0)) inj) false x.tapSeq
      else
        let (f1, s2) := s1.free
        let (f2, s3) := s2.free
        let (f3, s4) := s3.free
        s4.tapJudged t b (bfJudge b w (decide (inj = 1)) f1 f2 f3) false x.tapSeq
  else s

/-- A tap record is good: CRC and VERSION (R12, R82). The manual does not say what becomes of a record whose CRC checks and whose
VERSION is not 1: here it is discarded as one whose CRC fails. DESIGN CHOICE: log entry 92. -/
def recordOk (rec n : Nat) : Bool := decide (crc16 (bytesOf rec 0 n) = bits rec (8 * n) 16) && decide (bits rec 0 4 = 1)

/-- TAP_RECORD_ARRIVAL (R81, R82, R84, R86): counted, kept, and sampled as an event; a detection voids the copies
still within their validity delay. -/
def State.tapArrival (s : State) (f rec : Nat) : State :=
  if recordOk rec 30 then
    let s1 := (s.bump .fstTapRecordsCount f .fstTapFlagsRecordSat f 1).put .fstTapLastRecord f rec
    let ty := bits rec 4 4
    let t := bits rec 32 19
    let cause := if bits rec 8 4 = 0 then 0x002 else 0x001
    if ty = 1 ∨ ty = 2 then s1.sample 5 (locTile t) [.detect (tileKey t) cause 2, .void (s.wtc + 1 - s.validDelay), .post 1 f t 32 rec false]
    else s1.sample 10 (locTile t) [.post 1 f t 32 rec false]
  else s.put .fstTapFlagsRecordCrc f 1

/-- TAP_HOLD_END (R83). -/
def State.tapHoldEnd (s : State) (t : Nat) : State :=
  let x := s.tile t
  match x.holdFrom with
  | none => s
  | some h =>
    if s.cyclesPassed h 65536 then
      if 0 < x.held then
        (s.setTile t { x with holdFrom := some s.now, held := 0 }).sendRecord t (tapRecordAs x.heldInfo 2 x.held)
      else s.setTile t { x with holdFrom := none, heldInfo := 0 }
    else s

/-- The field's window advances by n_f (R90). -/
def State.windowAdvance (s : State) (f : Nat) : State :=
  let S := s.inService f
  (s.put .fstTapStatusWindowStart f (if S = 0 then 0 else (s.rf .fstTapStatusWindowStart f + (s.field f).tapN) % S)).setField f
    { s.field f with tapAdvAt := s.now, tapWas := (s.rf .fstTapStatusWindowStart f, (s.field f).tapN) }

/-- ROT_PERIOD as it takes effect (R95), and as it is in force. -/
def State.rotPeriod (s : State) (f : Nat) : Nat := Nat.max 100 (s.rf .fstTapCtrlRotPeriod f)

/-- The window is due to advance. -/
def State.windowDue (s : State) (f : Nat) : Bool :=
  decide ((s.field f).tapAdvAt + (s.field f).rotNow ≤ s.now ∧ s.nOn < s.nService)

/-- The tick after a write of ROT_PERIOD (R95): the new period counts from the last advance; overdue, the window advances. -/
def State.rotTick (s : State) (f : Nat) : State :=
  if (s.field f).rotNow = s.rotPeriod f then s
  else
    let s1 := s.setField f { s.field f with rotNow := s.rotPeriod f }
    if s1.windowDue f then s1.windowAdvance f else s1

/-- Recomputes n_f of every field and the coverage (R90, R91). -/
def State.setTapN (s : State) : Nat → State
  | 0 => s
  | f + 1 =>
    let x := (s.setTapN f).field f
    (s.setTapN f).setField f { x with tapN := s.nField f, tapWas := if x.tapN = s.nField f then x.tapWas else (s.rf .fstTapStatusWindowStart f, x.tapN) }

def State.tapRecompute (s : State) : State :=
  let sum := ((List.range 32).map s.nField).foldl (· + ·) 0
  (((s.setTapN 32).put .kprTapCoverOn 0 sum).put .kprTapCoverFraction 0 (if s.nService = 0 then 0 else 4096 * sum / s.nService)).put
    .kprAllowanceRotating 0 (bit (decide (s.nOn < s.nService)))

/-- n_f, N_on or the coverage no longer stand as they would be recomputed (R90). -/
def State.tapStale (s : State) : Bool :=
  !(List.range 32).all (fun f => decide ((s.field f).tapN = s.nField f)) || decide (s.rf .kprAllowanceRotating 0 ≠ bit (decide (s.nOn < s.nService)))

/-- Taps whose request has gone off receive their Disable (R88, R90); taps that drain, and those whose Disable is held, wait. -/
def State.tapsOff (s : State) : State :=
  ((s.regs.filter (fun e => decide (e.1 % 512 = RF.ctorIdx .tsnTapCtrlState ∧ (e.2 = 1 ∨ e.2 = 2)))).map (fun e => e.1 / 512)).foldl
    (fun t u => if t.tapWanted u then t else t.tapDisableEv u) s

/-- The tick's work on the taps: ROT_PERIOD written in the tick before, the allocation of R90, and the taps that it turns off. -/
def State.tapTick (s : State) : State :=
  let s1 := (List.range 32).foldl State.rotTick s
  (if s1.tapStale then s1.tapRecompute else s1).tapsOff

def execTapBlockJudge (tile : Nat) (blk : TapBlock) (s : State) : Host.Outcome State Fault Refusal :=
  onTile tile s (s.tapBlock tile blk)

def execTapRecordArrival (f : Fin 32) (record : BitVec 256) (s : State) : Host.Outcome State Fault Refusal :=
  .next (s.tapArrival f.val record.toNat)

def execTapHoldEnd (tile : Nat) (s : State) : Host.Outcome State Fault Refusal := onTile tile s (s.tapHoldEnd tile)

/-- TAP_ENABLE: an Enable event, if the tap is requested on and the taps that left the window are OFF (R88, R90). -/
def execTapEnable (tile : Nat) (s : State) : Host.Outcome State Fault Refusal :=
  onTile tile s (if s.tapWanted tile && s.tapMayStart tile then s.tapEnableEv tile else s)

/-- TAP_DISABLE: a Disable event, if the tap is requested off. -/
def execTapDisable (tile : Nat) (s : State) : Host.Outcome State Fault Refusal :=
  onTile tile s (if s.tapWanted tile then s else s.tapDisableEv tile)

/-- TAP_START_DONE (R88). -/
def execTapStartDone (tile : Nat) (s : State) : Host.Outcome State Fault Refusal :=
  onTile tile s
    (if s.rf .tsnTapCtrlState tile = 1 ∧ s.cyclesPassed (s.tile tile).tapStartAt 128 = true then
      if s.rf .tsnTapCtrlDisablePending tile = 1 then
        ((s.setTile tile { s.tile tile with tapNever := true }).put .tsnTapCtrlState tile 3).put .tsnTapCtrlDisablePending tile 0
      else (s.setTile tile { s.tile tile with tapSeq := 0, drained := false }).put .tsnTapCtrlState tile 2
    else s)

/-- TAP_DRAIN_DONE (R88). -/
def execTapDrainDone (tile : Nat) (s : State) : Host.Outcome State Fault Refusal :=
  onTile tile s
    (if s.rf .tsnTapCtrlState tile = 3 then
      (s.setTile tile { s.tile tile with tapOffAt := s.now, drained := false }).put .tsnTapCtrlState tile 0
    else s)

/-- TAP_PENDING_START (R88). -/
def execTapPendingStart (tile : Nat) (s : State) : Host.Outcome State Fault Refusal :=
  onTile tile s
    (if s.rf .tsnTapCtrlState tile = 0 ∧ s.rf .tsnTapCtrlEnablePending tile = 1 ∧ (s.tile tile).tapOffAt + 1 ≤ s.now then
      s.tapStart tile else s)

/-- TAP_WINDOW_ADVANCE (R90): every ROT_PERIOD ticks. -/
def execTapWindowAdvance (f : Fin 32) (s : State) : Host.Outcome State Fault Refusal :=
  .next (if s.windowDue f.val then s.windowAdvance f.val else s)

/-- TAP_ALLOCATION_RECOMPUTE (R89 to R91). -/
def execTapAllocationRecompute (s : State) : Host.Outcome State Fault Refusal := .next s.tapRecompute

/-- ROT_PERIOD_WRITE (R95): the write lands; the next tick gives it its effect (`State.rotTick`). -/
def State.rotWrite (s : State) (f period : Nat) : State := s.put .fstTapCtrlRotPeriod f period

def execRotPeriodWrite (f : Fin 32) (period : BitVec 16) (s : State) : Host.Outcome State Fault Refusal :=
  .next (s.rotWrite f.val period.toNat)

/-- TSN_TAP_INJECT (R92, R93). -/
def execTsnTapInject (tile : Nat) (s : State) : Host.Outcome State Fault Refusal :=
  onTile tile s (s.put .tsnTapCtrlInject tile 1)

end Sys2Proof.Machine
end

