-- ==== Sys2Proof/Machine/Episodes.lean ====
section
/-! DEFINITION. Shadow replay spot checks: exposure and arming, slots, GOs, the life of an episode and its verdict
(04_shadow_replay.md). -/

namespace Sys2Proof.Machine

/-! ### Exposure and arming (R116 to R118, R128, R129) -/

/-- QUOTA_LOG2, WINDOW, MAX_INFLIGHT, RATE, GO_WAIT as they take effect (R129, R130). -/
def State.quotaLog2 (s : State) (f : Nat) : Nat := clamp 20 40 (s.rf .fstEpCtrlQuotaLog2 f)
def State.epWindow (s : State) (f : Nat) : Nat := clamp 256 4096 (s.rf .fstEpCtrlWindow f)
def State.maxInflight (s : State) (f : Nat) : Nat := clamp 1 6 (s.rf .fstEpCtrlMaxInflight f)
def State.epRate (s : State) (f : Nat) : Nat := Nat.min 512 (s.rf .fstEpRateRate f)
def State.goWait (s : State) (f : Nat) : Nat := Nat.max 100 (s.rf .fstEpRateGoWait f)

/-- The tile is armed (R116), by QUOTA_LOG2 as the Sentinels of its field last evaluated it (R129). -/
def State.armedNow (s : State) (t : Nat) : Bool :=
  decide (2 ^ (s.field (tileField t)).quotaSeen ≤ s.rf .tsnExposureExposure t - s.rf .tsnExposureCheckedChecked t)

def isFresh (now : Nat) (a : Armed) : Bool := a.commanded || (!a.stale && decide (now < a.at_ + 1000))

/-- A report or command enters the armed queue; one entry per tile (R117, R118). -/
def armIn (q : List Armed) (t : Nat) (commanded : Bool) (now : Nat) : List Armed :=
  if commanded then
    if q.any (fun a => decide (a.tile = t) && a.commanded) then q
    else
      let q' := q.filter (fun a => decide (a.tile ≠ t))
      q'.filter (fun a => a.commanded) ++ [⟨t, true, now, false⟩] ++ q'.filter (fun a => !a.commanded)
  else if q.any (fun a => decide (a.tile = t)) then q.map (fun a => if a.tile = t then { a with at_ := now, stale := false } else a)
  else q ++ [⟨t, false, now, false⟩]

def State.setArmed (s : State) (f : Nat) (q : List Armed) : State := s.setField f { s.field f with armed := q }

/-- The tile serves a logical tile in service and its field's episode function is ON (R118). -/
def State.armable (s : State) (t : Nat) : Bool :=
  s.fnOn (.fieldEpisode (toFin32 (tileField t))) && (match s.logicalOf t with | some l => s.served l | none => false)

/-- The tile's entry is picked by a slot, or its GO lapses (R118, R121). The manual does not say what becomes of a commanded entry once a
slot has picked it: here it stays, as a stale exposure-armed entry. DESIGN CHOICE: log entry 93. -/
def State.staleArm (s : State) (t : Nat) (lapsed : Bool) : State :=
  s.setArmed (tileField t) ((s.field (tileField t)).armed.map (fun a =>
    if a.tile = t ∧ (lapsed = true ∨ a.commanded = true) then { a with commanded := false, stale := true } else a))

/-- A commanded arming (R118). -/
def State.commandArm (s : State) (t : Nat) : State :=
  s.setArmed (tileField t) (armIn (s.field (tileField t)).armed t true s.now)

/-- ARM_REPORT (R117): a report refreshes or enters the entry; a disarm report removes the exposure-armed entry. -/
def State.armReport (s : State) (t : Nat) (disarm : Bool) : State :=
  let f := tileField t
  let q := (s.field f).armed
  s.setArmed f (if disarm then q.filter (fun a => decide (a.tile ≠ t) || a.commanded) else armIn q t false s.now)

/-- ARM_REPORT_SEND (R116, R117): `active` matrix cycles have passed after `idle` cycles without one; the counts
stand still while the tile clocks are stopped. -/
def State.armSend (s : State) (t active idle : Nat) : State :=
  if s.rf .kprMonStatusHold 0 = 1 ∨ s.computeUp = false then s
  else
    let was := s.armedNow t
    let s1 := s.put .tsnExposureExposure t (s.rf .tsnExposureExposure t + active)
    let is := s1.armedNow t
    let x := s1.tile t
    let since := x.sinceArm + active
    let send := is && (!was || (decide (65536 ≤ idle) && decide (0 < active)) || decide (262144 ≤ since))
    let s2 := s1.setTile t { x with sinceArm := if send || !is then 0 else since }
    let s3 := s2.put .tsnEpCtrlArmed t (bit is)
    if send then s3.sendRecord t (pack [(0, 4, 1), (32, 19, t)]) else s3

/-- QUOTA_REEVALUATE (R129): every Sentinel of the field whose exposure the model lists compares again. -/
def State.quotaTile (s : State) (t : Nat) : State :=
  let is := s.armedNow t
  let was := decide (s.rf .tsnEpCtrlArmed t = 1)
  if is = was then s
  else ((s.setTile t { s.tile t with sinceArm := 0 }).put .tsnEpCtrlArmed t (bit is)).sendRecord t (pack [(0, 4, 1), (31, 1, bit was), (32, 19, t)])

def State.exposedTiles (s : State) (f : Nat) : List Nat :=
  (s.regs.filter (fun e => decide (e.1 % 512 = RF.ctorIdx .tsnExposureExposure ∧ tileField (e.1 / 512) = f))).map (fun e => e.1 / 512)

def State.quotaReevaluate (s : State) (f : Nat) : State :=
  (s.exposedTiles f).foldl State.quotaTile (s.setField f { s.field f with quotaSeen := s.quotaLog2 f })

/-! ### Spares (R40, R107) -/

/-- Spare tiles of a field in ascending physical ID. -/
def fieldSpares (f : Nat) : List Nat := (List.range 480).map (fun i => tileId f (i / 4) (30 * (i % 4) + 29))

/-- A spare may replay (R107): free, not under test, in no episode, no SUSPECT entry. -/
def State.spareEligible (s : State) (t : Nat) : Bool :=
  !s.spareBusy t && !(s.tile t).underTest && !s.tileSuspect t &&
  !s.episodes.any (fun e => decide (e.spare = t) || decide (e.spare2 = t))

/-- The spare R107 chooses for a tile: another row first, then the lowest ID. -/
def State.pickSpare (s : State) (t : Nat) : Option Nat :=
  match (fieldSpares (tileField t)).find? (fun x => decide (tileRow x ≠ tileRow t) && s.spareEligible x) with
  | some x => some x
  | none => (fieldSpares (tileField t)).find? (fun x => s.spareEligible x)

/-! ### Episodes as state -/

def State.fieldEpisodes (s : State) (f : Nat) : List Episode := s.episodes.filter (fun e => decide (tileField e.tile = f))
def State.episodeOf (s : State) (t : Nat) : Option Episode := s.episodes.find? (fun e => decide (e.tile = t))

/-- The episode of a tile replaced by another. -/
def State.setEpisode (s : State) (x : Episode) : State :=
  { s with episodes := s.episodes.map (fun e => if e.tile = x.tile then x else e) }

/-- A tile's replay flag; its tap is requested on meanwhile (R88). -/
def State.setReplay (s : State) (t : Nat) (b : Bool) : State :=
  if t = 0 then s else s.setTile t { s.tile t with replaying := b }

/-- Everything the episode of a tile holds is released (R124): spares, slot, power, row buses and ports. -/
def State.releaseEpisode (s : State) (e : Episode) : State :=
  let s1 := ({ s with episodes := s.episodes.filter (fun x => decide (x.tile ≠ e.tile)) } : State).endTransfer (fun x =>
    decide (x.owner = e.tile) && x.what.port)
  ((((s1.setReplay e.spare false).setReplay e.spare2 false).put .tsnEpCtrlGo e.tile 0).put .tsnEpCtrlCapturing e.tile 0)

/-- The verdict record of R114. -/
def verdictRecord (e : Episode) (verdict reason confirm : Nat) : Nat :=
  withCrc16 46 (pack [(0, 4, 1), (4, 4, verdict), (8, 4, reason), (12, 2, e.select), (14, 1, bit e.sigDiff),
    (15, 1, bit e.sramDiff), (16, 13, e.window), (29, 2, confirm), (32, 32, e.number), (64, 19, e.tile),
    (96, 19, e.logical), (128, 19, if e.loaded then e.spare else 0), (160, 19, e.spare2), (192, 64, e.startWtc),
    (256, 32, e.streamPos), (288, 32, e.cap.records), (320, 16, e.overdue)])

/-- The counter of a verdict and its bit in FST_EP_FLAGS (R131). -/
def verdictCounter : Nat → RF × Nat
  | 0 => (.fstEpMatchCount, 1)
  | 1 => (.fstEpMismatchCount, 2)
  | 2 => (.fstEpInconclusiveCount, 4)
  | _ => (.fstEpAbandonedCount, 8)

/-! ### Verdicts (R109 to R115) -/

/-- An episode meets what ends it: all that it holds is released, and its verdict is given when the tick ends (R113). -/
def State.endEpisode (s : State) (e : Episode) (verdict reason confirm : Nat) (spares : List Nat) : State :=
  let s1 := s.releaseEpisode e
  { s1 with ending := s1.ending ++ [⟨e, verdict, reason, confirm, spares⟩] }

/-- A condition of R112 for the episodes that `p` picks: a GO ends with no episode (R121), an episode with the verdict; an episode
that has met another condition in this tick takes the lower code (R113). -/
def State.stopWhere (s : State) (p : Episode → Bool) (verdict reason : Nat) : State :=
  let s1 := (s.episodes.filter p).foldl (fun t e => if e.phase = 0 then t.releaseEpisode e else t.endEpisode e verdict reason 0 []) s
  { s1 with ending := s1.ending.map (fun x =>
      if p x.ep && decide (reason < x.reason) then { x with verdict := verdict, reason := reason, confirm := 0, spares := [] } else x) }

/-- The episode of one tile meets a condition. -/
def State.stopEpisode (s : State) (t verdict reason : Nat) : State := s.stopWhere (fun e => decide (e.tile = t)) verdict reason

/-- The tile's entry leaves the armed queue when a MATCH or MISMATCH has disarmed it: the manual names only the disarm report of a
change of quota. A commanded entry stays (R118). DESIGN CHOICE: log entry 93. -/
def State.dropDisarmed (s : State) (t : Nat) : State :=
  if s.armedNow t then s
  else s.setArmed (tileField t) ((s.field (tileField t)).armed.filter (fun a => decide (a.tile ≠ t) || a.commanded))

/-- The verdict of an episode (R110, R112, R114, R115): counted and recorded, or owed where its station is in reset; a MISMATCH brings
its detections and voids the copies from START_WTC on (R110, R111). -/
def State.giveVerdict (s : State) (x : Ending) : State :=
  let e := x.ep
  let f := tileField e.tile
  let vr := verdictRecord e x.verdict x.reason x.confirm
  let (F, m) := verdictCounter x.verdict
  let s1 :=
    if s.stationUp (toFin32 f) then
      let u := s.bump F f .fstEpFlagsSat f m
      if x.verdict = 0 then u else u.put .fstEpLastRecord f vr
    else s.setField f { s.field f with owed := (s.field f).owed ++ [vr] }
  let s2 :=
    if x.verdict ≤ 1 then
      let u := s1.put .tsnExposureCheckedChecked e.tile e.saved
      let w := (u.put .tsnEpCtrlArmed e.tile (bit (u.armedNow e.tile))).dropDisarmed e.tile
      w.setField f { w.field f with verdictsAt := some w.now }
    else s1
  let spareActs := x.spares.map (fun t => EvAct.detect (tileKey t) 0x005 2)
  if x.verdict = 0 then s2
  else if x.verdict = 1 then
    s2.sample 5 (locStation f) (EvAct.detect (tileKey e.tile) (if e.sigDiff then 0x003 else 0x004) 2 :: spareActs ++
      [.void e.startWtc, .post 2 f e.tile 48 vr false])
  else s2.sample 10 (locStation f) (spareActs ++ [.post 2 f e.tile 48 vr false])

/-- The verdicts of the tick are given, in the order in which the episodes ended. -/
def State.giveVerdicts (s : State) : State := s.ending.foldl State.giveVerdict { s with ending := [] }

/-- The second spare of a confirming replay is lost: the first comparison's MISMATCH stands (R109). -/
def State.secondLost (s : State) (t : Nat) : State :=
  (s.episodes.filter (fun e => decide (e.spare2 = t))).foldl (fun u e => u.endEpisode e 1 0 0 [e.spare]) s

/-- A spare is taken from its episodes by a regrowth claim (R32, R112): ABANDONED if it is the first spare. -/
def State.spareClaimed (s : State) (t : Nat) : State := (s.stopWhere (fun e => decide (e.spare = t)) 3 8).secondLost t

/-- The window of an episode is still open. -/
def State.inEpWindow (s : State) (e : Episode) : Bool := decide ((s.now - e.t0) * s.clock < e.window)

/-- A tile is withdrawn (R112, R113): as first spare, as second spare, as checked tile before its window has ended. -/
def State.episodeWithdrawn (s : State) (t : Nat) : State :=
  ((s.stopWhere (fun e => decide (e.spare = t)) 2 1).secondLost t).stopWhere
    (fun e => decide (e.tile = t) && (decide (e.phase = 0) || s.inEpWindow e)) 3 9

/-! ### Slots and GOs (R119 to R122) -/

/-- A tile may be checked (R120). -/
def State.checkable (s : State) (t : Nat) : Bool :=
  (match s.logicalOf t with | some l => s.served l && decide (s.remapOf l |>.all (fun r => decide (r.kind ≠ 2))) | none => false) &&
  !(s.tile t).underTest && (s.episodeOf t).isNone && !s.rowHeldLong t

/-- The logical tile at a position among those in service (R119): the position's in-service logical, by the order ℓ. -/
def State.nthServed (s : State) (f n : Nat) : Nat :=
  let us := (s.unserved f).map ellOf
  let ell := (List.range (us.length + 1)).foldl (fun p _ => n + (us.filter (fun u => decide (u ≤ p))).length) n
  tileId f (ell / 116) (ell % 116)

/-- One step of the field's LFSR, and the tile that its state draws (R119). DESIGN CHOICE: log entry 13. -/
def lfsrPick (v : Nat) : Nat := v / 2 ^^^ (if v % 2 = 1 then Config.pickTaps.toNat else 0)

/-- DESIGN CHOICE: log entry 13. -/
def State.pickTile (s : State) (f : Nat) : Nat :=
  s.serving (s.nthServed f (Config.pickPosition (BitVec.ofNat 32 (s.field f).lfsr) (s.inService f) % Nat.max 1 (s.inService f)))

/-- A random pick: up to five draws past tiles that are ineligible. DESIGN CHOICE: log entry 13. -/
def State.drawPick : Nat → State → Nat → Option Nat × State
  | 0, s, _ => (none, s)
  | n + 1, s, f =>
    let s1 := s.setField f { s.field f with lfsr := lfsrPick (s.field f).lfsr }
    if s1.checkable (s1.pickTile f) then (some (s1.pickTile f), s1) else State.drawPick n s1 f

/-- The candidate of a slot (R119) with its SELECT code. A commanded or fresh entry whose tile is ineligible under R120 is passed over,
and the next one taken: the manual gives redraws for a random pick alone. DESIGN CHOICE: log entry 93. -/
def State.slotCandidate (s : State) (f : Nat) : Option (Nat × Nat) × State :=
  let q := (s.field f).armed
  match q.find? (fun a => a.commanded && s.checkable a.tile) with
  | some a => (some (a.tile, 2), s)
  | none =>
    match q.find? (fun a => !a.commanded && isFresh s.now a && s.checkable a.tile) with
    | some a => (some (a.tile, 0), s)
    | none =>
      match State.drawPick 5 s f with
      | (some t, s1) => (some (t, 1), s1)
      | (none, s1) => (none, s1)

/-- A free slot of the Replay Buffer (R106). -/
def State.freeEpSlot (s : State) (f : Nat) : Option Nat :=
  (List.range 6).find? (fun n => !(s.fieldEpisodes f).any (fun e => decide (e.slot = n)))

/-- Spares for which the wafer's episodes and GOs hold 50 mW each (R122, R124). -/
def State.replayHeld (s : State) : Nat := (s.episodes.map (fun e => if e.spare2 = 0 then 1 else 2)).foldl (· + ·) 0

def State.noSpare (s : State) (f : Nat) : State := s.bump .fstEpNospareCount f .fstEpFlagsSat f 32

/-- Ticks between slots: ⌈1,000,000 / RATE⌉. -/
def slotTicks (rate : Nat) : Nat := (1000000 + rate - 1) / rate

/-- A slot opens (R119). -/
def State.slotOpen (s : State) (f : Nat) : State :=
  let s1 := s.setField f { s.field f with slotAt := s.now }
  if s1.fnOn (.fieldEpisode (toFin32 f)) = false ∨ s1.maxInflight f ≤ (s1.fieldEpisodes f).length then s1
  else
    match s1.slotCandidate f with
    | (none, s2) => s2.noSpare f
    | (some (t, sel), s2) =>
      match s2.pickSpare t, s2.freeEpSlot f with
      | some sp, some n =>
        if s2.replayHeld < s2.replayLimit then
          let e : Episode := { tile := t, logical := (s2.logicalOf t).getD 0, spare := sp, slot := n, select := sel, window := s2.epWindow f,
                               quota := s2.quotaLog2 f, goAt := s2.now }
          (({ s2 with episodes := s2.episodes ++ [e] }).staleArm t false).put .tsnEpCtrlGo t 1
        else s2.noSpare f
      | _, _ => s2.noSpare f

/-- Next episode number of a field: from its block, or a new block of 64 from the Keeper (R125, R132). -/
def State.takeNumber (s : State) (f : Nat) : Nat × State :=
  let x := s.field f
  if x.epNext = x.epEnd then
    let n := s.rf .kprEpNextNext 0
    (n, (s.put .kprEpNextNext 0 (n + 64)).setField f { x with epNext := (n + 1) % 2 ^ 32, epEnd := (n + 64) % 2 ^ 32 })
  else (x.epNext, s.setField f { x with epNext := succ32 x.epNext })

/-- Exposure since the last check over the quota, 8.8 fixed point, saturating (R114). -/
def overdueOf (since quota : Nat) : Nat := Nat.min 0xFFFF (since * 256 / 2 ^ quota)

/-- EPISODE_START (R121): within GO_WAIT of the GO the tile's matrix unit is active; the capture begins in the first such cycle with
the row bus free and a port granted (`State.captureGranted`). Its context is that of that cycle. -/
def State.episodeStart (s : State) (t pos : Nat) (img : TileImage) (resident : List Flit) : State :=
  match s.episodeOf t with
  | some e =>
    if e.phase = 0 ∧ s.now ≤ e.goAt + s.goWait (tileField t) ∧ s.fnOn (.fieldEpisode (toFin32 (tileField t))) = true then
      let recs := (resident.filter jobFlit).map (fun f => arrivalRecord f 0 true)
      s.setEpisode { e with
        ready := true, streamPos := pos
        cap := { image := imageTab (img.filter (fun x => decide (x.1.val < ctxLines))), queue := recordBeats recs.length recs } }
    else s
  | none => s

/-- t0: the row bus and a port are granted (R121, R124). -/
def State.captureGranted (s : State) (t : Nat) : State :=
  match s.episodeOf t with
  | some e =>
    let (n, s1) := s.takeNumber (tileField t)
    let x := s1.rf .tsnExposureExposure t
    let s2 := s1.setEpisode { e with
      phase := 1, number := n, t0 := s1.now, startWtc := s1.wtc, saved := x, epoch := s1.rf .kprEpochCurrent 0
      cap := { e.cap with image := e.cap.image ++ (s1.sramOf t).map (fun l => (ctxLines + l.1, l.2)) }
      overdue := overdueOf (x - s1.rf .tsnExposureCheckedChecked t) e.quota }
    let s3 := (s2.put .tsnEpCtrlGo t 0).put .tsnEpCtrlCapturing t 1
    if e.select = 1 then s3.bump .fstEpRandomCount (tileField t) .fstEpFlagsSat (tileField t) 64 else s3
  | none => s

/-- GO_WAIT_EXPIRY (R121). -/
def State.goExpire (s : State) (t : Nat) : State :=
  match s.episodeOf t with
  | some e =>
    if e.phase = 0 ∧ e.goAt + s.goWait (tileField t) < s.now then
      ((s.releaseEpisode e).staleArm t true).bump .fstEpLapsedCount (tileField t) .fstEpFlagsSat (tileField t) 16
    else s
  | none => s

/-! ### The capture as it arrives (R99 to R106) -/

/-- Seed of an episode's digests (R104). -/
def State.epSeed (s : State) (e : Episode) : Nat := episodeSeed (s.rf .kprTapSeedActiveSeed 0) e.number

/-- The capture of an episode has changed: a queue of more than 32 beats overflows, and so does a recording of more than 18,432 records
(R105, R106). -/
def State.setCapture (s : State) (e : Episode) (c : Capturing) : State :=
  if queueBeats < c.queue.length then ((s.setEpisode { e with cap := c }).stopEpisode e.tile 2 2).put .tsnEpCtrlOverflowSeen e.tile 1
  else if slotRecords < c.records then (s.setEpisode { e with cap := c }).stopEpisode e.tile 2 2
  else s.setEpisode { e with cap := c }

/-- Records of a beat go to the slot, in capture order. -/
def State.storeRecords (s : State) (f slot : Nat) : Nat → List Nat → State
  | _, [] => s
  | i, r :: l => (if i < slotRecords then s.bufRecord f slot i r else s).storeRecords f slot (i + 1) l

/-- A beat of the capture reaches the station: a snapshot line its slot, an end-pass line the comparator, records the slot; with the
signature the capture ends and releases the row bus and its port (R103 to R106). -/
def State.beatArrives (s : State) (e : Episode) (b : Sent) : State :=
  let f := tileField e.tile
  match b with
  | .none => s
  | .line l d snap fin =>
    let s1 := if snap then s.setBuf f (slotLine e.slot + l) d else s
    if fin then s1.setEpisode { e with cap := { e.cap with sum := (e.cap.sum + lineSum (s.epSeed e) l d) % p61 } } else s1
  | .records l => (s.storeRecords f e.slot e.cap.records l).setCapture e { e.cap with records := e.cap.records + l.length }
  | .signature =>
    ((s.setEpisode { e with tileRun := some ⟨BitVec.ofNat 64 e.cap.misr, BitVec.ofNat 64 e.cap.sum⟩ }).endTransfer (fun x =>
      decide (x.what = .capture ∧ x.owner = e.tile))).put .tsnEpCtrlCapturing e.tile 0

/-- One cycle of a checked tile. A flit of another epoch that reaches it in the window ends the episode (R112). -/
def State.captureCycle (s : State) (t : Nat) (x : TileCycle) : State :=
  match s.episodeOf t with
  | some e =>
    if e.phase = 0 ∨ e.cap.done = true then s
    else if e.cap.cycle < e.window ∧ x.arrivals.any (fun f => jobFlit f && decide (f.epoch.toNat ≠ e.epoch)) = true then s.stopEpisode t 2 3
    else
      let r := e.cap.step e.window x
      let s1 := s.setCapture e r.2
      match s1.episodeOf t with
      | some e' => s1.beatArrives e' r.1
      | none => s1
  | none => s

/-- The snapshot pass is complete: the station goes on to the replay (R108, R124). -/
def State.snapshotCheck (s : State) (t : Nat) : State :=
  match s.episodeOf t with
  | some e => if e.phase = 1 ∧ e.cap.snapDone = true then s.setEpisode { e with phase := 2 } else s
  | none => s

/-- Cycles of a checked tile, from t0 or from where the last ones ended. -/
def State.captureCycles (s : State) (t : Nat) (l : List TileCycle) : State := (l.foldl (fun u x => u.captureCycle t x) s).snapshotCheck t

/-- The checked tile writes a line of its SRAM (R100, R104). -/
def State.captureWrite (s : State) (t line data : Nat) : State :=
  match s.episodeOf t with
  | some e => if e.phase = 0 ∨ e.cap.done = true then s else s.setCapture e (e.cap.write e.window (ctxLines + line) data)
  | none => s

/-! ### Replay and comparison (R108, R109) -/

/-- The spare whose replay is in hand. -/
def Episode.runner (e : Episode) : Nat := if e.phase = 4 then e.spare2 else e.spare

/-- Flits of a replay in the order in which the signature absorbs them. -/
def spareSignature (window : Nat) (l : List (Fin 4096 × Flit)) : Nat :=
  (sortBy (fun x => 4 * x.1.val + x.2.port.val) (l.filter (fun x => decide (x.1.val < window) && jobFlit x.2 && !x.2.drawn))).foldl
    (fun m x => misrFlit x.1.val m x.2) 0

/-- Signature and end digest of a replay (R103, R104, R108). -/
def State.replayResult (s : State) (e : Episode) (r : SpareRun) : RunResult :=
  ⟨BitVec.ofNat 64 (spareSignature e.window r.emitted), BitVec.ofNat 64 (imageDigest (s.epSeed e) r.image)⟩

/-- The load of a spare is granted: it takes the slot's context and SRAM, and the records at their offsets (R108, R124). -/
def State.loadGranted (s : State) (t : Nat) : State :=
  match s.episodeOf t with
  | some e =>
    let f := tileField t
    let s0 := s.fillSram e.runner ((List.range 768).map (fun l => (l, s.bufLine f (slotLine e.slot + ctxLines + l))))
    let s1 := (s0.setEpisode { e with loaded := true, loadAt := some s.now }).setReplay e.runner true
    { s1 with out := .replay e.runner e.window (s.slotImage f e.slot) (s.slotRecs f e.slot e.cap.records) :: s1.out }
  | none => s

/-- The end readout of a spare is granted. -/
def State.readGranted (s : State) (t : Nat) : State :=
  match s.episodeOf t with
  | some e => s.setEpisode { e with readAt := some s.now }
  | none => s

/-- The load, and the W cycles that follow it, have had their time (R108). -/
def State.ranFull (s : State) (e : Episode) : Bool := match e.loadAt with | some a => s.cyclesPassed a (allLines + e.window) | none => false

/-- The end readout has had the time for its beats. -/
def State.readDone (s : State) (e : Episode) : Bool := match e.readAt with | some a => s.cyclesPassed a allLines | none => false

/-- The SRAM that a replay leaves in its spare. -/
def State.leaveImage (s : State) (t : Nat) (r : SpareRun) : State :=
  s.fillSram t ((r.image.filter (fun x => decide (ctxLines ≤ x.1.val))).map (fun x => (x.1.val - ctxLines, x.2.toNat)))

/-- REPLAY_RUN_DONE (R108, R124): the spare has run W cycles, and its end image is to be read. -/
def State.replayDone (s : State) (t : Nat) : State :=
  match s.episodeOf t with
  | some e => if e.phase = 2 ∧ s.ranFull e = true then s.setEpisode { e with phase := 3 } else s
  | none => s

/-- EPISODE_COMPARE (R109): with the checked tile's capture and the spare's readout in, MATCH, or the search for a second spare. -/
def State.episodeCompare (s : State) (t : Nat) (r : SpareRun) : State :=
  match s.episodeOf t with
  | some e =>
    match e.tileRun with
    | some a =>
      if e.phase = 3 ∧ s.readDone e = true then
        let b := s.replayResult e r
        let e' := { e with spareRun := some b, sigDiff := decide (a.signature ≠ b.signature), sramDiff := decide (a.digest ≠ b.digest) }
        let s0 := s.leaveImage e.spare r
        if a = b then s0.endEpisode e' 0 0 0 []
        else
          let s1 := s0.setReplay e.spare false
          s1.setEpisode { e' with
            phase := 4, confirmAt := s.now, loadAt := none, readAt := none
            spare2 := if s1.replayHeld < s1.replayLimit then (s1.pickSpare t).getD 0 else 0 }
      else s
    | none => s
  | none => s

/-- CONFIRM_REPLAY_DONE (R109). -/
def State.confirmDone (s : State) (t : Nat) (run : SpareRun) : State :=
  match s.episodeOf t with
  | some e =>
    if e.phase = 4 ∧ e.spare2 ≠ 0 ∧ s.readDone e = true then
      let r := s.replayResult e run
      let s1 := s.leaveImage e.spare2 run
      if some r = e.spareRun then s1.endEpisode e 1 0 1 []
      else if some r = e.tileRun then s1.endEpisode e 2 1 2 [e.spare]
      else s1.endEpisode e 1 0 3 [e.spare, e.spare2]
    else s
  | none => s

/-- CONFIRM_SPARE_TIMEOUT (R109): no second spare within 1,000 ticks. A spare that has come free is taken instead. -/
def State.confirmTimeout (s : State) (t : Nat) : State :=
  match s.episodeOf t with
  | some e =>
    if e.phase = 4 ∧ e.spare2 = 0 then
      if e.confirmAt + 1000 ≤ s.now then s.endEpisode e 1 0 0 [e.spare]
      else if s.replayLimit ≤ s.replayHeld then s
      else match s.pickSpare t with
        | some sp => s.setEpisode { e with spare2 := sp }
        | none => s
    else s
  | none => s

/-- EPISODE_DEADLINE (R112): 10,000 ticks from t0. DEDUCED: log entry 85. -/
def State.episodeDeadline (s : State) (t : Nat) : State :=
  s.stopWhere (fun e => decide (e.tile = t ∧ 1 ≤ e.phase ∧ e.t0 + 10000 ≤ s.now)) 3 12

/-- What the episodes ask of the row buses and ports (R23, R24): the capture of a tile that is ready, the load of a spare once its slot
holds the snapshot and 50 mW are left, its readout once it has run. A poisoned word of the slot is not loaded (R28). -/
def State.episodeAsks (s : State) : List Ask :=
  s.episodes.flatMap (fun e =>
    let ask := fun (w : Xfer) (t : Nat) => [(⟨w, t, e.tile, clsReplay, e.slot, if w = .capture then none else some allLines⟩ : Ask)]
    if e.phase = 0 then
      (if e.ready = true ∧ s.now ≤ e.goAt + s.goWait (tileField e.tile) ∧ s.fnOn (.fieldEpisode (toFin32 (tileField e.tile))) = true then
        ask .capture e.tile else [])
    else if e.phase = 1 ∨ e.runner = 0 then []
    else match e.loadAt, e.readAt with
      | none, _ =>
        if s.replayCount < s.replayLimit ∧ s.slotPoisoned (tileField e.tile) e.slot = false then ask .load e.runner else []
      | some _, none => if e.phase = 3 ∨ (e.phase = 4 ∧ s.ranFull e = true) then ask .readout e.runner else []
      | _, _ => [])

/-- A spare's readout has sent its last beat: the spare is no longer charged (R122). -/
def State.replaysEnd (s : State) : State :=
  (s.transfers.filter (fun x => decide (x.what = .readout) && s.beatsDone x)).foldl (fun t x => t.setReplay x.tile false) s

/-- The started episode with the latest t0. -/
def latestEpisode : List Episode → Option Episode
  | [] => none
  | e :: t =>
    match latestEpisode t with
    | none => if e.phase = 0 then none else some e
    | some x => if e.phase ≠ 0 ∧ x.t0 < e.t0 then some e else some x

/-- REPLAY_SHARE_SHED (R113): the latest episodes are abandoned until the spares replaying fit the share. -/
def State.shedReplay : Nat → State → State
  | 0, s => s
  | n + 1, s =>
    if s.replayCount ≤ s.replayLimit then s
    else match latestEpisode s.episodes with
      | none => s
      | some e => State.shedReplay n (s.stopEpisode e.tile 3 11)

/-- Outstanding GOs of the fields whose function is not ON are withdrawn (R113, R121, R123). -/
def State.withdrawGos (s : State) : State :=
  (s.episodes.filter (fun e => decide (e.phase = 0) && !s.fnOn (.fieldEpisode (toFin32 (tileField e.tile))))).foldl State.releaseEpisode s

/-! ### Rows -/

def execTsnEpArm (tile : Nat) (s : State) : Host.Outcome State Fault Refusal :=
  onTile tile s (if s.armable tile then (s.put .tsnEpCtrlArm tile 0).commandArm tile else s.put .tsnEpCtrlArm tile 0)

def execArmReportSend (tile active idle : Nat) (s : State) : Host.Outcome State Fault Refusal :=
  onTile tile s (s.armSend tile active idle)

def execArmReport (tile : Nat) (disarm : Bool) (s : State) : Host.Outcome State Fault Refusal :=
  onTile tile s (s.armReport tile disarm)

/-- QUOTA_REEVALUATE (R129). -/
def execQuotaReevaluate (f : Fin 32) (s : State) : Host.Outcome State Fault Refusal := .next (s.quotaReevaluate f.val)

/-- EPISODE_SLOT_OPEN: every ⌈1,000,000 / RATE⌉ ticks (R119); RATE 0 opens no slot. -/
def execEpisodeSlotOpen (f : Fin 32) (s : State) : Host.Outcome State Fault Refusal :=
  .next (if 0 < s.epRate f.val ∧ (s.field f.val).slotAt + slotTicks (s.epRate f.val) ≤ s.now then s.slotOpen f.val else s)

def execEpisodeStart (tile : Nat) (begun : EpisodeInput) (s : State) : Host.Outcome State Fault Refusal :=
  onTile tile s (s.episodeStart tile begun.streamPos.toNat begun.image begun.resident)

def execGoWaitExpiry (tile : Nat) (s : State) : Host.Outcome State Fault Refusal := onTile tile s (s.goExpire tile)

/-- SNAPSHOT_COMPLETE: the capture goes on by so many cycles of the tile, and with the snapshot complete the replay is next. -/
def execSnapshotComplete (seen : TileCycles) (s : State) : Host.Outcome State Fault Refusal :=
  onTile seen.tile s (s.captureCycles seen.tile seen.cycles)

/-- CAPTURE_OVERFLOW: the capture goes on by cycles that overfill its queue (R105). -/
def execCaptureOverflow (seen : TileCycles) (s : State) : Host.Outcome State Fault Refusal :=
  onTile seen.tile s (s.captureCycles seen.tile seen.cycles)

/-- RECORD_REGION_OVERFLOW: the capture goes on by cycles that overfill the record region (R106). -/
def execRecordRegionOverflow (tile : Nat) (cycles : List TileCycle) (s : State) : Host.Outcome State Fault Refusal :=
  onTile tile s (s.captureCycles tile cycles)

def execReplayRunDone (tile : Nat) (s : State) : Host.Outcome State Fault Refusal := onTile tile s (s.replayDone tile)

/-- EPISODE_COMPARE: the last cycles of the capture, what the spare emitted and its image as read out, and the comparison. -/
def execEpisodeCompare (tile : Nat) (cycles : List TileCycle) (emitted : List (Fin 4096 × Flit)) (image : TileImage) (s : State) :
    Host.Outcome State Fault Refusal :=
  onTile tile s ((s.captureCycles tile cycles).episodeCompare tile ⟨emitted, image⟩)

def execConfirmReplayDone (tile : Nat) (run : SpareRun) (s : State) : Host.Outcome State Fault Refusal :=
  onTile tile s (s.confirmDone tile run)

def execConfirmSpareTimeout (tile : Nat) (s : State) : Host.Outcome State Fault Refusal := onTile tile s (s.confirmTimeout tile)

def execEpisodeDeadline (tile : Nat) (s : State) : Host.Outcome State Fault Refusal := onTile tile s (s.episodeDeadline tile)

def execReplayShareShed (s : State) : Host.Outcome State Fault Refusal := .next (State.shedReplay 192 s)

end Sys2Proof.Machine
end

