-- ==== Sys2Proof/Machine/Molts.lean ====
section
/-! DEFINITION. Beginning a molt, requesting a domain's reset through CAPTURE, requesting recovery, and beginning a run of
bring-up stages (R317, R334, R347 to R349, R355, R356, R358). -/

namespace Sys2Proof.Machine

/-! ### Flight Recorder places (R348) -/

def State.moltSlot (s : State) (n : Nat) : Option MoltSlot := Tab.get (fun _ => none) s.molts.slots n
def State.moltFlash (s : State) (n : Nat) : Option MoltSlot := Tab.get (fun _ => none) s.molts.flash n

/-- The slot's molt stands in flash; an empty slot counts as copied. -/
def State.moltCopied (s : State) (n : Nat) : Bool :=
  match s.moltSlot n with
  | none => true
  | some m => decide (s.moltFlash n = some m)

/-- Slots of the pair that begins at `n`. -/
def pairOf (n : Nat) : List Nat := [n / 2 * 2, n / 2 * 2 + 1]

/-- The newest molt of a place; none for an empty one. -/
def State.placeNewest (s : State) (p : List Nat) : Option Nat :=
  p.foldl (fun acc n => match acc, s.moltSlot n with
    | none, m => m.map (fun m => m.seq)
    | some a, some m => some (if serialAfter m.seq a then m.seq else a)
    | some a, none => some a) none

def olderThan (a b : Option Nat) : Bool :=
  match a, b with
  | none, some _ => true
  | some x, some y => serialAfter y x
  | _, none => false

/-- The place whose newest molt is oldest; of equals the first. -/
def State.oldestPlace (s : State) : List (List Nat) → Option (List Nat)
  | [] => none
  | p :: t =>
    match s.oldestPlace t with
    | none => some p
    | some q => if olderThan (s.placeNewest q) (s.placeNewest p) then some q else some p

/-- The place a molt takes, and whether it overwrites an uncopied molt. -/
def State.moltPlace (s : State) (wafer : Bool) : List Nat × Bool :=
  let used := (s.molts.busy.map (fun r => if r.wafer then pairOf r.slot else [r.slot])).flatten
  let places := if wafer then [[0, 1], [2, 3]] else [[0], [1], [2], [3]]
  -- a place in which a molt is being taken is left alone while another remains
  let spare := places.filter (fun p => p.all (fun n => !used.contains n))
  let all := if spare.isEmpty then places else spare
  match s.oldestPlace (all.filter (fun p => p.all s.moltCopied)) with
  | some p => (p, false)
  | none => ((s.oldestPlace all).getD [0], true)

def State.setMolts (s : State) (m : Molts) : State := { s with molts := m }

/-- The state with a slot's molt removed or placed. -/
def State.setMoltSlot (s : State) (n : Nat) (m : Option MoltSlot) : State :=
  { s with molts := { s.molts with slots := Tab.set (fun _ => none) s.molts.slots n m } }

/-- A slot that shares a wafer-scope molt loses it with its pair. -/
def State.clearPlace (s : State) (p : List Nat) : State :=
  p.foldl (fun t n =>
    match t.moltSlot n with
    | some m => if m.scope = 0 then ((pairOf n).foldl (fun u k => u.setMoltSlot k none) t) else t.setMoltSlot n none
    | none => t) s

/-- A molt begins (R348, R349). DEDUCED: log entry 56. -/
def State.moltBegin (s : State) (wafer : Bool) (cause field : Nat) (tilesAbsent : Bool) (dom : Domain) : State :=
  let (p, ow) := s.moltPlace wafer
  let s1 := s.clearPlace p
  let s2 := if ow then s1.put .kprHangStatusMoltOverwrite 0 1 else s1
  let info : MoltSlot := ⟨s.molts.seq, cause, if wafer then 0 else 1, if wafer then 0 else field, tilesAbsent, false, ow,
    s.now, s.wtc, 0, 0, s.rf .kprSecStepStep 0, 0⟩
  s2.setMolts { s2.molts with seq := succ32 s2.molts.seq, busy := s2.molts.busy ++ [⟨info, p.headD 0, wafer, [domKey dom]⟩] }

/-- A reset request of a domain that takes a molt (R334). -/
def State.captureReset (s : State) (d : Domain) (wafer : Bool) (cause field : Nat) (tilesAbsent : Bool) : State :=
  match s.domState d with
  | 0 =>
    let s1 := (s.moltBegin wafer cause field tilesAbsent d).setDom d 1
    match d with
    | .keeper => s1.setDom .compute 1
    | _ => s1
  | 3 => s.setDomPending d 1
  | _ => s

/-! ### Runs of stages (R317, R318) -/

/-- A stage begins. -/
def State.beginStage (s : State) (n : Nat) : State :=
  ({ s with boot := { s.boot with stageFrom := s.now, haltFrom := none, haltTicks := 0, overran := false } }).puts
    [(.kprBringupStatusStage, 0, n), (.kprBringupStatusBusy, 0, 1), (.kprBringupStatusHalted, 0, 0)]

/-- Stage n is running and has not halted. -/
def State.stageOn (s : State) (n : Nat) : Bool :=
  s.boot.started && decide (s.rf .kprBringupStatusStage 0 = n) && decide (s.rf .kprBringupStatusBusy 0 = 1) && decide (s.rf .kprBringupStatusHalted 0 = 0)

/-- A run of stages begins: RUN 0 full, 1 Keeper restart, 2 compute restart. Only its own Stage Reports are kept (R329). -/
def State.beginRun (s : State) (run first : Nat) : State :=
  (({ s with boot := { s.boot with started := true, runFrom := s.now, total := 0, failed2 := false, reports := [] } }).put .kprBringupStatusRun 0 run).beginStage first

/-! ### Recovery requests (R355, R356, R358) -/

def State.recState (s : State) : Nat := s.rf .kprHangStatusRecovery 0
def State.setRec (s : State) (v : Nat) : State := s.put .kprHangStatusRecovery 0 v

/-- Recoveries of the last hour that count against the limit. -/
def State.recRecent (s : State) : Nat := (s.recov.done.filter (fun t => decide (s.now ≤ t + 3600000000))).length

/-- A recovery request: who asks, the RECOVER command to answer, the molt's cause, and whether a trip hold was released.
While a trip holds tile compute, requests are absorbed into the recovery that the release asks for. DEDUCED: log entry 64. -/
def State.requestRecovery (s : State) (byHost : Bool) (cid : Option Nat) (cause : Nat) (trip : Bool) : State :=
  let s0 := { s with recov := { s.recov with cids := s.recov.cids ++ cid.toList } }
  if s0.recState ≠ 0 ∨ (trip = false ∧ s0.rf .kprMonStatusTripped 0 = 1 ∧ s0.domState .compute ≠ 0) then s0
  else if byHost = false ∧ s0.rf .kprHangCtrlRecoveryLimit 0 ≤ s0.recRecent then
    (s0.put .kprHangStatusRecoveryLoop 0 1).croak 0x1F 1 s0.recRecent
  else
    let s1 := { s0 with recov := { s0.recov with byHost := byHost } }
    if trip then s1.setRec 3
    else if s1.domState .compute ≤ 1 then (s1.setRec 1).captureReset .compute true cause 0 false
    else (s1.setRec 2).captureReset .compute true cause 0 false

end Sys2Proof.Machine
end

