-- ==== Sys2Proof/Machine/Slack.lean ====
section
/-! DEFINITION. The slack check and the Route Slack Table (07_quarantine_and_regrowth.md R198 to R204). -/

namespace Sys2Proof.Machine

/-! ### The table (R203) -/

def slackBase (f : Nat) : Nat := 0x1000000 + f * 0x40000
def qBase : Nat := 0xDA00

def State.rstWord (s : State) (f off n : Nat) : Nat := readBytes s.ks (slackBase f + off) n
def State.rstQueues (s : State) (f : Nat) : Nat := s.rstWord f 4 2
def State.rstFlows (s : State) (f : Nat) : Nat := s.rstWord f 6 2
def State.rstRefs (s : State) (f : Nat) : Nat := s.rstWord f 8 4
def State.rstQueue (s : State) (f n : Nat) : Nat := s.rstWord f (qBase + 8 * n) 8
def State.rstRef (s : State) (f n : Nat) : Nat := s.rstWord f (qBase + 8 * s.rstQueues f + 4 * n) 4
def State.rstFlow (s : State) (f n : Nat) : Nat := s.rstWord f (qBase + 8 * s.rstQueues f + 4 * s.rstRefs f + 4 * n) 4
def State.rstIndex (s : State) (f ell : Nat) : Nat := s.rstWord f (0x10 + 4 * ell) 4

def State.rstValid (s : State) : Bool := decide (s.rf .kprRstCtrlValid 0 = 1)

def State.zeroBytes (s : State) (f off n : Nat) : Bool := (List.range n).all (fun i => decide (s.rstWord f (off + i) 1 = 0))

/-- A region is rejected (R204); one with a poisoned word too. DEDUCED: log entry 33. -/
def State.rstBad (s : State) (f : Nat) : Bool :=
  let q := s.rstQueues f
  let fl := s.rstFlows f
  let r := s.rstRefs f
  s.ksPoisoned (slackBase f) (qBase + 8 * q + 4 * r + 4 * fl) || decide (s.rstWord f 0 1 ≠ 1) || !s.zeroBytes f 1 3 || !s.zeroBytes f 12 4 || !s.zeroBytes f 0xD990 0x70 ||
  decide (30000 < q) || decide (30000 < fl) || decide (30000 < r) || decide (206336 < 8 * q + 4 * r + 4 * fl) ||
  (List.range 13920).any (fun l => let e := s.rstIndex f l; decide (r < bits e 0 18 + bits e 18 14)) ||
  (List.range q).any (fun n =>
    let e := s.rstQueue f n
    decide (bits e 14 5 ≠ f) || !logicalOk (bits e 0 19) || decide (bits e 21 2 = 3) || decide (bits e 23 1 ≠ 0) || decide (bits e 60 4 ≠ 0) ||
    decide (bits e 48 12 < 2) || decide (fl < bits e 32 16 + bits e 48 12)) ||
  (List.range r).any (fun n => let e := s.rstRef f n; decide (bits e 21 11 ≠ 0) || decide (s.rstQueues (bits e 0 5) ≤ bits e 5 16)) ||
  (List.range fl).any (fun n =>
    let e := s.rstFlow f n
    decide (bits e 19 12 ≠ 0) || (if bits e 31 1 = 1 then decide (bits e 4 15 ≠ 0) else !logicalOk (bits e 0 19)))

/-! ### Lengths (R198, R199) -/

/-- Wafer row and column of a physical position. -/
def wafRow (f row : Nat) : Nat := f / 8 * 120 + row
def wafCol (f col : Nat) : Nat := f % 8 * 120 + col
def tilePos (t : Nat) : Nat × Nat := (wafRow (tileField t) (tileRow t), wafCol (tileField t) (tileCol t))

/-- Position of a source on another wafer: that of its link port. -/
def portPos (k : Nat) : Nat × Nat := (wafRow (wardenField k) (if k < 8 then 0 else 119), wafCol (wardenField k) 60)

def absDiff (a b : Nat) : Nat := (a - b) + (b - a)
def hops (a b : Nat × Nat) : Nat := absDiff a.1 b.1 + absDiff a.2 b.2

/-- Where a logical tile stands for a check: the candidate for the moving tile, the tadpole of a regrowth that has
claimed one, else the tile that serves it. -/
def State.posNow (s : State) (moving : Option (Nat × Nat)) (l : Nat) : Nat × Nat :=
  match moving with
  | some (m, cand) => if l = m then tilePos cand else tilePos (((s.regrows.find? (fun r => decide (r.logical = l))).bind (fun r => r.target)).getD (s.serving l))
  | none => tilePos (((s.regrows.find? (fun r => decide (r.logical = l))).bind (fun r => r.target)).getD (s.serving l))

/-- δ of a flow against the home positions. -/
def State.flowDelta (s : State) (moving : Option (Nat × Nat)) (owner flow : Nat) : Int :=
  let src := bits flow 0 19
  let link := decide (bits flow 31 1 = 1)
  let home := if link then portPos (bits flow 0 4) else tilePos (homeTile src)
  let now := if link then portPos (bits flow 0 4) else s.posNow moving src
  (hops now (s.posNow moving owner) : Int) - (hops home (tilePos (homeTile owner)) : Int)

def maxInt (l : List Int) : Int := l.foldl (fun a b => if a < b then b else a) (l.headD 0)
def minInt (l : List Int) : Int := l.foldl (fun a b => if b < a then b else a) (l.headD 0)

/-- Spread of a queue (R200). -/
def State.queueSpread (s : State) (moving : Option (Nat × Nat)) (f n : Nat) : Nat :=
  let e := s.rstQueue f n
  let ds := (List.range (bits e 48 12)).map (fun i => s.flowDelta moving (bits e 0 19) (s.rstFlow f (bits e 32 16 + i)))
  (maxInt ds - minInt ds).toNat

def State.queueSlack (s : State) (f n : Nat) : Nat := bits (s.rstQueue f n) 24 8

/-- A failing queue: excess, spread, SLACK, and [4:0] field with [20:5] queue index. -/
structure SlackFail where
  excess : Nat
  spread : Nat
  slack  : Nat
  queue  : Nat
deriving DecidableEq, Repr

def State.queueFail (s : State) (moving : Option (Nat × Nat)) (f n : Nat) : Option SlackFail :=
  let sp := s.queueSpread moving f n
  let sl := s.queueSlack f n
  if sl < sp then some ⟨sp - sl, sp, sl, pack [(0, 5, f), (5, 16, n)]⟩ else none

/-- The queues that the reference records of a logical tile name (R203). -/
def State.refQueues (s : State) (l : Nat) : List (Nat × Nat) :=
  let f := tileField l
  let e := s.rstIndex f (ellOf l)
  (List.range (bits e 18 14)).map (fun i => let r := s.rstRef f (bits e 0 18 + i); (bits r 0 5, bits r 5 16))

/-- The worst failing queue: largest excess, then lowest queue record index, then lowest field (R201). -/
def worstOf : List SlackFail → Option SlackFail
  | [] => none
  | a :: t =>
    match worstOf t with
    | none => some a
    | some b =>
      if a.excess < b.excess then some b
      else if b.excess < a.excess then some a
      else if bits b.queue 5 16 < bits a.queue 5 16 then some b
      else if bits a.queue 5 16 < bits b.queue 5 16 then some a
      else if bits b.queue 0 5 < bits a.queue 0 5 then some b else some a

/-- The slack check of a candidate for a logical tile (R200): none when it passes. With VALID 0 every candidate passes. With a poisoned
word in the field's region none does: its record names no queue. DESIGN CHOICE: log entry 33. -/
def State.slackCheck (s : State) (l cand : Nat) : Option SlackFail :=
  if s.rstValid && s.ksPoisoned (slackBase (tileField l)) 0x40000 then some ⟨0, 0, 0, tileField l⟩
  else if s.rstValid then worstOf ((s.refQueues l).filterMap (fun q => s.queueFail (some (l, cand)) q.1 q.2)) else none

/-- The launch check of every queue against the launch map (R202): the first failing queue. -/
def State.slackMapFail (s : State) : Option SlackFail :=
  if s.rstValid then
    (List.range 32).findSome? (fun f => (List.range (s.rstQueues f)).findSome? (fun n => s.queueFail none f n))
  else none

/-- The first field whose region is rejected at a launch (R204). -/
def State.rstInvalid (s : State) : Option Nat := if s.rstValid then (List.range 32).find? s.rstBad else none

end Sys2Proof.Machine
end

