-- ==== Sys2Proof/Machine/Visits.lean ====
section
/-! DEFINITION. Self-test visits, the shared operations: items, records, the end and the abort of a visit
(06_self_test.md R168 to R186). -/

namespace Sys2Proof.Machine

/-! ### States of R175 -/

def stIdle : Nat := 0
def stMovingOut : Nat := 1
def stSaving : Nat := 2
def stTesting : Nat := 3
def stRestoring : Nat := 4
def stClearing : Nat := 5
def stMovingBack : Nat := 6

def State.stState (s : State) (t : Nat) : Nat := s.rf .tsnStCtrlState t

/-- A tile's visit state, with its self-test flag (R175, R178). -/
def State.setStState (s : State) (t v : Nat) : State :=
  (s.setTile t { s.tile t with underTest := decide (v ≠ 0) }).put .tsnStCtrlState t v

def State.visitOf (s : State) (t : Nat) : Option Visit := s.st.visits.find? (fun v => decide (v.tile = t))
def State.setVisit (s : State) (v : Visit) : State :=
  { s with st := { s.st with visits := s.st.visits.map (fun x => if x.tile = v.tile then v else x) } }
def State.dropVisit (s : State) (t : Nat) : State :=
  { s with st := { s.st with visits := s.st.visits.filter (fun v => decide (v.tile ≠ t)) } }

/-! ### Packs (R184, R186) -/

/-- Descriptors of all active packs in ascending slot: slot, index, and the descriptor. -/
def packSlices (ps : List Pack) : List (Pack × Nat × (Nat × Nat × Nat × Nat)) :=
  ((ps.filter (fun p => p.active)).map (fun p => (List.range p.slices.length).zipWith (fun i d => (p, i, d)) p.slices)).foldl (· ++ ·) []

def sortedPacks (s : State) : List Pack :=
  (List.range 16).filterMap (fun n => s.st.packs.find? (fun p => decide (p.slot = n)))

/-- The pack slice that an item of a visit runs. -/
def State.packItem (s : State) (v : Visit) (j : Nat) : Option (Pack × Nat × (Nat × Nat × Nat × Nat)) :=
  let l := packSlices (sortedPacks s)
  if l.length = 0 ∨ v.packsLeft ≤ j - 33 then none else l[(v.packFirst + (j - 33)) % l.length]?

/-- Tile cycles of an item (R168, R170, R186). -/
def State.itemCycles (s : State) (v : Visit) (j : Nat) : Nat :=
  if j = 0 then (if v.path = 2 then 141312 else 135168)
  else if j ≤ 32 then 132000
  else match s.packItem v j with
    | some (_, _, d) => 928 + 128 * d.2.1
    | none => 0

/-- The item is one that the path and mode of the visit may run (R171, R174, R186, R189): a window runs the march and base slices 0 to
27, and the rotation that finishes its visit slices 28 to 31 alone. DESIGN CHOICE: log entry 96. -/
def State.itemOk (s : State) (v : Visit) (j : Nat) : Bool :=
  if j = 0 then decide (v.mode ≠ 1) && !v.routersOnly
  else if j ≤ 28 then decide (v.mode ≠ 2) && !v.routersOnly
  else if j ≤ 32 then decide (v.mode ≠ 2) && decide (v.path ≠ 2)
  else (s.packItem v j).isSome && decide (v.mode = 0) && decide (v.path ≠ 2) && !v.routersOnly

/-- The next item: the first in the order of R171 not yet run, allowed, and fitting the window. -/
def State.nextItem (s : State) (v : Visit) : Option Nat :=
  (List.range (33 + v.packsLeft)).find? (fun j =>
    !v.ran.testBit j && s.itemOk v j && (decide (v.path ≠ 2) || decide (s.itemCycles v j ≤ v.window)))

/-- March and all 32 base slices have run (R171). -/
def visitComplete (v : Visit) : Bool := decide (v.mode = 0) && decide (v.ran % 2 ^ 33 = 2 ^ 33 - 1)

/-! ### Records (R183) -/

/-- Every descriptor of a pack has run on the tile. -/
def State.packWhole (s : State) (t : Nat) (p : Pack) : Bool :=
  decide (p.slices ≠ []) && (List.range p.slices.length).all (fun i => Tab.get (fun _ => false) s.st.ran ((t * 16 + p.slot) * 2 ^ 14 + i))

def State.coverage (s : State) (t base : Nat) (gain : Pack → Nat) : Nat :=
  Nat.min 10000 (base + (((sortedPacks s).filter (fun p => p.active && s.packWhole t p)).map gain).foldl (· + ·) 0)

/-- The visit record (R183); TYPE 1 complete, 2 aborted. -/
def State.visitRecord (s : State) (v : Visit) (ty : Nat) : Nat :=
  withCrc16 30 (pack [(0, 4, 1), (4, 4, ty), (8, 2, v.path), (10, 1, bit (decide (v.owner ≠ .function))),
    (11, 1, bit (decide (v.path = 2))), (16, 12, v.banks), (32, 32, v.slices), (64, 19, v.tile), (96, 16, Nat.min v.packFail 0xFFFF),
    (112, 16, v.packId), (128, 32, v.patterns), (160, 32, v.cycles),
    (192, 16, if ty = 1 then s.coverage v.tile 9610 (fun p => p.saGain) else 0),
    (208, 16, if ty = 1 then s.coverage v.tile 8840 (fun p => p.trGain) else 0)])

/-- The record leaves the Sentinel; an ordered visit completes with it (R187, R407, R440). -/
def State.sendVisit (s : State) (v : Visit) (ty : Nat) : State :=
  let r := s.visitRecord v ty
  let s1 := ({ s with out := .record v.tile r :: s.out }).puts [(.tsnStCtrlBankFail, v.tile, v.banks), (.tsnStSlicesSliceFail, v.tile, v.slices)]
  let s2 := if v.mode ≠ 0 then { s1 with st := { s1.st with diag := v.tile :: s1.st.diag } } else s1
  match v.owner with
  | .host cid => s2.respond 0x50 cid 0 1 r
  | .core c => s2.asyncDone c 0x22 13 v.tile 0 0 r
  | _ => s2

/-- The tile goes IDLE, and RUN is cleared. -/
def State.visitEnds (s : State) (t : Nat) : State := ((s.dropVisit t).setStState t stIdle).put .tsnStCtrlRun t 0

/-- An isolated tile goes IDLE: its collar opens unless the tile is withdrawn. -/
def State.visitIdle (s : State) (t : Nat) : State :=
  let out := s.tileOut t
  let s1 := s.visitEnds t
  s1.setTile t { s1.tile t with collarOut := out, collarIn := out }

/-- VISIT_ABORT (R181): a record of TYPE 2 at once; an isolated tile is cleared, a window tile just ends. DEDUCED: log entry 71. -/
def State.abortVisit (s : State) (t : Nat) : State :=
  match s.visitOf t with
  | some v =>
    if v.aborted then s
    else
      let s1 := s.sendVisit v 2
      if v.path = 2 then s1.visitEnds t
      else (s1.setVisit { v with aborted := true, owner := .function }).setStState t (if s1.stState t = stMovingOut ∨ s1.stState t = stMovingBack then s1.stState t else stClearing)
  | none => s

/-- The rotation whose target spare is `sp`. -/
def State.rotationOnto (s : State) (sp : Nat) : Option Visit := s.st.visits.find? (fun v => decide (v.path = 1 ∧ v.spare = sp))

/-- The visits that a claim or a failure of a tile meets (R181, R196): on the tile itself, and the rotation that
targets it. -/
def State.abortVisitsOn (s : State) (t : Nat) : State :=
  match s.rotationOnto t with
  | some v => (s.abortVisit t).abortVisit v.tile
  | none => s.abortVisit t

end Sys2Proof.Machine
end

