-- ==== Sys2Proof/Machine/Regrowth.lean ====
section
/-! DEFINITION. Quarantine, the choice of a replacement, the fill, and the regrowth state machine up to its commit; the
moves of a rotation run on the same records (07_quarantine_and_regrowth.md). -/

namespace Sys2Proof.Machine

/-! ### Phases and reasons (R209, R222) -/

def rgQueued : Nat := 0
def rgClaim : Nat := 1
def rgCheck : Nat := 2
def rgFill : Nat := 3
def rgCommit : Nat := 4
def rgDrain : Nat := 5
def rgHanded : Nat := 6
def rgRefused : Nat := 7
def rgDone : Nat := 8

def rsnNoSpare : Nat := 1
def rsnSlack : Nat := 2
def rsnNoSource : Nat := 3
def rsnQueueFull : Nat := 4
def rsnTimeout : Nat := 5
def rsnPolicy : Nat := 6
def rsnStation : Nat := 7
def rsnMapLost : Nat := 8

/-- Causes whose fill is a copy (R205). -/
def copyCause (c : Nat) : Bool := [0x001, 0x002, 0x003, 0x004, 0x005, 0x006, 0x010].contains c

/-- The timeout counts in CLAIM to DRAIN (R209). -/
def timedPhase (p : Nat) : Bool := decide (1 ≤ p ∧ p ≤ 5)

/-! ### Records -/

def State.setRegrow (s : State) (r : Regrowth) : State :=
  { s with regrows := s.regrows.map (fun x => if x.failed = r.failed ∧ x.rot = r.rot then r else x) }
def State.dropRegrow (s : State) (r : Regrowth) : State :=
  { s with regrows := s.regrows.filter (fun x => !decide (x.failed = r.failed ∧ x.rot = r.rot)) }

/-- The regrowth or move of a logical tile in one of the phases. DEDUCED: log entry 85. -/
def State.regrowAt (s : State) (l : Nat) (phases : List Nat) : Option Regrowth :=
  s.regrows.find? (fun r => decide (r.logical = l) && phases.contains r.phase)

/-- The phase changes; the timeout time is kept (R209). -/
def Regrowth.toPhase (r : Regrowth) (now p : Nat) : Regrowth :=
  if timedPhase r.phase then
    if timedPhase p then { r with phase := p } else { r with phase := p, used := r.used + (now - r.runFrom) }
  else if timedPhase p then { r with phase := p, runFrom := now } else { r with phase := p }

/-- Timeout time counted so far. -/
def Regrowth.elapsed (r : Regrowth) (now : Nat) : Nat := if timedPhase r.phase then r.used + (now - r.runFrom) else r.used

/-- The regrowth record (R222). -/
def State.regrowRecord (s : State) (r : Regrowth) (outcome reason : Nat) : Nat :=
  withCrc16 30 (pack [(0, 4, 1), (4, 4, outcome), (8, 4, reason), (12, 4, Nat.min r.tries 15), (16, 2, r.layer), (18, 2, r.epoch),
    (24, 8, Nat.min r.worstSpread 255), (32, 19, r.logical), (64, 19, r.failed), (96, 19, r.target.getD 0), (128, 12, r.cause),
    (144, 8, r.worstSlack), (160, 21, r.worstQueue), (192, 32, s.now - r.since)])

/-- A record is written: kept in FST_REGROW_LAST, counted, posted (R222, R224). -/
def State.writeRegrow (s : State) (r : Regrowth) (outcome reason : Nat) : State :=
  let f := tileField r.failed
  let rec_ := s.regrowRecord r outcome reason
  let s1 := (s.put .fstRegrowLastRecord f rec_).sample 10 (locStation f) [.post 5 f r.failed 32 rec_ false]
  if outcome = 1 ∨ outcome = 2 then
    ({ s1 with run := { s1.run with regrowths := Nat.min 0xFFFFFFFF (s1.run.regrowths + 1) } }).bump .fstRegrowDoneDone f .fstRegrowFlagsDoneSat f 1
  else if outcome = 3 then (s1.bump .fstRegrowEscalatedEscalated f .fstRegrowFlagsEscSat f 1).croak 0x02 1 rec_
  else s1

/-! ### Candidates (R195, R196) -/

/-- Spare candidates of a logical tile in the order of R195: its quarter's spare, then those of the adjacent quarters. -/
def spareCandidates (l : Nat) : List Nat :=
  let q := tileCol l / 29
  (([q] ++ (if q = 0 then [] else [q - 1]) ++ (if q = 3 then [] else [q + 1])).map
    (fun p => tileId (tileField l) (tileRow l) (spareCol p)))

/-- The failed tile is a spare that serves a rotated logical tile whose home is not withdrawn (R195 candidate 1). -/
def State.homeCandidate (s : State) (r : Regrowth) : List Nat :=
  if isSpare r.failed && ((s.remapOf r.logical).any (fun m => decide (m.kind = 2))) && !s.tileOut (homeTile r.logical) then
    [homeTile r.logical] else []

/-- A spare is claimable (R196): the target of a rotation too, but not that of another regrowth, nor one still being cleared (R197). -/
def State.claimable (s : State) (t : Nat) : Bool :=
  !s.tileOut t && !s.fieldOut (tileField t) && !s.tileSuspect t && !s.regrows.any (fun r => decide (r.target = some t ∧ r.rot = 0)) &&
  !s.clears.any (fun c => decide (c.1 = t)) &&
  (match s.logicalOf t with
    | none => true
    | some l => decide (homeTile l = t) || ((s.remapOf l).any (fun m => decide (m.kind = 2))))

/-- Regrowth of the field that holds each fill engine. -/
def State.engineUser (s : State) (f e : Nat) : Option Regrowth :=
  s.regrows.find? (fun r => decide (tileField r.failed = f ∧ r.engine = e ∧ r.rot = 0 ∧ r.phase ≠ rgQueued))

def State.queuedRegrows (s : State) (f : Nat) : List Regrowth :=
  s.regrows.filter (fun r => decide (tileField r.failed = f ∧ r.rot = 0 ∧ r.phase = rgQueued))

/-- Bound for a copy fill (R235). -/
def Regrowth.copyBound (r : Regrowth) : Bool := r.copyFill || copyCause r.cause

/-! ### CLAIM, CHECK, REFUSED -/

/-- REGROWTH_REFUSED (R209): no candidate remains. -/
def State.refuse (s : State) (r : Regrowth) : State :=
  let r' := { r.toPhase s.now rgRefused with refusedAt := s.now }
  let f := tileField r.failed
  (s.setRegrow r').sample 10 (locStation f)
    [evNotice 5 f r.failed 0x82 0 (s.regrowRecord r 0 (if r.slackFailed then rsnSlack else rsnNoSpare))]

/-- CLAIM with its next candidate (R195, R209). -/
def State.claimNext (s : State) (r : Regrowth) : State :=
  match (s.homeCandidate r ++ spareCandidates r.logical).find? (fun c => s.claimable c && !r.tried.contains c) with
  | some c => s.setRegrow { r.toPhase s.now rgCheck with candidate := some c, tried := c :: r.tried, tries := r.tries + 1 }
  | none => s.refuse { r with candidate := none }

/-- The regrowth takes engine `e` and enters CLAIM; the timeout starts (R209). One that a station's reset left with a
claimed spare restarts at CHECK against it (R210). DEDUCED: log entry 71. -/
def State.takeEngine (s : State) (r : Regrowth) (e : Nat) : State :=
  let r' := { r with phase := rgClaim, engine := e, used := 0, runFrom := s.now }
  match r.target with
  | some t => s.setRegrow { r' with phase := rgCheck, candidate := some t, tried := [t], tries := r.tries + 1 }
  | none => (s.setRegrow r').claimNext r'

/-! ### Ends and escalation (R209, R217) -/

/-- The field's station works its queue: it is neither held nor restarting (R210). -/
def State.stationWorks (s : State) (f : Nat) : Bool := decide (s.domState (.station (toFin32 f)) < 2)

/-- The head of the queue takes engine `e` if it is free (R209): the first queued regrowth whose logical tile has no
earlier one under way. -/
def State.dequeueOnto (s : State) (f e : Nat) : State :=
  match (s.queuedRegrows f).find? (fun r => !s.regrows.any (fun x => decide (x.logical = r.logical ∧ x.phase ≠ rgQueued ∧ x.rot = 0))) with
  | some r => if s.stationWorks f && (s.engineUser f e).isNone then s.takeEngine r e else s
  | none => s

/-- The queue's head takes each free engine (R209, R210). -/
def State.dequeue (s : State) (f : Nat) : State := (s.dequeueOnto f 0).dequeueOnto f 1

/-- A regrowth leaves its engine. -/
def State.endRegrow (s : State) (r : Regrowth) : State :=
  if r.engine < 2 then (s.dropRegrow r).dequeue (tileField r.failed) else s.dropRegrow r

/-- The target has received fill beats. -/
def Regrowth.fed (r : Regrowth) : Bool := r.filling || r.retried || (decide (r.phase = rgCommit) && !r.copyFill)

/-- A regrowth that fails short of its commit releases its spare, cleared if it has received a beat (R197). -/
def State.releaseTarget (s : State) (r : Regrowth) : State :=
  match r.target with
  | some t => if r.phase ≤ rgCommit ∧ (r.fed = true ∨ r.clearFrom.isSome = true) then s.clearSpare t else s
  | none => s

/-- ESCALATION (R217): CAPACITY_LOSS, the tile stays frozen, recovery is requested. -/
def State.escalate (s : State) (r : Regrowth) (reason : Nat) : State :=
  (((s.writeRegrow r 3 reason).releaseTarget r).endRegrow r).requestRecovery false none 5 false

/-- Several regrowths escalate at once: one record each, one recovery (R217). -/
def State.escalateAll (s : State) (l : List Regrowth) (reason : Nat) : State :=
  if l.isEmpty then s
  else (l.foldl (fun t r => ((t.writeRegrow r 3 reason).releaseTarget r).dropRegrow r) s).requestRecovery false none 5 false

/-- The engine a quarantine finds free. -/
def State.freeEngine (s : State) (f : Nat) : Option Nat := [0, 1].find? (fun e => (s.engineUser f e).isNone)

/-- REGROWTH_QUEUE (R209): a quarantine takes an engine, enters the queue, or escalates. While the station is in reset
it waits for the queue that the station rebuilds (R210). DEDUCED: log entry 71. -/
def State.startRegrow (s : State) (l failed cause : Nat) (save : Option Nat) : State :=
  let f := tileField failed
  let r : Regrowth := { logical := l, failed := failed, cause := cause, since := s.now, copyFill := false, save := save }
  let s1 := { s with regrows := s.regrows ++ [r] }
  if s.rf .kprRegrowCtrlInPlace 0 = 0 then s1.escalate r rsnPolicy
  else if s.unitOut (stationKey f) then s1.escalate r rsnStation
  else if s.stationWorks f = false then s1
  else
    let clash := s.regrows.any (fun x => decide (x.logical = l ∧ x.rot = 0))
    match s.freeEngine f with
    | some e => if clash then (if (s.queuedRegrows f).length < 8 then s1 else s1.escalate r rsnQueueFull) else s1.takeEngine r e
    | none => if (s.queuedRegrows f).length < 8 then s1 else s1.escalate r rsnQueueFull

/-! ### Rotation moves (R172, R208) -/

/-- A rotation move begins in FILL: out of the home tile onto the spare, or back home. The source is stalled. -/
def State.startMove (s : State) (l src dst rot : Nat) : State :=
  let r : Regrowth := { logical := l, failed := src, cause := 0, phase := rgFill, target := some dst, since := s.now, rot := rot }
  ({ s with regrows := s.regrows ++ [r] }).setTile src { s.tile src with stall := true, stallAt := s.now }

/-! ### Quarantine (R192, R193) -/

/-- QUARANTINE: a tile that serves a logical tile is stalled behind a closed output collar and its regrowth starts; one
that serves none closes its collar on both sides. A tile with a regrowth under way is not quarantined again (R216). -/
def State.quarantine (s : State) (t cause : Nat) : State :=
  match s.logicalOf t with
  | some l =>
    if s.regrows.any (fun r => decide (r.failed = t ∧ r.rot = 0)) then s
    else
      let idle := (s.visitOf t).any (fun v => decide (v.path = 2)) || (s.tile t).inWindow
      let save := if idle then (Tab.get (fun _ => none) s.winTabs t).map (fun w => w.save) else none
      let s1 := s.setTile t { s.tile t with stall := true, collarOut := true, stallAt := s.now, frozen := idle, inWindow := false }
      -- a rotation whose target this is: its home tile stops its test and is cleared (R181)
      let s2 := match s1.rotationOnto t with
        | some v => s1.abortVisit v.tile
        | none => s1
      let s3 := s2.abortVisit t
      s3.startRegrow l t cause save
  | none => s.setTile t { s.tile t with collarOut := true, collarIn := true }

/-- A rotation move is given up: the source goes on where it stands, and the visit it was for ends. -/
def State.moveFails (s : State) (r : Regrowth) : State :=
  let s1 := ((s.releaseTarget r).dropRegrow r).setTile r.failed { s.tile r.failed with stall := false, frozen := false }
  match s1.st.visits.find? (fun v => decide (v.logical = some r.logical)) with
  | some v => s1.visitIdle v.tile
  | none => s1

/-- TADPOLE_WITHDRAWN (R209): a claimed target is withdrawn. In FILL or COMMIT its fill, partial or complete, is cleared and the regrowth
returns to CLAIM; the spare gets TADPOLE_FAIL unless that is what withdrew it. Before its fill a regrowth only loses the
spare that a station's reset left it. A rotation move short of its commit has nowhere to go and is given up. DEDUCED: log entry 71. -/
def State.tadpoleOut (s : State) (t cause : Nat) : State :=
  match s.regrows.find? (fun r => decide (r.target = some t ∧ (r.phase = rgFill ∨ r.phase = rgCommit))) with
  | some r =>
    if r.rot ≠ 0 then s.moveFails r
    else
      let r' := { r.toPhase s.now rgClaim with
        target := none, passed := false, asked := false, filling := false, retried := false, copyFill := false, clearFrom := none }
      let s1 := ((s.clearSram t).setRegrow r').claimNext r'
      if cause = 0x024 then s1 else s1.sample 10 (locStation (tileField t)) [.detect (tileKey t) 0x024 2]
  | none =>
    { s with regrows := s.regrows.map (fun (r : Regrowth) =>
        if r.target = some t ∧ r.rot = 0 ∧ (r.phase < rgFill ∨ r.phase = rgRefused) then { r with target := none } else r) }

/-- The tile leaves its freeze with the new tile's collar open, unless it has been quarantined afresh (R209). -/
def State.openTarget (s : State) (t : Nat) : State :=
  if s.regrows.any (fun r => decide (r.failed = t ∧ r.rot = 0)) then s
  else s.setTile t { s.tile t with stall := false, frozen := false, collarOut := false, collarIn := false }

/-! ### FILL -/

/-- A claim takes its spare from replay and self-test (R196). -/
def State.claimSpare (s : State) (r : Regrowth) (t : Nat) : State :=
  let s1 := (s.spareClaimed t).abortVisitsOn t
  s1.setRegrow { r.toPhase s1.now rgFill with
    target := some t, candidate := none, passed := false, asked := false, filling := false, retried := false, clearFrom := none }

/-- The waits of a claim have ended: no episode, no visit, no rotation onto the target, and no logical tile on it (R196). -/
def State.claimReady (s : State) (t : Nat) : Bool :=
  !s.episodes.any (fun e => decide (e.spare = t) || decide (e.spare2 = t)) && (s.visitOf t).isNone && (s.rotationOnto t).isNone &&
  (match s.logicalOf t with | none => true | some l => decide (homeTile l = t))

/-- A regrowth in FILL that is bound for a copy, its waits ended, goes to COMMIT with COPY_FILL and the tadpole empty (R207, R209). -/
def State.copyToCommit (s : State) (r : Regrowth) : State :=
  if r.phase = rgFill ∧ r.rot = 0 ∧ copyCause r.cause = true ∧ (r.target.any s.claimReady) = true then
    (s.clearSram (r.target.getD 0)).setRegrow { r.toPhase s.now rgCommit with copyFill := true }
  else s

/-- A regrowth whose check passed takes the spare it checked. -/
def State.takeSpare (s : State) (r : Regrowth) (c : Nat) : State :=
  let s1 := (s.claimSpare r c).rotate (rotSpare c) (2 * tileField r.failed + r.engine)
  match s1.regrowAt r.logical [rgFill] with
  | some r1 => s1.copyToCommit r1
  | none => s1

/-- A regrowth loses the spare it checked to another, or the spare is withdrawn: it returns to CLAIM (R216). -/
def State.loseSpare (s : State) (r : Regrowth) : State :=
  let r' := { r.toPhase s.now rgClaim with candidate := none, passed := false }
  (s.setRegrow r').claimNext r'

/-- Regrowths whose checks passed in this tick and that want spare `c`. -/
def State.spareAsks (s : State) (c : Nat) : List Regrowth :=
  s.regrows.filter (fun r => decide (r.phase = rgCheck ∧ r.candidate = some c) && r.passed)

/-- The claims of a tick (R216, R265): each spare wanted goes to one regrowth; the others look for their next candidate. -/
def State.claimSpares (s : State) : State :=
  (dedup (s.regrows.filterMap (fun r => if r.passed then r.candidate else none))).foldl (fun t c =>
    let l := t.spareAsks c
    match arbitrate (fun _ => clsFill) (fun (r : Regrowth) => 2 * tileField r.failed + r.engine) (t.rotor (rotSpare c)) l with
    | some w =>
      let t1 := if t.claimable c || decide (w.target = some c) then t.takeSpare w c else t.loseSpare w
      (l.filter (fun r => decide (r.failed ≠ w.failed))).foldl State.loseSpare t1
    | none => t) s

/-- SLACK_CHECK_DONE (R201): the check of the candidate passes, and its claim takes its place in the tick (`State.claimSpares`), or the
next is tried. -/
def State.slackDone (s : State) (l : Nat) : State :=
  match s.regrowAt l [rgCheck] with
  | some r =>
    match r.candidate with
    | some c =>
      if r.passed then s
      else if s.claimable c = false ∧ r.target ≠ some c then s.loseSpare r
      else match s.slackCheck l c with
        | none => s.setRegrow { r with passed := true }
        | some w =>
          let r0 := { r.toPhase s.now rgClaim with candidate := none, slackFailed := true, target := none }
          let r' := if r.worstExcess < w.excess then
            { r0 with worstExcess := w.excess, worstSpread := w.spread, worstSlack := w.slack, worstQueue := w.queue } else r0
          (s.setRegrow r').claimNext r'
    | none => (s.setRegrow (r.toPhase s.now rgClaim)).claimNext (r.toPhase s.now rgClaim)
  | none => s

/-- The waits of a fill have ended: those of a claim, or, for a rotation move, no episode on its target and nothing left of another. -/
def State.fillReady (s : State) (r : Regrowth) : Bool :=
  if r.rot = 0 then r.target.any s.claimReady
  else r.target.any (fun t => !s.episodes.any (fun e => decide (e.spare = t) || decide (e.spare2 = t)))

/-- TRANSPLANT_START (R206): the source frozen, and the spare claimed and free of its waits, the row bus is asked for; the tick grants
it (`State.fillGranted`). -/
def State.transplantStart (s : State) (l : Nat) : State :=
  match s.regrowAt l [rgFill] with
  | some r =>
    if r.rot = 0 ∧ copyCause r.cause = true then s.copyToCommit r
    else if r.filling = false ∧ (s.tile r.failed).frozen = true ∧ s.fillReady r = true then s.setRegrow { r with asked := true }
    else s
  | none => s

/-- What the fills and moves ask of the row buses (R23, R206, R208). They hold no port of a Replay Buffer (R24). -/
def State.fillAsks (s : State) : List Ask :=
  (s.regrows.filter (fun r => decide (r.phase = rgFill) && r.asked && !r.filling && (s.tile r.failed).frozen)).map (fun r =>
    ⟨if r.rot = 0 then .transplant else .move, r.failed, r.failed, if r.rot = 0 then clsFill else clsTest, 0, none⟩)

/-- The row bus is granted: the transplant runs, and its context comes from the tile or from the save area of an open window (R206). -/
def State.fillGranted (s : State) (failed : Nat) : State :=
  match s.regrows.find? (fun r => decide (r.failed = failed ∧ r.phase = rgFill) && r.asked) with
  | some r =>
    let s1 := s.setRegrow { r with filling := true, asked := false, fillAt := s.now }
    { s1 with out := .fill failed (r.target.getD 0) r.save :: s1.out }
  | none => s

/-- A row bus whose fill or move has ended is free (R266). -/
def State.endFills (s : State) : State :=
  s.endTransfer (fun x => (decide (x.what = .transplant) || decide (x.what = .move)) &&
    !s.regrows.any (fun r => decide (r.failed = x.owner) && r.filling))

/-- PLD-61 over the 792 beats of a fill (R206): those that are not zero. -/
def beatDigest (seed : Nat) (l : List (Nat × Nat)) : Nat := l.foldl (fun acc e => (acc + lineSum seed e.1 e.2) % p61) 0

/-- The beats of a fill as the source sent them: context and queues as told, the SRAM as it stands; and as they arrived. -/
def State.beatsSent (s : State) (t : Nat) (sent : List (Fin 792 × BitVec 1024)) : List (Nat × Nat) :=
  (sent.filter (fun e => decide (e.1.val < ctxLines ∨ allLines ≤ e.1.val))).map (fun e => (e.1.val, e.2.toNat)) ++
    (s.sramOf t).map (fun e => (ctxLines + e.1, e.2))
def beatsArrived (l : List (Nat × Nat)) (changed : List (Fin 792 × BitVec 1024)) : List (Nat × Nat) :=
  l.filter (fun e => !changed.any (fun c => decide (c.1.val = e.1))) ++ changed.map (fun c => (c.1.val, c.2.toNat))

/-- TRANSPLANT_VERIFIED (R206): both Sentinels have digested the beats. The digests agree, or the transplant runs once more, or the
tadpole has failed. -/
def State.transplantVerified (s : State) (l : Nat) (sent changed : List (Fin 792 × BitVec 1024)) : State :=
  match s.regrowAt l [rgFill] with
  | some r =>
    if r.filling = true ∧ s.cyclesPassed r.fillAt 900 = true then
      let seed := s.rf .kprTapSeedActiveSeed 0
      let a := s.beatsSent r.failed sent
      let b := beatsArrived a changed
      let s0 := s.fillSram (r.target.getD 0) ((b.filter (fun e => decide (ctxLines ≤ e.1 ∧ e.1 < allLines))).map (fun e => (e.1 - ctxLines, e.2)))
      if beatDigest seed a = beatDigest seed b then s0.setRegrow { r.toPhase s.now rgCommit with filling := false }
      else if r.retried = false then s0.setRegrow { r with retried := true, fillAt := s.now }
      else
        let s1 := s0.setRegrow { r with filling := false }
        match r.target with
        | some t => s1.sample 10 (locStation (tileField t)) [.detect (tileKey t) 0x024 2]
        | none => s1
    else s
  | none => s

/-- TRANSPLANT_UE_WORD (R206): the transplant ends at the word, the tadpole is cleared before the commit, and the fill turns to a copy.
A rotation move that meets one is given up where it stands. -/
def State.transplantUe (s : State) (l : Nat) : State :=
  match s.regrowAt l [rgFill] with
  | some r =>
    if r.filling = false then s
    else if r.rot = 0 then
      (s.clearSram (r.target.getD 0)).setRegrow { r.toPhase s.now rgCommit with filling := false, copyFill := true, clearFrom := some s.now }
    else s.moveFails r
  | none => s

/-! ### Answers and timeouts -/

/-- REFUSE_WAIT_MS in ticks (R225). -/
def State.refuseWait (s : State) : Nat := 1000 * Nat.max 1 (s.rf .kprRegrowCtrlRefuseWaitMs 0)

def refusalReason (r : Regrowth) : Nat := if r.slackFailed then rsnSlack else rsnNoSpare

/-- RETRY (R209): the timeout restarts at zero, every candidate is tried afresh. -/
def State.regrowRetry (s : State) (r : Regrowth) : State :=
  let r' := { r with phase := rgClaim, used := 0, runFrom := s.now, tried := [], slackFailed := false, passed := false }
  (s.setRegrow r').claimNext r'

/-- A tile is frozen (R192). -/
def State.freeze (s : State) (t : Nat) : State :=
  if (s.tile t).stall ∧ s.computeUp = true then s.setTile t { s.tile t with frozen := true } else s

/-- REMAP_TABLE_UE (R218): the word is rewritten from the Keeper's copy, or every regrowth of the field escalates. DEDUCED: log entry 33. -/
def State.mapLost (s : State) (f : Nat) : State :=
  let mine := s.regrows.filter (fun r => decide (tileField r.failed = f ∧ r.rot = 0))
  if mine.isEmpty then
    let r : Regrowth := { logical := 0, failed := f * 2 ^ 14, cause := 0, since := s.now }
    (s.writeRegrow r 3 rsnMapLost).requestRecovery false none 5 false
  else s.escalateAll mine rsnMapLost

/-! ### Rows -/

def execTileFrozen (tile : Nat) (s : State) : Host.Outcome State Fault Refusal := onTile tile s (s.freeze tile)

def execSlackCheckDone (logical : Nat) (s : State) : Host.Outcome State Fault Refusal := .next (s.slackDone logical)

def execTransplantStart (logical : Nat) (s : State) : Host.Outcome State Fault Refusal := .next (s.transplantStart logical)

def execTransplantVerified (logical : Nat) (fill : FillReport) (s : State) : Host.Outcome State Fault Refusal :=
  .next (s.transplantVerified logical fill.sent fill.changed)

def execTransplantUeWord (logical : Nat) (s : State) : Host.Outcome State Fault Refusal := .next (s.transplantUe logical)

/-- REFUSE_WAIT_EXPIRY (R209). -/
def execRefuseWaitExpiry (logical : Nat) (s : State) : Host.Outcome State Fault Refusal :=
  .next (match s.regrowAt logical [rgRefused] with
    | some r => if r.refusedAt + s.refuseWait ≤ s.now then s.escalate r (refusalReason r) else s
    | none => s)

/-- REGROWTH_TIMEOUT (R209, R340): a class 7 timeout, counted in KPR_CMD_TIMEOUTS. -/
def execRegrowthTimeout (logical : Nat) (s : State) : Host.Outcome State Fault Refusal :=
  .next (match s.regrowAt logical [rgClaim, rgCheck, rgFill, rgCommit, rgDrain] with
    | some r =>
      if r.rot = 0 ∧ 50000 ≤ r.elapsed s.now ∧ s.rf .kprMonStatusHold 0 = 0 then
        (s.bump .kprCmdTimeoutsCount 0 .kprHangStatusCountSat 0 1).escalate r rsnTimeout
      else s
    | none => s)

def execRemapTableUe (f : Fin 32) (index : Nat) (copyOk : Bool) (s : State) : Host.Outcome State Fault Refusal :=
  .next (if copyOk then ({ s with remapBad := s.remapBad.filter (fun k => decide (k ≠ 1024 * f.val + index % 1024)) }).sample 3 (locStation f.val) [.log]
    else (({ s with remapBad := (1024 * f.val + index % 1024) :: s.remapBad }).sample 3 (locStation f.val) [.log]).mapLost f.val)

end Sys2Proof.Machine
end

