-- ==== Sys2Proof/Machine/Epoch.lean ====
section
/-! DEFINITION. Commits, the configuration epoch and its drains, Drain Reports, and the start of a rollback
(07_quarantine_and_regrowth.md R209 to R215; 08_securing_and_rollback.md R250 to R252). -/

namespace Sys2Proof.Machine

/-! ### Rollbacks (R250 to R253) -/

def State.setRollback (s : State) (r : Option Rollback) : State := { s with sec := { s.sec with rollback := r } }

/-- The first layer that holds step S VALID with the loaded map's MAP_DIGEST (R251). -/
def State.reloadSource (s : State) (step : Nat) : Option Nat :=
  ([1, 2, 3].findSome? (fun layer => s.genList.find? (fun g =>
    decide (g.2.layer = layer ∧ g.2.state = 2 ∧ g.2.step = step ∧ g.2.mapDigest = s.mapDigest % 2 ^ 64)))).map (fun g => g.1)

/-- Copy-fill regrowths escalate with NO_SOURCE when no VALID generation remains at all (R207, R252). DEDUCED: log entry 90. -/
def State.noSource (s : State) : State :=
  if s.validGens.isEmpty then
    s.escalateAll (s.regrows.filter (fun r => decide (r.phase = rgHanded))) rsnNoSource
  else s

/-- A reload begins from the first layer that holds the step, or NO_COPY is answered and the wafer stays held (R252). -/
def State.reloadNext (s : State) : State :=
  match s.sec.rollback with
  | some r =>
    match s.reloadSource r.step with
    | some n =>
      let s1 := s.setRollback (some { r with phase := 2, gen := some n, since := s.now, started := false })
      if s1.recState ≠ 0 then s1.setRec 5 else s1
    | none =>
      let s1 := (({ s with sec := { s.sec with needed := true } }).answerRollback 10 0 0).noSource
      if s.recState ≠ 0 then s1.setRec 4 else s1
  | none => s

/-! ### Epoch advances (R211, R212) -/

def State.draining (s : State) : Bool := decide (s.rf .kprEpochDraining 0 = 1)

/-- EPOCH_ADVANCE (R212): for a batch of commits, or for a program change alone. Episodes still inside their window end
INCONCLUSIVE with reason EPOCH (R112). -/
def State.advanceEpoch (s0 : State) (program : Bool) : State :=
  let s := s0.stopWhere (fun e => decide (1 ≤ e.phase) && s0.inEpWindow e) 2 3
  let e := (s.rf .kprEpochCurrent 0 + 1) % 4
  let s1 := s.puts [(.kprEpochCurrent, 0, e), (.kprEpochDraining, 0, 1)]
  { s1 with epochFn := { s1.epochFn with drainAt := s1.now, drainWtc := s1.wtc, program := program, batch := 0, discards := [] } }

/-- The routers take the Remap Tables as their redirect state: at an advance for commits, and at no other time (R212, R469). DEDUCED: log entry 97. -/
def State.loadRedirect (s : State) : State :=
  { s with redirect := s.remap, out := .redirect (s.remap.filterMap (fun e => e.2.map (fun m => (e.1, m)))) :: s.out }

/-- A regrowth joins the batch of the drain in progress. -/
def State.joinBatch (s : State) (r : Regrowth) : State :=
  let e := s.rf .kprEpochCurrent 0
  let f := tileField r.failed
  let s1 := s.setRegrow { r with inBatch := true, epoch := e }
  { s1 with epochFn := { s1.epochFn with batch := s1.epochFn.batch + 1 }, remap := s1.remap.map (fun x =>
      if x.1 / 1024 = f then (x.1, x.2.map (fun m => if m.logical = r.logical then { m with epoch := e } else m)) else x) }

/-- The semaphore table of the program (R285). -/
def State.initSems (s : State) : List (Nat × Nat) := (s.prog.map (fun p => p.semaphores)).getD []

/-- A program that waited for its change is brought in: the old program's waits and adds end (R211, R285, R295). -/
def State.takeProgram (s : State) : State :=
  match s.progNext with
  | some p => ({ s with prog := some p, progNext := none }).programStart [] (2 ^ 64) true
  | none => s

/-- A program change made without a compute reset (R211, R212). -/
def State.programAdvance (s : State) : State :=
  if s.draining then s.put .kprEpochProgramPending 0 1 else s.takeProgram.advanceEpoch true

/-- EPOCH_PENDING_ADVANCE (R212): a waiting program change first, then the waiting commits. -/
def State.pendingAdvance (s : State) : State :=
  if s.draining then s
  else if s.rf .kprEpochProgramPending 0 = 1 then (s.put .kprEpochProgramPending 0 0).takeProgram.advanceEpoch true
  else if s.rf .kprEpochPending 0 = 1 then
    (((s.put .kprEpochPending 0 0).regrows.filter (fun r => decide (r.phase = rgDrain ∧ r.inBatch = false))).foldl State.joinBatch
      ((s.put .kprEpochPending 0 0).advanceEpoch false)).loadRedirect
  else s

/-! ### COMMIT (R209, R223) -/

def State.remapIndex (s : State) (f l : Nat) : Nat :=
  match (s.remaps f).find? (fun e => decide (e.2.logical = l)) with
  | some e => e.1
  | none => ((List.range 1024).find? (fun i => (Tab.get (fun _ => none) s.remap (1024 * f + i)).isNone)).getD 0

def State.setRemap (s : State) (f i : Nat) (m : Option Remap) : State :=
  { s with remap := Tab.set (fun _ => none) s.remap (1024 * f + i) m }

/-- The Remap Table entry of a commit; a move back to the home tile removes it. -/
def State.writeRemap (s : State) (r : Regrowth) : State :=
  let f := tileField r.failed
  let i := s.remapIndex f r.logical
  if r.rot = 2 then s.setRemap f i none
  else s.setRemap f i (some ⟨r.logical, tileCol (r.target.getD 0), if r.rot = 1 then 2 else 1, true, r.copyFill, s.rf .kprEpochCurrent 0⟩)

/-- REGROWTH_COMMIT (R209, R212): the entry is written and an advance requested. With the epoch STEADY it advances; every commit of
the tick joins one batch; a commit while the epoch drains waits under PENDING. A clear of the tadpole comes first (R206). DEDUCED: log
entry 66. -/
def State.regrowCommit (s : State) (l : Nat) : State :=
  let s0 := match s.regrowAt l [rgFill] with
    | some r => s.copyToCommit r
    | none => s
  match s0.regrowAt l [rgCommit] with
  | some r =>
    if r.clearFrom.all (fun t => s0.cyclesPassed t 3072) then
      let r' := { r.toPhase s0.now rgDrain with clearFrom := none }
      let s1 := ((if r.copyFill then s0.reserveLost else s0).setRegrow r').writeRemap r'
      if s0.draining = false then ((s1.advanceEpoch false).joinBatch r').loadRedirect
      else if s0.epochFn.drainAt = s0.now ∧ s0.epochFn.program = false then (s1.joinBatch r').loadRedirect
      else s1.put .kprEpochPending 0 1
    else s0
  | none => s0

/-! ### Drain Reports (R215) -/

def leftKey (x : LeftFlits) : Nat := (x.queue.tile * 4 + x.queue.port) * 4 + x.queue.vc

/-- One queue's discards added to the list. -/
def addLeft (l : List LeftFlits) (x : LeftFlits) : List LeftFlits :=
  if l.any (fun y => decide (y.queue = x.queue)) then
    l.map (fun y => if y.queue = x.queue then { y with count := y.count + x.count } else y)
  else l ++ [x]

def sumCounts (l : List LeftFlits) : Nat := (l.map (fun x => x.count)).foldl (· + ·) 0

/-- The entries of a report, from byte 32. -/
def drainEntries : List LeftFlits → Nat
  | [] => 0
  | x :: t => pack [(0, 19, x.queue.tile), (19, 2, x.queue.port), (21, 2, x.queue.vc), (32, 32, Nat.min x.count 0xFFFFFFFF),
      (64, 64, x.header.toNat)] ||| drainEntries t <<< 128

/-- The reports of a drain, 252 entries each, posted in order. -/
def State.drainReports : Nat → State → List LeftFlits → Nat → Nat → Nat → State
  | 0, s, _, _, _, _ => s
  | n + 1, s, l, part, total, queues =>
    if l.isEmpty then s
    else
      let here := l.take 252
      let rest := l.drop 252
      let e := s.rf .kprEpochCurrent 0
      let h := withCrc16 30 (pack [(0, 4, 1), (4, 4, if s.epochFn.program then 2 else 1), (8, 2, (e + 3) % 4), (10, 2, e),
        (12, 1, bit (!rest.isEmpty)), (16, 9, here.length), (32, 32, part), (64, 64, s.epochFn.drainWtc),
        (128, 32, Nat.min total 0xFFFFFFFF), (160, 32, queues), (192, 16, s.epochFn.batch)])
      State.drainReports n (s.sample 10 locKeeper [.post 6 32 0 (32 + 16 * here.length) (h ||| drainEntries here <<< 256) false])
        rest (part + 1) total queues

/-! ### The end of a drain -/

/-- The rollback asked for: the next boundary is held and ROLLBACK_NEEDED croaked, or absorbed (R250, R254). With SOLO
the newest listed step is taken at once. -/
def State.requestRollback (s : State) (void : Option Nat) : State :=
  if s.sec.rollback.isSome then s
  else if s.sec.needed then
    let before := s.listedSteps.length
    let s1 := { s with sec := { s.sec with voidWtc := match s.sec.voidWtc, void with
      | some a, some b => some (Nat.min a b) | some a, none => some a | none, v => v } }
    if s1.listedSteps.length < before then s1.croakNeeded else s1
  else
    let s1 := ({ s with sec := { s.sec with needed := true, voidWtc := void, neededAt := some s.now } }).croakNeeded
    match s1.rf .kprSecCtrlSolo 0, s1.listedSteps with
    | 1, st :: _ =>
      (({ s1 with sec := { s1.sec with needed := false } }).setRollback
        (some ⟨none, st, s1.wtc + 10000000, 1, none, s1.now, s1.now, false⟩)).programAdvance
    | _, _ => s1

/-- REGROWTH_DRAIN_END (R209) for one regrowth or rotation move of the batch. -/
def State.regrowDrainEnd (s : State) (discarded : Bool) (r : Regrowth) : State :=
  let f := tileField r.failed
  let i := s.remapIndex f r.logical
  let settle := fun (u : State) => match Tab.get (fun _ => none) u.remap (1024 * f + i) with
    | some m => u.setRemap f i (some { m with tadpole := false })
    | none => u
  let dst := r.target.getD 0
  if r.rot ≠ 0 then
    let s1 := (settle s).setTile r.failed { s.tile r.failed with stall := false, frozen := false, collarOut := true, collarIn := true }
    (s1.setTile dst { s1.tile dst with stall := false, frozen := false, collarOut := false, collarIn := false }).setRegrow { r with phase := rgDone, inBatch := false }
  else if r.copyFill ∨ discarded = true then
    (s.setRegrow { r.toPhase s.now rgHanded with inBatch := false, discarded := discarded })
      |>.requestRollback (if [1, 2, 3, 4, 6].contains r.cause then s.sec.lastVoid else none)
  else
    let s1 := (settle s).setTile r.failed { s.tile r.failed with stall := false, frozen := false, collarOut := true, collarIn := true }
    ((s1.openTarget dst).writeRegrow r 1 0).endRegrow r

/-- New-epoch flits held at the Wardens' ingress enter the mesh (R212, R213). -/
def State.releaseFlits (s : State) : State :=
  (List.range 16).foldl (fun t k =>
    { t.setWarden k { t.warden k with heldFlits := [] } with
      out := ((t.warden k).heldFlits.map (fun x => Out.flit k (t.rf .kprEpochCurrent 0) x.1 x.2.1 x.2.2)).reverse ++ t.out }) s

/-- The epoch function returns to STEADY: reports of what was discarded, then the regrowths of the batch, or the program
start and reload that waited for the program change (R209, R212, R214, R251). DEDUCED: log entry 66. -/
def State.drainEnd (s : State) (l : List LeftFlits) : State :=
  let sorted := sortBy leftKey l
  let n := sumCounts sorted
  let s1 := State.drainReports (sorted.length + 1) s sorted 0 n sorted.length
  let s2 := { s1.put .kprEpochDraining 0 0 with epochFn := { s1.epochFn with drains := s1.epochFn.drains + 1, discards := [] } }.releaseFlits
  if s2.epochFn.program then
    match s2.sec.rollback with
    | some r => if r.phase = 1 then (s2.programStart s2.initSems r.wtcGo true).reloadNext else s2
    | none => s2
  else ((s2.regrows.filter (fun r => decide (r.phase = rgDrain) && r.inBatch)).foldl (fun t r => t.regrowDrainEnd (decide (0 < n)) r) s2).noSource

/-- Discarded flits are counted. -/
def State.countDiscards (s : State) (n : Nat) : State := s.bumpBy .kprDrainDiscardsDiscards 0 n .kprEpochDiscardSat 0 1

/-- DRAIN_US in ticks (R225). -/
def State.drainUs (s : State) : Nat := clamp 10 1000 (s.rf .kprRegrowCtrlDrainUs 0)

/-- OLD_EPOCH_FLIT_LANDING (R213): at the old tile of a copy fill the flit is discarded and counted; at that of a transplant the collar
forwards it over the row bus to the same input port of the new tile; elsewhere it is delivered. -/
def State.oldFlit (s : State) (t : Nat) (q : QueueId) (h : Nat) : State :=
  if s.draining then
    match s.regrows.find? (fun r => decide (r.failed = t ∧ r.phase = rgDrain) && r.inBatch) with
    | some r =>
      if r.copyFill then
        ({ s with epochFn := { s.epochFn with discards := addLeft s.epochFn.discards ⟨q, 1, BitVec.ofNat 64 h⟩ } }).countDiscards 1
      else { s with out := .forward t (r.target.getD 0) q.port h :: s.out }
    | none => s
  else s

/-! ### Rows -/

def execRegrowthCommit (logical : Nat) (s : State) : Host.Outcome State Fault Refusal := .next (s.regrowCommit logical)

/-- EPOCH_DRAIN_DONE (R470): every old-epoch-empty line reads asserted. -/
def execEpochDrainDone (s : State) : Host.Outcome State Fault Refusal :=
  .next (if s.draining then s.drainEnd s.epochFn.discards else s)

/-- DRAIN_DEADLINE (R212). -/
def execDrainDeadline (left : List LeftFlits) (s : State) : Host.Outcome State Fault Refusal :=
  .next (if s.draining ∧ s.epochFn.drainAt + s.drainUs ≤ s.now then
    (s.countDiscards (sumCounts left)).drainEnd (left.foldl addLeft s.epochFn.discards) else s)

def execEpochPendingAdvance (s : State) : Host.Outcome State Fault Refusal := .next s.pendingAdvance

def execOldEpochFlitLanding (tile : Nat) (q : QueueId) (header : BitVec 64) (s : State) : Host.Outcome State Fault Refusal :=
  onTile tile s (s.oldFlit tile q header.toNat)

end Sys2Proof.Machine
end

