-- ==== Sys2Proof/Machine/Functions.lean ====
section
/-! DEFINITION. Switchable functions: the table of R267, writes of ENABLE (R268) and the restart of a domain's
functions (R335). -/

namespace Sys2Proof.Machine

/-- The function enters STARTING. -/
def State.fnStart (s : State) (f : Func) : State :=
  ((s.setFn f { s.fn f with startAt := s.now, disablePending := false }).setFnState f 1).setFnPending f 0

/-- The function enters OFF; ENABLE_PENDING is kept. -/
def State.fnToOff (s : State) (f : Func) : State := (s.setFn f { s.fn f with offAt := s.now }).setFnState f 0

/-- Enable event (R267). -/
def State.fnEnable (s : State) (f : Func) : State :=
  match s.fnState f with
  | 0 => if (s.fn f).offAt + 1 ≤ s.now then s.fnStart f else s.setFnPending f 1
  | 1 => s.setFn f { s.fn f with disablePending := false }
  | 2 => s
  | _ => s.setFnPending f 1

/-- Disable event (R267). -/
def State.fnDisable (s : State) (f : Func) : State :=
  match s.fnState f with
  | 0 => s.setFnPending f 0
  | 1 => s.setFn f { s.fn f with disablePending := true }
  | 2 => s.setFnState f 3
  | _ => s.setFnPending f 0

/-- The request bit as a write leaves it. -/
def State.setFnRequest (s : State) (f : Func) (v : Nat) : State := s.put (fnRegs f).1 (fnRegs f).2.2.2 v

/-- The event of a change of request; none while the domain is HELD or in RESTART (R335). -/
def State.fnEvent (s : State) (f : Func) (old new : Nat) : State :=
  if s.domState (fnDomain f) = 2 ∨ s.domState (fnDomain f) = 3 then s
  else if old = 0 ∧ new = 1 then s.fnEnable f
  else if old = 1 ∧ new = 0 then s.fnDisable f
  else s

/-- A write of ENABLE (R268): of several in one tick only the last counts, against the request before the tick. -/
def State.enableWrite (s : State) (f : Func) (v : Nat) : State :=
  let x := s.fn f
  if x.wroteAt = some s.now then
    let (req, st, pend, dis, off) := x.before
    let s1 := ((s.setFn f { x with disablePending := dis, offAt := off }).setFnState f st).setFnPending f pend
    (s1.setFnRequest f v).fnEvent f req v
  else
    let old := s.fnRequest f
    let s1 := s.setFn f { x with wroteAt := some s.now, before := (old, s.fnState f, s.fnPending f, x.disablePending, x.offAt) }
    (s1.setFnRequest f v).fnEvent f old v

/-- Start done (R267). -/
def State.fnStartDone (s : State) (f : Func) : State :=
  if s.fnState f = 1 then
    if (s.fn f).disablePending then (s.setFn f { s.fn f with disablePending := false }).setFnState f 3
    else s.setFnState f 2
  else s

/-- A reset of the function's domain: OFF, both pending bits clear. -/
def State.fnReset (s : State) (f : Func) : State := ((s.setFn f { offAt := s.now }).setFnState f 0).setFnPending f 0

/-- The domain reaches UP: the function counts as having entered OFF in that tick, and a request that is on is an
Enable event (R335). -/
def State.fnRestart (s : State) (f : Func) : State :=
  let s1 := ((s.setFn f { offAt := s.now }).setFnState f 0).setFnPending f 0
  if s1.fnRequest f = 1 then s1.fnEnable f else s1

/-- The functions of a domain. -/
def domFuncs : Domain → List Func
  | .station f => [.fieldTap f, .fieldEpisode f, .fieldScrub f, .fieldSelfTest f]
  | .port k => [.chorus k]
  | .keeper => [.securing]
  | .compute => []

def State.restartFns (s : State) (d : Domain) : State := (domFuncs d).foldl State.fnRestart s
def State.resetFns (s : State) (d : Domain) : State := (domFuncs d).foldl State.fnReset s

/-- The function that SWITCH names (R403); none for a reserved code or an index out of range. -/
def funcOf (code index : Nat) : Option Func :=
  match code with
  | 0 => some (.fieldTap (toFin32 index))
  | 1 => some (.fieldEpisode (toFin32 index))
  | 2 => some (.fieldScrub (toFin32 index))
  | 3 => some (.fieldSelfTest (toFin32 index))
  | 4 => if index < 16 then some (.chorus (toFin16 index)) else none
  | 5 => if index = 0 then some .securing else none
  | _ => none

/-- ENABLE_WRITE (R268). -/
def execEnableWrite (fn : Func) (request : Bool) (s : State) : Host.Outcome State Fault Refusal :=
  .next (s.enableWrite fn (bit request))

/-- FUNCTION_PENDING_START (R267): OFF for a full tick with ENABLE_PENDING set. -/
def execFunctionPendingStart (fn : Func) (s : State) : Host.Outcome State Fault Refusal :=
  .next (if s.fnState fn = 0 ∧ s.fnPending fn = 1 ∧ (s.fn fn).offAt + 1 ≤ s.now then s.fnStart fn else s)

end Sys2Proof.Machine
end

