-- ==== Sys2Proof/Machine/Detect.lean ====
section
/-! DEFINITION. The ledger's writes: history records, entries, detections and their actions, dropping a field
(02_units_and_ledger.md R44 to R54, R61 to R65; 07_quarantine_and_regrowth.md R219, R220). -/

namespace Sys2Proof.Machine

/-! ### Causes (R44) -/

/-- EVIDENCE: sub-unit above, cause below (R42). -/
def evidence (k : UnitKey) (cause : Nat) : Nat := pack [(0, 12, cause), (12, 4, k.sub)]

/-- State in which a detection of the cause creates an entry. -/
def causeState (c : Nat) : Nat :=
  if c = 0x022 ∨ c = 0x060 then 2
  else if c = 0x052 then 4
  else if [0x005, 0x007, 0x011, 0x040].contains c then 0
  else 1

/-- Kind a cause writes; 0 for any kind (R44). -/
def causeKind (c : Nat) : Nat :=
  if [0x010, 0x011, 0x021].contains c then kindBank
  else if c = 0x023 then kindRouter
  else if c = 0x007 ∨ c = 0x030 then kindLane
  else if c = 0x040 then kindSensor
  else if [0x050, 0x051, 0x052].contains c then kindStation
  else if c = 0x060 ∨ c = 0x061 ∨ c = 0x070 ∨ c = 0x071 then 0
  else kindTile

/-- A cause of the table of R44. -/
def causeKnown (c : Nat) : Bool :=
  [1, 2, 3, 4, 5, 6, 7, 0x10, 0x11, 0x20, 0x21, 0x22, 0x23, 0x24, 0x30, 0x40, 0x50, 0x51, 0x52, 0x60, 0x61, 0x70, 0x71].contains c

/-! ### History records (R52, R62, R64, R65) -/

/-- The window of 720 hours (R47). -/
def histWindow : Nat := 2592000000000

def State.histOf (s : State) (k : UnitKey) : Option HistRec := s.hist.cache.find? (fun r => decide (r.key = k))

/-- Detections of a record within the window before now, its first tick included (R65). -/
def recentDets (now : Nat) (r : HistRec) : Nat := (r.recent.filter (fun t => decide (t ≠ 0 ∧ now ≤ t + histWindow))).length
def State.detections (s : State) (k : UnitKey) : Nat := match s.histOf k with | some r => recentDets s.now r | none => 0

/-- The latest detection's cause as the newest record holds it. -/
def State.histCause (s : State) (k : UnitKey) : Nat := match s.histOf k with | some r => r.evidence % 4096 | none => 0

/-- A record made blank for a key. -/
def blankRec (k : UnitKey) : HistRec := ⟨k, 7, 0, 0, 0, 0, 0, 0, 0, List.replicate 8 0, 0, 0, 0⟩

/-- Keeps the newest staged record of each key (R64). -/
def newestPerKey : List HistRec → List HistRec
  | [] => []
  | r :: t => if t.any (fun x => decide (x.key = r.key)) then newestPerKey t else r :: newestPerKey t

/-- A record is staged (R64): in a full area the newest record of each key stays. An area still full overflows, and the manual does not
say which record is then lost: here that of the key staged longest ago. DESIGN CHOICE: log entry 92. -/
def State.stage (s : State) (r : HistRec) : State :=
  let h := s.hist
  let put := fun (st : List HistRec) => { s with hist := { h with
    staged := st, cache := h.cache.filter (fun x => decide (x.key ≠ r.key)) ++ [r], delta := h.delta ++ [r], seq := succ32 h.seq } }
  if h.staged.length < 16384 then put (h.staged ++ [r])
  else
    let k := newestPerKey (h.staged ++ [r])
    if k.length ≤ 16384 then put k
    else ((put k.tail).put .kprLedgerStatusOverflow 0 1).croak 0x01 1 (keyWord r.key)

/-- RETEST of a key's records (R62): the result of the latest start, 0 where its test does not cover the unit. A start before the
Always-On Island lost power is known by the newest record alone. -/
def State.retestOf (s : State) (k : UnitKey) : Nat :=
  if s.ledger.prevFails.contains k then 2
  else if k.kind = kindLane ∨ k.kind = kindTile ∨ k.kind = kindBank ∨ k.kind = kindRouter then
    (if s.ledger.testedFields.testBit 32 = false then (s.histOf k).elim 0 (fun r => r.retest)
     else if (keyField k).all (fun f => s.ledger.testedFields.testBit f) then 1 else 0)
  else 0

/-- The cause of an entry as a history record holds it: never ENTRY_LOST, but the cause of the newest record (R54). -/
def State.realCause (s : State) (e : Entry) : Nat := if e.cause = 0x071 then s.histCause e.key else e.cause

/-- A history record (R52, R62): the key's state after the write; `det` says that it is a detection, `ev` its EVIDENCE. -/
def State.writeHist (s : State) (k : UnitKey) (st origin : Nat) (det : Bool) (ev created : Nat) : State :=
  let p := (s.histOf k).getD (blankRec k)
  s.stage { p with
    state := st, origin := origin, retest := s.retestOf k, seq := s.hist.seq, evidence := ev, fuseRev := s.rf .kprLedgerStatusFuseRev 0
    created := if st = 7 then 0 else created
    detections := if det then Nat.min 65535 (p.detections + 1) else p.detections
    firstSeen := if det && decide (p.firstSeen = 0) then s.now else p.firstSeen
    lastSeen := if det then s.now else p.lastSeen
    recent := if det then p.recent.set p.recentNext s.now else p.recent
    recentNext := if det then (p.recentNext + 1) % 8 else p.recentNext }

/-- CREATED of a key's current entry. -/
def State.createdOf (s : State) (k : UnitKey) : Nat := match s.histOf k with | some r => r.created | none => s.now

/-! ### Entries (R41, R42, R53) -/

def State.setSlot (s : State) (i : Nat) (e : Option Entry) : State :=
  { s with ledger := { s.ledger with slots := Tab.set (fun _ => none) s.ledger.slots i e } }

/-- The lowest free entry. -/
def State.freeEntry (s : State) : Option Nat :=
  let g := Tab.gap 0 s.ledger.slots
  if g < 32768 then some g else none

/-- The entry as its 128 bits (R42). -/
def entryBits (e : Entry) : Nat :=
  pack [(0, 19, e.key.unit), (19, 4, e.key.kind), (23, 3, e.origin), (26, 3, e.state), (29, 16, e.count),
    (45, 12, e.cause), (57, 4, e.key.sub), (61, 48, e.firstTick)]

/-- The notice of an entry's change (R432, code 0x81). -/
def State.entryNotice (s : State) (e : Entry) (prev : Nat) : State :=
  s.sample 10 locKeeper [evNotice 11 32 (if e.key.kind = kindLane then 0 else e.key.unit) 0x81 0 (entryBits e ||| prev <<< 128)]

/-- The TRANSIENT entry whose latest detection is oldest (R53). -/
def State.oldestTransient (s : State) : Option (Nat × Entry) :=
  (s.entries.filter (fun e => decide (e.2.state = 3))).foldl (fun acc e => match acc with
    | none => some e
    | some a => if ((s.histOf e.2.key).map (fun r => r.lastSeen)).getD 0 < ((s.histOf a.2.key).map (fun r => r.lastSeen)).getD 0 then some e else some a) none

/-- An entry is freed, its history record kept with state FREE. -/
def State.freeSlotOf (s : State) (i : Nat) (e : Entry) : State :=
  ((s.setSlot i none).writeHist e.key 7 e.origin false (evidence e.key (s.realCause e)) 0).entryNotice { e with state := 7 } e.state

/-- A slot for a new entry, after R53. -/
def State.roomFor (s : State) : Option Nat × State :=
  match s.freeEntry with
  | some i => (some i, s)
  | none =>
    match s.oldestTransient with
    | some (i, e) => (some i, s.freeSlotOf i e)
    | none => (none, s)

/-! ### Dropping a field (R210, R219, R220) -/

/-- Instances of a register field that belong to a station, a tile, a port or a core. -/
def ofUnit (F : RF) (i u : Nat) : Bool := decide (i / Nat.max 1 F.spec.count = u)

/-- Station registers that a reset of the station clears: all but those of its front (R330, R338). -/
def stationReset (F : RF) : Bool :=
  decide (F.spec.blk = .station) &&
  !([RF.fstResetStatusState, .fstResetStatusResetPending, .fstIdField, .fstIdDropped].contains F)

/-- A regrowth of field f that its station takes back into its queue when it returns (R210): short of DRAIN. -/
def comesBack (f : Nat) (r : Regrowth) : Bool := decide (tileField r.failed = f ∧ r.rot = 0 ∧ (r.phase < rgDrain ∨ r.phase = rgRefused))

/-- The queue that the station rebuilds (R210): its regrowths short of DRAIN, each with its claimed spare; those past it hold no engine. -/
def requeue (f : Nat) (l : List Regrowth) : List Regrowth :=
  (l.filter (fun r => !comesBack f r)).map (fun r => if tileField r.failed = f then { r with engine := 2 } else r) ++
    (l.filter (comesBack f)).map (fun r =>
      { logical := r.logical, failed := r.failed, cause := r.cause, target := r.target, since := r.since, save := r.save : Regrowth })

/-- The queue of a station that returns is in precedence order (R210, R261), those quarantined meanwhile included. -/
def State.sortQueue (s : State) (f : Nat) : State :=
  let mine := fun (r : Regrowth) => decide (tileField r.failed = f ∧ r.rot = 0 ∧ r.phase = rgQueued)
  { s with regrows := s.regrows.filter (fun r => !mine r) ++ sortBy (fun r => r.failed) (s.regrows.filter mine) }

/-- Fills on the spares of a field's regrowths, partial or complete, are cleared (R210). -/
def State.clearFills (s : State) (f : Nat) : State :=
  (s.regrows.filter (fun r => comesBack f r && r.fed)).foldl (fun t r => match r.target with | some x => t.clearSram x | none => t) s

/-- What a reset of Field Station f clears (R112, R126, R210, R284, R330). -/
def State.stationClear (s : State) (f : Nat) : State :=
  -- the verdicts are counted on return (R115)
  let s1 := (s.stopWhere (fun e => decide (tileField e.tile = f)) 3 10).clearFills f
  let s2 := { s1 with
    transfers := s1.transfers.filter (fun x => decide (tileField x.tile ≠ f))
    replayBuf := Tab.drop (fun k => decide (k / 32768 = f)) s1.replayBuf
    regrows := requeue f s1.regrows
    scrubs := s1.scrubs.filter (fun v => decide (tileField v.tile ≠ f))
    st := { s1.st with done := Tab.drop (fun u => decide (tileField (u % 2 ^ 19) = f)) s1.st.done,
                       late := s1.st.late.filter (fun u => decide (tileField (u % 2 ^ 19) ≠ f)) } }
  let s3 := s2.dropWaits (fun w => decide (waitTable w.owner = f)) 7
  let s4 := (s3.setCore (2 * f) {}).setCore (2 * f + 1) {}
  let x := s4.field f
  -- numbers left in the block are skipped (R125)
  let s5 := s4.setField f { x with
    armed := [], epNext := 0, epEnd := 0, beats := 0, slotAt := s4.now,
    scrubOn := false, scrubPos := 0, visitStamp := s4.now, allDue := true, packPtr := 0, verdictsAt := none }
  let s6 := s5.resetRegs (fun F i => stationReset F && ofUnit F i f)
  -- the monitor hub forgets what it has sampled; power telemetry is the host wafer's
  let pw := (Tab.get (fun _ => ({} : MonField)) s6.monF f).power
  let s7 := { s6 with
    monF := Tab.set (fun _ => {}) s6.monF f { power := pw }
    mons := Tab.drop (fun u => decide (bits u 14 5 = f)) s6.mons }
  s7.resetFns (.station (toFin32 f))

/-- Tile-domain state is cleared. The collars of withdrawn tiles stay closed (R47). -/
def State.tilesClear (s : State) (p : Nat → Bool) : State :=
  let t := { s.resetRegs (fun F i => decide (F.spec.blk = .sentinel) && p i) with
    tiles := Tab.drop p s.tiles
    sealed := Tab.drop (fun k => p (k / 384)) s.sealed
    tables := Tab.drop p s.tables
    winTabs := Tab.drop p s.winTabs
    clears := s.clears.filter (fun c => !p c.1)
    ceCounts := Tab.drop (fun k => p (k / 12)) s.ceCounts
    scrubs := s.scrubs.filter (fun v => !p v.tile)
    st := { s.st with visits := s.st.visits.filter (fun v => !p v.tile), parked := s.st.parked.filter (fun v => !p v.tile) } }
  ((dedup (s.outKeys.filterMap keyTile)).filter p).foldl (fun u x => u.setTile x { u.tile x with collarOut := true, collarIn := true }) t

/-- FIELD_DROP (R220): the station held, its tiles reset behind closed collars, boundary routers closed, clocks gated. -/
def State.dropField (s : State) (f : Nat) : State :=
  if s.dropped f then s
  else
    let mine := s.regrows.filter (fun r => decide (tileField r.failed = f ∧ r.rot = 0))
    let s1 := s.escalateAll mine rsnStation
    let s2 := { s1 with regrows := s1.regrows.filter (fun r => decide (tileField r.failed ≠ f)) }
    let s3 := ((s2.stationClear f).tilesClear (fun t => decide (tileField t = f))).setDom (.station (toFin32 f)) 2
    { (s3.put .kprFieldsDroppedDropped 0 (s3.rf .kprFieldsDroppedDropped 0 ||| 1 <<< f)).put .fstIdDropped f 1 with
      shut := s3.shut ||| 1 <<< f }

/-! ### Withdrawing a unit (R46, R47, R192) -/

/-- A lane, or for 127 the whole port, carries no traffic (R46, R150). Fewer than 16 lanes is a port failure (R326). -/
def State.laneOut (s : State) (unit : Nat) : State :=
  let k := bits unit 14 4
  let l := bits unit 0 7
  let m := if l = 127 then 0xFFFFFFFF else 1 <<< l
  let w := s.rf .lwdLaneWithdrawnWithdrawn k ||| m
  let up := s.rf .lwdLaneUpUp k
  let up' := up &&& (0xFFFFFFFF ^^^ m)
  let s1 := s.puts [(.lwdLaneWithdrawnWithdrawn, k, w), (.lwdLaneUpUp, k, up')]
  let n := ((List.range 32).filter (fun i => up'.testBit i)).length
  let notice := evNotice 12 32 0 0x83 0 (pack [(0, 8, k), (8, 8, l), (16, 16, 0x7FFF)])
  if s1.rf .lwdPortStatusPortUp k = 1 ∧ n < 16 then s1.sample 6 (locWarden k) [notice, .portFail k]
  else s1.sample 6 (locWarden k) [notice]

/-- Field f is DISPUTED: held, and none of the actions of R220 is taken (R46, R67). -/
def State.holdField (s : State) (f : Nat) : State := s.put .kprLedgerDisputedFields 0 (s.rf .kprLedgerDisputedFields 0 ||| 1 <<< f)

/-- The field is DISPUTED no more. -/
def State.unholdField (s : State) (f : Nat) : State :=
  s.put .kprLedgerDisputedFields 0 (s.rf .kprLedgerDisputedFields 0 &&& (0xFFFFFFFF ^^^ 1 <<< f))

/-- Withdrawal of a unit newly out of service. `wasOut` says that its tile was out already. -/
def State.withdraw (s : State) (k : UnitKey) (cause : Nat) (wasOut : Bool) : State :=
  match keyTile k with
  | some t =>
    if wasOut then s
    else ((s.episodeWithdrawn t).tadpoleOut t cause).quarantine t cause
  | none =>
    if k.kind = kindLane then s.laneOut k.unit
    else if k.kind = kindStation then s.dropField (tileField k.unit)
    else s

/-- A new entry of the state acts on its unit: a DISPUTED one holds its field (R46), another that withdraws withdraws it. -/
def State.newEntryActs (s : State) (k : UnitKey) (st cause : Nat) (wasOut : Bool) : State :=
  if st = 4 then s.holdField (tileField k.unit) else if withdraws st then s.withdraw k cause wasOut else s

/-- The unit is out before a write. -/
def State.outBefore (s : State) (k : UnitKey) : Bool :=
  match keyTile k with | some t => s.tileOut t | none => s.unitOut k

/-! ### Detections (R48, R51, R53) -/

/-- A detection counted by the Hazard Unit (R312). -/
def State.hazardDet (s : State) (k : UnitKey) (cause : Nat) : State :=
  if [0x040, 0x060, 0x061, 0x070].contains cause then s
  else { s with hz := { s.hz with dets := (s.now, (keyField k).getD 32) :: s.hz.dets } }

/-- State after a detection, for an entry that stands (R48); `n` counts the detections in the window, this one
included. -/
def detectedState (st n : Nat) : Nat :=
  match st with
  | 0 => 1
  | 1 => if 2 ≤ n then 2 else 1
  | 3 => 2
  | x => x

/-- The fill's cause for a withdrawal (R205): an ENTRY_LOST entry takes the cause of the newest history record. -/
def State.fillCause (s : State) (k : UnitKey) (cause : Nat) : Nat := if cause = 0x071 then s.histCause k else cause

/-- A write that needs a new entry finds none (R53): OVERFLOW and LEDGER_FULL; an exclusion stands without an entry. -/
def State.noEntry (s : State) (k : UnitKey) (st : Nat) : State :=
  let s1 := (s.put .kprLedgerStatusOverflow 0 1).croak 0x01 1 (keyWord k)
  if withdraws st then { s1 with ledger := { s1.ledger with orphans := k :: s1.ledger.orphans } } else s1

/-- DETECTION_APPLY (R48): COUNT, EVIDENCE, the transition with its action, the history record. -/
def State.applyDetect (s0 : State) (k : UnitKey) (cause origin : Nat) : State :=
  let s := s0.hazardDet k cause
  let was := s.outBefore k
  match s.findEntry k with
  | some (i, e) =>
    let n := s.detections k + 1
    let st := detectedState e.state n
    let e' := { e with state := st, count := Nat.min 65535 (e.count + 1), cause := cause }
    let s1 := ((s.setSlot i (some e')).writeHist k st e.origin true (evidence k cause) (s.createdOf k)).entryNotice e' e.state
    if withdraws st && !withdraws e.state then s1.withdraw k cause was else s1
  | none =>
    let st := causeState cause
    match s.roomFor with
    | (some i, s1) =>
      let e : Entry := ⟨k, origin, st, 1, cause, s1.now % 2 ^ 48⟩
      (((s1.setSlot i (some e)).writeHist k st origin true (evidence k cause) s1.now).entryNotice e 7).newEntryActs k st cause was
    | (none, s1) => ((s1.writeHist k st origin true (evidence k cause) s1.now).noEntry k st).newEntryActs k st cause was

/-- Firmware's SUSPECT to QUARANTINED (R48, R205): the fill follows the cause in the entry. -/
def State.firmwareQuarantine (s : State) (i : Nat) (e : Entry) : State :=
  let was := s.outBefore e.key
  let e' := { e with state := 1 }
  (((s.setSlot i (some e')).writeHist e.key 1 e.origin false (evidence e.key (s.realCause e)) (s.createdOf e.key)).entryNotice e' e.state).withdraw
    e.key (s.fillCause e.key e.cause) was

end Sys2Proof.Machine
end

