-- ==== Sys2Proof/Machine/Monitors.lean ====
section
/-! DEFINITION. Temperature, droop and process monitors, their cross-checks, the trips and the thermal hold, and the write
windows (10_sensors.md R297 to R311). -/

namespace Sys2Proof.Machine

/-! ### Monitors and their fields -/

def State.monField (s : State) (f : Nat) : MonField := Tab.get (fun _ => {}) s.monF f
def State.setMonField (s : State) (f : Nat) (x : MonField) : State := { s with monF := Tab.set (fun _ => {}) s.monF f x }
def State.monitor (s : State) (k : UnitKey) : Monitor := Tab.get (fun _ => {}) s.mons k.unit
def State.setMonitor (s : State) (k : UnitKey) (x : Monitor) : State := { s with mons := Tab.set (fun _ => {}) s.mons k.unit x }

/-- The monitor is in service (R46, R299). -/
def State.monIn (s : State) (f cls i : Nat) : Bool := !s.unitOut (sensorKey f cls i) && !s.fieldOut f

def State.inCount (s : State) (f cls n : Nat) : Nat := ((List.range n).filter (s.monIn f cls)).length

/-- A sensor-blind field (R300). -/
def State.blind (s : State) (f : Nat) : Bool := decide (s.inCount f 0 36 < 18)

/-- Sensors orthogonally adjacent in the 6 × 6 grid. -/
def neighbours (i : Nat) : List Nat :=
  (if 6 ≤ i then [i - 6] else []) ++ (if 0 < i % 6 then [i - 1] else []) ++ (if i % 6 < 5 then [i + 1] else []) ++
  (if i < 30 then [i + 6] else [])

def State.nearIn (s : State) (f i : Nat) : List Nat := (neighbours i).filter (s.monIn f 0)

/-- Latest reading and rate of a sensor. -/
def State.tempOf (s : State) (f i : Nat) : Int := toInt 11 (s.rf .fstTempReading (36 * f + i))
def State.rateOf (s : State) (f i : Nat) : Int := toInt 12 (s.rf .fstTempRate (36 * f + i))

def insertInt (a : Int) : List Int → List Int
  | [] => [a]
  | b :: t => if a < b then a :: b :: t else b :: insertInt a t

/-- Twice the median of a list. -/
def median2 (l : List Int) : Int :=
  let o := l.foldl (fun acc x => insertInt x acc) []
  let n := o.length
  o.getD ((n - 1) / 2) 0 + o.getD (n / 2) 0

/-- One judgement of a monitor (R299): a detection when the condition arises, another after every 1,000 further samples at
which it holds; after 1,000 consecutive samples without it, it must arise afresh. -/
def judgeMonitor (m : Monitor) (c : Bool) : Monitor × Bool :=
  if c then
    if m.cur = false then ({ m with cur := true, run := 0, absent := 0 }, true)
    else if m.run + 1 = 1000 then ({ m with run := 0, absent := 0 }, true)
    else ({ m with run := m.run + 1, absent := 0 }, false)
  else if m.cur then
    if m.absent + 1 = 1000 then ({ m with cur := false, run := 0, absent := 0 }, false) else ({ m with absent := m.absent + 1 }, false)
  else (m, false)

/-- The samples of the field are those of a stage 3, its monitors' retest (R299, R317). DEDUCED: log entry 80. -/
def State.retesting (s : State) (f : Nat) : Bool := s.stageOn 3 || decide (s.domState (.station (toFin32 f)) = 3)

/-- The detection SENSOR_DISAGREE, in the housekeeping class (R299); in a stage 3 the monitor fails its retest instead. -/
def State.disagree (s : State) (f : Nat) (k : UnitKey) (m : Monitor) (c : Bool) : State :=
  if s.retesting f then s.setMonitor k { m with failed := m.failed || c } else
  let (m', hit) := judgeMonitor m c
  let s1 := s.setMonitor k m'
  if hit then s1.sample 10 (locStation f) [.detect k 0x040 2] else s1

/-! ### Trips and the hold (R301 to R304) -/

/-- A rollback that a trip or reset ends is answered ABORTED (R354). -/
def State.abortRollback (s : State) : State :=
  match s.sec.rollback with
  | some r =>
    let s1 := { s with sec := { s.sec with rollback := none } }
    match r.cid with
    | some c => s1.respond 0x61 c 3 1 0
    | none => s1
  | none => s

/-- An absolute trip (R302): the tile clocks stop, a molt without tile records, and tile compute is held; a recovery in
progress ends (R356). -/
def State.absoluteTrip (s : State) (f sensor reading : Nat) : State :=
  if s.rf .kprMonStatusTripped 0 = 1 then s
  else
    -- a hold that a rate-of-rise trip of this very tick began is recorded only (R304)
    let s0 := if s.rf .kprMonStatusHold 0 = 1 ∧ s.mon.holdNew = true ∧ s.mon.holdAt = s.now then s.put .kprMonStatusHoldSeen 0 0 else s
    let s1 := (s0.puts [(.kprMonStatusTripped, 0, 1), (.kprMonStatusTripSeen, 0, 1), (.kprMonStatusHold, 0, 0),
      (.aoiResetCauseComputeTrip, 0, 1)]).sample 1 locKeeper [.croak 0x17 1 (pack [(0, 8, f), (8, 8, sensor), (16, 16, reading)])]
    let s2 := if s1.recState ≠ 0 then (s1.abortRollback).setRec 0 else s1
    s2.captureReset .compute true 4 0 true

/-- A rate-of-rise trip (R303, R304): a thermal hold, unless the wafer is held or tripped already. -/
def State.riseTrip (s : State) (f sensor reading : Nat) : State :=
  let s1 := s.sample 2 (locStation f) [.log]
  if s1.rf .kprMonStatusHold 0 = 1 ∨ s1.rf .kprMonStatusTripped 0 = 1 then s1
  else ({ s1 with mon := { s1.mon with holdAt := s1.now, holdSrc := (f, sensor, reading), holdNew := decide (s1.rf .kprMonStatusHoldSeen 0 = 0) } }).puts
    [(.kprMonStatusHold, 0, 1), (.kprMonStatusHoldSeen, 0, 1)]

/-- The hold ends (R304): the tile clocks restart, and the timeouts that stood still go on. -/
def State.endHold (s : State) : State :=
  let d := s.now - s.mon.holdAt
  let s1 := s.put .kprMonStatusHold 0 0
  { s1 with
    regrows := s1.regrows.map (fun r => { r with runFrom := r.runFrom + (s1.now - Nat.max s1.mon.holdAt r.runFrom) })
    sec := { s1.sec with
      gens := s1.sec.gens.map (fun (e : Nat × Option Gen) =>
        (e.1, e.2.map (fun g => if g.state = 1 then { g with since := g.since + Nat.min d (s1.now - g.since) } else g)))
      rollback := s1.sec.rollback.map (fun r => if r.phase = 2 then { r with since := r.since + Nat.min d (s1.now - r.since) } else r) } }

/-- Fields whose sensors are read: not dropped nor disputed. -/
def State.monFields (s : State) : List Nat := (List.range 32).filter (fun f => !s.fieldOut f)

def State.riseTripAt (s : State) : Nat := Nat.max 4 (s.rf .kprMonCtrlRiseTrip 0)
def State.riseResumeAt (s : State) : Nat := Nat.min (s.rf .kprMonCtrlRiseResume 0) (s.riseTripAt - 1)

/-! ### Thermal samples (R297, R299 to R304) -/

/-- One sensor's sample: reading, rate, history and judgement. `r` is none for a conversion fault. DEDUCED: log entry 80. -/
def State.sensorSample (s : State) (f n i : Nat) (r : Option Int) : State :=
  let k := sensorKey f 0 i
  let m := s.monitor k
  match r with
  | none => if s.monIn f 0 i || s.retesting f then s.disagree f k m true else s
  | some v =>
    let rate := if 11 ≤ n then v - m.last.getD 9 0 else 0
    let same := decide (m.last.head? = some v)
    let near := (s.nearIn f i).map (s.tempOf f)
    let med := median2 near
    let judged := decide (2 ≤ near.length)
    let far := if judged && decide (96 < (2 * v - med).natAbs) then m.far + 1 else 0
    let still := if judged && same then m.still + 1 else 0
    let lo := if still = 0 then med else min m.lo med
    let hi := if still = 0 then med else max m.hi med
    let m' := { m with last := (v :: m.last).take 10, far := Nat.min far 100, still := Nat.min still 60000, lo := lo, hi := hi }
    let cond := decide (v < -160 ∨ 600 < v) || (decide (500 ≤ v) && near.all (fun x => decide (x < 420))) ||
      decide (100 ≤ far) || (decide (60000 ≤ still) && decide (32 ≤ hi - lo))
    let s1 := s.put .fstTempRate (36 * f + i) (ofInt 12 rate)
    if s1.monIn f 0 i || s1.retesting f then s1.disagree f k m' cond else s1.setMonitor k m'

/-- The highest in-service reading of a field and its sensor. -/
def State.fieldMax (s : State) (f : Nat) : Option (Int × Nat) :=
  ((List.range 36).filter (s.monIn f 0)).foldl (fun acc i => match acc with
    | none => some (s.tempOf f i, i)
    | some a => if a.1 < s.tempOf f i then some (s.tempOf f i, i) else some a) none

/-- MAX_TEMP and MAX_FIELD of the wafer. -/
def State.waferMax (s : State) : State :=
  match s.monFields.foldl (fun (acc : Option (Int × Nat)) f => if (s.monField f).at_.isNone then acc else match acc, s.fieldMax f with
    | none, some x => some (x.1, f)
    | some a, some x => if a.1 < x.1 then some (x.1, f) else some a
    | a, none => a) none with
  | some (v, f) => s.puts [(.kprMonStatusMaxTemp, 0, ofInt 11 v), (.kprMonStatusMaxField, 0, f)]
  | none => s

/-- The first in-service sensor that meets a condition together with an in-service neighbour. -/
def State.pairWith (s : State) (f : Nat) (p q : Nat → Bool) : Option Nat :=
  ((List.range 36).filter (s.monIn f 0)).find? (fun i => p i && (s.nearIn f i).any q)

/-- Sensors that show RATE ≥ RISE_TRIP with a neighbour, as a mask. -/
def State.risen (s : State) (f : Nat) : Nat :=
  let p := fun i => decide ((s.riseTripAt : Int) ≤ s.rateOf f i)
  maskOf 36 (fun i => s.monIn f 0 i && p i && (s.nearIn f i).any p)

/-- The corner mean that stands for the AOI sensor: sum and number of in-service corner sensors (R300). -/
def State.corners (s : State) : Int × Nat :=
  let l := [(11, 35), (12, 30), (19, 5), (20, 0)].filter (fun (p : Nat × Nat) => s.monIn p.1 0 p.2)
  ((l.map (fun p => s.tempOf p.1 p.2)).foldl (· + ·) 0, l.length)

/-- The temperature that compensation and the write windows use. -/
def State.aoiTemp (s : State) : Int :=
  let (sum, n) := s.corners
  if s.rf .aoiTempAoiSensorBad 0 = 1 ∧ 0 < n then sum / n else toInt 11 (s.rf .aoiTempReading 0)

/-- The trim code at a temperature, interpolated in the fused table (R309). -/
def trimAt (trims : List Nat) (t : Int) : Nat :=
  let q := (max 0 (min 660 (t + 160))).toNat
  let a := trims.getD (q / 44) 0
  let b := trims.getD (q / 44 + 1) a
  ((a : Int) + ((b : Int) - a) * (q % 44 : Nat) / 44).toNat

/-- The flash write window by temperature: 0 to 85 °C, reopening at 3 °C or 82 °C (R310). -/
def State.flashWindow (s : State) : State :=
  let t := s.aoiTemp
  let by_ := s.mon.closedBy
  let shut := if t < 0 then 1 else if 340 < t then 2 else if by_ = 1 ∧ t < 12 then 1 else if by_ = 2 ∧ 328 < t then 2 else 0
  ({ s with mon := { s.mon with closedBy := shut } }).put .kprMonStatusFlashWindow 0 (bit (decide (shut = 0)))

/-- The AOI sensor's sample, once in 1,000 ticks (R300, R309, R310). -/
def State.aoiSample (s : State) (v : Nat) : State :=
  if s.mon.aoiAt.any (fun t => decide (s.now < t + 1000)) then s
  else
    let s1 := s.put .aoiTempReading 0 v
    let (sum, n) := s1.corners
    let off := decide (0 < n) && decide (40 * n < ((n : Int) * toInt 11 v - sum).natAbs)
    let far := if off then s1.mon.aoiFar + 1 else 0
    let cool := if s1.aoiTemp ≤ 420 then Nat.min 1000 (s1.mon.aoiCool + 1) else 0
    let s2 := { s1 with mon := { s1.mon with aoiAt := some s1.now, aoiFar := Nat.min far 100, aoiCool := cool } }
    let s3 := if 100 ≤ far ∧ s2.rf .aoiTempAoiSensorBad 0 = 0 then
        let t := s2.put .aoiTempAoiSensorBad 0 1
        t.sample 10 locKeeper [evNotice 10 32 0 0x16 0 (pack [(0, 11, v), (11, 1, 1), (16, 4, t.rf .aoiTempTrim 0)])]
      else s2
    (s3.put .aoiTempTrim 0 (trimAt s3.fuses.trims s3.aoiTemp)).flashWindow

/-- SENSOR_BLIND, once (R300). -/
def State.tellBlind (s : State) (f : Nat) : State :=
  let x := s.monField f
  if s.blind f && !x.blind then (s.setMonField f { x with blind := true }).sample 10 (locStation f) [evNotice 10 f 0 0x15 0 f] else s

/-- THERMAL_SAMPLE: every sensor of the field is converted, then the trips are judged. DEDUCED: log entry 80. -/
def State.thermalSample (s : State) (f : Nat) (rs : List (BitVec 11)) (aoi : Nat) : State :=
  let x := s.monField f
  if (s.stationUp (toFin32 f) = false ∧ (s.domState (.station (toFin32 f)) ≠ 3 ∨ s.dropped f = true)) ∨ x.at_.any (fun t => decide (s.now < t + 1000)) = true then s
  else
    let n := Nat.min 11 (x.samples + 1)
    let s0 := s.setMonField f { x with at_ := some s.now, samples := n }
    let s1 := (List.range 36).foldl (fun t i => match rs[i]? with
      | some v => t.put .fstTempReading (36 * f + i) v.toNat
      | none => t) s0
    let s2 := (List.range 36).foldl (fun t i => t.sensorSample f n i (rs[i]?.map BitVec.toInt)) s1
    let s3 := match s2.fieldMax f with
      | some (v, i) => s2.puts [(.fstMonMaxMaxTemp, f, ofInt 11 v), (.fstMonMaxMaxSensor, f, i)]
      | none => s2
    let ins := (List.range 36).filter (s3.monIn f 0)
    let calm := ins.all (fun i => decide (s3.rateOf f i ≤ (s3.riseResumeAt : Int)))
    let cool := ins.all (fun i => decide (s3.tempOf f i ≤ (420 : Int)))
    let rise := s3.risen f
    let y := s3.monField f
    let s4 := s3.setMonField f { y with
      calm := if calm then Nat.min 10 (y.calm + 1) else 0, cool := if cool then Nat.min 1000 (y.cool + 1) else 0, rose := rise }
    let s5 := ((s4.waferMax).aoiSample aoi).tellBlind f
    let hot := if s5.blind f then (ins.find? (fun i => decide (500 ≤ s5.tempOf f i)))
      else s5.pairWith f (fun i => decide (500 ≤ s5.tempOf f i)) (fun i => decide (420 ≤ s5.tempOf f i))
    let s6 := match hot with
      | some i => s5.absoluteTrip f i (s5.rf .fstTempReading (36 * f + i))
      | none => s5
    match (List.range 36).find? (fun i => (rise &&& x.rose).testBit i) with
    | some i => s6.riseTrip f i (s6.rf .fstTempReading (36 * f + i))
    | none => s6

/-- OVER_TEMP_LINE (R298, R301). DEDUCED: log entry 80. -/
def State.overTemp (s : State) (f i : Nat) : State :=
  if s.monIn f 0 i then s.absoluteTrip f i (s.rf .fstTempReading (36 * f + i)) else s

/-- THERMAL_HOLD_END (R304). -/
def State.holdEnd (s : State) : State :=
  if s.rf .kprMonStatusHold 0 = 1 ∧ s.mon.holdAt + 10000 ≤ s.now ∧ s.monFields.all (fun f => decide (10 ≤ (s.monField f).calm)) = true then
    s.endHold
  else s

/-- HOLD_MAX_EXPIRY (R304): the hold becomes an absolute trip, named by the sensor behind the hold. DEDUCED: log entry 80. -/
def State.holdExpiry (s : State) : State :=
  if s.rf .kprMonStatusHold 0 = 1 ∧ s.mon.holdAt + 1000 * Nat.max 20 (s.rf .kprMonCtrlHoldMaxMs 0) ≤ s.now then
    s.endHold.absoluteTrip s.mon.holdSrc.1 s.mon.holdSrc.2.1 s.mon.holdSrc.2.2
  else s

/-! ### Droop (R298, R299, R306) -/

/-- One detector's latches of this tick, and the judgement of its events over 10,000 ticks. -/
def State.droopOne (s : State) (f i : Nat) (w d : Bool) : State :=
  let k := sensorKey f 1 i
  if s.monIn f 1 i then
    let m := s.monitor k
    let ev := ((if w then [s.now] else []) ++ (if d then [s.now] else []) ++ m.events).filter (fun t => decide (s.now < t + 10000))
    let s1 := if w then ({ (s.bump .fstDroopEventsEvents f .fstMonStatusCountSat f 1) with hz := { s.hz with warn := (s.now, k.unit) :: s.hz.warn } }).sample
        10 (locStation f) [.log] else s
    let s2 := if d then
        (({ (s1.bump .fstDroopDeepEvents f .fstMonStatusCountSat f 1) with hz := { s1.hz with deep := (s1.now, k.unit) :: s1.hz.deep } }).put
          .fstMonStatusDroopDeepSeen f 1).sample 10 (locStation f) [.log]
      else s1
    let others := (List.range 8).filter (fun j => decide (j ≠ i) && s2.monIn f 1 j)
    let quiet := others.all (fun j => (s2.monitor (sensorKey f 1 j)).events.all (fun t => decide (t + 10000 ≤ s2.now)))
    s2.disagree f k { m with events := ev } (decide (4 ≤ others.length) && decide (100 ≤ ev.length) && quiet)
  else s

/-- DROOP_LATCH_SAMPLE: a deep latch latches warning as well; DROOP_DEEP is told at most once a second. DEDUCED: log entry 81. -/
def State.droopSample (s : State) (f warning deep : Nat) : State :=
  if s.stationUp (toFin32 f) then
    let s1 := (List.range 8).foldl (fun t i => t.droopOne f i (warning.testBit i || deep.testBit i) (deep.testBit i)) s
    let x := s1.monField f
    if (List.range 8).any (fun i => deep.testBit i && s1.monIn f 1 i) && x.deepAt.all (fun t => decide (t + 1000000 ≤ s1.now)) then
      (s1.setMonField f { x with deepAt := some s1.now }).sample 10 (locStation f) [evNotice 10 f 0 0x18 0 f]
    else s1
  else s

/-! ### Ring oscillators (R299, R307) -/

/-- Distance squared from ring oscillator j's corner of the field to thermal sensor i. -/
def cornerDist (j i : Nat) : Nat :=
  let r := if j < 2 then i / 6 else 5 - i / 6
  let c := if j % 2 = 0 then i % 6 else 5 - i % 6
  r * r + c * c

/-- The reading of the nearest thermal sensor in service. DEDUCED: log entry 81. -/
def State.nearestTemp (s : State) (f j : Nat) : Int :=
  (((List.range 36).filter (s.monIn f 0)).foldl (fun (acc : Option Nat) i => match acc with
    | none => some i
    | some a => if cornerDist j i < cornerDist j a then some i else some a) none).elim 0 (s.tempOf f)

/-- RATIO of a count: corrected to 85 °C, over the fused baseline, in units of 1/32,768 (R307). DESIGN CHOICE: log entry 81. -/
def State.ringRatio (s : State) (f j count : Nat) : Nat :=
  Nat.min 0xFFFF (Config.ringCorrected (4 * f + j) count (s.nearestTemp f j) * 32768 / Config.ringBaseline (4 * f + j))

/-- RING_OSCILLATOR_COUNT: the ratios, the field's slowdown, the cross-check, and AGING once it exceeds 3 %. DEDUCED: log entry 81. -/
def State.ringCount (s : State) (f : Nat) (counts : List (BitVec 32)) : State :=
  if s.domState (.station (toFin32 f)) = 2 ∨ s.dropped f = true then s
  else
    let s1 := (List.range 4).foldl (fun t j => match counts[j]? with
      | some v => t.put .fstRoRatioRatio (4 * f + j) (s.ringRatio f j v.toNat)
      | none => t) s
    let ratio := fun j => (s1.rf .fstRoRatioRatio (4 * f + j) : Int)
    let ins := (List.range 4).filter (s1.monIn f 2)
    let med := median2 (ins.map ratio)
    let slow := if ins.isEmpty ∨ 65536 ≤ med then 0 else ((65536 - med) / 2).toNat
    let s2 := s1.put .fstMonStatusSlowdown f slow
    let judged := if s.retesting f then List.range 4 else ins
    let s3 := judged.foldl (fun t j =>
      let o := (ins.filter (fun i => decide (i ≠ j))).map ratio
      let m := median2 o
      t.disagree f (sensorKey f 2 j) (t.monitor (sensorKey f 2 j))
        (decide (2 ≤ o.length) && decide (m < 50 * ((2 * ratio j - m).natAbs : Int)))) s2
    let x := s3.monField f
    if 3 * 32768 < 100 * slow ∧ x.aged = false then
      (s3.setMonField f { x with aged := true }).sample 10 (locStation f) [evNotice 10 f 0 0x19 0 (pack [(0, 8, f), (16, 16, slow)])]
    else s3

/-! ### Power and drift (R308, R309, R471) -/

def meanMw (l : List (Nat × Nat)) : Nat := if l.isEmpty then 0 else 1000 * (l.map (fun x => x.2)).foldl (· + ·) 0 / l.length

/-- The 10,000-tick average of wafer power, milliwatts. -/
def State.averageMw (s : State) : Nat := 45000 + ((List.range 32).map (fun f => meanMw (s.monField f).power)).foldl (· + ·) 0
def State.capMw (s : State) : Nat := 10000 * s.cap

/-- The average against the cap: screening is shed, or comes back after 100,000 ticks 5 % below the cap. DEDUCED: log entry 81. -/
def State.powerCheck (s : State) : State :=
  let avg := s.averageMw
  match s.mon.shedAt with
  | none =>
    if s.capMw < avg then
      let s1 := ({ s with mon := { s.mon with shedAt := some s.now, underAt := none, capTold := false } }).put .kprMonStatusOverCap 0 1
      State.shedReplay 192 s1
    else s
  | some _ =>
    if 100 * avg ≤ 95 * s.capMw then
      match s.mon.underAt with
      | none => { s with mon := { s.mon with underAt := some s.now } }
      | some t => if t + 100000 ≤ s.now then { s with mon := { s.mon with shedAt := none, underAt := none } } else s
    else { s with mon := { s.mon with underAt := none } }

def State.addPower (s : State) (f w : Nat) : State :=
  let x := s.monField f
  (s.setMonField f { x with power := ((s.now, w) :: x.power).filter (fun p => decide (s.now < p.1 + 10000)) }).powerCheck

/-- POWER_SAMPLE_MISSING (R471): after 300 ticks, the field's highest sample of the last 10,000 ticks. DESIGN CHOICE: log entry 81. -/
def State.powerMissing (s : State) (f : Nat) : State :=
  match (s.monField f).power with
  | [] => s
  | p :: l =>
    if p.1 + 300 ≤ s.now then
      let recent := l.filter (fun x => decide (s.now < x.1 + 10000))
      s.addPower f ((recent.map (fun x => x.2)).foldl Nat.max p.2)
    else s

/-- POWER_CAP_ESCALATE (R308). -/
def State.powerEscalate (s : State) : State :=
  match s.mon.shedAt with
  | some t =>
    if t + 100000 ≤ s.now ∧ s.mon.capTold = false ∧ s.capMw < s.averageMw then
      ({ s with mon := { s.mon with capTold := true } }).sample 10 locKeeper [evNotice 10 32 0 0x1A 0 (s.averageMw / 1000 % 2 ^ 32)]
    else s
  | none => s

/-- OSC_DRIFT_CHECK (R309): ticks against the WTC over 1,000,000 ticks, while SYNCED. -/
def State.driftCheck (s : State) : State :=
  if s.mon.driftTick + 1000000 ≤ s.now then
    let span : Int := 1000 * (s.now - s.mon.driftTick : Nat)
    let diff : Int := ((s.wtc : Int) - s.mon.driftWtc - span) * 1000000 / span
    let s1 := { s with mon := { s.mon with driftTick := s.now, driftWtc := s.wtc } }
    if (s.rf .kprWtcStatusSynced 0 = 1 ∨ s.rf .kprWtcCtrlRoot 0 = 1) ∧ 200 < diff.natAbs then
      (s1.put .kprMonStatusOscDrift 0 1).sample 10 locKeeper [evNotice 10 32 0 0x1B 0 (ofInt 32 diff)]
    else s1
  else s

/-- The fuse write window (R311). -/
def State.fuseOpen (s : State) : Bool :=
  decide (s.rf .kprMonStatusFlashWindow 0 = 1) && !s.events.any (fun e => decide (e.cls = 1)) &&
  decide (60 ≤ s.aoiTemp ∧ s.aoiTemp ≤ 180) &&
  s.monFields.all (fun f => ((List.range 36).filter (s.monIn f 0)).all (fun i => decide (60 ≤ s.tempOf f i ∧ s.tempOf f i ≤ 180))) &&
  decide (s.domState .compute = 2) && !s.launch.running

/-! ### Rows -/

/-- THERMAL_SAMPLE (R297). -/
def execThermalSample (f : Fin 32) (readings : List (BitVec 11)) (aoi : BitVec 11) (s : State) : Host.Outcome State Fault Refusal :=
  .next (s.thermalSample f.val readings aoi.toNat)

/-- OVER_TEMP_LINE (R298). -/
def execOverTempLine (f : Fin 32) (sensor : Fin 36) (s : State) : Host.Outcome State Fault Refusal := .next (s.overTemp f.val sensor.val)

/-- THERMAL_HOLD_END (R304). -/
def execThermalHoldEnd (s : State) : Host.Outcome State Fault Refusal := .next s.holdEnd

/-- HOLD_MAX_EXPIRY (R304). -/
def execHoldMaxExpiry (s : State) : Host.Outcome State Fault Refusal := .next s.holdExpiry

/-- DROOP_LATCH_SAMPLE (R306). -/
def execDroopLatchSample (f : Fin 32) (warning deep : BitVec 8) (s : State) : Host.Outcome State Fault Refusal :=
  .next (s.droopSample f.val warning.toNat deep.toNat)

/-- RING_OSCILLATOR_COUNT (R307). -/
def execRingOscillatorCount (f : Fin 32) (counts : List (BitVec 32)) (s : State) : Host.Outcome State Fault Refusal :=
  .next (s.ringCount f.val counts)

/-- POWER_SAMPLE (R471). -/
def execPowerSample (f : Fin 32) (watts : Nat) (s : State) : Host.Outcome State Fault Refusal := .next (s.addPower f.val watts)

/-- POWER_SAMPLE_MISSING (R471). -/
def execPowerSampleMissing (f : Fin 32) (s : State) : Host.Outcome State Fault Refusal := .next (s.powerMissing f.val)

/-- POWER_CAP_ESCALATE (R308). -/
def execPowerCapEscalate (s : State) : Host.Outcome State Fault Refusal := .next s.powerEscalate

/-- OSC_DRIFT_CHECK (R309). -/
def execOscDriftCheck (s : State) : Host.Outcome State Fault Refusal := .next s.driftCheck

end Sys2Proof.Machine
end

