-- ==== Sys2Proof/Machine/Scrub.lean ====
section
/-! DEFINITION. The resident scrub: passes, visits, records, and the DIRTY bits of resident blocks
(05_digests.md R157 to R162). -/

namespace Sys2Proof.Machine

/-! ### Tables (R157, R167, R173) -/

/-- The Resident Digest Table that stands in a tile's SRAM at TSN_RDT_BASE: none if its VERSION or ENTRIES is out of range. DEDUCED: log entry 69. -/
def State.readTable (s : State) (t : Nat) : Option ResidentTable :=
  let base := s.rf .tsnRdtBaseBase t
  let n := s.sramBytes t (base + 2) 2 % 512
  if s.sramBytes t base 1 = 1 ∧ n ≤ 384 then
    some {
      base := base, seed := s.sramBytes t (base + 8) 8 % 2 ^ 61
      windows := (List.range (s.sramBytes t (base + 1) 1 % 16)).map (fun w =>
        (s.sramBytes t (base + 16 + 8 * w) 4, s.sramBytes t (base + 20 + 8 * w) 4))
      entries := (List.range n).map (fun e => (s.sramBytes t (base + 152 + 16 * e) 2 % 512, s.sramBytes t (base + 154 + 16 * e) 1 % 16)) }
  else none

/-- The Test Window Table at TSN_TW_BASE: none if its VERSION or COUNT is out of range or SAVE_ADDR is not 2 KiB aligned. -/
def State.readWindows (s : State) (t : Nat) : Option WindowTable :=
  let base := s.rf .tsnTwBaseBase t
  let n := s.sramBytes t (base + 1) 1 % 16
  let save := s.sramBytes t (base + 4) 4 % 2 ^ 17
  if s.sramBytes t base 1 = 1 ∧ 1 ≤ n ∧ n ≤ 8 ∧ save % 2048 = 0 then
    some ⟨save, (List.range n).map (fun w => (s.sramBytes t (base + 8 + 8 * w) 4, s.sramBytes t (base + 12 + 8 * w) 4))⟩
  else none

/-- Tiles whose base register says that they hold a table. -/
def State.tilesWith (s : State) (F : RF) : List Nat :=
  (s.regs.filter (fun e => decide (e.1 % 512 = F.ctorIdx ∧ e.2 ≠ 0))).map (fun e => e.1 / 512)

/-- At a launch each Sentinel loads its tables; one that is not used is told of (R158, R167, R173). Every block that is not frozen is
DIRTY. DEDUCED: log entry 69. -/
def State.loadTables (s : State) : State :=
  let s1 := (s.tilesWith .tsnRdtBaseValid).foldl (fun u t => match u.readTable t with
    | some x => { u with tables := Tab.set (fun _ => none) u.tables t (some x) }
    | none => u.sample 10 (locStation (tileField t)) [evNotice 3 (tileField t) t 0x0F 0 t]) { s with tables := [], winTabs := [], sealed := [] }
  (s1.tilesWith .tsnTwBaseValid).foldl (fun u t => match u.readWindows t with
    | some x => { u with winTabs := Tab.set (fun _ => none) u.winTabs t (some x) }
    | none => u.sample 10 (locStation (tileField t)) [evNotice 4 (tileField t) t 0x10 0 t]) s1

def State.residentTable (s : State) (t : Nat) : Option ResidentTable := Tab.get (fun _ => none) s.tables t

/-! ### Blocks (R157, R158) -/

/-- A stream position lies inside a window (R157). -/
def insideWindow (w : Nat × Nat) (q : Nat) : Bool :=
  if w.1 < w.2 then decide (w.1 ≤ q ∧ q < w.2) else if w.2 < w.1 then decide (w.1 ≤ q ∨ q < w.2) else false

/-- The entry (BLOCK, WINDOW) is frozen, or its block is inside its window at position q. -/
def isFrozen (e : Nat × Nat) : Bool := decide (e.2 = 15)
def blockOpen (tb : ResidentTable) (e : Nat × Nat) (q : Nat) : Bool :=
  !isFrozen e && (match tb.windows[e.2]? with | some w => insideWindow w q | none => false)

/-- DIRTY of a block: set until a visit seals it (R158). DEDUCED: log entry 69. -/
def State.isSealed (s : State) (t b : Nat) : Bool := Tab.get (fun _ => false) s.sealed (384 * t + b)
/-- DEDUCED: log entry 69. -/
def State.setSealed (s : State) (t b : Nat) (v : Bool) : State :=
  { s with sealed := Tab.set (fun _ => false) s.sealed (384 * t + b) v }

/-- The digest of a block: PLD-61 over its 64 words in the word view under the table's seed (R133, R134, R157). -/
def State.blockDigest (s : State) (t seed b : Nat) : Nat :=
  let v := if seed % p61 ≤ 1 then 2 else seed % p61
  (lineSum v 0 (s.sramLine t (2 * b)) + lineSum v 1 (s.sramLine t (2 * b + 1))) % p61

/-- DIGEST of an entry as it stands in the table, and written there. -/
def State.storedDigest (s : State) (t : Nat) (tb : ResidentTable) (e : Nat) : Nat := s.sramBytes t (tb.base + 144 + 16 * e) 8
/-- DEDUCED: log entry 69. -/
def State.writeDigest (s : State) (t : Nat) (tb : ResidentTable) (e d : Nat) : State :=
  let a := tb.base + 144 + 16 * e
  let old := s.sramLine t (a / 128)
  if a / 128 < 768 then s.setSram t (a / 128) (old ^^^ (bits old (8 * (a % 128)) 64 ^^^ d) <<< (8 * (a % 128))) else s

/-- TILE_SRAM_WRITE (R100, R158): an in-window write of a resident block makes it DIRTY; a capture sends a line not yet taken first. -/
def State.tileWrite (s : State) (t line data q : Nat) : State :=
  let b := line / 2
  let s1 := match s.residentTable t with
    | some tb => if tb.entries.any (fun e => decide (e.1 = b) && blockOpen tb e q) then s.setSealed t b false else s
    | none => s
  (s1.captureWrite t line data).setSram t line data

/-! ### Turns and passes (R160, R162) -/

/-- PERIOD_S as it takes effect, in ticks. -/
def State.scrubPeriod (s : State) (f : Nat) : Nat := 1000000 * clamp 1 3600 (s.rf .fstScrubCtrlPeriodS f)

/-- The tile is skipped in the pass: under self-test, in a rotation or a fill, or under an episode's capture (R162). -/
def State.scrubBusy (s : State) (l : Nat) : Bool :=
  let t := s.serving l
  (s.tile t).underTest || s.regrows.any (fun r => decide (r.logical = l)) ||
  s.episodes.any (fun e => decide (e.tile = t ∧ 1 ≤ e.phase) && !e.cap.done) || s.scrubs.any (fun v => decide (v.tile = t))

def lOfEll (f n : Nat) : Nat := tileId f (n / 116) (n % 116)

/-- The next tile of the pass: the first at or after the position that is in service and not skipped. DEDUCED: log entry 70. -/
def State.scrubNextOf (s : State) (f : Nat) : Option Nat :=
  (List.range (13920 - (s.field f).scrubPos)).findSome? (fun i =>
    let l := lOfEll f ((s.field f).scrubPos + i)
    if s.served l && !s.scrubBusy l then some l else none)

def State.scrubWants (s : State) (f : Nat) : Bool :=
  s.fnOn (.fieldScrub (toFin32 f)) && (s.field f).scrubOn && s.stationUp (toFin32 f) && (s.scrubNextOf f).isSome

/-- The field whose turn is next. DEDUCED: log entry 70. -/
def State.scrubTurn (s : State) : Option Nat :=
  (List.range 32).findSome? (fun i => if s.scrubWants ((s.scrubNext + i) % 32) then some ((s.scrubNext + i) % 32) else none)

def State.scrubActive (s : State) (f : Nat) : Nat := (s.scrubs.filter (fun v => decide (tileField v.tile = f))).length
def State.showScrub (s : State) (f : Nat) : State := s.put .fstScrubStatusActive f (s.scrubActive f)

def State.beginPass (s : State) (f : Nat) : State :=
  s.setField f { s.field f with scrubOn := true, scrubPos := 0, scrubAt := s.now }

/-- A pass with no tile left and no visit in progress ends; one that is due follows it. -/
def State.passEnd (s : State) (f : Nat) : State :=
  if (s.field f).scrubOn = true ∧ s.scrubNextOf f = none ∧ s.scrubActive f = 0 then
    let s1 := (s.setField f { s.field f with scrubOn := false, scrubEnd := some s.now }).bump .fstScrubPassesPasses f .fstScrubStatusCountSat f 1
    if (s1.field f).scrubAt + s1.scrubPeriod f ≤ s1.now ∧ s1.fnOn (.fieldScrub (toFin32 f)) = true then s1.beginPass f else s1
  else s

/-- SCRUB_PASS_START (R160). DEDUCED: log entry 70. -/
def State.passStart (s : State) (f : Nat) : State :=
  if s.fnOn (.fieldScrub (toFin32 f)) && s.stationUp (toFin32 f) && decide ((s.field f).scrubAt + s.scrubPeriod f ≤ s.now) then
    let s1 := if s.scrubUw < 4000 then s.put .fstScrubStatusScrubLate f 1 else s
    if (s1.field f).scrubOn then s1.put .fstScrubStatusScrubLate f 1 else (s1.beginPass f).passEnd f
  else s

/-! ### Visits (R159) -/

/-- The record of a failed check (R161). -/
def scrubRecord (t block q stored computed : Nat) (frozen : Bool) : Nat :=
  withCrc16 30 (pack [(0, 4, 1), (4, 4, 1), (8, 1, bit frozen), (16, 9, block), (32, 19, t), (64, 64, stored), (128, 64, computed), (192, 32, q)])

/-- The port of a tile's SRAM is held by a snapshot, a capture, a replay's load or readout, or a transplant. -/
def State.portHeld (s : State) (t : Nat) : Bool :=
  s.transfers.any (fun x => decide (x.tile = t)) || s.regrows.any (fun r => r.filling && decide (r.target = some t))

/-- One entry is treated (R159): skipped inside its window; resealed if DIRTY; checked otherwise. -/
def State.scrubEntry (s : State) (t q : Nat) (tb : ResidentTable) (e : Nat) : State :=
  match tb.entries[e]? with
  | some x =>
    if blockOpen tb x q then s
    else
      let d := s.blockDigest t tb.seed x.1
      let stored := s.storedDigest t tb e
      if !isFrozen x && !s.isSealed t x.1 then (s.writeDigest t tb e d).setSealed t x.1 true
      else if stored = d then s
      else s.sendRecord t (scrubRecord t x.1 q stored d (isFrozen x))
  | none => s

/-- A visit takes its table's entries in order, so many of them, unless another holds the port (R159). -/
def State.scrubRun : Nat → State → Nat → Nat → State
  | 0, s, _, _ => s
  | n + 1, s, t, q =>
    if s.portHeld t then s
    else match s.scrubs.find? (fun v => decide (v.tile = t)), s.residentTable t with
      | some v, some tb =>
        match v.left with
        | e :: r => State.scrubRun n (State.scrubEntry { s with scrubs := s.scrubs.map (fun (x : ScrubVisit) => if x.tile = t then { tile := t, left := r } else x) } t q tb e) t q
        | [] => s
      | _, _ => s

/-- SCRUB_VISIT_START: the turn goes to the tile named, if it is the next of the field whose turn it is and the share
holds another 4 mW. Its visit takes entries until its port is wanted. -/
def State.scrubStart (s : State) (t count q : Nat) : State :=
  let f := tileField t
  if s.scrubTurn = some f ∧ (s.scrubNextOf f).map s.serving = some t ∧ s.scrubs.length < s.scrubUw / 4000 then
    let left := match s.residentTable t with | some x => List.range x.entries.length | none => []
    let s2 := s.setTile t { s.tile t with scrubPrev := s.rf .tsnScrubLastWtcWtc t }
    let s3 := (s2.put .tsnScrubLastWtcWtc t s2.wtc).setField f { s2.field f with
      scrubPos := ellOf ((s.logicalOf t).getD 0) + 1 }
    State.scrubRun count ({ s3 with scrubNext := (f + 1) % 32, scrubs := s3.scrubs ++ [({ tile := t, left := left } : ScrubVisit)] }.showScrub f) t q
  else s

/-- A visit is over. -/
def State.dropScrub (s : State) (t : Nat) : State :=
  (({ s with scrubs := s.scrubs.filter (fun v => decide (v.tile ≠ t)) }).showScrub (tileField t)).passEnd (tileField t)

/-- SCRUB_VISIT_END (R160): every entry has been treated. -/
def State.scrubEnd (s : State) (t : Nat) : State :=
  if s.scrubs.any (fun v => decide (v.tile = t ∧ v.left = [])) then s.dropScrub t else s

/-- The tick's work: with less power the latest visits end at once (R33), and the time for which the share holds 4 mW is noted (R160).
DEDUCED: log entry 70. -/
def State.scrubTick (s : State) : State :=
  let s1 := (s.scrubs.drop (s.scrubUw / 4000)).foldl (fun t v => t.dropScrub v.tile) s
  let fed := decide (4000 ≤ s1.scrubUw)
  (List.range 32).foldl (fun t f => if (t.field f).scrubFed = fed then t else t.setField f { t.field f with scrubFed := fed }) s1

/-- SCRUB_RECORD_ARRIVAL (R161): the detection, the voiding of copies since the previous visit, the event to firmware. -/
def State.scrubArrival (s : State) (f rec : Nat) : State :=
  if recordOk rec 30 then
    let t := bits rec 32 19
    (s.bump .fstScrubMismatchMismatches f .fstScrubStatusCountSat f 1).sample 5 (locTile t)
      [.detect (tileKey t) 0x006 2, .void (s.tile t).scrubPrev, .post 3 f t 32 rec false]
  else s.put .fstScrubStatusRecordCrc f 1

/-! ### Rows -/

/-- SCRUB_PASS_START (R160). -/
def execScrubPassStart (f : Fin 32) (s : State) : Host.Outcome State Fault Refusal := .next (s.passStart f.val)

/-- SCRUB_VISIT_START (R159): with the entries that it treats before its port is wanted. -/
def execScrubVisitStart (tile count : Nat) (streamPos : BitVec 32) (s : State) : Host.Outcome State Fault Refusal :=
  onTile tile s (s.scrubStart tile count streamPos.toNat)

/-- SCRUB_VISIT_RESUME (R159): the visit goes on at the entry where it stopped. -/
def execScrubVisitResume (tile entry count : Nat) (streamPos : BitVec 32) (s : State) : Host.Outcome State Fault Refusal :=
  onTile tile s (if s.scrubs.any (fun v => decide (v.tile = tile ∧ v.left.head? = some entry)) then State.scrubRun count s tile streamPos.toNat else s)

/-- SCRUB_VISIT_END (R160). -/
def execScrubVisitEnd (tile : Nat) (s : State) : Host.Outcome State Fault Refusal := onTile tile s (s.scrubEnd tile)

/-- SCRUB_RECORD_ARRIVAL (R161). -/
def execScrubRecordArrival (f : Fin 32) (record : BitVec 256) (s : State) : Host.Outcome State Fault Refusal :=
  .next (s.scrubArrival f.val record.toNat)

/-- TILE_SRAM_WRITE (R158). -/
def execTileSramWrite (tile : Nat) (write : LineWrite) (streamPos : BitVec 32) (s : State) : Host.Outcome State Fault Refusal :=
  onTile tile s (s.tileWrite tile write.line.val write.data.toNat streamPos.toNat)

end Sys2Proof.Machine
end

