-- ==== Sys2Proof/Machine/Hazard.lean ====
section
/-! DEFINITION. The hazard index, the Escape Account, the Screening Allowance writes and the engine ID (10_sensors.md R312 to
R314; 16_register_map.md R461, R463, R465 to R467). -/

namespace Sys2Proof.Machine

/-! ### Hazard index (R312, R313, R465) -/

/-- Droop events of monitors in service within a span of ticks. -/
def State.droopsIn (s : State) (l : List (Nat × Nat)) (span : Nat) : Nat :=
  (l.filter (fun e => decide (s.now < e.1 + span) && !s.unitOut ⟨kindSensor, e.2, 0⟩)).length

/-- The highest positive RATE of any in-service sensor. -/
def State.maxRate (s : State) : Nat :=
  s.monFields.foldl (fun m f => ((List.range 36).filter (s.monIn f 0)).foldl (fun a i => Nat.max a (s.rateOf f i).toNat) m) 0

/-- The five terms. DEDUCED: log entry 82. -/
def State.hazardTerms (s : State) : List Nat :=
  let ce := (s.hz.ce.filter (fun t => decide (s.now < t + 1000000))).length
  let det := (s.hz.dets.filter (fun e => decide (s.now < e.1 + 3600000000))).length
  [Nat.min 64 (ce / 16), Nat.min 64 (4 * s.droopsIn s.hz.warn 100000 + 16 * s.droopsIn s.hz.deep 100000),
   Nat.min 128 (96 * s.maxRate / s.riseTripAt), Nat.min 96 (24 * det),
   if s.hz.partnerAt.any (fun t => decide (s.now < t + 10000000)) then 64 else 0]

def State.hzSecure (s : State) : Nat := Nat.max 1 (s.rf .kprHazardHzSecure 0)
def State.hzCroak (s : State) : Nat := Nat.max 1 (s.rf .kprHazardHzCroak 0)

/-- HAZARD_COMPUTE: the index, its peak, a rise for securing (R234), and the notice when it crosses a threshold. What the
terms and the Escape Account no longer need is forgotten. -/
def State.hazardCompute (s : State) : State :=
  if s.now < s.mon.hzAt + 1000 ∨ s.keeperUp = false then s
  else
    let ts := s.hazardTerms
    let t := fun i => ts.getD i 0
    let h := Nat.min 255 (t 0 + t 1 + t 2 + t 3 + t 4)
    let above := bit (decide (s.hzSecure ≤ h)) + 2 * bit (decide (s.hzCroak ≤ h))
    let old := s.mon.hzAbove
    let s1 := s.puts [(.kprHazardH, 0, h), (.kprHazardPeak, 0, Nat.max h (s.rf .kprHazardPeak 0)), (.kprHazardTermsCe, 0, t 0),
      (.kprHazardTermsDroop, 0, t 1), (.kprHazardTermsRise, 0, t 2), (.kprHazardTermsDetect, 0, t 3), (.kprHazardTermsPartner, 0, t 4)]
    let s2 := { s1 with
      mon := { s1.mon with hzAt := s1.now, hzAbove := above }
      sec := if above % 2 = 1 ∧ old % 2 = 0 then { s1.sec with hazRise := true } else s1.sec
      hz := { s1.hz with
        ce := s1.hz.ce.filter (fun x => decide (s.now < x + 1000000))
        warn := s1.hz.warn.filter (fun x => decide (s.now < x.1 + 100000))
        deep := s1.hz.deep.filter (fun x => decide (s.now < x.1 + 2000000))
        dets := s1.hz.dets.filter (fun x => decide (s.now < x.1 + histWindow)) } }
    if above ≠ old then
      s2.sample 10 locKeeper [evNotice 10 32 0 0x1C above
        (pack [(0, 8, h), (8, 8, t 0), (16, 8, t 1), (24, 8, t 2), (32, 8, t 3), (40, 8, t 4)])]
    else s2

/-! ### Escape Account (R314, R466) -/

/-- Compute time of the last 720 hours, ticks. -/
def State.spanTicks (s : State) : Nat :=
  (s.mon.spans.map (fun p => p.2 - Nat.max p.1 (s.now - histWindow))).foldl (· + ·) 0

/-- 1,000-tick periods of the last 1,000,000 ticks with a deep droop event in the field. DEDUCED: log entry 82. -/
def State.deepPeriods (s : State) (f : Nat) : Nat :=
  (dedup ((s.hz.deep.filter (fun e => decide (e.2 / 2 ^ 14 = f ∧ s.now < e.1 + 1000000))).map (fun e => e.1 / 1000))).length

/-- λ_f, per wafer-hour. DEDUCED: log entry 82. -/
def State.lambdaOf (s : State) (f : Nat) : Rat :=
  let prior : Rat := (s.rf .kprEscapePriorLambda0 0 : Rat) / 1000000000 * (s.inService f : Rat) / (s.nService : Rat)
  let d := (s.hz.dets.filter (fun e => decide (e.2 = f ∧ s.now < e.1 + histWindow))).length
  let seen : Rat := (d : Rat) * 3600000000 / (s.spanTicks : Rat)
  let age : Rat := min 2 (1 + 20 * (s.rf .fstMonStatusSlowdown f : Rat) / 32768)
  max prior seen * age * ((1000 + s.deepPeriods f : Nat) : Rat) / 1000

/-- c_rep,f and c_scr,f. -/
def State.replayCover (s : State) (f : Nat) : Rat :=
  if (s.field f).verdictsAt.any (fun t => decide (s.now < t + 1000000)) then 1 - ((s.field f).armed.length : Rat) / (s.inService f : Rat) else 0

def State.scrubCover (s : State) (f : Nat) : Rat :=
  if (s.field f).scrubEnd.any (fun t => decide (s.now ≤ t + s.scrubPeriod f)) && (s.field f).scrubFed then 1 else 0

/-- The estimate E, per wafer-hour. -/
def State.escapeEstimate (s : State) : Rat :=
  let reach : RF → Rat := fun F => (s.rf F 0 : Rat) / 65536
  let tap : Rat := 1 - reach .kprEscapeCfgATap * (s.rf .kprTapCoverFraction 0 : Rat) / 4096
  ((List.range 32).filter (fun f => !s.dropped f)).foldl (fun e f =>
    e + s.lambdaOf f * tap * (1 - reach .kprEscapeCfgARep * s.replayCover f) * (1 - reach .kprEscapeCfgAScr * s.scrubCover f)) 0

/-- ESCAPE_ACCOUNT_UPDATE: once every second of compute time; ESTIMATE is E rounded to the nearest unit. DEDUCED (log entry 17) from the
worked example, which reads 13,143 for 1.31428 × 10⁻⁸. DEDUCED: log entry 17. -/
def State.escapeUpdate (s : State) : State :=
  if s.mon.escLast + 1000000 ≤ s.mon.escTicks then
    let v := Nat.min 0xFFFFFFFF (s.escapeEstimate * 1000000000000 + 1 / 2).floor.toNat
    let s1 := ({ s with mon := { s.mon with
        escLast := s.mon.escTicks, spans := s.mon.spans.filter (fun p => decide (s.now < p.2 + histWindow)) } }).puts
      [(.kprEscapeEstimate, 0, v), (.kprEscapeAboveGoal, 0, bit (decide (200000 < v)))]
    if 200000 < v then s1.put .kprEscapeAboveSeen 0 1 else s1
  else s

/-- A tick of compute time: a launch runs and the tile clocks run (R314, R466). -/
def State.computeTick (s : State) : State :=
  if s.launch.running = true ∧ s.rf .kprMonStatusHold 0 = 0 ∧ s.rf .kprMonStatusTripped 0 = 0 then
    let spans := match s.mon.spans with
      | p :: t => if p.2 + 1 = s.now then (p.1, s.now) :: t else (s.now - 1, s.now) :: p :: t
      | [] => [(s.now - 1, s.now)]
    ({ s with mon := { s.mon with escTicks := s.mon.escTicks + 1, spans := spans } }).put .kprEscapeTimeComputeMs 0 ((s.mon.escTicks + 1) / 1000)
  else s

/-! ### Screening Allowance and engine ID (R461, R463) -/

/-- The register field of R463 that a write names. -/
def allowanceField : AllowanceReg → RF
  | .allowance => .kprAllowanceSet
  | .scrubShare => .kprSharesScrub
  | .replayShare => .kprSharesReplay
  | .selfTestShare => .kprStCtrlShare
  | .startup => .kprStCtrlStartup

/-- The allowance and shares as written come into force: at the tick after the write (R34, R463). DEDUCED: log entry 82. -/
def State.takeAllowance (s : State) : State :=
  let s1 := { s with shares := { scrub := s.rf .kprSharesScrub 0, replay := s.rf .kprSharesReplay 0, test := s.rf .kprStCtrlShare 0,
                                 startup := s.rf .kprStCtrlStartup 0 } }
  s1.put .kprAllowanceInForce 0 s1.effAllowance

/-- KPR_ENGINE_WRITE: refused while a launch runs or a holder or client is held. -/
def State.engineWrite (s : State) (e : Nat) : State :=
  if s.launch.running = true ∨ s.rf .kprSecPairHolderValid 0 = 1 ∨ s.rf .kprSecPairClientValid 0 = 1 then s.accessErr
  else
    let s1 := s.put .kprEngineEngine 0 e
    { (s1.put .kprEngineValid 0 (bit s1.engineValid)) with identDue := true }

/-! ### Rows -/

/-- HAZARD_COMPUTE (R312). -/
def execHazardCompute (s : State) : Host.Outcome State Fault Refusal := .next s.hazardCompute

/-- ESCAPE_ACCOUNT_UPDATE (R466). -/
def execEscapeAccountUpdate (s : State) : Host.Outcome State Fault Refusal := .next s.escapeUpdate

/-- KPR_ALLOWANCE_WRITE (R463). -/
def execKprAllowanceWrite (which : AllowanceReg) (value : BitVec 12) (s : State) : Host.Outcome State Fault Refusal :=
  .next (s.put (allowanceField which) 0 value.toNat)

/-- KPR_ENGINE_WRITE (R461). -/
def execKprEngineWrite (engine : BitVec 15) (s : State) : Host.Outcome State Fault Refusal :=
  .next (s.engineWrite engine.toNat)

end Sys2Proof.Machine
end

