-- ==== Sys2Proof/Machine/Ledger.lean ====
section
/-! DEFINITION. Ledger commands, the age check, rebuilding lost entries, and the history region in the ledger flash
(02_units_and_ledger.md R43, R48 to R54, R59 to R64, R481; 14_host_port_ndoquel.md R403 to R407). -/

namespace Sys2Proof.Machine

/-! ### Flash write window (R310) -/

/-- The flash write window is open. -/
def State.flashOpen (s : State) : Bool := decide (s.rf .kprMonStatusFlashWindow 0 = 1) && !s.events.any (fun e => decide (e.cls = 1))

/-! ### The history region (R61, R481) -/

/-- A history record as its 128 bytes (R62). -/
def recBytes (r : HistRec) : Nat :=
  withCrc32 124 (pack [(0, 8, 1), (8, 4, r.key.kind), (16, 4, r.key.sub), (24, 3, r.state), (27, 3, r.origin), (30, 2, r.retest),
    (32, 19, r.key.unit), (64, 32, r.seq), (96, 16, r.detections), (112, 16, r.evidence), (128, 64, r.firstSeen),
    (192, 64, r.lastSeen), (256, 512, r.recent.foldr (fun t acc => t % 2 ^ 64 ||| acc <<< 64) 0), (768, 3, r.recentNext),
    (776, 4, r.fuseRev), (832, 64, r.created)])

/-- A record as read: none where its CRC fails or its VERSION is not 1 (R63). -/
def recOf (v : Nat) : Option HistRec :=
  if crc32 (bytesOf v 0 124) = bits v 992 32 ∧ bits v 0 8 = 1 then
    some { key := ⟨bits v 8 4, bits v 32 19, bits v 16 4⟩, state := bits v 24 3, origin := bits v 27 3, retest := bits v 30 2,
           seq := bits v 64 32, detections := bits v 96 16, evidence := bits v 112 16, firstSeen := bits v 128 64,
           lastSeen := bits v 192 64, recent := (List.range 8).map (fun i => bits v (256 + 64 * i) 64), recentNext := bits v 768 3,
           fuseRev := bits v 776 4, created := bits v 832 64 }
  else none

/-- Newest valid record of every key of a half: the highest SEQ by serial-number arithmetic (R63). -/
def newestRecords (l : List Nat) : List HistRec :=
  (l.filterMap recOf).foldl (fun acc r =>
    if acc.any (fun x => decide (x.key = r.key) && !serialAfter r.seq x.seq) then acc
    else acc.filter (fun x => decide (x.key ≠ r.key)) ++ [r]) []

/-- Keys dropped first when they do not all fit: latest record FREE and latest detection outside the window, oldest
first (R61). The manual does not say what happens when the keys still do not fit then: here the half takes them all, past its 65,536
records. DESIGN CHOICE: log entry 92. -/
def fitHalf (now : Nat) (l : List HistRec) : List HistRec :=
  if l.length ≤ 65536 then l
  else
    let stale := sortBy (fun r => r.lastSeen) (l.filter (fun r => decide (r.state = 7 ∧ r.lastSeen + histWindow < now)))
    let gone := (stale.take (l.length - 65536)).map (fun r => r.key)
    l.filter (fun r => !gone.contains r.key)

/-- A half header as its 32 bytes (R481). -/
def headerBytes (h : HalfHeader) : Nat := withCrc32 28 (pack [(0, 8, 1), (8, 1, h.half), (32, 32, h.hseq), (64, 4, h.fuseRev)])

/-- A half header as read from the sector of a half: none where its CRC fails, its VERSION is not 1 or its HALF names the other sector
(R481). -/
def headerOf (sector v : Nat) : Option HalfHeader :=
  if crc32 (bytesOf v 0 28) = bits v 224 32 ∧ bits v 0 8 = 1 ∧ bits v 8 1 = sector then some ⟨sector, bits v 32 32, bits v 64 4⟩ else none

/-- A half header appended to the sector of a half. -/
def State.appendHeader (s : State) (half : Nat) : State :=
  let hd := headerBytes ⟨half, s.hist.hseq, s.rf .kprLedgerStatusFuseRev 0⟩
  let h := { s.hist with hseq := succ32 s.hist.hseq, active := half, headerDue := false }
  { s with hist := if half = 0 then { h with head0 := h.head0 ++ [hd] } else { h with head1 := h.head1 ++ [hd] } }

/-- The other half takes the newest record of every key and becomes the active one; the old half is erased (R61). -/
def State.swapHalf (s : State) : State :=
  let h := s.hist
  if h.active = 0 then
    let s1 := ({ s with hist := { h with half1 := (fitHalf s.now (newestRecords h.half0)).map recBytes, head1 := [] } }).appendHeader 1
    { s1 with hist := { s1.hist with half0 := [], head0 := [] } }
  else
    let s1 := ({ s with hist := { h with half0 := (fitHalf s.now (newestRecords h.half1)).map recBytes, head0 := [] } }).appendHeader 0
    { s1 with hist := { s1.hist with half1 := [], head1 := [] } }

def State.activeFull (s : State) : Bool :=
  if s.hist.active = 0 then decide (65536 ≤ s.hist.half0.length ∨ 128 ≤ s.hist.head0.length)
  else decide (65536 ≤ s.hist.half1.length ∨ 128 ≤ s.hist.head1.length)

/-! ### Time anchors and identity records (R272, R273, R461) -/

/-- The newest record of a pair of sectors: the highest SEQ. -/
def FlashLog.newest (l : FlashLog) : Option (Nat × Nat) :=
  (l.sec0 ++ l.sec1).foldl (fun (acc : Option (Nat × Nat)) r => match acc with
    | none => some r
    | some a => if serialAfter r.1 a.1 then some r else some a) none

/-- A record appended; a full sector (128 records) gives way to the other one, erased first. -/
def FlashLog.append (l : FlashLog) (v : Nat) : FlashLog :=
  let n := match l.newest with | some a => succ32 a.1 | none => 0
  if l.active = 0 then
    if l.sec0.length < 128 then { l with sec0 := l.sec0 ++ [(n, v)] } else { l with sec1 := [(n, v)], active := 1 }
  else if l.sec1.length < 128 then { l with sec1 := l.sec1 ++ [(n, v)] } else { l with sec0 := [(n, v)], active := 0 }

/-- A record of the two sectors as its 32 bytes (R273). -/
def flashRecord (r : Nat × Nat) : Nat := withCrc32 28 (pack [(0, 8, 1), (32, 32, r.1), (64, 64, r.2)])

/-- An anchor is due: an hour past the last one written, or none written. DEDUCED: log entry 81. -/
def State.anchorDue (s : State) : Bool := match s.anchors.newest with | some a => decide (a.2 + 3600000000 ≤ s.now) | none => true

def State.writeAnchor (s : State) : State := { s with anchors := s.anchors.append s.now }

/-- TIME_ANCHOR_WRITE (R272). -/
def State.anchorWrite (s : State) : State := if s.flashOpen && s.anchorDue then s.writeAnchor else s

/-- IDENTITY_RECORD_WRITE (R461). -/
def State.identWrite (s : State) : State :=
  if s.flashOpen && s.identDue then { s with idents := s.idents.append (s.rf .kprEngineEngine 0), identDue := false } else s

/-- HISTORY_RECORD_WRITE (R64): the header that is due, or the oldest staged record, while the window is open. An anchor
that is due goes first (R272). -/
def State.histWrite (s0 : State) : State :=
  if s0.flashOpen = false then s0
  else
    let s := if s0.anchorDue && !s0.hist.staged.isEmpty then s0.writeAnchor else s0
    let s1 := if s.activeFull then s.swapHalf else s
    if s1.hist.headerDue then s1.appendHeader s1.hist.active
    else match s1.hist.staged with
      | [] => s1
      | r :: t =>
        { s1 with hist := if s1.hist.active = 0 then { s1.hist with staged := t, half0 := s1.hist.half0 ++ [recBytes r] }
          else { s1.hist with staged := t, half1 := s1.hist.half1 ++ [recBytes r] } }

/-! ### Age check and rebuild (R48, R54) -/

/-- AGE_CHECK (R48): TRANSIENT entries with no detection in the window are freed. -/
def State.ageCheck (s : State) : State :=
  (s.entries.filter (fun e => decide (e.2.state = 3 ∧ s.detections e.2.key = 0))).foldl (fun t e => t.freeSlotOf e.1 e.2)
    { s with hist := { s.hist with ageAt := s.now } }

/-- A unit that the fuse map lists as bad. -/
def State.fuseBad (s : State) (k : UnitKey) : Bool := s.fuses.bad.contains k

/-- A bank or router entry of origin fuse that is not stored, because its tile has an entry of origin fuse (R55). -/
def State.r55Skip (s : State) (k : UnitKey) : Bool :=
  (decide (k.kind = kindBank) || decide (k.kind = kindRouter)) && s.fuseBad k &&
    (match s.findEntry (tileKey k.unit) with | some (_, e) => decide (e.origin = 0) | none => false)

/-- COUNT of an entry rebuilt from a record (R42): the detections since CREATED. The record shows it where the key's first detection is
no older, or where fewer than eight RECENT times lie since; otherwise it is at least eight and less than DETECTIONS, a free value.
DESIGN CHOICE: log entry 92. -/
def State.countSince (s : State) (r : HistRec) : Nat × State :=
  let n := (r.recent.filter (fun t => decide (t ≠ 0 ∧ r.created ≤ t))).length
  if r.created ≤ r.firstSeen ∧ r.firstSeen ≠ 0 then (r.detections, s)
  else if n < 8 then (n, s)
  else
    let (v, s1) := s.free
    (8 + v % Nat.max 1 (r.detections - 8), s1)

/-- An entry rebuilt from the newest record of its key, with the cause it then shows. -/
def State.rebuildEntry (s : State) (r : HistRec) (cause : Nat) : State :=
  match s.freeEntry with
  | some i =>
    let (n, s1) := s.countSince r
    let s2 := s1.setSlot i (some ⟨r.key, r.origin, r.state, n, cause, r.created % 2 ^ 48⟩)
    if r.state = 4 then s2.holdField (tileField r.key.unit) else s2
  | none => s

/-- An entry recreated from its newest record, with cause ENTRY_LOST (R54); one that R55 does not store stays out. -/
def State.recreate (s : State) (r : HistRec) : State :=
  if s.r55Skip r.key || s.freeEntry.isNone then s
  else (s.rebuildEntry r 0x071).writeHist r.key r.state r.origin false r.evidence r.created

/-- LEDGER_REBUILD (R54): an uncorrectable word frees its entry; every key whose entry is missing is recreated from the
history cache. A key the cache does not hold keeps its exclusion without an entry. DEDUCED: log entry 33. -/
def State.rebuildLost (s : State) (i : Nat) : State :=
  match Tab.get (fun _ => none) s.ledger.slots i with
  | some e =>
    let s1 := (s.setSlot i none).put .kprLedgerStatusRebuilt 0 1
    let s2 := (s1.hist.cache.filter (fun r => decide (r.state ≠ 7) && (s1.findEntry r.key).isNone)).foldl State.recreate s1
    if (s2.findEntry e.key).isNone ∧ withdraws e.state = true then
      { s2 with ledger := { s2.ledger with orphans := e.key :: s2.ledger.orphans } }
    else s2
  | none => s

/-! ### Commands (R403, R404, R407) -/

/-- A ledger command's key is well formed (R36, R403). -/
def keyWordOk (w : Nat) : Bool := decide (bits w 27 5 = 0) && keyOk (wordKey w)

/-- Entry payload of a response: 16 bytes, zero if none. -/
def State.entryOf (s : State) (k : UnitKey) : Nat := match s.findEntry k with | some (_, e) => entryBits e | none => 0

/-- LEDGER_QUERY: the entry and its newest history record, after every write of the tick (R52). -/
def State.ledgerQuery (s : State) (cid key : Nat) : State :=
  if keyWordOk key = false then s.respond 0x20 cid 7 1 0
  else
    let k := wordKey key
    s.respond 0x20 cid 0 3 (s.entryOf k ||| (match s.histOf k with | some r => recBytes r | none => 0) <<< 128)

/-- A new operator entry (R48). -/
def State.operatorAdd (s : State) (i : Nat) (k : UnitKey) (st : Nat) : State :=
  let was := s.outBefore k
  let e : Entry := ⟨k, 4, st, 0, 0x070, s.now % 2 ^ 48⟩
  let s1 := ((s.setSlot i (some e)).writeHist k st 4 false (evidence k 0x070) s.now).entryNotice e 7
  if withdraws st then s1.withdraw k 0x070 was else s1

/-- LEDGER_ADD (R48, R53, R407). -/
def State.ledgerAdd (s : State) (cid key st : Nat) : State :=
  if keyWordOk key = false ∨ 1 < st then s.respond 0x21 cid 7 1 0
  else
    let k := wordKey key
    if (s.findEntry k).isSome then s.respond 0x21 cid 9 1 (s.entryOf k)
    else match s.roomFor with
      | (some i, s1) => let s2 := s1.operatorAdd i k st; s2.respond 0x21 cid 0 1 (s2.entryOf k)
      | (none, s1) => s1.respond 0x21 cid 9 1 0

/-- An entry leaves while its exclusion stands until the next stage 5 (R47, R48). DEDUCED: log entry 68. -/
def State.freeOperator (s : State) (i : Nat) (e : Entry) : State :=
  let s1 := s.freeSlotOf i e
  if withdraws e.state then { s1 with ledger := { s1.ledger with orphans := e.key :: s1.ledger.orphans } } else s1

/-- LEDGER_FREE (R48, R50). -/
def State.ledgerFree (s : State) (cid key : Nat) : State :=
  if keyWordOk key = false then s.respond 0x22 cid 7 1 0
  else match s.findEntry (wordKey key) with
    | some (i, e) =>
      if e.origin = 4 ∧ e.state ≠ 4 then (s.freeOperator i e).respond 0x22 cid 0 1 0
      else s.respond 0x22 cid 9 1 (entryBits e)
    | none => s.respond 0x22 cid 9 1 0

/-- The DISPUTED hold of a field ends: the exclusion of its station that stands without an entry goes with it (R53, R58). -/
def State.endDispute (s : State) (f : Nat) : State :=
  let s1 := s.unholdField f
  { s1 with ledger := { s1.ledger with orphans := s1.ledger.orphans.filter (fun o => decide (o ≠ stationKey f)) } }

/-- LEDGER_ACCEPT (R48, R59). -/
def State.ledgerAccept (s : State) (cid f : Nat) : State :=
  let accept := fun (t : State) =>
    let u := t.endDispute f
    ({ u with ledger := { u.ledger with accepted := f :: u.ledger.accepted } }).respond 0x23 cid 0 1 0
  match s.findEntry (stationKey f) with
  | some (i, e) => if e.state = 4 then accept (s.freeSlotOf i e) else s.respond 0x23 cid 9 1 (entryBits e)
  | none =>
    if s.disputed f then accept (s.writeHist (stationKey f) 7 1 false (evidence (stationKey f) 0x052) 0)
    else s.respond 0x23 cid 9 1 0

/-- LEDGER_DROP (R48, R59, R220). -/
def State.ledgerDrop (s : State) (cid f : Nat) : State :=
  match s.findEntry (stationKey f) with
  | some (i, e) =>
    if e.state = 4 then
      let e' := { e with state := 2, origin := 4 }
      let s1 := ((s.setSlot i (some e')).writeHist e.key 2 4 false (evidence e.key (s.realCause e)) (s.createdOf e.key)).entryNotice e' 4
      ((s1.endDispute f).dropField f).respond 0x24 cid 0 1 0
    else s.respond 0x24 cid 9 1 (entryBits e)
  | none =>
    if s.disputed f then
      let k := stationKey f
      let s1 := (s.writeHist k 2 4 false (evidence k 0x052) (s.createdOf k)).endDispute f
      (({ s1 with ledger := { s1.ledger with orphans := k :: s1.ledger.orphans } }).dropField f).respond 0x24 cid 0 1 0
    else s.respond 0x24 cid 9 1 0

/-! ### The order of a tick (R51, R52) -/

/-- A ledger command of the host waits for its place in the tick, after the detections and the firmware updates; so does a query of the Run
Digest, answered as a ledger query is (R376). -/
def State.ledgerCommand (s : State) (opcode cid key arg : Nat) : State :=
  { s with ledger := { s.ledger with cmds := s.ledger.cmds ++ [⟨opcode, cid, key, arg⟩] } }

/-- A command that writes the ledger is applied; a query waits for every write of its tick. -/
def State.ledgerWrite (s : State) (c : LedgerCmd) : State :=
  if c.opcode = 0x21 then s.ledgerAdd c.cid c.key c.arg
  else if c.opcode = 0x22 then s.ledgerFree c.cid c.key
  else if c.opcode = 0x23 then s.ledgerAccept c.cid c.key
  else if c.opcode = 0x24 then s.ledgerDrop c.cid c.key
  else s

/-- The host's ledger writes of the tick, in the order of their commands. -/
def State.ledgerWrites (s : State) : State := s.ledger.cmds.foldl State.ledgerWrite s

/-- The queries of the tick are answered. -/
def State.ledgerAnswers (s : State) : State :=
  (s.ledger.cmds.filter (fun c => decide (c.opcode = 0x20))).foldl (fun t c => t.ledgerQuery c.cid c.key)
    { s with ledger := { s.ledger with cmds := [] } }

/-! ### Rows -/

/-- HISTORY_RECORD_WRITE (R64). -/
def execHistoryRecordWrite (s : State) : Host.Outcome State Fault Refusal := .next s.histWrite

/-- TIME_ANCHOR_WRITE (R272). -/
def execTimeAnchorWrite (s : State) : Host.Outcome State Fault Refusal := .next s.anchorWrite

/-- IDENTITY_RECORD_WRITE (R461). -/
def execIdentityRecordWrite (s : State) : Host.Outcome State Fault Refusal := .next s.identWrite

/-- AGE_CHECK: every hour (R48). -/
def execAgeCheck (s : State) : Host.Outcome State Fault Refusal :=
  .next (if s.hist.ageAt + 3600000000 ≤ s.now then s.ageCheck else s)

/-- LEDGER_QUERY; the five ledger commands take their place in the tick (R51). -/
def execLedgerQuery (cid : BitVec 32) (key : BitVec 32) (s : State) : Host.Outcome State Fault Refusal :=
  .next (s.asHost 0x20 cid.toNat (fun t => t.ledgerCommand 0x20 cid.toNat key.toNat 0))

def execLedgerAdd (cid : BitVec 32) (key : BitVec 32) (state : BitVec 3) (s : State) : Host.Outcome State Fault Refusal :=
  .next (s.asHost 0x21 cid.toNat (fun t => t.ledgerCommand 0x21 cid.toNat key.toNat state.toNat))

def execLedgerFree (cid : BitVec 32) (key : BitVec 32) (s : State) : Host.Outcome State Fault Refusal :=
  .next (s.asHost 0x22 cid.toNat (fun t => t.ledgerCommand 0x22 cid.toNat key.toNat 0))

def execLedgerAccept (cid : BitVec 32) (field : BitVec 5) (s : State) : Host.Outcome State Fault Refusal :=
  .next (s.asHost 0x23 cid.toNat (fun t => t.ledgerCommand 0x23 cid.toNat field.toNat 0))

def execLedgerDrop (cid : BitVec 32) (field : BitVec 5) (s : State) : Host.Outcome State Fault Refusal :=
  .next (s.asHost 0x24 cid.toNat (fun t => t.ledgerCommand 0x24 cid.toNat field.toNat 0))

end Sys2Proof.Machine
end

