-- ==== Sys2Proof/Machine/Chorus.lean ====
section
/-! DEFINITION. Digests on the fabric: announcements, choruses, roll calls and name notices
(05_digests.md R133 to R152, R155, R156). -/

namespace Sys2Proof.Machine

/-! ### PLD-61 (R133, R134, R138) -/

/-- The seed of a chunk (R138). -/
def State.chunkSeed (s : State) (coll inst chunk : Nat) : Nat :=
  let v := (s.rf .kprDigSeedActiveDseed 0 + 1 + (inst % 2 ^ 32 * 2 ^ 28 + coll % 2 ^ 16 * 2 ^ 12 + chunk % 2 ^ 12)) % p61
  if v ≤ 1 then 2 else v

/-- Σ w·s^i·vᵢ mod p over a list, the first weight being w. -/
def pldFrom (seed : Nat) : Nat → List Int → Nat
  | _, [] => 0
  | w, v :: t => (w * modP v + pldFrom seed (w * seed % p61) t) % p61

/-- The digest of elements that begin at an index (R133). -/
def pldAt (seed index : Nat) (l : List Int) : Nat := pldFrom seed (powP 64 seed (index + 1)) l

/-! ### Views (R134, R139) -/

/-- A chunk as it leaves a contributor: the words themselves in transit mode, 32-bit signed elements in exact mode. -/
def egressView (exactMode : Bool) (l : List (BitVec 32)) : List Int := l.map (fun w => if exactMode then w.toInt else (w.toNat : Int))

/-- 64-bit signed elements of little-endian words. -/
def wideView : List (BitVec 32) → List Int
  | lo :: hi :: t => (hi ++ lo).toInt :: wideView t
  | _ => []

/-- A chunk as it reaches the receiver: words in transit mode, 64-bit signed results in exact mode. -/
def ingressView (exactMode : Bool) (l : List (BitVec 32)) : List Int := if exactMode then wideView l else egressView false l

/-! ### Lists and announcements (R139 to R144) -/

/-- The entry of the Warden's collective list (R139). -/
def State.collective (s : State) (k coll : Nat) : Option Collective :=
  match s.prog with
  | some p => p.collectives.find? (fun c => decide (c.port = k ∧ c.coll = coll))
  | none => none

def modeCode (c : Collective) : Nat := if c.exactMode then 1 else 0
def State.engine (s : State) : Nat := s.rf .kprEngineEngine 0
def State.tagsOn (s : State) : Bool := decide (s.rf .kprDigKeyTagsActive 0 = 1)
def State.chorusOn (s : State) (k : Nat) : Bool := s.fnOn (.chorus (toFin16 k))
def State.chorusDraining (s : State) (k : Nat) : Bool := decide (s.fnState (.chorus (toFin16 k)) = 3)

/-- An announcement leaves the Warden (R143); types 1 announcement, 2 roll call, 3 answer, 4 name notice. -/
def State.sendAnn (s : State) (k ty mode coll inst chunk port len digest dest : Nat) (stale : Bool) : State :=
  let w := s.warden k
  let tag := s.tagsOn && s.jobKey.isSome
  let body := withCrc16 30 (pack [(0, 4, 1), (4, 4, ty), (8, 2, mode), (10, 1, bit tag), (11, 1, bit stale), (16, 16, coll),
    (32, 32, inst), (64, 12, chunk), (76, 4, port), (80, 15, s.engine), (96, 21, len - 1), (128, 64, digest), (192, 15, dest),
    (208, 32, w.annSeq)])
  let full := if tag then body ||| hmacNat (s.jobKey.getD 0) (bytesOf body 0 32) <<< 256 else body
  { s.setWarden k { w with annSeq := succ32 w.annSeq } with out := .digest k dest full :: s.out }

/-- A logged announcement; the log keeps the last 4,096. -/
def State.logAnn (s : State) (k : Nat) (x : LoggedAnn) : State :=
  let w := s.warden k
  s.setWarden k { w with annLog := (if 4096 ≤ w.annLog.length then w.annLog.tail else w.annLog) ++ [x] }

/-- CHUNK_EGRESS (R140, R142). -/
def State.chunkEgress (s : State) (k coll chunk : Nat) (words : List (BitVec 32)) : State :=
  match s.collective k coll with
  | some c =>
    if c.contributes then
      let w := s.warden k
      let begun := Tab.get (fun _ => 0) w.insts coll + (if chunk = 0 then 1 else 0)
      let inst := (begun - 1) % 2 ^ 32
      let s1 := s.setWarden k { w with insts := Tab.set (fun _ => 0) w.insts coll begun }
      if s1.chorusOn k then
        let d := pldAt (s1.chunkSeed coll inst chunk) 0 (egressView c.exactMode words)
        c.receivers.foldl (fun t r =>
          (t.sendAnn k 1 (modeCode c) coll inst chunk k c.chunkLen d r false).logAnn k ⟨coll, inst, chunk, d, c.transfer⟩) s1
      else s1
    else s
  | none => s

/-! ### The chorus table (R145, R146) -/

def chorusKey (c : Chorus) : Nat × Nat × Nat := (c.coll, c.inst, c.chunk)
def State.chorusOf (s : State) (k : Nat) (key : Nat × Nat × Nat) : Option Chorus :=
  (s.warden k).chorus.find? (fun c => decide (chorusKey c = key))
def State.setChorus (s : State) (k : Nat) (c : Chorus) : State :=
  let w := s.warden k
  s.setWarden k { w with chorus := w.chorus.map (fun x => if chorusKey x = chorusKey c then c else x) }

/-- LWD_DIG_STATUS follows the table. -/
def State.showChorus (s : State) (k : Nat) : State :=
  let w := s.warden k
  s.puts [(.lwdDigStatusOpen, k, w.chorus.length), (.lwdDigStatusRollcall, k, bit (w.chorus.any (fun c => decide (c.phase = 3)))),
    (.lwdDigStatusBackpressure, k, bit (!w.pieces.isEmpty))]

/-- All data and every expected announcement are in. -/
def chorusFull (l : Collective) (c : Chorus) : Bool :=
  decide (l.chunkLen ≤ c.got) && decide (l.contributors.length ≤ c.anns.length)

def chorusStep (l : Collective) (c : Chorus) : Chorus := if c.phase = 0 ∧ chorusFull l c = true then { c with phase := 1 } else c

/-- The chorus of a chunk, opened if an entry is free; none with a full table. -/
def State.chorusOpen (s : State) (k : Nat) (key : Nat × Nat × Nat) : Option (Chorus × State) :=
  match s.chorusOf k key with
  | some c => some (c, s)
  | none =>
    let w := s.warden k
    if w.chorus.length < 256 then
      let c : Chorus := { coll := key.1, inst := key.2.1, chunk := key.2.2, openWtc := s.wtc, openAt := s.now, tagFail := w.tagFails.contains key }
      some (c, s.setWarden k { w with chorus := w.chorus ++ [c] })
    else none

/-- DEDUCED: log entry 72. -/
def State.annDiscard (s : State) (k : Nat) : State := s.bump .lwdAnnDiscardCount k .lwdDigFlagsSat k 32

/-- What R145 asks of an announcement beside its tag. -/
def State.annFits (s : State) (k a : Nat) (l : Collective) : Bool :=
  let key := (bits a 16 16, bits a 32 32, bits a 64 12)
  let src := bits a 80 15
  l.receives && decide (bits a 8 2 = modeCode l) && l.contributors.contains src && !engineReserved src &&
  decide (bits a 192 15 = s.engine) && !(s.warden k).closed.contains key &&
  (match s.chorusOf k key with | some c => decide (c.phase = 0) && !c.anns.any (fun x => decide (x.1 = src)) | none => true) &&
  (s.chorusOn k || (s.chorusDraining k && (s.chorusOf k key).isSome))

/-- The announcement is good in itself: CRC, VERSION and TYPE. -/
def annGood (a ty : Nat) : Bool := recordOk a 30 && decide (bits a 4 4 = ty)

/-- The tag verifies, when tags are in force (R145, R155): HMAC-SHA-256 over bytes 0 to 31 with the job digest key. -/
def State.tagPasses (s : State) (a : Nat) : Bool :=
  !s.tagsOn || (decide (bits a 10 1 = 1) && decide (bits a 256 256 = hmacNat (s.jobKey.getD 0) (bytesOf a 0 32)))

/-- A fabric flit enters the mesh stamped with the epoch (R211); while the epoch function drains it is held at ingress (R213). DEDUCED: log entry 72. -/
def State.flitIn (s : State) (k coll chunk index : Nat) : State :=
  if s.rf .kprEpochDraining 0 = 1 then
    s.setWarden k { s.warden k with heldFlits := (s.warden k).heldFlits ++ [(coll, chunk, index)] }
  else { s with out := .flit k (s.rf .kprEpochCurrent 0) coll chunk index :: s.out }

/-- A piece meets the table; `none` when it must wait for an entry. DEDUCED: log entry 72. -/
def State.chorusPiece (s : State) (k : Nat) : Piece → Option State
  | .ann x =>
    let a := x.toNat
    let key := (bits a 16 16, bits a 32 32, bits a 64 12)
    match (if annGood a 1 then s.collective k key.1 else none) with
    | some l =>
      if !s.annFits k a l then some (s.annDiscard k)
      else if !s.tagPasses a then
        let s1 := s.annDiscard k
        match s1.chorusOf k key with
        | some c => some (s1.setChorus k { c with tagFail := true })
        | none => some (s1.setWarden k { s1.warden k with tagFails := key :: (s1.warden k).tagFails })
      else
        (s.chorusOpen k key).map (fun (p : Chorus × State) =>
          p.2.setChorus k (chorusStep l { p.1 with anns := p.1.anns ++ [(bits a 80 15, bits a 128 64 % p61, bits a 76 4)] }))
    | none => some (s.annDiscard k)
  | .data coll inst chunk index words =>
    let key := (coll, inst, chunk)
    (match s.collective k coll with
    | some l =>
      let elements := ingressView l.exactMode words
      if !l.receives then some s
      else if s.chorusOn k || (s.chorusDraining k && (s.chorusOf k key).isSome) then
        if (s.warden k).closed.contains key then some s
        else (s.chorusOpen k key).map (fun (p : Chorus × State) =>
          if p.1.phase = 0 then
            p.2.setChorus k (chorusStep l { p.1 with
              digest := (p.1.digest + pldAt (s.chunkSeed coll inst chunk) index elements) % p61, got := p.1.got + elements.length })
          else p.2)
      else some (if index = 0 then s.bump .lwdChunksUncheckedCount k .lwdDigFlagsSat k 64 else s)
    | none => some s).map (fun (u : State) => u.flitIn k coll chunk index)

/-- Pieces held at ingress take entries that have come free, in order. -/
def State.chorusAdmit : Nat → State → Nat → State
  | 0, s, _ => s
  | n + 1, s, k =>
    match (s.warden k).pieces with
    | [] => s
    | p :: t =>
      match (s.setWarden k { s.warden k with pieces := t }).chorusPiece k p with
      | some u => State.chorusAdmit n u k
      | none => s

/-- A piece arrives; with the table full it and what follows it wait (R146). -/
def State.chorusArrive (s : State) (k : Nat) (p : Piece) : State :=
  let w := s.warden k
  if w.pieces.isEmpty then
    match s.chorusPiece k p with
    | some u => u.showChorus k
    | none => (s.setWarden k { w with pieces := [p] }).showChorus k
  else s.setWarden k { w with pieces := w.pieces ++ [p] }

/-- CHORUS_DATA_FLIT: the first flit of chunk 0 begins a new instance at this Warden (R140). -/
def State.chorusData (s : State) (k coll chunk index : Nat) (words : List (BitVec 32)) : State :=
  let w := s.warden k
  let begun := Tab.get (fun _ => 0) w.instsIn coll + (if chunk = 0 ∧ index = 0 then 1 else 0)
  (s.setWarden k { w with instsIn := Tab.set (fun _ => 0) w.instsIn coll begun }).chorusArrive k
    (.data coll ((begun - 1) % 2 ^ 32) chunk index words)

/-! ### Verdicts (R147, R149 to R152) -/

/-- Verdict codes: 0 PASS, 1 FAIL, 2 INCOMPLETE, 3 TAG, 4 ABANDONED; the counter of each. -/
def chorusCounter : Nat → RF
  | 0 => .lwdChorusPassCount
  | 1 => .lwdChorusFailCount
  | 2 => .lwdChorusIncompleteCount
  | 3 => .lwdChorusTagCount
  | _ => .lwdChorusAbandonedCount

def expectedSum (c : Chorus) : Nat := (c.anns.map (fun a => a.2.1)).foldl (fun x y => (x + y) % p61) 0

/-- The chorus record (R152). -/
def chorusRecord (verdict mode culprit role coll inst chunk port engine count expected result sum openWtc stale : Nat) : Nat :=
  withCrc16 46 (pack [(0, 4, 1), (4, 4, verdict), (8, 2, mode), (10, 2, culprit), (12, 1, role), (16, 16, coll), (32, 32, inst), (64, 12, chunk),
    (76, 4, port), (80, 15, engine), (96, 13, count), (112, 13, expected), (128, 64, result), (192, 64, sum), (256, 64, openWtc), (320, 13, stale)])

/-- A record is kept in LWD_CHORUS_LAST and posted. -/
def State.chorusPost (s : State) (k cls : Nat) (r : Nat) (acts : List EvAct) : State :=
  (s.put .lwdChorusLastRecord k r).sample cls (locWarden k) (acts ++ [.post 7 32 0 48 r false])

/-- The chorus closes; its entry frees and pieces that waited enter. -/
def State.chorusClose (s : State) (k : Nat) (c : Chorus) : State :=
  let w := s.warden k
  let s1 := s.setWarden k { w with chorus := w.chorus.filter (fun x => decide (chorusKey x ≠ chorusKey c)), closed := chorusKey c :: w.closed }
  (s1.chorusAdmit (w.pieces.length) k).showChorus k

def State.chorusEnd (s : State) (k : Nat) (l : Collective) (c : Chorus) (verdict : Nat) (named : List Nat) (culprit stale : Nat) : State :=
  let s1 := (s.chorusClose k c).bump (chorusCounter verdict) k .lwdDigFlagsSat k (2 ^ verdict)
  let missing := l.contributors.filter (fun e => !c.anns.any (fun a => decide (a.1 = e)))
  let mk := fun engine count => chorusRecord verdict (modeCode l) culprit 0 c.coll c.inst c.chunk k engine count l.contributors.length
    c.digest (expectedSum c) c.openWtc stale
  match verdict with
  | 0 => s1.sample 10 (locWarden k) [.log]
  | 1 =>
    let s2 := named.foldl (fun t e => t.sendAnn k 4 (modeCode l) c.coll c.inst c.chunk
      (((c.anns.find? (fun a => decide (a.1 = e))).map (fun a => a.2.2)).getD 0) l.chunkLen 0 e false) s1
    let first := mk (named.headD 0x7FFF) named.length
    let s3 := s2.chorusPost k 5 first [.void c.openWtc, .rollback c.openWtc]
    named.tail.foldl (fun t e => t.chorusPost k 5 (mk e named.length) []) s3
  | 4 => s1.chorusPost k 10 (mk 0x7FFF 0) []
  | _ => s1.chorusPost k 10 (mk (missing.headD 0x7FFF) missing.length) []

/-- CHORUS_COMPARE (R146, R147). -/
def State.chorusCompare (s : State) (k : Nat) (key : Nat × Nat × Nat) : State :=
  match s.chorusOf k key, s.collective k key.1 with
  | some c, some l =>
    if c.phase = 1 then
      if c.digest = expectedSum c then s.chorusEnd k l c 0 [] 3 0
      else if l.exactMode then (s.setChorus k { c with phase := 2 }).showChorus k
      else s.chorusEnd k l c 1 (c.anns.map (fun a => a.1)) 0 0
    else s
  | _, _ => s

/-- CHORUS_DEADLINE (R146, R164). -/
def State.chorusDeadline (s : State) (k : Nat) (key : Nat × Nat × Nat) : State :=
  match s.chorusOf k key, s.collective k key.1 with
  | some c, some l =>
    if c.phase = 0 ∧ c.openAt + 1000 * clamp 1 1000 (s.rf .lwdDigCtrlDeadlineMs k) ≤ s.now then
      s.chorusEnd k l c (if c.tagFail then 3 else 2) [] 3 0
    else s
  | _, _ => s

/-- Open choruses end ABANDONED at a compute reset or a program change (R146). -/
def State.chorusAbandon (s : State) (k : Nat) : State :=
  let s0 := s.setWarden k { s.warden k with pieces := [] }
  ((s0.warden k).chorus.foldl (fun t c => match t.collective k c.coll with
    | some l => t.chorusEnd k l c 4 [] 3 0
    | none => t) s0).showChorus k

/-! ### Roll calls (R148, R149) -/

/-- ROLL_CALL_START: the oldest failed chorus, once no roll call of this Warden is in progress. -/
def State.rollStart (s : State) (k : Nat) (key : Nat × Nat × Nat) : State :=
  let w := s.warden k
  if w.chorus.any (fun c => decide (c.phase = 3)) then s
  else match w.chorus.find? (fun c => decide (c.phase = 2)), s.collective k key.1 with
  | some c, some l =>
    if chorusKey c = key then
      (l.contributors.foldl (fun t e => t.sendAnn k 2 (modeCode l) c.coll c.inst c.chunk k l.chunkLen 0 e false)
        (s.setChorus k { c with phase := 3, rollAt := s.now })).showChorus k
    else s
  | _, _ => s

/-- ROLL_CALL_RECEIVE: STALE at once when the chunk is not in the log, else the Securing Engine asks for the link share to re-issue the
transfer. DEDUCED: log entry 72. -/
def State.rollReceive (s : State) (k : Nat) (x : Announcement) : State :=
  let a := x.toNat
  if annGood a 2 && s.tagPasses a && decide (bits a 192 15 = s.engine) && !engineReserved (bits a 80 15) then
    match (s.warden k).annLog.reverse.find? (fun e => decide (e.coll = bits a 16 16 ∧ e.inst = bits a 32 32 ∧ e.chunk = bits a 64 12)) with
    | some e => s.setWarden k { s.warden k with reissues := (s.warden k).reissues ++ [({ logged := e, receiver := bits a 80 15 } : Reissue)] }
    | none => s.sendAnn k 3 (bits a 8 2) (bits a 16 16) (bits a 32 32) (bits a 64 12) k (bits a 96 21 + 1) 0 (bits a 80 15) true
  else s.annDiscard k

/-- The first of a list that a test holds of is replaced. -/
def replaceFirst {α : Type} (p : α → Bool) (f : α → α) : List α → List α
  | [] => []
  | a :: t => if p a then f a :: t else a :: replaceFirst p f t

/-- A Warden's oldest chunk to be re-issued for a roll call waits for the link share. -/
def State.reissueWaits (s : State) (k : Nat) : Bool := (s.warden k).reissues.any (fun r => !r.granted)

/-- The link share is granted to the re-issue of port k (R148). -/
def State.reissueGranted (s : State) (k : Nat) : State :=
  match (s.warden k).reissues.find? (fun r => !r.granted) with
  | some r => { s.setWarden k { s.warden k with
      reissues := replaceFirst (fun (x : Reissue) => !x.granted) (fun x => { x with granted := true }) (s.warden k).reissues } with
      out := .reissue k r.logged.transfer r.receiver :: s.out }
  | none => s

/-- ROLL_CALL_ANSWER_SEND: the re-sent chunk has left and its fresh digest is answered. -/
def State.rollAnswerSend (s : State) (k coll inst chunk receiver : Nat) (words : List (BitVec 32)) : State :=
  let w := s.warden k
  match w.reissues.find? (fun r => decide (r.logged.coll = coll ∧ r.logged.inst = inst ∧ r.logged.chunk = chunk ∧ r.receiver = receiver) && r.granted) with
  | some r =>
    let d := pldAt (s.chunkSeed coll inst chunk) 0 (egressView true words)
    let (mode, len) := match s.collective k coll with | some l => (modeCode l, l.chunkLen) | none => (1, words.length)
    (s.setWarden k { w with reissues := w.reissues.filter (fun y => decide (y ≠ r)) }).sendAnn k 3 mode coll inst chunk k len d receiver
      (decide (d ≠ r.logged.digest))
  | none => s

/-- The judgement of R149: 0 clear, 1 named, 2 unresolved. -/
def judgeAnswer (c : Chorus) (e : Nat) : Nat :=
  match c.answers.find? (fun a => decide (a.engine = e)) with
  | some a =>
    if a.stale then 2
    else match a.data with
    | some d => if (c.anns.find? (fun x => decide (x.1 = e))).map (fun x => x.2.1) = some d then 0 else 1
    | none => 2
  | none => 2

/-- The roll call ends with its culprit. -/
def State.rollEnd (s : State) (k : Nat) (l : Collective) (c : Chorus) : State :=
  let named := l.contributors.filter (fun e => decide (judgeAnswer c e = 1))
  let open_ := (l.contributors.filter (fun e => decide (judgeAnswer c e = 2))).length
  s.chorusEnd k l c 1 named (if named ≠ [] then 0 else if open_ = 0 then 1 else 2) open_

/-- Every answer is in with its re-sent data. -/
def rollDone (l : Collective) (c : Chorus) : Bool :=
  l.contributors.all (fun e => c.answers.any (fun a => decide (a.engine = e) && (a.stale || a.data.isSome)))

/-- ROLL_CALL_ANSWER_RECEIVE. An answer whose data comes later is completed by the row's next arrival. -/
def State.rollAnswer (s : State) (k : Nat) (x : Announcement) (data : Option (List (BitVec 32))) : State :=
  let a := x.toNat
  let key := (bits a 16 16, bits a 32 32, bits a 64 12)
  let src := bits a 80 15
  match s.chorusOf k key, s.collective k key.1 with
  | some c, some l =>
    if annGood a 3 && s.tagPasses a && decide (bits a 192 15 = s.engine) && l.contributors.contains src && decide (c.phase = 3) &&
       !c.answers.any (fun y => decide (y.engine = src) && (y.stale || y.data.isSome)) then
      let d := data.map (fun w => pldAt (s.chunkSeed key.1 key.2.1 key.2.2) 0 (egressView true w))
      let c1 := { c with answers := c.answers.filter (fun y => decide (y.engine ≠ src)) ++ [⟨src, decide (bits a 11 1 = 1), d⟩] }
      if rollDone l c1 then (s.setChorus k c1).rollEnd k l c1 else s.setChorus k c1
    else s.annDiscard k
  | _, _ => s.annDiscard k

/-- ROLL_CALL_DEADLINE (R149, R164). -/
def State.rollDeadline (s : State) (k : Nat) (key : Nat × Nat × Nat) : State :=
  match s.chorusOf k key, s.collective k key.1 with
  | some c, some l =>
    if c.phase = 3 ∧ c.rollAt + 1000 * clamp 10 1000 (s.rf .lwdDigCtrlRollcallMs k) ≤ s.now then s.rollEnd k l c else s
  | _, _ => s

/-- NAME_NOTICE_RECEIVE (R150, R152): one CHORUS detection on the named port, and the record with ROLE set. What the
record's digests and OPEN_WTC hold at the named wafer the manual does not say (free values). DESIGN CHOICE: log entry 7. -/
def State.nameNotice (s : State) (k : Nat) (x : Announcement) : State :=
  let a := x.toNat
  if annGood a 4 && s.tagPasses a && decide (bits a 192 15 = s.engine) && !engineReserved (bits a 80 15) then
    let (r1, s1) := s.free
    let (r2, s2) := s1.free
    let (r3, s3) := s2.free
    let n := match s.collective k (bits a 16 16) with | some l => l.contributors.length | none => 0
    s3.chorusPost k 5 (chorusRecord 1 (bits a 8 2) 0 1 (bits a 16 16) (bits a 32 32) (bits a 64 12) (bits a 76 4) s.engine 1 n r1 r2 r3 0)
      [.detect (laneKey (bits a 76 4) 127) 0x007 2]
  else s.annDiscard k

/-! ### Rows -/

/-- CHUNK_EGRESS (R142). -/
def execChunkEgress (k : Fin 16) (coll : BitVec 16) (chunk : BitVec 12) (words : List (BitVec 32)) (s : State) :
    Host.Outcome State Fault Refusal := .next (s.chunkEgress k.val coll.toNat chunk.toNat words)

/-- ANNOUNCEMENT_RECEIVE (R145). -/
def execAnnouncementReceive (k : Fin 16) (ann : Announcement) (s : State) : Host.Outcome State Fault Refusal :=
  .next (s.chorusArrive k.val (.ann ann))

/-- CHORUS_DATA_FLIT (R146). -/
def execChorusDataFlit (k : Fin 16) (coll : BitVec 16) (chunk : BitVec 12) (index : Nat) (first : BitVec 32) (rest : List (BitVec 32))
    (s : State) : Host.Outcome State Fault Refusal := .next (s.chorusData k.val coll.toNat chunk.toNat index (first :: rest))

/-- CHORUS_COMPARE (R147). -/
def execChorusCompare (k : Fin 16) (coll : BitVec 16) (inst : BitVec 32) (chunk : BitVec 12) (s : State) :
    Host.Outcome State Fault Refusal := .next (s.chorusCompare k.val (coll.toNat, inst.toNat, chunk.toNat))

/-- CHORUS_DEADLINE (R146). -/
def execChorusDeadline (k : Fin 16) (coll : BitVec 16) (inst : BitVec 32) (chunk : BitVec 12) (s : State) :
    Host.Outcome State Fault Refusal := .next (s.chorusDeadline k.val (coll.toNat, inst.toNat, chunk.toNat))

/-- ROLL_CALL_START (R148). -/
def execRollCallStart (k : Fin 16) (coll : BitVec 16) (inst : BitVec 32) (chunk : BitVec 12) (s : State) :
    Host.Outcome State Fault Refusal := .next (s.rollStart k.val (coll.toNat, inst.toNat, chunk.toNat))

/-- ROLL_CALL_RECEIVE (R148). -/
def execRollCallReceive (k : Fin 16) (ann : Announcement) (s : State) : Host.Outcome State Fault Refusal :=
  .next (s.rollReceive k.val ann)

/-- ROLL_CALL_ANSWER_SEND (R148). -/
def execRollCallAnswerSend (k : Fin 16) (coll : BitVec 16) (inst : BitVec 32) (chunk : BitVec 12) (receiver : BitVec 15)
    (words : List (BitVec 32)) (s : State) : Host.Outcome State Fault Refusal :=
  .next (s.rollAnswerSend k.val coll.toNat inst.toNat chunk.toNat receiver.toNat words)

/-- ROLL_CALL_ANSWER_RECEIVE (R149). -/
def execRollCallAnswerReceive (k : Fin 16) (ann : Announcement) (words : Option (List (BitVec 32))) (s : State) :
    Host.Outcome State Fault Refusal := .next (s.rollAnswer k.val ann words)

/-- ROLL_CALL_DEADLINE (R149). -/
def execRollCallDeadline (k : Fin 16) (coll : BitVec 16) (inst : BitVec 32) (chunk : BitVec 12) (s : State) :
    Host.Outcome State Fault Refusal := .next (s.rollDeadline k.val (coll.toNat, inst.toNat, chunk.toNat))

/-- NAME_NOTICE_RECEIVE (R150). -/
def execNameNoticeReceive (k : Fin 16) (ann : Announcement) (s : State) : Host.Outcome State Fault Refusal :=
  .next (s.nameNotice k.val ann)

end Sys2Proof.Machine
end

