-- ==== Sys2Proof/Machine/Securing.lean ====
section
/-! DEFINITION. Securing: boundaries, captures, commits, trickles, time bounds, drives, and reloads
(08_securing_and_rollback.md R229 to R244, R251, R252, R254). -/

namespace Sys2Proof.Machine

def State.kMax (s : State) : Nat := Nat.max 1 (s.rf .kprSecCtrlKMax 0)
def State.secCofed (s : State) : Bool := decide (s.rf .kprSecStatusCofed 0 = 1)

/-- The partner layer can take a capture: in use, a holder held, and its peer ACTIVE. -/
def State.peerOf (s : State) (e : Nat) : Option (Nat × Peer) :=
  (List.range 64).findSome? (fun n => match Tab.get (fun _ => none) s.sec.peers n with
    | some p => if p.engine = e then some (n, p) else none
    | none => none)

def State.partnerOk (s : State) : Bool :=
  decide (s.rf .kprSecCtrlPartnerEn 0 = 1 ∧ s.rf .kprSecPairHolderValid 0 = 1) && (s.peerOf (s.rf .kprSecPairHolder 0)).any (fun p => decide (p.2.state = 1))

def State.flashOk (s : State) : Bool := decide (s.rf .kprSecCtrlFlashEn 0 = 1) && decide (0 < s.driveCount)

/-- The shared store is used: enabled, and large enough for STORE_GENS copies (R258). -/
def State.storeOk (s : State) : Bool :=
  decide (s.rf .kprSecCtrlStoreEn 0 = 1) && decide (s.layerLimit 3 * s.copyBytes ≤ s.rf .kprSecStoreSizeSize 0)

/-! ### Time bounds (R242, R339) -/

/-- Link port toward the holder, and its working lanes: a port short of lanes carries that much less (R325). -/
def State.holderPort (s : State) : Nat := ((s.peerOf s.holder).map (fun p => p.2.port)).getD 0
def State.holderLanes (s : State) : Nat := ((List.range 32).filter (fun l => (s.rf .lwdLaneUpUp s.holderPort).testBit l)).length

/-- Ticks of a transfer of a whole copy on a layer, 1.10 × B over its bandwidth, rounded up. DEDUCED: log entry 76. -/
def State.transferTicks (s : State) (layer : Nat) : Nat :=
  let rate := if layer = 1 then clamp 1 25 (s.secCfg 0 5) * 8000 * s.holderLanes
    else if layer = 2 then 13000 * s.driveCount else 1000 * Nat.max 1 (s.rf .kprSecStoreRateRate 0)
  if rate = 0 then 0 else (11 * s.copyBytes + 10 * rate - 1) / (10 * rate)

/-- The securing timeout of a layer: 5 s, or twice the bound. -/
def State.secTimeout (s : State) (layer : Nat) : Nat := Nat.max 5000000 (2 * (s.transferTicks layer + 20))

/-! ### Boundaries (R233 to R237) -/

/-- A regrowth by transplant between quarantine and DRAIN (R235). -/
def State.transplantDue (s : State) : Bool :=
  s.regrows.any (fun r => decide (r.rot = 0 ∧ (r.phase < rgDrain ∨ r.phase = rgRefused)) && !r.copyBound)
def State.copyDue (s : State) : Bool := s.regrows.any (fun r => decide (r.rot = 0) && r.copyBound)

/-- Layers that SECURE named for the boundary of step `n`; bit 3, layers as cadence (R440, R445). DEDUCED: log entry 29. -/
def State.namedLayers (s : State) (n : Nat) : Nat :=
  (s.sec.named.filter (fun x => decide (x.1 = 0 ∨ x.1 = n))).foldl (fun m x => m ||| x.2) 0

/-- DEDUCED: log entry 74. -/
def State.captureLayers (s : State) (cad haz ren : Bool) (fw : Nat) : List Nat :=
  let alone := !s.partnerOk
  let flash := (cad || ren) && (s.secCofed || alone) || haz && (alone || decide (s.rf .kprSecCtrlFlashOnHazard 0 = 1)) ||
    fw.testBit 1 || fw.testBit 2 || (decide (fw ≠ 0) && (s.secCofed || alone))
  -- with no drive working, captures that need flash go to the partner alone (R232)
  let partner := s.partnerOk && (cad || haz || ren || fw.testBit 0 || fw.testBit 3 || (flash && !s.flashOk))
  (if partner then [1] else []) ++ (if flash && s.flashOk then [2] else [])

/-- A cadence boundary passed without a securing. -/
def State.floorMissed (s : State) (step : Nat) : State :=
  if step % s.kMax = 0 then s.put .kprSecStatusFloorMissed 0 1 else s

/-- A boundary skipped (R235): counted, its record, released. -/
def State.skipBoundary (s : State) (step wtc hold : Nat) : State :=
  ((((s.secBump .kprSecSkippedCount).secRecord 2 0 0 s.secCofed hold step wtc hold).floorMissed step).releaseBoundary)

/-- A capture begins (R238): a WRITING generation on each layer, which waits for the storage port or the link share. -/
def State.beginCapture (s : State) (c : Capture) : State :=
  c.layers.foldl (fun t layer =>
    t.setGen (t.genSlot layer) (some {
      slot := t.driveSlot (t.genSlot layer), started := false,
      layer := layer, state := 1, coFed := t.secCofed, hazard := c.hazard, engine := t.rf .kprEngineEngine 0,
      drives := if layer = 2 then t.drivesOk else 0, step := c.step, wtc := c.wtc, bytes := t.copyBytes,
      mapDigest := t.mapDigest % 2 ^ 64, content := 0, committed := false, since := t.now, reason := c.reason, boundaryAt := c.since }))
    { s with sec := { s.sec with capture := some c, waiting := none } }

/-- What a boundary that is to be secured meets: a copy-fill regrowth skips it; a transplant, the commit before it or a
trickle from the holder makes it wait; else the capture begins. DEDUCED: log entry 74. -/
def State.secureNow (s : State) (c : Capture) : State :=
  if s.copyDue then ({ s with sec := { s.sec with waiting := none } }).skipBoundary c.step c.wtc (s.now - c.since)
  else if s.transplantDue || s.sec.capture.isSome ||
      (c.layers.contains 1 && s.sec.trickles.any (fun t => (s.gen t.src).any (fun g => decide (g.layer = 1)))) then
    { s with sec := { s.sec with waiting := some c } }
  else s.beginCapture c

/-- BOUNDARY_TAKE (R233, R234, R237). A boundary that waits is looked at again; none is taken during a hold, nor while a
rollback is asked for (R250, R254). DEDUCED: log entry 39. -/
def State.boundaryTake (s : State) : State :=
  -- not taken during a thermal hold (R304)
  if s.rf .kprMonStatusHold 0 = 1 then s else match s.sec.waiting with
  | some c => s.secureNow c
  | none =>
    match s.sec.adds with
    | [] => s
    | w :: rest =>
      if s.launch.running = false ∨ s.sec.needed = true ∨ s.sec.rollback.isSome ∨
         (s.sec.capture.any (fun c => !c.released)) = true then s
      else
        let step := (s.rf .kprSecStepStep 0 + 1) % 2 ^ 64
        let s1 := (s.put .semCountCount s.boundarySem (s.rf .semCountCount s.boundarySem - 1)).put .kprSecStepStep 0 step
        let cad := decide (step % s.kMax = 0)
        let haz := s.sec.hazRise
        let ren := s.sec.renewal
        let fw := s.namedLayers step
        let secures := decide (s1.rf .kprSecCtrlMapValid 0 = 1) && s1.fnOn .securing && (cad || haz || ren || decide (fw ≠ 0))
        let s1' := if secures then s1.latchCfg else s1
        let s2 := { s1' with sec := { s1'.sec with
          adds := rest, hazRise := false, renewal := false
          named := s1.sec.named.filter (fun x => decide (x.1 ≠ 0 ∧ x.1 ≠ step)) } }
        let layers := s2.captureLayers cad haz ren fw
        if secures && !layers.isEmpty then
          s2.secureNow {
            step := step, wtc := w, reason := if cad then 1 else if haz then 2 else if ren then 3 else 4, layers := layers,
            since := s2.now, hold := 0, released := false, toStore := fw.testBit 2, flashToo := false, hazard := haz, counted := false }
        else (s2.floorMissed step).releaseBoundary

/-- BOUNDARY_WAIT_EXPIRY (R235). -/
def State.boundaryExpiry (s : State) : State :=
  match s.sec.waiting with
  | some c =>
    if s.transplantDue = true ∧ c.since + 50000 ≤ s.now then
      ({ s with sec := { s.sec with waiting := none } }).skipBoundary c.step c.wtc (s.now - c.since)
    else s
  | none => s

/-! ### Captures and commits (R238, R239) -/

/-- A header that goes to the holder carries a tag under the session key (R247), over its 64 bytes. DEDUCED: log entry 75. -/
def tagHeader (key : Option Nat) (h : Nat) : Nat :=
  match key with
  | some k => h ||| hmacNat k (bytesOf h 0 64) <<< 512
  | none => h

/-- A generation that a trickle writes. -/
def State.ofTrickle (s : State) (n : Nat) : Bool := s.sec.trickles.any (fun t => decide (t.dst = n))

/-- Every transfer of the capture has been granted what it needs. -/
def State.captureStarted (s : State) : Bool :=
  s.genList.all (fun g => !(decide (g.2.state = 1) && !g.2.committed && !s.ofTrickle g.1) || g.2.started)

/-- CAPTURE_READS_DONE: every read has left the tiles, those of a tile in FILL not before its commit (R216); what was read has its content
digest. The boundary is released, unless a lost holder holds it until flash commits (R249); the closing message goes to the holder. -/
def State.readsDone (s : State) : State :=
  match s.sec.capture with
  | some c =>
    if c.released || c.flashToo || !s.captureStarted || s.regrows.any (fun r => decide (r.phase = rgFill)) then s
    else
      let content := s.copyDigest c.step
      let s0 := { s with sec := { s.sec with capture := some { c with content := content } } }
      let s1 := if c.layers.contains 1 then
          match s.genList.find? (fun g => decide (g.2.layer = 1 ∧ g.2.state = 1)), s.peerOf s.holder with
          | some g, some p =>
            let h := tagHeader s.sec.sessionKey (genHeader { g.2 with state := 2, content := content })
            { s0 with out := .closing s.holder (s.sent p.2.port s.holder) h :: s0.out }
          | _, _ => s0
        else s0
      s1.dropHold
  | none => s

/-- A capture or trickle starts that copies generation `src` to another layer. -/
def State.startTrickle (s : State) (src layer : Nat) : State :=
  match s.gen src with
  | some g =>
    let d := s.genSlot layer
    let s1 := s.setGen d (some { g with
      layer := layer, state := 1, drives := if layer = 2 then s.drivesOk else 0, committed := false,
      since := s.now, slot := s.driveSlot d, started := false })
    { s1 with sec := { s1.sec with trickles := s1.sec.trickles ++ [⟨src, d, s.now⟩] } }
  | none => s

/-- TRICKLE_START (R240): after a capture to the partner alone, and after flash copies; `store` when firmware named the
shared store. -/
def State.afterFlash (s : State) (n : Nat) (store : Bool) : State :=
  let k := s.sec.storeRun + 1
  if s.storeOk && (store || decide (Nat.max 1 (s.secCfg 12 4) ≤ k)) && s.fnOn .securing then
    ({ s with sec := { s.sec with storeRun := 0 } }).startTrickle n 3
  else { s with sec := { s.sec with storeRun := k } }

def State.afterPartner (s : State) (n : Nat) : State :=
  let k := s.sec.flashRun + 1
  if s.flashOk && decide (Nat.max 1 (s.secCfg 8 4) ≤ k) && s.fnOn .securing then
    ({ s with sec := { s.sec with flashRun := 0 } }).startTrickle n 2
  else { s with sec := { s.sec with flashRun := k } }

def layerCode : Layer → Nat
  | .partner => 1
  | .flash => 2
  | .store => 3

/-- COPY_COMMIT (R239): the generation's header is written, its record made. -/
def State.commitGen (s : State) (n : Nat) (g : Gen) (content hold : Nat) : State :=
  ((s.writeHeader { g with content := content } 2).setGen n (some { g with committed := true, content := content, hold := hold })).secRecord 1 g.reason g.layer g.coFed
    (s.now - g.boundaryAt) g.step g.wtc hold

/-- The copy of the capture commits on a layer (R239). DEDUCED: log entry 76. -/
def State.copyCommit (s : State) (layer : Nat) : State :=
  match s.sec.capture with
  | some c =>
    if c.layers.contains layer && (c.released || c.flashToo) then
      match s.genList.find? (fun g => decide (g.2.layer = layer ∧ g.2.state = 1 ∧ g.2.step = c.step) && !g.2.committed && g.2.started && !s.ofTrickle g.1) with
      | some (n, g) =>
        let content := if c.released then c.content else s.copyDigest c.step
        let hold := if c.released then c.hold else s.now - c.since
        let s1 := s.commitGen n g content hold
        let s2 := if c.counted then s1 else s1.secBump .kprSecSecuringsCount
        let rest := c.layers.filter (fun l => decide (l ≠ layer))
        let s3 := if layer = 2 then s2.dropHold else s2
        let c' := (s3.sec.capture.getD c)
        let done := { s3 with sec := { s3.sec with
          capture := if rest.isEmpty then none else some { c' with layers := rest, counted := true }
          flashRun := if layer = 2 then 0 else s3.sec.flashRun } }
        if layer = 2 then done.afterFlash n c.toStore
        else if rest.isEmpty && !done.genList.any (fun x => decide (x.2.layer = 2 ∧ x.2.step = g.step ∧ x.2.wtc = g.wtc)) then done.afterPartner n
        else done
      | none => s
    else s
  | none => s

/-- The copy that a trickle brings commits on its layer (R239, R240). -/
def State.trickleCommit (s : State) (layer : Nat) : State :=
  match s.sec.trickles.find? (fun t => (s.gen t.dst).any (fun g => decide (g.layer = layer) && g.started)) with
  | some t =>
    match s.gen t.dst with
    | some g =>
      let s1 := ({ s with sec := { s.sec with trickles := s.sec.trickles.filter (fun x => decide (x ≠ t)) } }).commitGen t.dst g g.content g.hold
      if layer = 2 then s1.afterFlash t.dst false else s1
    | none => s
  | none => s

/-- COPY_VALID (R239, R86). DEDUCED: log entry 66. -/
def State.copyValid (s : State) (n : Nat) : State :=
  match s.gen n with
  | some g => if g.state = 1 ∧ g.committed = true ∧ g.wtc + s.validDelay ≤ s.wtc then s.setGen n (some { g with state := 2 }) else s
  | none => s

/-! ### Layers that fail (R232, R242, R249, R252) -/

/-- The capture goes on without a layer; with none left it ends and lets its boundary go. -/
def State.captureWithout (s : State) (layer : Nat) : State :=
  match s.sec.capture with
  | some c =>
    if c.layers.contains layer then
      let rest := c.layers.filter (fun l => decide (l ≠ layer))
      if rest.isEmpty then
        let s1 := s.dropHold
        { s1 with sec := { s1.sec with capture := none } }
      else { s with sec := { s.sec with capture := some { c with layers := rest } } }
    else s
  | none => s

/-- The generation a layer is writing fails: it is LOST. -/
def State.failWriting (s : State) (layer : Nat) : State :=
  ((s.genList.filter (fun g => decide (g.2.layer = layer ∧ g.2.state = 1) && !g.2.committed)).foldl (fun t g =>
    ({ t with sec := { t.sec with trickles := t.sec.trickles.filter (fun x => decide (x.dst ≠ g.1)) } }).loseGen g.1) s).captureWithout layer

/-- A fallback: counted, its record of TYPE 3. -/
def State.fallback (s : State) (layer step wtc : Nat) (coFed : Bool) : State :=
  ((s.secBump .kprSecFallbacksCount).put .kprSecStatusFallbackSeen 0 1).secRecord 3 0 layer coFed 0 step wtc 0

/-- RELOAD_LAYER_FAIL (R252): the generation is LOST, FALLBACK is reported, and the next layer reloads afresh; each
regrowth whose fill moves on with it writes a record of OUTCOME FALLBACK (R207, R222). DEDUCED: log entry 90. -/
def State.reloadFail (s : State) : State :=
  match s.sec.rollback with
  | some r =>
    if r.phase = 2 then
      match r.gen.bind (fun n => (s.gen n).map (fun g => (n, g))) with
      | some (n, g) =>
        let s1 := (s.loseGen n).fallback g.layer g.step g.wtc g.coFed
        let s2 := if (s1.reloadSource r.step).isSome then
            (s1.regrows.filter (fun x => decide (x.phase = rgHanded))).foldl (fun t x => t.writeRegrow { x with layer := g.layer } 4 0) s1
          else s1
        s2.reloadNext
      | none => s.reloadNext
    else s
  | none => s

/-- The partner's copy is lost (R249): a reload from it moves on to the next layer (R216, R252). -/
def State.partnerCopyLost (s : State) : State :=
  let s1 := if s.sec.rollback.any (fun r => decide (r.phase = 2) && (r.gen.bind s.gen).any (fun g => decide (g.layer = 1))) then s.reloadFail else s
  (s1.loseLayer 1).noSource

/-- The transfer in progress on a layer: a capture or trickle being written, or the reload from it; and its start. -/
def State.layerSince (s : State) (layer : Nat) : Option Nat :=
  match s.genList.find? (fun g => decide (g.2.layer = layer ∧ g.2.state = 1) && !g.2.committed) with
  | some g => some g.2.since
  | none => none

def State.reloadSince (s : State) (layer : Nat) : Option Nat :=
  match s.sec.rollback with
  | some r => if r.phase = 2 ∧ (r.gen.bind s.gen).any (fun g => decide (g.layer = layer)) = true then some r.since else none
  | none => none

/-- SECURING_TIMEOUT (R242, R339, R340). DEDUCED: log entry 74. -/
def State.securingTimeout (s : State) (layer : Nat) : State :=
  let late := fun (x : Option Nat) => x.any (fun t => decide (t + s.secTimeout layer ≤ s.now))
  let counted := (s.bump .kprCmdTimeoutsCount 0 .kprHangStatusCountSat 0 1).sample 7 locKeeper [.log]
  if s.rf .kprMonStatusHold 0 = 1 then s else if late (s.reloadSince layer) then counted.reloadFail
  else if late (s.layerSince layer) then counted.failWriting layer
  else s

/-- DRIVE_FAILURE (R232): every flash copy that spans the drive is LOST. -/
def State.driveFailure (s : State) (d : Nat) : State :=
  if s.drivesOk.testBit d then
    let s0 := { s with sec := { s.sec with drives := Tab.set (fun _ => (0, 0)) s.sec.drives d (0, 0) } }
    let s1 := (s0.put .kprSecStatusDrivesOk 0 (s.drivesOk - 2 ^ d)).sample 6 locKeeper [.log]
    let hit := s1.genList.filter (fun g => decide (g.2.layer = 2) && g.2.drives.testBit d)
    let reload := s1.sec.rollback.any (fun r => decide (r.phase = 2) && hit.any (fun g => decide (r.gen = some g.1)))
    let writing := hit.any (fun g => decide (g.2.state = 1) && !g.2.committed)
    let s2 := if reload then s1.reloadFail else s1
    let s3 := if writing then s2.failWriting 2 else s2
    if hit.isEmpty then s1 else (hit.foldl (fun t g => t.loseGen g.1) s3).noSource
  else s

/-- A header found in a drive's slot, or in the shared store, enters the copy directory (R330, R476). -/
def State.adoptHeader (s : State) (slot raw : Nat) : State :=
  match readHeader raw with
  | some h =>
    if (h.state = 2 ∨ h.state = 3) ∧ 2 ≤ h.layer ∧
       !s.genList.any (fun g => decide (g.2.layer = h.layer ∧ g.2.step = h.step ∧ g.2.wtc = h.boundaryWtc)) then
      s.setGen (s.genSlot h.layer) (some { headerGen h s.now with slot := if h.layer = 2 then slot else 0 })
    else s
  | none => s

/-- STORAGE_PORT_READY: the drive is judged with the others, and the headers that it holds enter the copy directory. -/
def State.portReady (s : State) (d size blocks : Nat) (hs : List (Fin 4 × HeaderBytes)) : State :=
  let s1 := ({ s with sec := { s.sec with drives := Tab.set (fun _ => (0, 0)) s.sec.drives d (size, blocks) } }).judgeDrives
  if s1.drivesOk.testBit d then hs.foldl (fun t h => t.adoptHeader h.1.val h.2.toNat) s1 else s1

/-! ### Reloads (R251) -/

/-- A tadpole loaded by a rollback: its regrowth ends with OUTCOME ROLLBACK. -/
def State.handedLoaded (s : State) (r : Regrowth) : State :=
  let f := tileField r.failed
  let i := s.remapIndex f r.logical
  let dst := r.target.getD 0
  let s1 := match Tab.get (fun _ => none) s.remap (1024 * f + i) with
    | some m => s.setRemap f i (some { m with tadpole := false })
    | none => s
  let s2 := s1.setTile r.failed { s1.tile r.failed with stall := false, frozen := false, collarOut := true, collarIn := true }
  let s3 := s2.openTarget dst
  (s3.writeRegrow { r with layer := ((s3.sec.rollback.bind (fun x => x.gen)).bind s3.gen).elim 0 (fun g => g.layer) } 2 0).endRegrow r

/-- RELOAD_COMPLETE: the data lands, which leaves every block DIRTY (R158), and its content digest is checked; the step is set and the
barrier waited for. -/
def State.reloadComplete (s : State) (data : List (Fin 445440 × Fin 768 × BitVec 1024)) : State :=
  match s.sec.rollback with
  | some r =>
    if r.phase = 2 ∧ r.started = true then
      match r.gen.bind s.gen with
      | some g =>
        let s0 := { s.landCopy data with sealed := [] }
        if g.content = s0.copyDigest r.step then
          let s1 := (s.regrows.filter (fun x => decide (x.phase = rgHanded ∧ x.rot = 0))).foldl State.handedLoaded (s0.put .kprSecStepStep 0 r.step)
          let s2 := s1.setRollback (some { r with phase := 3 })
          if s2.recState ≠ 0 then s2.setRec 6 else s2
        else s0.reloadFail
      | none => s
    else s
  | none => s

/-! ### The holder's side (R239) -/

/-- Parked closing messages whose writes have all landed are applied, oldest first. -/
def State.applyClosings (s : State) : State :=
  s.sec.closings.foldl (fun t c =>
    if serialGe (t.landed c.port c.source) c.fseq then
      { t with sec := { t.sec with closings := t.sec.closings.filter (fun x => decide (x ≠ c)), held := some (headerGen c.header t.now) },
               out := .closingAck c.port c.source :: t.out }
    else t) s

/-- HOLDER_CLOSING_MESSAGE: from the client alone. One from a reserved source is discarded and counted (R15), and so is one whose tag
does not verify under the session key (R247). DEDUCED: log entry 75. -/
def State.closingMessage (s : State) (k source fseq raw : Nat) : State :=
  if engineReserved source || s.sec.clientKey.any (fun key => decide (bits raw 512 256 ≠ hmacNat key (bytesOf raw 0 64))) then
    s.setWarden k { s.warden k with discards := (s.warden k).discards + 1 }
  else match readHeader raw with
  | some h =>
    if s.rf .kprSecPairClientValid 0 = 1 ∧ s.rf .kprSecPairClient 0 = source then
      ({ s with sec := { s.sec with closings := s.sec.closings ++ [({ port := k, source := source, fseq := fseq, header := h } : Closing)] } }).applyClosings
    else s
  | none => s

/-! ### The storage port and the link share (R148, R265) -/

/-- Who asks: 0 the transfer of a generation, 1 the reload, 2 the re-issue of a port's roll call; and of what. -/
structure SecAsk where
  cls  : Nat
  idx  : Nat
  kind : Nat
  n    : Nat
deriving DecidableEq, Repr

/-- Generations being written whose transfer has not been granted. -/
def State.gensWaiting (s : State) : List (Nat × Gen) := s.genList.filter (fun g => decide (g.2.state = 1) && !g.2.committed && !g.2.started)

/-- The layer that a reload not yet granted draws on. -/
def State.reloadLayer (s : State) : Option Nat :=
  match s.sec.rollback with
  | some r => if r.phase = 2 ∧ r.started = false then (r.gen.bind s.gen).map (fun g => g.layer) else none
  | none => none

/-- A trickle whose source is the partner's copy. -/
def State.fromPartner (s : State) (n : Nat) : Bool := s.sec.trickles.any (fun t => decide (t.dst = n) && (s.gen t.src).any (fun g => decide (g.layer = 1)))

/-- What asks for the storage port: 0 capture, 1 trickle, 2 reload. -/
def State.storageAsks (s : State) : List SecAsk :=
  (s.gensWaiting.filter (fun g => s.ofTrickle g.1 || decide (g.2.layer = 2))).map (fun g => ⟨clsSecuring, bit (s.ofTrickle g.1), 0, g.1⟩) ++
    (if s.reloadLayer = some 2 then [⟨clsRecovery, 2, 1, 0⟩] else [])

/-- What asks for the link share, by link port. -/
def State.linkAsks (s : State) : List SecAsk :=
  (s.gensWaiting.filter (fun g => (decide (g.2.layer = 1) && !s.ofTrickle g.1) || s.fromPartner g.1)).map (fun g => ⟨clsSecuring, s.holderPort, 0, g.1⟩) ++
    (if s.reloadLayer = some 1 then [⟨clsRecovery, s.holderPort, 1, 0⟩] else []) ++
    ((List.range 16).filter s.reissueWaits).map (fun k => ⟨clsRecovery, k, 2, k⟩)

/-- The transfer begins. -/
def State.beginSec (s : State) (a : SecAsk) : State :=
  if a.kind = 2 then s.reissueGranted a.n
  else if a.kind = 1 then
    match s.sec.rollback with
    | some r =>
      let reads := ((r.gen.bind s.gen).map (fun g => if g.layer = 2 then g.transfer false else [])).getD []
      { s.setRollback (some { r with started := true }) with out := reads.reverse ++ s.out }
    | none => s
  else
    match s.gen a.n with
    | some g =>
      let src := (s.sec.trickles.find? (fun t => decide (t.dst = a.n))).bind (fun t => s.gen t.src)
      let io := if g.layer = 2 then g.transfer true else (src.map (fun x => if x.layer = 2 then x.transfer false else [])).getD []
      { s.setGen a.n (some { g with started := true }) with out := io.reverse ++ s.out }
    | none => s

/-- The grants of a tick: one transfer takes the storage port, one the link share. A trickle from the partner begins only with both. A
reload from the shared store needs neither. DEDUCED: log entry 76. -/
def State.securingGrants (s : State) : State :=
  let w1 := arbitrate SecAsk.cls SecAsk.idx (s.rotor rotStorage) s.storageAsks
  let w2 := arbitrate SecAsk.cls SecAsk.idx (s.rotor rotLink) s.linkAsks
  let both := fun (a : SecAsk) (o : Option SecAsk) => !(decide (a.kind = 0) && s.fromPartner a.n) || o.any (fun b => decide (b.kind = 0 ∧ b.n = a.n))
  let s1 : State := match w1 with
    | some a => if both a w2 then (s.beginSec a).rotate rotStorage a.idx else s
    | none => s
  let s2 : State := match w2 with
    | some a =>
      if both a w1 then (if a.kind = 0 ∧ s.fromPartner a.n = true then s1 else s1.beginSec a).rotate rotLink a.idx else s1
    | none => s1
  if s2.reloadLayer = some 3 then s2.beginSec ⟨clsRecovery, 0, 1, 0⟩ else s2

/-! ### Rows -/

/-- BOUNDARY_TAKE (R233). -/
def execBoundaryTake (s : State) : Host.Outcome State Fault Refusal := .next s.boundaryTake

/-- CAPTURE_READS_DONE (R238). -/
def execCaptureReadsDone (s : State) : Host.Outcome State Fault Refusal := .next s.readsDone

/-- HOLDER_CLOSING_MESSAGE (R239). -/
def execHolderClosingMessage (k : Fin 16) (source : BitVec 15) (fseq : BitVec 32) (header : ClosingBytes) (s : State) :
    Host.Outcome State Fault Refusal := .next (s.closingMessage k.val source.toNat fseq.toNat header.toNat)

/-- COPY_COMMIT (R239): the capture's copy on a layer, or a trickle's. -/
def execCopyCommit (layer : Layer) (trickle : Bool) (s : State) : Host.Outcome State Fault Refusal :=
  .next (if trickle then s.trickleCommit (layerCode layer) else s.copyCommit (layerCode layer))

/-- COPY_VALID (R239). -/
def execCopyValid (index : Fin 12) (s : State) : Host.Outcome State Fault Refusal := .next (s.copyValid index.val)

/-- SECURING_TIMEOUT (R242). -/
def execSecuringTimeout (layer : Layer) (s : State) : Host.Outcome State Fault Refusal := .next (s.securingTimeout (layerCode layer))

/-- DRIVE_FAILURE (R232). -/
def execDriveFailure (drive : Fin 16) (s : State) : Host.Outcome State Fault Refusal := .next (s.driveFailure drive.val)

/-- RELOAD_LAYER_FAIL (R252). -/
def execReloadLayerFail (s : State) : Host.Outcome State Fault Refusal := .next s.reloadFail

/-- BOUNDARY_WAIT_EXPIRY (R235). -/
def execBoundaryWaitExpiry (s : State) : Host.Outcome State Fault Refusal := .next s.boundaryExpiry

/-- STORAGE_PORT_READY (R330). -/
def execStoragePortReady (drive : Fin 16) (found : DriveFound) (s : State) : Host.Outcome State Fault Refusal :=
  .next (s.portReady drive.val found.blockSize found.blocks found.headers)

end Sys2Proof.Machine
end

