-- ==== Sys2Proof/Machine/Partners.lean ====
section
/-! DEFINITION. Partners: the Partner Directory, the choice of a holder, pairing, loss and pause, management messages, and
the key store (08_securing_and_rollback.md R245 to R249; 14_host_port_ndoquel.md R407, R411 to R414; 05_digests.md R153,
R154). -/

namespace Sys2Proof.Machine

/-! ### The Partner Directory (R245, R246) -/

def State.setPeer (s : State) (n : Nat) (p : Option Peer) : State :=
  { s with sec := { s.sec with peers := Tab.set (fun _ => none) s.sec.peers n p } }
def State.peerAt (s : State) (n : Nat) : Option Peer := Tab.get (fun _ => none) s.sec.peers n
def State.peerList (s : State) : List (Nat × Peer) := (List.range 64).filterMap (fun n => (s.peerAt n).map (fun p => (n, p)))

/-- A role of a peer cleared or given. -/
def State.setRole (s : State) (e role : Nat) : State :=
  match s.peerOf e with
  | some (n, p) => s.setPeer n (some { p with role := role })
  | none => s

/-! ### Choosing a holder (R247, R248) -/

def State.copyMib (s : State) : Nat := (s.copyBytes + 2 ^ 20 - 1) / 2 ^ 20

def State.eligible (s : State) (p : Peer) : Bool :=
  decide (p.state = 1) && p.versions.testBit 0 && (!p.holdsClient || decide (p.role = 1)) && decide (s.copyMib ≤ p.reserve) &&
  (decide (p.feed ≠ s.feedId) || (decide (s.rf .kprSecCtrlForceCofed 0 = 1) && decide (0 < s.driveCount)))

/-- Distance of an engine ID above this wafer's own, wrapping. -/
def State.above (s : State) (e : Nat) : Nat := (e + 2 ^ 15 - s.engine - 1) % 2 ^ 15

def State.nextHolder (s : State) : Option Nat :=
  let ok := s.peerList.filter (fun p => s.eligible p.2 && !s.sec.tried.contains p.2.engine)
  match ok.find? (fun p => decide (some p.2.engine = s.sec.hostNamed)) with
  | some p => some p.2.engine
  | none => (ok.foldl (fun acc p => match acc with
      | none => some p.2.engine
      | some a => if s.above p.2.engine < s.above a then some p.2.engine else some a) none)

/-- The next candidate is asked, or NO_PARTNER is set and croaked. -/
def State.askHolder (s : State) : State :=
  match s.nextHolder with
  | some e =>
    ({ s with sec := { s.sec with asked := some e, tried := e :: s.sec.tried, hostNamed := if s.sec.hostNamed = some e then none else s.sec.hostNamed } }).sendMgmt
      mgPairReq e s.copyBytes (s.rf .kprLaunchWtcWtcGo 0) s.jobKey
  | none => (({ s with sec := { s.sec with asked := none } }).put .kprSecStatusNoPartner 0 1).croak 0x0D 1 0

/-- HOLDER_CHOICE (R247): begun afresh. DEDUCED: log entry 75. -/
def State.chooseHolder (s : State) : State :=
  if s.rf .kprSecCtrlPartnerEn 0 = 1 ∧ s.rf .kprSecCtrlMapValid 0 = 1 then ({ s with sec := { s.sec with tried := [] } }).askHolder
  else s.put .kprSecStatusNoPartner 0 1

/-! ### Losing a partner (R249) -/

/-- The notice of a partner lost (R432, code 0x83), in the link class. -/
def State.partnerNotice (s : State) (port engine : Nat) : State :=
  s.sample 6 locKeeper [evNotice 12 32 0 0x83 0 (pack [(0, 8, port), (8, 8, 127), (16, 16, engine)])]

/-- A capture meets the loss of its partner layer: it goes on to flash with the hold kept until flash commits, and FALLBACK
is reported; with no flash it ends. -/
def State.captureFallback (s : State) : State :=
  match s.sec.capture with
  | some c =>
    if c.layers.contains 1 then
      let rest := c.layers.filter (fun l => decide (l ≠ 1))
      if rest.contains 2 then
        ({ s with sec := { s.sec with capture := some { c with layers := rest, flashToo := true } } }).fallback 1 c.step c.wtc s.secCofed
      else if s.flashOk ∧ c.released = false then
        (s.beginCapture { c with layers := [2], flashToo := true }).fallback 1 c.step c.wtc s.secCofed
      else (s.fallback 1 c.step c.wtc s.secCofed).captureWithout 1
    else s
  | none => s

/-- The pairing with the holder is over: its generation LOST, renewal due, a new holder chosen. -/
def State.holderGone (s : State) : State :=
  let s1 := (s.captureFallback.partnerCopyLost).setRole (s.rf .kprSecPairHolder 0) 0
  let s2 := (s1.puts [(.kprSecPairHolderValid, 0, 0), (.kprSecStatusCofed, 0, 0)])
  (({ s2 with sec := { s2.sec with renewal := true, sessionKey := none } }).secRecord 8 0 0 false 0 0 0 0).chooseHolder

/-- PARTNER_LOSS at the client: it counts for the hazard index. -/
def State.holderLost (s : State) (port : Nat) : State :=
  (({ s with hz := { s.hz with partnerAt := some s.now } }).partnerNotice port (s.rf .kprSecPairHolder 0)).holderGone

/-- The client is lost: its copy is kept for HOLD_LOST_S. -/
def State.clientLost (s : State) : State := { s with sec := { s.sec with clientLostAt := some s.now } }

/-- A peer becomes LOST. -/
def State.peerLost (s : State) (n : Nat) (p : Peer) : State :=
  let s1 := s.setPeer n (some { p with state := 3, role := 0, mark := s.now })
  if p.role = 1 then s1.holderLost p.port
  else if p.role = 2 then s1.clientLost
  else s1

/-- Every ACTIVE peer reached over a port is lost with the port (R246, R326). -/
def State.linkDown (s : State) (k : Nat) : State :=
  (s.peerList.filter (fun p => decide (p.2.port = k ∧ p.2.state = 1))).foldl (fun t p => t.peerLost p.1 p.2) s

/-! ### Messages (R411 to R414) -/

def State.mgmtDiscard (s : State) (k : Nat) : State := s.setWarden k { s.warden k with discards := (s.warden k).discards + 1 }

/-- The tag of a message under a key (R411): HMAC-SHA-256 over bytes 0 to 47. -/
def mgmtTag (key b : Nat) : Bool := decide (bits b 8 1 = 1) && decide (bits b 384 256 = hmacNat key (bytesOf b 0 48))

/-- A message of a type passes: CRC, VERSION, SOURCE, DEST, and its tag where a key stands for it. -/
def State.mgmtOk (s : State) (m : MgmtMsg) (ty : Nat) (key : Option Nat) : Bool :=
  let b := m.toNat
  recordOk b 46 && decide (bits b 4 4 = ty) && !engineReserved (bits b 16 15) &&
  (if ty ≤ 2 then true else decide (bits b 32 15 = s.engine)) &&
  (decide (ty < 3) || key.all (fun k => mgmtTag k b))

def mSource (m : MgmtMsg) : Nat := bits m.toNat 16 15
def mArg0 (m : MgmtMsg) : Nat := bits m.toNat 128 64
def mArg1 (m : MgmtMsg) : Nat := bits m.toNat 192 64

def peerFrom (k now : Nat) (m : MgmtMsg) : Peer :=
  { engine := mSource m, feed := bits m.toNat 48 8, versions := bits m.toNat 56 3, grade := bits m.toNat 59 2, state := 1, role := 0, missed := 0
    reserve := bits m.toNat 64 32, seen := now % 2 ^ 32, mark := now, holdsClient := decide (bits m.toNat 9 1 = 1), port := k }

/-- The LOST entry with the oldest LAST_HELLO. -/
def State.oldestLost (s : State) : Option Nat :=
  ((s.peerList.filter (fun p => decide (p.2.state = 3))).foldl (fun acc p => match acc with
    | none => some p
    | some a => if serialAfter a.2.seen p.2.seen then some p else some a) none).map (fun p => p.1)

/-- HELLO_RECEIVE (R245, R246). -/
def State.helloReceive (s : State) (k : Nat) (m : MgmtMsg) : State :=
  if s.mgmtOk m mgHello none then
    let p := peerFrom k s.now m
    match s.peerOf p.engine with
    | some (n, q) =>
      if q.state = 1 then s.setPeer n (some { p with role := q.role })
      else if q.state = 2 then
        if 0 < p.reserve then
          let s1 := s.setPeer n (some { p with role := q.role })
          if q.role = 1 then { s1 with sec := { s1.sec with renewal := true } } else s1
        else s.setPeer n (some { p with role := q.role, state := 2 })
      else s.setPeer n (some p)
    | none =>
      -- a new peer: discovery runs on from here (R324)
      let s' := { s with boot := { s.boot with lastPeer := s.now } }
      match (List.range 64).find? (fun n => (s.peerAt n).isNone) with
      | some n => s'.setPeer n (some p)
      | none =>
        match s.oldestLost with
        | some n => s'.setPeer n (some p)
        | none => { s with sec := { s.sec with ignoredHellos := s.sec.ignoredHellos + 1 } }
  else s.mgmtDiscard k

/-- HELLO_MISSED (R246). -/
def State.helloMissed (s : State) (e : Nat) : State :=
  match s.peerOf e with
  | some (n, p) =>
    if p.state = 1 ∧ p.mark + 100000 ≤ s.now then
      if p.missed < 2 then s.setPeer n (some { p with missed := p.missed + 1, mark := s.now }) else s.peerLost n { p with missed := 3 }
    else s
  | none => s

/-- PAUSE_RECEIVE (R246, R249): a paused holder's generation is LOST and the pairing kept; the renewal waits for its return. -/
def State.pauseReceive (s : State) (k : Nat) (m : MgmtMsg) : State :=
  if s.mgmtOk m mgPause none then
    match s.peerOf (mSource m) with
    | some (n, p) =>
      if p.state = 1 then
        let s1 := s.setPeer n (some { p with state := 2, mark := s.now })
        if p.role = 1 then
          let s2 := s1.captureFallback.partnerCopyLost
          { s2 with sec := { s2.sec with renewal := s.sec.renewal } }
        else s1
      else s
    | none => s
  else s.mgmtDiscard k

/-- PAUSED_TIMEOUT (R246). -/
def State.pausedTimeout (s : State) (e : Nat) : State :=
  match s.peerOf e with
  | some (n, p) => if p.state = 2 ∧ p.mark + 3000000 ≤ s.now then s.peerLost n p else s
  | none => s

/-- HOLD_LOST_TIMEOUT (R249). -/
def State.holdLostTimeout (s : State) : State :=
  match s.sec.clientLostAt with
  | some t =>
    if t + 1000000 * s.secCfg 20 12 ≤ s.now then
      ({ s with sec := { s.sec with clientLostAt := none, held := none, clientKey := none, closings := [] } }).put .kprSecPairClientValid 0 0
    else s
  | none => s

/-- VOID_RECEIVE: from the client, its copy is VOID (R414); from the holder, the partner generation is LOST (R249). DEDUCED: log entry 75. -/
def State.voidReceive (s : State) (k : Nat) (m : MgmtMsg) : State :=
  let client := decide (s.rf .kprSecPairClientValid 0 = 1 ∧ s.rf .kprSecPairClient 0 = mSource m)
  let mine := decide (s.rf .kprSecPairHolderValid 0 = 1 ∧ s.rf .kprSecPairHolder 0 = mSource m) && !client
  if s.mgmtOk m mgVoid (if mine then s.holderKey else s.clientAuth) then
    if mine then (s.captureWithout 1).partnerCopyLost
    else match s.sec.held with
    | some g =>
      if s.rf .kprSecPairClientValid 0 = 1 ∧ s.rf .kprSecPairClient 0 = mSource m ∧ mArg0 m ≤ g.wtc then
        { s with sec := { s.sec with held := some { g with state := 3 } } }
      else s
    | none => s
  else s.mgmtDiscard k

/-- The session key of a pairing (R413). -/
def sessionKeyOf (key client holder launch : Nat) : Nat := hmacNat key (bytesOf client 0 2 ++ bytesOf holder 0 2 ++ bytesOf launch 0 8)

/-- Reason to refuse a client from this side (R247): 0 none. -/
def State.pairReason (s : State) (m : MgmtMsg) : Nat :=
  if s.rf .kprSecPairClientValid 0 = 1 ∧ s.rf .kprSecPairClient 0 ≠ mSource m then 1
  else if s.reserveMib < (mArg0 m + 2 ^ 20 - 1) / 2 ^ 20 then 2
  else if bits m.toNat 48 8 = s.feedId ∧ s.rf .kprSecCtrlForceCofed 0 = 0 then 3
  else if bits m.toNat 56 1 = 0 then 4
  else 0

/-- DEDUCED: log entry 75. -/
def State.takeClient (s : State) (m : MgmtMsg) : State :=
  let src := mSource m
  let s1 := ((if s.rf .kprSecPairClientValid 0 = 1 then s.setRole (s.rf .kprSecPairClient 0) 0 else s).setRole src 2).puts
    [(.kprSecPairClient, 0, src), (.kprSecPairClientValid, 0, 1)]
  let s2 := s1.sendMgmt mgPairAck src 0 0 s1.jobKey
  let sent := match s2.out with | .mgmt _ b :: _ => b | _ => 0
  { s2 with sec := { s2.sec with
      clientAt := s2.now, ackSent := sent, held := none, closings := [], clientLostAt := none
      clientKey := s2.jobKey.map (fun key => sessionKeyOf key src s2.engine (mArg1 m)) } }

/-- PAIR_REQ_RECEIVE (R413): of two requests in one tick the lower SOURCE is taken. DEDUCED: log entry 75. -/
def State.pairReq (s : State) (k : Nat) (m : MgmtMsg) : State :=
  if s.mgmtOk m mgPairReq s.jobKey then
    let src := mSource m
    let old := s.rf .kprSecPairClient 0
    let why := s.pairReason m
    if why = 1 ∧ s.sec.clientAt = s.now ∧ src < old ∧ (s.put .kprSecPairClientValid 0 0).pairReason m = 0 then
      let s1 := { s with out := s.out.filter (fun o => decide (o ≠ Out.mgmt old s.sec.ackSent)) }
      (s1.sendMgmt mgPairNak old 1 0 s1.jobKey).takeClient m
    else if why = 0 then s.takeClient m
    else s.sendMgmt mgPairNak src why 0 s.jobKey
  else s.mgmtDiscard k

/-- PAIR_ACK_RECEIVE (R413): the pairing completes. -/
def State.pairAck (s : State) (k : Nat) (m : MgmtMsg) : State :=
  if s.mgmtOk m mgPairAck s.jobKey then
    let src := mSource m
    if s.sec.asked = some src then
      let cofed := decide (bits m.toNat 48 8 = s.feedId)
      let old := s.rf .kprSecPairHolder 0
      -- a change of holder ends the pairing with the one held before
      let s0 := if s.rf .kprSecPairHolderValid 0 = 1 ∧ old ≠ src then
          ((s.sendMgmt mgPairEnd old 0 0 s.holderKey).partnerCopyLost).setRole old 0 else s
      let s1 := (s0.setRole src 1).puts [(.kprSecPairHolder, 0, src), (.kprSecPairHolderValid, 0, 1), (.kprSecStatusNoPartner, 0, 0),
        (.kprSecStatusCofed, 0, bit cofed)]
      ({ s1 with sec := { s1.sec with
          asked := none, tried := [], renewal := true
          sessionKey := s1.jobKey.map (fun key => sessionKeyOf key s1.engine src (s1.rf .kprLaunchWtcWtcGo 0)) } }).secRecord
        8 0 0 cofed 0 0 0 0
    else s
  else s.mgmtDiscard k

/-- PAIR_NAK_RECEIVE (R247). -/
def State.pairNak (s : State) (k : Nat) (m : MgmtMsg) : State :=
  if s.mgmtOk m mgPairNak s.jobKey then (if s.sec.asked = some (mSource m) then s.askHolder else s)
  else s.mgmtDiscard k

/-- PAIR_END_RECEIVE (R413): ends the pairing as a loss. -/
def State.pairEnd (s : State) (k : Nat) (m : MgmtMsg) : State :=
  let src := mSource m
  let mine := decide (s.rf .kprSecPairHolderValid 0 = 1 ∧ s.rf .kprSecPairHolder 0 = src)
  if s.mgmtOk m mgPairEnd (if mine then s.holderKey else s.clientAuth) then
    if mine then s.holderLost k
    else if s.rf .kprSecPairClientValid 0 = 1 ∧ s.rf .kprSecPairClient 0 = src then (s.setRole src 0).clientLost
    else s
  else s.mgmtDiscard k

/-- A HELLO to every peer, with the VOID that a holder may have missed (R412, R414). -/
def State.sendHello (s : State) : State :=
  let s1 := ({ s with sec := { s.sec with helloAt := s.now } }).sendMgmt mgHello 0x7FFF 0 0 none
  match s1.sec.lastVoid with
  | some w =>
    if s1.rf .kprSecPairHolderValid 0 = 1 ∧ s1.genList.any (fun g => decide (g.2.layer = 1 ∧ g.2.state = 3)) = true then
      s1.sendMgmt mgVoid s1.holder w 0 s1.holderKey
    else s1
  | none => s1

def State.anyPortUp (s : State) : Bool := (List.range 16).any (fun k => decide (s.rf .lwdPortStatusPortUp k = 1))

/-- HELLO_SEND (R412, R461). DEDUCED: log entry 75. -/
def State.helloSend (s : State) : State :=
  if s.boot.trained = true ∧ s.engineValid = true ∧ s.anyPortUp = true ∧ s.sec.helloAt + 100000 ≤ s.now then s.sendHello else s

/-- A pause notice to every peer (R331). -/
def State.sendPause (s : State) : State :=
  if s.peerList.isEmpty then s else s.sendMgmt mgPause 0x7FFF 0 0 none

/-- PAIR (R407). -/
def State.pairCommand (s : State) (cid e : Nat) : State :=
  if engineReserved e ∧ e ≠ 0x7FFF then s.respond 0x31 cid 7 1 0
  else
    let s1 := { s with sec := { s.sec with hostNamed := if e = 0x7FFF then none else some e } }
    let s2 := if e ≠ 0x7FFF ∧ s1.launch.running = true ∧ s1.rf .kprSecPairHolderValid 0 = 0 then s1.chooseHolder else s1
    s2.respond 0x31 cid 0 1 s2.holder

/-! ### The key store (R153, R154) -/

/-- The key store is zeroised; during or at the end of a launch the pairing ends with it. -/
def State.zeroise (s : State) (launchEnd : Bool) : State :=
  let had := s.jobKey.isSome || s.sec.sessionKey.isSome
  let s1 := if launchEnd && had && decide (s.rf .kprSecPairHolderValid 0 = 1) then s.sendMgmt mgPairEnd s.holder 0 0 s.holderKey else s
  let s2 := ({ s1 with jobKey := none, sec := { s1.sec with sessionKey := none, clientKey := none } }).puts
    [(.kprDigKeyLoaded, 0, 0), (.kprDigKeyTagsActive, 0, 0), (.kprDigKeyZeroisePending, 0, 0)]
  if launchEnd && had && decide (s.rf .kprSecPairHolderValid 0 = 1) then s2.holderGone else s2

/-- An attachment has ended (R153): at once with no launch running, else pending. -/
def State.zeroiseDetach (s : State) : State :=
  if s.launch.running then s.put .kprDigKeyZeroisePending 0 1 else s.zeroise false

/-- The end of a launch: a pending zeroisation takes effect. -/
def State.zeroisePending (s : State) : State := if s.rf .kprDigKeyZeroisePending 0 = 1 then s.zeroise true else s

/-- JOB_KEY, load (R407). -/
def State.keyLoad (s : State) (cid key : Nat) : State :=
  if s.launch.running then s.respond 0x30 cid 9 1 0
  else if key = 0 then s.respond 0x30 cid 7 1 0
  else (({ s with jobKey := some key }).put .kprDigKeyLoaded 0 1).respond 0x30 cid 0 1 0

/-! ### Rows -/

/-- HELLO_SEND (R412). -/
def execHelloSend (s : State) : Host.Outcome State Fault Refusal := .next s.helloSend

/-- HELLO_RECEIVE (R246). -/
def execHelloReceive (port : Fin 16) (msg : MgmtMsg) (s : State) : Host.Outcome State Fault Refusal := .next (s.helloReceive port.val msg)

/-- HELLO_MISSED (R246). -/
def execHelloMissed (engine : BitVec 15) (s : State) : Host.Outcome State Fault Refusal := .next (s.helloMissed engine.toNat)

/-- PAUSE_RECEIVE (R246). -/
def execPauseReceive (port : Fin 16) (msg : MgmtMsg) (s : State) : Host.Outcome State Fault Refusal := .next (s.pauseReceive port.val msg)

/-- PAUSED_TIMEOUT (R246). -/
def execPausedTimeout (engine : BitVec 15) (s : State) : Host.Outcome State Fault Refusal := .next (s.pausedTimeout engine.toNat)

/-- HOLD_LOST_TIMEOUT (R249). -/
def execHoldLostTimeout (s : State) : Host.Outcome State Fault Refusal := .next s.holdLostTimeout

/-- VOID_RECEIVE (R414). -/
def execVoidReceive (port : Fin 16) (msg : MgmtMsg) (s : State) : Host.Outcome State Fault Refusal := .next (s.voidReceive port.val msg)

/-- PAIR_REQ_RECEIVE (R413). -/
def execPairReqReceive (port : Fin 16) (msg : MgmtMsg) (s : State) : Host.Outcome State Fault Refusal := .next (s.pairReq port.val msg)

/-- PAIR_ACK_RECEIVE (R413). -/
def execPairAckReceive (port : Fin 16) (msg : MgmtMsg) (s : State) : Host.Outcome State Fault Refusal := .next (s.pairAck port.val msg)

/-- PAIR_NAK_RECEIVE (R247). -/
def execPairNakReceive (port : Fin 16) (msg : MgmtMsg) (s : State) : Host.Outcome State Fault Refusal := .next (s.pairNak port.val msg)

/-- PAIR_END_RECEIVE (R413). -/
def execPairEndReceive (port : Fin 16) (msg : MgmtMsg) (s : State) : Host.Outcome State Fault Refusal := .next (s.pairEnd port.val msg)

/-- PAIR (R407). -/
def execPair (cid : BitVec 32) (holder : BitVec 15) (s : State) : Host.Outcome State Fault Refusal :=
  .next (s.asHost 0x31 cid.toNat (fun t => t.pairCommand cid.toNat holder.toNat))

/-- JOB_KEY, load (R407). -/
def execJobKeyLoad (cid : BitVec 32) (key : BitVec 256) (s : State) : Host.Outcome State Fault Refusal :=
  .next (s.asHost 0x30 cid.toNat (fun t => t.keyLoad cid.toNat key.toNat))

/-- JOB_KEY, zeroise (R153). -/
def execJobKeyZeroise (cid : BitVec 32) (s : State) : Host.Outcome State Fault Refusal :=
  .next (s.asHost 0x30 cid.toNat (fun t => (t.zeroise t.launch.running).respond 0x30 cid.toNat 0 1 0))

end Sys2Proof.Machine
end

