-- ==== Sys2Proof/Machine/Launch.lean ====
section
/-! DEFINITION. Stage Reports, programs, the Wafer Time Counter, launches and their barrier, the rollback command and its
release, and the Run Digest (07_quarantine_and_regrowth.md R211; 08_securing_and_rollback.md R250, R251;
09_ticks_order_sync.md R275 to R278; 11_bring_up_and_resets.md R327, R328; 13_reproducibility.md R372 to R377). -/

namespace Sys2Proof.Machine

/-! ### Stage Reports (R327) -/

def State.portsDown (s : State) : Nat := maskOf 16 (fun k => decide (s.rf .lwdPortStatusPortUp k = 0))

/-- The payload of a Stage Report, from byte 16. -/
def State.stagePayload (s : State) (stage kind : Nat) (halted : Bool) (code ticks detail : Nat) : Nat :=
  pack [(0, 4, stage), (4, 2, kind), (8, 1, bit halted), (16, 16, code), (32, 32, ticks), (64, 64, s.now),
    (128, 32, s.rf .kprFieldsDroppedDropped 0), (160, 32, s.rf .kprLedgerDisputedFields 0), (192, 32, s.rf .kprLedgerShortFields 0),
    (224, 16, s.portsDown), (256, 64, detail)]

/-- The report of a launch check: STAGE 7 and KIND 2. -/
def State.launchReport (s : State) (code detail : Nat) : State := s.sendMsg 3 0 1 0 0 (s.stagePayload 7 2 false code 0 detail)

/-! ### The run and its digest (R372 to R377) -/

/-- The profile block, bytes 96 to 111 of R374. -/
def State.profile (s : State) : Nat :=
  pack [(0, 8, 1), (8, 2, s.fuses.grade), (16, 16, s.fuses.stepping), (32, 12, s.clock), (48, 12, s.cap)]

def State.programDigest (s : State) : Nat := s.rf .kprProgramDigestDigest 0

/-- The Run Digest formed from its inputs as they stand (R374). -/
def State.runDigest (s : State) : Nat :=
  shaNat (bytesOf s.programDigest 0 32 ++ bytesOf s.run.weights 0 32 ++ bytesOf s.run.input 0 32 ++ bytesOf s.profile 0 16)

/-- RUN_DIGEST_RECOMPUTE (R376). DEDUCED: log entry 39. -/
def State.runRecompute (s : State) : State :=
  if s.run.stale then ({ s with run := { s.run with stale := false } }).put .kprRunDigestDigest 0 s.runDigest else s

/-- An input of the Run Digest has changed. -/
def State.runStale (s : State) : State := { s with run := { s.run with stale := true } }

/-- The run record (R376), 96 bytes. -/
def State.runRecord (s : State) : Nat :=
  let body := pack [(0, 8, 1), (8, 1, s.rf .kprRunStatusProfileMatch 0), (9, 1, s.rf .kprRunStatusWeightsSet 0),
    (10, 1, s.rf .kprRunStatusInputSet 0), (11, 1, s.rf .kprRunStatusProgramChanged 0), (12, 1, s.rf .kprRunStatusTimeDependent 0),
    (13, 1, bit s.jobKey.isSome), (16, 15, s.engine), (64, 64, s.rf .kprLaunchWtcWtcGo 0), (128, 64, s.rf .kprSecStepStep 0),
    (192, 32, s.run.rollbacks), (224, 32, s.run.regrowths), (256, 256, s.rf .kprRunDigestDigest 0)]
  match s.jobKey with
  | some k => body ||| hmacNat k (bytesOf body 0 64) <<< 512
  | none => body

/-- RUN_DIGEST, OP 0: the record with every change of the tick in which it is applied (R52, R376). -/
def State.runQuery (s : State) (cid : Nat) : State :=
  let s1 := s.runRecompute
  s1.respond 0x70 cid 0 2 s1.runRecord

/-- RUN_DIGEST, OP 1 and OP 2 (R373). -/
def State.setWeights (s : State) (cid v : Nat) : State :=
  ((({ s with run := { s.run with weights := v } }).runStale).put .kprRunStatusWeightsSet 0 1).respond 0x70 cid 0 1 0

def State.setInput (s : State) (cid v : Nat) : State :=
  ((({ s with run := { s.run with input := v } }).runStale).put .kprRunStatusInputSet 0 1).respond 0x70 cid 0 1 0

/-- A launch of a program begins a new run when its digest differs from the current run's (R377). The first launch after a
Keeper reset begins a run too; what the host supplied before it stands (log entry 15). DEDUCED: log entry 15. -/
def State.beginRunOf (s : State) : State :=
  match s.run.cur with
  | none => { s with run := { s.run with cur := some s.programDigest } }
  | some d =>
    if d = s.programDigest then s
    else (({ s with run := { cur := some s.programDigest, stale := true } })).puts
      [(.kprRunStatusProgramChanged, 0, 0), (.kprRunStatusWeightsSet, 0, 0), (.kprRunStatusInputSet, 0, 0)]

/-! ### Programs (R211, R343, R365, R372) -/

def stallLimitOf (v : Nat) : Nat := if v = 0 then 2 ^ 30 else Nat.max (2 ^ 22) v

/-- The loader has delivered a program: PROGRAM_DIGEST and the stall limit. In a recovery a digest that differs from the
interrupted program's replaces it and sets PROGRAM_CHANGED. -/
def State.programDelivered (s : State) (p : Program) : State :=
  let d := shaNat (p.binary.map BitVec.toNat)
  let s1 := (s.puts [(.kprProgramDigestDigest, 0, d), (.kprStallLimitLimit, 0, stallLimitOf p.stallLimit)]).runStale
  if s.recState ≠ 0 ∧ s.run.cur.any (fun c => decide (c ≠ d)) = true then
    ({ s1 with run := { s1.run with cur := some d } }).put .kprRunStatusProgramChanged 0 1
  else s1

/-- The named ports of the program, as port indexes. -/
def State.namedPorts (s : State) : List Nat := ((s.prog.map (fun p => p.namedPorts)).getD []).filter (fun k => decide (k < 16))

/-- The launch that runs ends (R211): choruses end ABANDONED (R146), a pending zeroisation takes effect (R153), a rollback
under way is answered ABORTED. -/
def State.endLaunch (s : State) : State :=
  let s1 := ((List.range 16).foldl State.chorusAbandon s).answerRollback 3 0 0
  ({ s1 with launch := { s1.launch with running := false }
             sec := { s1.sec with needed := false, voidWtc := none, neededAt := none } }).zeroisePending

/-- PROGRAM_CHANGE (R211, R212): the launch ends and the epoch advances, now or after the drain in progress. DEDUCED: log entry 67. -/
def State.changeProgram (s : State) (p : Program) : State :=
  if s.launch.running then
    let s1 := (s.programDelivered p).endLaunch
    ({ s1 with progNext := some p }).programAdvance
  else { s.programDelivered p with prog := some p }

/-- PROGRAM_LOAD (R372): with a launch running it is a program change. -/
def State.loadProgram (s : State) (p : Program) : State :=
  if s.launch.running then s.changeProgram p else { s.programDelivered p with prog := some p }

/-! ### The Wafer Time Counter (R275 to R277) -/

def State.isRoot (s : State) : Bool := decide (s.rf .kprWtcCtrlRoot 0 = 1)
/-- SYNCED: the root runs free (R276). -/
def State.synced (s : State) : Bool := s.isRoot || decide (s.rf .kprWtcStatusSynced 0 = 1)

/-- KPR_WTC_STATUS as it reads. -/
def State.wtcStatus (s : State) : Nat :=
  pack [(0, 1, bit s.synced), (1, 1, s.rf .kprWtcStatusUnsyncSeen 0), (2, 4, if s.isRoot then 0 else s.rf .kprWtcStatusHops 0),
    (6, 4, s.rf .kprWtcStatusParent 0), (16, 16, s.rf .kprWtcStatusError 0)]

/-- Synchronisation is lost (R277). -/
def State.loseSync (s : State) : State :=
  if s.rf .kprWtcStatusSynced 0 = 1 ∧ s.isRoot = false then
    let s1 := ({ s with wtcSlew := 0 }).puts [(.kprWtcStatusSynced, 0, 0), (.kprWtcStatusUnsyncSeen, 0, 1), (.kprWtcStatusHops, 0, 15)]
    s1.croak 0x12 1 s1.wtcStatus
  else s

/-- WTC_EXCHANGE (R275 to R277): an exchange with the neighbour on port k, which lies `hops` from the root; `offset` is the
parent's WTC less this one's, in units of 0.1 ns. The neighbour of fewest hops is the parent, ties to the lower port. DEDUCED: log entry 79. -/
def State.wtcExchange (s : State) (k hops : Nat) (offset : Int) : State :=
  if s.isRoot then s
  else
    let cur := s.rf .kprWtcStatusHops 0
    let parent := s.rf .kprWtcStatusParent 0
    let mine := decide (cur < 15 ∧ parent = k)
    if 10 < hops + 1 then (if mine then s.loseSync else s)
    else if mine || decide (hops + 1 < cur) || decide (hops + 1 = cur ∧ k < parent) then
      let s1 := ({ s with wtcSyncAt := s.now }).puts [(.kprWtcStatusHops, 0, hops + 1), (.kprWtcStatusParent, 0, k)]
      if s1.launch.everLaunched = false then
        -- before the first launch the counter may be stepped
        ({ s1 with wtc := ((s1.wtc : Int) + offset / 10).toNat % 2 ^ 64 }).puts
          [(.kprWtcStatusError, 0, ofInt 16 (offset % 10)), (.kprWtcStatusSynced, 0, 1)]
      else
        let s2 := ({ s1 with wtcSlew := offset }).put .kprWtcStatusError 0 (ofInt 16 offset)
        if offset.natAbs ≤ 20 then s2.put .kprWtcStatusSynced 0 1
        else if 100 < offset.natAbs then s2.loseSync
        else s2
    else s

/-- WTC_SYNC_LOSS (R277): no exchange from the parent for 10,000 ticks. -/
def State.wtcLoss (s : State) : State := if s.wtcSyncAt + 10000 ≤ s.now then s.loseSync else s

/-! ### Launch checks (R228, R278, R328) -/

/-- The peak tile power, the allowance and 45 W against the cap (R308). -/
def State.launchWatts (s : State) (p : Program) : Nat := p.peakPowerW + 10 * s.effAllowance + 45

/-- WTC_go comes too soon: within 1 ms for a launch with markers, already past otherwise. DEDUCED: log entry 42. -/
def State.tooLate (s : State) (go : Nat) (multi : Bool) : Bool := if multi then decide (go < s.wtc + 1000000) else decide (go < s.wtc)

/-- The codes that apply to a launch of the loaded program, lowest first, each with its DETAIL. With no program loaded
the wafer is not ready, which R278 refuses with LATE_START. DEDUCED: log entry 77. -/
def State.launchCodes (s : State) (go : Nat) (multi late : Bool) : List (Nat × Nat) :=
  (match s.slackMapFail with | some x => [(0x80, x.queue)] | none => []) ++
  (match s.rstInvalid with | some f => [(0x81, f)] | none => []) ++
  (match s.prog with
   | some p =>
     (if s.rf .kprSecCtrlMapValid 0 = 1 ∧ s.mapBad p.fieldMask = true then [(0x82, 0)] else []) ++
     (if p.fieldMask &&& s.rf .kprFieldsDroppedDropped 0 ≠ 0 then [(0x83, pack [(0, 32, p.fieldMask), (32, 32, s.rf .kprFieldsDroppedDropped 0)])] else []) ++
     (if late then [(0x84, go)] else []) ++
     (if 10 * s.effCap < s.launchWatts p then [(0x85, s.launchWatts p)] else [])
   | none => [(0x84, go)]) ++
  (if multi ∧ s.synced = false then [(0x86, 0)] else [])

/-- FORMAT_ERR and MAP_INVALID as the checks set them (R204, R228). DEDUCED: log entry 42. -/
def State.launchFlags (s : State) : State :=
  let s1 := if s.rstInvalid.isSome then s.put .kprRstCtrlFormatErr 0 1 else s
  match s.prog with
  | some p => if s1.rf .kprSecCtrlMapValid 0 = 1 ∧ s1.mapBad p.fieldMask = true then s1.put .kprSecStatusMapInvalid 0 1 else s1
  | none => s1

/-! ### The barrier (R278, R251) -/

/-- The barrier that is open: WTC_go, whether markers pass, and whether it is a rollback's. -/
def State.openBarrier (s : State) : Option (Nat × Bool × Bool) :=
  if s.launch.barrier then some (s.launch.wtcGo, s.launch.multi, false)
  else match s.sec.rollback with
    | some r => if 1 ≤ r.phase then some (r.wtcGo, !s.namedPorts.isEmpty, true) else none
    | none => none

def State.sendMarkers (s : State) (ready : Bool) : State :=
  { s with out := ((s.namedPorts.map (fun k => if ready then Out.ready k else Out.abort k)).reverse) ++ s.out }

/-- The barrier closes: markers are forgotten. -/
def State.closeBarrier (s : State) : State :=
  { s with launch := { s.launch with barrier := false, cid := none, sentReady := false, seenReady := 0, ready := false } }

/-- A launch is refused: its report and its answer. -/
def State.refuseLaunch (s : State) (cid : Option Nat) (multi : Bool) (code detail : Nat) : State :=
  let s1 := if multi ∧ code = 0x84 then s.sendMarkers false else s
  let s2 := (s1.closeBarrier).launchReport code detail
  match cid with
  | some c => s2.respond 0x60 c 9 1 (pack [(0, 16, code), (64, 64, detail)])
  | none => s2

/-- A rollback is refused at its barrier (R251, R356, R407): the wafer stays held and ROLLBACK_NEEDED is sent again. -/
def State.refuseRollback (s : State) (multi : Bool) (code detail : Nat) : State :=
  let s1 := if multi ∧ code = 0x84 then s.sendMarkers false else s
  let s2 := if s1.recState ≠ 0 then (s1.setRec 4).launchReport code detail else s1
  let s3 := (s2.closeBarrier).answerRollback 9 code detail
  ({ s3 with sec := { s3.sec with needed := true } }).croakNeeded

/-- DEDUCED: log entry 78. -/
def State.refuseBarrier (s : State) (b : Nat × Bool × Bool) : State :=
  if b.2.2 then s.refuseRollback b.2.1 0x84 b.1 else s.refuseLaunch s.launch.cid b.2.1 0x84 b.1

/-- The wafer is ready: its program loaded, stage 7 reached, SYNCED; a rollback's reload complete. -/
def State.barrierReady (s : State) (b : Nat × Bool × Bool) : Bool :=
  s.prog.isSome && decide (s.rf .kprBringupStatusReady 0 = 1) && s.synced &&
  (!b.2.2 || s.sec.rollback.any (fun r => decide (r.phase = 3)))

/-- READY_DEADLINE: at WTC_go − 1,000,000. -/
def State.readyDeadline (s : State) : State :=
  match s.openBarrier with
  | some b =>
    if b.2.1 ∧ s.launch.sentReady = false ∧ b.1 ≤ s.wtc + 1000000 then
      if s.barrierReady b then ({ s with launch := { s.launch with sentReady := true } }).sendMarkers true
      else s.refuseBarrier b
    else s
  | none => s

/-- READY_MARKER_RECEIVE. -/
def State.readyMarker (s : State) (k : Nat) : State :=
  if s.namedPorts.contains k then { s with launch := { s.launch with seenReady := s.launch.seenReady ||| 1 <<< k } } else s

/-- Every named port has shown READY. -/
def State.allReady (s : State) : Bool := s.namedPorts.all (fun k => s.launch.seenReady.testBit k)

/-- READY_CHECK: at WTC_go − 100,000. DEDUCED: log entry 85. -/
def State.readyCheck (s : State) : State :=
  match s.openBarrier with
  | some b =>
    if b.2.1 ∧ s.launch.ready = false ∧ b.1 ≤ s.wtc + 100000 then
      if s.launch.sentReady ∧ s.allReady = true then { s with launch := { s.launch with ready := true } } else s.refuseBarrier b
    else s
  | none => s

/-- ABORT_MARKER_RECEIVE: before WTC_go the wafer refuses in the same way, and forwards the marker. -/
def State.abortMarker (s : State) (k : Nat) : State :=
  match s.openBarrier with
  | some b => if b.2.1 ∧ s.namedPorts.contains k = true ∧ s.wtc < b.1 then s.refuseBarrier b else s
  | none => s

/-! ### LAUNCH (R278, R328, R407) -/

/-- The detail of NOT_READY, when the launch comes too early or without an engine ID. -/
def State.notReady (s : State) : Option Nat :=
  if s.rf .kprBringupStatusReady 0 = 0 then some (s.rf .kprBringupStatusStage 0)
  else if s.engineValid = false then some 8 else none

/-- LAUNCH. While a launch runs, a barrier is open or recovery is not IDLE it is refused with no code. DEDUCED: log entry 77. -/
def State.launchCommand (s : State) (cid go : Nat) (multi : Bool) : State :=
  if s.launch.running ∨ s.launch.barrier = true ∨ s.recState ≠ 0 then s.respond 0x60 cid 9 1 0
  else match s.notReady with
    | some d => s.refuseLaunch (some cid) false 0x87 d
    | none =>
      match s.launchCodes go multi (s.tooLate go multi) with
      | (code, detail) :: _ => s.launchFlags.refuseLaunch (some cid) multi code detail
      | [] => { s with launch := { s.launch with barrier := true, multi := multi, wtcGo := go, cid := some cid, sentReady := false, ready := false } }

/-- p of R72. -/
def seedOf (v : Nat) : Nat := v % 2 ^ 61 % p61

/-- TAP_SEED and DSEED of the launch, and source tags (R98, R136, R155). DEDUCED: log entry 77. -/
def State.fixSeeds (s : State) (go : Nat) : State :=
  let t := s.rf .kprTapSeedSeed 0
  let d := s.rf .kprDigSeedSeed 0
  let le := bytesOf go 0 8
  let tap := if t = 0 then seedOf (ofBytes ((sha256 (bytesOf s.engine 0 2 ++ le)).take 8)) else t % p61
  let dig := if d ≠ 0 then d % p61
    else match s.jobKey with
      | some k => seedOf (ofBytes ((hmac256 (bytesOf k 0 32) le).take 8))
      | none => seedOf (ofBytes ((sha256 le).take 8))
  let tagOn := decide (s.rf .kprDigKeyTagEnable 0 = 1)
  let s1 := s.puts [(.kprTapSeedActiveSeed, 0, tap), (.kprDigSeedActiveDseed, 0, dig), (.kprDigKeyTagsActive, 0, bit (tagOn && s.jobKey.isSome))]
  if tagOn && s.jobKey.isNone then s1.croak 0x0E 1 0 else s1

/-- The tap LFSRs start afresh (R73). -/
def State.restartLfsrs (s : State) : State :=
  { s with tiles := s.tiles.map (fun (e : Nat × Tile) =>
      if e.2.lfsr = 0 then e else (e.1, { e.2 with lfsr := lfsrStart e.1 (s.rf .kprTapSeedActiveSeed 0) })) }

/-- Wardens begin the launch with no chorus, no instance and an empty announcement log (R140, R144). -/
def State.clearChoruses (s : State) : State :=
  (List.range 16).foldl (fun t k => let u := t.chorusAbandon k
    u.setWarden k { u.warden k with closed := [], annLog := [], insts := [], instsIn := [], tagFails := [], pieces := [], reissues := [] }) s

/-- The LFSR of each field's random picks starts from the launch's seed (R119). -/
def State.seedPicks (s : State) : State :=
  (List.range 32).foldl (fun t f => t.setField f { t.field f with lfsr := s.rf .kprTapSeedActiveSeed 0 % 2 ^ 32 ^^^ f }) s

/-- A launch with MAP_VALID at 0 proceeds with securing OFF; one with a map starts the function again (R228). DEDUCED: log entry 74. -/
def State.securingAtLaunch (s : State) : State :=
  let f := Func.securing
  if s.rf .kprSecCtrlMapValid 0 = 0 then (if s.fnState f = 0 then s else s.fnToOff f)
  else if s.fnState f = 0 ∧ s.fnRequest f = 1 ∧ s.domState .keeper < 2 then s.fnStart f
  else s

/-- What every release of a program does: the settings, seeds, tables and marks of a launch begin (R98, R136, R158, R344,
R350, R365, R375, R460). -/
def State.beginProgram (s : State) (go : Nat) : State :=
  let s1 := ((s.clearChoruses.fixSeeds go).restartLfsrs.seedPicks.judgeDrives.securingAtLaunch.loadTables).puts [(.kprLaunchWtcWtcGo, 0, go), (.kprHangStatusStalled, 0, 0)]
  let s2 := { s1 with
    hist := { s1.hist with delta := [] }
    recov := { s1.recov with naming := none, stalls := [], closed := false }
    launch := { s1.launch with running := true, wtcGo := go, everLaunched := true, rollback := false }
    out := .tiles true :: s1.out }
  match s2.prog with
  | some p => s2.puts [(.kprRunStatusProfileMatch, 0, bit (decide (p.profile = s2.profile))), (.kprRunStatusTimeDependent, 0, bit p.timeDependent)]
  | none => s2

/-- KPR_TILE_CFG takes effect (R460). DEDUCED: log entry 77. -/
def State.takeSettings (s : State) : State := { s with clock := s.effClock, cap := s.effCap }.runStale

/-- LAUNCH_RELEASE: the program starts (R285), a run begins or goes on, and a holder is chosen (R247). -/
def State.releaseLaunch (s : State) : State :=
  let go := s.launch.wtcGo
  let cid := s.launch.cid
  let s1 := (s.takeSettings.programStart s.initSems go false).closeBarrier
  let s2 := (({ s1 with sec := { s1.sec with needed := false, voidWtc := none, neededAt := none } }).beginRunOf.beginProgram go).chooseHolder
  let s3 := s2.launchReport 0 0
  match cid with
  | some c => s3.respond 0x60 c 0 1 0
  | none => s3

def State.launchRelease (s : State) : State :=
  if s.launch.barrier ∧ s.launch.wtcGo ≤ s.wtc then
    if s.launch.multi = false ∨ s.launch.ready = true then s.releaseLaunch
    else s.refuseLaunch s.launch.cid true 0x84 s.launch.wtcGo
  else s

/-! ### ROLLBACK (R250 to R253, R356, R407) -/

/-- A rollback in recovery begins: the loader is started with the interrupted program, the program starts, and the reload
begins. -/
def State.startReload (s : State) : State :=
  match s.sec.rollback with
  | some r =>
    let s1 := { s with out := .loader :: s.out, sec := { s.sec with needed := false } }
    (s1.programStart s1.initSems r.wtcGo false).reloadNext
  | none => s

/-- ROLLBACK: refused while another is carried out or held, and where no launch runs and no recovery waits for one. DEDUCED: log entry 78. -/
def State.rollbackCommand (s : State) (cid step go : Nat) : State :=
  let rc := s.recState
  if s.sec.rollback.isSome then s.respond 0x61 cid 9 1 0
  else if rc = 3 ∨ rc = 7 then s.setRollback (some ⟨some cid, step, go, 0, none, s.now, s.now, false⟩)
  else if rc = 4 then (s.setRollback (some ⟨some cid, step, go, 1, none, s.now, s.now, false⟩)).startReload
  else if rc = 0 ∧ s.launch.running = true then
    (({ s with sec := { s.sec with needed := false } }).setRollback (some ⟨some cid, step, go, 1, none, s.now, s.now, false⟩)).programAdvance
  else s.respond 0x61 cid 9 1 0

/-- The launch checks that a recovery makes once its reload is complete (R356). DEDUCED: log entry 78. -/
def State.recoveryChecks (s : State) : State :=
  if s.recState = 6 then
    match s.sec.rollback with
    | some r =>
      let multi := !s.namedPorts.isEmpty
      match s.launchCodes r.wtcGo multi (s.tooLate r.wtcGo multi) with
      | (code, detail) :: _ => s.launchFlags.refuseRollback multi code detail
      | [] => s
    | none => s
  else s

/-- The recovery ends at the release (R356, R358, R407): counted, and its RECOVER commands answered. -/
def State.endRecovery (s : State) : State :=
  if s.recState ≠ 0 then
    let s1 := ((s.setRec 0).bump .kprRecoveriesCount 0 .kprHangStatusCountSat 0 1).takeSettings
    let s2 := s1.recov.cids.foldl (fun t c => t.respond 0x62 c 0 1 0) s1
    { s2 with recov := { s2.recov with cids := [], byHost := false, done := if s2.recov.byHost then s2.recov.done else s2.now :: s2.recov.done } }
  else s

/-- ROLLBACK_RELEASE (R251, R255). DEDUCED: log entry 90. -/
def State.releaseRollback (s : State) (r : Rollback) : State :=
  let s1 := s.endRecovery
  let s2 := { s1 with run := { s1.run with rollbacks := Nat.min 0xFFFFFFFF (s1.run.rollbacks + 1) }
                      sec := { s1.sec with needed := false, voidWtc := none, neededAt := none } }
  let s3 := (s2.closeBarrier.beginProgram r.wtcGo).answerRollback 0 0 0
  let s4 := (s3.secBump .kprSecRollbacksCount).secRecord 7 0 0 false (s3.now - s.sec.neededAt.getD r.asked) r.step 0 0
  if s4.rf .kprSecPairHolderValid 0 = 0 then s4.chooseHolder else s4

def State.rollbackRelease (s : State) : State :=
  match s.sec.rollback with
  | some r =>
    if 1 ≤ r.phase ∧ r.wtcGo ≤ s.wtc then
      let multi := !s.namedPorts.isEmpty
      if r.phase = 3 ∧ (multi = false ∨ s.launch.ready = true) then s.releaseRollback r
      else s.refuseRollback multi 0x84 r.wtcGo
    else s
  | none => s

/-! ### Rows -/

/-- RELOAD_COMPLETE (R251, R356). -/
def execReloadComplete (data : List (Fin 445440 × Fin 768 × BitVec 1024)) (s : State) : Host.Outcome State Fault Refusal :=
  .next (s.reloadComplete data).recoveryChecks

/-- RUN_DIGEST, OP 0 (R376). -/
def execRunDigestQuery (cid : BitVec 32) (s : State) : Host.Outcome State Fault Refusal := .next (s.asHost 0x70 cid.toNat (fun t => t.ledgerCommand 0x70 cid.toNat 0 0))

/-- RUN_DIGEST, OP 1 (R373). -/
def execRunDigestSetWeights (cid : BitVec 32) (digest : BitVec 256) (s : State) : Host.Outcome State Fault Refusal :=
  .next (s.asHost 0x70 cid.toNat (fun t => t.setWeights cid.toNat digest.toNat))

/-- RUN_DIGEST, OP 2 (R373). -/
def execRunDigestSetInput (cid : BitVec 32) (digest : BitVec 256) (s : State) : Host.Outcome State Fault Refusal :=
  .next (s.asHost 0x70 cid.toNat (fun t => t.setInput cid.toNat digest.toNat))

/-- RUN_DIGEST_RECOMPUTE (R376). -/
def execRunDigestRecompute (s : State) : Host.Outcome State Fault Refusal := .next s.runRecompute

/-- PROGRAM_LOAD (R372). -/
def execProgramLoad (prog : Program) (s : State) : Host.Outcome State Fault Refusal := .next (s.loadProgram prog)

/-- PROGRAM_CHANGE (R211). -/
def execProgramChange (prog : Program) (s : State) : Host.Outcome State Fault Refusal := .next (s.changeProgram prog)

/-- LAUNCH (R407). -/
def execLaunch (cid : BitVec 32) (wtcGo : BitVec 64) (multi : Bool) (s : State) : Host.Outcome State Fault Refusal :=
  .next (s.asHost 0x60 cid.toNat (fun t => t.launchCommand cid.toNat wtcGo.toNat multi))

/-- ROLLBACK (R250). -/
def execRollback (cid : BitVec 32) (step wtcGo : BitVec 64) (s : State) : Host.Outcome State Fault Refusal :=
  .next (s.asHost 0x61 cid.toNat (fun t => t.rollbackCommand cid.toNat step.toNat wtcGo.toNat))

/-- READY_DEADLINE (R278). -/
def execReadyDeadline (s : State) : Host.Outcome State Fault Refusal := .next s.readyDeadline

/-- READY_MARKER_RECEIVE (R278). -/
def execReadyMarkerReceive (k : Fin 16) (s : State) : Host.Outcome State Fault Refusal := .next (s.readyMarker k.val)

/-- ABORT_MARKER_RECEIVE (R278). -/
def execAbortMarkerReceive (k : Fin 16) (s : State) : Host.Outcome State Fault Refusal := .next (s.abortMarker k.val)

/-- READY_CHECK (R278). -/
def execReadyCheck (s : State) : Host.Outcome State Fault Refusal := .next s.readyCheck

/-- LAUNCH_RELEASE (R278). -/
def execLaunchRelease (s : State) : Host.Outcome State Fault Refusal := .next s.launchRelease

/-- WTC_EXCHANGE (R276). -/
def execWtcExchange (k : Fin 16) (hops : Nat) (offset : Int) (s : State) : Host.Outcome State Fault Refusal :=
  .next (s.wtcExchange k.val hops offset)

/-- WTC_SYNC_LOSS (R277). -/
def execWtcSyncLoss (s : State) : Host.Outcome State Fault Refusal := .next s.wtcLoss

/-- ROLLBACK_RELEASE (R251). -/
def execRollbackRelease (s : State) : Host.Outcome State Fault Refusal := .next s.rollbackRelease

end Sys2Proof.Machine
end

