-- ==== Sys2Proof/Machine/HostPort.lean ====
section
/-! DEFINITION. The host port: the Event Ring, the outbound queue, MSI-X, the aperture's landing, attaching and detaching,
overload (14_host_port_ndoquel.md R379 to R401, R408; 12_hangs_and_molts.md R359). -/

namespace Sys2Proof.Machine

/-! ### The Event Ring (R383, R392 to R396) -/

/-- A host-bound message as its units, byte 0 least significant. -/
def msgUnits (m : Msg) (phase version : Nat) : Nat :=
  withCrc16 14 (pack [(0, 4, m.cls), (4, 4, version), (8, 8, m.code), (16, 7, m.units), (31, 1, phase), (32, 32, m.seq),
    (64, 32, m.cid), (96, 16, m.status)]) ||| (m.payload % 2 ^ (512 * m.units - 128)) <<< 128

def State.ringSize (s : State) : Nat := s.rf .hptRingSizeUnits 0
def State.ringTail (s : State) : Nat := s.rf .hptRingTailTail 0

/-- A message of L units may be written. -/
def State.ringRoom (s : State) (units : Nat) : Bool :=
  decide ((s.ringTail + 2 ^ 32 - s.rf .hptRingHeadHead 0) % 2 ^ 32 + units ≤ s.ringSize)

/-- The manager may write host memory (R381). DEDUCED: log entry 52. -/
def State.busUp (s : State) : Bool := s.host.busMaster && !s.host.d3hot

/-- The units of a message at the ring indexes from TAIL on. -/
def placeUnits (ring : Tab Nat) (size tail body : Nat) : Nat → Tab Nat
  | 0 => ring
  | n + 1 => Tab.set (fun _ => 0) (placeUnits ring size tail body n) ((tail + n) % size) (bits body (512 * n) 512)

/-- MSI-X: the vector is signalled, or left pending under its mask. -/
def State.msixFire (s : State) : State :=
  if s.host.msixEntry.testBit 96 then { s with host := { s.host with msixAt := some s.now, msixOwed := false, msixPending := true } }
  else { s with host := { s.host with msixAt := some s.now, msixOwed := false, msixSent := s.host.msixSent + 1 } }

/-- The holdoff has passed. -/
def State.msixReady (s : State) : Bool := s.host.msixAt.all (fun t => decide (t + Nat.max 1 (s.rf .hptMsixCtrlHoldoffUs 0) ≤ s.now))

/-- A header has been written (R396). DEDUCED: log entry 51. -/
def State.msixHeader (s : State) : State :=
  if s.rf .hptMsixCtrlEnable 0 = 0 then s
  else if s.msixReady then s.msixFire
  else { s with host := { s.host with msixOwed := true } }

/-- MSIX_HOLDOFF_END. -/
def State.msixEnd (s : State) : State := if s.host.msixOwed && s.msixReady then s.msixFire else s

/-- A message goes into the ring, header last. -/
def State.writeMsg (s : State) (m : Msg) : State :=
  let t := s.ringTail
  let body := msgUnits m ((t / s.ringSize + 1) % 2) (s.rf .hptStatusVersion 0)
  ((({ s with host := { s.host with ring := placeUnits s.host.ring s.ringSize t body m.units } }).put .hptRingTailTail 0
    ((t + m.units) % 2 ^ 32))).msixHeader

/-- The message at the head of the outbound queue may be written now. -/
def State.ringReady (s : State) : Option (Msg × List Msg) :=
  match s.host.outQ with
  | m :: t => if s.attached && s.busUp && s.ringRoom m.units then some (m, t) else none
  | [] => none

/-- Discards of classes 1 to 5, as DETACHED_OVERFLOW carries them (R359, R394). -/
def State.discardCounts (s : State) : Nat :=
  pack ((List.range 5).map (fun i => (32 * (i + 1), 32, Nat.min 0xFFFFFFFF (Tab.get (fun _ => 0) s.host.discards (i + 1)))))

/-- DETACHED_OVERFLOW, when messages have been discarded and the queue has room again. -/
def State.tellDiscards (s : State) : State :=
  if s.host.discards.isEmpty = false ∧ outRoom s.host.outQ 2 = true then
    ({ s with host := { s.host with discards := [] } }).croak 0x20 1 s.discardCounts
  else s

/-- EVENT_RING_WRITE: the oldest message of the outbound queue. -/
def State.ringWrite (s : State) : State :=
  match s.ringReady with
  | some (m, t) => (({ s with host := { s.host with outQ := t } }).writeMsg m).tellDiscards
  | none => s

/-- Every message that the ring has room for, in order. -/
def State.ringFlush : Nat → State → State
  | 0, s => s
  | n + 1, s =>
    match s.ringReady with
    | some (m, t) => State.ringFlush n (({ s with host := { s.host with outQ := t } }).writeMsg m)
    | none => s

/-- HPT_RING_HEAD_WRITE (R395). DEDUCED: log entry 84. -/
def State.ringHead (s : State) (v : Nat) : State :=
  if (s.ringTail + 2 ^ 32 - v % 2 ^ 32) % 2 ^ 32 ≤ s.ringSize ∧ serialGe v (s.rf .hptRingHeadHead 0) = true then s.put .hptRingHeadHead 0 v
  else s.accessErr

/-! ### Units of the aperture -/

def State.apUnit (s : State) (u : Nat) : Nat := Tab.get (fun _ => 0) s.host.aperture (u % 1024)
def State.apLanded (s : State) (u : Nat) : Bool := Tab.get (fun _ => false) s.host.landed (u % 1024)

/-- HEAD moves on; a unit that has already landed there counts from now. -/
def State.moveHead (s : State) (h : Nat) : State :=
  let s1 := s.put .hptApHead 0 (h % 1024)
  { s1 with host := { s1.host with headAt := if s1.apLanded h then some s1.now else none, stuckSent := false } }

/-! ### Attachments (R397 to R401) -/

/-- COMMAND_IDs of an attachment that has ended are forgotten; the work behind them goes on. -/
def State.forgetCids (s : State) : State :=
  let own : VisitOwner → VisitOwner := fun o => match o with | .host _ => .register | x => x
  { s with
    launch := { s.launch with cid := none }
    sec := { s.sec with rollback := s.sec.rollback.map (fun (r : Rollback) => { r with cid := none }) }
    recov := { s.recov with cids := [] }
    doms := s.doms.map (fun (e : Nat × Dom) => (e.1, { e.2 with cids := [] }))
    waits := s.waits.filter (fun w => match w.owner with | .host _ _ => false | _ => true)
    host := { s.host with detaching := none, resetting := none }
    st := { s.st with
      packs := s.st.packs.map (fun (p : Pack) => { p with cid := none })
      visits := s.st.visits.map (fun (v : Visit) => { v with owner := own v.owner })
      orders := s.st.orders.map (fun o => (o.1, own o.2.1, o.2.2)) } }

/-- The registers of a port without a host. -/
def State.portIdle (s : State) : State :=
  s.puts [(.hptStatusAttached, 0, 0), (.hptStatusVersion, 0, 0), (.hptApHead, 0, 0), (.hptApExpectedSeq, 0, 0), (.hptRingSizeUnits, 0, 0),
    (.hptStatusOverload, 0, 0)]

/-- An attachment ends other than by DETACH (R401). DEDUCED: log entry 91. -/
def State.endAttachment (s : State) : State :=
  if s.attached then
    let s1 := s.host.taken.foldl (fun t c => t.sendMsg 1 c.opcode 1 c.cid 3 0) s
    let s2 := (State.ringFlush s1.host.outQ.length s1).setTaken []
    ((s2.forgetCids.portIdle).moveHead 0).zeroiseDetach
  else s

/-- DETACH (R400), once every earlier command has been answered; commands taken behind it end ABORTED, after its response. DEDUCED: log entry 91. -/
def State.detachNow (s : State) (cid : Nat) : State :=
  let s1 := ({ s with host := { s.host with detaching := none } }).respond 0x02 cid 0 1 0
  let s2 := s1.host.taken.foldl (fun t c => t.sendMsg 1 c.opcode 1 c.cid 3 0) (State.ringFlush s1.host.outQ.length s1)
  let s3 := ((s2.setTaken []).forgetCids.portIdle).zeroiseDetach
  { s3 with host := { s3.host with landed := [], headAt := none } }

/-- DEDUCED: log entry 91. -/
def State.detachCheck (s : State) : State :=
  match s.host.detaching with
  | some c => if s.host.taken.head?.any (fun t => decide (t.cid = c ∧ t.opcode = 2)) then s.detachNow c else s
  | none => s

/-- A Stage Report sent again (R329). -/
def repeatMsg (m : Msg) : Msg := { m with payload := m.payload ||| 1 <<< 9 }

def isPow2 (n : Nat) : Bool := (List.range 18).any (fun i => decide (n = 2 ^ i))

/-- RING_BASE and RING_UNITS are well formed (R392). -/
def ringOk (base units : Nat) : Bool := decide (base % 4096 = 0 ∧ 64 ≤ units ∧ units ≤ 65536) && isPow2 units

/-- BRM_FEATURES (R459). -/
def brmFeatures : Nat := 0xFFFF

/-- The ATTACH response (R404). -/
def State.attachPayload (s : State) : Nat :=
  pack [(0, 3, 1), (16, 9, 256), (32, 15, if s.engineValid then s.rf .kprEngineEngine 0 else 0x7FFF), (48, 4, s.rf .kprBringupStatusStage 0),
    (52, 1, s.rf .kprBringupStatusReady 0), (64, 32, brmFeatures)]

/-- An attachment begins (R397, R329, R359): the response, the Stage Reports again, the messages queued, and the count of
those discarded. The driver has made the function a bus master in D0. DEDUCED: log entry 52. -/
def State.attachBegin (s : State) (cid seq base units : Nat) (msix : Bool) : State :=
  let s0 := ((s.setTaken []).puts [(.hptStatusAttached, 0, 1), (.hptStatusVersion, 0, 1), (.hptRingBaseBase, 0, base), (.hptRingSizeUnits, 0, units),
    (.hptRingTailTail, 0, 0), (.hptRingHeadHead, 0, 0), (.hptCreditsHigh, 0, 0), (.hptApExpectedSeq, 0, succ32 seq)])
  let s1 := if msix then s0.put .hptMsixCtrlEnable 0 1 else s0
  let reports := (List.range 8).filterMap (fun n => Tab.get (fun _ => none) s1.boot.reports n)
  let halted := if s1.rf .kprBringupStatusHalted 0 = 1 then (Tab.get (fun _ => none) s1.boot.reports (s1.rf .kprBringupStatusStage 0)).toList else []
  let q := (⟨1, 0x01, 1, 0, cid, 0, s1.attachPayload⟩ : Msg) :: ((reports ++ halted).map repeatMsg ++ s1.host.outQ)
  let q' := (List.range q.length).zipWith (fun n (m : Msg) => { m with seq := n % 2 ^ 32 }) q
  ({ s1 with host := { s1.host with
      outQ := q', seqNext := q'.length % 2 ^ 32, ring := [], busMaster := true, d3hot := false, msixAt := none, msixOwed := false,
      busyRun := 0, highSince := none, lowSince := none } }).tellDiscards

/-- ATTACH while no host is attached (R397, R398): with no common version the answer is VERSION and nothing begins; a ring
that R392 does not allow is discarded and counted. DEDUCED: log entry 91. -/
def State.attachFresh (s : State) (cid seq base units versions : Nat) (msix : Bool) : State :=
  if ringOk base units = false then s.bump .hptRejectedCount 0 .hptStatusCountSat 0 1
  else if versions % 2 = 0 then
    { s with host := { s.host with ring := Tab.set (fun _ => 0) s.host.ring 0 (msgUnits ⟨1, 0x01, 1, 0, cid, 4, 0⟩ 1 1) } }
  else s.attachBegin cid seq base units msix

/-- The command port is open: from the end of stage 2, while the Keeper is not held (R317). -/
def State.rxOpen (s : State) : Bool := s.boot.keeperTested && s.keeperAwake

/-- ATTACH with FORCE clear: OWNED while a host is attached (R399). DEDUCED: log entry 52. -/
def State.attachPlain (s : State) (cid seq base units versions : Nat) (msix : Bool) : State :=
  if s.rxOpen = false then s
  else if s.attached then s.asHost 0x01 cid (fun t => t.respond 0x01 cid 8 1 0)
  else s.attachFresh cid seq base units versions msix

/-- ATTACH with FORCE set (R399). -/
def State.attachTakeover (s : State) (cid seq base units versions : Nat) (msix : Bool) : State :=
  if s.rxOpen = false then s
  else if s.attached = false then s.attachFresh cid seq base units versions msix
  else if ringOk base units = false then s.asHost 0x01 cid (fun t => t.respond 0x01 cid 7 1 0)
  else if versions % 2 = 0 then s.asHost 0x01 cid (fun t => t.respond 0x01 cid 4 1 0)
  else
    let head := s.rf .hptApHead 0
    let s1 := ({ s with host := { s.host with taken := s.host.taken.filter (fun t => decide (t.cid ≠ cid ∨ t.opcode ≠ 1)) } }).endAttachment
    ((s1.put .hptStatusTakeoverSeen 0 1).attachBegin cid seq base units msix).moveHead head

/-- HOST_PORT_LINK_RESET (R382): the attachment ends and the configuration space is reset. -/
def State.linkReset (s : State) : State :=
  let s1 := s.endAttachment
  { s1 with host := { s1.host with busMaster := false, d3hot := false, msixEntry := 2 ^ 96, msixPending := false } }

/-! ### The aperture (R385 to R387) -/

/-- Bytes written over a number's bytes from offset `o`. -/
def patch : Nat → Nat → List Nat → Nat
  | v, _, [] => v
  | v, o, b :: t => patch (v - bits v (8 * o) 8 * 2 ^ (8 * o) + b % 256 * 2 ^ (8 * o)) (o + 1) t

/-- APERTURE_UNIT_WRITE: bytes of one unit; a write that covers byte 63 lands it. -/
def State.apWrite (s : State) (u o : Nat) (bs : List Nat) : State :=
  let b := bs.take (64 - o)
  let s1 := { s with host := { s.host with aperture := Tab.set (fun _ => 0) s.host.aperture u (patch (s.apUnit u) o b) } }
  if o < 64 ∧ o + b.length = 64 then
    let s2 := { s1 with host := { s1.host with landed := Tab.set (fun _ => false) s1.host.landed u true } }
    if u = s.rf .hptApHead 0 then { s2 with host := { s2.host with headAt := some s2.now, stuckSent := false } } else s2
  else s1

/-- LENGTH, and the units that a message takes. -/
def unitLength (w : Nat) : Nat := bits w 16 15
def unitsTaken (w : Nat) : Nat := if 1 ≤ unitLength w ∧ unitLength w ≤ 64 then unitLength w else 1

/-- The message at HEAD is complete (R386). -/
def State.apReady (s : State) : Bool :=
  let h := s.rf .hptApHead 0
  let w := s.apUnit h
  s.rxOpen && s.apLanded h && decide (crc16 (bytesOf w 0 14) = bits w 112 16) && decide (bits w 0 4 = 0) &&
  (!s.attached || decide (bits w 32 32 = s.rf .hptApExpectedSeq 0)) && s.apLanded (h + unitsTaken w - 1)

/-- Units from `h` on are freed. -/
def State.freeAp (s : State) (h : Nat) : Nat → State
  | 0 => s
  | n + 1 => { s.freeAp h n with host := { (s.freeAp h n).host with
      landed := Tab.set (fun _ => false) (s.freeAp h n).host.landed ((h + n) % 1024) false } }

/-- An ATTACH as its unit spells it. -/
def attachFields (w : Nat) : Nat × Nat × Nat × Nat × Nat × Bool × Bool :=
  (bits w 64 32, bits w 32 32, bits w 128 64, bits w 192 17, bits w 224 3, (bits w 227 1 == 1), (bits w 228 1 == 1))

/-- COMMAND_TAKE (R386, R389, R397). A first message that is no ATTACH of VERSION 1 (R383) is discarded and counted. DEDUCED: log entry 91. -/
def State.commandTake (s : State) : State :=
  if s.apReady then
    let h := s.rf .hptApHead 0
    let w := s.apUnit h
    let n := unitsTaken w
    let seq := bits w 32 32
    let s1 := s.freeAp h n
    if s1.attached then
      let s2 := (s1.moveHead (h + n)).put .hptApExpectedSeq 0 (succ32 seq)
      if 256 ≤ s2.host.taken.length then s2.rejectBusy (bits w 8 8) (bits w 64 32) seq
      else s2.setTaken (s2.host.taken ++ [⟨bits w 64 32, seq, bits w 8 8, s2.now, w, false⟩])
    else if bits w 4 4 = 1 ∧ bits w 8 8 = 1 ∧ unitLength w = 1 then
      let (cid, sq, base, units, versions, msix, _) := attachFields w
      let s2 := s1.attachFresh cid sq base units versions msix
      if s2.attached then s2.moveHead (h + n) else s2
    else s1.bump .hptRejectedCount 0 .hptStatusCountSat 0 1
  else s

/-- APERTURE_STUCK (R387). -/
def State.apStuck (s : State) : State :=
  if s.host.stuckSent = false ∧ s.apLanded (s.rf .hptApHead 0) = true ∧ s.host.headAt.any (fun t => decide (t + 100 ≤ s.now)) = true then
    (({ s with host := { s.host with stuckSent := true } }).put .hptStatusApertureStuck 0 1).croak 0x23 1
      (pack [(0, 16, s.rf .hptApHead 0), (32, 32, s.rf .hptApExpectedSeq 0)])
  else s

/-! ### Overload (R391) -/

/-- REJECT_RANGE (R390). -/
def State.rejectRange (s : State) : State :=
  match s.host.rejects with
  | (f, n) :: t =>
    if outRoom s.host.outQ 2 then ({ s with host := { s.host with rejects := t } }).croak 0x22 1 (pack [(0, 32, f), (32, 32, n)]) else s
  | [] => s

/-- What each tick compares: the runs of ticks at or above 244, and below. -/
def State.overloadTick (s : State) : State :=
  if 244 ≤ s.host.taken.length then
    { s with host := { s.host with
      highSince := some (s.host.highSince.getD s.now), lowSince := none
      busyRun := if s.host.highSince.isNone then 0 else s.host.busyRun } }
  else { s with host := { s.host with lowSince := some (s.host.lowSince.getD s.now), highSince := none } }

/-- OVERLOAD: 1,000 consecutive ticks. -/
def State.overload (s : State) : State :=
  if s.rf .hptStatusOverload 0 = 0 ∧ s.host.highSince.any (fun t => decide (t + 1000 ≤ s.now)) = true then
    (s.puts [(.hptStatusOverload, 0, 1), (.hptStatusOverloadSeen, 0, 1)]).croak 0x21 1
      (pack [(0, 16, s.host.taken.length), (32, 32, s.host.busyRun)])
  else s

/-- OVERLOAD_CLEAR. -/
def State.overloadEnd (s : State) : State :=
  if s.rf .hptStatusOverload 0 = 1 ∧ s.host.lowSince.any (fun t => decide (t + 1000 ≤ s.now)) = true then s.put .hptStatusOverload 0 0 else s

/-! ### Rows -/

/-- HPT_RING_HEAD_WRITE (R395). -/
def execHptRingHeadWrite (head : BitVec 32) (s : State) : Host.Outcome State Fault Refusal :=
  .next (if s.keeperAwake then s.ringHead head.toNat else s)

/-- HOST_PORT_LINK_RESET (R382). -/
def execHostPortLinkReset (_kind : PcieReset) (s : State) : Host.Outcome State Fault Refusal := .next s.linkReset

/-- APERTURE_UNIT_WRITE (R385). -/
def execApertureUnitWrite (u : Fin 1024) (offset : Nat) (data : List Byte) (s : State) : Host.Outcome State Fault Refusal :=
  .next (if offset < 64 then s.apWrite u.val offset (data.map BitVec.toNat) else s)

/-- COMMAND_TAKE (R386). -/
def execCommandTake (s : State) : Host.Outcome State Fault Refusal := .next s.commandTake

/-- REJECT_RANGE (R390). -/
def execRejectRange (s : State) : Host.Outcome State Fault Refusal := .next s.rejectRange

/-- APERTURE_STUCK (R387). -/
def execApertureStuck (s : State) : Host.Outcome State Fault Refusal := .next s.apStuck

/-- OVERLOAD (R391). -/
def execOverload (s : State) : Host.Outcome State Fault Refusal := .next s.overload

/-- OVERLOAD_CLEAR (R391). -/
def execOverloadClear (s : State) : Host.Outcome State Fault Refusal := .next s.overloadEnd

/-- EVENT_RING_WRITE (R394). -/
def execEventRingWrite (s : State) : Host.Outcome State Fault Refusal := .next s.ringWrite

/-- MSIX_HOLDOFF_END (R396). -/
def execMsixHoldoffEnd (s : State) : Host.Outcome State Fault Refusal := .next s.msixEnd

/-- ATTACH (R397). -/
def execAttach (cid seq : BitVec 32) (ringBase : BitVec 64) (ringUnits : BitVec 17) (versions : BitVec 3) (msix : Bool) (s : State) :
    Host.Outcome State Fault Refusal :=
  .next (s.attachPlain cid.toNat seq.toNat ringBase.toNat ringUnits.toNat versions.toNat msix)

/-- ATTACH with FORCE (R399). -/
def execAttachForce (cid seq : BitVec 32) (ringBase : BitVec 64) (ringUnits : BitVec 17) (versions : BitVec 3) (msix : Bool) (s : State) :
    Host.Outcome State Fault Refusal :=
  .next (s.attachTakeover cid.toNat seq.toNat ringBase.toNat ringUnits.toNat versions.toNat msix)

/-- DETACH (R400). -/
def execDetach (cid : BitVec 32) (s : State) : Host.Outcome State Fault Refusal :=
  .next (s.asHost 0x02 cid.toNat (fun t => ({ t with host := { t.host with detaching := some cid.toNat } }).detachCheck))

end Sys2Proof.Machine
end

