-- ==== Sys2Proof/Machine/SelfTest.lean ====
section
/-! DEFINITION. In-field self-test: units, slots, windows, the life of a visit, visit records, and the correctable-error
counters of tile SRAM (06_self_test.md R171 to R183, R187; R44). -/

namespace Sys2Proof.Machine

/-! ### Units (R176) -/

/-- A free spare as a unit. -/
def spareUnit (t : Nat) : Nat := 2 ^ 19 + t

def State.visitStampOf (s : State) (f u : Nat) : Nat := Nat.max (s.field f).visitStamp (Tab.get (fun _ => 0) s.st.done u)

/-- Spares of a field that are free units. -/
def State.freeUnits (s : State) (f : Nat) : List Nat := (fieldSpares f).filter (fun t => !s.spareBusy t)

/-- Units of a field: in-service logical tiles in order ℓ, then free spares. -/
def State.units (s : State) (f : Nat) : List Nat :=
  ((List.range 13920).map (fun n => tileId f (n / 116) (n % 116))).filter (fun l => s.served l) ++ (s.freeUnits f).map spareUnit

def State.unitCount (s : State) (f : Nat) : Nat := s.inService f + s.freeSpares f

/-- The tile of a unit. -/
def State.unitTile (s : State) (u : Nat) : Nat := if u < 2 ^ 19 then s.serving u else u - 2 ^ 19

/-- PERIOD in ticks (R176, R190). -/
def State.visitPeriod (s : State) (f : Nat) : Nat := 3600000000 * clamp 1 168 (s.rf .fstStCtrlPeriodH f)

/-- A reset of the station has made the unit due at once, and it has not been visited since (R177). -/
def State.unitDueNow (s : State) (f u : Nat) : Bool := (s.field f).allDue && decide (Tab.get (fun _ => 0) s.st.done u = 0)

/-- Age of a unit's last completed visit; one that is due at once counts a whole period more (R177). -/
def State.visitAge (s : State) (f u : Nat) : Nat :=
  s.now - s.visitStampOf f u + (if s.unitDueNow f u then s.visitPeriod f else 0)

def State.unitOverdue (s : State) (f u : Nat) : Bool := s.unitDueNow f u || decide (s.visitPeriod f < s.visitAge f u)

/-- The oldest of a list of units; of equals the first. -/
def State.oldestUnit (s : State) (f : Nat) (l : List Nat) : Option Nat :=
  l.foldl (fun acc u => match acc with
    | none => some u
    | some a => if s.visitStampOf f u < s.visitStampOf f a then some u else some a) none

/-! ### Starting a visit (R172, R175) -/

/-- The target spare of a rotation (R172): the quarter's spare if it is free, else the lowest free spare of the row whose
path passes the slack check. -/
def State.rotationSpare (s : State) (t : Nat) : Bool :=
  !s.spareBusy t && (s.visitOf t).isNone && (s.rotationOnto t).isNone &&
  !s.episodes.any (fun e => decide (e.spare = t) || decide (e.spare2 = t))

def State.rotationTarget (s : State) (l : Nat) : Option Nat :=
  let own := tileId (tileField l) (tileRow l) (spareCol (tileCol l / 29))
  if s.rotationSpare own then (if (s.slackCheck l own).isNone then some own else none)
  else ([0, 1, 2, 3].map (fun q => tileId (tileField l) (tileRow l) (spareCol q))).find? (fun c => s.rotationSpare c && (s.slackCheck l c).isNone)

/-- Pack slices that a visit appends, and the field's pointer moved past them (R186). -/
def State.takePacks (s : State) (f : Nat) : (Nat × Nat) × State :=
  let n := (packSlices (sortedPacks s)).length
  let k := if s.launch.running ∧ 0 < n then s.rf .fstStCtrlPackPerVisit f else 0
  let p := (s.field f).packPtr
  ((k, p), if k = 0 then s else s.setField f { s.field f with packPtr := (p + k) % n })

/-- Only the router slices of a visit remain, after windows (R174). -/
def routersLeft (v : Visit) : Bool := decide (v.path = 2 ∧ v.ran % 2 ^ 29 = 2 ^ 29 - 1)

/-- A visit, new or resumed from what an earlier one left. Its pack slices are taken once, off the window path (R174, R186). -/
def State.newVisit (s : State) (t : Nat) (l : Option Nat) (path mode : Nat) (owner : VisitOwner) (spare : Nat) : Visit × State :=
  let old := if mode = 0 then s.st.parked.find? (fun v => decide (v.tile = t)) else none
  let takes := decide (mode = 0 ∧ path ≠ 2) && old.all (fun v => decide (v.packsLeft = 0) && !routersLeft v)
  let ((k, p), s1) := if takes then s.takePacks (tileField t) else ((0, 0), s)
  match old with
  | some v =>
    let v1 := { v with logical := l, spare := spare, path := path, owner := owner, since := s1.now, aborted := false, paused := false,
                       held := false, routersOnly := routersLeft v }
    (if takes then { v1 with packsLeft := k, packFirst := p } else v1,
     { s1 with st := { s1.st with parked := s1.st.parked.filter (fun x => decide (x.tile ≠ t)) } })
  | none =>
    ({ tile := t, logical := l, spare := spare, path := path, owner := owner, mode := mode, since := s1.now, packsLeft := k, packFirst := p }, s1)

def State.addVisit (s : State) (v : Visit) (st : Nat) : State :=
  ({ s with st := { s.st with visits := s.st.visits ++ [v] } }).setStState v.tile st

def State.closeCollar (s : State) (t : Nat) : State := s.setTile t { s.tile t with collarOut := true, collarIn := true }

/-- A visit cannot start now: no room, held domain, another visit, an episode or a regrowth on the tile. -/
def State.visitBlocked (s : State) (t : Nat) : Bool :=
  !s.computeUp || s.dropped (tileField t) || (s.visitOf t).isSome || (s.rotationOnto t).isSome ||
  s.episodes.any (fun e => decide (e.tile = t ∨ e.spare = t ∨ e.spare2 = t)) ||
  s.regrows.any (fun r => decide (r.failed = t) || decide (r.target = some t))

/-- Room for one more tile under the limit (R178). -/
def State.visitRoom (s : State) : Bool := decide (s.testCount < s.testLimit)

/-- The visit leaves TESTING: a window restores, unless a test failed in it: the tile then stays stalled, its context in its save area,
until the detection (R181). Other paths clear. -/
def State.visitAfter (s : State) (v : Visit) : State :=
  if v.path = 2 then
    if v.banks ≠ 0 ∨ v.slices ≠ 0 ∨ v.packFail ≠ 0 then
      let s1 := ((s.setVisit v).sendVisit v (if visitComplete v then 1 else 2)).visitEnds v.tile
      s1.setTile v.tile { s1.tile v.tile with stall := true, stallAt := s1.now, inWindow := true }
    else (s.setVisit v).setStState v.tile stRestoring
  else (s.setVisit { v with held := false }).setStState v.tile stClearing

/-- The function lets the visit go on (R180): while it drains no item starts, and a visit of its own needs it ON. -/
def State.visitGoes (s : State) (v : Visit) : Bool :=
  let fn := Func.fieldSelfTest (toFin32 (tileField v.tile))
  if v.owner = .function then s.fnOn fn else decide (s.fnState fn ≠ 3)

/-- The visit's next item starts, waits for the limit (R178), or the visit leaves TESTING with nothing left, with the function draining
(R180) or, in a window, with no room. A tile whose station is in reset is held isolated (R181). -/
def State.nextStep (s : State) (v : Visit) : State :=
  if v.path ≠ 2 ∧ s.stationUp (toFin32 (tileField v.tile)) = false then s.setVisit { v with held := true }
  else if !(s.visitGoes v && s.stationUp (toFin32 (tileField v.tile))) then s.visitAfter v
  else match s.nextItem v with
    | none => s.visitAfter v
    | some j =>
      if s.testCount ≤ s.testLimit then s.setVisit { v with item := j, paused := false }
      else if v.path = 2 then s.visitAfter v
      else s.setVisit { v with item := j, paused := true }

/-- IDLE leaves by a slot or a command (R175): a rotation for a tile that serves, in place otherwise. None when the visit
cannot start; a function that drains starts none (R180). -/
def State.startVisit (s : State) (t mode : Nat) (owner : VisitOwner) : Option State :=
  if s.visitBlocked t || !s.visitRoom || decide (s.fnState (.fieldSelfTest (toFin32 (tileField t))) = 3) ||
     !s.stationUp (toFin32 (tileField t)) then none
  else match s.logicalOf t with
  | some l =>
    if s.tileOut t then none
    else match s.rotationTarget l with
      | some sp =>
        let (v, s1) := s.newVisit t (some l) 1 mode owner sp
        some ((s1.addVisit v stMovingOut).startMove l t sp 1)
      | none => none
  | none =>
    let (v, s1) := s.newVisit t none 3 mode owner 0
    some (((s1.addVisit v stTesting).closeCollar t).nextStep v)

/-! ### Slots (R176, R177) -/

/-- VISIT_SLOT: the oldest unit not passed over for its windows. When the stream will reach a tile's declared windows is the program's (a
free bit for each tile). DESIGN CHOICE: log entry 7. -/
def State.visitSlot (s : State) (f : Nat) : State :=
  let U := s.unitCount f
  if s.fnOn (.fieldSelfTest (toFin32 f)) && s.stationUp (toFin32 f) && decide (0 < U) &&
     decide ((s.field f).visitSlotAt + s.visitPeriod f / U ≤ s.now) then
    let s1 := s.setField f { s.field f with visitSlotAt := s.now }
    let s2 := { s1 with freeCtr := s1.freeCtr + 2 ^ 19 }
    let ok := fun (u : Nat) =>
      let t := s2.unitTile u
      let routers := s2.st.parked.any (fun v => decide (v.tile = t) && routersLeft v)
      (s2.visitOf t).isNone &&
      ((Tab.get (fun _ => none) s2.winTabs t).isNone || s2.unitOverdue f u || routers || (Config.freeWord (s1.freeCtr + t)).getLsbD 0)
    match s2.oldestUnit f ((s2.units f).filter ok) with
    | some u => (s2.startVisit (s2.unitTile u) 0 .function).getD s2
    | none => s2
  else s

/-- VISIT_LATE (R177): a unit past twice the period, once. -/
def State.visitLate (s : State) (u : Nat) : State :=
  let f := tileField (u % 2 ^ 19)
  if decide (u < 2 ^ 20) && (if u < 2 ^ 19 then s.served u else !s.spareBusy (u - 2 ^ 19) && isSpare (u - 2 ^ 19)) &&
     decide (2 * s.visitPeriod f < s.visitAge f u) && !s.st.late.contains u then
    (({ s with st := { s.st with late := u :: s.st.late } }).put .fstStStatusVisitLate f 1).sample 10 (locStation f)
      [evNotice 4 f (s.unitTile u) 0x08 0 (s.unitTile u)]
  else s

/-! ### Orders (R178, R187) -/

/-- A unit that R187 lets a command test: a tile whose path is open. -/
def State.orderable (s : State) (t : Nat) : Bool :=
  !s.visitBlocked t && !s.st.orders.any (fun o => decide (o.1 = t)) &&
  (match s.logicalOf t with
    | some l => !s.tileOut t && (s.rotationTarget l).isSome
    | none => true)

/-- An order is carried out, or waits while the limit does not let in the tile. DEDUCED: log entry 73. -/
def State.orderVisit (s : State) (t mode : Nat) (owner : VisitOwner) : State :=
  match s.startVisit t mode owner with
  | some u => u
  | none => { s with st := { s.st with orders := s.st.orders ++ [(t, owner, mode)] } }

/-- Orders and items that waited go on (R178). DEDUCED: log entry 73. -/
def State.resumeOrders (s : State) : State :=
  s.st.orders.foldl (fun u o =>
    (({ u with st := { u.st with orders := u.st.orders.filter (fun x => decide (x.1 ≠ o.1)) } } : State).startVisit o.1 o.2.2 o.2.1).getD u) s

def State.resumeItems (s : State) : State :=
  (s.st.visits.filter (fun v => v.paused)).foldl (fun u v => if u.testCount ≤ u.testLimit then u.nextStep v else u) s

/-- TSN_ST_RUN (R187, R189). A MODE of 3 is reserved and orders nothing. -/
def State.stRun (s : State) (t : Nat) : State :=
  let m := s.rf .tsnStCtrlMode t
  let s1 := s.put .tsnStCtrlRun t 1
  if m < 3 ∧ s.orderable t = true then s1.orderVisit t m .register else if (s.visitOf t).isSome then s1 else s1.put .tsnStCtrlRun t 0

/-- TEST (R407). -/
def State.testCommand (s : State) (cid t m : Nat) : State :=
  if tileOk t = false ∨ m = 3 then s.respond 0x50 cid 7 1 0
  else if s.orderable t then s.orderVisit t m (.host cid)
  else s.respond 0x50 cid 9 1 0

/-! ### Windows (R174) -/

/-- The length of the tile's declared window that opens at a stream position (R173). -/
def WindowTable.opens (w : WindowTable) (q : Nat) : Option Nat := (w.windows.find? (fun x => decide (x.1 = q))).map (fun x => x.2)

/-- TEST_WINDOW_OPEN: the stream reaches OPEN_POS, the visit is incomplete, the limit admits the tile, and something fits. The context
goes to SAVE_ADDR (R174). DEDUCED: log entry 73. -/
def State.windowOpen (s : State) (t q context : Nat) : State :=
  match Tab.get (fun _ => none) s.winTabs t with
  | some w =>
    match w.opens q with
    | some len =>
      if s.fnOn (.fieldSelfTest (toFin32 (tileField t))) = true ∧ (s.logicalOf t).isSome ∧ s.tileOut t = false ∧
         s.visitBlocked t = false ∧ s.visitRoom = true then
        let (v, s1) := s.newVisit t (s.logicalOf t) 2 0 .function 0
        let v1 := { v with window := len - 128, routersOnly := false }
        if (s1.nextItem v1).isSome then
          (List.range ctxLines).foldl (fun u i => u.setSram t (w.save / 128 + i) (bits context (1024 * i) 1024)) (s1.addVisit v1 stSaving)
        else s
      else s
    | none => s
  | none => s

/-- VISIT_SAVE_DONE: 64 tile cycles. -/
def State.saveDone (s : State) (t : Nat) : State :=
  match s.visitOf t with
  | some v => if s.stState t = stSaving then (s.setStState t stTesting).nextStep { v with cycles := v.cycles + 64 } else s
  | none => s

/-! ### Items (R168 to R171, R175) -/

/-- The result of the item that ends, recorded. -/
def State.recordItem (s : State) (v : Visit) (r : ItemResult) : Visit × State :=
  let c := s.itemCycles v v.item
  let v0 := { v with ran := v.ran ||| 1 <<< v.item, cycles := v.cycles + c, window := v.window - c }
  match r with
  | .march b =>
    -- a destructive march leaves the SRAM zero (R170)
    let s1 := if v.path = 2 then s else s.clearSram v.tile
    ({ v0 with banks := v0.banks ||| b.toNat }, if b ≠ 0 then s1.put .tsnStCtrlFailed v.tile 1 else s1)
  | .slice m g =>
    let v1 := { v0 with patterns := v0.patterns + 1024 }
    if m = g then (v1, s) else ({ v1 with slices := v1.slices ||| 1 <<< (v.item - 1) }, s.puts [(.tsnStCtrlFailed, v.tile, 1), (.tsnStMisrMisr, v.tile, m.toNat)])
  | .pack m g =>
    match s.packItem v v.item with
    | some (p, i, d) =>
      let v1 := { v0 with patterns := v0.patterns + d.2.1 }
      let s1 := { s with st := { s.st with ran := Tab.set (fun _ => false) s.st.ran ((v.tile * 16 + p.slot) * 2 ^ 14 + i) true } }
      if m = g then (v1, s1)
      else ({ v1 with packFail := v1.packFail + 1, packId := if v1.packFail = 0 then p.id % 2 ^ 16 else v1.packId },
        s1.puts [(.tsnStCtrlFailed, v.tile, 1), (.tsnStMisrMisr, v.tile, m.toNat)])
    | none => (v0, s)

/-- A result is of the item that runs. -/
def resultFits (j : Nat) : ItemResult → Bool
  | .march _ => decide (j = 0)
  | .slice _ _ => decide (1 ≤ j ∧ j ≤ 32)
  | .pack _ _ => decide (33 ≤ j)

/-- VISIT_ITEM_END. -/
def State.itemEnd (s : State) (t : Nat) (r : ItemResult) : State :=
  match s.visitOf t with
  | some v =>
    if s.stState t = stTesting ∧ v.paused = false ∧ v.held = false ∧ resultFits v.item r = true then
      let (v1, s1) := s.recordItem v r
      s1.nextStep v1
    else s
  | none => s

/-! ### Ends (R175, R180, R181) -/

/-- An ordered visit that stays incomplete is ordered again (R180). DEDUCED: log entry 73. -/
def State.reorder (s : State) (v : Visit) : State :=
  if v.owner = .function then s
  else
    let s1 := { s with st := { s.st with orders := s.st.orders ++ [(v.tile, v.owner, v.mode)] } }
    if v.owner = .register then s1.put .tsnStCtrlRun v.tile 1 else s1

/-- The visit ends in IDLE: its record when it is complete, or a diagnostic MODE has run all it may; what is incomplete is kept.
DEDUCED: log entry 85. -/
def State.visitFinish (s : State) (v : Visit) : State :=
  let s1 := if v.path = 2 then s.visitEnds v.tile else s.visitIdle v.tile
  let kept := fun (u : State) => { u with st := { u.st with parked := { v with aborted := false } :: u.st.parked } }
  if v.aborted then
    -- a diagnostic visit leaves nothing to resume (R189)
    (if v.mode = 0 then kept s1 else s1)
  else if visitComplete v ∨ (v.mode ≠ 0 ∧ (s.nextItem v).isNone) then s1.sendVisit v 1
  else (if v.mode = 0 then kept s1 else s1).reorder v

/-- VISIT_RESTORE_DONE. -/
def State.restoreDone (s : State) (t : Nat) : State :=
  match s.visitOf t with
  | some v => if s.stState t = stRestoring then s.visitFinish { v with cycles := v.cycles + 64 } else s
  | none => s

/-- A rotated tile is moved back home: it is not withdrawn, nor will this visit's record withdraw it (R181), and no regrowth of the
logical tile is under way. -/
def State.moveBack (s : State) (v : Visit) : Option Nat :=
  match v.logical with
  | some l =>
    if v.path = 1 ∧ v.banks = 0 ∧ v.slices = 0 ∧ v.packFail = 0 ∧ s.tileOut v.tile = false ∧ s.serving l = v.spare ∧
       s.regrows.any (fun r => decide (r.logical = l)) = false then some l else none
  | none => none

/-- The tile is clear: a rotated one is moved back home once its station is up (R181). -/
def State.afterClear (s : State) (v : Visit) : State :=
  match s.moveBack v with
  | some l =>
    if s.stationUp (toFin32 (tileField v.tile)) then
      ((s.setVisit { v with held := false }).setStState v.tile stMovingBack).startMove l v.spare v.tile 2
    else s.setVisit { v with held := true }
  | none => s.visitFinish v

/-- VISIT_CLEAR_DONE: 3,072 tile cycles. -/
def State.clearDone (s : State) (t : Nat) : State :=
  match s.visitOf t with
  | some v =>
    if s.stState t = stClearing ∧ v.held = false then (s.clearSram t).afterClear { v with cycles := v.cycles + 3072 } else s
  | none => s

/-- The station is back: it clears and moves back each tile that was held (R181). -/
def State.releaseHeld (s : State) (f : Nat) : State :=
  (s.st.visits.filter (fun v => v.held && decide (tileField v.tile = f))).foldl (fun u v =>
    if u.stState v.tile = stClearing then u.afterClear v else u.visitAfter v) s

/-- Tile cycles of a move, by the tick. -/
def State.moveCycles (s : State) (r : Regrowth) : Nat := (s.now - r.since) * s.clock

/-- VISIT_MOVE_DONE: the epoch of the move has drained. -/
def State.moveDone (s : State) (t : Nat) : State :=
  match s.visitOf t with
  | some v =>
    match s.regrows.find? (fun r => decide (some r.logical = v.logical ∧ r.rot ≠ 0 ∧ r.phase = rgDone)) with
    | some r =>
      let v1 := { v with cycles := v.cycles + s.moveCycles r }
      let s1 := s.dropRegrow r
      if s.stState t = stMovingOut ∧ r.rot = 1 then
        let s2 := (s1.closeCollar t).setTile t { s1.tile t with collarOut := true, collarIn := true, stall := false, frozen := false }
        if v.aborted then (s2.setVisit v1).setStState t stClearing else (s2.setStState t stTesting).nextStep v1
      else if s.stState t = stMovingBack ∧ r.rot = 2 then s1.visitFinish v1
      else s
    | none => s
  | none => s

/-! ### Records at the station (R183) -/

/-- The detections of a record: the tile, each failing router port, each failing bank. With both pack and base slices failing the tile's
one detection is PACK_FAIL. DESIGN CHOICE: log entry 96. -/
def visitDetects (rec : Nat) : List EvAct :=
  let t := bits rec 64 19
  let sl := bits rec 32 32
  (if bits rec 96 16 ≠ 0 then [.detect (tileKey t) 0x022 3] else if sl % 2 ^ 28 ≠ 0 then [.detect (tileKey t) 0x020 2] else []) ++
  ((List.range 4).filter (fun p => sl.testBit (28 + p))).map (fun p => .detect ⟨kindRouter, t, p⟩ 0x023 2) ++
  ((List.range 12).filter (fun b => (bits rec 16 12).testBit b)).map (fun b => .detect (bankKey t b) 0x021 2)

/-- VISIT_RECORD_ARRIVAL (R176, R183, R190). -/
def State.visitArrival (s : State) (f rec : Nat) : State :=
  if recordOk rec 30 then
    let t := bits rec 64 19
    let ty := bits rec 4 4
    let diag := s.st.diag.contains t
    let u := match s.logicalOf t with | some l => l | none => spareUnit t
    let s1 := { s with st := { s.st with diag := s.st.diag.filter (fun x => decide (x ≠ t)) } }
    let s2 := if ty = 1 ∧ diag = false then
      ({ s1 with st := { s1.st with done := Tab.set (fun _ => 0) s1.st.done u s1.now, late := s1.st.late.filter (fun x => decide (x ≠ u)) } }).bump
        .fstStVisitsVisits f .fstStStatusCountSat f 1 else s1
    let ds := visitDetects rec
    let s3 := if ds.isEmpty then s2 else s2.bump .fstStFailsFails f .fstStStatusCountSat f 1
    let s4 := if ty = 2 then s3.bump .fstStAbortsAborts f .fstStStatusCountSat f 1 else s3
    let s5 := if ty = 2 ∨ !ds.isEmpty then s4.put .fstStLastRecord f rec else s4
    s5.sample 10 (locTile t) (ds ++ [.post 4 f t 32 rec false])
  else s.put .fstStStatusRecordCrc f 1

/-! ### Tile SRAM error reports (R44, R182, R260) -/

/-- CE_LIMIT as it takes effect. -/
def State.ceLimit (s : State) (f : Nat) : Nat := Nat.max 1 (s.rf .fstStCtrlCeLimit f)

def State.sramCe (s : State) (t b n : Nat) : State :=
  let c := Tab.get (fun _ => 0) s.ceCounts (12 * t + b)
  let v := Nat.min 31 (c % 32 + n)
  let hit := decide (c < 32 ∧ s.ceLimit (tileField t) < v)
  ({ s with ceCounts := Tab.set (fun _ => 0) s.ceCounts (12 * t + b) (v + (if 32 ≤ c ∨ hit = true then 32 else 0)) }).sample 8 (locTile t)
    (.hazard 0 :: (if hit then [.detect (bankKey t b) 0x011 2] else []))

/-- CE_COUNTER_CLEAR: hourly, counted from the station's last reset. -/
def State.ceClear (s : State) (f : Nat) : State :=
  if s.stationUp (toFin32 f) = true ∧ (s.field f).ceClearAt + 3600000000 ≤ s.now then
    { s.setField f { s.field f with ceClearAt := s.now } with ceCounts := Tab.drop (fun k => decide (tileField (k / 12) = f)) s.ceCounts }
  else s

/-! ### Rows -/

/-- TSN_ST_RUN (R187). -/
def execTsnStRun (tile : Nat) (s : State) : Host.Outcome State Fault Refusal := onTile tile s (s.stRun tile)

/-- TEST (R407). -/
def execTest (cid : BitVec 32) (unit : BitVec 19) (mode : BitVec 2) (s : State) : Host.Outcome State Fault Refusal :=
  .next (s.asHost 0x50 cid.toNat (fun t => t.testCommand cid.toNat unit.toNat mode.toNat))

/-- VISIT_SLOT (R176). -/
def execVisitSlot (f : Fin 32) (s : State) : Host.Outcome State Fault Refusal := .next (s.visitSlot f.val)

/-- TEST_WINDOW_OPEN (R174). -/
def execTestWindowOpen (tile : Nat) (saved : WindowContext) (s : State) : Host.Outcome State Fault Refusal :=
  onTile tile s (s.windowOpen tile saved.streamPos.toNat saved.context.toNat)

/-- VISIT_MOVE_DONE (R175). -/
def execVisitMoveDone (tile : Nat) (s : State) : Host.Outcome State Fault Refusal := onTile tile s (s.moveDone tile)

/-- VISIT_SAVE_DONE (R175). -/
def execVisitSaveDone (tile : Nat) (s : State) : Host.Outcome State Fault Refusal := onTile tile s (s.saveDone tile)

/-- VISIT_ITEM_END (R175). -/
def execVisitItemEnd (tile : Nat) (result : ItemResult) (s : State) : Host.Outcome State Fault Refusal :=
  onTile tile s (s.itemEnd tile result)

/-- VISIT_RESTORE_DONE (R175). -/
def execVisitRestoreDone (tile : Nat) (s : State) : Host.Outcome State Fault Refusal := onTile tile s (s.restoreDone tile)

/-- VISIT_CLEAR_DONE (R175). -/
def execVisitClearDone (tile : Nat) (s : State) : Host.Outcome State Fault Refusal := onTile tile s (s.clearDone tile)

/-- VISIT_RECORD_ARRIVAL (R183). -/
def execVisitRecordArrival (f : Fin 32) (record : BitVec 256) (s : State) : Host.Outcome State Fault Refusal :=
  .next (s.visitArrival f.val record.toNat)

/-- VISIT_LATE (R177). -/
def execVisitLate (unit : Nat) (s : State) : Host.Outcome State Fault Refusal := .next (s.visitLate unit)

/-- CE_COUNTER_CLEAR (R182). -/
def execCeCounterClear (f : Fin 32) (s : State) : Host.Outcome State Fault Refusal := .next (s.ceClear f.val)

/-- SRAM_CE_REPORT (R182). -/
def execSramCeReport (tile : Nat) (bank : Fin 12) (count : Nat) (s : State) : Host.Outcome State Fault Refusal :=
  onTile tile s (s.sramCe tile bank.val count)

/-- SRAM_UE_REPORT (R44): an uncorrectable tile SRAM word, in the mismatch class (R260). -/
def execSramUeReport (tile : Nat) (bank : Fin 12) (s : State) : Host.Outcome State Fault Refusal :=
  onTile tile s (s.sample 5 (locTile tile) [.detect (bankKey tile bank.val) 0x010 2])

end Sys2Proof.Machine
end

