-- ==== Sys2Proof/Machine/Resets.lean ====
section
/-! DEFINITION. The reset domains: what a reset of each clears, asserting it, the requests, and the end of a molt
(11_bring_up_and_resets.md R330 to R338; 12_hangs_and_molts.md R347, R348, R354). -/

namespace Sys2Proof.Machine

/-! ### Work that ends with tile compute (R330, R354) -/

/-- An order for a visit ends with its domain: the host's is answered ABORTED, a core's completes so. -/
def State.abortOwner (s : State) (o : VisitOwner) (t : Nat) : State :=
  match o with
  | .host cid => s.respond 0x50 cid 3 1 0
  | .core c => s.asyncDone c 0x22 13 t 7 0 0
  | _ => s

/-- A visit ends with its domain (R181): its record of TYPE 2. -/
def State.endVisit (s : State) (v : Visit) : State :=
  (if v.aborted then s else { s with out := .record v.tile (s.visitRecord v 2) :: s.out }).abortOwner v.owner v.tile

def State.endVisits (s : State) : State :=
  let s1 := s.st.orders.foldl (fun t o => t.abortOwner o.2.1 o.1) (s.st.visits.foldl State.endVisit s)
  { s1 with st := { s1.st with visits := [], parked := [], orders := [] } }

/-- A capture whose reads have not all left the tiles is LOST (R354). -/
def State.endCapture (s : State) : State :=
  match s.sec.capture with
  | some c =>
    if c.released then s
    else
      let s1 := (s.genList.filter (fun g => decide (g.2.state = 1 ∧ g.2.step = c.step) && c.layers.contains g.2.layer)).foldl
        (fun t g => t.loseGen g.1) s
      { s1 with sec := { s1.sec with capture := none } }
  | none => s

/-- A rollback being carried out is answered ABORTED; one held for stage 5 stands (R356, R482). -/
def State.abortStarted (s : State) : State :=
  match s.sec.rollback with
  | some r => if 1 ≤ r.phase then s.answerRollback 3 0 0 else s
  | none => s

/-- The launch, its barrier and the reload that a compute reset ends. -/
def State.endCompute (s : State) : State :=
  let s1 := if s.launch.barrier then
      match s.launch.cid with
      | some c => (s.closeBarrier).respond 0x60 c 3 1 0
      | none => s.closeBarrier
    else s
  let s2 := if s1.launch.running then s1.endLaunch else s1.abortStarted
  if s2.recState = 5 ∨ s2.recState = 6 then s2.closeBarrier.setRec 4 else s2

/-- Keeper, station and Semaphore Store fields that read zero once the tiles are reset. -/
def tileFields : List RF :=
  [.kprEpochCurrent, .kprEpochDraining, .kprEpochPending, .kprEpochProgramPending, .fstScrubStatusActive, .semFlagsAddSat, .semFlagsSubSat]

/-- What a compute reset clears (R330): tiles and Sentinels, the epoch, tile waits, everything that works on a tile. -/
def State.computeClear (s : State) : State :=
  let s1 := s.endCompute.endVisits.endCapture
  let s2 := ((s1.stopWhere (fun _ => true) 3 10).tilesClear (fun _ => true)).dropWaits
    (fun w => match w.owner with | .tile _ => true | _ => false) 7
  let s3 := s2.resetRegs (fun F _ => tileFields.contains F)
  { s3 with
    episodes := [], transfers := [], regrows := [], epochFn := {}, mapBuilt := false, ceCounts := [], redirect := []
    wardens := s3.wardens.map (fun (e : Nat × Warden) => (e.1, { e.2 with heldFlits := [] }))
    prog := match s3.progNext with | some p => some p | none => s3.prog
    progNext := none
    sec := { s3.sec with waiting := none, held := none } }

/-! ### HELD (R334) -/

/-- The domain is HELD from now on. -/
def State.hold (s : State) (d : Domain) : State :=
  ((s.setDom d 2).setDomPending d 0).setDomInfo d { s.domInfo d with heldAt := s.now, waits := false }

/-- Tile compute's reset is asserted; the peers hear of it (R331). -/
def State.assertCompute (s : State) : State := ((s.sendPause.computeClear).put .kprBringupStatusReady 0 0).hold .compute

/-- A Field Station's reset is asserted; a Sentinel access in progress ends with TIMEOUT (R457). -/
def State.assertStation (s : State) (f : Nat) : State :=
  let busy := (List.range 2).filter (fun i => decide (s.rf .fstTsnCmdGo (2 * f + i) = 1))
  (busy.foldl (fun t i => t.put .fstTsnCmdErr (2 * f + i) 3) (s.stationClear f)).hold (.station (toFin32 f))

/-- Warden registers that a port reset keeps: the domain's state, and what the ledger withdraws. -/
def portKept : List RF := [.lwdPortStatusState, .lwdPortStatusResetPending, .lwdLaneWithdrawnWithdrawn]

/-- Link port k's reset is asserted (R330, R332): adds held at its ingress are discarded, and listed where no recovery's
molt has them; its choruses end; scan of its Warden closes (R188). -/
def State.assertPort (s : State) (k : Nat) : State :=
  let held := (s.warden k).ingress
  let s1 := (s.chorusAbandon k).parkDiscard held.length
  let s2 := if (s.domInfo (.port (toFin16 k))).waits then s1 else State.parkFlush 8 s1 held
  let s3 := ((s2.setWarden k {}).resetRegs (fun F i => decide (F.spec.blk = .warden) && !portKept.contains F && ofUnit F i k)).linkDown k
  let s4 := s3.put .kprStStatusScanTarget 0 (s3.rf .kprStStatusScanTarget 0 &&& (0x1FFFF ^^^ 1 <<< (k + 1)))
  (s4.resetFns (.port (toFin16 k))).hold (.port (toFin16 k))

/-! ### The Keeper (R330) -/

/-- Registers that a Keeper reset leaves: the ledger's masks, the identity, the state of the trip and of the windows, the
running firmware, what only a power cycle clears. -/
def keeperKept : List RF :=
  [.kprEngineEngine, .kprEngineValid, .kprLedgerStatusFuseRev, .kprLedgerDisputedFields, .kprLedgerShortFields,
   .kprFieldsDroppedDropped, .kprMonStatusTripped, .kprMonStatusHold, .kprMonStatusFlashWindow, .kprMonStatusMaxTemp,
   .kprMonStatusMaxField, .kprStStatusScanned, .kprStStatusScanTarget, .kprFwStatusActiveSlot, .kprFwRevisionRevision]

/-- The partner generation as the Keeper holds it after its reset: LOST. -/
def State.lostPartner (s : State) : Tab (Option Gen) :=
  match s.genList.find? (fun g => decide (g.2.layer = 1)) with
  | some g => [(0, some { g.2 with state := 4 })]
  | none => []

/-- Stations and ports whose molt ends unfinished with the Keeper are reset without it. DEDUCED: log entry 56. -/
def State.dropMolts (s : State) : State :=
  let fs := (List.range 32).filter (fun f => decide (s.domState (.station (toFin32 f)) = 1))
  let ks := (List.range 16).filter (fun k => decide (s.domState (.port (toFin16 k)) = 1))
  let s1 := { s with molts := { s.molts with busy := [] } }
  ks.foldl State.assertPort (fs.foldl State.assertStation s1)

/-- What a Keeper reset clears besides tile compute. -/
def State.keeperClear (s : State) : State :=
  let s1 := ((s.dropMolts.endAttachment).dropWaits (fun _ => true) 7).zeroise false
  let s2 := s1.resetRegs (fun F _ => decide (F.spec.blk = .keeper ∨ F.spec.blk = .sem ∨ F.spec.blk = .host) && !keeperKept.contains F)
  let s3 := { s2 with
    fields := s2.fields.map (fun (e : Nat × FieldSt) => (e.1, { e.2 with epNext := 0, epEnd := 0 }))
    host := { busMaster := s2.host.busMaster, d3hot := s2.host.d3hot, msixEntry := s2.host.msixEntry, msixPending := s2.host.msixPending }
    sec := { gens := s1.lostPartner }
    cores := Tab.drop (fun c => decide (64 ≤ c)) s2.cores
    waits := [], park := [], poisonAsked := [], goWtc := 0
    wtc := 0, wtcSlew := 0, wtcSyncAt := s2.now
    hz := {}, recov := {}, launch := {}, run := {}, prog := none, progNext := none
    mon := { s2.mon with shedAt := none, capTold := false, underAt := none, hzAt := s2.now, hzAbove := 0, escTicks := 0, escLast := 0, spans := [] }
    ledger := { s2.ledger with latch := none, accepted := [], cmds := [] }
    st := { s2.st with scanStep := 0, packs := s2.st.packs.filter (fun p => p.stored) }
    fw := { s2.fw with staged := none }
    boot := { s2.boot with keeperTested := false } }
  (s3.puts [(.kprTileCfgClockMhz, 0, s3.clockMax), (.kprTileCfgCap10w, 0, s3.capMax),
    (.kprStStatusScanTarget, 0, s3.rf .kprStStatusScanTarget 0 &&& 0x1FFFE)]).resetFns .keeper

/-- The Keeper's reset is asserted, and tile compute's with it. -/
def State.assertKeeper (s : State) : State := ((s.sendPause.computeClear.keeperClear).hold .keeper).hold .compute

/-- The reset of a domain is asserted. -/
def State.assertReset (s : State) (d : Domain) : State :=
  match d with
  | .keeper => s.assertKeeper
  | .compute => s.assertCompute
  | .station f => s.assertStation f.val
  | .port k => s.assertPort k.val

/-! ### Requests (R334) -/

/-- A request that takes no molt. DEDUCED: log entry 57. -/
def State.resetNow (s : State) (d : Domain) : State :=
  match s.domState d with
  | 0 => s.assertReset d
  | 3 => s.setDomPending d 1
  | _ => s

/-- Tile compute at the host's request (R347): a molt while a launch runs. While the Keeper is not UP the request is
absorbed (R333). DEDUCED: log entry 53. -/
def State.requestCompute (s : State) : State :=
  let s1 := s.put .aoiResetCauseComputeHost 0 1
  if s1.keeperUp = false then s1
  else if s1.launch.running then s1.captureReset .compute true 8 0 false
  else s1.resetNow .compute

/-- The Keeper: host request or watchdog (R347). -/
def State.requestKeeper (s : State) (cause : Nat) : State :=
  (s.put (if cause = 8 then .aoiResetCauseKeeperHost else .aoiResetCauseKeeperWatchdog) 0 1).captureReset .keeper true cause 0 false

/-- A Field Station: host request or watchdog (R347). -/
def State.requestStation (s : State) (f cause : Nat) : State :=
  (s.put .aoiResetCauseStation 0 1).captureReset (.station (toFin32 f)) false cause f false

/-- The port's reset waits in CAPTURE for the recovery's molt. -/
def State.portWaits (s : State) (k : Nat) : State :=
  let d : Domain := .port (toFin16 k)
  match s.domState d with
  | 0 => (s.setDom d 1).setDomInfo d { s.domInfo d with waits := true }
  | 3 => s.setDomPending d 1
  | _ => s

/-- Link port k (R332): with a launch that names it, the launch ends and recovery is requested. -/
def State.requestPort (s : State) (k : Nat) : State :=
  let s1 := s.put .aoiResetCausePort 0 1
  if s1.launch.running = true ∧ s1.namedPorts.contains k = true then
    (s1.endLaunch.requestRecovery false none 6 false).portWaits k
  else if s1.recState = 1 ∧ s1.namedPorts.contains k = true then s1.portWaits k
  else s1.resetNow (.port (toFin16 k))

/-! ### The end of a molt (R334, R348, R410) -/

/-- The domain of a key. -/
def keyDom (n : Nat) : Domain :=
  if n = 0 then .keeper else if n = 1 then .compute else if n < 34 then .station (toFin32 (n - 2)) else .port (toFin16 (n - 34))

/-- A domain in CAPTURE goes on to HELD; with tile compute go the ports that wait for its molt. -/
def State.afterMolt (s : State) (d : Domain) : State :=
  if s.domState d ≠ 1 then s
  else match d with
    | .compute =>
      let s1 := s.assertCompute
      let ks := (List.range 16).filter (fun k => (s1.domInfo (.port (toFin16 k))).waits && decide (s1.domState (.port (toFin16 k)) = 1))
      let s2 := ks.foldl State.assertPort s1
      if s2.recState = 1 then (s2.setRec 2).put .aoiResetCauseComputeRecovery 0 1 else s2
    | _ => s.assertReset d

/-- The molt stands in its place: DURATION and BYTES as they came out. -/
def State.placeMolt (s : State) (r : MoltRun) (m : MoltSlot) : State :=
  let slots := if r.wafer then pairOf r.slot else [r.slot]
  let s1 := slots.foldl (fun t n => t.setMoltSlot n (some m)) s
  { s1 with molts := { s1.molts with noticeDue := s1.molts.noticeDue ++ [r.slot] } }

/-! ### Domains that reach UP (R335, R407) -/

/-- The domain is UP: its functions restart, and the RESET commands that wait for it are answered. DEDUCED: log entry 57. -/
def State.domUp (s : State) (d : Domain) : State :=
  let i := s.domInfo d
  let s1 := ((s.setDom d 0).setDomInfo d { i with cids := [] }).restartFns d
  i.cids.foldl (fun t c => t.respond 0x63 c 0 1 0) s1

/-- The payload of a molt notice (R410), from byte 16. -/
def moltNotice (slot : Nat) (copied : Bool) (m : MoltSlot) : Nat :=
  pack [(0, 2, slot), (2, 1, bit copied), (3, 1, bit m.isPartial), (4, 1, bit m.tilesAbsent), (8, 4, m.cause), (12, 2, m.scope),
    (16, 5, m.field), (32, 32, m.seq), (64, 32, m.bytes), (128, 64, m.startTime), (192, 64, m.startWtc), (256, 64, m.step)]

/-- Molt notices due at the restart's end: those of the stations when they come UP, of the wafer at stage 7. -/
def State.tellMolts (s : State) (p : MoltSlot → Bool) : State :=
  s.molts.noticeDue.foldl (fun t n => match t.moltSlot n with
    | some m => if p m then
        ({ t with molts := { t.molts with noticeDue := t.molts.noticeDue.filter (fun x => decide (x ≠ n)) } }).sendMsg 4 0 1 0 0 (moltNotice n false m)
      else t
    | none => { t with molts := { t.molts with noticeDue := t.molts.noticeDue.filter (fun x => decide (x ≠ n)) } }) s

/-! ### RESET commands (R403, R407) -/

/-- A RESET of a domain other than the Keeper is answered when the domain reaches UP. -/
def State.resetCommand (s : State) (cid : Nat) (d : Domain) (go : State → State) : State :=
  let i := s.domInfo d
  go (s.setDomInfo d { i with cids := i.cids ++ [cid], since := if i.cids.isEmpty then s.now else i.since })

/-- RESET of the Keeper: once every earlier command has been answered, the answer goes out and the reset is requested. DEDUCED: log entry 57. -/
def State.resettingCheck (s : State) : State :=
  match s.host.resetting with
  | some c =>
    if s.host.taken.head?.any (fun t => decide (t.cid = c ∧ t.opcode = 0x63)) then
      (({ s with host := { s.host with resetting := none } }).respond 0x63 c 0 1 0).requestKeeper 8
    else s
  | none => s

/-! ### Rows -/

/-- KPR_RESET_REQ, KEEPER (R337). -/
def execKprResetReqKeeper (key : BitVec 8) (s : State) : Host.Outcome State Fault Refusal :=
  .next (if key = 0x5A then (if s.keeperAwake then s.requestKeeper 8 else s) else s.accessErr)

/-- KPR_RESET_REQ, COMPUTE (R337). -/
def execKprResetReqCompute (key : BitVec 8) (s : State) : Host.Outcome State Fault Refusal :=
  .next (if key = 0x5A then (if s.keeperAwake then s.requestCompute else s) else s.accessErr)

/-- KPR_RESET_REQ, PORTS (R332, R337). -/
def execKprResetReqPort (k : Fin 16) (key : BitVec 8) (s : State) : Host.Outcome State Fault Refusal :=
  .next (if key = 0x5A then (if s.keeperAwake then s.requestPort k.val else s) else s.accessErr)

/-- FST_RESET (R337). -/
def execFstReset (f : Fin 32) (key : BitVec 8) (s : State) : Host.Outcome State Fault Refusal :=
  .next (if key = 0x5A then s.requestStation f.val 8 else s.accessErr)

/-- RESET, DOMAIN 0 (R407). -/
def execResetKeeper (cid : BitVec 32) (s : State) : Host.Outcome State Fault Refusal :=
  .next (s.asHost 0x63 cid.toNat (fun t => ({ t with host := { t.host with resetting := some cid.toNat } }).resettingCheck))

/-- RESET, DOMAIN 1 (R407). -/
def execResetCompute (cid : BitVec 32) (s : State) : Host.Outcome State Fault Refusal :=
  .next (s.asHost 0x63 cid.toNat (fun t => t.resetCommand cid.toNat .compute State.requestCompute))

/-- RESET, DOMAIN 2 (R407). -/
def execResetStation (cid : BitVec 32) (index : BitVec 5) (s : State) : Host.Outcome State Fault Refusal :=
  .next (s.asHost 0x63 cid.toNat (fun t => t.resetCommand cid.toNat (.station (toFin32 index.toNat)) (fun u => u.requestStation index.toNat 8)))

/-- RESET, DOMAIN 3 (R407); an INDEX past the ports is BAD_FIELD. -/
def execResetPort (cid : BitVec 32) (index : BitVec 5) (s : State) : Host.Outcome State Fault Refusal :=
  .next (s.asHost 0x63 cid.toNat (fun t =>
    if index.toNat < 16 then t.resetCommand cid.toNat (.port (toFin16 index.toNat)) (fun u => u.requestPort index.toNat)
    else t.respond 0x63 cid.toNat 7 1 0))

end Sys2Proof.Machine
end

