-- ==== Sys2Proof/Machine/Ecdsa.lean ====
section
/-! DEFINITION. SHA-384 (FIPS 180-4) and the verification of ECDSA signatures on P-384 (FIPS 186-5), as R185 and the
firmware check use them (log entry 14). -/

namespace Sys2Proof.Machine

abbrev W64 := BitVec 64

def sha384Init : List W64 :=
  [0xcbbb9d5dc1059ed8, 0x629a292a367cd507, 0x9159015a3070dd17, 0x152fecd8f70e5939,
   0x67332667ffc00b31, 0x8eb44a8768581511, 0xdb0c2e0d64f98fa7, 0x47b5481dbefa4fa4]

def sha512K0 : List W64 :=
  [0x428a2f98d728ae22, 0x7137449123ef65cd, 0xb5c0fbcfec4d3b2f, 0xe9b5dba58189dbbc,
   0x3956c25bf348b538, 0x59f111f1b605d019, 0x923f82a4af194f9b, 0xab1c5ed5da6d8118,
   0xd807aa98a3030242, 0x12835b0145706fbe, 0x243185be4ee4b28c, 0x550c7dc3d5ffb4e2,
   0x72be5d74f27b896f, 0x80deb1fe3b1696b1, 0x9bdc06a725c71235, 0xc19bf174cf692694,
   0xe49b69c19ef14ad2, 0xefbe4786384f25e3, 0x0fc19dc68b8cd5b5, 0x240ca1cc77ac9c65]

def sha512K1 : List W64 :=
  [0x2de92c6f592b0275, 0x4a7484aa6ea6e483, 0x5cb0a9dcbd41fbd4, 0x76f988da831153b5,
   0x983e5152ee66dfab, 0xa831c66d2db43210, 0xb00327c898fb213f, 0xbf597fc7beef0ee4,
   0xc6e00bf33da88fc2, 0xd5a79147930aa725, 0x06ca6351e003826f, 0x142929670a0e6e70,
   0x27b70a8546d22ffc, 0x2e1b21385c26c926, 0x4d2c6dfc5ac42aed, 0x53380d139d95b3df,
   0x650a73548baf63de, 0x766a0abb3c77b2a8, 0x81c2c92e47edaee6, 0x92722c851482353b]

def sha512K2 : List W64 :=
  [0xa2bfe8a14cf10364, 0xa81a664bbc423001, 0xc24b8b70d0f89791, 0xc76c51a30654be30,
   0xd192e819d6ef5218, 0xd69906245565a910, 0xf40e35855771202a, 0x106aa07032bbd1b8,
   0x19a4c116b8d2d0c8, 0x1e376c085141ab53, 0x2748774cdf8eeb99, 0x34b0bcb5e19b48a8,
   0x391c0cb3c5c95a63, 0x4ed8aa4ae3418acb, 0x5b9cca4f7763e373, 0x682e6ff3d6b2b8a3,
   0x748f82ee5defb2fc, 0x78a5636f43172f60, 0x84c87814a1f0ab72, 0x8cc702081a6439ec]

def sha512K3 : List W64 :=
  [0x90befffa23631e28, 0xa4506cebde82bde9, 0xbef9a3f7b2c67915, 0xc67178f2e372532b,
   0xca273eceea26619c, 0xd186b8c721c0c207, 0xeada7dd6cde0eb1e, 0xf57d4f7fee6ed178,
   0x06f067aa72176fba, 0x0a637dc5a2c898a6, 0x113f9804bef90dae, 0x1b710b35131c471b,
   0x28db77f523047d84, 0x32caab7b40c72493, 0x3c9ebe0a15c9bebc, 0x431d67c49c100d4c,
   0x4cc5d4becb3e42b6, 0x597f299cfc657e2a, 0x5fcb6fab3ad6faec, 0x6c44198c4a475817]

def sha512K : List W64 := sha512K0 ++ sha512K1 ++ sha512K2 ++ sha512K3

def sha5S0 (x : W64) : W64 := x.rotateRight 1 ^^^ x.rotateRight 8 ^^^ x >>> 7
def sha5S1 (x : W64) : W64 := x.rotateRight 19 ^^^ x.rotateRight 61 ^^^ x >>> 6
def sha5B0 (x : W64) : W64 := x.rotateRight 28 ^^^ x.rotateRight 34 ^^^ x.rotateRight 39
def sha5B1 (x : W64) : W64 := x.rotateRight 14 ^^^ x.rotateRight 18 ^^^ x.rotateRight 41

/-- The message schedule, newest word last. -/
def sha5Expand : Nat → List W64 → List W64
  | 0, w => w
  | n + 1, w =>
    let t := w.length
    sha5Expand n (w ++ [sha5S1 (w.getD (t - 2) 0) + w.getD (t - 7) 0 + sha5S0 (w.getD (t - 15) 0) + w.getD (t - 16) 0])

def sha5Round (h : List W64) (kw : W64 × W64) : List W64 :=
  match h with
  | [a, b, c, d, e, f, g, hh] =>
    let t1 := hh + sha5B1 e + ((e &&& f) ^^^ (~~~e &&& g)) + kw.1 + kw.2
    let t2 := sha5B0 a + ((a &&& b) ^^^ (a &&& c) ^^^ (b &&& c))
    [t1 + t2, a, b, c, d + t1, e, f, g]
  | _ => h

def sha5Block (h ws : List W64) : List W64 :=
  List.zipWith (· + ·) h ((sha512K.zip (sha5Expand 64 ws)).foldl sha5Round h)

/-- `n` big-endian 64-bit words of a byte list. -/
def beWords64 : Nat → List Nat → List W64
  | 0, _ => []
  | n + 1, bs => BitVec.ofNat 64 (ofBytes (bs.take 8).reverse) :: beWords64 n (bs.drop 8)

def sha5Blocks : Nat → List W64 → List Nat → List W64
  | 0, h, _ => h
  | n + 1, h, bs => sha5Blocks n (sha5Block h (beWords64 16 bs)) (bs.drop 128)

def sha5Pad (bs : List Nat) : List Nat :=
  bs ++ [0x80] ++ List.replicate ((239 - bs.length % 128) % 128) 0 ++ beBytes 16 (8 * bs.length)

/-- SHA-384 of a byte list, byte 0 first. PRESUMED: log entry 14. -/
def sha384 (bs : List Nat) : List Nat :=
  let p := sha5Pad bs
  (((sha5Blocks (p.length / 128) sha384Init p).take 6).map (fun w => beBytes 8 w.toNat)).foldl (· ++ ·) []

/-! ### P-384 -/

def p384 : Nat := 2 ^ 384 - 2 ^ 128 - 2 ^ 96 + 2 ^ 32 - 1
def p384N : Nat := 0xffffffffffffffffffffffffffffffffffffffffffffffffc7634d81f4372ddf581a0db248b0a77aecec196accc52973
def p384B : Nat := 0xb3312fa7e23ee7e4988e056be3f82d19181d9c6efe8141120314088f5013875ac656398d8a2ed19d2a85c8edd3ec2aef
def p384Gx : Nat := 0xaa87ca22be8b05378eb1c71ef320ad746e1d3b628ba79b9859f741e082542a385502f25dbf55296c3a545e3872760ab7
def p384Gy : Nat := 0x3617de4a96262c6f5d9e98bf9292dc29f8f41dbd289a147ce9da3113b5f0b8c00a60b1ce1d7e819d7a431d7c90ea0e5f

/-- f of a value, brought to a numeral first. -/
def forced {α : Type} (n : Nat) (f : Nat → α) : α :=
  match n with
  | 0 => f 0
  | k + 1 => f (k + 1)

/-- b^e mod m; `fuel` bounds the bits of e. -/
def powMod (m : Nat) : Nat → Nat → Nat → Nat
  | 0, _, _ => 1
  | fuel + 1, b, e => if e = 0 then 1 else
      let r := powMod m fuel (b * b % m) (e / 2)
      if e % 2 = 1 then r * b % m else r

/-- Euclid's algorithm: r0 and r1 are t0 times and t1 times a, modulo m; where r1 reaches 0, r0 is their greatest common divisor. -/
def invGo (m : Nat) : Nat → Nat → Nat → Nat → Nat → Nat
  | 0, _, _, t0, _ => t0
  | fuel + 1, r0, r1, t0, t1 => if r1 = 0 then t0 else invGo m fuel r1 (r0 % r1) t1 ((t0 + (m - r0 / r1 * t1 % m)) % m)

/-- The inverse of a modulo the prime m; 0 of a multiple of m. -/
def invMod (m a : Nat) : Nat := invGo m 600 m (a % m) 0 1

/-- a - b modulo p384, of residues. -/
def subP (a b : Nat) : Nat := (a + (p384 - b)) % p384

/-- A point of the curve in Jacobian coordinates: x / z^2, y / z^3; z = 0 is the point at infinity. -/
structure JPoint where
  x : Nat
  y : Nat
  z : Nat
  deriving DecidableEq, Repr

def jInf : JPoint := ⟨1, 1, 0⟩

def jDouble (a : JPoint) : JPoint :=
  forced (a.y * a.y % p384) fun yy => forced (a.z * a.z % p384) fun zz =>
  forced (4 * a.x * yy % p384) fun s => forced (3 * subP a.x zz * (a.x + zz) % p384) fun m =>
  forced ((m * m + 2 * (p384 - s)) % p384) fun x3 =>
  forced ((m * subP s x3 + 8 * (p384 - yy * yy % p384)) % p384) fun y3 =>
  forced (2 * a.y * a.z % p384) fun z3 => ⟨x3, y3, z3⟩

def jAdd (a b : JPoint) : JPoint :=
  if a.z = 0 then b
  else if b.z = 0 then a
  else
    forced (a.z * a.z % p384) fun za => forced (b.z * b.z % p384) fun zb =>
    forced (a.x * zb % p384) fun u => forced (a.y * zb * b.z % p384) fun v =>
    forced (subP (b.x * za % p384) u) fun h => forced (subP (b.y * za * a.z % p384) v) fun r =>
      if h = 0 then (if r = 0 then jDouble a else jInf)
      else
        forced (h * h % p384) fun hh => forced (u * hh % p384) fun w =>
        forced ((r * r + (p384 - h * hh % p384) + 2 * (p384 - w)) % p384) fun x3 =>
        forced ((r * subP w x3 + (p384 - v * (h * hh % p384) % p384)) % p384) fun y3 =>
        forced (h * a.z * b.z % p384) fun z3 => ⟨x3, y3, z3⟩

/-- k times a point; `fuel` bounds the bits of k. -/
def jMul : Nat → Nat → JPoint → JPoint
  | 0, _, _ => jInf
  | fuel + 1, k, p => if k = 0 then jInf else
      let r := jDouble (jMul fuel (k / 2) p)
      if k % 2 = 1 then jAdd r p else r

/-- A compressed SEC1 point of 49 bytes, if it lies on the curve. -/
def ecDecompress (bs : List Nat) : Option (Nat × Nat) :=
  let x := ofBytes ((bs.drop 1).take 48).reverse
  let t := bs.headD 0
  let v := (x * x % p384 * x + (p384 - 3) * x + p384B) % p384
  let y := powMod p384 400 v ((p384 + 1) / 4)
  if (t = 2 ∨ t = 3) ∧ x < p384 ∧ y * y % p384 = v then
    some (x, if y % 2 = t % 2 then y else (p384 - y) % p384)
  else none

/-- ECDSA P-384 with SHA-384: public key (49 bytes), signature r then s (48 bytes each, big-endian), message. PRESUMED: log entry 14. -/
def ecdsaOk (key sig msg : List Nat) : Bool :=
  let r := ofBytes (sig.take 48).reverse
  let w := ofBytes ((sig.drop 48).take 48).reverse
  let e := ofBytes (sha384 msg).reverse
  match ecDecompress key with
  | some q =>
    if 1 ≤ r ∧ r < p384N ∧ 1 ≤ w ∧ w < p384N then
      let i := invMod p384N w
      let c := jAdd (jMul 400 (e * i % p384N) ⟨p384Gx, p384Gy, 1⟩) (jMul 400 (r * i % p384N) ⟨q.1, q.2, 1⟩)
      decide (c.z ≠ 0 ∧ c.x * invMod p384 (c.z * c.z) % p384 % p384N = r)
    else false
  | none => false

end Sys2Proof.Machine
end

