-- ==== Sys2Proof/Machine/Images.lean ====
section
/-! DEFINITION. Signed images: pattern packs, the firmware image and loading cores from it, and the SCAN_ENTRY sequence
(06_self_test.md R184 to R188; 15_ixfold_isa.md R447 to R449). -/

namespace Sys2Proof.Machine

/-! ### Bytes of an image -/

def imgBytes (l : List Byte) (a n : Nat) : List Nat := ((l.drop a).take n).map (fun b => b.toNat)
def imgField (l : List Byte) (a n : Nat) : Nat := ofBytes (imgBytes l a n)
def imgZero (l : List Byte) (a n : Nat) : Bool := (imgBytes l a n).all (fun b => decide (b = 0))

/-- The fused hash of a key slot. -/
def State.keyHash (s : State) (slot : Nat) : Nat := if slot = 0 then s.fuses.keyHash0 else s.fuses.keyHash1

/-- SHA-384 of a key equals the fused hash. -/
def State.keyFused (s : State) (slot : Nat) (key : List Nat) : Bool := decide (ofBytes (sha384 key).reverse = s.keyHash slot)

/-- STEPPING applies to this wafer. -/
def State.steppingOk (s : State) (v : Nat) : Bool := decide (v = 0xFFFF ∨ v = s.fuses.stepping)

/-! ### Packs (R184, R185) -/

/-- Descriptor i is well formed. -/
def packDescOk (l : List Byte) (i : Nat) : Bool :=
  let a := 256 + 32 * i
  let p := imgField l (a + 8) 2
  let c := imgField l (a + 10) 1
  decide (imgField l a 8 ≠ 0) && decide (1 ≤ p ∧ p ≤ 4096) && decide (c / 16 = 0) && decide (c / 2 % 8 < 5) &&
    imgZero l (a + 11) 1 && imgZero l (a + 20) 12

/-- Size, fixed and reserved fields. -/
def packFormatOk (l : List Byte) : Bool :=
  let n := imgField l 2 2
  decide (l.length ≤ 0x200000) && decide (256 ≤ l.length) && decide (imgField l 0 1 = 1) && decide (imgField l 1 1 < 2) &&
    decide (1 ≤ n ∧ n ≤ 16384) && decide (l.length = 256 + 32 * n) && imgZero l 18 14 && imgZero l 81 15 && imgZero l 192 64 &&
    (List.range n).all (packDescOk l)

/-- The first of the conditions that a pack fails, by the STATUS of R405; the revision is judged apart. -/
def State.packFault (s : State) (l : List Byte) : Option Nat :=
  if packFormatOk l = false then some 0x20
  else if s.keyFused (imgField l 1 1) (imgBytes l 32 49) = false then some 0x21
  else if ecdsaOk (imgBytes l 32 49) (imgBytes l 96 96) (imgBytes l 0 96 ++ (l.drop 256).map (fun b => b.toNat)) = false then some 0x22
  else if s.steppingOk (imgField l 12 2) = false then some 0x23
  else none

/-- Descriptors: seed, patterns, target, golden. -/
def packDescs (l : List Byte) : List (Nat × Nat × Nat × Nat) :=
  (List.range (imgField l 2 2)).map (fun i =>
    let a := 256 + 32 * i
    (imgField l a 8, imgField l (a + 8) 2, imgField l (a + 10) 1 / 2 % 8, imgField l (a + 12) 8))

/-- The slot of an accepted pack: that of its PACK_ID, else the lowest free one. -/
def State.packSlotFor (s : State) (id : Nat) : Option Nat :=
  match s.st.packs.find? (fun p => decide (p.id = id)) with
  | some p => some p.slot
  | none => (List.range 16).find? (fun n => !s.st.packs.any (fun p => decide (p.slot = n)))

/-- PACK_PUSH (R185): with the first failed condition, an equal revision, or a pack that waits for its write. A push waits
while the port may not read host memory (R381): it is taken and not applied. DEDUCED: log entry 49. -/
def State.packPush (s : State) (cid len : Nat) (readOk : Bool) (l : List Byte) : State :=
  let ans := fun (v : Nat) => s.respond 0x51 cid v 1 0
  if len < 288 ∨ 2097152 < len then ans 7
  else if readOk = false ∨ l.length ≠ len then ans 0x26
  else match s.packFault l with
    | some v => ans v
    | none =>
      let id := imgField l 4 4
      let rv := imgField l 8 4
      let same := s.st.packs.filter (fun p => decide (p.id = id))
      match same.find? (fun p => decide (p.revision = rv)) with
      | some p => s.respond 0x51 cid 0 1 p.slot
      | none =>
        if same.any (fun p => decide (rv < p.revision)) then ans 0x24
        else match s.packSlotFor id with
          | some n =>
            { s with st := { s.st with packs := s.st.packs ++
              [⟨n, id, rv, imgField l 14 2, imgField l 16 2, packDescs l, false, false, some cid, s.now, l⟩] } }
          | none => ans 0x25

/-- The oldest pack that waits for its write is written; it replaces the one in its slot and becomes active. -/
def State.packWrite (s : State) : State :=
  match s.flashOpen, s.st.packs.find? (fun p => !p.stored) with
  | true, some p =>
    let rest := (s.st.packs.filter (fun q => decide (q ≠ p))).filter (fun q => !q.stored || decide (q.slot ≠ p.slot))
    let s1 := { s with st := { s.st with
      packs := rest ++ [{ p with stored := true, active := true, cid := none }]
      ran := Tab.drop (fun k => decide (k / 2 ^ 14 % 16 = p.slot)) s.st.ran } }
    match p.cid with
    | some c => s1.respond 0x51 c 0 1 p.slot
    | none => s1
  | _, _ => s

/-- Every stored pack is verified again (R185): slots that fail are ignored, marked and croaked. The mask of bad slots. -/
def State.packsVerify (s : State) : Nat × State :=
  let bad := maskOf 16 (fun n => s.st.packs.any (fun p => decide (p.slot = n) && p.stored && (s.packFault p.bytes).isSome))
  let s1 := { s with st := { s.st with packs := s.st.packs.map (fun (p : Pack) => if p.stored then { p with active := !bad.testBit p.slot } else p) } }
  (bad, (List.range 16).foldl (fun t n => if bad.testBit n then (t.put .kprPackStatusInvalidSeen 0 1).croak 0x11 1 n else t) s1)

/-! ### The firmware image (R447, R448) -/

/-- Segment lengths: IMEM and DMEM parts of k0 to k3, fc0, fc1. -/
def fwLens (l : List Byte) : List (Nat × Nat) :=
  (List.range 6).map (fun i => (imgField l (16 + 8 * i) 4, imgField l (20 + 8 * i) 4))

def fwFormatOk (l : List Byte) : Bool :=
  let ns := fwLens l
  decide (l.length ≤ 0x100000) && decide (256 ≤ l.length) && decide (imgField l 0 1 = 1) && decide (imgField l 1 1 < 2) &&
    imgZero l 2 2 && imgZero l 10 6 && imgZero l 113 15 && imgZero l 224 32 &&
    ns.all (fun p => decide (p.1 % 4 = 0 ∧ p.1 ≤ 65536 ∧ p.2 ≤ 61440)) &&
    decide (l.length = 256 + (ns.map (fun p => p.1 + p.2)).foldl (· + ·) 0)

/-- The first condition an image fails, by the RESULT of KPR_FW_STATUS; the revision is judged apart. -/
def State.fwFault (s : State) (l : List Byte) : Option Nat :=
  if fwFormatOk l = false then some 2
  else if s.keyFused (imgField l 1 1) (imgBytes l 64 49) = false then some 3
  else if ecdsaOk (imgBytes l 64 49) (imgBytes l 128 96) (imgBytes l 0 113 ++ (l.drop 256).map (fun b => b.toNat)) = false then some 4
  else if s.steppingOk (imgField l 8 2) = false then some 5
  else none

def fwRevision (l : List Byte) : Nat := imgField l 4 4

/-- IMEM and DMEM bytes of a segment. -/
def fwSegment (l : List Byte) (i : Nat) : List Byte × List Byte :=
  let ns := fwLens l
  let off := 256 + ((ns.take i).map (fun p => p.1 + p.2)).foldl (· + ·) 0
  let (a, b) := ns[i]?.getD (0, 0)
  ((l.drop off).take a, (l.drop (off + a)).take b)

/-- The segment of a core: k0 to k3, fc0, fc1. -/
def coreSegment (c : Nat) : Nat := if c < 64 then 4 + c % 2 else c - 64

/-- A memory part of a core: its bytes from address 0. -/
def loadBytes (l : List Byte) : Tab Byte := writeBytes [] 0 (l.map (fun b => b.toNat))

/-- A core is loaded and started at address 0 (R427, R448). DESIGN CHOICE: log entry 6. -/
def State.loadCore (s : State) (c : Nat) : State :=
  let (i, d) := fwSegment s.fw.cache (coreSegment c)
  let x : Core := { loaded := true, imem := loadBytes i, dmem := loadBytes d, wdFrom := s.now }
  s.setCore c x

/-- COMMIT (R449): the staged image is verified, one with a poisoned word failing its signature (DEDUCED: log entry 33); one that passes waits for its write to the other slot. An image whose
revision equals that of the running slot is accepted with no effect, as R185 has it for a pack. -/
def State.fwCommit (s : State) : State :=
  if s.rf .kprFwStatusBusy 0 = 1 then s.accessErr
  else
    let done := fun (r : Nat) => s.put .kprFwStatusResult 0 r
    let n := s.rf .kprFwLengthLength 0
    if 0x100000 < n then done 2
    else
      let l := (List.range n).map (fun i => Tab.get (fun _ => (0 : Byte)) s.ks (0x1A00000 + i))
      let run := if s.rf .kprFwStatusActiveSlot 0 = 0 then s.fw.slotA else s.fw.slotB
      match (if s.ksPoisoned 0x1A00000 n then some 4 else s.fwFault l), run with
      | some r, _ => done r
      | none, some v =>
        if v.valid && decide (fwRevision l < fwRevision v.bytes) then done 6
        else if v.valid && decide (fwRevision l = fwRevision v.bytes) then done 1
        else ({ s with fw := { s.fw with staged := some ⟨l, true⟩ } }).puts [(.kprFwCtrlCommit, 0, 1), (.kprFwStatusBusy, 0, 1)]
      | none, none => ({ s with fw := { s.fw with staged := some ⟨l, true⟩ } }).puts [(.kprFwCtrlCommit, 0, 1), (.kprFwStatusBusy, 0, 1)]

/-- The image is written to the slot that does not hold the running one. -/
def State.fwWrite (s : State) : State :=
  match s.flashOpen, s.fw.staged with
  | true, some v =>
    let f := if s.rf .kprFwStatusActiveSlot 0 = 0 then { s.fw with slotB := some v, staged := none } else { s.fw with slotA := some v, staged := none }
    ({ s with fw := f }).puts [(.kprFwStatusResult, 0, 1), (.kprFwStatusBusy, 0, 0), (.kprFwCtrlCommit, 0, 0)]
  | _, _ => s

/-! ### SCAN_ENTRY (R188) -/

def State.scanReset (s : State) (err : Bool) : State :=
  let s1 := { s with st := { s.st with scanStep := 0 } }
  if err then s1.put .kprStStatusEntryErr 0 1 else s1

/-- A fill or a securing write is in progress. -/
def State.scanBlocked (s : State) : Bool :=
  s.launch.running || s.regrows.any (fun r => r.filling || decide (r.phase = rgFill)) || s.genList.any (fun g => decide (g.2.state = 1))

/-- The sequence is accepted: key store zeroised, SCANNED, scan access open; a scanned port is down. DEDUCED: log entry 58. -/
def State.scanOpen (s : State) (mask : Nat) : State :=
  let s1 := (((s.zeroise false).scanReset false).puts [(.kprStStatusScanned, 0, 1),
    (.kprStStatusScanTarget, 0, s.rf .kprStStatusScanTarget 0 ||| mask)])
  ((List.range 16).filter (fun k => mask.testBit (k + 1))).foldl (fun t k =>
    (t.linkDown k).puts [(.lwdPortStatusPortUp, k, 0), (.lwdLaneUpUp, k, 0)]) s1

/-- A sequence not complete within 1,000 ticks of its first write. -/
def State.scanLate (s : State) : State := if 1 ≤ s.st.scanStep ∧ s.st.scanAt + 1000 ≤ s.now then s.scanReset true else s

/-- DEDUCED: log entry 58. -/
def State.scanWrite (s0 : State) (v : Nat) : State :=
  let s := s0.scanLate
  let next := fun (n at_ : Nat) => ({ s with st := { s.st with scanStep := n, scanAt := at_ } } : State)
  if s.st.scanStep = 0 ∧ v = 0x5CA1 then next 1 s.now
  else if s.st.scanStep = 1 ∧ v = 0xA15C then next 2 s.st.scanAt
  else if s.st.scanStep = 2 ∧ s.scanBlocked = false then s.scanOpen (v % 2 ^ 17)
  else s.scanReset true

/-! ### Rows -/

/-- PACK_PUSH (R185, R407). DEDUCED: log entry 49. -/
def execPackPush (cid : BitVec 32) (_addr : BitVec 64) (length : BitVec 32) (readOk : Bool) (pack : List Byte) (s : State) :
    Host.Outcome State Fault Refusal :=
  .next (if s.attached && (s.host.d3hot || !s.host.busMaster) then
      (if s.host.taken.any (fun t => decide (t.cid = cid.toNat ∧ t.opcode = 0x51)) then s
       else if 256 ≤ s.host.taken.length then s.rejectBusy 0x51 cid.toNat (s.rf .hptApExpectedSeq 0)
       else s.setTaken (s.host.taken ++ [⟨cid.toNat, s.rf .hptApExpectedSeq 0, 0x51, s.now, 0, false⟩]))
    else s.asHost 0x51 cid.toNat (fun t => t.packPush cid.toNat length.toNat readOk pack))

/-- PACK_FLASH_WRITE (R185). -/
def execPackFlashWrite (s : State) : Host.Outcome State Fault Refusal := .next s.packWrite

/-- KPR_FW_COMMIT (R449). -/
def execKprFwCommit (s : State) : Host.Outcome State Fault Refusal := .next (if s.keeperAwake then s.fwCommit else s)

/-- FIRMWARE_SLOT_WRITE (R449). -/
def execFirmwareSlotWrite (s : State) : Host.Outcome State Fault Refusal := .next s.fwWrite

/-- KPR_SCAN_ENTRY (R188). -/
def execKprScanEntry (value : BitVec 32) (s : State) : Host.Outcome State Fault Refusal :=
  .next (if s.keeperAwake then s.scanWrite value.toNat else s)

/-- SCAN_ENTRY_TIMEOUT (R188). -/
def execScanEntryTimeout (s : State) : Host.Outcome State Fault Refusal := .next s.scanLate

end Sys2Proof.Machine
end

