-- ==== Sys2Proof/Machine/Stages.lean ====
section
/-! DEFINITION. Stages and their reports, halts, the reconciliation of stage 5 and the launch map, and the training of links
(02_units_and_ledger.md R38, R39, R48, R53 to R65; 11_bring_up_and_resets.md R317 to R329). -/

namespace Sys2Proof.Machine

/-! ### Stages and reports (R317, R327 to R329) -/

def State.stageRun (s : State) : Nat := s.rf .kprBringupStatusRun 0

/-- Ticks in the stage, halts excluded. -/
def State.stageTicks (s : State) : Nat := s.now - s.boot.stageFrom - s.boot.haltTicks

/-- The Stage Report of the stage, kept for the next ATTACH. -/
def State.stageReport (s : State) (n : Nat) (halted : Bool) (code detail : Nat) : State :=
  let p := s.stagePayload n (if s.stageRun = 0 then 0 else 1) halted code s.stageTicks detail
  let s1 := s.puts [(.kprBringupStatusCode, 0, code), (.kprStageTimeTicks, n, s.stageTicks)]
  ({ s1 with boot := { s1.boot with reports := Tab.set (fun _ => none) s1.boot.reports n (some ⟨3, 0, 1, 0, 0, 0, p⟩) } }).sendMsg 3 0 1 0 0 p

/-- The stage halts, waiting for the host or for good (R328, R356). -/
def State.stageHalt (s : State) (n code detail : Nat) : State :=
  let s1 := (s.stageReport n true code detail).puts [(.kprBringupStatusHalted, 0, 1), (.kprBringupStatusBusy, 0, 0)]
  let s2 := { s1 with boot := { s1.boot with haltFrom := some s1.now } }
  if s2.recState = 3 then s2.setRec 7 else s2

/-- The halted stage goes on. -/
def State.haltResume (s : State) : State :=
  let t := match s.boot.haltFrom with | some h => s.now - h | none => 0
  let s1 := ({ s with boot := { s.boot with haltFrom := none, haltTicks := s.boot.haltTicks + t } }).puts
    [(.kprBringupStatusHalted, 0, 0), (.kprBringupStatusBusy, 0, 1)]
  if s1.recState = 7 then s1.setRec 3 else s1

/-- The stage after n in the run in progress (R318). -/
def State.nextStage (s : State) (n : Nat) : Nat := if s.stageRun = 2 ∧ n = 5 then 7 else n + 1

/-- Stations that are HELD and not dropped begin their stage 3. -/
def State.startStations (s : State) : State :=
  ((List.range 32).filter (fun f => decide (s.domState (.station (toFin32 f)) = 2) && !s.dropped f)).foldl
    (fun t f => t.setDom (.station (toFin32 f)) 3) s

/-- A stage begins: the domains that it restarts leave HELD (R334). With the links trained, stage 6 is discovery alone. DEDUCED: log entry 64. -/
def State.enterStage (s : State) (n : Nat) : State :=
  let s1 := s.beginStage n
  match n with
  | 2 => if s1.domState .keeper = 2 then s1.setDom .keeper 3 else s1
  | 3 => ({ s1 with
      ledger := { s1.ledger with fails := [] }
      mons := s1.mons.map (fun (e : Nat × Monitor) => (e.1, { e.2 with failed := false })) }).startStations
  | 4 => if s1.domState .compute = 2 ∧ s1.rf .kprMonStatusTripped 0 = 0 then s1.setDom .compute 3 else s1
  | 6 =>
    if s1.boot.trained then { s1 with boot := { s1.boot with trainEnd := s1.now, lastPeer := s1.now } }
    else ((List.range 16).filter (fun k => decide (s1.domState (.port (toFin16 k)) = 2))).foldl (fun t k => t.setDom (.port (toFin16 k)) 3) s1
  | _ => s1

/-- A recovery begins its stages, and the host is told that it is needed (R250, R356). -/
def State.restage (s : State) : State :=
  (((({ s.setRec 3 with sec := { s.sec with needed := true, neededAt := some s.now } }).croakNeeded).setDom .compute 3).beginRun 2 3).enterStage 3

/-- A pending reset of the Keeper, or of tile compute, takes effect where a stage ends (R334). DEDUCED: log entry 61. -/
def State.pendingReset (s : State) : Option State :=
  if s.domState .keeper = 3 ∧ s.domPending .keeper = 1 then
    some ({ s with boot := { s.boot with full := false } }).assertKeeper
  else if s.domState .compute = 3 ∧ s.domPending .compute = 1 then
    (if s.stageRun = 2 then some s.assertCompute else none)
  else none

/-- A stage ends with its report, and the next begins. In a run that restarts the Keeper, a pending reset of tile compute
is taken here and the run goes on. DEDUCED: log entry 55. -/
def State.endStage (s : State) (n code detail : Nat) : State :=
  let s1 := (s.stageReport n false code detail).put .kprBringupStatusBusy 0 0
  let s2 := { s1 with boot := { s1.boot with total := s1.boot.total + s.stageTicks } }
  match s2.pendingReset with
  | some t => t
  | none =>
    let s3 := if s2.domState .compute = 3 ∧ s2.domPending .compute = 1 then s2.assertCompute else s2
    s3.enterStage (s3.nextStage n)

/-- The lowest of the codes that apply; 0 for none (R328). DEDUCED: log entry 55. -/
def lowCode : List (Nat × Nat) → Nat × Nat
  | [] => (0, 0)
  | c :: t => let r := lowCode t; if r.1 = 0 ∨ c.1 < r.1 then c else r

/-! ### The ledger at a start (R48, R53 to R56, R60, R61, R481) -/

/-- The valid header with the highest HSEQ. -/
def newestHeader (l : List HalfHeader) : Option HalfHeader :=
  l.foldl (fun acc h => match acc with
    | none => some h
    | some a => if serialAfter h.hseq a.hseq then some h else some a) none

/-- The valid headers of the two sectors (R481). -/
def State.headers (s : State) : List HalfHeader := s.hist.head0.filterMap (headerOf 0) ++ s.hist.head1.filterMap (headerOf 1)

/-- Newest record of every key in the active half. -/
def State.flashRecords (s : State) : List HistRec := newestRecords (if s.hist.active = 0 then s.hist.half0 else s.hist.half1)

/-- Stage 1 settles the history region (R481): the revision recorded, and whether the history is lost. -/
def State.readHistory (s : State) : Option Nat × Bool × State :=
  let h := s.hist
  match newestHeader s.headers with
  | some d =>
    let l := (if d.half = 0 then h.half0 else h.half1).filterMap recOf
    let top := l.foldl (fun acc r => match acc with | none => some r.seq | some a => if serialAfter r.seq a then some r.seq else some a) none
    (some d.fuseRev, false, { s with hist := { h with
      active := d.half, hseq := succ32 d.hseq, seq := (top.map succ32).getD 0, cache := newestRecords (if d.half = 0 then h.half0 else h.half1), headerDue := false } })
  | none =>
    (none, !(h.head0.isEmpty && h.head1.isEmpty), { s with hist := { h with
      half0 := [], half1 := [], head0 := [], head1 := [], active := 0, hseq := 0, seq := 0, cache := [], headerDue := true } })

/-- An entry comes back from the newest record of its key (R53, R61), unless R55 keeps it out. -/
def State.restoreEntry (s : State) (r : HistRec) : State :=
  if s.r55Skip r.key then s else s.rebuildEntry r (r.evidence % 4096)

/-- Entries missing from the ledger are rebuilt from the history; those of origin fuse come from the fuse map. DEDUCED: log entry 54. -/
def State.rebuildLedger (s : State) : State :=
  (s.hist.cache.filter (fun r => decide (r.state ≠ 7 ∧ r.origin ≠ 0) && (s.findEntry r.key).isNone)).foldl State.restoreEntry s

/-- The entry that the fuse map gives a unit, where it has none (R48, R55). -/
def State.fuseEntry (s : State) (k : UnitKey) : State :=
  if keyOk k = false ∨ (s.findEntry k).isSome = true then s
  else if s.r55Skip k then
    (if (s.histOf k).any (fun r => decide (r.state = 2 ∧ r.origin = 0)) then s
     else s.writeHist k 2 0 false (evidence k 0x060) s.now)
  else match s.freeEntry with
    | some i => (s.setSlot i (some ⟨k, 0, 2, 0, 0x060, s.now % 2 ^ 48⟩)).writeHist k 2 0 false (evidence k 0x060) s.now
    | none => s

/-- The fuse map is applied: with a new revision, entries that it no longer lists are freed (R60). DEDUCED: log entry 60. -/
def State.applyFuses (s : State) (new : Bool) : State :=
  let s1 := if new then
      let u := (s.entries.filter (fun e => decide (e.2.origin = 0) && !s.fuseBad e.2.key)).foldl (fun t e => t.freeSlotOf e.1 e.2) s
      -- the records that R55 left without an entry are no more either
      (u.hist.cache.filter (fun r => decide (r.origin = 0 ∧ r.state ≠ 7) && !u.fuseBad r.key && (u.findEntry r.key).isNone)).foldl
        (fun t r => t.writeHist r.key 7 0 false r.evidence 0) u
    else s
  (sortBy (fun (k : UnitKey) => k.kind) s1.fuses.bad).foldl State.fuseEntry s1

/-- The lanes that the ledger withdraws; others reopen at stage 5 alone (R47). DEDUCED: log entry 59. -/
def State.syncLanes (s : State) (reopen : Bool) : State :=
  (List.range 16).foldl (fun t k =>
    let out := if t.unitOut (laneKey k 127) then 0xFFFFFFFF else maskOf 32 (fun l => t.unitOut (laneKey k l))
    let m := if reopen then out else out ||| t.rf .lwdLaneWithdrawnWithdrawn k
    t.puts [(.lwdLaneWithdrawnWithdrawn, k, m), (.lwdLaneUpUp, k, t.rf .lwdLaneUpUp k &&& (0xFFFFFFFF ^^^ m))]) s

/-! ### Retests and reconciliation (R48, R56 to R59, R65) -/

def State.failsStart (s : State) (k : UnitKey) : Bool := s.ledger.fails.contains k

/-- The history record of a unit's result at this start: RETEST, and with `det` one detection (R62, R65). -/
def State.retestHist (s : State) (k : UnitKey) (st origin : Nat) (failed det : Bool) (ev created : Nat) : State :=
  let p := (s.histOf k).getD (blankRec k)
  s.stage { p with
    state := st, origin := origin, seq := s.hist.seq, evidence := ev, fuseRev := s.rf .kprLedgerStatusFuseRev 0, created := created
    retest := if failed then 2 else 1
    detections := if det then Nat.min 65535 (p.detections + 1) else p.detections
    firstSeen := if failed && decide (p.firstSeen = 0) then s.now else p.firstSeen
    lastSeen := if failed then s.now else p.lastSeen
    recent := if det then p.recent.set p.recentNext s.now else p.recent
    recentNext := if det then (p.recentNext + 1) % 8 else p.recentNext }

/-- State of an entry after stage 5 (R48, R65); `n` counts its detections in the window, this start's failure included. -/
def stage5State (e : Entry) (failed : Bool) (n : Nat) : Nat :=
  if e.state = 2 then (if e.origin = 0 ∧ failed = false then 5 else 2)
  else if e.state = 3 then (if failed then 2 else 3)
  else if e.state = 0 ∨ e.state = 1 then
    (if e.state = 1 ∧ e.origin = 4 then 1 else if failed = true ∨ 2 ≤ n then 2 else 3)
  else e.state

/-- An entry is settled. A failure of a unit that is SUSPECT, QUARANTINED or TRANSIENT is a detection of the start-up test (R65). The
cause it writes is STARTUP_FAIL, for a lane too. DEDUCED: log entry 59; DESIGN CHOICE for a lane: log entry 92. -/
def State.settleEntry (s : State) (i : Nat) (e : Entry) : State :=
  let bad := s.failsStart e.key
  let hit := bad && decide (e.state = 0 ∨ e.state = 1 ∨ e.state = 3)
  let st := stage5State e bad (s.detections e.key + bit bad)
  let e' := if hit then { e with state := st, count := Nat.min 65535 (e.count + 1), cause := 0x061 } else { e with state := st }
  let s1 := (s.setSlot i (some e')).retestHist e.key st e.origin bad hit (evidence e.key (if hit then 0x061 else s.realCause e)) (s.createdOf e.key)
  let s2 := if st = e.state then s1 else s1.entryNotice e' e.state
  if e.key.kind = kindLane ∧ withdraws st = true ∧ withdraws e.state = false then s2.laneOut e.key.unit else s2

/-- A failing unit without an entry (R56): PERMANENT if the history shows that it failed at the previous start. A lane takes the cause
STARTUP_FAIL as well: R48 and R323 give it, the table of R44 names no lane. DESIGN CHOICE: log entry 92. -/
def State.settleNew (s : State) (k : UnitKey) : State :=
  let st := if (s.histOf k).any (fun r => decide (r.retest = 2)) then 2 else 1
  let s2 := match s.roomFor with
    | (some i, s1) =>
      let e : Entry := ⟨k, 1, st, 1, 0x061, s1.now % 2 ^ 48⟩
      ((s1.setSlot i (some e)).retestHist k st 1 true true (evidence k 0x061) s1.now).entryNotice e 7
    | (none, s1) => (s1.retestHist k st 1 true true (evidence k 0x061) s1.now).noEntry k st
  if k.kind = kindLane then s2.laneOut k.unit else s2

/-- Failing units of kinds that the start-up test covers and that hold no entry. DEDUCED: log entry 59. -/
def State.newFails (s : State) (p : UnitKey → Bool) : List UnitKey :=
  s.ledger.fails.filter (fun k => p k && keyOk k && decide (k.kind < 5) && (s.findEntry k).isNone && !s.r55Skip k)

/-- The units that `p` picks are settled: entries, then failing units without one. DEDUCED: log entry 59. -/
def State.settle (s : State) (p : UnitKey → Bool) : State :=
  let s1 := (s.entries.filter (fun e => p e.2.key)).foldl (fun t e => t.settleEntry e.1 e.2) s
  (s1.newFails p).foldl State.settleNew s1

/-- Units of field f that this start has tested: a dropped field's station alone. -/
def State.testedIn (s : State) (f : Nat) (k : UnitKey) : Bool :=
  decide (keyField k = some f) && (decide (k.kind = kindStation) || !s.dropped f)

/-- Contradictions of the first and second kind in a field. -/
def State.firstKind (s : State) (f : Nat) : Nat :=
  (s.entries.filter (fun e => s.testedIn f e.2.key && decide (e.2.key.kind < 5) && decide (e.2.state = 2 ∧ e.2.origin = 0) && !s.failsStart e.2.key)).length

def State.secondKind (s : State) (f : Nat) : Nat :=
  (s.entries.filter (fun e => s.testedIn f e.2.key && decide (e.2.key.kind < 5) && decide (e.2.state = 0 ∨ e.2.state = 1 ∨ e.2.state = 3) &&
    s.failsStart e.2.key && !s.fuseBad e.2.key)).length + (s.newFails (s.testedIn f)).length

/-- Field f is DISPUTED: its station entry waits for the host (R58), made new where one stands. DEDUCED: log entry 59. -/
def State.dispute (s : State) (f : Nat) : State :=
  let k := stationKey f
  let s1 := (s.holdField f).put .fstReconcileDisputed f 1
  let e : Entry := ⟨k, 1, 4, 0, 0x052, s1.now % 2 ^ 48⟩
  let write := fun (i : Nat) (prev : Nat) (t : State) =>
    ((t.setSlot i (some e)).writeHist k 4 1 false (evidence k 0x052) t.now).entryNotice e prev
  match s1.findEntry k with
  | some (i, o) => if o.state = 4 then s1 else write i o.state s1
  | none =>
    match s1.roomFor with
    | (some i, s2) => write i 7 s2
    | (none, s2) => (s2.writeHist k 4 1 false (evidence k 0x052) s2.now).noEntry k 4

/-- Entries that are missing come back from the history (R53, R54), and exclusions held without one end where they have one again or the
history has the unit free (R48). A key that the cache does not hold is looked up in the ledger flash. DEDUCED: log entry 68. -/
def State.settleOrphans (s : State) : State :=
  let lost := s.ledger.orphans.filter (fun k => (s.histOf k).isNone)
  let recs := s.hist.cache ++ (if lost.isEmpty then [] else s.flashRecords.filter (fun r => lost.contains r.key))
  let s1 := (recs.filter (fun r => decide (r.state ≠ 7) && (decide (r.origin ≠ 0) || s.fuseBad r.key) && (s.findEntry r.key).isNone)).foldl
    State.restoreEntry s
  { s1 with ledger := { s1.ledger with orphans := s1.ledger.orphans.filter (fun k =>
      (s1.findEntry k).isNone && !recs.any (fun r => decide (r.key = k ∧ r.state = 7))) } }

/-- The counts of the last stage 5 go. -/
def State.clearReconcile (s : State) : State :=
  (s.resetRegs (fun F _ => [RF.fstReconcileFuseBadPass, .fstReconcileFuseGoodFail, .fstReconcileDisputed, .fstReconcileShort].contains F)).put
    .kprLedgerShortFields 0 0

/-- Every field's contradictions are counted; the fields over a limit, or disputed still, are answered. -/
def State.reconcile (s0 : State) : List Nat × State :=
  let s := ({ s0 with ledger := { s0.ledger with accepted := [] } }).settleOrphans.clearReconcile
  let fs := List.range 32
  let s1 := fs.foldl (fun t f => t.puts [(.fstReconcileFuseBadPass, f, Nat.min 1023 (s.firstKind f)),
    (.fstReconcileFuseGoodFail, f, Nat.min 1023 (s.secondKind f))]) s
  let over_ := fs.filter (fun f => decide (64 < s.firstKind f ∨ 256 < s.secondKind f) || s.disputed f)
  let s2 := s1.settle (fun k => decide (k.kind = kindLane))
  let s3 := (fs.filter (fun f => !over_.contains f)).foldl (fun t f => t.settle (s1.testedIn f)) s2
  (over_, over_.foldl State.dispute s3)

/-! ### The launch map (R38, R39) -/

/-- A spare that this map has not yet given away. -/
def State.spareFree (s : State) (t : Nat) : Bool :=
  !s.tileOut t && !(s.remaps (tileField t)).any (fun e => decide (remapTile (tileField t) e.2 = t))

/-- The tile that serves a logical tile whose home is out: the quarter's spare, else an adjacent quarter's. -/
def State.mapSpare (s : State) (l : Nat) : Option Nat :=
  let f := tileField l
  let q := tileCol l / 29
  let own := tileId f (tileRow l) (spareCol q)
  if s.spareFree own then some own
  else
    let near := (if 0 < q then [q - 1] else []) ++ (if q < 3 then [q + 1] else [])
    (near.map (fun n => tileId f (tileRow l) (spareCol n))).find? (fun t => s.spareFree t && (s.slackCheck l t).isNone)

/-- Logical tiles of a field whose homes are out, by row and ascending column. -/
def State.homelessIn (s : State) (f : Nat) : List Nat :=
  let ts := (s.outKeys.filterMap keyTile).filter (fun t => decide (tileField t = f))
  sortBy (fun l => l) (dedup (ts.filterMap logicalOfHome))

/-- One logical tile is placed; the flag says that a row is short. -/
def placeLogical (f : Nat) (acc : Bool × State) (l : Nat) : Bool × State :=
  match acc.2.mapSpare l with
  | some t =>
    let n := (acc.2.remaps f).length
    (acc.1, { acc.2 with remap := Tab.set (fun _ => none) acc.2.remap (1024 * f + n) (some ⟨l, tileCol t, 0, false, false, 0⟩) })
  | none => (true, acc.2)

/-- A field found short (R39): its station entry, its bits, and the field dropped. -/
def State.setShort (s : State) (f : Nat) : State :=
  let s1 := s.applyDetect (stationKey f) 0x051 1
  s1.puts [(.kprLedgerShortFields, 0, s1.rf .kprLedgerShortFields 0 ||| 1 <<< f), (.fstReconcileShort, f, 1)]

/-- The isolation collars follow the ledger: closed around a withdrawn tile, open around one that has returned (R47). -/
def State.syncCollars (s : State) : State :=
  let outs := dedup (s.outKeys.filterMap keyTile)
  let s1 := (s.tiles.filter (fun x => (x.2.collarOut || x.2.collarIn) && !outs.contains x.1)).foldl (fun t x =>
    t.setTile x.1 { t.tile x.1 with collarOut := false, collarIn := false }) s
  outs.foldl (fun t u => t.setTile u { t.tile u with collarOut := true, collarIn := true }) s1

/-- The launch map of every field that serves; the short fields are dropped. The routers take the map as their redirect state: R469 loads
it at an advance, and none comes before the launch. DEDUCED: log entry 97. -/
def State.buildMap (s : State) : State :=
  let s1 := { s with remap := [], remapBad := [], mapBuilt := true }
  let (short, s2) := ((List.range 32).filter (fun f => !s1.fieldOut f)).foldl (fun (acc : List Nat × State) f =>
    let r := (acc.2.homelessIn f).foldl (placeLogical f) (false, acc.2)
    (if r.1 then acc.1 ++ [f] else acc.1, r.2)) ([], s1)
  (short.foldl State.setShort s2).syncCollars.loadRedirect

/-- A field whose station no entry withdraws any more comes back: its station restarts with its cores, its tiles all due a visit (R177),
its boundary routers open and its clocks run (R221). DEDUCED: log entry 59. -/
def State.undropField (s : State) (f : Nat) : State :=
  let s1 := (s.put .kprFieldsDroppedDropped 0 (s.rf .kprFieldsDroppedDropped 0 &&& (0xFFFFFFFF ^^^ 1 <<< f))).put .fstIdDropped f 0
  let s2 := (({ s1 with shut := s1.shut &&& (0xFFFFFFFF ^^^ 1 <<< f) }).loadCore (2 * f)).loadCore (2 * f + 1)
  (s2.setField f { s2.field f with ceClearAt := s2.now, visitStamp := s2.now, allDue := true }).domUp (.station (toFin32 f))

/-- Dropped fields come back or go with their station entries. -/
def State.syncFields (s : State) : State :=
  (List.range 32).foldl (fun t f =>
    if t.unitOut (stationKey f) && !t.disputed f then t.dropField f
    else if t.dropped f then t.undropField f else t) s

/-- Entries that the ledger needs, those of exclusions without one included (R55). -/
def State.entriesNeeded (s : State) : Nat := s.entries.length + s.ledger.orphans.length

/-- The rest of stage 5, once no field is disputed: the age check, fields, the map, the report; the space is judged before the map and
again after the entries that the map adds (R55). DEDUCED: log entry 60. -/
def State.stage5Rest (s0 : State) : State :=
  let s := s0.ageCheck
  if 31744 < s.entriesNeeded then s.stageHalt 5 0x61 s.entriesNeeded
  else
    let s1 := s.syncFields.buildMap.syncLanes true
    let dropped := s1.rf .kprFieldsDroppedDropped 0
    if 31744 < s1.entriesNeeded then s1.stageHalt 5 0x61 s1.entriesNeeded
    else if dropped = 0xFFFFFFFF then s1.stageHalt 5 0x62 0
    else
      let lanes := (s1.ledger.fails.filter (fun k => decide (k.kind = kindLane))).length
      let s2 := { s1 with ledger := { s1.ledger with fails := [], accepted := [] } }
      if dropped ≠ 0 ∨ lanes ≠ 0 then s2.endStage 5 1 lanes else s2.endStage 5 0 0

/-- Stage 5: reconciliation, and the halt for the DISPUTED fields. -/
def State.stage5 (s : State) : State :=
  let (d, s1) := s.reconcile
  if d.isEmpty then s1.stage5Rest else s1.stageHalt 5 0x60 0

/-- The halted stage 5 goes on once every DISPUTED field is answered: the accepted ones are reconciled without limits. DEDUCED: log entry 61. -/
def State.haltAnswered (s : State) : State :=
  if s.rf .kprBringupStatusHalted 0 = 1 then
    match s.pendingReset with
    | some t => t
    | none =>
      if s.rf .kprBringupStatusStage 0 = 5 ∧ s.rf .kprBringupStatusCode 0 = 0x60 ∧ s.rf .kprLedgerDisputedFields 0 = 0 then
        let s1 := s.haltResume
        (s1.ledger.accepted.foldl (fun t f => t.settle (s1.testedIn f)) s1).stage5Rest
      else s
  else s

/-! ### Links (R323 to R326) -/

/-- DEDUCED: log entry 62. -/
def countBits (n : Nat) : Nat := ((List.range 32).filter (fun i => n.testBit i)).length

/-- A port's training ends: with 16 lanes or more it is up (R324). A scanned port stays down (R188). DEDUCED: log entry 62. -/
def State.trainPort (s : State) (k lanes : Nat) : State :=
  let m := lanes % 2 ^ 32 &&& (0xFFFFFFFF ^^^ s.rf .lwdLaneWithdrawnWithdrawn k)
  let up := decide (16 ≤ countBits m) && !(s.rf .kprStStatusScanTarget 0).testBit (k + 1)
  let s1 := s.setWarden k { s.warden k with trainAt := s.now }
  s1.puts [(.lwdLaneUpUp, k, if up then m else 0), (.lwdPortStatusPortUp, k, bit up), (.lwdPortStatusNoPeer, k, bit (!up))]

/-- The port's domain reaches UP, or is reset again. DEDUCED: log entry 61. -/
def State.portTrained (s : State) (k : Nat) : State :=
  let d : Domain := .port (toFin16 k)
  if s.domState d = 3 then (if s.domPending d = 1 then s.assertPort k else s.domUp d) else s

/-- HELLO when a training ends (R412). -/
def State.helloAfter (s : State) : State := if s.engineValid && s.anyPortUp then s.sendHello else s

/-- A lane's LANE_FAIL detection (R326). -/
def State.laneFail (s : State) (k l : Nat) : State := s.sample 6 (locWarden k) [.detect (laneKey k l) 0x030 2]

/-- The lowest lane that waits begins to retrain; one that needs a fourth retrain within an hour fails. -/
def State.startRetrain : Nat → Nat → State → State
  | 0, _, s => s
  | n + 1, k, s =>
    if s.rf .lwdPortStatusRetraining k = 1 then s
    else
      let w := s.warden k
      match (List.range 32).find? (fun l => w.retrainQ.testBit l) with
      | none => s
      | some l =>
        let past := (Tab.get (fun _ => []) w.retrains l).filter (fun t => decide (s.now < t + 3600000000))
        let w1 := { w with retrainQ := w.retrainQ &&& (0xFFFFFFFF ^^^ 1 <<< l) }
        if (s.rf .lwdLaneWithdrawnWithdrawn k).testBit l then State.startRetrain n k (s.setWarden k w1)
        else if 3 ≤ past.length then State.startRetrain n k ((s.setWarden k w1).laneFail k l)
        else
          (s.setWarden k { w1 with retrains := Tab.set (fun _ => []) w1.retrains l (s.now :: past) }).puts
            [(.lwdPortStatusRetrainLane, k, l), (.lwdPortStatusRetraining, k, 1)]

/-- A lane is striped out and waits to retrain; a port left with fewer than 16 lanes has failed. DEDUCED: log entry 62. -/
def State.retrainTrigger (s : State) (k l : Nat) (lost : Bool) (replays : Nat) : State :=
  if s.launch.running && (s.rf .lwdLaneUpUp k).testBit l && (lost || decide (64 < replays)) then
    let up := s.rf .lwdLaneUpUp k &&& (0xFFFFFFFF ^^^ 1 <<< l)
    let w := s.warden k
    let s1 := State.startRetrain 33 k ((s.put .lwdLaneUpUp k up).setWarden k { w with retrainQ := w.retrainQ ||| 1 <<< l })
    if s1.rf .lwdPortStatusPortUp k = 1 ∧ countBits up < 16 then s1.sample 6 (locWarden k) [.portFail k] else s1
  else s

/-- The retrain in progress ends. DEDUCED: log entry 62. -/
def State.retrainDone (s : State) (k : Nat) (passed : Bool) : State :=
  if s.rf .lwdPortStatusRetraining k = 1 then
    let l := s.rf .lwdPortStatusRetrainLane k
    let w := s.warden k
    let runs := Tab.get (fun _ => 0) w.failRuns l
    let s1 := s.puts [(.lwdPortStatusRetraining, k, 0), (.lwdPortStatusRetrainLane, k, 0)]
    let s2 :=
      if passed then
        ((s1.put .lwdLaneUpUp k (s1.rf .lwdLaneUpUp k ||| (if (s1.rf .lwdLaneWithdrawnWithdrawn k).testBit l then 0 else 1 <<< l))).setWarden k
          { w with failRuns := Tab.set (fun _ => 0) w.failRuns l 0 }).bump .lwdLaneRetrainsRetrains k .lwdPortStatusCountSat k 1
      else if 2 ≤ runs then
        (s1.setWarden k { w with failRuns := Tab.set (fun _ => 0) w.failRuns l 0 }).laneFail k l
      else s1.setWarden k { w with failRuns := Tab.set (fun _ => 0) w.failRuns l (runs + 1), retrainQ := w.retrainQ ||| 1 <<< l }
    State.startRetrain 33 k s2
  else s

end Sys2Proof.Machine
end

