-- ==== Sys2Proof/Machine/Bringup.lean ====
section
/-! DEFINITION. Bring-up: power, the rows of the stages, their timeouts, the release of reset domains, and link retraining
(10_sensors.md R305; 11_bring_up_and_resets.md R317 to R326, R330 to R335; 17_boundary.md R478). -/

namespace Sys2Proof.Machine

/-! ### Power (R272, R305, R318, R330, R478) -/

/-- Everything but what the flash, the fuses and the outside hold (R330). -/
def State.aoiOff (s : State) : State :=
  { State.reset with
    pending := s.pending, freeCtr := s.freeCtr, fuses := s.fuses, out := s.out
    boot := { aoiOn := false, powerGood := none }
    hist := { half0 := s.hist.half0, half1 := s.hist.half1, head0 := s.hist.head0, head1 := s.hist.head1 }
    host := { ring := s.host.ring }
    molts := { flash := s.molts.flash }
    st := { packs := s.st.packs.filter (fun p => p.stored) }
    anchors := s.anchors, idents := s.idents
    fw := { slotA := s.fw.slotA, slotB := s.fw.slotB } }

/-- Field Stations HELD. -/
def State.holdStations (s : State) : State := (List.range 32).foldl (fun t f => t.hold (.station (toFin32 f))) s

/-- AOI_POWER_UP: manager time is loaded (R272), and a full bring-up begins at stage 0. DEDUCED: log entry 41. -/
def State.powerUp (s : State) : State :=
  let s1 := s.aoiOff
  let s2 := { s1 with boot := { s1.boot with aoiOn := true, powerGood := none } }
  let s3 := match s2.anchors.newest with
    | some a => { s2 with now := a.2 + 3600000000 }
    | none => s2.put .aoiTimeStatusAnchorLost 0 1
  ({ s3 with boot := { s3.boot with powerGood := some s3.now } }).holdStations.beginRun 0 0

/-- Loss of power-good (R305): every domain but the AOI is reset at once, with no molt; staged records are lost. -/
def State.powerFall (s : State) : State :=
  if s.boot.aoiOn = false then s
  else if s.stageOn 0 then { s with boot := { s.boot with powerGood := none } }
  else
    let s1 := ({ s with events := [], heldRecs := [], hist := { s.hist with staged := [] }, molts := { s.molts with busy := [] } }).computeClear
    let s2 := (List.range 32).foldl (fun t f => (t.stationClear f).hold (.station (toFin32 f))) s1
    let s3 := (List.range 16).foldl (fun (t : State) k =>
      let d : Domain := .port (toFin16 k)
      (t.setDomInfo d { t.domInfo d with waits := false }).assertPort k) s2
    let s4 := (((s3.keeperClear).hold .keeper).hold .compute).put .aoiResetCausePowerGood 0 1
    ({ s4 with boot := { s4.boot with full := true, stations := false, trained := false, powerGood := none, haltFrom := none, haltTicks := 0 } }).sample
      1 locKeeper [.log]

/-- Power-good is back: its 10,000 ticks are counted from here. -/
def State.powerBack (s : State) : State :=
  if s.boot.aoiOn && s.boot.powerGood.isNone then
    let s1 := { s with boot := { s.boot with powerGood := some s.now } }
    if s1.stageOn 0 then s1 else s1.beginRun 0 0
  else s

/-! ### Stages 0 to 2 -/

/-- STAGE_0_POWER. -/
def State.stage0 (s : State) (feed sa : Nat) : State :=
  match s.stageOn 0, s.boot.powerGood with
  | true, some t =>
    if t + 10000 ≤ s.now then
      let lost := !s.boot.timed && decide (s.rf .aoiTimeStatusAnchorLost 0 = 1)
      let s1 := ({ s with feedId := feed, i3cSa := sa, boot := { s.boot with timed := true } }).put .aoiTempTrim 0 (trimAt s.fuses.trims s.aoiTemp)
      s1.endStage 0 (if lost then 0x10 else 0) 0
    else s
  | _, _ => s

/-- POWER_UNSTABLE: stage 0 starts again. -/
def State.powerUnstable (s : State) (held : Nat) : State :=
  if s.stageOn 0 ∧ s.boot.stageFrom + 1000000 ≤ s.now ∧ (match s.boot.powerGood with | some t => decide (s.now < t + 10000) | none => true) = true then
    let s1 := s.stageReport 0 false 0x11 held
    ({ s1 with boot := { s1.boot with total := s1.boot.total + s.stageTicks } }).beginStage 0
  else s

/-- STAGE_1_FUSES: the history is read and settled, the ledger rebuilt, the fuse map applied, the identity loaded. -/
def State.stage1 (s : State) (readOk : Bool) : State :=
  if readOk = false then s.stageHalt 1 0x20 0
  else
    let (recorded, lost, s1) := s.readHistory
    let rv := s1.fuses.revision % 16
    let new := match recorded with | some r => decide (r % 16 ≠ rv) | none => false
    let s2 := (s1.put .kprLedgerStatusFuseRev 0 rv).rebuildLedger.applyFuses new
    let s3 := if new then ({ s2 with hist := { s2.hist with headerDue := true } }).put .kprLedgerStatusFuseRevNew 0 1 else s2
    let e := match s3.idents.newest with | some r => r.2 | none => 0x7FFF
    let s4 := ((s3.syncLanes false).puts [(.kprEngineEngine, 0, e), (.kprEngineValid, 0, bit (!engineReserved e))])
    let s5 := { s4 with boot := { s4.boot with fusesRead := true } }
    if new then s5.endStage 1 0x21 rv else if lost then s5.endStage 1 0x22 0 else s5.endStage 1 0 0

/-- The image that stage 2 takes: the valid one of higher REVISION, A of equals (R448). DESIGN CHOICE: log entry 16. -/
def State.bestImage (s : State) : Option (Nat × FwImage) :=
  match s.fw.slotA.filter (fun v => v.valid), s.fw.slotB.filter (fun v => v.valid) with
  | some a, some b => if fwRevision a.bytes < fwRevision b.bytes then some (1, b) else some (0, a)
  | some a, none => some (0, a)
  | none, some b => some (1, b)
  | none, none => none

/-- The Keeper is reset where it stands and stage n runs again. -/
def State.keeperAgain (s : State) (n : Nat) : State :=
  let r := s.stageRun
  (s.keeperClear.puts [(.aoiResetCauseKeeperStage, 0, 1), (.kprBringupStatusRun, 0, r)]).beginStage n

/-- Stage 2 fails: once more, then it halts (R321). -/
def State.keeperFail (s : State) (detail : Nat) : State :=
  if s.boot.failed2 then s.stageHalt 2 0x30 detail
  else ({ s with boot := { s.boot with failed2 := true } }).keeperAgain 2

/-- The memories that the cold march leaves zero (R321): the general areas and the molts; the history cache and the records
staged by stage 1 stand. DEDUCED: log entry 54. -/
def State.coldMemories (s : State) : State :=
  ({ s with ks := [], molts := { s.molts with slots := [], noticeDue := [] } }).clearPoison (fun m => match m with
    | .keeperStore _ => true
    | _ => false)

/-- The running image is cached and the keeper cores start from it (R448). DESIGN CHOICE: log entry 6. -/
def State.startKeeperCores (s : State) (slot : Nat) (v : FwImage) : State :=
  let s1 := ({ s with fw := { s.fw with cache := v.bytes } }).writeKs 0x1B00000 (v.bytes.map (fun (b : Byte) => b.toNat))
  let s2 := [64, 65, 66, 67].foldl State.loadCore s1
  ({ s2 with boot := { s2.boot with keeperTested := true } }).puts
    [(.kprFwStatusActiveSlot, 0, slot), (.kprFwRevisionRevision, 0, fwRevision v.bytes)]

/-- STAGE_2_KEEPER. -/
def State.stage2 (s : State) (passed : Bool) (failTest : Nat) : State :=
  let bad := [s.fw.slotA, s.fw.slotB].any (fun v => v.any (fun (x : FwImage) => !x.valid))
  let s1 := if bad then s.put .kprFwStatusInvalidSeen 0 1 else s
  match passed, s1.bestImage with
  | false, _ => s1.keeperFail failTest
  | true, none => s1.keeperFail 0xF1
  | true, some (n, v) => ((if s1.stageRun = 0 then s1.coldMemories else s1).startKeeperCores n v).endStage 2 0 0

/-! ### Stages 3 to 7 -/

/-- A station fails its stage 3 (R219, R328): detected as unreachable unless an entry has it out already. DEDUCED: log entry 60. -/
def State.stationFails (s : State) (f : Nat) : State :=
  let s1 := { s with ledger := { s.ledger with fails := stationKey f :: s.ledger.fails } }
  if s1.unitOut (stationKey f) then s1 else s1.applyDetect (stationKey f) 0x050 1

/-- A station ends its stage 3: its field cores start from the image cache, its Replay Buffer is marched, and the hour of its
correctable-error counters begins (R182). -/
def State.stationStarts (s : State) (f : Nat) : State :=
  let s1 := ((s.loadCore (2 * f)).loadCore (2 * f + 1)).clearPoison (fun m => match m with
    | .replayBuffer g _ => decide (g.val = f)
    | _ => false)
  s1.setField f { s1.field f with ceClearAt := s1.now }

/-- The verdicts of the episodes that the station's reset abandoned are counted (R115). -/
def State.countOwed (s : State) (f : Nat) : State :=
  let x := s.field f
  match x.owed.getLast? with
  | some r => ((s.setField f { x with owed := [] }).bumpBy .fstEpAbandonedCount f x.owed.length .fstEpFlagsSat f 8).put .fstEpLastRecord f r
  | none => s

/-- The station reaches UP, or is reset again, where its stage 3 ends. -/
def State.stationReady (s : State) (f : Nat) : State :=
  let d : Domain := .station (toFin32 f)
  if s.domState d = 3 then
    (if s.domPending d = 1 then s.assertStation f
     else (((((s.domUp d).countOwed f).releaseHeld f).sortQueue f).dequeue f).tellMolts (fun m => decide (m.scope = 1 ∧ m.field = f)))
  else s

/-- The code and DETAIL of a stage 3: fields dropped, a failing station, the mask of packs that failed (R185, R328). -/
def State.stage3Code (s : State) (failed : Bool) (packs : Nat) : Nat × Nat :=
  lowCode ((if s.rf .kprFieldsDroppedDropped 0 ≠ 0 then [(1, 0)] else []) ++ (if failed then [(0x40, 0)] else []) ++
    (if packs = 0 then [] else [(0x41, packs)]))

/-- Stage 3 of one station after its own reset; the job keeps running, and the Keeper verifies the stored packs again (R185, R318).
DEDUCED: log entry 60. -/
def State.stage3One (s : State) (f : Nat) (failed : Bool) : State :=
  if s.domState (.station (toFin32 f)) = 3 ∧ s.stageOn 3 = false then
    let (packs, s1) := (if failed then s.stationFails f else s.stationStarts f).packsVerify
    let c := s1.stage3Code failed packs
    let s2 := s1.sendMsg 3 0 1 0 0 (s1.stagePayload 3 1 false c.1 (s1.now - (s1.domInfo (.station (toFin32 f))).heldAt) c.2)
    if failed then s2 else s2.stationReady f
  else s

/-- Monitors that failed their retest in this stage 3 (R299). -/
def State.sensorFails (s : State) : List UnitKey := (s.mons.filter (fun e => e.2.failed)).map (fun e => ⟨kindSensor, e.1, 0⟩)

/-- STAGE_3_STATIONS for the wafer. -/
def State.stage3 (s : State) (failed : Nat) : State :=
  let bad := (List.range 32).filter (fun f => failed.testBit f && (!s.dropped f || (s.findEntry (stationKey f)).isSome))
  let s1 := bad.foldl State.stationFails s
  let s2 := { s1 with ledger := { s1.ledger with fails := s1.ledger.fails ++ s1.sensorFails } }
  let live := (List.range 32).filter (fun f => !s2.dropped f)
  let s3 := live.foldl (fun t f => (t.stationStarts f).stationReady f) s2
  let (packs, s4) := s3.packsVerify
  let c := s4.stage3Code (!bad.isEmpty) packs
  ({ s4 with boot := { s4.boot with stations := true } }).endStage 3 c.1 c.2

/-- The start-up test leaves the tiles of a field clear, and every unit of it visited now (R170, R176, R179). -/
def State.fieldTested (s : State) (f : Nat) : State :=
  ({ s with
    sram := Tab.drop (fun k => decide (tileField (k / 768) = f)) s.sram
    sealed := Tab.drop (fun k => decide (tileField (k / 384) = f)) s.sealed }).setField f { s.field f with visitStamp := s.now, allDue := false }

/-- STAGE_4_TILES: the results wait for stage 5. -/
def State.stage4 (s : State) (fails laneFails : List UnitKey) : State :=
  let ok := fun (k : UnitKey) => (decide (k.kind = kindTile) || decide (k.kind = kindBank) || decide (k.kind = kindRouter)) && !s.dropped (tileField k.unit)
  let live := (List.range 32).filter (fun f => !s.dropped f)
  let all := s.ledger.fails ++ fails.filter ok ++ laneFails.filter (fun (k : UnitKey) => decide (k.kind = kindLane))
  let s1 := live.foldl State.fieldTested s
  ({ s1 with ledger := { s1.ledger with
    fails := all, prevFails := all, testedFields := maskOf 32 (fun f => live.contains f) + 2 ^ 32 } }).endStage 4 0 0

/-- STAGE_6_TRAINING: every port has trained or is down; discovery begins with a HELLO (R324). -/
def State.stage6 (s : State) (trained : List (Fin 16 × BitVec 32)) : State :=
  let lanes := fun (k : Nat) => ((trained.find? (fun p => decide (p.1.val = k))).map (fun p => p.2.toNat)).getD 0
  let s1 := (List.range 16).foldl (fun t k => (t.trainPort k (lanes k)).portTrained k) s
  ({ s1 with boot := { s1.boot with trained := true, trainEnd := s1.now, lastPeer := s1.now } }).helloAfter

/-- DISCOVERY_END. DEDUCED: log entry 60. -/
def State.discovered (s : State) : State :=
  if s.stageOn 6 && s.boot.trained &&
     decide (s.boot.lastPeer + 200000 ≤ s.now ∨ s.boot.trainEnd + 1000 * clamp 200 1860 (s.rf .kprBringupCfgDiscoveryMs 0) ≤ s.now) then
    s.endStage 6 (if s.portsDown ≠ 0 ∨ s.rf .kprFieldsDroppedDropped 0 ≠ 0 then 1 else 0) 0
  else s

/-- The recovery goes on where stage 5 has ended (R250, R356); one whose compute reset a whole bring-up served counts as
staged too. DEDUCED: log entry 64. -/
def State.recoveryStaged (s0 : State) : State :=
  let s := if s0.recState = 2 then ({ s0.setRec 3 with sec := { s0.sec with needed := true, neededAt := some s0.now } }).croakNeeded else s0
  if s.recState = 3 then
    match s.sec.rollback, s.rf .kprSecCtrlSolo 0, s.listedSteps with
    | some r, _, _ => (s.setRollback (some { r with phase := 1 })).startReload
    | none, 1, step :: _ => (s.setRollback (some ⟨none, step, s.wtc + 10000000, 1, none, s.now, s.now, false⟩)).startReload
    | none, _, _ => s.setRec 4
  else s

/-- STAGE_7_READY: the run ends; the Keeper and tile compute are UP. -/
def State.stage7 (s : State) : State :=
  let s1 := (s.stageReport 7 false 0 0).puts [(.kprBringupStatusBusy, 0, 0), (.kprStageTimeTicks, 7, s.boot.total + s.stageTicks)]
  match s1.pendingReset with
  | some t => t
  | none =>
    let s2 := ({ s1 with boot := { s1.boot with full := false } }).put .kprBringupStatusReady 0 1
    let s3 := if s2.domState .keeper = 3 then s2.domUp .keeper else s2
    let s4 := if s3.domState .compute = 3 then
        (if s3.domPending .compute = 1 then s3.assertCompute else s3.domUp .compute) else s3
    (s4.tellMolts (fun m => decide (m.scope = 0))).recoveryStaged

/-! ### Overruns (R319, R322) -/

def ceilDiv (a b : Nat) : Nat := (a + b - 1) / b

/-- Time of the start-up test of every tile, in ticks (R179), rounded up. -/
def State.tilesTime (s : State) : Nat := ceilDiv (ceilDiv 460800 (Nat.max 1 s.testLimit) * 4362240) s.effClock

/-- Bound of a stage in ticks; none for stages 0 and 7. DEDUCED: log entry 61. -/
def State.stageBound (s : State) (n : Nat) : Option Nat :=
  match n with
  | 1 => some 26000
  | 2 => some (if s.stageRun = 0 then 75000 else 25000)
  | 3 => some 120000
  | 4 => some (ceilDiv (ceilDiv (ceilDiv 460800 (Nat.max 1 s.testLimit) * 4362240 * 11) (10 * s.effClock)) 1000 * 1000)
  | 5 => some 40000
  | 6 => if s.boot.trained then none else some 140000
  | _ => none

/-- The units that ran a stage are reset, and the stage begins once more. DEDUCED: log entry 61. -/
def State.stageAgain (s : State) (n : Nat) : State :=
  let s1 := match n with
    | 3 => ((List.range 32).filter (fun f => !s.dropped f)).foldl (fun (t : State) f =>
        let d : Domain := .station (toFin32 f)
        (t.stationClear f).setDom d (if t.domState d = 2 then 2 else 3)) s
    | 4 => s.computeClear
    | 6 => ((List.range 16).filter (fun k => decide (s.domState (.port (toFin16 k)) = 3))).foldl (fun (t : State) k =>
        (t.assertPort k).setDom (.port (toFin16 k)) 3) s
    | 5 => match s.bestImage with
      | some (m, v) => (s.keeperAgain n).startKeeperCores m v
      | none => s.keeperAgain n
    | _ => s.keeperAgain n
  let s2 := s1.beginStage n
  { s2 with boot := { s2.boot with overran := true } }

/-- STAGE_TIMEOUT: past twice its bound, a stage runs again once, then bring-up halts. -/
def State.stageLate (s : State) : State :=
  let n := s.rf .kprBringupStatusStage 0
  match s.stageOn n, s.stageBound n with
  | true, some b =>
    if 2 * b ≤ s.stageTicks then
      (if s.boot.overran then s.stageHalt n 0x70 b
       else
         let s1 := s.stageReport n false 0x70 b
         ({ s1 with boot := { s1.boot with total := s1.boot.total + s.stageTicks } }).stageAgain n)
    else s
  | _, _ => s

/-! ### Releases (R334) -/

/-- DOMAIN_RELEASE. DEDUCED: log entry 64. -/
def State.release (s : State) (d : Domain) : State :=
  if s.domState d ≠ 2 ∨ s.now < (s.domInfo d).heldAt + 16 then s
  else match d with
    | .keeper =>
      if s.boot.full || s.boot.powerGood.isNone then s else (s.beginRun 1 2).enterStage 2
    | .compute =>
      if s.keeperUp = false ∨ s.rf .kprMonStatusTripped 0 = 1 then s
      else
        if s.recState = 2 then s.restage else ((s.setDom .compute 3).beginRun 2 3).enterStage 3
    | .station f =>
      if s.dropped f.val || !s.boot.stations then s else (s.setDom d 3).setDomInfo d { s.domInfo d with heldAt := s.now }
    | .port _ => if s.boot.trained then s.setDom d 3 else s

/-- TRIP_HOLD_RELEASE (R302): 1,000 consecutive cool samples of every in-service sensor and the AOI sensor, the reset in
force. Under a restart of the Keeper no recovery follows: its stage 4 goes on. DEDUCED: log entry 64. -/
def State.tripRelease (s : State) : State :=
  if s.rf .kprMonStatusTripped 0 = 1 ∧ s.domState .compute = 2 ∧ 1000 ≤ s.mon.aoiCool ∧
     s.monFields.all (fun f => decide (1000 ≤ (s.monField f).cool)) = true then
    let s1 := s.put .kprMonStatusTripped 0 0
    if s1.keeperUp then
      let s2 := s1.requestRecovery (!s1.recov.cids.isEmpty) none 4 true
      if s2.recState = 3 then s2.restage else s2
    else if s1.stageOn 4 then s1.setDom .compute 3 else s1
  else s

/-! ### Rows -/

/-- AOI_POWER_UP (R318). -/
def execAoiPowerUp (s : State) : Host.Outcome State Fault Refusal := .next s.powerUp

/-- AOI_SUPPLY_LOSS (R330). -/
def execAoiSupplyLoss (s : State) : Host.Outcome State Fault Refusal := .next s.aoiOff

/-- POWER_GOOD_LOSS (R305). -/
def execPowerGoodLoss (s : State) : Host.Outcome State Fault Refusal := .next s.powerFall

/-- BRD_RESET_LOW (R478). -/
def execBrdResetLow (s : State) : Host.Outcome State Fault Refusal := .next s.powerFall

/-- POWER_GOOD_RETURN (R318). -/
def execPowerGoodReturn (s : State) : Host.Outcome State Fault Refusal := .next s.powerBack

/-- STAGE_0_POWER (R317). -/
def execStage0Power (feedId : BitVec 8) (i3cSa : BitVec 2) (s : State) : Host.Outcome State Fault Refusal :=
  .next (s.stage0 feedId.toNat i3cSa.toNat)

/-- POWER_UNSTABLE (R317). -/
def execPowerUnstable (held : Nat) (s : State) : Host.Outcome State Fault Refusal := .next (s.powerUnstable held)

/-- STAGE_1_FUSES (R317). -/
def execStage1Fuses (readOk : Bool) (s : State) : Host.Outcome State Fault Refusal :=
  .next (if s.stageOn 1 then s.stage1 readOk else s)

/-- STAGE_2_KEEPER (R321). -/
def execStage2Keeper (passed : Bool) (failTest : BitVec 64) (s : State) : Host.Outcome State Fault Refusal :=
  .next (if s.stageOn 2 then s.stage2 passed failTest.toNat else s)

/-- STAGE_3_STATIONS (R317): stations that fail their self-test, and those whose Replay Buffer fails its march. -/
def execStage3Stations (only : Option (Fin 32)) (testFails marchFails : BitVec 32) (s : State) :
    Host.Outcome State Fault Refusal :=
  let failed := (testFails ||| marchFails).toNat
  .next (match only with
    | some f => s.stage3One f.val (failed.testBit f.val)
    | none => if s.stageOn 3 then s.stage3 failed else s)

/-- STAGE_4_TILES (R179). -/
def execStage4Tiles (fails laneFails : List UnitKey) (s : State) : Host.Outcome State Fault Refusal :=
  .next (if s.stageOn 4 then s.stage4 fails laneFails else s)

/-- STAGE_5_LEDGER (R56). -/
def execStage5Ledger (s : State) : Host.Outcome State Fault Refusal := .next (if s.stageOn 5 then s.stage5 else s.haltAnswered)

/-- STAGE_6_TRAINING (R324). -/
def execStage6Training (trained : List (Fin 16 × BitVec 32)) (s : State) : Host.Outcome State Fault Refusal :=
  .next (if s.stageOn 6 && !s.boot.trained then s.stage6 trained else s)

/-- DISCOVERY_END (R324). -/
def execDiscoveryEnd (s : State) : Host.Outcome State Fault Refusal := .next s.discovered

/-- STAGE_7_READY (R317). -/
def execStage7Ready (s : State) : Host.Outcome State Fault Refusal := .next (if s.stageOn 7 then s.stage7 else s)

/-- STAGE_TIMEOUT (R322). -/
def execStageTimeout (s : State) : Host.Outcome State Fault Refusal := .next s.stageLate

/-- TRIP_HOLD_RELEASE (R302). -/
def execTripHoldRelease (s : State) : Host.Outcome State Fault Refusal := .next s.tripRelease

/-- DOMAIN_RELEASE (R334). -/
def execDomainRelease (dom : Domain) (s : State) : Host.Outcome State Fault Refusal := .next (s.release dom)

/-- PORT_TRAINING_RETRY (R318, R324): the training of a port in RESTART, or the next attempt of a port that is down. -/
def execPortTrainingRetry (k : Fin 16) (lanes : BitVec 32) (s : State) : Host.Outcome State Fault Refusal :=
  .next (if s.boot.trained = false then s
    else if s.domState (.port k) = 3 then
      let s1 := (s.trainPort k.val lanes.toNat).sendMsg 3 0 1 0 0 ((s.trainPort k.val lanes.toNat).stagePayload 6 1 false
        (if (s.trainPort k.val lanes.toNat).portsDown ≠ 0 ∨ s.rf .kprFieldsDroppedDropped 0 ≠ 0 then 1 else 0)
        (s.now - (s.domInfo (.port k)).heldAt) 0)
      (s1.portTrained k.val).helloAfter
    else if s.domState (.port k) = 0 ∧ s.rf .lwdPortStatusPortUp k.val = 0 ∧ (s.warden k.val).trainAt + 1000000 ≤ s.now then
      let s1 := s.trainPort k.val lanes.toNat
      if s1.rf .lwdPortStatusPortUp k.val = 1 then s1.helloAfter else s1
    else s)

/-- LANE_RETRAIN_TRIGGER (R325). -/
def execLaneRetrainTrigger (k : Fin 16) (lane : Fin 32) (lostLock : Bool) (replays : Nat) (s : State) :
    Host.Outcome State Fault Refusal := .next (s.retrainTrigger k.val lane.val lostLock replays)

/-- LANE_RETRAIN_DONE (R325). -/
def execLaneRetrainDone (k : Fin 16) (passed : Bool) (s : State) : Host.Outcome State Fault Refusal := .next (s.retrainDone k.val passed)

end Sys2Proof.Machine
end

