-- ==== Sys2Proof/Machine/Hangs.lean ====
section
/-! DEFINITION. Hangs, recovery requests and timeouts (12_hangs_and_molts.md R339 to R346, R355 to R360). -/

namespace Sys2Proof.Machine

/-! ### Hang records (R345) -/

/-- What a hang record carries beside its CRC. -/
structure HangInfo where
  kind    : Nat
  wait    : Nat := 0
  port    : Nat := 0
  bundle  : Nat := 0
  tile    : Nat := 0
  logical : Nat := 0
  pos     : Nat := 0
  sem     : Nat := 0
  semOk   : Bool := false
  core    : Nat := 0xFFFF
  count   : Nat := 0
  n       : Nat := 0
  stalled : Nat := 0
  wtc     : Nat := 0
  tiles   : Nat := 0
  source  : Nat := 0x7FFF
deriving DecidableEq, Repr

def State.hangRecord (s : State) (h : HangInfo) : Nat :=
  withCrc16 62 (pack [(0, 4, 1), (4, 4, h.kind), (8, 4, h.wait), (12, 2, h.port), (14, 2, s.rf .kprEpochCurrent 0), (16, 16, h.bundle),
    (32, 19, h.tile), (64, 19, h.logical), (96, 32, h.pos), (128, 12, h.sem), (143, 1, bit h.semOk), (144, 16, h.core), (160, 32, h.count),
    (192, 32, h.n), (224, 32, h.stalled), (256, 64, h.wtc), (320, 32, h.tiles), (352, 15, h.source)])

/-- The record stands in KPR_HANG_LAST, a class 4 event is raised and HANG is croaked (R344). -/
def State.raiseHang (s : State) (h : HangInfo) : State :=
  let b := s.hangRecord h
  (s.puts [(.kprHangLastRecord, 0, b), (.kprHangStatusStalled, 0, Nat.max (s.rf .kprHangStatusStalled 0) (bit s.launch.running))]).sample 4 locKeeper
    [.post 9 32 h.tile 64 b false, .croak 0x1D 2 b]

/-! ### Stream stalls (R342 to R346) -/

/-- The manager holds a step boundary, for a capture or for a regrowth (R233, R238). -/
def State.boundaryHeld (s : State) : Bool := s.sec.waiting.isSome || s.sec.capture.any (fun c => !c.released)

/-- The wafer is held for a rollback (R250, R342). -/
def State.rollbackHeld (s : State) : Bool := s.sec.rollback.isSome || (s.sec.needed && !s.sec.adds.isEmpty)

/-- Conditions under which a stall is not counted (R194, R342): the stall line, a rollback hold, a boundary held while the tile waits on RELEASE_SEM, a
regrowth of the wafer, a thermal hold, self-test, an open test window, and a tile that serves nothing. -/
def State.stallExempt (s : State) (t : Nat) (i : StallInfo) : Bool :=
  (s.tile t).stall || s.rollbackHeld || (s.boundaryHeld && i.semValid && decide (i.semaphore.toNat = s.releaseSem)) || s.regrows.any (fun r => decide (r.rot = 0)) ||
    decide (s.rf .kprMonStatusHold 0 = 1) || (s.tile t).underTest || (s.tile t).inWindow || (s.logicalOf t).isNone

/-- The Sentinel sends one stall record, and no other until its position has advanced. The record's layout on the warden
channel is not given: its bytes are a free value. DEDUCED: log entry 63; DESIGN CHOICE: log entry 7. -/
def State.stallLimit (s : State) (t : Nat) (i : StallInfo) : State :=
  let limit := s.rf .kprStallLimitLimit 0
  let sent := decide (limit ≤ s.rf .tsnStallStalled t) && decide (s.rf .tsnStreamPosition t = i.streamPos.toNat)
  if s.launch.running && decide (limit ≤ i.stalled.toNat) && !sent && !s.stallExempt t i then
    let (v, s1) := s.free
    ({ s1 with out := .record t v :: s1.out }).puts [(.tsnStreamPosition, t, i.streamPos.toNat), (.tsnStallStalled, t, i.stalled.toNat),
      (.tsnWaitSemaphore, t, i.semaphore.toNat), (.tsnWaitWait, t, i.wait.toNat), (.tsnWaitPort, t, i.port.toNat),
      (.tsnWaitSemValid, t, bit i.semValid), (.tsnBundleBundle, t, i.bundle.toNat)]
  else s

/-- A stall record opens the naming window of 100 ticks, or joins it (R344). -/
def State.stallArrives (s : State) (t : Nat) (i : StallInfo) : State :=
  if s.launch.running = false ∨ s.recov.closed = true then s
  else match s.recov.naming with
    | none => { s with recov := { s.recov with naming := some s.now, stalls := [⟨t, i⟩] } }
    | some t0 => if s.now < t0 + 100 then { s with recov := { s.recov with stalls := s.recov.stalls ++ [⟨t, i⟩] } } else s

/-- The record that names the fault: the earliest STALL_START_WTC, then the order of R261. -/
def namedStall : List StallRec → Option StallRec
  | [] => none
  | r :: t =>
    match namedStall t with
    | none => some r
    | some b =>
      let x := r.info.startWtc.toNat
      let y := b.info.startWtc.toNat
      if x < y ∨ (x = y ∧ locTile r.tile ≤ locTile b.tile) then some r else some b

/-- Source of the oldest add parked on a counter. -/
def State.parkedOn (s : State) (c : Nat) : Option Nat :=
  ((s.park.filter (fun p => decide (addCounter p.packet = c))).foldl (fun (acc : Option Parked) p => match acc with
    | none => some p
    | some a => if p.since < a.since then some p else some a) none).map (fun p => addSource p.packet)

/-- The naming window closes: the hang record, and recovery where AUTO_RECOVER is set (R344, R346). DEDUCED: log entry 63. -/
def State.namingClose (s : State) : State :=
  match s.recov.naming, namedStall s.recov.stalls with
  | some t0, some r =>
    if t0 + 100 ≤ s.now then
      let i := r.info
      let src := if i.semValid ∧ (i.wait.toNat = 1 ∨ i.wait.toNat = 5) then s.parkedOn i.semaphore.toNat else none
      let h : HangInfo := {
        kind := 1, wait := if i.wait.toNat = 1 ∧ src.isSome then 5 else i.wait.toNat, port := i.port.toNat, bundle := i.bundle.toNat
        tile := r.tile, logical := (s.logicalOf r.tile).getD 0, pos := i.streamPos.toNat, sem := i.semaphore.toNat, semOk := i.semValid
        count := s.rf .semCountCount i.semaphore.toNat, n := i.semN.toNat, stalled := i.stalled.toNat, wtc := i.startWtc.toNat
        tiles := s.recov.stalls.length, source := src.getD 0x7FFF }
      let s1 := ({ s with recov := { s.recov with naming := none, stalls := [], closed := true } }).raiseHang h
      if s1.rf .kprHangCtrlAutoRecover 0 = 1 then s1.requestRecovery false none 1 false else s1
    else s
  | _, _ => s

/-! ### Timeouts (R339, R340) -/

/-- Fixed limits of the command classes, by opcode; the others are timed by what they wait for. A DETACH that waits has not been
applied, so its timer has not begun (R339, R400). DEDUCED: log entry 91. -/
def commandLimit (op : Nat) : Option Nat :=
  if op = 0x10 ∨ op = 0x11 then some 100
  else if [0x03, 0x12, 0x20, 0x70, 0x40].contains op then some 1000
  else if [0x01, 0x21, 0x22, 0x23, 0x24, 0x30, 0x31, 0x32].contains op then some 10000
  else if op = 0x50 then some 1000000
  else if op = 0x51 then some 60000000
  else none

/-- Every timeout is a class 7 event and is counted. -/
def State.timedOut (s : State) : State :=
  (s.bump .kprCmdTimeoutsCount 0 .kprHangStatusCountSat 0 1).sample 7 locKeeper [.log]

/-- A host's ordered visit stops, its command answered first. -/
def State.stopVisit (s : State) (t : Nat) : State :=
  let s1 := { s with st := { s.st with
    visits := s.st.visits.map (fun (v : Visit) => if v.tile = t then (match v.owner with | .host _ => { v with owner := .register } | _ => v) else v)
    orders := s.st.orders.filter (fun o => decide (o.1 ≠ t)) } }
  s1.abortVisit t

/-- Tile of the visit that a TEST command ordered. -/
def State.testTile (s : State) (cid : Nat) : Option Nat :=
  match s.st.visits.find? (fun v => decide (v.owner = .host cid)) with
  | some v => some v.tile
  | none => (s.st.orders.find? (fun o => decide (o.2.1 = .host cid))).map (fun o => o.1)

/-- Number of a domain as RESET names it: domain and index. -/
def domNumber : Domain → Nat × Nat
  | .keeper => (0, 0)
  | .compute => (1, 0)
  | .station f => (2, f.val)
  | .port k => (3, k.val)

/-- A RESET that has not reached UP in time: answered TIMEOUT, its domain left HELD, RESET_STUCK croaked (R340). -/
def State.resetStuck (s : State) (d : Domain) : State :=
  let i := s.domInfo d
  if i.cids.isEmpty ∨ s.domState d = 0 ∨ s.now < i.since + 5000000 + s.boot.haltTicks then s
  else
    let s1 := i.cids.foldl (fun t c => t.respond 0x63 c 2 1 0) (s.setDomInfo d { i with cids := [] })
    let s2 := if s1.domState d = 2 then s1 else s1.assertReset d
    let n := domNumber d
    (s2.timedOut).croak 0x1E 1 (pack [(0, 8, n.1), (8, 8, n.2)])

def allDomains : List Domain :=
  [.keeper, .compute] ++ (List.range 32).map (fun f => .station (toFin32 f)) ++ (List.range 16).map (fun k => .port (toFin16 k))

/-- Work behind a command stops, and the command is answered TIMEOUT. -/
def State.stopCommand (s : State) (c : Taken) : State :=
  let op := c.opcode
  if op = 0x41 then s.dropWaits (fun w => match w.owner with | .host id _ => decide (id = c.cid) | _ => false) 8
  else
    let s1 := s.respond op c.cid 2 1 0
    if op = 0x50 then (match s.testTile c.cid with | some t => s1.stopVisit t | none => s1)
    else if op = 0x51 then { s1 with st := { s1.st with packs := s1.st.packs.filter (fun p => decide (p.stored = true ∨ p.cid ≠ some c.cid)) } }
    else if op = 0x60 then s1.closeBarrier
    else if op = 0x62 then { s1 with recov := { s1.recov with cids := s1.recov.cids.filter (fun x => decide (x ≠ c.cid)) } }
    else s1

/-- A ROLLBACK that has not been released by WTC_go: the wafer stays held (R340, R407). -/
def State.rollbackLate (s : State) : State :=
  let s1 := if s.recState ≠ 0 then s.setRec 4 else s
  let s2 := (s1.closeBarrier).answerRollback 2 0 0
  ({ s2 with sec := { s2.sec with needed := true } }).croakNeeded

/-- A command has reached its limit. DESIGN CHOICE: log entry 12. -/
def State.commandDue (s : State) (c : Taken) : Bool :=
  match commandLimit c.opcode with
  | some n => decide (c.since + n ≤ s.now)
  | none =>
    if c.opcode = 0x41 then
      s.waits.any (fun w => match w.owner with | .host id lim => decide (id = c.cid ∧ w.since + lim ≤ s.now) | _ => false)
    else if c.opcode = 0x60 then s.launch.barrier && decide (s.launch.cid = some c.cid ∧ s.launch.wtcGo + 1000000 ≤ s.wtc)
    else if c.opcode = 0x61 ∨ c.opcode = 0x62 then
      s.sec.rollback.any (fun r => decide (1 ≤ r.phase ∧ r.wtcGo + 1000000 ≤ s.wtc))
    else false

/-- COMMAND_TIMEOUT. -/
def State.commandTimeout (s : State) (w : TimedWork) : State :=
  match w with
  | .command cid =>
    match s.host.taken.find? (fun t => decide (t.cid = cid.toNat) && t.applied) with
    | some c =>
      if c.opcode = 0x63 then
        (allDomains.filter (fun d => (s.domInfo d).cids.contains c.cid)).foldl State.resetStuck s
      else if s.commandDue c then
        (if c.opcode = 0x61 then s.rollbackLate else s.stopCommand c).timedOut
      else s
    | none => s
  | .reset d => s.resetStuck d
  | .visit t =>
    match s.visitOf t with
    | some v =>
      if decide (v.owner ≠ .function) && decide (v.since + 1000000 ≤ s.now) then
        (match v.owner with
          | .host cid => (s.respond 0x50 cid 2 1 0).stopVisit t
          | _ => s.abortVisit t).timedOut
      else s
    | none => s

/-! ### Rows -/

/-- STALL_LIMIT_REACHED (R344). -/
def execStallLimitReached (tile : Nat) (stall : StallInfo) (s : State) : Host.Outcome State Fault Refusal :=
  onTile tile s (s.stallLimit tile stall)

/-- STALL_RECORD_ARRIVAL (R344). -/
def execStallRecordArrival (tile : Nat) (stall : StallInfo) (s : State) : Host.Outcome State Fault Refusal :=
  onTile tile s (s.stallArrives tile stall)

/-- NAMING_WINDOW_CLOSE (R344). -/
def execNamingWindowClose (s : State) : Host.Outcome State Fault Refusal := .next s.namingClose

/-- KPR_RECOVER_REQ (R355, R360). -/
def execKprRecoverReq (key : BitVec 8) (s : State) : Host.Outcome State Fault Refusal :=
  .next (if key = 0x5A then (if s.keeperAwake then s.requestRecovery true none 8 false else s) else s.accessErr)

/-- RECOVER (R355, R407). -/
def execRecover (cid : BitVec 32) (s : State) : Host.Outcome State Fault Refusal :=
  .next (s.asHost 0x62 cid.toNat (fun t => t.requestRecovery true (some cid.toNat) 8 false))

/-- COMMAND_TIMEOUT (R340). -/
def execCommandTimeout (work : TimedWork) (s : State) : Host.Outcome State Fault Refusal := .next (s.commandTimeout work)

end Sys2Proof.Machine
end

