-- ==== Sys2Proof/Machine/MoltImage.lean ====
section
/-! DEFINITION. What a molt holds: its sections, its directory and header, and the end of the sequencer's work
(12_hangs_and_molts.md R348 to R352). Where the manual gives a section's size but no layout, its bytes are free. -/

namespace Sys2Proof.Machine

/-- Records of `n` bytes, as bytes. -/
def recsBytes (n : Nat) (l : List Nat) : List Nat := (l.map (fun r => bytesOf r 0 n)).flatten

/-- `n` records of free bytes, 8 bytes a free value. DESIGN CHOICE: log entry 7. -/
def State.freeWords : Nat → State → List Nat × State
  | 0, s => ([], s)
  | n + 1, s =>
    let (v, s1) := s.free
    let (l, s2) := State.freeWords n s1
    (v :: l, s2)

/-! ### In-flight items (R352) -/

/-- WTC at which an item began, from its tick. -/
def State.wtcAt (s : State) (since : Nat) : Nat := s.wtc - 1000 * (s.now - since)

/-- An in-flight record: KIND, STATE, FATE, ID, UNIT, AUX, and the tick it began. -/
def State.flightRec (s : State) (kind state fate id unit aux since : Nat) : Nat :=
  pack [(0, 8, kind), (8, 8, state), (16, 2, fate), (32, 32, id), (64, 32, unit), (96, 32, aux), (128, 64, s.wtcAt since)]

/-- FATE of work: 0 ends with this reset, 1 goes on after it. -/
def fateOf (ends : Bool) : Nat := if ends then 0 else 1

/-- Items of the wafer in the order of KIND; `keeper` says that the Keeper is reset too, `p` picks the fields. DEDUCED: log entry 56. -/
def State.flightItems (s : State) (wafer keeper : Bool) (p : Nat → Bool) : List Nat :=
  let all := fun (l : List Nat) => if wafer then l else []
  all (s.host.taken.map (fun t => s.flightRec 1 0 (fateOf keeper) t.cid 0 t.opcode t.since)) ++
  ((s.episodes.filter (fun e => p (tileField e.tile))).map (fun e => s.flightRec 2 e.phase 0 e.number e.tile e.spare e.goAt)) ++
  ((s.regrows.filter (fun r => p (tileField r.failed))).map (fun r =>
    s.flightRec 3 (if r.phase = rgQueued then 0 else r.phase) (fateOf (wafer || decide (r.phase < rgDrain))) r.logical r.failed (r.target.getD 0) r.since)) ++
  all ((s.genList.filter (fun g => decide (g.2.state = 1))).map (fun g =>
    s.flightRec 4 g.2.state (fateOf (keeper || s.sec.capture.any (fun c => !c.released && decide (c.step = g.2.step)))) g.2.step g.2.engine g.2.layer g.2.since)) ++
  all ((s.sec.rollback.toList.map (fun r => s.flightRec 4 r.phase (fateOf (decide (1 ≤ r.phase) || keeper)) (r.cid.getD 0) 0 r.step r.asked))) ++
  all (((List.range 16).map (fun k => (s.warden k).chorus.map (fun c =>
    s.flightRec (if c.phase = 3 then 6 else 5) c.phase (fateOf false) (pack [(0, 16, c.coll), (16, 12, c.chunk)]) k c.inst c.openAt))).flatten) ++
  ((s.st.visits.filter (fun v => p (tileField v.tile))).map (fun v => s.flightRec 7 (s.stState v.tile) (fateOf wafer) v.tile v.tile v.item v.since)) ++
  ((s.waits.filter (fun w => wafer || p (waitTable w.owner))).map (fun w => match w.owner with
    | .tile t => s.flightRec 8 0 0 t t w.counter w.since
    | .core c _ _ => s.flightRec 8 0 (fateOf (keeper || !wafer)) c c w.counter w.since
    | .host cid _ => s.flightRec 8 0 (fateOf keeper) cid 0 w.counter w.since)) ++
  all ((s.st.packs.filter (fun q => !q.stored)).map (fun q => s.flightRec 10 0 (fateOf keeper) q.id q.slot q.revision q.since)) ++
  all (s.hist.staged.map (fun r => s.flightRec 11 r.state 1 r.seq r.key.unit (keyWord r.key) r.lastSeen))

/-! ### Tiles (R351) -/

/-- A tile record; `q` holds its four queue depths. -/
def State.tileRecord (s : State) (t q : Nat) : Nat :=
  let x := s.tile t
  pack [(0, 32, s.rf .tsnStreamPosition t), (32, 16, s.rf .tsnBundleBundle t), (48, 4, s.rf .tsnWaitWait t), (52, 2, s.rf .tsnWaitPort t),
    (54, 2, s.rf .kprEpochCurrent 0), (56, 1, bit x.stall), (57, 1, bit (s.collar t).1), (58, 1, bit (s.collar t).2),
    (59, 2, s.rf .tsnTapCtrlState t), (61, 3, s.stState t), (64, 1, s.rf .tsnEpCtrlGo t), (65, 1, s.rf .tsnEpCtrlCapturing t),
    (80, 12, s.rf .tsnWaitSemaphore t), (95, 1, s.rf .tsnWaitSemValid t), (96, 32, s.rf .tsnStallStalled t), (128, 32, q),
    (160, 32, ((s.waits.find? (fun w => decide (w.owner = .tile t))).map (fun w => w.n)).getD 0), (192, 19, (s.logicalOf t).getD 0), (223, 1, bit (s.logicalOf t).isNone), (224, 19, t)]

/-- Physical tiles of the fields that `p` picks and that are not dropped, ascending. -/
def State.moltTiles (s : State) (p : Nat → Bool) : List Nat :=
  (((List.range 32).filter (fun f => p f && !s.dropped f)).map (fun f =>
    ((List.range 120).map (fun r => (List.range 120).map (fun c => tileId f r c))).flatten)).flatten

/-- The tile section: queue depths are what the samplers read (free values). DESIGN CHOICE: log entry 7. -/
def State.tileSection : List Nat → State → List Nat × State
  | [], s => ([], s)
  | t :: rest, s =>
    let (q, s1) := s.free
    let (l, s2) := State.tileSection rest s1
    (bytesOf (s.tileRecord t q) 0 32 ++ l, s2)

/-! ### Sections (R350) -/

/-- Counters in the layout of R288. DEDUCED: log entry 83. -/
def State.semWords (s : State) : List Nat :=
  (List.range 4096).map (fun n => pack [(0, 32, s.rf .semCountCount n), (32, 1, s.rf .semFlagsAddSat n), (33, 1, s.rf .semFlagsSubSat n),
    (34, 1, bit (s.waits.any (fun w => decide (w.counter = n)))), (35, 1, bit (s.park.any (fun q => decide (addCounter q.packet = n)))),
    (36, 1, s.rf .semFlagsPoison n)])

/-- Nonzero link counts: port, engine, SENT, LANDED. -/
def State.linkCounts (s : State) : List Nat :=
  ((List.range 16).map (fun k =>
    let w := s.warden k
    ((dedup ((w.sent ++ w.landed).map (fun e => e.1))).filter (fun e => decide (s.sent k e ≠ 0 ∨ s.landed k e ≠ 0))).map (fun e =>
      pack [(0, 32, k), (32, 32, e), (64, 32, s.sent k e), (96, 32, s.landed k e)]))).flatten

/-- Records of the engine section: cores, fill engines, episodes, choruses and functions of the scope. -/
def State.engineCount (s : State) (wafer : Bool) : Nat :=
  if wafer then 68 + 64 + 192 + ((List.range 16).map (fun k => (s.warden k).chorus.length)).foldl (· + ·) 0 + 145
  else 2 + 2 + 6 + 4

/-- Events of the log and of the slices. -/
def State.eventCount (s : State) : Nat := Nat.min 4096 s.evLog.length + s.events.length + s.heldRecs.length

/-- The sections a molt takes, with their types and contents, in order. DEDUCED: log entry 83. -/
def State.moltSections (s : State) (r : MoltRun) : List (Nat × List Nat) × State :=
  let wafer := r.wafer
  let f := r.info.field
  let p : Nat → Bool := fun x => wafer || decide (x = f)
  let keeper := r.doms.contains 0
  let hang := if [1, 2, 3].contains r.info.cause then [(1, bytesOf (s.rf .kprHangLastRecord 0) 0 64)] else []
  let items := [(2, recsBytes 32 ((s.flightItems wafer keeper p).take 40960))]
  let (eng, s1) := State.freeWords (4 * s.engineCount wafer) s
  let deltas := (s.hist.delta.filter (fun h => wafer || decide (keyField h.key = some f))).reverse.take 16384
  let five := [(5, recsBytes 8 eng), (6, recsBytes 128 (deltas.reverse.map recBytes))]
  if wafer then
    let (wt, s2) := State.freeWords (8 * s.waits.length) s1
    let (evs, s3) := State.freeWords (2 * s.eventCount) s2
    let (tl, s4) := if r.info.tilesAbsent then ([], s3) else State.tileSection (s.moltTiles p) s3
    (hang ++ items ++ [(3, recsBytes 32 s.allAdds), (4, recsBytes 8 (s.semWords ++ wt))] ++ five ++
      [(7, recsBytes 16 s.linkCounts), (8, recsBytes 8 evs)] ++ (if r.info.tilesAbsent then [] else [(9, tl)]), s4)
  else
    let (tl, s2) := State.tileSection (s.moltTiles p) s1
    (hang ++ items ++ five ++ [(9, tl)], s2)

/-! ### The image (R349) -/

/-- Directory entries: TYPE, OFFSET, LENGTH, CRC-32. -/
def moltDirectory : List (Nat × List Nat) → Nat → List Nat
  | [], _ => []
  | (ty, b) :: t, o => pack [(0, 16, ty), (32, 32, o), (64, 32, b.length), (96, 32, crc32 b)] :: moltDirectory t (o + b.length)

/-- The header, 64 bytes. -/
def moltHeader (m : MoltSlot) : Nat :=
  withCrc32 60 (pack [(0, 8, 1), (8, 4, m.cause), (12, 2, m.scope), (16, 1, bit m.tilesAbsent), (17, 1, bit m.isPartial), (18, 1, bit m.overwrote),
    (24, 5, m.field), (32, 32, m.seq), (64, 64, m.startTime), (128, 64, m.startWtc), (192, 32, m.duration), (224, 32, m.bytes),
    (256, 64, m.step), (320, 4, m.sections)])

/-- Bytes of a molt in its place. -/
def moltBytes (m : MoltSlot) (secs : List (Nat × List Nat)) : List Nat :=
  let dir := recsBytes 16 (moltDirectory secs 512)
  bytesOf (moltHeader m) 0 64 ++ dir ++ List.replicate (448 - dir.length) 0 ++ (secs.map (fun x => x.2)).flatten

/-- Keeper Store offset of a slot (R348). -/
def moltBase (n : Nat) : Nat := 0x2000000 + n * 0x1000000

/-- The molt is written into its place with the sections it has. -/
def State.writeMolt (s : State) (r : MoltRun) (isPartial : Bool) (secs : List (Nat × List Nat)) : State :=
  let m : MoltSlot := { r.info with
    isPartial := isPartial, duration := s.now - r.info.startTime, sections := secs.length
    bytes := 512 + (secs.map (fun x => x.2.length)).foldl (· + ·) 0 }
  (s.writeKs (moltBase r.slot) (moltBytes m secs)).placeMolt r m

/-- The ticks a molt may take. -/
def moltBound (r : MoltRun) : Nat := if r.wafer then 200000 else 20000

/-- The molt at the front ends; its domains go on to HELD in the order of R333. DEDUCED: log entry 83; DESIGN CHOICE: log entry 7. -/
def State.moltEnd (s : State) (atBound : Bool) : State :=
  match s.molts.busy with
  | [] => s
  | r :: t =>
    let (secs, s1) := ({ s with molts := { s.molts with busy := t } }).moltSections r
    let (kept, s2) := if atBound then (let (v, u) := s1.free; (secs.take (v % secs.length), u.put .kprHangStatusMoltPartial 0 1)) else (secs, s1)
    let s3 := s2.writeMolt r atBound kept
    (sortBy (fun n => n) r.doms).foldl (fun u n => u.afterMolt (keyDom n)) { s3 with hist := { s3.hist with delta := [] } }

/-- MOLT_DONE (R334). -/
def execMoltDone (s : State) : Host.Outcome State Fault Refusal :=
  .next (match s.molts.busy with
    | r :: _ => if s.now < r.info.startTime + moltBound r then s.moltEnd false else s
    | [] => s)

/-- MOLT_BOUND_REACHED (R348). -/
def execMoltBoundReached (s : State) : Host.Outcome State Fault Refusal :=
  .next (match s.molts.busy with
    | r :: _ => if r.info.startTime + moltBound r ≤ s.now then s.moltEnd true else s
    | [] => s)

/-! ### Copying to flash (R353) -/

/-- The uncopied molt that is oldest, with its slots. -/
def State.moltToCopy (s : State) : Option (Nat × MoltSlot) :=
  (List.range 4).foldl (fun acc n => match s.moltSlot n with
    | some m =>
      if s.moltCopied n || (decide (m.scope = 0) && decide (n % 2 = 1)) || s.molts.noticeDue.contains n then acc
      else match acc with
        | some (_, o) => if serialAfter o.seq m.seq then some (n, m) else acc
        | none => some (n, m)
    | none => acc) none

/-- The copy ends: the flash slots hold the molt, and the second notice goes out (R353, R410). It runs while the window is
open, below history records and anchors. -/
def State.moltCopyDone (s : State) : State :=
  if s.flashOpen && s.hist.staged.isEmpty && !s.anchorDue && s.molts.busy.isEmpty then
    match s.moltToCopy with
    | some (n, m) =>
      let slots := if m.scope = 0 then pairOf n else [n]
      ({ s with molts := { s.molts with flash := slots.foldl (fun t k => Tab.set (fun _ => none) t k (some m)) s.molts.flash } }).sendMsg
        4 0 1 0 0 (moltNotice n true m)
    | none => s
  else s

/-- MOLT_COPY (R353). -/
def execMoltCopy (s : State) : Host.Outcome State Fault Refusal := .next s.moltCopyDone

end Sys2Proof.Machine
end

