-- ==== Sys2Proof/Machine/View.lean ====
section
/-! DEFINITION. What a read of BAR0 returns (16_register_map.md R453 to R467): fields that report what the rest of the state holds,
the 32-bit word at an address, and the tables that are read as windows. -/

namespace Sys2Proof.Machine

/-! ### Fields that report other state -/

/-- Core index of an instance of the core status registers: keeper cores, field cores (R451, R452). -/
def statusCore (F : RF) (i : Nat) : Nat := if F.spec.blk = .keeper then 64 + i else i

/-- An ROS bit of the registers that `p` picks reads 1 (R462). -/
def State.rosSet (s : State) (p : Blk → Nat → Bool) : Bool :=
  s.regs.any (fun e =>
    let F := RF.ofNat (e.1 % 512)
    decide (F.spec.acc = .ros ∧ e.2 ≠ 0) && p F.spec.blk (e.1 / 512 / Nat.max 1 F.spec.count))

/-- KPR_ATTN_FIELDS (R462). -/
def State.attnFields (s : State) : Nat :=
  maskOf 32 (fun f => s.rosSet (fun b u => match b with | .station => u == f | .sentinel => tileField u == f | _ => false))

/-- KPR_ATTN_OTHER (R462). -/
def State.attnOther (s : State) : Nat :=
  pack [(0, 1, bit (s.rosSet (fun b _ => b == .aoi))), (1, 1, bit (s.rosSet (fun b _ => b == .keeper || b == .sem))),
    (2, 1, bit (s.rosSet (fun b _ => b == .host))), (3, 16, maskOf 16 (fun k => s.rosSet (fun b u => b == .warden && u == k)))]

/-- PHASE of KPR_SEC_STATUS (R257). DEDUCED: log entry 43. -/
def State.secPhase (s : State) : Nat :=
  if s.sec.capture.isSome then 1
  else if s.sec.rollback.any (fun r => decide (r.phase = 2)) then 3
  else if s.sec.trickles.isEmpty = false then 2
  else if s.sec.needed then 4 else 0

/-- Hours since the oldest unit's last completed visit (R190). -/
def State.oldestHours (s : State) (f : Nat) : Nat :=
  Nat.min 255 (((s.units f).map (s.visitAge f)).foldl Nat.max 0 / 3600000000)

/-- The slot of the latest molt, the lower of a pair (R360). -/
def State.moltLatest (s : State) : Nat :=
  ((List.range 4).foldl (fun (acc : Option (Nat × Nat)) n => match s.moltSlot n with
    | some m => (match acc with
      | some (_, q) => if serialAfter m.seq q then some (n, m.seq) else acc
      | none => some (n, m.seq))
    | none => acc) none).elim 0 (fun a => a.1)

/-- A copy of a molt to flash is in progress (R353). -/
def State.moltCopying (s : State) : Bool :=
  s.flashOpen && s.hist.staged.isEmpty && !s.anchorDue && s.molts.busy.isEmpty && s.moltToCopy.isSome

/-- A pair of slots holds one wafer-scope molt (R360). -/
def State.moltPaired (s : State) (p : Nat) : Bool :=
  match s.moltSlot (2 * p), s.moltSlot (2 * p + 1) with
  | some a, some b => decide (a.scope = 0) && decide (a.seq = b.seq)
  | _, _ => false

/-- A message waits for the ring (R394). DEDUCED: log entry 43. -/
def State.ringWait (s : State) : Bool :=
  s.attached && (match s.host.outQ with | m :: _ => !(s.busUp && s.ringRoom m.units) | [] => false)

/-- The five classes of R464, microwatts: taps, recovery with securing and fills, replay, self-test, scrub. -/
def State.screenUw (s : State) : List Nat :=
  [s.tapsUw, s.rsfUw, 50000 * s.replayCount, 95000 * s.testCount, 4000 * s.scrubs.length]

/-- Fields that report other state, part 1. -/
def viewTable0 : List (RF × (State → Nat → Nat)) :=
  [(.kprLedgerStatusUsed, fun s _ => s.entries.length),
   (.kprLedgerStatusFull, fun s _ => bit (decide (32768 ≤ s.entries.length))),
   (.kprLedgerStatusFlashPending, fun s _ => bit (!s.hist.staged.isEmpty)),
   (.fstTapStatusEnabled, fun s i => (s.tapsLit i).length),
   (.fstEpStatusInflight, fun s i => (s.fieldEpisodes i).length),
   (.fstEpStatusArmed, fun s i => (s.field i).armed.length),
   (.fstStStatusUnderTest, fun s i => (s.tiles.filter (fun e => decide (tileField e.1 = i) && e.2.underTest)).length),
   (.fstStStatusOldestH, fun s i => s.oldestHours i),
   (.kprStCountUnderTest, fun s _ => s.testCount),
   (.kprStCountLimit, fun s _ => s.testLimit),
   (.kprPackStatusActive, fun s _ => maskOf 16 (fun n => s.st.packs.any (fun p => decide (p.slot = n) && p.active))),
   (.fstRegrowStatusEngine0, fun s i => ((s.engineUser i 0).map (fun r => r.phase % 8)).getD 0),
   (.fstRegrowStatusEngine1, fun s i => ((s.engineUser i 1).map (fun r => r.phase % 8)).getD 0),
   (.fstRegrowStatusQueued, fun s i => (s.queuedRegrows i).length),
   (.fstRegrowStatusFreeSpares, fun s i => s.freeSpares i),
   (.fstRegrowStatusEntries, fun s i => (s.remaps i).length),
   (.kprSecStatusPhase, fun s _ => s.secPhase),
   (.fstEvtStatusDepth, fun s i => s.sliceDepth i),
   (.aoiTickTick, fun s _ => s.now % 2 ^ 48),
   (.aoiTickWraps, fun s _ => s.now / 2 ^ 48),
   (.aoiTimeStatusAnchorPending, fun s _ => bit (s.anchorDue && !s.flashOpen)),
   (.kprWtcWtc, fun s _ => s.wtc),
   (.semFlagsWaiting, fun s i => bit (s.waits.any (fun w => decide (w.counter = i)))),
   (.semFlagsParked, fun s i => bit (s.park.any (fun p => decide (addCounter p.packet = i)))),
   (.kprParkStatusUsed, fun s _ => s.park.length),
   (.lwdLandedLanded, fun s i => s.landed i (s.rf .lwdLandedSelEngine i))]

/-- Fields that report other state, part 2. -/
def viewTable1 : List (RF × (State → Nat → Nat)) :=
  [(.lwdSentSent, fun s i => s.sent i (s.rf .lwdLandedSelEngine i)),
   (.fstMonStatusThermalIn, fun s i => s.inCount i 0 36),
   (.fstMonStatusDroopIn, fun s i => s.inCount i 1 8),
   (.fstMonStatusRoIn, fun s i => s.inCount i 2 4),
   (.fstMonStatusBlind, fun s i => bit (s.blind i)),
   (.fstRoRatioInService, fun s i => bit (s.monIn (i / 4) 2 (i % 4))),
   (.fstTempInService, fun s i => bit (s.monIn (i / 36) 0 (i % 36))),
   (.kprMonStatusFuseWindow, fun s _ => bit s.fuseOpen),
   (.kprMoltStatusLatest, fun s _ => s.moltLatest),
   (.kprMoltStatusValid, fun s _ => maskOf 4 (fun n => (s.moltSlot n).isSome)),
   (.kprMoltStatusCopied, fun s _ => maskOf 4 (fun n => (s.moltSlot n).isSome && s.moltCopied n)),
   (.kprMoltStatusCopying, fun s _ => bit s.moltCopying),
   (.kprMoltStatusPaired, fun s _ => maskOf 2 s.moltPaired),
   (.kprDetachedDepthDepth, fun s _ => s.host.outQ.length),
   (.kprProfileProfile, fun s _ => s.profile),
   (.kprRunRecordRecord, fun s _ => s.runRecord),
   (.hptStatusRingWait, fun s _ => bit s.ringWait),
   (.kprCoreStatusState, fun s i => (s.core (statusCore .kprCoreStatusState i)).run),
   (.fstCoreStatusState, fun s i => (s.core (statusCore .fstCoreStatusState i)).run),
   (.kprCoreStatusSafeSet, fun s i => bit (s.core (statusCore .kprCoreStatusSafeSet i)).safe.isSome),
   (.fstCoreStatusSafeSet, fun s i => bit (s.core (statusCore .fstCoreStatusSafeSet i)).safe.isSome),
   (.kprCoreStatusRestarts, fun s i => (s.core (statusCore .kprCoreStatusRestarts i)).restarts),
   (.fstCoreStatusRestarts, fun s i => (s.core (statusCore .fstCoreStatusRestarts i)).restarts),
   (.kprCoreStatusLast, fun s i => (s.core (statusCore .kprCoreStatusLast i)).lastCause),
   (.fstCoreStatusLast, fun s i => (s.core (statusCore .fstCoreStatusLast i)).lastCause),
   (.kprCoreStatusQueue, fun s i => (s.core (statusCore .kprCoreStatusQueue i)).queue.length)]

/-- Fields that report other state, part 3. -/
def viewTable2 : List (RF × (State → Nat → Nat)) :=
  [(.fstCoreStatusQueue, fun s i => (s.core (statusCore .fstCoreStatusQueue i)).queue.length),
   (.brmIdStepping, fun s _ => s.fuses.stepping),
   (.brmIdFeedId, fun s _ => s.feedId),
   (.kprGradeGrade, fun s _ => s.fuses.grade),
   (.kprGradeClockMaxMhz, fun s _ => s.clockMax),
   (.kprGradeCapMax10w, fun s _ => s.capMax),
   (.kprStatusReady, fun s _ => s.rf .kprBringupStatusReady 0),
   (.kprStatusLaunched, fun s _ => bit s.launch.running),
   (.kprStatusRecovering, fun s _ => bit (decide (s.recState ≠ 0))),
   (.kprStatusHold, fun s _ => s.rf .kprMonStatusHold 0),
   (.kprStatusTripped, fun s _ => s.rf .kprMonStatusTripped 0),
   (.kprStatusDegraded, fun s _ => bit (decide (s.rf .kprFieldsDroppedDropped 0 ≠ 0 ∨ s.portsDown ≠ 0))),
   (.kprStatusAttention, fun s _ => bit (decide (s.attnFields ≠ 0 ∨ s.attnOther ≠ 0))),
   (.kprAttnFieldsFields, fun s _ => s.attnFields),
   (.kprAttnOtherAoi, fun s _ => bits s.attnOther 0 1),
   (.kprAttnOtherKeeper, fun s _ => bits s.attnOther 1 1),
   (.kprAttnOtherHostPort, fun s _ => bits s.attnOther 2 1),
   (.kprAttnOtherWardens, fun s _ => bits s.attnOther 3 16),
   (.kprScreenPowerTaps, fun s _ => deciWatts (s.screenUw.getD 0 0)),
   (.kprScreenPowerRsf, fun s _ => deciWatts (s.screenUw.getD 1 0)),
   (.kprScreenPowerReplay, fun s _ => deciWatts (s.screenUw.getD 2 0)),
   (.kprScreenPowerSelfTest, fun s _ => deciWatts (s.screenUw.getD 3 0)),
   (.kprScreenPower2Scrub, fun s _ => deciWatts (s.screenUw.getD 4 0)),
   (.kprScreenPower2Total, fun s _ => deciWatts (s.screenUw.foldl (· + ·) 0)),
   (.fstIdField, fun _ i => i)]

/-- What the fields that summarise other state report. DEDUCED: log entry 43. -/
def viewTable : List (RF × (State → Nat → Nat)) := viewTable0 ++ viewTable1 ++ viewTable2

/-- The value a field reads as: what the state reports where the register summarises other state, the value held otherwise. -/
def State.view (s : State) (F : RF) (i : Nat) : Nat :=
  match viewTable.find? (fun e => decide (e.1 = F)) with
  | some e => e.2 s i
  | none => s.rf F i

/-! ### Words of the address map (R4, R453) -/

/-- The fields of a block. -/
def blkFields : Blk → List RF
  | .aoi => RF.aoiList | .keeper => RF.keeperList | .host => RF.hostList | .sem => RF.semList
  | .station => RF.stationList | .warden => RF.wardenList | .sentinel => RF.sentinelList

/-- The instance of a field, within its unit, that has a bit in the 32-bit word at an offset, and the place of its lowest bit from
the lowest bit of the word. -/
def fieldIn (F : RF) (off : Nat) : Option (Nat × Int) :=
  let n := if F.spec.stride = 0 then 0 else (off - F.spec.addr) / F.spec.stride
  let p := 8 * (F.spec.addr + F.spec.stride * n) + F.spec.lo
  if n < F.spec.count ∧ p < 8 * off + 32 ∧ 8 * off < p + F.spec.width then some (n, (p : Int) - (8 * off : Nat)) else none

/-- Instance numbering across units. -/
def fieldIndex (F : RF) (u n : Nat) : Nat := u * F.spec.count + n

/-- The fields with a bit in the word at an offset of unit `u`: field, instance, place. -/
def wordFields (b : Blk) (u off : Nat) : List (RF × Nat × Int) :=
  (blkFields b).filterMap (fun F => (fieldIn F off).map (fun x => (F, fieldIndex F u x.1, x.2)))

/-- The bits of a field's value that stand in the word. -/
def wordPart (v : Nat) (d : Int) : Nat := if 0 ≤ d then (v <<< d.toNat) % 2 ^ 32 else bits v (-d).toNat 32

/-- A field's value with its bits in the word replaced. -/
def wordPatch (old width w : Nat) (d : Int) : Nat :=
  if 0 ≤ d then
    let k := Nat.min width (32 - d.toNat)
    (old >>> k) <<< k + bits w d.toNat k
  else
    let j := (-d).toNat
    let k := Nat.min (width - j) 32
    old % 2 ^ j + (bits w 0 k) <<< j + (old >>> (j + k)) <<< (j + k)

/-- What a field returns on a read (R7): a WO field zero. -/
def State.readField (s : State) (F : RF) (i : Nat) : Nat :=
  if F.spec.acc = .wo then 0 else s.view F i % 2 ^ F.spec.width

/-- The word at an offset of a block's unit; what no field holds reads zero (R5, R10). -/
def State.blkWord (s : State) (b : Blk) (u off : Nat) : Nat :=
  (wordFields b u off).foldl (fun a x => a ||| wordPart (s.readField x.1 x.2.1) x.2.2) 0

/-- The register at a word is 64 bits wide and this is its low word (R6). -/
def lowOf64 (b : Blk) (off : Nat) : Bool :=
  (blkFields b).any (fun F =>
    let w := F.spec.lo + F.spec.width
    decide (32 < w ∧ w ≤ 64) && (fieldIn F (off + 4)).any (fun x => decide (F.spec.addr + F.spec.stride * x.1 = off))) ||
  (decide (b = .keeper) && decide (off = 0x10008))

/-! ### Tables read as windows -/

/-- An entry of the copy directory (R258): bytes 0 to 31 of the copy header, STATE 4 for a lost generation. -/
def State.copyEntry (s : State) (n : Nat) : Nat := match s.gen n with | some g => genHeader g % 2 ^ 256 | none => 0

/-- An entry of the Partner Directory (R245). -/
def State.peerEntry (s : State) (n : Nat) : Nat :=
  match s.peerAt n with
  | some p => pack [(0, 15, p.engine), (16, 8, p.feed), (24, 3, p.versions), (27, 2, p.grade), (29, 2, p.state), (32, 2, p.role),
      (34, 1, bit (decide (p.feed = s.feedId))), (35, 2, p.missed), (64, 32, p.reserve), (96, 32, p.seen)]
  | none => 0

/-- A word of the Remap Table (R218, R223). -/
def State.remapWord (s : State) (f n : Nat) : Nat :=
  if s.remapBad.contains (1024 * f + n) then 0
  else match Tab.get (fun _ => none) s.remap (1024 * f + n) with
    | some r => pack [(0, 14, r.logical), (14, 7, r.physCol), (21, 2, r.kind), (23, 1, bit r.tadpole), (24, 1, bit r.copyFill),
        (25, 2, r.epoch), (31, 1, 1)]
    | none => 0

/-- A ledger entry (R42, R43). -/
def State.ledgerEntry (s : State) (n : Nat) : Nat :=
  match Tab.get (fun _ => none) s.ledger.slots n with | some e => entryBits e | none => 0

/-- The MSI-X table and pending bits (R396). -/
def State.msixWord (s : State) (off : Nat) : Nat :=
  if off < 16 then bits s.host.msixEntry (8 * off) 32 else if off = 0x800 then bit s.host.msixPending else 0

/-- Keeper Store offsets of the two paged windows (R454, R455). -/
def State.ksOffset (s : State) (addr : Nat) : Nat := s.rf .kprKsPagePage 0 * 0x400000 + (addr - 0x800000)
def State.frOffset (s : State) (addr : Nat) : Nat := 0x2000000 + s.rf .kprFrPagePage 0 * 0x400000 + (addr - 0xC00000)

/-- Where an address of BAR0 lies: a block with its unit and offset. Windows are none. -/
def addrBlk (a : Nat) : Option (Blk × Nat × Nat) :=
  if a < 0x10000 then some (.aoi, 0, a)
  else if a < 0x20000 then some (.keeper, 0, a)
  else if a < 0x2F000 then some (.host, 0, a)
  else if 0x40000 ≤ a ∧ a < 0x48000 then some (.sem, 0, a)
  else if 0x100000 ≤ a ∧ a < 0x300000 then some (.station, (a - 0x100000) / 0x10000, (a - 0x100000) % 0x10000)
  else if 0x300000 ≤ a ∧ a < 0x310000 then some (.warden, (a - 0x300000) / 0x1000, (a - 0x300000) % 0x1000)
  else none

/-- The registers of a HELD station read zero, FST_RESET_STATUS and the tables of its front apart (R338). DEDUCED: log entry 45. -/
def State.stationBlank (s : State) (u off : Nat) : Bool :=
  decide (s.domState (.station (toFin32 u)) = 2) && decide (off < 0x1000) && !decide (off = 0xA04)

/-- The 32-bit word at an aligned address of BAR0, as it stands (R453). DEDUCED: log entry 45. -/
def State.word (s : State) (a : Nat) : Nat :=
  if 0x10008 ≤ a ∧ a < 0x10010 then bits brmFeatures (8 * (a - 0x10008)) 32
  else if 0x10A80 ≤ a ∧ a < 0x10C00 then bits (s.copyEntry ((a - 0x10A80) / 32)) (8 * ((a - 0x10A80) % 32)) 32
  else if 0x10C00 ≤ a ∧ a < 0x11000 then bits (s.peerEntry ((a - 0x10C00) / 16)) (8 * ((a - 0x10C00) % 16)) 32
  else if 0x2F000 ≤ a ∧ a < 0x30000 then s.msixWord (a - 0x2F000)
  else if 0x400000 ≤ a ∧ a < 0x480000 then bits (s.ledgerEntry ((a - 0x400000) / 16)) (8 * (a % 16)) 32
  else if 0x800000 ≤ a ∧ a < 0xC00000 then readBytes s.ks (s.ksOffset a) 4
  else if 0xC00000 ≤ a ∧ a < 0x1000000 then readBytes s.ks (s.frOffset a) 4
  else match addrBlk a with
    | some (.station, u, off) =>
      if s.stationBlank u off then 0
      else if 0x1000 ≤ off ∧ off < 0x2000 then s.remapWord u ((off - 0x1000) / 4)
      else s.blkWord .station u off
    | some (b, u, off) => s.blkWord b u off
    | none => 0

/-- An access that R4 allows. -/
def accessOk (addr width : Nat) : Bool := decide ((width = 4 ∨ width = 8) ∧ addr % width = 0 ∧ addr + width ≤ 0x1000000)

/-- The address is the low word of a 64-bit register. DEDUCED: log entry 44. -/
def isLow64 (a : Nat) : Bool := match addrBlk a with | some (b, _, off) => lowOf64 b off | none => false

/-! ### Reads, with the latches of R6 and R43 -/

/-- A read of a ledger entry (R43). An 8-byte read of the low half latches the upper half; 4-byte reads follow R6 in each half. DEDUCED: log entry 44. -/
def State.readLedger (s : State) (a width : Nat) : Nat × State :=
  let i := (a - 0x400000) / 16
  let e := s.ledgerEntry i
  if width = 8 then
    if a % 16 = 0 then (e % 2 ^ 64, { s with ledger := { s.ledger with latch := some (i, e / 2 ^ 64) } })
    else match s.ledger.latch with
      | some (j, v) => (if j = i then v else e / 2 ^ 64, { s with ledger := { s.ledger with latch := none } })
      | none => (e / 2 ^ 64, s)
  else if a % 8 = 0 then (s.word a, { s with host := { s.host with latch := some (a, s.word (a + 4)) } })
  else match s.host.latch with
    | some (b, v) => (if b + 4 = a then v else s.word a, { s with host := { s.host with latch := none } })
    | none => (s.word a, s)

/-- The Keeper Store bytes behind a read of a paged window. -/
def State.windowBytes (s : State) (a : Nat) : Option Nat :=
  if 0x800000 ≤ a ∧ a < 0xC00000 then some (s.ksOffset a) else if 0xC00000 ≤ a ∧ a < 0x1000000 then some (s.frOffset a) else none

/-- A read of the Keeper Store; one that meets a poisoned word raises its event, and the value is free (R28). DESIGN CHOICE: log entry 33. -/
def State.readStore (s : State) (off n : Nat) : Nat × State :=
  if s.ksPoisoned off n then (let (v, s1) := s.free; (v % 2 ^ (8 * n), s1.sample 3 locKeeper [.log])) else (readBytes s.ks off n, s)

/-- A read of BAR0 (R4 to R6): the value, and the state with its latch or ACCESS_ERR. R6 speaks of the latch, and does not say whether
each 64-bit register has one: here a single latch serves every register, the ledger's 4-byte reads and every reader. DEDUCED: log entry
44; DESIGN CHOICE: log entry 92. -/
def State.bar0Read (s : State) (a width : Nat) : Nat × State :=
  if accessOk a width = false then (0, s.accessErr)
  else if let some off := s.windowBytes a then s.readStore off width
  else if 0x400000 ≤ a ∧ a < 0x480000 then s.readLedger a width
  else if width = 8 then (s.word a + s.word (a + 4) <<< 32, s)
  else if isLow64 a then (s.word a, { s with host := { s.host with latch := some (a, s.word (a + 4)) } })
  else if 4 ≤ a ∧ isLow64 (a - 4) = true then
    match s.host.latch with
    | some (b, v) => (if b + 4 = a then v else s.word a, { s with host := { s.host with latch := none } })
    | none => (s.word a, s)
  else (s.word a, s)

end Sys2Proof.Machine
end

