-- ==== Sys2Proof/Machine/Bar0.lean ====
section
/-! DEFINITION. Writes to BAR0, register by register (00_scope.md R4 to R13, 16_register_map.md R453 to R457), the
Sentinel access path, and the rows of the register family. -/

namespace Sys2Proof.Machine

/-! ### Sentinel access (R456, R457) -/

/-- Instance of a Sentinel access set. -/
def tsnSet (f n : Nat) : Nat := 2 * f + n

/-- The access ends: ERR, GO clear. -/
def State.tsnEnd (s : State) (i err : Nat) : State := s.puts [(.fstTsnCmdErr, i, err), (.fstTsnCmdGo, i, 0)]

/-- ROW, COLUMN or OFFSET is out of range or not aligned. -/
def State.tsnBad (s : State) (i : Nat) : Bool :=
  decide (120 ≤ s.rf .fstTsnCmdRow i) || decide (120 ≤ s.rf .fstTsnCmdColumn i) || decide (s.rf .fstTsnCmdOffset i % 4 ≠ 0) ||
  (decide (s.rf .fstTsnCmdWide i = 1) && decide (s.rf .fstTsnCmdOffset i % 8 ≠ 0))

/-- GO is set: an access begins, or ends at once with BAD_ADDR. -/
def State.tsnStart (s : State) (i : Nat) : State :=
  let s1 := { s.put .fstTsnCmdGo i 1 with tsnGo := Tab.set (fun _ => 0) s.tsnGo i s.now }
  if s1.tsnBad i then s1.tsnEnd i 1 else s1

/-! ### Fields that a write reaches (R7) -/

/-- The function whose request an ENABLE bit is (R268). -/
def enableOf (F : RF) (i : Nat) : Option Func :=
  if F = .fstTapCtrlEnable then some (.fieldTap (toFin32 i))
  else if F = .fstEpCtrlEnable then some (.fieldEpisode (toFin32 i))
  else if F = .fstScrubCtrlEnable then some (.fieldScrub (toFin32 i))
  else if F = .fstStCtrlEnable then some (.fieldSelfTest (toFin32 i))
  else if F = .lwdDigCtrlEnable then some (.chorus (toFin16 i))
  else if F = .kprSecCtrlEnable then some .securing
  else none

/-- Bits of a base address that read zero (R157, R189, R258). -/
def baseBits (F : RF) : Nat :=
  if F = .kprSecStoreBaseBase then 4096 else if F = .tsnRdtBaseBase ∨ F = .tsnTwBaseBase then 16 else 1

/-- An RW field takes a value. -/
def State.writeRw (s : State) (F : RF) (i v : Nat) : State :=
  match enableOf F i with
  | some fn => s.enableWrite fn v
  | none =>
    if F = .fstTapCtrlRotPeriod then s.rotWrite i v
    else if F = .hptRingHeadHead then s.ringHead v
    else if F = .kprEngineEngine then s.engineWrite v
    else s.put F i (v / baseBits F * baseBits F)

/-- An RW1S field is set, requesting its action. -/
def State.writeAction (s : State) (F : RF) (i : Nat) : State :=
  if F = .tsnTapCtrlInject then s.put F i 1
  else if F = .tsnEpCtrlArm then (if s.armable i then s.commandArm i else s)
  else if F = .tsnStCtrlRun then s.stRun i
  else if F = .kprFwCtrlCommit then s.fwCommit
  else if F = .fstTsnCmdGo then s.tsnStart i
  else s.put F i 1

/-- A field's bits in a word are written (R7): `acts` picks the RW1S fields, which follow the others of their word. -/
def State.writeField (acts : Bool) (w : Nat) (s : State) (x : RF × Nat × Int) : State :=
  let F := x.1
  let part := wordPatch 0 F.spec.width w x.2.2
  match F.spec.acc, acts with
  | .rw, false => s.writeRw F x.2.1 (wordPatch (s.rf F x.2.1) F.spec.width w x.2.2)
  | .w1c, false => s.put F x.2.1 (s.rf F x.2.1 ^^^ (s.rf F x.2.1 &&& part))
  | .rw1s, true => if part = 0 then s else s.writeAction F x.2.1
  | _, _ => s

/-- The word carries a reserved encoding (R13). -/
def reservedWord (b : Blk) (off w : Nat) : Bool :=
  (decide (b = .station ∧ off = 0xB10) && [2, 4, 6, 8, 10].any (fun lo => decide (bits w lo 2 = 3))) ||
  (decide (b = .sentinel ∧ off = 0xA0 ∧ bits w 1 2 = 3))

/-- KPR_RESET_REQ (R333, R337): the Keeper, then compute, then the ports. DEDUCED: log entry 46. -/
def State.resetReq (s : State) (w : Nat) : State :=
  if bits w 24 8 ≠ 0x5A then s.accessErr
  else if s.keeperAwake = false then s
  else
    let s1 := if w.testBit 0 then s.requestKeeper 8 else s
    let s2 := if w.testBit 1 then s1.requestCompute else s1
    (List.range 16).foldl (fun (t : State) k => if w.testBit (k + 2) then t.requestPort k else t) s2

/-- KPR_RECOVER_REQ (R355, R360). -/
def State.recoverReq (s : State) (w : Nat) : State :=
  if bits w 24 8 ≠ 0x5A then s.accessErr
  else if w.testBit 0 ∧ s.keeperAwake = true then s.requestRecovery true none 8 false else s

/-- A write of a Sentinel access set while GO reads 1 (R457). -/
def State.tsnBusy (s : State) (b : Blk) (u off : Nat) : Bool :=
  decide (b = .station ∧ 0x100 ≤ off ∧ off < 0x140 ∧ off % 32 ≠ 4 ∧ off % 32 < 16) &&
  decide (s.rf .fstTsnCmdGo (tsnSet u ((off - 0x100) / 32)) = 1)

/-- A 32-bit write to a block (R5, R7, R13). DEDUCED: log entry 45. -/
def State.writeWord (s : State) (b : Blk) (u off w : Nat) : State :=
  if reservedWord b off w || s.tsnBusy b u off then s.accessErr
  else if b = .keeper ∧ off = 0x11340 then s.resetReq w
  else if b = .keeper ∧ off = 0x11420 then s.recoverReq w
  else if b = .keeper ∧ off = 0x10804 then s.scanWrite w
  else if b = .station ∧ off = 0xA00 then
    (if bits w 24 8 ≠ 0x5A then s.accessErr else if w.testBit 0 then s.requestStation u 8 else s)
  else
    let l := wordFields b u off
    l.foldl (State.writeField true w) (l.foldl (State.writeField false w) s)

/-! ### Windows -/

/-- A load region of R454 takes a write at this Keeper Store offset now. DEDUCED: log entry 84. -/
def State.ksWritable (s : State) (off : Nat) : Bool :=
  (decide (0x1000000 ≤ off ∧ off < 0x1A00000) && !s.launch.running) ||
  (decide (0x1A00000 ≤ off ∧ off < 0x1B00000) && decide (s.rf .kprFwStatusBusy 0 = 0))

/-- A write through the Keeper Store window (R454). DEDUCED: log entry 84. -/
def State.ksWrite (s : State) (a width v : Nat) : State :=
  if s.ksWritable (s.ksOffset a) then s.writeKs (s.ksOffset a) (bytesOf v 0 width) else s.accessErr

/-- A write to the MSI-X table (R396): a pending vector whose mask clears is signalled. DEDUCED: log entry 51. -/
def State.msixWrite (s : State) (off width v : Nat) : State :=
  if off < 16 then
    let e := wordPatch s.host.msixEntry 128 v (-(8 * off : Nat))
    let e := if width = 8 then wordPatch e 128 (v >>> 32) (-(8 * off + 32 : Nat)) else e
    let s1 := { s with host := { s.host with msixEntry := e % 2 ^ 128 } }
    if s1.host.msixPending = true ∧ e.testBit 96 = false then
      { s1 with host := { s1.host with msixPending := false, msixSent := s1.host.msixSent + 1 } }
    else s1
  else s

/-- A write to BAR0 (R4, R5, R43, R454, R455). DEDUCED: log entry 44. -/
def State.bar0Write (s : State) (a width v : Nat) : State :=
  if accessOk a width = false then s.accessErr
  else if 0x2F000 ≤ a ∧ a < 0x30000 then s.msixWrite (a - 0x2F000) width v
  else if 0x400000 ≤ a ∧ a < 0x480000 ∨ 0xC00000 ≤ a then s.accessErr
  else if 0x800000 ≤ a then s.ksWrite a width v
  else match addrBlk a with
    | some (b, u, off) =>
      let s1 := s.writeWord b u off (v % 2 ^ 32)
      if width = 8 then s1.writeWord b u (off + 4) (bits v 32 32) else s1
    | none => s

/-! ### The end of a Sentinel access (R457) -/

/-- Read or write of the Sentinel register. -/
def State.tsnMove (s : State) (i t : Nat) : State :=
  let off := s.rf .fstTsnCmdOffset i
  let wide := decide (s.rf .fstTsnCmdWide i = 1)
  if s.rf .fstTsnCmdWrite i = 1 then
    let v := s.rf .fstTsnDataData i
    let s1 := s.writeWord .sentinel t off (v % 2 ^ 32)
    if wide then s1.writeWord .sentinel t (off + 4) (bits v 32 32) else s1
  else
    s.put .fstTsnDataData i (s.blkWord .sentinel t off + (if wide then s.blkWord .sentinel t (off + 4) <<< 32 else 0))

/-- UNAVAILABLE, the answer, or TIMEOUT after 1,000 ticks; a write that timed out may have taken effect (a free value). DEDUCED: log entry 50; DESIGN CHOICE: log entry 7. -/
def State.tsnDone (s : State) (f n : Nat) (answered : Bool) : State :=
  let i := tsnSet f n
  let t := tileId f (s.rf .fstTsnCmdRow i) (s.rf .fstTsnCmdColumn i)
  let late := decide (Tab.get (fun _ => 0) s.tsnGo i + 1000 ≤ s.now)
  if s.rf .fstTsnCmdGo i = 0 then s
  else if s.dropped f = true ∨ s.domState .compute = 2 ∨ s.domState .compute = 3 then (s.put .fstTsnDataData i 0).tsnEnd i 2
  else if late then
    let (v, s1) := s.free
    let s2 := if v % 2 = 1 ∧ s.rf .fstTsnCmdWrite i = 1 then s1.tsnMove i t else s1
    (s2.put .fstTsnDataData i 0).tsnEnd i 3
  else if answered then (s.tsnMove i t).tsnEnd i 0
  else s

/-! ### Rows -/

/-- The host reads: the value goes out, a poisoned word marked so (R28). -/
def State.hostRead (s : State) (a width : Nat) : State :=
  let r := s.bar0Read a width
  let bad := accessOk a width && (s.windowBytes a).any (fun off => s.ksPoisoned off width)
  { r.2 with out := (if bad then .readPoisoned a else .read a r.1) :: r.2.out }

/-- Nothing of the block answers while the Always-On Island has no power. DEDUCED: log entry 46. -/
def State.powered (s : State) (t : State) : State := if s.boot.aoiOn then t else s

/-- REGISTER_WRITE (R7). -/
def execRegisterWrite (addr width : Nat) (value : BitVec 64) (s : State) : Host.Outcome State Fault Refusal :=
  .next (s.powered (s.bar0Write addr width value.toNat))

/-- LATCHED_LOW_WORD_READ (R6). -/
def execLatchedLowWordRead (addr : Nat) (s : State) : Host.Outcome State Fault Refusal := .next (s.powered (s.hostRead addr 4))

/-- LEDGER_LOW_HALF_READ (R43). -/
def execLedgerLowHalfRead (index : Nat) (s : State) : Host.Outcome State Fault Refusal :=
  .next (s.powered (s.hostRead (0x400000 + 16 * index) 8))

/-- LEDGER_WINDOW_WRITE (R43). -/
def execLedgerWindowWrite (addr width : Nat) (value : BitVec 64) (s : State) : Host.Outcome State Fault Refusal :=
  .next (s.powered (s.bar0Write addr width value.toNat))

/-- KEEPER_STORE_WINDOW_WRITE (R454). -/
def execKeeperStoreWindowWrite (addr width : Nat) (value : BitVec 64) (s : State) : Host.Outcome State Fault Refusal :=
  .next (s.powered (s.bar0Write addr width value.toNat))

/-- FLIGHT_RECORDER_WINDOW_WRITE (R455). -/
def execFlightRecorderWindowWrite (addr width : Nat) (value : BitVec 64) (s : State) : Host.Outcome State Fault Refusal :=
  .next (s.powered (s.bar0Write addr width value.toNat))

/-- REGISTER_ACCESS_TIMEOUT (R341). -/
def execRegisterAccessTimeout (addr : Nat) (s : State) : Host.Outcome State Fault Refusal :=
  .next (s.powered ({ s with out := .read addr 0 :: s.out }.put .kprHangStatusRegTimeout 0 1))

/-- FST_TSN_GO (R457): GO is set again while an access runs only by a write that is discarded. -/
def execFstTsnGo (f : Fin 32) (set : Fin 2) (s : State) : Host.Outcome State Fault Refusal :=
  .next (if s.rf .fstTsnCmdGo (tsnSet f.val set.val) = 1 then s.accessErr else s.tsnStart (tsnSet f.val set.val))

/-- SENTINEL_ACCESS_END (R457). -/
def execSentinelAccessEnd (f : Fin 32) (set : Fin 2) (answered : Bool) (s : State) : Host.Outcome State Fault Refusal :=
  .next (s.tsnDone f.val set.val answered)

end Sys2Proof.Machine
end

