-- ==== Sys2Proof/Machine/Commands.lean ====
section
/-! DEFINITION. Host commands (14_host_port_ndoquel.md R402 to R407): queries, register accesses, switches and semaphores, and the
commands taken from the aperture, checked and applied. -/

namespace Sys2Proof.Machine

/-! ### Queries and registers -/

/-- PING (R404). -/
def State.pingCommand (s : State) (cid : Nat) : State := s.respond 0x03 cid 0 1 (pack [(0, 64, s.wtc), (64, 64, s.now)])

/-- The status block (R404), from byte 16. -/
def State.statusBlock (s : State) : Nat :=
  pack [(0, 4, s.rf .kprBringupStatusStage 0), (4, 1, s.rf .kprBringupStatusReady 0), (5, 1, s.rf .kprBringupStatusHalted 0),
    (8, 8, s.rf .kprHazardH 0), (16, 11, s.rf .kprMonStatusMaxTemp 0), (32, 3, s.recState), (35, 3, s.secPhase),
    (40, 2, s.rf .kprEpochCurrent 0), (42, 1, s.rf .kprEpochDraining 0), (48, 9, s.host.taken.length),
    (64, 32, s.rf .kprFieldsDroppedDropped 0), (96, 15, s.holder), (128, 64, s.rf .kprSecStepStep 0), (192, 64, s.wtc)]

/-- STATUS. -/
def State.statusCommand (s : State) (cid : Nat) : State := s.respond 0x12 cid 0 1 s.statusBlock

/-- REG_READ (R406); WIDTH is 4 or 8. -/
def State.regReadCommand (s : State) (cid a width : Nat) : State :=
  if width ≠ 4 ∧ width ≠ 8 then s.respond 0x10 cid 7 1 0
  else
    let r := s.bar0Read a width
    if accessOk a width then r.2.respond 0x10 cid 0 1 r.1 else r.2.respond 0x10 cid 7 1 0

/-- REG_WRITE (R406): a write that sets ACCESS_ERR is answered BAD_FIELD. -/
def State.regWriteCommand (s : State) (cid a width v : Nat) : State :=
  if width ≠ 4 ∧ width ≠ 8 then s.respond 0x11 cid 7 1 0
  else
    let old := s.rf .hptStatusAccessErr 0
    let s1 := (s.put .hptStatusAccessErr 0 0).bar0Write a width v
    let err := s1.rf .hptStatusAccessErr 0
    (s1.put .hptStatusAccessErr 0 (Nat.max old err)).respond 0x11 cid (if err = 1 then 7 else 0) 1 0

/-! ### Switches and semaphores -/

/-- SWITCH (R407): a write of the function's ENABLE bit, answered with the function's state after it. -/
def State.switchCommand (s : State) (cid code index v : Nat) : State :=
  match funcOf code index with
  | some f => let s1 := s.enableWrite f v; s1.respond 0x32 cid 0 1 (s1.fnState f)
  | none => s.respond 0x32 cid 7 1 0

/-- SEM, OP ADD (R281): the count after the add. DEDUCED: log entry 30. -/
def State.semAddCommand (s : State) (cid c n : Nat) : State :=
  if n = 0 then s.respond 0x40 cid 7 1 0
  else if semPoisoned s c then s.respond 0x40 cid 11 1 0
  else
    (s.semAdd c n).respond 0x40 cid 0 1 (pack [(0, 32, Nat.min (s.rf .semCountCount c + n) 0xFFFFFFFF), (32, 1, bit (addSats s c n))])

/-- SEM, OP SUB (R281). -/
def State.semSubCommand (s : State) (cid c n : Nat) : State :=
  if n = 0 then s.respond 0x40 cid 7 1 0
  else if semPoisoned s c then s.respond 0x40 cid 11 1 0
  else (s.semSub c n).respond 0x40 cid 0 1 (pack [(0, 32, s.rf .semCountCount c - n), (33, 1, bit (subSats s c n))])

/-- SEM_WAIT (R283, R284, R407). -/
def State.semWaitCommand (s : State) (cid c n limit : Nat) (consume : Bool) : State :=
  if n = 0 ∨ limit = 0 ∨ 10000000 < limit then s.respond 0x41 cid 7 1 0
  else if semPoisoned s c then s.respond 0x41 cid 11 1 0
  else if s.rf .semCountCount c < n ∧ s.waitFull (.host cid limit) = true then s.respond 0x41 cid 1 1 0
  else s.semWait ⟨.host cid limit, c, n, consume, s.now⟩

/-! ### Commands taken from the aperture (R388, R402, R403, R405) -/

/-- Fields of a command's payload: low bit and width in the message; none for a reserved opcode. DEDUCED: log entry 47. -/
def commandFields (op : Nat) : Option (List (Nat × Nat)) :=
  if op = 0x01 then some [(128, 64), (192, 17), (224, 5)]
  else if op = 0x02 ∨ op = 0x03 ∨ op = 0x12 ∨ op = 0x62 then some []
  else if op = 0x10 then some [(128, 24), (160, 4)]
  else if op = 0x11 then some [(128, 24), (160, 4), (192, 64)]
  else if op = 0x20 ∨ op = 0x22 then some [(128, 27)]
  else if op = 0x21 then some [(128, 27), (160, 3)]
  else if op = 0x23 ∨ op = 0x24 then some [(128, 5)]
  else if op = 0x30 then some [(128, 1), (256, 256)]
  else if op = 0x31 then some [(128, 15)]
  else if op = 0x32 then some [(128, 4), (135, 6)]
  else if op = 0x40 then some [(128, 12), (144, 1), (160, 32)]
  else if op = 0x41 then some [(128, 12), (144, 1), (160, 64)]
  else if op = 0x50 then some [(128, 19), (160, 2)]
  else if op = 0x51 then some [(128, 64), (192, 32)]
  else if op = 0x60 then some [(128, 64), (192, 1)]
  else if op = 0x61 then some [(128, 128)]
  else if op = 0x63 then some [(128, 3), (136, 5)]
  else if op = 0x70 then some [(128, 2), (256, 256)]
  else none

/-- No reserved bit of the unit is set: PHASE and STATUS are zero, and so is every bit past the header that no field holds. DEDUCED: log entry 47. -/
def commandClean (fields : List (Nat × Nat)) (w : Nat) : Bool :=
  let mask := fields.foldl (fun m x => m ||| (2 ^ x.2 - 1) <<< x.1) 0
  decide (bits w 31 1 = 0) && decide (bits w 96 16 = 0) && decide (bits w 128 384 ||| mask >>> 128 = mask >>> 128)

/-- RESET by DOMAIN and INDEX (R403, R407). -/
def State.resetBody (s : State) (cid dom idx : Nat) : State :=
  if dom = 0 ∧ idx = 0 then ({ s with host := { s.host with resetting := some cid } }).resettingCheck
  else if dom = 1 ∧ idx = 0 then s.resetCommand cid .compute State.requestCompute
  else if dom = 2 then s.resetCommand cid (.station (toFin32 idx)) (fun u => u.requestStation idx 8)
  else if dom = 3 ∧ idx < 16 then s.resetCommand cid (.port (toFin16 idx)) (fun u => u.requestPort idx)
  else s.respond 0x63 cid 7 1 0

/-- RUN_DIGEST by OP (R403). -/
def State.runDigestBody (s : State) (cid op v : Nat) : State :=
  if op = 0 ∧ v = 0 then s.ledgerCommand 0x70 cid 0 0
  else if op = 1 then s.setWeights cid v
  else if op = 2 then s.setInput cid v
  else s.respond 0x70 cid 7 1 0

/-- JOB_KEY by OP (R403). -/
def State.jobKeyBody (s : State) (cid op v : Nat) : State :=
  if op = 0 then s.keyLoad cid v
  else if v = 0 then (s.zeroise s.launch.running).respond 0x30 cid 0 1 0
  else s.respond 0x30 cid 7 1 0

/-- A well-formed unit is applied by its opcode. PACK_PUSH waits for the read of its pack, which its own row brings. DEDUCED: log entries 47, 49. -/
def State.applyBody (s : State) (op cid w : Nat) : State :=
  if op = 0x01 then
    let (_, sq, base, units, versions, msix, force) := attachFields w
    if force then s.attachTakeover cid sq base units versions msix else s.attachPlain cid sq base units versions msix
  else if op = 0x02 then ({ s with host := { s.host with detaching := some cid } }).detachCheck
  else if op = 0x03 then s.pingCommand cid
  else if op = 0x10 then s.regReadCommand cid (bits w 128 24) (bits w 160 4)
  else if op = 0x11 then s.regWriteCommand cid (bits w 128 24) (bits w 160 4) (bits w 192 64)
  else if op = 0x12 then s.statusCommand cid
  else if op = 0x20 then s.ledgerCommand op cid (bits w 128 32) 0
  else if op = 0x21 then s.ledgerCommand op cid (bits w 128 32) (bits w 160 3)
  else if op = 0x22 then s.ledgerCommand op cid (bits w 128 32) 0
  else if op = 0x23 then s.ledgerCommand op cid (bits w 128 5) 0
  else if op = 0x24 then s.ledgerCommand op cid (bits w 128 5) 0
  else if op = 0x30 then s.jobKeyBody cid (bits w 128 1) (bits w 256 256)
  else if op = 0x31 then s.pairCommand cid (bits w 128 15)
  else if op = 0x32 then s.switchCommand cid (bits w 128 4) (bits w 136 5) (bits w 135 1)
  else if op = 0x40 then
    (if w.testBit 144 then s.semSubCommand cid (bits w 128 12) (bits w 160 32) else s.semAddCommand cid (bits w 128 12) (bits w 160 32))
  else if op = 0x41 then s.semWaitCommand cid (bits w 128 12) (bits w 160 32) (bits w 192 32) (w.testBit 144)
  else if op = 0x50 then s.testCommand cid (bits w 128 19) (bits w 160 2)
  else if op = 0x60 then s.launchCommand cid (bits w 128 64) (w.testBit 192)
  else if op = 0x61 then s.rollbackCommand cid (bits w 128 64) (bits w 192 64)
  else if op = 0x62 then s.requestRecovery true (some cid) 8 false
  else if op = 0x63 then s.resetBody cid (bits w 128 3) (bits w 136 5)
  else if op = 0x70 then s.runDigestBody cid (bits w 128 2) (bits w 256 256)
  else s

/-- The command is marked applied: its timeout runs from now (R339). -/
def State.markApplied (s : State) (c : Taken) : State :=
  { s with host := { s.host with taken := s.host.taken.map (fun t => if t = c then { t with applied := true, since := s.now } else t) } }

/-- A DETACH or a RESET of the Keeper waits, and holds back the commands behind it (R388). DEDUCED: log entry 91. -/
def State.holdsBack (s : State) : Bool := s.host.detaching.isSome || s.host.resetting.isSome

/-- One taken command is checked and applied (R388, R398, R402, R403). DEDUCED: log entries 48, 91. -/
def State.applyCommand (s : State) (c : Taken) : State :=
  let w := c.body
  if s.holdsBack = true ∨ s.host.taken.contains c = false ∨ c.applied = true ∨ w = 0 then s
  else if bits w 4 4 ≠ s.rf .hptStatusVersion 0 then s.respond c.opcode c.cid 4 1 0
  else match commandFields c.opcode with
    | none => s.respond c.opcode c.cid 5 1 0
    | some fields =>
      if unitLength w ≠ 1 then s.respond c.opcode c.cid 6 1 0
      else if commandClean fields w = false then s.respond c.opcode c.cid 7 1 0
      else if c.opcode = 0x51 then s
      else if c.opcode = 0x01 then s.applyBody c.opcode c.cid w
      else (s.markApplied c).applyBody c.opcode c.cid w

/-- Taken commands are applied in SEQ order (R388). DEDUCED: log entry 48. -/
def State.applyTaken (s : State) : State := s.host.taken.foldl State.applyCommand s

/-! ### Rows -/

/-- PING. -/
def execPing (cid : BitVec 32) (s : State) : Host.Outcome State Fault Refusal :=
  .next (s.asHost 0x03 cid.toNat (fun t => t.pingCommand cid.toNat))

/-- REG_READ. -/
def execRegRead (cid : BitVec 32) (addr : BitVec 24) (width : BitVec 4) (s : State) : Host.Outcome State Fault Refusal :=
  .next (s.asHost 0x10 cid.toNat (fun t => t.regReadCommand cid.toNat addr.toNat width.toNat))

/-- REG_WRITE. -/
def execRegWrite (cid : BitVec 32) (addr : BitVec 24) (width : BitVec 4) (value : BitVec 64) (s : State) :
    Host.Outcome State Fault Refusal :=
  .next (s.asHost 0x11 cid.toNat (fun t => t.regWriteCommand cid.toNat addr.toNat width.toNat value.toNat))

/-- STATUS. -/
def execStatus (cid : BitVec 32) (s : State) : Host.Outcome State Fault Refusal :=
  .next (s.asHost 0x12 cid.toNat (fun t => t.statusCommand cid.toNat))

/-- SWITCH. -/
def execSwitch (cid : BitVec 32) (function : BitVec 4) (index : BitVec 5) (request : Bool) (s : State) :
    Host.Outcome State Fault Refusal :=
  .next (s.asHost 0x32 cid.toNat (fun t => t.switchCommand cid.toNat function.toNat index.toNat (bit request)))

/-- SEM_ADD. -/
def execSemAdd (cid : BitVec 32) (counter : BitVec 12) (n : BitVec 32) (s : State) : Host.Outcome State Fault Refusal :=
  .next (s.asHost 0x40 cid.toNat (fun t => t.semAddCommand cid.toNat counter.toNat n.toNat))

/-- SEM_SUB. -/
def execSemSub (cid : BitVec 32) (counter : BitVec 12) (n : BitVec 32) (s : State) : Host.Outcome State Fault Refusal :=
  .next (s.asHost 0x40 cid.toNat (fun t => t.semSubCommand cid.toNat counter.toNat n.toNat))

/-- SEM_WAIT. -/
def execSemWait (cid : BitVec 32) (counter : BitVec 12) (n limit : BitVec 32) (s : State) : Host.Outcome State Fault Refusal :=
  .next (s.asHost 0x41 cid.toNat (fun t => t.semWaitCommand cid.toNat counter.toNat n.toNat limit.toNat false))

/-- SEM_WAIT_CONSUME. -/
def execSemWaitConsume (cid : BitVec 32) (counter : BitVec 12) (n limit : BitVec 32) (s : State) : Host.Outcome State Fault Refusal :=
  .next (s.asHost 0x41 cid.toNat (fun t => t.semWaitCommand cid.toNat counter.toNat n.toNat limit.toNat true))

end Sys2Proof.Machine
end

