-- ==== Sys2Proof/Machine/Operands.lean ====
section
/-! DEFINITION. Ixfold cores: what every instruction is written with (15_ixfold_isa.md R416 to R428): registers, immediates,
traps, the next pc, the address space with its loads and stores, and instruction words. -/

namespace Sys2Proof.Machine

/-! ### Operand values (R416, R424) -/

/-- An immediate, sign- or zero-extended to 64 bits. -/
def sext16 (i : BitVec 16) : Word := i.signExtend 64
def zext16 (i : BitVec 16) : Word := i.zeroExtend 64

/-- Word `w` of a descriptor, and the descriptor with that word replaced. -/
def dWord (v : BitVec 256) (w : Nat) : Word := (v >>> (64 * w)).setWidth 64
def dPut (v : BitVec 256) (w : Nat) (x : Word) : BitVec 256 := BitVec.ofNat 256 (pack ((List.range 4).map (fun i =>
  (64 * i, 64, if i = w then x.toNat else (dWord v i).toNat))))

/-- A descriptor from its four words. -/
def dOf (w0 w1 w2 w3 : Nat) : BitVec 256 := BitVec.ofNat 256 (pack [(0, 64, w0), (64, 64, w1), (128, 64, w2), (192, 64, w3)])

/-! ### Instruction words (R421), for TVAL of an illegal instruction -/

def wordR (op rd rs1 rs2 funct : Nat) : Nat := pack [(26, 6, op), (21, 5, rd), (16, 5, rs1), (11, 5, rs2), (0, 11, funct)]
def wordM (op rd rs1 rs2 d ctl : Nat) : Nat := pack [(26, 6, op), (21, 5, rd), (16, 5, rs1), (11, 5, rs2), (8, 3, d), (0, 8, ctl)]

/-! ### Running and the pc (R418, R424) -/

/-- The core is loaded, runs, and is not stalled in an operation. -/
def State.coreRuns (s : State) (c : Nat) : Bool :=
  s.boot.aoiOn && (s.core c).loaded && decide ((s.core c).run = 0) && (s.core c).stall.isNone && (s.core c).ledgerOp.isNone

/-- The target of a branch (R424). -/
def branchTarget (pc : Nat) (off : BitVec 16) : Nat := (BitVec.ofNat 32 pc + (off.signExtend 32) * 4).toNat

/-- An instruction of a running core; a core that does not run executes nothing. DESIGN CHOICE: log entry 6. -/
def State.onCore (s : State) (c : Fin 68) (f : State → Core → State) : Host.Outcome State Fault Refusal :=
  .next (if s.coreRuns c.val then f s (s.core c.val) else s)

/-- A descriptor register is written and the core goes on. -/
def State.writeDesc (s : State) (c d : Nat) (v : BitVec 256) : State := (s.setCore c ((s.core c).setD d v)).goNext c

/-! ### The address space (R419, R420) -/

/-- Where an access of a core goes. -/
inductive CoreAddr where
  | dmem (a : Nat) | store (off : Nat) | register (a : Nat) | fault
deriving DecidableEq, Repr

/-- The range that holds an address, for a read or a write of so many bytes. -/
def coreAddr (a width : Nat) (write : Bool) : CoreAddr :=
  if a < 0x10000 then (if write && decide (0xF000 ≤ a) then .fault else .dmem a)
  else if 0x10000000 ≤ a ∧ a < 0x11000000 then .store (a - 0x10000000)
  else if 0x11000000 ≤ a ∧ a < 0x12000000 then (if write then .fault else .store (a - 0x10000000))
  else if 0x12000000 ≤ a ∧ a < 0x16000000 then (if write then .fault else .store (0x2000000 + (a - 0x12000000)))
  else if 0x20000000 ≤ a ∧ a < 0x20800000 then (if width = 4 ∨ width = 8 then .register (a - 0x20000000) else .fault)
  else .fault

/-- Bytes a core reads, and the state after it (a register read may move a latch). -/
def State.coreRead (s : State) (c : Nat) (p : CoreAddr) (width : Nat) : Nat × State :=
  match p with
  | .dmem a => (readBytes (s.core c).dmem a width, s)
  | .store off => s.readStore off width
  | .register a => s.bar0Read a width
  | .fault => (0, s)

/-- A store; one to the Keeper Store or a register is posted (R420), and takes effect at once in the model (log entry 8). DEDUCED: log entry 8. -/
def State.coreWrite (s : State) (c : Nat) (p : CoreAddr) (width v : Nat) : State :=
  match p with
  | .dmem a => s.setCore c { s.core c with dmem := writeBytes (s.core c).dmem a (bytesOf v 0 width) }
  | .store off => (s.setCore c { s.core c with posted := (s.core c).posted + 1 }).writeKs off (bytesOf v 0 width)
  | .register a => (s.setCore c { s.core c with posted := (s.core c).posted + 1 }).bar0Write a width v
  | .fault => s

/-- The address of a load or store: rs1 + sext(imm). -/
def effAddr (x : Core) (rs1 : BitVec 5) (imm : BitVec 16) : Nat := (x.getX rs1.toNat + sext16 imm).toNat

/-- Misalignment, then an access that R419 or R420 does not allow. -/
def accessTrap (a width : Nat) (write : Bool) : Option Nat :=
  if a % width ≠ 0 then some 2 else if coreAddr a width write = .fault then some 3 else none

/-- A load into a general register, zero-extended. -/
def State.load (s : State) (c rd a width : Nat) : State :=
  match accessTrap a width false with
  | some cause => s.trap c cause a
  | none => let r := s.coreRead c (coreAddr a width false) width; r.2.writeReg c rd (BitVec.ofNat 64 r.1)

/-- A load into a descriptor register. -/
def State.loadDesc (s : State) (c d a : Nat) : State :=
  match accessTrap a 32 false with
  | some cause => s.trap c cause a
  | none => let r := s.coreRead c (coreAddr a 32 false) 32; r.2.writeDesc c d (BitVec.ofNat 256 r.1)

/-- A store: the core goes on once it is issued. -/
def State.store (s : State) (c a width v : Nat) : State :=
  match accessTrap a width true with
  | some cause => s.trap c cause a
  | none => (s.goNext c).coreWrite c (coreAddr a width true) width v

end Sys2Proof.Machine
end

