-- ==== Sys2Proof/Machine/Flags.lean ====
section
/-! DEFINITION. STATUS and FLAGS of manager operations (15_ixfold_isa.md R435 to R438): the result word, who may name what, and the
room for asynchronous operations. -/

namespace Sys2Proof.Machine

/-- STATUS values (R437). -/
def stOk : Nat := 0
def stPending : Nat := 1
def stBusy : Nat := 2
def stRefused : Nat := 3
def stBadArg : Nat := 4
def stNotHere : Nat := 5
def stPoisoned : Nat := 6

/-- A manager operation ends: rd takes STATUS, FLAGS and VALUE, and the core goes on (R435). -/
def State.opEnd (s : State) (c : Nat) (rd : BitVec 5) (status flags value : Nat) : State :=
  s.writeReg c rd.toNat (opResult status flags value)

/-- An operation that also writes a descriptor. -/
def State.opEndD (s : State) (c : Nat) (rd : BitVec 5) (d : Fin 8) (v : BitVec 256) (status value : Nat) : State :=
  (s.setCore c ((s.core c).setD d.val v)).opEnd c rd status 0 value

/-- FLAGS of SEMADD and SEMSUB: bit 0, this operation saturated (R440). -/
def satFlag (b : Bool) : Nat := bit b

/-- A field core names another field (R438). -/
def notHere (c f : Nat) : Bool := !isKeeperCore c && decide (coreField c ≠ f)

/-- Room for one more asynchronous operation (R436). -/
def asyncRoom (x : Core) : Bool := decide (x.async.length < 4)

/-- A ledger key operand (R403): the 32-bit key, with nothing above it. -/
def keyArg (v : Word) : Option UnitKey := if v.toNat < 2 ^ 32 ∧ keyWordOk v.toNat = true then some (wordKey v.toNat) else none

/-- A field core may name the unit of a key: it lies in its own field. -/
def keyNotHere (c : Nat) (k : UnitKey) : Bool := !isKeeperCore c && decide (keyField k ≠ some (coreField c))

/-- Status of counter and n operands (R440): out of range, poisoned, or good. -/
def State.semArg (s : State) (c n : Word) : Option Nat :=
  if 4096 ≤ c.toNat ∨ n = 0 ∨ 2 ^ 32 ≤ n.toNat then some stBadArg
  else if semPoisoned s c.toNat then some stPoisoned else none

end Sys2Proof.Machine
end

