-- ==== Sys2Proof/Machine/CoreAlu.lean ====
section
/-! DEFINITION. Ixfold base instructions on registers: ALU, immediates, shifts, LUI, ORIH, descriptor moves
(15_ixfold_isa.md R423, R424). A core that does not run executes nothing. -/

namespace Sys2Proof.Machine

/-- An ALU instruction: rd takes the operation of rs1 and rs2. -/
def State.alu (s : State) (c rd rs1 rs2 : Nat) (f : Word → Word → Word) : State :=
  s.writeReg c rd (f ((s.core c).getX rs1) ((s.core c).getX rs2))

/-- An immediate instruction: rd takes the operation of rs1. -/
def State.aluImm (s : State) (c rd rs1 : Nat) (f : Word → Word) : State := s.writeReg c rd (f ((s.core c).getX rs1))

/-! ### ALU results (R423) -/

def aluAdd (a b : Word) : Word := a + b
def aluSub (a b : Word) : Word := a - b
def aluAnd (a b : Word) : Word := a &&& b
def aluOr (a b : Word) : Word := a ||| b
def aluXor (a b : Word) : Word := a ^^^ b
def aluSll (a b : Word) : Word := a <<< (b.toNat % 64)
def aluSrl (a b : Word) : Word := a >>> (b.toNat % 64)
def aluSra (a b : Word) : Word := a.sshiftRight (b.toNat % 64)
def aluSlt (a b : Word) : Word := BitVec.ofNat 64 (bit (a.slt b))
def aluSltu (a b : Word) : Word := BitVec.ofNat 64 (bit (a.ult b))
def aluMin (a b : Word) : Word := if a.slt b then a else b
def aluMax (a b : Word) : Word := if a.slt b then b else a
def aluMinu (a b : Word) : Word := if a.ult b then a else b
def aluMaxu (a b : Word) : Word := if a.ult b then b else a
def aluMul (a b : Word) : Word := a * b
def aluMulhu (a b : Word) : Word := BitVec.ofNat 64 (a.toNat * b.toNat / 2 ^ 64)
def aluDivu (a b : Word) : Word := if b = 0 then BitVec.allOnes 64 else BitVec.ofNat 64 (a.toNat / b.toNat)
def aluRemu (a b : Word) : Word := if b = 0 then a else BitVec.ofNat 64 (a.toNat % b.toNat)
def aluAddm61 (a b : Word) : Word := BitVec.ofNat 64 ((a.toNat % p61 + b.toNat % p61) % p61)
def aluMulm61 (a b : Word) : Word := BitVec.ofNat 64 ((a.toNat % p61) * (b.toNat % p61) % p61)

/-! ### ALU rows -/

def execAdd (core : Fin 68) (rd rs1 rs2 : BitVec 5) (s : State) : Host.Outcome State Fault Refusal :=
  s.onCore core (fun t _ => t.alu core.val rd.toNat rs1.toNat rs2.toNat aluAdd)

def execSub (core : Fin 68) (rd rs1 rs2 : BitVec 5) (s : State) : Host.Outcome State Fault Refusal :=
  s.onCore core (fun t _ => t.alu core.val rd.toNat rs1.toNat rs2.toNat aluSub)

def execAnd (core : Fin 68) (rd rs1 rs2 : BitVec 5) (s : State) : Host.Outcome State Fault Refusal :=
  s.onCore core (fun t _ => t.alu core.val rd.toNat rs1.toNat rs2.toNat aluAnd)

def execOr (core : Fin 68) (rd rs1 rs2 : BitVec 5) (s : State) : Host.Outcome State Fault Refusal :=
  s.onCore core (fun t _ => t.alu core.val rd.toNat rs1.toNat rs2.toNat aluOr)

def execXor (core : Fin 68) (rd rs1 rs2 : BitVec 5) (s : State) : Host.Outcome State Fault Refusal :=
  s.onCore core (fun t _ => t.alu core.val rd.toNat rs1.toNat rs2.toNat aluXor)

def execSll (core : Fin 68) (rd rs1 rs2 : BitVec 5) (s : State) : Host.Outcome State Fault Refusal :=
  s.onCore core (fun t _ => t.alu core.val rd.toNat rs1.toNat rs2.toNat aluSll)

def execSrl (core : Fin 68) (rd rs1 rs2 : BitVec 5) (s : State) : Host.Outcome State Fault Refusal :=
  s.onCore core (fun t _ => t.alu core.val rd.toNat rs1.toNat rs2.toNat aluSrl)

def execSra (core : Fin 68) (rd rs1 rs2 : BitVec 5) (s : State) : Host.Outcome State Fault Refusal :=
  s.onCore core (fun t _ => t.alu core.val rd.toNat rs1.toNat rs2.toNat aluSra)

def execSlt (core : Fin 68) (rd rs1 rs2 : BitVec 5) (s : State) : Host.Outcome State Fault Refusal :=
  s.onCore core (fun t _ => t.alu core.val rd.toNat rs1.toNat rs2.toNat aluSlt)

def execSltu (core : Fin 68) (rd rs1 rs2 : BitVec 5) (s : State) : Host.Outcome State Fault Refusal :=
  s.onCore core (fun t _ => t.alu core.val rd.toNat rs1.toNat rs2.toNat aluSltu)

def execMin (core : Fin 68) (rd rs1 rs2 : BitVec 5) (s : State) : Host.Outcome State Fault Refusal :=
  s.onCore core (fun t _ => t.alu core.val rd.toNat rs1.toNat rs2.toNat aluMin)

def execMax (core : Fin 68) (rd rs1 rs2 : BitVec 5) (s : State) : Host.Outcome State Fault Refusal :=
  s.onCore core (fun t _ => t.alu core.val rd.toNat rs1.toNat rs2.toNat aluMax)

def execMinu (core : Fin 68) (rd rs1 rs2 : BitVec 5) (s : State) : Host.Outcome State Fault Refusal :=
  s.onCore core (fun t _ => t.alu core.val rd.toNat rs1.toNat rs2.toNat aluMinu)

def execMaxu (core : Fin 68) (rd rs1 rs2 : BitVec 5) (s : State) : Host.Outcome State Fault Refusal :=
  s.onCore core (fun t _ => t.alu core.val rd.toNat rs1.toNat rs2.toNat aluMaxu)

def execMul (core : Fin 68) (rd rs1 rs2 : BitVec 5) (s : State) : Host.Outcome State Fault Refusal :=
  s.onCore core (fun t _ => t.alu core.val rd.toNat rs1.toNat rs2.toNat aluMul)

def execMulhu (core : Fin 68) (rd rs1 rs2 : BitVec 5) (s : State) : Host.Outcome State Fault Refusal :=
  s.onCore core (fun t _ => t.alu core.val rd.toNat rs1.toNat rs2.toNat aluMulhu)

def execDivu (core : Fin 68) (rd rs1 rs2 : BitVec 5) (s : State) : Host.Outcome State Fault Refusal :=
  s.onCore core (fun t _ => t.alu core.val rd.toNat rs1.toNat rs2.toNat aluDivu)

def execRemu (core : Fin 68) (rd rs1 rs2 : BitVec 5) (s : State) : Host.Outcome State Fault Refusal :=
  s.onCore core (fun t _ => t.alu core.val rd.toNat rs1.toNat rs2.toNat aluRemu)

def execAddm61 (core : Fin 68) (rd rs1 rs2 : BitVec 5) (s : State) : Host.Outcome State Fault Refusal :=
  s.onCore core (fun t _ => t.alu core.val rd.toNat rs1.toNat rs2.toNat aluAddm61)

def execMulm61 (core : Fin 68) (rd rs1 rs2 : BitVec 5) (s : State) : Host.Outcome State Fault Refusal :=
  s.onCore core (fun t _ => t.alu core.val rd.toNat rs1.toNat rs2.toNat aluMulm61)

/-! ### Immediates (R424) -/

def execAddi (core : Fin 68) (rd rs1 : BitVec 5) (imm : BitVec 16) (s : State) : Host.Outcome State Fault Refusal :=
  s.onCore core (fun t _ => t.aluImm core.val rd.toNat rs1.toNat (fun a => a + sext16 imm))

def execAndi (core : Fin 68) (rd rs1 : BitVec 5) (imm : BitVec 16) (s : State) : Host.Outcome State Fault Refusal :=
  s.onCore core (fun t _ => t.aluImm core.val rd.toNat rs1.toNat (fun a => a &&& zext16 imm))

def execOri (core : Fin 68) (rd rs1 : BitVec 5) (imm : BitVec 16) (s : State) : Host.Outcome State Fault Refusal :=
  s.onCore core (fun t _ => t.aluImm core.val rd.toNat rs1.toNat (fun a => a ||| zext16 imm))

def execXori (core : Fin 68) (rd rs1 : BitVec 5) (imm : BitVec 16) (s : State) : Host.Outcome State Fault Refusal :=
  s.onCore core (fun t _ => t.aluImm core.val rd.toNat rs1.toNat (fun a => a ^^^ zext16 imm))

def execSlti (core : Fin 68) (rd rs1 : BitVec 5) (imm : BitVec 16) (s : State) : Host.Outcome State Fault Refusal :=
  s.onCore core (fun t _ => t.aluImm core.val rd.toNat rs1.toNat (fun a => aluSlt a (sext16 imm)))

def execSltiu (core : Fin 68) (rd rs1 : BitVec 5) (imm : BitVec 16) (s : State) : Host.Outcome State Fault Refusal :=
  s.onCore core (fun t _ => t.aluImm core.val rd.toNat rs1.toNat (fun a => aluSltu a (zext16 imm)))

def execOrih (core : Fin 68) (rd rs1 : BitVec 5) (imm : BitVec 16) (s : State) : Host.Outcome State Fault Refusal :=
  s.onCore core (fun t _ => t.aluImm core.val rd.toNat rs1.toNat (fun a => a ||| (zext16 imm <<< 32)))

def execShiftiSll (core : Fin 68) (rd rs1 : BitVec 5) (sh : BitVec 6) (s : State) : Host.Outcome State Fault Refusal :=
  s.onCore core (fun t _ => t.aluImm core.val rd.toNat rs1.toNat (fun a => a <<< sh.toNat))

def execShiftiSrl (core : Fin 68) (rd rs1 : BitVec 5) (sh : BitVec 6) (s : State) : Host.Outcome State Fault Refusal :=
  s.onCore core (fun t _ => t.aluImm core.val rd.toNat rs1.toNat (fun a => a >>> sh.toNat))

def execShiftiSra (core : Fin 68) (rd rs1 : BitVec 5) (sh : BitVec 6) (s : State) : Host.Outcome State Fault Refusal :=
  s.onCore core (fun t _ => t.aluImm core.val rd.toNat rs1.toNat (fun a => a.sshiftRight sh.toNat))

def execLui (core : Fin 68) (rd : BitVec 5) (imm : BitVec 16) (s : State) : Host.Outcome State Fault Refusal :=
  s.onCore core (fun t _ => t.writeReg core.val rd.toNat (sext16 imm <<< 16))

/-! ### Descriptor moves (R424, DX) -/

def execDget (core : Fin 68) (rd : BitVec 5) (d : Fin 8) (w : Fin 4) (s : State) : Host.Outcome State Fault Refusal :=
  s.onCore core (fun t x => t.writeReg core.val rd.toNat (dWord (x.getD d.val) w.val))

def execDput (core : Fin 68) (d : Fin 8) (w : Fin 4) (rs1 : BitVec 5) (s : State) : Host.Outcome State Fault Refusal :=
  s.onCore core (fun t x => t.writeDesc core.val d.val (dPut (x.getD d.val) w.val (x.getX rs1.toNat)))

def execDzero (core : Fin 68) (d : Fin 8) (s : State) : Host.Outcome State Fault Refusal :=
  s.onCore core (fun t _ => t.writeDesc core.val d.val 0)

end Sys2Proof.Machine
end

