-- ==== Sys2Proof/Machine/CoreMem.lean ====
section
/-! DEFINITION. Ixfold loads, stores, branches and jumps (15_ixfold_isa.md R419, R420, R424). -/

namespace Sys2Proof.Machine

/-! ### Loads and stores -/

def execLd (core : Fin 68) (rd rs1 : BitVec 5) (imm : BitVec 16) (s : State) : Host.Outcome State Fault Refusal :=
  s.onCore core (fun t x => t.load core.val rd.toNat (effAddr x rs1 imm) 8)

def execLwu (core : Fin 68) (rd rs1 : BitVec 5) (imm : BitVec 16) (s : State) : Host.Outcome State Fault Refusal :=
  s.onCore core (fun t x => t.load core.val rd.toNat (effAddr x rs1 imm) 4)

def execLbu (core : Fin 68) (rd rs1 : BitVec 5) (imm : BitVec 16) (s : State) : Host.Outcome State Fault Refusal :=
  s.onCore core (fun t x => t.load core.val rd.toNat (effAddr x rs1 imm) 1)

def execDld (core : Fin 68) (d : Fin 8) (rs1 : BitVec 5) (imm : BitVec 16) (s : State) : Host.Outcome State Fault Refusal :=
  s.onCore core (fun t x => t.loadDesc core.val d.val (effAddr x rs1 imm))

def execSd (core : Fin 68) (rs rs1 : BitVec 5) (imm : BitVec 16) (s : State) : Host.Outcome State Fault Refusal :=
  s.onCore core (fun t x => t.store core.val (effAddr x rs1 imm) 8 ((x.getX rs.toNat).toNat % 2 ^ 64))

def execSw (core : Fin 68) (rs rs1 : BitVec 5) (imm : BitVec 16) (s : State) : Host.Outcome State Fault Refusal :=
  s.onCore core (fun t x => t.store core.val (effAddr x rs1 imm) 4 ((x.getX rs.toNat).toNat % 2 ^ 32))

def execSb (core : Fin 68) (rs rs1 : BitVec 5) (imm : BitVec 16) (s : State) : Host.Outcome State Fault Refusal :=
  s.onCore core (fun t x => t.store core.val (effAddr x rs1 imm) 1 ((x.getX rs.toNat).toNat % 2 ^ 8))

def execDst (core : Fin 68) (d : Fin 8) (rs1 : BitVec 5) (imm : BitVec 16) (s : State) : Host.Outcome State Fault Refusal :=
  s.onCore core (fun t x => t.store core.val (effAddr x rs1 imm) 32 (x.getD d.val).toNat)

/-! ### Branches and jumps -/

/-- A branch or jump to a target: the link register takes pc + 4. A target at or past byte 65,536 is the fetch fault of R424, raised
by the branch or jump before it writes (R427). -/
def State.jump (s : State) (c link target : Nat) : State :=
  if target < 65536 then (s.setCore c ((s.core c).setX link (BitVec.ofNat 64 ((s.core c).pc + 4)))).goTo c target
  else s.trap c 4 target

/-- A branch: taken to its target (x0 as link: nothing is written), or the next instruction. -/
def State.branch (s : State) (c ra rb : Nat) (off : BitVec 16) (taken : Word → Word → Bool) : State :=
  let x := s.core c
  if taken (x.getX ra) (x.getX rb) then s.jump c 0 (branchTarget x.pc off) else s.goNext c

def execBeq (core : Fin 68) (ra rb : BitVec 5) (off : BitVec 16) (s : State) : Host.Outcome State Fault Refusal :=
  s.onCore core (fun t _ => t.branch core.val ra.toNat rb.toNat off (fun a b => a == b))

def execBne (core : Fin 68) (ra rb : BitVec 5) (off : BitVec 16) (s : State) : Host.Outcome State Fault Refusal :=
  s.onCore core (fun t _ => t.branch core.val ra.toNat rb.toNat off (fun a b => a != b))

def execBlt (core : Fin 68) (ra rb : BitVec 5) (off : BitVec 16) (s : State) : Host.Outcome State Fault Refusal :=
  s.onCore core (fun t _ => t.branch core.val ra.toNat rb.toNat off (fun a b => a.slt b))

def execBge (core : Fin 68) (ra rb : BitVec 5) (off : BitVec 16) (s : State) : Host.Outcome State Fault Refusal :=
  s.onCore core (fun t _ => t.branch core.val ra.toNat rb.toNat off (fun a b => !a.slt b))

def execBltu (core : Fin 68) (ra rb : BitVec 5) (off : BitVec 16) (s : State) : Host.Outcome State Fault Refusal :=
  s.onCore core (fun t _ => t.branch core.val ra.toNat rb.toNat off (fun a b => a.ult b))

def execBgeu (core : Fin 68) (ra rb : BitVec 5) (off : BitVec 16) (s : State) : Host.Outcome State Fault Refusal :=
  s.onCore core (fun t _ => t.branch core.val ra.toNat rb.toNat off (fun a b => !a.ult b))

def execJal (core : Fin 68) (ra : BitVec 5) (off : BitVec 16) (s : State) : Host.Outcome State Fault Refusal :=
  s.onCore core (fun t x => t.jump core.val ra.toNat (branchTarget x.pc off))

/-- JALR; a target with bits [1:0] nonzero is the misaligned-target trap. -/
def execJalr (core : Fin 68) (rd rs1 : BitVec 5) (imm : BitVec 16) (s : State) : Host.Outcome State Fault Refusal :=
  s.onCore core (fun t x =>
    let a := effAddr x rs1 imm
    if a % 4 ≠ 0 then t.trap core.val 5 a else t.jump core.val rd.toNat a)

end Sys2Proof.Machine
end

