-- ==== Sys2Proof/Machine/CoreSys.lean ====
section
/-! DEFINITION. Ixfold SYS instructions, CSRs, illegal words, waking, the watchdog, restarts and the end of asynchronous operations
(01_architecture.md R17, R18, R30; 15_ixfold_isa.md R422 to R436). -/

namespace Sys2Proof.Machine

/-! ### Illegal words (R422 to R427, R435, R440) -/

/-- funct11 values of the ALU (R423), and CSR numbers with their access (R426). -/
def aluFunct (f : Nat) : Bool := decide (f ≤ 0x0D ∨ 0x10 ≤ f ∧ f ≤ 0x13 ∨ f = 0x20 ∨ f = 0x21)
def csrReadable (n : Nat) : Bool := decide (n ≤ 12)
def csrWritable (n : Nat) : Bool := [3, 4, 5, 11].contains n

/-- Major opcodes that are never assigned or are reserved (R422). -/
def opReserved (op : Nat) : Bool := [0x00, 0x0B, 0x15, 0x17].contains op || decide (0x30 ≤ op)

/-- ctl values that each manager operation takes (R440). -/
def ctlOk (op ctl : Nat) : Bool :=
  if op = 0x16 then decide (ctl ≤ 1) else if op = 0x22 then decide (ctl ≤ 2) else if op = 0x24 then decide (ctl ≤ 1)
  else if op = 0x26 then decide (ctl ≤ 7) else if op = 0x27 ∨ op = 0x28 then decide (ctl ≤ 2) else if op = 0x2B then decide (ctl ≤ 3)
  else if op = 0x2D then decide (ctl = 2 ∨ ctl = 5) else if op = 0x2F then decide (ctl ≤ 1) else decide (ctl = 0)

/-- A word that traps as illegal: a reserved opcode, funct11, sub-operation, CSR or ctl, or a nonzero field that must be zero. DEDUCED: log entry 25. -/
def illegalWord (w : Nat) : Bool :=
  let op := bits w 26 6
  let rd := bits w 21 5
  let rs1 := bits w 16 5
  let rs2 := bits w 11 5
  let fn := bits w 0 11
  let imm := bits w 0 16
  if opReserved op then true
  else if op = 0x01 then !aluFunct fn
  else if op = 0x08 then decide (imm / 256 ≠ 0 ∨ bits imm 6 2 = 3)
  else if op = 0x09 then decide (rs1 ≠ 0)
  else if op = 0x12 ∨ op = 0x13 then decide (8 ≤ rd)
  else if op = 0x14 then decide (bits fn 8 3 ≠ 0 ∨ bits fn 5 1 ≠ 0 ∨ bits fn 6 2 = 3)
  else if op = 0x1E then decide (rs1 ≠ 0)
  else if op = 0x20 then
    let sub := bits fn 6 5
    decide (7 ≤ sub) || (decide (sub = 4) && !csrReadable rs2) || (decide (sub = 5) && !csrWritable rs2)
  else if op = 0x16 ∨ 0x21 ≤ op then !ctlOk op (bits w 0 8)
  else false

/-! ### SYS (R425) -/

/-- KICK: the watchdog period restarts (R17). -/
def State.kick (s : State) (c : Nat) : State := (s.setCore c { s.core c with wdUsed := 0, wdFrom := s.now }).goNext c

/-- SAFE: the shadow takes pc + 4, x1 to x31, d0 to d7, ALARM and TVEC; popped events retire and their places fill (R429, R432). -/
def State.safePoint (s : State) (c : Nat) : State :=
  let x := s.core c
  (s.setCore c (Core.letIn 64 { x with
    safe := some ⟨x.pc + 4, x.x, x.d, x.alarm, x.tvec⟩, queue := x.queue.filter (fun e => !e.popped) })).goNext c

/-- The descriptor of a popped event (R433). -/
def evWords (e : CoreEv) : BitVec 256 :=
  dOf (pack [(0, 4, e.kind), (4, 4, e.cls), (8, 6, e.slot), (14, 1, bit e.notice), (15, 1, bit e.long), (32, 32, e.evseq)]) e.time
    (pack [(0, 19, e.unit), (32, 32, e.id)]) (pack [(0, 8, e.status), (32, 32, e.value)])

/-- The oldest event not yet popped, with the queue in which it is marked popped. -/
def popFirst : List CoreEv → Option (CoreEv × List CoreEv)
  | [] => none
  | e :: t => if e.popped then (popFirst t).map (fun r => (r.1, e :: r.2)) else some (e, { e with popped := true } :: t)

/-- EVPOP (R425, R433). -/
def State.evPop (s : State) (c rd d : Nat) : State :=
  let x := s.core c
  match popFirst x.queue with
  | some (e, q) => (s.setCore c ({ x with queue := q }.setD d (evWords e))).writeReg c rd 1
  | none => (s.setCore c (x.setD d 0)).writeReg c rd 0

/-- ERET: pc ← EPC, INTRAP ← 0; a misaligned EPC is a misaligned target. DEDUCED: log entry 18. -/
def State.eret (s : State) (c : Nat) : State :=
  let x := s.core c
  if x.epc.toNat % 4 ≠ 0 then s.trap c 5 x.epc.toNat
  else (s.setCore c { x with inTrap := false }).goTo c x.epc.toNat

/-- A CSR's value (R426). -/
def csrValue (c : Nat) (x : Core) (n : Nat) : Word :=
  match n with
  | 0 => BitVec.ofNat 64 (pack [(0, 7, c), (7, 1, bit (isKeeperCore c))])
  | 1 => x.cycle
  | 2 => x.instret
  | 3 => x.alarm
  | 4 => x.tvec
  | 5 => x.epc
  | 6 => x.cause
  | 7 => x.tval
  | 8 => BitVec.ofNat 64 ((x.safe.map (fun h => h.pc)).getD 0)
  | 9 => BitVec.ofNat 64 (pack [(0, 8, x.restarts), (8, 4, x.lastCause)])
  | 10 => BitVec.ofNat 64 (pack [(0, 7, (x.queue.filter (fun e => !e.popped)).length),
      (7, 7, (x.queue.filter (fun e => e.popped)).length), (32, 32, x.evSeq)])
  | 11 => BitVec.ofNat 64 (bit x.inTrap)
  | _ => BitVec.ofNat 64 x.async.length

/-- A CSR with a written value; bits that the CSR does not define read zero. DEDUCED: log entry 21. -/
def csrWrite (x : Core) (n : Nat) (v : Word) : Core :=
  match n with
  | 3 => { x with alarm := BitVec.ofNat 64 (pack [(0, 48, v.toNat), (63, 1, v.toNat / 2 ^ 63)]) }
  | 4 => { x with tvec := v }
  | 5 => { x with epc := v }
  | 11 => { x with inTrap := v.toNat.testBit 0 }
  | _ => x

/-- SEND: 32 bytes of mail (R425, R432, R437). -/
def State.sendMail (s : State) (c : Nat) (rd : BitVec 5) (target : Word) (d : BitVec 256) : State :=
  let t := target.toNat
  if 68 ≤ t ∨ (t < 64 ∧ s.dropped (coreField t) = true) then s.opEnd c rd stBadArg 0 0
  else if freeSlot (s.core t).queue = none then s.opEnd c rd stBusy 0 0
  else (s.opEnd c rd stOk 0 0).toCore t ⟨15, 0, 0, false, false, 0, s.now, c, 0, 0, 0, d.toNat, false⟩

/-! ### Waking (R30, R434) -/

/-- A core stopped in WAITEV resumes once a source it names, among those of `only`, is pending. -/
def State.wakeOn (s : State) (c only : Nat) : State :=
  let x := s.core c
  match x.wait with
  | some (rd, mask) =>
    let p := pendingMask x s.now
    if x.run = 1 ∧ p &&& mask &&& only ≠ 0 then
      (s.setCore c { x with run := 0, wait := none, wdFrom := s.now }).writeReg c rd (opResult 0 0 p)
    else s
  | none => s

/-! ### Watchdog and restarts (R17, R18, R430) -/

/-- PERIOD in force, within the range of R17. -/
def State.wdPeriod (s : State) : Nat := clamp 1000 1000000 (s.rf .aoiWdogPeriod 0)

/-- Ticks that the watchdog has counted; it stands still in WAITEV. -/
def State.wdElapsed (s : State) (c : Nat) : Nat :=
  let x := s.core c
  x.wdUsed + (if x.run = 1 then 0 else s.now - x.wdFrom)

/-- The last expiry that counts with one of this core: its own, or any keeper core's for a keeper core (R18). -/
def State.lastExpiry (s : State) (c : Nat) : List Nat :=
  (if isKeeperCore c then [64, 65, 66, 67] else [c]).filterMap (fun k => (s.core k).expiry)

def State.secondExpiry (s : State) (c : Nat) : Bool := (s.lastExpiry c).any (fun t => decide (s.now < t + 1000000))

/-- The core's domain is reset after its molt. -/
def State.resetCoreDomain (s : State) (c : Nat) : State :=
  if isKeeperCore c then s.requestKeeper 3 else s.requestStation (coreField c) 2

/-- The core's expiry is recorded. DEDUCED: log entry 23. -/
def State.noteExpiry (s : State) (c : Nat) : State := s.setCore c { s.core c with expiry := some s.now }

/-- WATCHDOG_EXPIRY (R18): the hang record, then the restart, or the reset of the core's domain at a second expiry. -/
def State.watchdog (s : State) (c : Nat) : State :=
  let x := s.core c
  if s.boot.aoiOn && x.loaded && decide (x.run ≠ 1) && decide (x.run ≠ 3) && decide (s.wdPeriod ≤ s.wdElapsed c) then
    let s1 := s.raiseHang { kind := 2, core := c }
    if s.secondExpiry c then (s1.noteExpiry c).resetCoreDomain c
    else s1.setCore c { (s1.noteExpiry c).core c with run := 3 }
  else s

/-- RESTART [11:8]. -/
def restartCode : RestartCause → Nat
  | .residue => 1
  | .watchdog => 2
  | .imem => 3
  | .dmem => 4

/-- The stalling operation of a core is withdrawn with its instruction. -/
def State.unstall (s : State) (c : Nat) : State :=
  ({ s with waits := s.waits.filter (fun w => match w.owner with | .core k _ a => !(decide (k = c) && !a) | _ => true) }).setCore c
    { s.core c with stall := none, wait := none, ledgerOp := none }

/-- A cold restart is a core load (R416); what the source holds for the core, and its asynchronous operations, go on (R430, R432). DEDUCED: log entry 22. -/
def State.coldRestart (s : State) (c code : Nat) : State :=
  let x := s.core c
  let s1 := (s.unstall c).loadCore c
  s1.setCore c (Core.letIn 64 { s1.core c with
    waiting := x.waiting, async := x.async, expiry := x.expiry, lastCause := code })

/-- A restart from the safe point; with none held, a cold restart (R430). -/
def State.safeRestart (s : State) (c code : Nat) : State :=
  match (s.core c).safe with
  | none => s.coldRestart c code
  | some h =>
    let s1 := s.unstall c
    let x := s1.core c
    s1.setCore c { x with
      pc := h.pc, x := h.x, d := h.d, alarm := h.alarm, tvec := h.tvec, inTrap := false, run := 0
      queue := x.queue.map (fun e => { e with popped := false })
      restarts := Nat.min 255 (x.restarts + 1), lastCause := code, wdUsed := 0, wdFrom := s1.now }

/-- IMEM is reloaded from the image cache. -/
def State.reloadImem (s : State) (c : Nat) : State :=
  s.setCore c { s.core c with imem := loadBytes (fwSegment s.fw.cache (coreSegment c)).1 }

/-- A memory or residue fault stops the core: a class 4 event, counted as an expiry (R430). DEDUCED: log entry 23. -/
def State.coreFault (s : State) (c : Nat) (restart : State → State) : State :=
  let s1 := s.sample 4 (if isKeeperCore c then locKeeper else locStation (coreField c)) [.log]
  if s.secondExpiry c then (s1.noteExpiry c).resetCoreDomain c else restart (s1.noteExpiry c)

/-- CORE_RESTART (R430). A watchdog restart completes the one that WATCHDOG_EXPIRY began. -/
def State.restartCore (s : State) (c : Nat) (cause : RestartCause) : State :=
  let x := s.core c
  if s.boot.aoiOn = false ∨ x.loaded = false then s
  else match cause with
    | .watchdog => if x.run = 3 then s.safeRestart c 2 else s
    | .residue => if x.run = 0 then s.coreFault c (fun t => t.safeRestart c 1) else s
    | .imem => if x.run = 0 then s.coreFault c (fun t => (t.reloadImem c).safeRestart c 3) else s
    | .dmem => if x.run ≠ 3 then s.coreFault c (fun t => t.coldRestart c 4) else s

/-! ### Asynchronous operations (R436) -/

/-- ASYNC_COMPLETION: the operation ends with its final status and leaves what it waited in. DEDUCED: log entry 24. -/
def State.completeAsync (s : State) (c i status value : Nat) : State :=
  match (s.core c).async[i]? with
  | some o =>
    if status = stPending ∨ stPoisoned + 1 < status then s
    else
      let s1 :=
        if o.kind = 14 then { s with waits := s.waits.eraseP (fun w => decide (w.counter = o.id) &&
          (match w.owner with | .core k _ a => decide (k = c) && a | _ => false)) }
        else { s with st := { s.st with
          visits := s.st.visits.map (fun (v : Visit) => if v.tile = o.id ∧ v.owner = .core c then { v with owner := .register } else v)
          orders := s.st.orders.filter (fun q => !decide (q.1 = o.id ∧ q.2.1 = .core c)) } }
      s1.asyncDone c o.major o.kind o.id status value 0
  | none => s

/-! ### Rows -/

def execKick (core : Fin 68) (s : State) : Host.Outcome State Fault Refusal := s.onCore core (fun t _ => t.kick core.val)

def execSafe (core : Fin 68) (s : State) : Host.Outcome State Fault Refusal := s.onCore core (fun t _ => t.safePoint core.val)

def execEvpop (core : Fin 68) (rd : BitVec 5) (d : Fin 8) (s : State) : Host.Outcome State Fault Refusal :=
  s.onCore core (fun t _ => t.evPop core.val rd.toNat d.val)

def execEret (core : Fin 68) (s : State) : Host.Outcome State Fault Refusal := s.onCore core (fun t _ => t.eret core.val)

/-- CSRR; an unlisted number traps as illegal (R426). -/
def execCsrr (core : Fin 68) (rd csr : BitVec 5) (s : State) : Host.Outcome State Fault Refusal :=
  s.onCore core (fun t x =>
    if csrReadable csr.toNat then t.writeReg core.val rd.toNat (csrValue core.val x csr.toNat)
    else t.trap core.val 1 (wordR 0x20 rd.toNat 0 csr.toNat (4 * 64)))

/-- CSRW; an unlisted number, and an RO CSR, trap as illegal (R426). -/
def execCsrw (core : Fin 68) (csr rs1 : BitVec 5) (s : State) : Host.Outcome State Fault Refusal :=
  s.onCore core (fun t x =>
    if csrWritable csr.toNat then (t.setCore core.val (csrWrite x csr.toNat (x.getX rs1.toNat))).goNext core.val
    else t.trap core.val 1 (wordR 0x20 0 rs1.toNat csr.toNat (5 * 64)))

def execSend (core : Fin 68) (rd rs1 : BitVec 5) (d : Fin 8) (s : State) : Host.Outcome State Fault Refusal :=
  s.onCore core (fun t x => t.sendMail core.val rd (x.getX rs1.toNat) (x.getD d.val))

/-- ILLEGAL_INSTRUCTION: TVAL takes the word. A word that is not illegal does not trap here. DEDUCED: log entry 25. -/
def execIllegalInstruction (core : Fin 68) (word : BitVec 32) (s : State) : Host.Outcome State Fault Refusal :=
  s.onCore core (fun t _ => if illegalWord word.toNat then t.trap core.val 1 word.toNat else t)

/-- CORE_WAKE (R30). -/
def execCoreWake (core : Fin 68) (s : State) : Host.Outcome State Fault Refusal := .next (s.wakeOn core.val 0x1FFF)

/-- ALARM_DUE (R426): the ALARM source becomes pending, which wakes a core that waits on it. -/
def execAlarmDue (core : Fin 68) (s : State) : Host.Outcome State Fault Refusal := .next (s.wakeOn core.val 0x400)

def execWatchdogExpiry (core : Fin 68) (s : State) : Host.Outcome State Fault Refusal := .next (s.watchdog core.val)

def execCoreRestart (core : Fin 68) (cause : RestartCause) (s : State) : Host.Outcome State Fault Refusal :=
  .next (s.restartCore core.val cause)

def execAsyncCompletion (core : Fin 68) (index : Nat) (status : BitVec 8) (value : BitVec 32) (s : State) :
    Host.Outcome State Fault Refusal := .next (s.completeAsync core.val index status.toNat value.toNat)

end Sys2Proof.Machine
end

