-- ==== Sys2Proof/Machine/CoreOps.lean ====
section
/-! DEFINITION. Ixfold manager operations (15_ixfold_isa.md R434 to R446). A bad value in an operand register is answered with a
status, and traps only for an encoding that is illegal (R428). -/

namespace Sys2Proof.Machine

/-- An asynchronous operation is accepted: PENDING in rd, and one more outstanding (R436). -/
def State.startAsync (s : State) (c : Nat) (rd : BitVec 5) (o : AsyncOp) : State :=
  (s.setCore c { s.core c with async := (s.core c).async ++ [o] }).opEnd c rd stPending 0 0

/-! ### ARM, TEST, QUAR, REMAP, FILL -/

/-- ARM: a commanded arming (R118); VALUE counts the armed queue after. -/
def State.opArm (s : State) (c : Nat) (rd : BitVec 5) (v : Word) : State :=
  let t := v.toNat
  if tileOk t = false then s.opEnd c rd stBadArg 0 0
  else if notHere c (tileField t) then s.opEnd c rd stNotHere 0 0
  else if s.armable t then
    let s1 := s.commandArm t
    s1.opEnd c rd stOk 0 (s1.field (tileField t)).armed.length
  else s.opEnd c rd stRefused 0 (s.field (tileField t)).armed.length

/-- TEST: an ordered visit, completed by its record (R187). DEDUCED: log entry 73. -/
def State.opTest (s : State) (c : Nat) (rd : BitVec 5) (v : Word) (mode : Nat) : State :=
  let t := v.toNat
  if tileOk t = false then s.opEnd c rd stBadArg 0 0
  else if notHere c (tileField t) then s.opEnd c rd stNotHere 0 0
  else if asyncRoom (s.core c) = false then s.opEnd c rd stBusy 0 0
  else if s.fnOn (.fieldSelfTest (toFin32 (tileField t))) && s.orderable t then
    (s.startAsync c rd ⟨0x22, 13, t⟩).orderVisit t mode (.core c)
  else s.opEnd c rd stRefused 0 0

/-- VALUE of QUAR: what became of the regrowth that the quarantine raised; `before` is the state it raised it in. DEDUCED: log entry 26. -/
def State.quarValue (s before : State) (k : UnitKey) : Nat :=
  match keyTile k with
  | none => 0
  | some t =>
    match before.regrows.find? (fun r => decide (r.failed = t ∧ r.rot = 0)) with
    | some _ => 0
    | none =>
      if (before.logicalOf t).isNone then 0
      else match s.regrows.find? (fun r => decide (r.failed = t ∧ r.rot = 0)) with
        | some r => if r.phase = rgQueued then 3 else 1 + r.engine
        | none => 4

/-- An operation that writes or reads the ledger stalls its core until the tick applies it (R51, R52): 0 QUERY, 1 UPDATE, 2 ADD, 3 QUAR. -/
def State.lodge (s : State) (c kind : Nat) (rd : BitVec 5) (d : Nat) (k : UnitKey) (arg : Nat) : State :=
  s.setCore c { s.core c with ledgerOp := some ⟨kind, k, arg, rd.toNat, d, none⟩ }

/-- QUAR: the firmware update SUSPECT to QUARANTINED (R48, R49). -/
def State.opQuar (s : State) (c : Nat) (rd : BitVec 5) (v : Word) : State :=
  match keyArg v with
  | none => s.opEnd c rd stBadArg 0 0
  | some k => s.lodge c 3 rd 0 k 0

/-- REMAP: the answer to a regrowth in REFUSED (R209). DEDUCED: log entry 20. -/
def State.opRemap (s : State) (c : Nat) (rd : BitVec 5) (v : Word) (answer : State → Regrowth → State) : State :=
  let l := v.toNat
  if logicalOk l = false then s.opEnd c rd stBadArg 0 0
  else if notHere c (tileField l) then s.opEnd c rd stNotHere 0 0
  else match s.regrowAt l [rgRefused] with
    | some r => (answer s r).opEnd c rd stOk 0 0
    | none => s.opEnd c rd stRefused 0 0

/-- An engine's lane of FILL, and a queued regrowth's (R442). -/
def engineLane : Option Regrowth → Nat
  | some r => pack [(0, 19, r.logical), (19, 3, r.phase), (22, 1, bit r.copyFill)]
  | none => 0

def queueLane : Option Regrowth → Nat
  | some r => pack [(0, 19, r.logical), (31, 1, 1)]
  | none => 0

/-- FILL's descriptor (R442). -/
def State.fillLanes (s : State) (f : Nat) : BitVec 256 :=
  let q := s.queuedRegrows f
  BitVec.ofNat 256 (pack ([(0, 32, engineLane (s.engineUser f 0)), (32, 32, engineLane (s.engineUser f 1)),
    (64, 32, pack [(0, 4, q.length), (4, 9, s.freeSpares f)])] ++ (List.range 5).map (fun i => (96 + 32 * i, 32, queueLane q[i]?))))

/-- FILL -/
def State.opFill (s : State) (c : Nat) (rd : BitVec 5) (d : Fin 8) (v : Word) : State :=
  let f := v.toNat
  if 32 ≤ f then s.opEnd c rd stBadArg 0 0
  else if notHere c f then s.opEnd c rd stNotHere 0 0
  else s.opEndD c rd d (s.fillLanes f) stOk (s.queuedRegrows f).length

/-! ### SECURE -/

/-- The step that a SECURE entry names; 0 stands for the next boundary. -/
def State.stepOf (s : State) (n : Nat) : Nat := if n = 0 then s.rf .kprSecStepStep 0 + 1 else n

/-- SECURE: names a boundary for reason firmware; masks of one boundary combine (R234, R445). DEDUCED: log entry 29. -/
def State.opSecure (s : State) (c : Nat) (rd : BitVec 5) (v : Word) (layers : Nat) : State :=
  let n := v.toNat
  if isKeeperCore c = false then s.opEnd c rd stNotHere 0 0
  else if s.fnOn .securing = false ∨ s.rf .kprSecCtrlMapValid 0 = 0 ∨ (n ≠ 0 ∧ n ≤ s.rf .kprSecStepStep 0) then
    s.opEnd c rd stRefused 0 0
  else
    let steps := dedup (s.sec.named.map (fun e => s.stepOf e.1))
    if 4 ≤ steps.length ∧ steps.contains (s.stepOf n) = false then s.opEnd c rd stBusy 0 0
    else ({ s with sec := { s.sec with named := s.sec.named ++ [(n, if layers = 0 then 8 else layers)] } }).opEnd c rd stOk 0 0

/-! ### DIGEST (R443) -/

/-- A range of bytes that DIGEST and CROAK may read: DMEM or the Keeper Store. DEDUCED: log entry 28. -/
def sourceOk (a n : Nat) : Bool :=
  decide (a + n ≤ 0x10000) || decide (0x10000000 ≤ a ∧ a + n ≤ 0x16000000)

/-- The bytes of a source, and the state after their read. DEDUCED: log entry 28. -/
def State.sourceBytes (s : State) (c a n : Nat) : Nat × State := s.coreRead c (coreAddr a 1 false) n

/-- 32-bit words of a value, in the word view (R134). -/
def wordView (v n : Nat) : List Int := (List.range (n / 4)).map (fun i => ((bits v (32 * i) 32 : Nat) : Int))

/-- DIGEST: the request is replaced by the digest of its source; `kind` is ctl. DEDUCED: log entry 28. -/
def State.opDigest (s : State) (c : Nat) (rd : BitVec 5) (d : Fin 8) (kind : Nat) : State :=
  let v := (s.core c).getD d.val
  let a := (dWord v 0).toNat
  let n := (dWord v 1).toNat
  let sd := (dWord v 2).toNat
  if isKeeperCore c = false then s.opEnd c rd stNotHere 0 0
  else if n = 0 ∨ 1048576 < n ∨ sourceOk a n = false ∨ dWord v 3 ≠ 0 ∨ (kind = 2 ∧ (n % 4 ≠ 0 ∨ 2 ^ 61 ≤ sd)) then
    s.opEnd c rd stBadArg 0 0
  else
    let (src, s1) := s.sourceBytes c a n
    if kind = 2 then s1.opEndD c rd d (BitVec.ofNat 256 (pldAt (if sd ≤ 1 then 2 else sd) 0 (wordView src n))) stOk 0
    else if kind = 0 then s1.opEndD c rd d (BitVec.ofNat 256 (shaNat (bytesOf src 0 n))) stOk 0
    else match s.jobKey with
      | some key => s1.opEndD c rd d (BitVec.ofNat 256 (hmacNat key (bytesOf src 0 n))) stOk 0
      | none => s.opEnd c rd stRefused 0 0

/-! ### LEDGER (R444) -/

/-- The descriptor of a LEDGER operation: the entry, LAST_SEEN, DETECTIONS, detections in the window. -/
def State.ledgerWords (s : State) (k : UnitKey) : BitVec 256 :=
  let e := s.entryOf k
  match s.histOf k with
  | some r => dOf (bits e 0 64) (bits e 64 64) r.lastSeen (pack [(0, 16, r.detections), (16, 16, recentDets s.now r)])
  | none => dOf (bits e 0 64) (bits e 64 64) 0 0

/-- A LEDGER operation is issued; a bad key is answered BAD_ARG with an empty entry. DEDUCED: log entry 20. -/
def State.opLedger (s : State) (c kind : Nat) (rd : BitVec 5) (d : Fin 8) (v : Word) (arg : Nat) : State :=
  match keyArg v with
  | none => s.opEndD c rd d 0 stBadArg 0
  | some k => s.lodge c kind rd d.val k arg

/-- A firmware update of an entry: SUSPECT to QUARANTINED is the one that R48 lists, and the entry must be in the state expected (R49).
DEDUCED: log entry 26. -/
def State.firmwareUpdate (s : State) (k : UnitKey) (expect new : Nat) : Nat × State :=
  match s.findEntry k with
  | some (i, e) => if e.state = 0 ∧ expect = 0 ∧ new = 1 then (stOk, s.firmwareQuarantine i e) else (stRefused, s)
  | none => (stRefused, s)

/-- Causes that ADD does not take (R444). -/
def addExcluded : List Nat := [0x060, 0x061, 0x051, 0x050, 0x070, 0x071]

/-- ADD: one detection of origin runtime. -/
def State.firmwareAdd (s : State) (k : UnitKey) (arg : Nat) : Nat × State :=
  let cause := bits arg 0 12
  if causeKnown cause = false ∨ addExcluded.contains cause = true ∨ causeKind cause ≠ k.kind then (stBadArg, s)
  else (stOk, s.applyDetect k cause 2)

/-- What an operation does to the ledger: its status, VALUE, and the state after. -/
def State.ledgerEffect (s : State) (c : Nat) (o : LedgerOp) : Nat × Nat × State :=
  if keyNotHere c o.key then (stNotHere, 0, s)
  else if o.kind = 1 then let (st, t) := s.firmwareUpdate o.key (bits o.arg 0 3) (bits o.arg 3 3); (st, 0, t)
  else if o.kind = 2 then let (st, t) := s.firmwareAdd o.key o.arg; (st, 0, t)
  else if o.kind = 3 then let (st, t) := s.firmwareUpdate o.key 0 1; (st, if st = stOk then t.quarValue s o.key else 0, t)
  else (stOk, 0, s)

/-- The ledger operation of a core takes effect; its answer waits for the other writes of the tick (R52). A core that the write itself
resets is answered nothing. -/
def State.firmwareWrite (s : State) (c : Nat) : State :=
  match (s.core c).ledgerOp with
  | some o =>
    let (st, v, t) := s.ledgerEffect c o
    if (t.core c).ledgerOp = some o then t.setCore c { t.core c with ledgerOp := some { o with done := some (st, v) } } else t
  | none => s

/-- The operation of a core completes (R444). -/
def State.firmwareAnswer (s : State) (c : Nat) : State :=
  match (s.core c).ledgerOp with
  | some o =>
    match o.done with
    | some (st, v) =>
      let t := s.setCore c { s.core c with ledgerOp := none }
      if o.kind = 3 then t.opEnd c (BitVec.ofNat 5 o.rd) st 0 v
      else t.opEndD c (BitVec.ofNat 5 o.rd) ⟨o.d % 8, Nat.mod_lt _ (by decide)⟩ (t.ledgerWords o.key) st v
    | none => s
  | none => s

/-- The cores in the order of R261: the Keeper's, then those of the fields. -/
def coreOrder : List Nat := [64, 65, 66, 67] ++ List.range 64

/-- The firmware's ledger operations of the tick, and their answers. DEDUCED: log entry 26. -/
def State.firmwareWrites (s : State) : State := coreOrder.foldl State.firmwareWrite s
/-- DEDUCED: log entry 26. -/
def State.firmwareAnswers (s : State) : State := coreOrder.foldl State.firmwareAnswer s

/-! ### Semaphores -/

/-- DEDUCED: log entries 20, 30. -/
def State.opSemadd (s : State) (c : Nat) (rd : BitVec 5) (a n : Word) : State :=
  match s.semArg a n with
  | some st => s.opEnd c rd st 0 0
  | none =>
    let m := Nat.min 0xFFFFFFFF (s.rf .semCountCount a.toNat + n.toNat)
    (s.opEnd c rd stOk (satFlag (addSats s a.toNat n.toNat)) m).semAdd a.toNat n.toNat

/-- DEDUCED: log entry 20. -/
def State.opSemsub (s : State) (c : Nat) (rd : BitVec 5) (a n : Word) : State :=
  match s.semArg a n with
  | some st => s.opEnd c rd st 0 0
  | none =>
    let s1 := s.semSub a.toNat n.toNat
    s1.opEnd c rd stOk (satFlag (subSats s a.toNat n.toNat)) (s1.rf .semCountCount a.toNat)

/-- SEMWAIT: the core stalls until the wait ends, or goes on at once with PENDING. A stalling wait that finds its table full does
not issue (R284). DEDUCED: log entries 19, 20. -/
def State.opSemwait (s : State) (c : Nat) (rd : BitVec 5) (a n : Word) (consume async : Bool) : State :=
  match s.semArg a n with
  | some st => s.opEnd c rd st 0 0
  | none =>
    let w : SemWait := ⟨.core c rd.toNat async, a.toNat, n.toNat, consume, s.now⟩
    if async then
      if asyncRoom (s.core c) = false ∨ s.waitFull w.owner = true then s.opEnd c rd stBusy 0 0
      else (s.startAsync c rd ⟨majSemwait, 14, a.toNat⟩).semWait w
    else if s.waitFull w.owner then s
    else (s.setCore c { s.core c with stall := some rd.toNat }).semWait w

/-! ### CROAK, MOLT, TIME, WAITEV -/

/-- Units that a code takes (R446). -/
def croakUnits (code units : Nat) : Bool :=
  if code = 0x0C ∨ code = 0x1D then decide (units = 2)
  else if code = 0x0A ∨ code = 0x14 then decide (1 ≤ units ∧ units ≤ 64)
  else decide (units = 1)

/-- CROAK: the message's bytes from 16 on; the manager writes its header. DEDUCED: log entry 20. -/
def State.opCroak (s : State) (c : Nat) (rd : BitVec 5) (arg buf : Word) (cls : Nat) : State :=
  let code := bits arg.toNat 0 8
  let units := bits arg.toNat 8 7
  let known := if cls = 5 then decide (code = 0 ∧ units = 1) else decide (1 ≤ code ∧ code ≤ 0x23) && croakUnits code units
  if known = false ∨ buf.toNat % 64 ≠ 0 ∨ sourceOk buf.toNat (64 * units) = false then s.opEnd c rd stBadArg 0 0
  else
    let (b, s1) := s.sourceBytes c buf.toNat (64 * units)
    (s1.opEnd c rd stOk 0 0).sendMsg cls code units 0 0 (b / 2 ^ 128)

/-- MOLT: recovery for a poisoned counter, molt CAUSE 7; its poison clears at the next program start (R286, R355). DEDUCED: log entry 20. -/
def State.opMolt (s : State) (c : Nat) (rd : BitVec 5) (v : Word) : State :=
  let n := v.toNat
  if isKeeperCore c = false then s.opEnd c rd stNotHere 0 0
  else if 4096 ≤ n then s.opEnd c rd stBadArg 0 0
  else if semPoisoned s n then
    (({ s with poisonAsked := n :: s.poisonAsked }).opEnd c rd stOk 0 0).requestRecovery false none 7 false
  else s.opEnd c rd stRefused 0 0

/-- TIME of the WTC: a field core's lags by at most 200 warden cycles, by an amount the manual leaves open (a free value). DESIGN CHOICE: log entry 27. -/
def State.opWtc (s : State) (c : Nat) (rd : BitVec 5) : State :=
  if isKeeperCore c then s.writeReg c rd.toNat (BitVec.ofNat 64 s.wtc)
  else
    let (v, s1) := s.free
    s1.writeReg c rd.toNat (BitVec.ofNat 64 (s1.wtc - v % 201))

/-- WAITEV (R434): at once, or the core's clock stops until a named source is pending. DEDUCED: log entry 19. -/
def State.opWaitev (s : State) (c : Nat) (rd : BitVec 5) (v : Word) (poll : Bool) : State :=
  let mask := v.toNat
  let x := s.core c
  let p := pendingMask x s.now
  if 2 ^ 13 ≤ mask ∨ (mask = 0 ∧ poll = false) then s.opEnd c rd stBadArg 0 0
  else if poll ∨ p &&& mask ≠ 0 then s.opEnd c rd stOk 0 p
  else s.setCore c { x with run := 1, wait := some (rd.toNat, mask), wdUsed := x.wdUsed + (s.now - x.wdFrom) }

/-! ### Rows -/

def execArm (core : Fin 68) (rd rs1 : BitVec 5) (s : State) : Host.Outcome State Fault Refusal :=
  s.onCore core (fun t x => t.opArm core.val rd (x.getX rs1.toNat))

/-- TEST; MODE 3 is an illegal encoding. -/
def execTestOperation (core : Fin 68) (rd rs1 : BitVec 5) (mode : BitVec 2) (s : State) : Host.Outcome State Fault Refusal :=
  s.onCore core (fun t x =>
    if mode = 3 then t.trap core.val 1 (wordM 0x22 rd.toNat rs1.toNat 0 0 3)
    else t.opTest core.val rd (x.getX rs1.toNat) mode.toNat)

def execQuar (core : Fin 68) (rd rs1 : BitVec 5) (s : State) : Host.Outcome State Fault Refusal :=
  s.onCore core (fun t x => t.opQuar core.val rd (x.getX rs1.toNat))

def execRemapRetry (core : Fin 68) (rd rs1 : BitVec 5) (s : State) : Host.Outcome State Fault Refusal :=
  s.onCore core (fun t x => t.opRemap core.val rd (x.getX rs1.toNat) (fun u r => u.regrowRetry r))

def execRemapEscalate (core : Fin 68) (rd rs1 : BitVec 5) (s : State) : Host.Outcome State Fault Refusal :=
  s.onCore core (fun t x => t.opRemap core.val rd (x.getX rs1.toNat) (fun u r => u.escalate r (refusalReason r)))

def execFill (core : Fin 68) (rd rs1 : BitVec 5) (d : Fin 8) (s : State) : Host.Outcome State Fault Refusal :=
  s.onCore core (fun t x => t.opFill core.val rd d (x.getX rs1.toNat))

def execSecure (core : Fin 68) (rd rs1 : BitVec 5) (layers : BitVec 3) (s : State) : Host.Outcome State Fault Refusal :=
  s.onCore core (fun t x => t.opSecure core.val rd (x.getX rs1.toNat) layers.toNat)

def execDigestSha256 (core : Fin 68) (rd : BitVec 5) (d : Fin 8) (s : State) : Host.Outcome State Fault Refusal :=
  s.onCore core (fun t _ => t.opDigest core.val rd d 0)

def execDigestHmac (core : Fin 68) (rd : BitVec 5) (d : Fin 8) (s : State) : Host.Outcome State Fault Refusal :=
  s.onCore core (fun t _ => t.opDigest core.val rd d 1)

def execDigestPld61 (core : Fin 68) (rd : BitVec 5) (d : Fin 8) (s : State) : Host.Outcome State Fault Refusal :=
  s.onCore core (fun t _ => t.opDigest core.val rd d 2)

def execLedgerQueryOp (core : Fin 68) (rd rs1 _rs2 : BitVec 5) (d : Fin 8) (s : State) : Host.Outcome State Fault Refusal :=
  s.onCore core (fun t x => t.opLedger core.val 0 rd d (x.getX rs1.toNat) 0)

def execLedgerUpdateOp (core : Fin 68) (rd rs1 rs2 : BitVec 5) (d : Fin 8) (s : State) : Host.Outcome State Fault Refusal :=
  s.onCore core (fun t x => t.opLedger core.val 1 rd d (x.getX rs1.toNat) (x.getX rs2.toNat).toNat)

def execLedgerAddOp (core : Fin 68) (rd rs1 rs2 : BitVec 5) (d : Fin 8) (s : State) : Host.Outcome State Fault Refusal :=
  s.onCore core (fun t x => t.opLedger core.val 2 rd d (x.getX rs1.toNat) (x.getX rs2.toNat).toNat)

def execSemadd (core : Fin 68) (rd rs1 rs2 : BitVec 5) (s : State) : Host.Outcome State Fault Refusal :=
  s.onCore core (fun t x => t.opSemadd core.val rd (x.getX rs1.toNat) (x.getX rs2.toNat))

def execSemsub (core : Fin 68) (rd rs1 rs2 : BitVec 5) (s : State) : Host.Outcome State Fault Refusal :=
  s.onCore core (fun t x => t.opSemsub core.val rd (x.getX rs1.toNat) (x.getX rs2.toNat))

def execSemwait (core : Fin 68) (rd rs1 rs2 : BitVec 5) (async : Bool) (s : State) : Host.Outcome State Fault Refusal :=
  s.onCore core (fun t x => t.opSemwait core.val rd (x.getX rs1.toNat) (x.getX rs2.toNat) false async)

def execSemwaitConsume (core : Fin 68) (rd rs1 rs2 : BitVec 5) (async : Bool) (s : State) : Host.Outcome State Fault Refusal :=
  s.onCore core (fun t x => t.opSemwait core.val rd (x.getX rs1.toNat) (x.getX rs2.toNat) true async)

/-- FENCE: no posted store of the core is outstanding (R441). DEDUCED: log entry 8. -/
def execFence (core : Fin 68) (rd : BitVec 5) (s : State) : Host.Outcome State Fault Refusal :=
  s.onCore core (fun t x => (t.setCore core.val { x with posted := 0 }).opEnd core.val rd stOk 0 0)

/-- CROAK; a class other than 2 and 5 is an illegal encoding. -/
def execCroak (core : Fin 68) (rd rs1 rs2 : BitVec 5) (cls : BitVec 3) (s : State) : Host.Outcome State Fault Refusal :=
  s.onCore core (fun t x =>
    if cls = 2 ∨ cls = 5 then t.opCroak core.val rd (x.getX rs1.toNat) (x.getX rs2.toNat) cls.toNat
    else t.trap core.val 1 (wordM 0x2D rd.toNat rs1.toNat rs2.toNat 0 cls.toNat))

def execMolt (core : Fin 68) (rd rs1 : BitVec 5) (s : State) : Host.Outcome State Fault Refusal :=
  s.onCore core (fun t x => t.opMolt core.val rd (x.getX rs1.toNat))

/-- TIME of the manager (R272). -/
def execTimeManager (core : Fin 68) (rd : BitVec 5) (s : State) : Host.Outcome State Fault Refusal :=
  s.onCore core (fun t _ => t.writeReg core.val rd.toNat (BitVec.ofNat 64 t.now))

def execTimeWtc (core : Fin 68) (rd : BitVec 5) (s : State) : Host.Outcome State Fault Refusal :=
  s.onCore core (fun t _ => t.opWtc core.val rd)

def execWaitev (core : Fin 68) (rd rs1 : BitVec 5) (poll : Bool) (s : State) : Host.Outcome State Fault Refusal :=
  s.onCore core (fun t x => t.opWaitev core.val rd (x.getX rs1.toNat) poll)

end Sys2Proof.Machine
end

