-- ==== Sys2Proof/Machine/Board.lean ====
section
/-! DEFINITION. The block boundary: the I3C target, the test access port, fuses; the memory patrol and the spine; the start and the
drain of switchable functions (01_architecture.md R26 to R29; 09_ticks_order_sync.md R267; 10_sensors.md R311; 17_boundary.md R474,
R477). -/

namespace Sys2Proof.Machine

/-! ### I3C (R477) -/

/-- The 8 status bytes as a tick latches them. While the Keeper is not UP, STAGE and HAZARD keep what they were latched with, and the
temperature is the AOI's. DEDUCED: log entry 31. -/
def State.i3cBytes (s : State) : Nat :=
  let up := s.keeperUp
  let keep := fun (lo w v : Nat) => (lo, w, if up then v else bits s.i3cLatch lo w)
  pack [(0, 1, s.view .kprStatusReady 0), (1, 1, s.view .kprStatusLaunched 0), (2, 1, s.view .kprStatusRecovering 0),
    (3, 1, s.view .kprStatusHold 0), (4, 1, s.view .kprStatusTripped 0), (5, 1, s.view .kprStatusDegraded 0),
    (6, 1, s.view .kprStatusAttention 0), (7, 1, bit up),
    keep 8 4 (s.view .kprBringupStatusStage 0), keep 12 1 (s.view .kprBringupStatusHalted 0), keep 16 8 (s.view .kprHazardH 0),
    (24, 16, ofInt 16 (if up then toInt 11 (s.view .kprMonStatusMaxTemp 0) else s.aoiTemp)),
    (40, 5, s.view .kprMonStatusMaxField 0), (48, 2, s.view .kprGradeGrade 0)]

/-- The target answers, in every reset state, while the Always-On Island has power. DEDUCED: log entry 31. -/
def State.i3cAnswer (s : State) (ack : Bool) (bytes : Nat) : State := s.powered { s with out := .i3c ack bytes :: s.out }

/-- An identity that the manual does not give: a free value of so many bits. DESIGN CHOICE: log entry 7. -/
def State.i3cFree (s : State) (w : Nat) : State :=
  s.powered (let (v, t) := s.free; { t with out := .i3c true (v % 2 ^ w) :: t.out })

/-- A dynamic address is taken by a target that has none. DEDUCED: log entry 31. -/
def State.i3cAssign (s : State) (a : Nat) : State :=
  s.powered (if s.i3cAddr.isNone then { s with i3cAddr := some a, out := .i3c true a :: s.out } else s)

/-! ### Test access port and fuses (R311, R474) -/

/-- The target is open: scan after an accepted SCAN_ENTRY (R188), the fuse interface inside its window (R311). -/
def State.tapOpen (s : State) : TapTarget → Bool
  | .keeperScan => (s.rf .kprStStatusScanTarget 0).testBit 0
  | .wardenScan k => (s.rf .kprStStatusScanTarget 0).testBit (k.val + 1)
  | .fuses => s.fuseOpen

/-- A request: zero in every captured bit where the target is not open; what an open chain captures is a free value. DEDUCED: log entry 32; DESIGN CHOICE: log entry 7. -/
def State.tapRequest (s : State) (t : TapTarget) : State :=
  if s.tapOpen t then (let (v, u) := s.free; { u with out := .jtag v :: u.out }) else { s with out := .jtag 0 :: s.out }

/-- A fuse blow: the unit is listed or unlisted, under a new revision of the map. DEDUCED: log entry 32. -/
def State.blowFuse (s : State) (k : UnitKey) (bad : Bool) (rv : Nat) : State :=
  if s.fuseOpen && keyOk k then
    { s with fuses := { s.fuses with
      revision := rv, bad := if bad then (if s.fuses.bad.contains k then s.fuses.bad else s.fuses.bad ++ [k]) else s.fuses.bad.filter (fun x => decide (x ≠ k)) } }
  else s

/-! ### The memory code (R28, R29) -/

/-- Where an error of a memory is sampled (R259). -/
def memLoc : MemWord → Nat
  | .replayBuffer f _ => locStation f.val
  | .remap f _ => locStation f.val
  | .imem c => if isKeeperCore c.val then locKeeper else locStation (coreField c.val)
  | .dmem c => if isKeeperCore c.val then locKeeper else locStation (coreField c.val)
  | _ => locKeeper

/-- A correctable word: corrected, written back, a correctable error event. DEDUCED: log entry 33. -/
def State.corrected (s : State) (m : MemWord) : State := s.sample 8 (memLoc m) [.hazard 0]

/-- An uncorrectable word: a class 3 event, and what the chapter that owns the memory lays down; a word of the Keeper Store, the Flight
Recorder or a Replay Buffer is marked poisoned (R28). DEDUCED: log entry 33. -/
def State.poisoned (s : State) (m : MemWord) : State :=
  match m with
  | .semaphore c => s.semPoisonSet (c % 4096)
  | .ledger i => (s.sample 3 locKeeper [.log]).rebuildLost i
  | .imem c => s.restartCore c.val .imem
  | .dmem c => s.restartCore c.val .dmem
  | .remap _ _ => s.sample 3 (memLoc m) [.log]
  | .keeperStore _ | .flightRecorder _ | .replayBuffer _ _ => (s.setPoison m).sample 3 (memLoc m) [.log]

/-- The patrol reads a word and applies R28 to what the code finds. -/
def State.patrol (s : State) (m : MemWord) (e : SymbolErrors) : State :=
  match s.eccFind e with
  | (.clean, t) => t
  | (.correctable, t) => t.corrected m
  | (.uncorrectable, t) => t.poisoned m

/-! ### The spine (R20, R26, R219, R220) -/

/-- The Warden that a station relays. -/
def relayed (f : Nat) : Option Nat := if f < 8 then some f else if 24 ≤ f then some (f - 16) else none

/-- The link port of a broken spine link is down for the launch: its partners count it lost. DEDUCED: log entry 34. -/
def State.relayDown (s : State) (f : Nat) : State :=
  match relayed f with
  | some k => (s.linkDown k).puts [(.lwdPortStatusPortUp, k, 0), (.lwdLaneUpUp, k, 0)]
  | none => s

/-- Four resends have failed: a link failure, and the station is unreachable. DEDUCED: log entry 34. -/
def State.stationLost (s : State) (f : Nat) : State :=
  (s.sample 6 (locStation f) [.detect (stationKey f) 0x050 2]).relayDown f

/-- A spine beat with the errors that strike its transmissions in turn, those past the list clean (R26): a corrected beat is counted and
used; an uncorrectable one is discarded and a resend requested, and after four failed resends the station is lost. A beat is delivered
once. DEDUCED: log entry 34. -/
def State.spineBeat (s : State) (f : Nat) : List SymbolErrors → Nat → State
  | [], _ => s.setField f { s.field f with beats := (s.field f).beats + 1 }
  | e :: rest, resends =>
    match s.eccFind e with
    | (.clean, t) => t.setField f { t.field f with beats := (t.field f).beats + 1 }
    | (.correctable, t) => (t.sample 8 (locStation f) [.hazard 0]).setField f { t.field f with beats := (t.field f).beats + 1 }
    | (.uncorrectable, t) => if 4 ≤ resends then t.stationLost f else ({ t with out := .resend f :: t.out }).spineBeat f rest (resends + 1)

/-! ### Switchable functions (R88, R95, R156, R162, R180, R237, R267) -/

/-- The start work of a function is done: the taps of a field have left STARTING; the others have none. DEDUCED: log entry 35. -/
def State.fnStarted (s : State) : Func → Bool
  | .fieldTap f => s.regs.all (fun e => !decide (e.1 % 512 = RF.ctorIdx .tsnTapCtrlState ∧ e.2 = 1 ∧ tileField (e.1 / 512) = f.val))
  | _ => true

/-- What ends a function's DRAINING. DEDUCED: log entry 35. -/
def State.fnDrained (s : State) : Func → Bool
  | .fieldTap f => (s.tapsLit f.val).isEmpty
  | .fieldEpisode f => (s.fieldEpisodes f.val).isEmpty
  | .fieldScrub f => !s.scrubs.any (fun v => decide (tileField v.tile = f.val))
  | .fieldSelfTest f => !s.st.visits.any (fun v => decide (tileField v.tile = f.val))
  | .chorus k => (s.warden k.val).chorus.isEmpty
  | .securing => s.sec.capture.isNone && s.sec.trickles.isEmpty

/-! ### Rows -/

def execI3cPrivateRead (s : State) : Host.Outcome State Fault Refusal := .next (s.i3cAnswer true s.i3cLatch)

def execI3cPrivateWrite (s : State) : Host.Outcome State Fault Refusal := .next (s.i3cAnswer false 0)

/-- ENTDAA. -/
def execEntdaa (address : BitVec 7) (s : State) : Host.Outcome State Fault Refusal := .next (s.i3cAssign address.toNat)

/-- SETDASA, sent to the static address 0x38 + I3C_SA. -/
def execSetdasa (address : BitVec 7) (s : State) : Host.Outcome State Fault Refusal := .next (s.i3cAssign address.toNat)

/-- GETPID: 48 bits. -/
def execGetpid (s : State) : Host.Outcome State Fault Refusal := .next (s.i3cFree 48)

def execGetbcr (s : State) : Host.Outcome State Fault Refusal := .next (s.i3cFree 8)

def execGetdcr (s : State) : Host.Outcome State Fault Refusal := .next (s.i3cFree 8)

def execGetstatus (s : State) : Host.Outcome State Fault Refusal := .next (s.i3cFree 16)

def execTestAccessPortRequest (target : TapTarget) (_shiftIn : BitVec 64) (s : State) : Host.Outcome State Fault Refusal :=
  .next (s.tapRequest target)

def execFuseBlow (key : UnitKey) (bad : Bool) (revision : BitVec 4) (s : State) : Host.Outcome State Fault Refusal :=
  .next (s.blowFuse key bad revision.toNat)

def execMemoryPatrol (word : MemWord) (errors : SymbolErrors) (s : State) : Host.Outcome State Fault Refusal :=
  .next (s.powered (s.patrol word errors))

def execSpineBeatError (f : Fin 32) (attempts : List SymbolErrors) (s : State) : Host.Outcome State Fault Refusal :=
  .next (s.powered (s.spineBeat f.val attempts 0))

/-- FUNCTION_START_DONE: at the first tick after the function entered STARTING. -/
def execFunctionStartDone (fn : Func) (s : State) : Host.Outcome State Fault Refusal :=
  .next (if s.fnState fn = 1 ∧ (s.fn fn).startAt < s.now ∧ s.fnStarted fn = true then s.fnStartDone fn else s)

def execFunctionDrainDone (fn : Func) (s : State) : Host.Outcome State Fault Refusal :=
  .next (if s.fnState fn = 3 ∧ s.fnDrained fn = true then s.fnToOff fn else s)

end Sys2Proof.Machine
end

