-- ==== Sys2Proof/Machine/Tick.lean ====
section
/-! DEFINITION. The tick: AOI_TICK, the order in which sampled events are applied, and what each tick compares
(01_architecture.md R16; 09_ticks_order_sync.md R259 to R264, R271, R275; 13_reproducibility.md; 17_boundary.md R477, R480). -/

namespace Sys2Proof.Machine

/-! ### Applying events -/

/-- What one part of an event does. DEDUCED: log entry 40. -/
def State.applyAct (s : State) (cls : Nat) : EvAct → State
  | .detect k cause origin => s.applyDetect k cause origin
  | .post kind field unit n body notice => s.post cls kind field unit n body notice
  | .croak code units payload => s.croak code units payload
  | .void w => (s.voidCopies w).noSource
  | .hazard _ => { s with hz := { s.hz with ce := s.now :: s.hz.ce } }
  | .portFail k => (s.linkDown k).requestPort k
  | .rollback w => s.requestRollback (some w)
  | .log => s

/-- An event is applied and remembered among the last 4,096 (R350). DEDUCED: log entry 65. -/
def State.applyEv (s : State) (e : Ev) : State :=
  { e.acts.foldl (fun (t : State) a => t.applyAct e.cls a) s with
    evLog := (e :: (e.acts.foldl (fun (t : State) a => t.applyAct e.cls a) s).evLog).take 4096 }

/-- Class order, then the order of R261; equal places keep the order of sampling. DEDUCED: log entry 65. -/
def evPlace (e : Ev) : Nat := e.cls * 2 ^ 40 + e.loc

/-- Rounds of raised events that a tick follows; no chain of the manual's events is as long. DEDUCED: log entry 37. -/
def raisedRounds : Nat := 65536

/-- The events that the application of others has raised belong to their tick, round after round (R480); an episode that ended gives its
verdict once nothing else is raised, the lowest of its reasons (R113). DEDUCED: log entry 37. -/
def State.applyRaised : Nat → State → State
  | 0, s => s
  | n + 1, s =>
    if s.events.isEmpty then (if s.ending.isEmpty then s else s.giveVerdicts.applyRaised n)
    else ((sortBy evPlace s.events).foldl State.applyEv { s with events := [] }).applyRaised n

/-- The part of an event that is a detection, and the rest of it. -/
def EvAct.isDetect : EvAct → Bool
  | .detect _ _ _ => true
  | _ => false

/-- What the tick has sampled is applied in class order, in the tick that samples it (R16, R260): classes 1 to 8, the commands of class 9,
then class 10. The ledger's writes go detections first, then firmware's, then the host's (R51). DEDUCED: log entry 37. -/
def State.applySampled (s : State) : State :=
  let l := (sortBy evPlace s.events).map (fun e => { e with tick := s.now })
  let late := l.filter (fun e => decide (9 ≤ e.cls))
  let s1 := (l.filter (fun e => decide (e.cls < 9))).foldl State.applyEv { s with events := [] }
  let s2 := late.foldl (fun t e => (e.acts.filter EvAct.isDetect).foldl (fun u a => u.applyAct e.cls a) t) s1
  let s3 := s2.firmwareWrites.applyTaken.ledgerWrites
  (late.foldl (fun t e => t.applyEv { e with acts := e.acts.filter (fun a => !a.isDetect) }) s3).applyRaised raisedRounds

/-- Records held back enter a slice that has room, as events of the tick that samples them (R264). DEDUCED: log entry 37. -/
def State.readmit (s : State) : State :=
  s.heldRecs.foldl (fun (t : State) e => t.sample e.cls e.loc e.acts) { s with heldRecs := [] }

/-! ### Time -/

/-- The WTC runs with the warden clock; slewing moves it by 1 ns in ten ticks at most (R275). DEDUCED: log entry 36. -/
def State.wtcTick (s : State) : State :=
  if s.keeperAwake then
    if s.now % 10 = 0 ∧ 10 ≤ s.wtcSlew then { s with wtc := (s.wtc + 1001) % 2 ^ 64, wtcSlew := s.wtcSlew - 10 }
    else if s.now % 10 = 0 ∧ s.wtcSlew ≤ -10 then { s with wtc := (s.wtc + 999) % 2 ^ 64, wtcSlew := s.wtcSlew + 10 }
    else { s with wtc := (s.wtc + 1000) % 2 ^ 64 }
  else s

/-- CYCLE of the cores that run (R426): 1,000 warden cycles a tick. DEDUCED: log entry 36. -/
def State.cycleTick (s : State) : State :=
  (List.range 68).foldl (fun (t : State) c =>
    let x := t.core c
    if x.loaded ∧ x.run = 0 then t.setCore c { x with cycle := x.cycle + 1000 } else t) s

/-! ### AOI_TICK -/

/-- A granted transfer begins. -/
def State.granted (s : State) (a : Ask) : State :=
  match a.what with
  | .capture => s.captureGranted a.owner
  | .load => s.loadGranted a.owner
  | .readout => s.readGranted a.owner
  | .transplant | .move => s.fillGranted a.owner

/-- What has had its time releases what it holds, and the tick's requests for shared resources are arbitrated (R23, R24, R265, R266). -/
def State.grants (s : State) : State :=
  let s1 := s.replaysEnd.endBeats.endFills.endClears.claimSpares
  let (won, s2) := s1.grantRows (s1.episodeAsks ++ s1.fillAsks)
  (won.foldl State.granted s2).securingGrants

/-- The power classes take what is in force now, and what no longer fits its share ends at once (R33 to R35, R90, R113). -/
def State.powerTick (s : State) : State :=
  let s1 := s.takeAllowance.tapTick
  (if s1.replayLimit < s1.replayCount then s1.shedReplay (s1.episodes.length + 1) else s1).scrubTick.withdrawGos

/-- What waits on its conditions is looked at again. -/
def State.tickWork (s : State) : State :=
  s.powerTick.computeTick.overloadTick.applyClosings.resumeOrders.resumeItems.grants.haltAnswered

/-- Queries of the Run Digest (R376). -/
def State.runAnswers (s : State) : State := (s.ledger.cmds.filter (fun c => decide (c.opcode = 0x70))).foldl (fun t c => t.runQuery c.cid) s

/-- The readers are answered after every write of the tick (R52), and a DETACH or RESET that waited for commands is looked at. -/
def State.answers (s : State) : State := s.runAnswers.ledgerAnswers.firmwareAnswers.detachCheck.resettingCheck

/-- The tick: time advances, and the events sampled since the last one are applied; the Keeper applies none while it is HELD. DEDUCED: log entries 36, 38; DESIGN CHOICE: log entry 12. -/
def State.tick (s : State) : State :=
  let s1 := ({ s with now := (s.now + 1) % 2 ^ 64 }).wtcTick.cycleTick
  let s2 := if s1.keeperAwake then (s1.applySampled.tickWork.applyRaised raisedRounds).answers else s1
  let s3 := s2.readmit
  { s3 with i3cLatch := s3.i3cBytes }

/-! ### Rows -/

/-- AOI_TICK; without AOI power there is none. -/
def execAoiTick (s : State) : Host.Outcome State Fault Refusal := .next (s.powered s.tick)

end Sys2Proof.Machine
end

