-- ==== Sys2Proof/Machine/Dispatch.lean ====
section
/-! DEFINITION. What each command does: one arm for each constructor of `Instr`. -/

namespace Sys2Proof.Machine

def exec (i : Instr) (s : State) : Host.Outcome State Fault Refusal :=
  match i with
  | .aoiTick => Sys2Proof.Machine.execAoiTick s
  | .watchdogExpiry core => Sys2Proof.Machine.execWatchdogExpiry core s
  | .powerGoodLoss => Sys2Proof.Machine.execPowerGoodLoss s
  | .brdResetLow => Sys2Proof.Machine.execBrdResetLow s
  | .powerGoodReturn => Sys2Proof.Machine.execPowerGoodReturn s
  | .aoiPowerUp => Sys2Proof.Machine.execAoiPowerUp s
  | .stage0Power feedId i3cSa => Sys2Proof.Machine.execStage0Power feedId i3cSa s
  | .powerUnstable held => Sys2Proof.Machine.execPowerUnstable held s
  | .stage1Fuses readOk => Sys2Proof.Machine.execStage1Fuses readOk s
  | .stage2Keeper passed failTest => Sys2Proof.Machine.execStage2Keeper passed failTest s
  | .stage3Stations only testFails marchFails => Sys2Proof.Machine.execStage3Stations only testFails marchFails s
  | .stage4Tiles fails laneFails => Sys2Proof.Machine.execStage4Tiles fails laneFails s
  | .stage5Ledger => Sys2Proof.Machine.execStage5Ledger s
  | .stage6Training trained => Sys2Proof.Machine.execStage6Training trained s
  | .discoveryEnd => Sys2Proof.Machine.execDiscoveryEnd s
  | .stage7Ready => Sys2Proof.Machine.execStage7Ready s
  | .stageTimeout => Sys2Proof.Machine.execStageTimeout s
  | .portTrainingRetry k lanes => Sys2Proof.Machine.execPortTrainingRetry k lanes s
  | .moltDone => Sys2Proof.Machine.execMoltDone s
  | .moltBoundReached => Sys2Proof.Machine.execMoltBoundReached s
  | .domainRelease dom => Sys2Proof.Machine.execDomainRelease dom s
  | .registerWrite addr width value => Sys2Proof.Machine.execRegisterWrite addr width value s
  | .latchedLowWordRead addr => Sys2Proof.Machine.execLatchedLowWordRead addr s
  | .ledgerLowHalfRead index => Sys2Proof.Machine.execLedgerLowHalfRead index s
  | .ledgerWindowWrite addr width value => Sys2Proof.Machine.execLedgerWindowWrite addr width value s
  | .keeperStoreWindowWrite addr width value => Sys2Proof.Machine.execKeeperStoreWindowWrite addr width value s
  | .flightRecorderWindowWrite addr width value => Sys2Proof.Machine.execFlightRecorderWindowWrite addr width value s
  | .registerAccessTimeout addr => Sys2Proof.Machine.execRegisterAccessTimeout addr s
  | .enableWrite fn request => Sys2Proof.Machine.execEnableWrite fn request s
  | .functionStartDone fn => Sys2Proof.Machine.execFunctionStartDone fn s
  | .functionDrainDone fn => Sys2Proof.Machine.execFunctionDrainDone fn s
  | .functionPendingStart fn => Sys2Proof.Machine.execFunctionPendingStart fn s
  | .kprResetReqKeeper key => Sys2Proof.Machine.execKprResetReqKeeper key s
  | .kprResetReqCompute key => Sys2Proof.Machine.execKprResetReqCompute key s
  | .kprResetReqPort k key => Sys2Proof.Machine.execKprResetReqPort k key s
  | .fstReset f key => Sys2Proof.Machine.execFstReset f key s
  | .kprRecoverReq key => Sys2Proof.Machine.execKprRecoverReq key s
  | .kprScanEntry value => Sys2Proof.Machine.execKprScanEntry value s
  | .scanEntryTimeout => Sys2Proof.Machine.execScanEntryTimeout s
  | .kprFwCommit => Sys2Proof.Machine.execKprFwCommit s
  | .firmwareSlotWrite => Sys2Proof.Machine.execFirmwareSlotWrite s
  | .tsnTapInject tile => Sys2Proof.Machine.execTsnTapInject tile s
  | .tsnEpArm tile => Sys2Proof.Machine.execTsnEpArm tile s
  | .tsnStRun tile => Sys2Proof.Machine.execTsnStRun tile s
  | .fstTsnGo f set => Sys2Proof.Machine.execFstTsnGo f set s
  | .sentinelAccessEnd f set answered => Sys2Proof.Machine.execSentinelAccessEnd f set answered s
  | .kprEngineWrite engine => Sys2Proof.Machine.execKprEngineWrite engine s
  | .identityRecordWrite => Sys2Proof.Machine.execIdentityRecordWrite s
  | .kprAllowanceWrite which value => Sys2Proof.Machine.execKprAllowanceWrite which value s
  | .rotPeriodWrite f period => Sys2Proof.Machine.execRotPeriodWrite f period s
  | .quotaReevaluate f => Sys2Proof.Machine.execQuotaReevaluate f s
  | .hptRingHeadWrite head => Sys2Proof.Machine.execHptRingHeadWrite head s
  | .hostPortLinkReset kind => Sys2Proof.Machine.execHostPortLinkReset kind s
  | .apertureUnitWrite u offset data => Sys2Proof.Machine.execApertureUnitWrite u offset data s
  | .commandTake => Sys2Proof.Machine.execCommandTake s
  | .rejectRange => Sys2Proof.Machine.execRejectRange s
  | .apertureStuck => Sys2Proof.Machine.execApertureStuck s
  | .overload => Sys2Proof.Machine.execOverload s
  | .overloadClear => Sys2Proof.Machine.execOverloadClear s
  | .commandTimeout work => Sys2Proof.Machine.execCommandTimeout work s
  | .eventRingWrite => Sys2Proof.Machine.execEventRingWrite s
  | .msixHoldoffEnd => Sys2Proof.Machine.execMsixHoldoffEnd s
  | .attach cid seq ringBase ringUnits versions msix => Sys2Proof.Machine.execAttach cid seq ringBase ringUnits versions msix s
  | .attachForce cid seq ringBase ringUnits versions msix => Sys2Proof.Machine.execAttachForce cid seq ringBase ringUnits versions msix s
  | .detach cid => Sys2Proof.Machine.execDetach cid s
  | .ping cid => Sys2Proof.Machine.execPing cid s
  | .regRead cid addr width => Sys2Proof.Machine.execRegRead cid addr width s
  | .regWrite cid addr width value => Sys2Proof.Machine.execRegWrite cid addr width value s
  | .status cid => Sys2Proof.Machine.execStatus cid s
  | .ledgerQuery cid key => Sys2Proof.Machine.execLedgerQuery cid key s
  | .ledgerAdd cid key state => Sys2Proof.Machine.execLedgerAdd cid key state s
  | .ledgerFree cid key => Sys2Proof.Machine.execLedgerFree cid key s
  | .ledgerAccept cid field => Sys2Proof.Machine.execLedgerAccept cid field s
  | .ledgerDrop cid field => Sys2Proof.Machine.execLedgerDrop cid field s
  | .jobKeyLoad cid key => Sys2Proof.Machine.execJobKeyLoad cid key s
  | .jobKeyZeroise cid => Sys2Proof.Machine.execJobKeyZeroise cid s
  | .pair cid holder => Sys2Proof.Machine.execPair cid holder s
  | .switch cid function index request => Sys2Proof.Machine.execSwitch cid function index request s
  | .semAdd cid counter n => Sys2Proof.Machine.execSemAdd cid counter n s
  | .semSub cid counter n => Sys2Proof.Machine.execSemSub cid counter n s
  | .semWait cid counter n limit => Sys2Proof.Machine.execSemWait cid counter n limit s
  | .semWaitConsume cid counter n limit => Sys2Proof.Machine.execSemWaitConsume cid counter n limit s
  | .test cid unit mode => Sys2Proof.Machine.execTest cid unit mode s
  | .packPush cid addr length readOk pack => Sys2Proof.Machine.execPackPush cid addr length readOk pack s
  | .packFlashWrite => Sys2Proof.Machine.execPackFlashWrite s
  | .launch cid wtcGo multi => Sys2Proof.Machine.execLaunch cid wtcGo multi s
  | .rollback cid step wtcGo => Sys2Proof.Machine.execRollback cid step wtcGo s
  | .recover cid => Sys2Proof.Machine.execRecover cid s
  | .resetKeeper cid => Sys2Proof.Machine.execResetKeeper cid s
  | .resetCompute cid => Sys2Proof.Machine.execResetCompute cid s
  | .resetStation cid index => Sys2Proof.Machine.execResetStation cid index s
  | .resetPort cid index => Sys2Proof.Machine.execResetPort cid index s
  | .runDigestQuery cid => Sys2Proof.Machine.execRunDigestQuery cid s
  | .runDigestSetWeights cid digest => Sys2Proof.Machine.execRunDigestSetWeights cid digest s
  | .runDigestSetInput cid digest => Sys2Proof.Machine.execRunDigestSetInput cid digest s
  | .runDigestRecompute => Sys2Proof.Machine.execRunDigestRecompute s
  | .programLoad prog => Sys2Proof.Machine.execProgramLoad prog s
  | .programChange prog => Sys2Proof.Machine.execProgramChange prog s
  | .helloSend => Sys2Proof.Machine.execHelloSend s
  | .helloReceive port msg => Sys2Proof.Machine.execHelloReceive port msg s
  | .helloMissed engine => Sys2Proof.Machine.execHelloMissed engine s
  | .pauseReceive port msg => Sys2Proof.Machine.execPauseReceive port msg s
  | .pausedTimeout engine => Sys2Proof.Machine.execPausedTimeout engine s
  | .holdLostTimeout => Sys2Proof.Machine.execHoldLostTimeout s
  | .voidReceive port msg => Sys2Proof.Machine.execVoidReceive port msg s
  | .pairReqReceive port msg => Sys2Proof.Machine.execPairReqReceive port msg s
  | .pairAckReceive port msg => Sys2Proof.Machine.execPairAckReceive port msg s
  | .pairNakReceive port msg => Sys2Proof.Machine.execPairNakReceive port msg s
  | .pairEndReceive port msg => Sys2Proof.Machine.execPairEndReceive port msg s
  | .chunkEgress k coll chunk words => Sys2Proof.Machine.execChunkEgress k coll chunk words s
  | .announcementReceive k ann => Sys2Proof.Machine.execAnnouncementReceive k ann s
  | .chorusDataFlit k coll chunk index first rest => Sys2Proof.Machine.execChorusDataFlit k coll chunk index first rest s
  | .chorusCompare k coll inst chunk => Sys2Proof.Machine.execChorusCompare k coll inst chunk s
  | .chorusDeadline k coll inst chunk => Sys2Proof.Machine.execChorusDeadline k coll inst chunk s
  | .rollCallStart k coll inst chunk => Sys2Proof.Machine.execRollCallStart k coll inst chunk s
  | .rollCallReceive k ann => Sys2Proof.Machine.execRollCallReceive k ann s
  | .rollCallAnswerSend k coll inst chunk receiver words => Sys2Proof.Machine.execRollCallAnswerSend k coll inst chunk receiver words s
  | .rollCallAnswerReceive k ann words => Sys2Proof.Machine.execRollCallAnswerReceive k ann words s
  | .rollCallDeadline k coll inst chunk => Sys2Proof.Machine.execRollCallDeadline k coll inst chunk s
  | .nameNoticeReceive k ann => Sys2Proof.Machine.execNameNoticeReceive k ann s
  | .remoteAddReceive k add => Sys2Proof.Machine.execRemoteAddReceive k add s
  | .writeLanded k source => Sys2Proof.Machine.execWriteLanded k source s
  | .parkedAddRelease k source => Sys2Proof.Machine.execParkedAddRelease k source s
  | .priorityIngressResume k => Sys2Proof.Machine.execPriorityIngressResume k s
  | .parkTimeout entry => Sys2Proof.Machine.execParkTimeout entry s
  | .readyDeadline => Sys2Proof.Machine.execReadyDeadline s
  | .readyMarkerReceive k => Sys2Proof.Machine.execReadyMarkerReceive k s
  | .abortMarkerReceive k => Sys2Proof.Machine.execAbortMarkerReceive k s
  | .readyCheck => Sys2Proof.Machine.execReadyCheck s
  | .launchRelease => Sys2Proof.Machine.execLaunchRelease s
  | .wtcExchange k hops offset => Sys2Proof.Machine.execWtcExchange k hops offset s
  | .wtcSyncLoss => Sys2Proof.Machine.execWtcSyncLoss s
  | .tapBlockJudge tile blk => Sys2Proof.Machine.execTapBlockJudge tile blk s
  | .tapRecordArrival f record => Sys2Proof.Machine.execTapRecordArrival f record s
  | .tapHoldEnd tile => Sys2Proof.Machine.execTapHoldEnd tile s
  | .tapEnable tile => Sys2Proof.Machine.execTapEnable tile s
  | .tapDisable tile => Sys2Proof.Machine.execTapDisable tile s
  | .tapStartDone tile => Sys2Proof.Machine.execTapStartDone tile s
  | .tapDrainDone tile => Sys2Proof.Machine.execTapDrainDone tile s
  | .tapPendingStart tile => Sys2Proof.Machine.execTapPendingStart tile s
  | .tapWindowAdvance f => Sys2Proof.Machine.execTapWindowAdvance f s
  | .tapAllocationRecompute => Sys2Proof.Machine.execTapAllocationRecompute s
  | .replayShareShed => Sys2Proof.Machine.execReplayShareShed s
  | .armReportSend tile active idle => Sys2Proof.Machine.execArmReportSend tile active idle s
  | .armReport tile disarm => Sys2Proof.Machine.execArmReport tile disarm s
  | .episodeSlotOpen f => Sys2Proof.Machine.execEpisodeSlotOpen f s
  | .episodeStart tile begun => Sys2Proof.Machine.execEpisodeStart tile begun s
  | .goWaitExpiry tile => Sys2Proof.Machine.execGoWaitExpiry tile s
  | .snapshotComplete seen => Sys2Proof.Machine.execSnapshotComplete seen s
  | .captureOverflow seen => Sys2Proof.Machine.execCaptureOverflow seen s
  | .recordRegionOverflow tile cycles => Sys2Proof.Machine.execRecordRegionOverflow tile cycles s
  | .replayRunDone tile => Sys2Proof.Machine.execReplayRunDone tile s
  | .episodeCompare tile cycles emitted image => Sys2Proof.Machine.execEpisodeCompare tile cycles emitted image s
  | .confirmReplayDone tile run => Sys2Proof.Machine.execConfirmReplayDone tile run s
  | .confirmSpareTimeout tile => Sys2Proof.Machine.execConfirmSpareTimeout tile s
  | .episodeDeadline tile => Sys2Proof.Machine.execEpisodeDeadline tile s
  | .scrubPassStart f => Sys2Proof.Machine.execScrubPassStart f s
  | .scrubVisitStart tile count streamPos => Sys2Proof.Machine.execScrubVisitStart tile count streamPos s
  | .scrubVisitResume tile entry count streamPos => Sys2Proof.Machine.execScrubVisitResume tile entry count streamPos s
  | .scrubRecordArrival f record => Sys2Proof.Machine.execScrubRecordArrival f record s
  | .visitSlot f => Sys2Proof.Machine.execVisitSlot f s
  | .testWindowOpen tile saved => Sys2Proof.Machine.execTestWindowOpen tile saved s
  | .visitMoveDone tile => Sys2Proof.Machine.execVisitMoveDone tile s
  | .visitSaveDone tile => Sys2Proof.Machine.execVisitSaveDone tile s
  | .visitItemEnd tile result => Sys2Proof.Machine.execVisitItemEnd tile result s
  | .visitRestoreDone tile => Sys2Proof.Machine.execVisitRestoreDone tile s
  | .visitClearDone tile => Sys2Proof.Machine.execVisitClearDone tile s
  | .visitRecordArrival f record => Sys2Proof.Machine.execVisitRecordArrival f record s
  | .visitLate unit => Sys2Proof.Machine.execVisitLate unit s
  | .ceCounterClear f => Sys2Proof.Machine.execCeCounterClear f s
  | .sramCeReport tile bank count => Sys2Proof.Machine.execSramCeReport tile bank count s
  | .sramUeReport tile bank => Sys2Proof.Machine.execSramUeReport tile bank s
  | .tileFrozen tile => Sys2Proof.Machine.execTileFrozen tile s
  | .slackCheckDone logical => Sys2Proof.Machine.execSlackCheckDone logical s
  | .transplantStart logical => Sys2Proof.Machine.execTransplantStart logical s
  | .transplantVerified logical fill => Sys2Proof.Machine.execTransplantVerified logical fill s
  | .transplantUeWord logical => Sys2Proof.Machine.execTransplantUeWord logical s
  | .regrowthCommit logical => Sys2Proof.Machine.execRegrowthCommit logical s
  | .refuseWaitExpiry logical => Sys2Proof.Machine.execRefuseWaitExpiry logical s
  | .regrowthTimeout logical => Sys2Proof.Machine.execRegrowthTimeout logical s
  | .remapTableUe f index copyOk => Sys2Proof.Machine.execRemapTableUe f index copyOk s
  | .epochDrainDone => Sys2Proof.Machine.execEpochDrainDone s
  | .drainDeadline left => Sys2Proof.Machine.execDrainDeadline left s
  | .epochPendingAdvance => Sys2Proof.Machine.execEpochPendingAdvance s
  | .oldEpochFlitLanding tile q header => Sys2Proof.Machine.execOldEpochFlitLanding tile q header s
  | .boundaryTake => Sys2Proof.Machine.execBoundaryTake s
  | .captureReadsDone => Sys2Proof.Machine.execCaptureReadsDone s
  | .holderClosingMessage k source fseq header => Sys2Proof.Machine.execHolderClosingMessage k source fseq header s
  | .copyCommit layer trickle => Sys2Proof.Machine.execCopyCommit layer trickle s
  | .copyValid index => Sys2Proof.Machine.execCopyValid index s
  | .securingTimeout layer => Sys2Proof.Machine.execSecuringTimeout layer s
  | .driveFailure drive => Sys2Proof.Machine.execDriveFailure drive s
  | .reloadComplete data => Sys2Proof.Machine.execReloadComplete data s
  | .reloadLayerFail => Sys2Proof.Machine.execReloadLayerFail s
  | .rollbackRelease => Sys2Proof.Machine.execRollbackRelease s
  | .tileSemOp tile op counter n => Sys2Proof.Machine.execTileSemOp tile op counter n s
  | .semPoison counter => Sys2Proof.Machine.execSemPoison counter s
  | .memoryPatrol word errors => Sys2Proof.Machine.execMemoryPatrol word errors s
  | .spineBeatError f attempts => Sys2Proof.Machine.execSpineBeatError f attempts s
  | .thermalSample f readings aoi => Sys2Proof.Machine.execThermalSample f readings aoi s
  | .overTempLine f sensor => Sys2Proof.Machine.execOverTempLine f sensor s
  | .tripHoldRelease => Sys2Proof.Machine.execTripHoldRelease s
  | .thermalHoldEnd => Sys2Proof.Machine.execThermalHoldEnd s
  | .holdMaxExpiry => Sys2Proof.Machine.execHoldMaxExpiry s
  | .droopLatchSample f warning deep => Sys2Proof.Machine.execDroopLatchSample f warning deep s
  | .ringOscillatorCount f counts => Sys2Proof.Machine.execRingOscillatorCount f counts s
  | .powerSample f watts => Sys2Proof.Machine.execPowerSample f watts s
  | .powerSampleMissing f => Sys2Proof.Machine.execPowerSampleMissing f s
  | .powerCapEscalate => Sys2Proof.Machine.execPowerCapEscalate s
  | .oscDriftCheck => Sys2Proof.Machine.execOscDriftCheck s
  | .hazardCompute => Sys2Proof.Machine.execHazardCompute s
  | .escapeAccountUpdate => Sys2Proof.Machine.execEscapeAccountUpdate s
  | .ageCheck => Sys2Proof.Machine.execAgeCheck s
  | .timeAnchorWrite => Sys2Proof.Machine.execTimeAnchorWrite s
  | .historyRecordWrite => Sys2Proof.Machine.execHistoryRecordWrite s
  | .moltCopy => Sys2Proof.Machine.execMoltCopy s
  | .fuseBlow key bad revision => Sys2Proof.Machine.execFuseBlow key bad revision s
  | .testAccessPortRequest target shiftIn => Sys2Proof.Machine.execTestAccessPortRequest target shiftIn s
  | .laneRetrainTrigger k lane lostLock replays => Sys2Proof.Machine.execLaneRetrainTrigger k lane lostLock replays s
  | .laneRetrainDone k passed => Sys2Proof.Machine.execLaneRetrainDone k passed s
  | .stallLimitReached tile stall => Sys2Proof.Machine.execStallLimitReached tile stall s
  | .stallRecordArrival tile stall => Sys2Proof.Machine.execStallRecordArrival tile stall s
  | .namingWindowClose => Sys2Proof.Machine.execNamingWindowClose s
  | .coreWake core => Sys2Proof.Machine.execCoreWake core s
  | .alarmDue core => Sys2Proof.Machine.execAlarmDue core s
  | .asyncCompletion core index status value => Sys2Proof.Machine.execAsyncCompletion core index status value s
  | .coreRestart core cause => Sys2Proof.Machine.execCoreRestart core cause s
  | .add core rd rs1 rs2 => Sys2Proof.Machine.execAdd core rd rs1 rs2 s
  | .sub core rd rs1 rs2 => Sys2Proof.Machine.execSub core rd rs1 rs2 s
  | .and core rd rs1 rs2 => Sys2Proof.Machine.execAnd core rd rs1 rs2 s
  | .or core rd rs1 rs2 => Sys2Proof.Machine.execOr core rd rs1 rs2 s
  | .xor core rd rs1 rs2 => Sys2Proof.Machine.execXor core rd rs1 rs2 s
  | .sll core rd rs1 rs2 => Sys2Proof.Machine.execSll core rd rs1 rs2 s
  | .srl core rd rs1 rs2 => Sys2Proof.Machine.execSrl core rd rs1 rs2 s
  | .sra core rd rs1 rs2 => Sys2Proof.Machine.execSra core rd rs1 rs2 s
  | .slt core rd rs1 rs2 => Sys2Proof.Machine.execSlt core rd rs1 rs2 s
  | .sltu core rd rs1 rs2 => Sys2Proof.Machine.execSltu core rd rs1 rs2 s
  | .min core rd rs1 rs2 => Sys2Proof.Machine.execMin core rd rs1 rs2 s
  | .max core rd rs1 rs2 => Sys2Proof.Machine.execMax core rd rs1 rs2 s
  | .minu core rd rs1 rs2 => Sys2Proof.Machine.execMinu core rd rs1 rs2 s
  | .maxu core rd rs1 rs2 => Sys2Proof.Machine.execMaxu core rd rs1 rs2 s
  | .mul core rd rs1 rs2 => Sys2Proof.Machine.execMul core rd rs1 rs2 s
  | .mulhu core rd rs1 rs2 => Sys2Proof.Machine.execMulhu core rd rs1 rs2 s
  | .divu core rd rs1 rs2 => Sys2Proof.Machine.execDivu core rd rs1 rs2 s
  | .remu core rd rs1 rs2 => Sys2Proof.Machine.execRemu core rd rs1 rs2 s
  | .addm61 core rd rs1 rs2 => Sys2Proof.Machine.execAddm61 core rd rs1 rs2 s
  | .mulm61 core rd rs1 rs2 => Sys2Proof.Machine.execMulm61 core rd rs1 rs2 s
  | .addi core rd rs1 imm => Sys2Proof.Machine.execAddi core rd rs1 imm s
  | .andi core rd rs1 imm => Sys2Proof.Machine.execAndi core rd rs1 imm s
  | .ori core rd rs1 imm => Sys2Proof.Machine.execOri core rd rs1 imm s
  | .xori core rd rs1 imm => Sys2Proof.Machine.execXori core rd rs1 imm s
  | .slti core rd rs1 imm => Sys2Proof.Machine.execSlti core rd rs1 imm s
  | .sltiu core rd rs1 imm => Sys2Proof.Machine.execSltiu core rd rs1 imm s
  | .shiftiSll core rd rs1 sh => Sys2Proof.Machine.execShiftiSll core rd rs1 sh s
  | .shiftiSrl core rd rs1 sh => Sys2Proof.Machine.execShiftiSrl core rd rs1 sh s
  | .shiftiSra core rd rs1 sh => Sys2Proof.Machine.execShiftiSra core rd rs1 sh s
  | .lui core rd imm => Sys2Proof.Machine.execLui core rd imm s
  | .orih core rd rs1 imm => Sys2Proof.Machine.execOrih core rd rs1 imm s
  | .ld core rd rs1 imm => Sys2Proof.Machine.execLd core rd rs1 imm s
  | .lwu core rd rs1 imm => Sys2Proof.Machine.execLwu core rd rs1 imm s
  | .lbu core rd rs1 imm => Sys2Proof.Machine.execLbu core rd rs1 imm s
  | .dld core d rs1 imm => Sys2Proof.Machine.execDld core d rs1 imm s
  | .sd core rs rs1 imm => Sys2Proof.Machine.execSd core rs rs1 imm s
  | .sw core rs rs1 imm => Sys2Proof.Machine.execSw core rs rs1 imm s
  | .sb core rs rs1 imm => Sys2Proof.Machine.execSb core rs rs1 imm s
  | .dst core d rs1 imm => Sys2Proof.Machine.execDst core d rs1 imm s
  | .dget core rd d w => Sys2Proof.Machine.execDget core rd d w s
  | .dput core d w rs1 => Sys2Proof.Machine.execDput core d w rs1 s
  | .dzero core d => Sys2Proof.Machine.execDzero core d s
  | .beq core ra rb off => Sys2Proof.Machine.execBeq core ra rb off s
  | .bne core ra rb off => Sys2Proof.Machine.execBne core ra rb off s
  | .blt core ra rb off => Sys2Proof.Machine.execBlt core ra rb off s
  | .bge core ra rb off => Sys2Proof.Machine.execBge core ra rb off s
  | .bltu core ra rb off => Sys2Proof.Machine.execBltu core ra rb off s
  | .bgeu core ra rb off => Sys2Proof.Machine.execBgeu core ra rb off s
  | .jal core ra off => Sys2Proof.Machine.execJal core ra off s
  | .jalr core rd rs1 imm => Sys2Proof.Machine.execJalr core rd rs1 imm s
  | .kick core => Sys2Proof.Machine.execKick core s
  | .safe core => Sys2Proof.Machine.execSafe core s
  | .evpop core rd d => Sys2Proof.Machine.execEvpop core rd d s
  | .eret core => Sys2Proof.Machine.execEret core s
  | .csrr core rd csr => Sys2Proof.Machine.execCsrr core rd csr s
  | .csrw core csr rs1 => Sys2Proof.Machine.execCsrw core csr rs1 s
  | .send core rd rs1 d => Sys2Proof.Machine.execSend core rd rs1 d s
  | .arm core rd rs1 => Sys2Proof.Machine.execArm core rd rs1 s
  | .testOperation core rd rs1 mode => Sys2Proof.Machine.execTestOperation core rd rs1 mode s
  | .quar core rd rs1 => Sys2Proof.Machine.execQuar core rd rs1 s
  | .remapRetry core rd rs1 => Sys2Proof.Machine.execRemapRetry core rd rs1 s
  | .remapEscalate core rd rs1 => Sys2Proof.Machine.execRemapEscalate core rd rs1 s
  | .fill core rd rs1 d => Sys2Proof.Machine.execFill core rd rs1 d s
  | .secure core rd rs1 layers => Sys2Proof.Machine.execSecure core rd rs1 layers s
  | .digestSha256 core rd d => Sys2Proof.Machine.execDigestSha256 core rd d s
  | .digestHmac core rd d => Sys2Proof.Machine.execDigestHmac core rd d s
  | .digestPld61 core rd d => Sys2Proof.Machine.execDigestPld61 core rd d s
  | .ledgerQueryOp core rd rs1 rs2 d => Sys2Proof.Machine.execLedgerQueryOp core rd rs1 rs2 d s
  | .ledgerUpdateOp core rd rs1 rs2 d => Sys2Proof.Machine.execLedgerUpdateOp core rd rs1 rs2 d s
  | .ledgerAddOp core rd rs1 rs2 d => Sys2Proof.Machine.execLedgerAddOp core rd rs1 rs2 d s
  | .semadd core rd rs1 rs2 => Sys2Proof.Machine.execSemadd core rd rs1 rs2 s
  | .semsub core rd rs1 rs2 => Sys2Proof.Machine.execSemsub core rd rs1 rs2 s
  | .semwait core rd rs1 rs2 async => Sys2Proof.Machine.execSemwait core rd rs1 rs2 async s
  | .semwaitConsume core rd rs1 rs2 async => Sys2Proof.Machine.execSemwaitConsume core rd rs1 rs2 async s
  | .fence core rd => Sys2Proof.Machine.execFence core rd s
  | .croak core rd rs1 rs2 cls => Sys2Proof.Machine.execCroak core rd rs1 rs2 cls s
  | .molt core rd rs1 => Sys2Proof.Machine.execMolt core rd rs1 s
  | .timeManager core rd => Sys2Proof.Machine.execTimeManager core rd s
  | .timeWtc core rd => Sys2Proof.Machine.execTimeWtc core rd s
  | .waitev core rd rs1 poll => Sys2Proof.Machine.execWaitev core rd rs1 poll s
  | .i3cPrivateRead => Sys2Proof.Machine.execI3cPrivateRead s
  | .i3cPrivateWrite => Sys2Proof.Machine.execI3cPrivateWrite s
  | .entdaa address => Sys2Proof.Machine.execEntdaa address s
  | .setdasa address => Sys2Proof.Machine.execSetdasa address s
  | .getpid => Sys2Proof.Machine.execGetpid s
  | .getbcr => Sys2Proof.Machine.execGetbcr s
  | .getdcr => Sys2Proof.Machine.execGetdcr s
  | .getstatus => Sys2Proof.Machine.execGetstatus s
  | .aoiSupplyLoss => Sys2Proof.Machine.execAoiSupplyLoss s
  | .storagePortReady drive found => Sys2Proof.Machine.execStoragePortReady drive found s
  | .boundaryWaitExpiry => Sys2Proof.Machine.execBoundaryWaitExpiry s
  | .scrubVisitEnd tile => Sys2Proof.Machine.execScrubVisitEnd tile s
  | .remoteAddSend k dest counter amount => Sys2Proof.Machine.execRemoteAddSend k dest counter amount s
  | .fabricWriteSend k dest => Sys2Proof.Machine.execFabricWriteSend k dest s
  | .illegalInstruction core word => Sys2Proof.Machine.execIllegalInstruction core word s
  | .tileSramWrite tile write streamPos => Sys2Proof.Machine.execTileSramWrite tile write streamPos s

end Sys2Proof.Machine
end

