-- ==== Sys2Proof/Safety.lean ====
section
/-! DEFINITION. The terms that statements are written in: a command that completes, what it leaves alone, the result of an Ixfold
instruction, a trap, a halt, and the invariants of the machine. -/

namespace Sys2Proof.Machine

/-- The command answers a next state, and that state is as `P` says. -/
def Completes (o : Host.Outcome State Fault Refusal) (P : State → Prop) : Prop := ∃ t, o = .next t ∧ P t

/-! ### Frames -/

/-- Every register field outside the list reads as before. -/
def SameRegs (s t : State) (l : List (RF × Nat)) : Prop := ∀ F i, (F, i) ∉ l → t.rf F i = s.rf F i

/-- Every core but `c` is as before. -/
def SameCores (s t : State) (c : Nat) : Prop := ∀ k, k ≠ c → t.core k = s.core k

/-- Every tile but `k`, every field but `f`, every Warden but `k` is as before. -/
def SameTiles (s t : State) (k : Nat) : Prop := ∀ j, j ≠ k → t.tile j = s.tile j
def SameFields (s t : State) (f : Nat) : Prop := ∀ j, j ≠ f → t.field j = s.field j
def SameWardens (s t : State) (k : Nat) : Prop := ∀ j, j ≠ k → t.warden j = s.warden j

/-- Nothing but core `c` differs. -/
def OnlyCore (s t : State) (c : Nat) : Prop := t = { s with cores := t.cores } ∧ SameCores s t c

/-- Nothing but the listed register fields differs. -/
def OnlyRegs (s t : State) (l : List (RF × Nat)) : Prop := t = { s with regs := t.regs } ∧ SameRegs s t l

/-! ### Ixfold instructions -/

/-- A 16-bit immediate, sign-extended and zero-extended (R424). -/
def sext (imm : BitVec 16) : Word := BitVec.ofInt 64 imm.toInt
def zext (imm : BitVec 16) : Word := BitVec.ofNat 64 imm.toNat

/-- The core runs, stalls in no operation, and the next instruction lies in IMEM (R416 to R418). -/
abbrev State.ready (s : State) (c : Fin 68) : Prop :=
  s.boot.aoiOn = true ∧ (s.core c.val).loaded = true ∧ (s.core c.val).run = 0 ∧ (s.core c.val).stall = none ∧
    (s.core c.val).ledgerOp = none ∧ (s.core c.val).pc + 4 < 65536

/-- General register `rd` takes `v`, and every other one keeps its value; x0 reads zero whatever is written to it (R416). -/
def XWritten (x y : Core) (rd : BitVec 5) (v : Word) : Prop :=
  y.getX 0 = 0 ∧ ∀ r : BitVec 5, r ≠ 0 → y.getX r.toNat = if r = rd then v else x.getX r.toNat

/-- Descriptor register `d` takes `v`, and every other one keeps its value. -/
def DWritten (x y : Core) (d : Nat) (v : BitVec 256) : Prop :=
  ∀ r, y.getD r = if r = d then v else x.getD r

/-- Core `x` after an instruction that goes on at `pc`: what `y` holds of the fields named apart, one more instruction completed, and
everything else as before. -/
def Core.wentOn (x y : Core) (pc : Nat) : Core := { y with pc := pc, instret := x.instret + 1 }

/-- An instruction that writes one general register: nothing else of the state differs but the pc and INSTRET. -/
def RegResult (s : State) (c : Fin 68) (rd : BitVec 5) (v : Word) (t : State) : Prop :=
  let x := s.core c.val
  let y := t.core c.val
  OnlyCore s t c.val ∧ XWritten x y rd v ∧ y = x.wentOn { x with x := y.x } (x.pc + 4)

/-- An instruction that writes one descriptor register. -/
def DescResult (s : State) (c : Fin 68) (d : Fin 8) (v : BitVec 256) (t : State) : Prop :=
  let x := s.core c.val
  let y := t.core c.val
  OnlyCore s t c.val ∧ DWritten x y d.val v ∧ y = x.wentOn { x with d := y.d } (x.pc + 4)

/-- An instruction that only goes on at a pc. -/
def PcResult (s : State) (c : Fin 68) (pc : Nat) (t : State) : Prop :=
  OnlyCore s t c.val ∧ t.core c.val = (s.core c.val).wentOn (s.core c.val) pc

/-- A trap that a handler takes (R427): EPC, CAUSE, TVAL and INTRAP are set, the core continues at TVEC, and nothing else differs. -/
def TrapTaken (s : State) (c : Fin 68) (cause : Nat) (tval : Nat) (t : State) : Prop :=
  let x := s.core c.val
  OnlyCore s t c.val ∧ t.core c.val = { x with
    epc := BitVec.ofNat 64 x.pc, cause := BitVec.ofNat 64 cause, tval := BitVec.ofNat 64 tval, inTrap := true, pc := x.tvec.toNat }

/-- The core can take a trap: TVEC names an instruction in IMEM, and INTRAP is 0. -/
abbrev State.handles (s : State) (c : Fin 68) : Prop :=
  (s.core c.val).tvec ≠ 0 ∧ (s.core c.val).tvec.toNat < 65536 ∧ (s.core c.val).tvec.toNat % 4 = 0 ∧ (s.core c.val).inTrap = false

/-- The HALT_SEEN field of a core. -/
def haltField (c : Nat) : RF × Nat := if 64 ≤ c then (.kprCoreStatusHaltSeen, c - 64) else (.fstCoreStatusHaltSeen, c)

/-- The core halts (R427): its STATE is HALTED, HALT_SEEN is set, and nothing else differs. -/
def Halts (s : State) (c : Fin 68) (t : State) : Prop :=
  t = { s with cores := t.cores, regs := t.regs } ∧ SameCores s t c.val ∧ t.core c.val = { s.core c.val with run := 2 } ∧
    SameRegs s t [haltField c.val] ∧ t.rf (haltField c.val).1 (haltField c.val).2 = 1

/-- The effective address of a load or store, rs1 + sext(imm) modulo 2⁶⁴. -/
def EffAddr (s : State) (c : Fin 68) (rs1 : BitVec 5) (imm : BitVec 16) : Nat := ((s.core c.val).getX rs1.toNat + sext imm).toNat

/-- Bytes `ea` to `ea + w - 1` of a byte table take the little-endian value `v`; every other byte keeps its value. -/
def BytesStored (old new : Tab Byte) (ea w v : Nat) : Prop :=
  ∀ a, readByte new a = if ea ≤ a ∧ a < ea + w then v / 256 ^ (a - ea) % 256 else readByte old a

/-- The result word of a manager operation: STATUS, FLAGS, zero, VALUE (R435). -/
def resultWord (status flags value : Nat) : Word := BitVec.ofNat 64 (status + 256 * flags + 2 ^ 32 * value)

/-- A manager operation answers rd a status, with FLAGS and some VALUE; x0 takes nothing. -/
def Answers (c : Fin 68) (rd : BitVec 5) (status : Nat) (t : State) : Prop :=
  rd ≠ 0 → ∃ value, (t.core c.val).getX rd.toNat = resultWord status 0 (value % 2 ^ 32)

/-- The core may name field `f`: a keeper core any field, a field core its own (R438). -/
abbrev MayName (c : Fin 68) (f : Nat) : Prop := 64 ≤ c.val ∨ c.val / 2 = f

/-- An event of a class enters the manager at the next tick, last in the list of those sampled. -/
def Raised (s t : State) (cls loc : Nat) (acts : List EvAct) : Prop := t.events = s.events ++ [⟨cls, loc, s.now, acts⟩]

/-- A host-bound message enters the outbound queue, last. -/
def Queued (s t : State) (m : Msg) : Prop := t.host.outQ = s.host.outQ ++ [m]

/-- A recovery can be requested and begin at once: none in progress, the limit of R356 not reached, compute UP. -/
abbrev State.recoverable (s : State) : Prop :=
  s.rf .kprHangStatusRecovery 0 = 0 ∧ s.recRecent < s.rf .kprHangCtrlRecoveryLimit 0 ∧ s.rf .aoiDomainsCompute 0 = 0

/-- Recovery has begun: RECOVERY is 1, a molt takes the next MOLT_SEQ, and compute is in CAPTURE (R334, R349, R355). -/
def RecoveryBegun (s t : State) : Prop :=
  t.rf .kprHangStatusRecovery 0 = 1 ∧ t.rf .aoiDomainsCompute 0 = 1 ∧ t.molts.seq = (s.molts.seq + 1) % 2 ^ 32

/-- A command of the host is answered: one response enters the outbound queue, and the command holds no credit any more (R389). -/
def Responded (s t : State) (opcode cid status : Nat) : Prop :=
  (∃ m, t.host.outQ = s.host.outQ ++ [m] ∧ m.cls = 1 ∧ m.code = opcode ∧ m.cid = cid ∧ m.status = status) ∧
    ∀ x ∈ t.host.taken, x.cid = cid → x.opcode ≠ opcode

/-- As `Responded`, with a response whose payload is as `P` says. -/
def RespondedWith (s t : State) (opcode cid status : Nat) (P : Nat → Prop) : Prop :=
  (∃ m, t.host.outQ = s.host.outQ ++ [m] ∧ m.cls = 1 ∧ m.code = opcode ∧ m.cid = cid ∧ m.status = status ∧ P m.payload) ∧
    ∀ x ∈ t.host.taken, x.cid = cid → x.opcode ≠ opcode

/-- The credit registers of the host port, which every command moves (R389). -/
def creditRegs : List (RF × Nat) := [(.hptCreditsOutstanding, 0), (.hptCreditsHigh, 0)]

/-- The host is attached, the outbound queue has a place for a response and a credit is free (R386, R389, R394). -/
abbrev State.canAnswer (s : State) (opcode cid : Nat) : Prop :=
  s.rf .hptStatusAttached 0 = 1 ∧ s.host.outQ.length < 4096 ∧
    (s.host.taken.length < 256 ∨ ∃ x ∈ s.host.taken, x.cid = cid ∧ x.opcode = opcode ∧ x.applied = false)

/-! ### The fuses -/

/-- The fuse map lists each unit at most once, and only units that exist (R48, R60). -/
abbrev State.fuseMapOk (s : State) : Prop := s.fuses.bad.Nodup ∧ ∀ k ∈ s.fuses.bad, keyOk k = true

/-! ### The Keeper Store -/

/-- The byte table of the Keeper Store is in its canonical form: addresses strictly rising, no entry equal to the zero that an
unlisted byte reads as. DESIGN CHOICE: log entry 9. -/
abbrev Memory.wf (m : Tab Byte) : Prop := Tab.wf (fun _ => 0) m = true

end Sys2Proof.Machine
end

