-- ==== Sys2Proof/Certificates/Slice0/Obligations.lean ====
section
/-! DEFINITION. The statements for the provers, by families of commands. Each docstring names the rules of spec/ that it follows. -/

open Sys2Proof Sys2Proof.Machine

/-- R423: every ALU operation writes its result to rd (nothing where rd is x0), and changes nothing else but the pc and INSTRET.

R424: the immediate forms, the shifts by an immediate, LUI and ORIH write rd and change nothing else but the pc and INSTRET.

R424 (DX): DGET reads word w of a descriptor register, DPUT replaces it and keeps the other three, DZERO clears the register. -/
def Obligations.CoreArithmeticWritesItsDestination : Prop :=
  (∀ (s : State) (c : Fin 68) (rd rs1 rs2 : BitVec 5) (a b : Word), s.ready c →
     (s.core c.val).getX rs1.toNat = a → (s.core c.val).getX rs2.toNat = b →
     Completes (exec (.add c rd rs1 rs2) s) (RegResult s c rd (a + b)) ∧
     Completes (exec (.sub c rd rs1 rs2) s) (RegResult s c rd (a - b)) ∧
     Completes (exec (.and c rd rs1 rs2) s) (RegResult s c rd (a &&& b)) ∧
     Completes (exec (.or c rd rs1 rs2) s) (RegResult s c rd (a ||| b)) ∧
     Completes (exec (.xor c rd rs1 rs2) s) (RegResult s c rd (a ^^^ b)) ∧
     Completes (exec (.sll c rd rs1 rs2) s) (RegResult s c rd (BitVec.ofNat 64 (a.toNat * 2 ^ (b.toNat % 64)))) ∧
     Completes (exec (.srl c rd rs1 rs2) s) (RegResult s c rd (BitVec.ofNat 64 (a.toNat / 2 ^ (b.toNat % 64)))) ∧
     Completes (exec (.sra c rd rs1 rs2) s) (RegResult s c rd (BitVec.ofInt 64 (a.toInt / 2 ^ (b.toNat % 64)))) ∧
     Completes (exec (.slt c rd rs1 rs2) s) (RegResult s c rd (if a.toInt < b.toInt then 1 else 0)) ∧
     Completes (exec (.sltu c rd rs1 rs2) s) (RegResult s c rd (if a.toNat < b.toNat then 1 else 0)) ∧
     Completes (exec (.min c rd rs1 rs2) s) (RegResult s c rd (if a.toInt ≤ b.toInt then a else b)) ∧
     Completes (exec (.max c rd rs1 rs2) s) (RegResult s c rd (if a.toInt ≤ b.toInt then b else a)) ∧
     Completes (exec (.minu c rd rs1 rs2) s) (RegResult s c rd (if a.toNat ≤ b.toNat then a else b)) ∧
     Completes (exec (.maxu c rd rs1 rs2) s) (RegResult s c rd (if a.toNat ≤ b.toNat then b else a)) ∧
     Completes (exec (.mul c rd rs1 rs2) s) (RegResult s c rd (BitVec.ofNat 64 (a.toNat * b.toNat))) ∧
     Completes (exec (.mulhu c rd rs1 rs2) s) (RegResult s c rd (BitVec.ofNat 64 (a.toNat * b.toNat / 2 ^ 64))) ∧
     Completes (exec (.divu c rd rs1 rs2) s)
       (RegResult s c rd (if b = 0 then BitVec.ofNat 64 (2 ^ 64 - 1) else BitVec.ofNat 64 (a.toNat / b.toNat))) ∧
     Completes (exec (.remu c rd rs1 rs2) s) (RegResult s c rd (if b = 0 then a else BitVec.ofNat 64 (a.toNat % b.toNat))) ∧
     Completes (exec (.addm61 c rd rs1 rs2) s) (RegResult s c rd (BitVec.ofNat 64 ((a.toNat + b.toNat) % (2 ^ 61 - 1)))) ∧
     Completes (exec (.mulm61 c rd rs1 rs2) s) (RegResult s c rd (BitVec.ofNat 64 (a.toNat * b.toNat % (2 ^ 61 - 1))))) ∧
  (∀ (s : State) (c : Fin 68) (rd rs1 : BitVec 5) (imm : BitVec 16) (sh : BitVec 6) (a : Word), s.ready c →
     (s.core c.val).getX rs1.toNat = a →
     Completes (exec (.addi c rd rs1 imm) s) (RegResult s c rd (a + sext imm)) ∧
     Completes (exec (.andi c rd rs1 imm) s) (RegResult s c rd (a &&& zext imm)) ∧
     Completes (exec (.ori c rd rs1 imm) s) (RegResult s c rd (a ||| zext imm)) ∧
     Completes (exec (.xori c rd rs1 imm) s) (RegResult s c rd (a ^^^ zext imm)) ∧
     Completes (exec (.slti c rd rs1 imm) s) (RegResult s c rd (if a.toInt < imm.toInt then 1 else 0)) ∧
     Completes (exec (.sltiu c rd rs1 imm) s) (RegResult s c rd (if a.toNat < imm.toNat then 1 else 0)) ∧
     Completes (exec (.shiftiSll c rd rs1 sh) s) (RegResult s c rd (BitVec.ofNat 64 (a.toNat * 2 ^ sh.toNat))) ∧
     Completes (exec (.shiftiSrl c rd rs1 sh) s) (RegResult s c rd (BitVec.ofNat 64 (a.toNat / 2 ^ sh.toNat))) ∧
     Completes (exec (.shiftiSra c rd rs1 sh) s) (RegResult s c rd (BitVec.ofInt 64 (a.toInt / 2 ^ sh.toNat))) ∧
     Completes (exec (.lui c rd imm) s) (RegResult s c rd (BitVec.ofInt 64 (imm.toInt * 65536))) ∧
     Completes (exec (.orih c rd rs1 imm) s) (RegResult s c rd (a ||| BitVec.ofNat 64 (imm.toNat * 2 ^ 32)))) ∧
  (∀ (s : State) (c : Fin 68) (r : BitVec 5) (d : Fin 8) (w : Fin 4) (v : BitVec 256), s.ready c →
     (s.core c.val).getD d.val = v →
     Completes (exec (.dget c r d w) s) (RegResult s c r (BitVec.ofNat 64 (v.toNat / 2 ^ (64 * w.val)))) ∧
     Completes (exec (.dput c d w r) s) (fun t => ∃ v', DescResult s c d v' t ∧
       ∀ j : Fin 4, BitVec.ofNat 64 (v'.toNat / 2 ^ (64 * j.val)) =
         if j = w then (s.core c.val).getX r.toNat else BitVec.ofNat 64 (v.toNat / 2 ^ (64 * j.val))) ∧
     Completes (exec (.dzero c d) s) (DescResult s c d 0))

/-- R424: a branch whose comparison holds goes to pc + 4·sext(off16), one whose comparison fails to pc + 4; no register is written.

R424: JAL and JALR write pc + 4 to their link register (nothing for x0) and go to their target. -/
def Obligations.BranchesAndJumpsSetThePc : Prop :=
  (∀ (s : State) (c : Fin 68) (ra rb : BitVec 5) (off : BitVec 16) (a b : Word) (target : Nat), s.ready c →
     (s.core c.val).getX ra.toNat = a → (s.core c.val).getX rb.toNat = b →
     ((s.core c.val).pc : Int) + 4 * off.toInt = target → target < 65536 →
     Completes (exec (.beq c ra rb off) s) (PcResult s c (if a = b then target else (s.core c.val).pc + 4)) ∧
     Completes (exec (.bne c ra rb off) s) (PcResult s c (if a ≠ b then target else (s.core c.val).pc + 4)) ∧
     Completes (exec (.blt c ra rb off) s) (PcResult s c (if a.toInt < b.toInt then target else (s.core c.val).pc + 4)) ∧
     Completes (exec (.bge c ra rb off) s) (PcResult s c (if b.toInt ≤ a.toInt then target else (s.core c.val).pc + 4)) ∧
     Completes (exec (.bltu c ra rb off) s) (PcResult s c (if a.toNat < b.toNat then target else (s.core c.val).pc + 4)) ∧
     Completes (exec (.bgeu c ra rb off) s) (PcResult s c (if b.toNat ≤ a.toNat then target else (s.core c.val).pc + 4))) ∧
  (∀ (s : State) (c : Fin 68) (rd rs1 : BitVec 5) (imm : BitVec 16) (target : Nat), s.ready c → target < 65536 →
     (((s.core c.val).pc : Int) + 4 * imm.toInt = target →
       Completes (exec (.jal c rd imm) s) (fun t =>
         OnlyCore s t c.val ∧ XWritten (s.core c.val) (t.core c.val) rd (BitVec.ofNat 64 ((s.core c.val).pc + 4)) ∧
         t.core c.val = (s.core c.val).wentOn { s.core c.val with x := (t.core c.val).x } target)) ∧
     (EffAddr s c rs1 imm = target → target % 4 = 0 →
       Completes (exec (.jalr c rd rs1 imm) s) (fun t =>
         OnlyCore s t c.val ∧ XWritten (s.core c.val) (t.core c.val) rd (BitVec.ofNat 64 ((s.core c.val).pc + 4)) ∧
         t.core c.val = (s.core c.val).wentOn { s.core c.val with x := (t.core c.val).x } target)))

/-- R419, R420, R424: an aligned load reads its bytes little-endian from DMEM, from the Keeper Store general area or from the Flight
Recorder, and changes nothing but its destination register, the pc and INSTRET. A word marked poisoned answers the load a value that
the manual does not give, and is reported in class 3 (R28; a free value, log entry 33).

R419, R420: an aligned store to DMEM below the slot area changes exactly the bytes of its width from its effective address.

R419, R420: an aligned store to the writable part of the Keeper Store changes exactly its bytes there, counts one more posted
store (log entry 8), and leaves the core's DMEM alone; no word becomes poisoned by it (R28).

R419, R420, R427: a load or store whose address is no multiple of its width traps as misaligned; one that is aligned and lies
outside the address space, at a part its access does not allow, or in the register range with another width than 4 or 8 traps as an
access fault. TVAL takes the address, and no register or memory is written.

R419, R420: LD, LWU, SD and SW in the register range act as an access of BAR0, and the core goes on. -/
def Obligations.CoreMemoryAccesses : Prop :=
  (∀ (s : State) (c : Fin 68) (rd rs1 : BitVec 5) (d : Fin 8) (imm : BitVec 16) (ea off : Nat) (m : Tab Byte), s.ready c →
     EffAddr s c rs1 imm = ea →
     (ea < 0x10000 ∧ m = (s.core c.val).dmem ∧ off = ea ∨
      0x10000000 ≤ ea ∧ ea < 0x12000000 ∧ m = s.ks ∧ off = ea - 0x10000000 ∨
      0x12000000 ≤ ea ∧ ea < 0x16000000 ∧ m = s.ks ∧ off = ea - 0x10000000) →
     (0x10000000 ≤ ea → s.ksPoisoned off 32 = false) →
     (ea % 8 = 0 → Completes (exec (.ld c rd rs1 imm) s) (RegResult s c rd (BitVec.ofNat 64 (readBytes m off 8)))) ∧
     (ea % 4 = 0 → Completes (exec (.lwu c rd rs1 imm) s) (RegResult s c rd (BitVec.ofNat 64 (readBytes m off 4)))) ∧
     Completes (exec (.lbu c rd rs1 imm) s) (RegResult s c rd (BitVec.ofNat 64 (readByte m off))) ∧
     (ea % 32 = 0 → Completes (exec (.dld c d rs1 imm) s) (DescResult s c d (BitVec.ofNat 256 (readBytes m off 32))))) ∧
  (∀ (s : State) (c : Fin 68) (rs rs1 : BitVec 5) (d : Fin 8) (imm : BitVec 16) (ea : Nat), s.ready c →
     EffAddr s c rs1 imm = ea → ea < 0xF000 →
     let Stored := fun (w v : Nat) (t : State) =>
       OnlyCore s t c.val ∧ BytesStored (s.core c.val).dmem (t.core c.val).dmem ea w v ∧
       t.core c.val = (s.core c.val).wentOn { s.core c.val with dmem := (t.core c.val).dmem } ((s.core c.val).pc + 4)
     (ea % 8 = 0 → Completes (exec (.sd c rs rs1 imm) s) (Stored 8 ((s.core c.val).getX rs.toNat).toNat)) ∧
     (ea % 4 = 0 → Completes (exec (.sw c rs rs1 imm) s) (Stored 4 (((s.core c.val).getX rs.toNat).toNat % 2 ^ 32))) ∧
     Completes (exec (.sb c rs rs1 imm) s) (Stored 1 (((s.core c.val).getX rs.toNat).toNat % 256)) ∧
     (ea % 32 = 0 → Completes (exec (.dst c d rs1 imm) s) (Stored 32 ((s.core c.val).getD d.val).toNat))) ∧
  (∀ (s : State) (c : Fin 68) (rs rs1 : BitVec 5) (d : Fin 8) (imm : BitVec 16) (ea : Nat), s.ready c →
     EffAddr s c rs1 imm = ea → 0x10000000 ≤ ea → ea < 0x11000000 →
     let Stored := fun (w v : Nat) (t : State) =>
       t = { s with cores := t.cores, ks := t.ks, poison := t.poison } ∧ (∀ m ∈ t.poison, m ∈ s.poison) ∧ SameCores s t c.val ∧ BytesStored s.ks t.ks (ea - 0x10000000) w v ∧
       t.core c.val = (s.core c.val).wentOn { s.core c.val with posted := (s.core c.val).posted + 1 } ((s.core c.val).pc + 4)
     (ea % 8 = 0 → Completes (exec (.sd c rs rs1 imm) s) (Stored 8 ((s.core c.val).getX rs.toNat).toNat)) ∧
     (ea % 4 = 0 → Completes (exec (.sw c rs rs1 imm) s) (Stored 4 (((s.core c.val).getX rs.toNat).toNat % 2 ^ 32))) ∧
     Completes (exec (.sb c rs rs1 imm) s) (Stored 1 (((s.core c.val).getX rs.toNat).toNat % 256)) ∧
     (ea % 32 = 0 → Completes (exec (.dst c d rs1 imm) s) (Stored 32 ((s.core c.val).getD d.val).toNat))) ∧
  (∀ (s : State) (c : Fin 68) (rd rs1 : BitVec 5) (d : Fin 8) (imm : BitVec 16) (ea : Nat), s.ready c → s.handles c →
     EffAddr s c rs1 imm = ea →
     let NoRead := fun (w : Nat) => 0x10000 ≤ ea ∧ ea < 0x10000000 ∨ 0x16000000 ≤ ea ∧ ea < 0x20000000 ∨ 0x20800000 ≤ ea ∨
       0x20000000 ≤ ea ∧ w ≠ 4 ∧ w ≠ 8
     let NoWrite := fun (w : Nat) => NoRead w ∨ 0xF000 ≤ ea ∧ ea < 0x10000 ∨ 0x11000000 ≤ ea ∧ ea < 0x16000000
     let Traps := fun (i : Instr) (w : Nat) (bad : Prop) =>
       (ea % w ≠ 0 → Completes (exec i s) (TrapTaken s c 2 ea)) ∧ (ea % w = 0 → bad → Completes (exec i s) (TrapTaken s c 3 ea))
     Traps (.ld c rd rs1 imm) 8 (NoRead 8) ∧ Traps (.lwu c rd rs1 imm) 4 (NoRead 4) ∧ Traps (.lbu c rd rs1 imm) 1 (NoRead 1) ∧
     Traps (.dld c d rs1 imm) 32 (NoRead 32) ∧ Traps (.sd c rd rs1 imm) 8 (NoWrite 8) ∧ Traps (.sw c rd rs1 imm) 4 (NoWrite 4) ∧
     Traps (.sb c rd rs1 imm) 1 (NoWrite 1) ∧ Traps (.dst c d rs1 imm) 32 (NoWrite 32)) ∧
  (∀ (s : State) (c : Fin 68) (r rs1 : BitVec 5) (imm : BitVec 16) (ea : Nat), s.ready c →
     EffAddr s c rs1 imm = ea → 0x20000000 ≤ ea → ea < 0x20800000 →
     let a := ea - 0x20000000
     let Posted := fun (t : State) => OnlyCore s t c.val ∧
       t.core c.val = (s.core c.val).wentOn { s.core c.val with posted := (s.core c.val).posted + 1 } ((s.core c.val).pc + 4)
     let v := ((s.core c.val).getX r.toNat).toNat
     (ea % 8 = 0 →
       Completes (exec (.ld c r rs1 imm) s) (RegResult (s.bar0Read a 8).2 c r (BitVec.ofNat 64 (s.bar0Read a 8).1)) ∧
       Completes (exec (.sd c r rs1 imm) s) (fun t => ∃ u, Posted u ∧ t = u.bar0Write a 8 v)) ∧
     (ea % 4 = 0 →
       Completes (exec (.lwu c r rs1 imm) s) (RegResult (s.bar0Read a 4).2 c r (BitVec.ofNat 64 (s.bar0Read a 4).1)) ∧
       Completes (exec (.sw c r rs1 imm) s) (fun t => ∃ u, Posted u ∧ t = u.bar0Write a 4 (v % 2 ^ 32))))

/-- R427: a trap that no handler takes (TVEC zero, or inside a trap) halts the core, which sets HALT_SEEN; an illegal word traps with
cause 1 and TVAL the word; a jump target past IMEM is a fetch fault at the target, and a JALR target that is no multiple of 4 a
misaligned target, with the link register not written.

R422 to R427, R435, R440: which 32-bit words are illegal at each major opcode that stands alone, and that an all-zero and an
all-ones word are. -/
def Obligations.TrapsHaltsAndIllegalWords : Prop :=
  (∀ (s : State) (c : Fin 68) (word : BitVec 32) (rd rs1 : BitVec 5) (imm : BitVec 16), s.ready c →
     (illegalWord word.toNat = true →
       (s.handles c → Completes (exec (.illegalInstruction c word) s) (TrapTaken s c 1 word.toNat)) ∧
       ((s.core c.val).tvec = 0 ∨ (s.core c.val).inTrap = true → Completes (exec (.illegalInstruction c word) s) (Halts s c))) ∧
     (s.handles c → EffAddr s c rs1 imm % 4 ≠ 0 → Completes (exec (.jalr c rd rs1 imm) s) (TrapTaken s c 5 (EffAddr s c rs1 imm))) ∧
     (s.handles c → EffAddr s c rs1 imm % 4 = 0 → 65536 ≤ EffAddr s c rs1 imm →
       Completes (exec (.jalr c rd rs1 imm) s) (TrapTaken s c 4 (EffAddr s c rs1 imm)))) ∧
  (illegalWord 0 = true ∧ illegalWord 0xFFFFFFFF = true ∧
   ∀ op rest : Nat, rest < 2 ^ 26 →
     (op ∈ [0x00, 0x0B, 0x15, 0x17] ∨ 0x30 ≤ op ∧ op < 64 → illegalWord (op * 2 ^ 26 + rest) = true) ∧
     (op = 0x01 → (illegalWord (op * 2 ^ 26 + rest) = true ↔
       rest % 2048 ∉ [0, 1, 2, 3, 4, 5, 6, 7, 8, 9, 10, 11, 12, 13, 0x10, 0x11, 0x12, 0x13, 0x20, 0x21])) ∧
     (op = 0x09 ∨ op = 0x1E → (illegalWord (op * 2 ^ 26 + rest) = true ↔ rest / 2 ^ 16 % 32 ≠ 0)) ∧
     (op ∈ [2, 3, 4, 5, 6, 7, 0x0A, 0x0C, 0x0D, 0x0E, 0x0F, 0x10, 0x11, 0x18, 0x19, 0x1A, 0x1B, 0x1C, 0x1D, 0x1F] →
       illegalWord (op * 2 ^ 26 + rest) = false))

/-- R17, R425, R429: KICK restarts the watchdog period; SAFE takes the shadow at pc + 4 and retires the popped events.

R425, R433: EVPOP pops the oldest event not yet popped into the descriptor and answers 1; with none it zeroes the descriptor and
answers 0.

R425 to R427: ERET goes to EPC and clears INTRAP; CSRR reads the CSR of each listed number; CSRW writes ALARM ([47:0] and [63]),
TVEC, EPC and INTRAP; an unlisted number, or a CSRW of a read-only CSR, traps as illegal.

R425, R432, R437: SEND puts 32 bytes of mail into the queue of the core it names and answers OK; it answers BAD_ARG for a number
that is no core's, and BUSY where every place of that queue is taken. -/
def Obligations.CoreSystemInstructions : Prop :=
  (∀ (s : State) (c : Fin 68), s.ready c →
     Completes (exec (.kick c) s) (fun t => OnlyCore s t c.val ∧
       t.core c.val = (s.core c.val).wentOn { s.core c.val with wdUsed := 0, wdFrom := s.now } ((s.core c.val).pc + 4) ∧ t.wdElapsed c.val = 0) ∧
     Completes (exec (.safe c) s) (fun t => OnlyCore s t c.val ∧
       (t.core c.val).safe = some ⟨(s.core c.val).pc + 4, (s.core c.val).x, (s.core c.val).d, (s.core c.val).alarm, (s.core c.val).tvec⟩ ∧
       (t.core c.val).pc = (s.core c.val).pc + 4 ∧ (t.core c.val).x = (s.core c.val).x ∧ (t.core c.val).d = (s.core c.val).d ∧
       ((s.core c.val).waiting = [] → (t.core c.val).queue = (s.core c.val).queue.filter (fun e => !e.popped) ∧
         (t.core c.val).dmem = (s.core c.val).dmem))) ∧
  (∀ (s : State) (c : Fin 68) (rd : BitVec 5) (d : Fin 8), s.ready c →
     (∀ (pre post : List CoreEv) (e : CoreEv), (s.core c.val).queue = pre ++ e :: post → (∀ x ∈ pre, x.popped = true) → e.popped = false →
       Completes (exec (.evpop c rd d) s) (fun t => OnlyCore s t c.val ∧ XWritten (s.core c.val) (t.core c.val) rd 1 ∧
         DWritten (s.core c.val) (t.core c.val) d.val (evWords e) ∧
         (t.core c.val).queue = pre ++ { e with popped := true } :: post ∧
         t.core c.val = (s.core c.val).wentOn { s.core c.val with x := (t.core c.val).x, d := (t.core c.val).d, queue := (t.core c.val).queue }
           ((s.core c.val).pc + 4))) ∧
     ((∀ x ∈ (s.core c.val).queue, x.popped = true) →
       Completes (exec (.evpop c rd d) s) (fun t => OnlyCore s t c.val ∧ XWritten (s.core c.val) (t.core c.val) rd 0 ∧
         DWritten (s.core c.val) (t.core c.val) d.val 0 ∧
         t.core c.val = (s.core c.val).wentOn { s.core c.val with x := (t.core c.val).x, d := (t.core c.val).d } ((s.core c.val).pc + 4)))) ∧
  (∀ (s : State) (c : Fin 68) (rd rs1 n : BitVec 5), s.ready c →
     let x := s.core c.val
     (x.epc.toNat % 4 = 0 → x.epc.toNat < 65536 →
       Completes (exec (.eret c) s) (fun t => OnlyCore s t c.val ∧ t.core c.val = x.wentOn { x with inTrap := false } x.epc.toNat)) ∧
     (n.toNat ≤ 12 → Completes (exec (.csrr c rd n) s) (RegResult s c rd
       (match n.toNat with
         | 0 => BitVec.ofNat 64 (c.val + if 64 ≤ c.val then 128 else 0)
         | 1 => x.cycle | 2 => x.instret | 3 => x.alarm | 4 => x.tvec | 5 => x.epc | 6 => x.cause | 7 => x.tval
         | 8 => BitVec.ofNat 64 (match x.safe with | some h => h.pc | none => 0)
         | 9 => BitVec.ofNat 64 (x.restarts % 256 + 256 * (x.lastCause % 16))
         | 10 => BitVec.ofNat 64 ((x.queue.filter (fun e => !e.popped)).length % 128 +
             128 * ((x.queue.filter (fun e => e.popped)).length % 128) + 2 ^ 32 * (x.evSeq % 2 ^ 32))
         | 11 => if x.inTrap then 1 else 0
         | _ => BitVec.ofNat 64 x.async.length))) ∧
     (n = 3 → Completes (exec (.csrw c n rs1) s) (fun t => OnlyCore s t c.val ∧ t.core c.val = x.wentOn { x with
       alarm := x.getX rs1.toNat &&& 0x8000FFFFFFFFFFFF } (x.pc + 4))) ∧
     (n = 4 → Completes (exec (.csrw c n rs1) s) (fun t => OnlyCore s t c.val ∧
       t.core c.val = x.wentOn { x with tvec := x.getX rs1.toNat } (x.pc + 4))) ∧
     (n = 5 → Completes (exec (.csrw c n rs1) s) (fun t => OnlyCore s t c.val ∧
       t.core c.val = x.wentOn { x with epc := x.getX rs1.toNat } (x.pc + 4))) ∧
     (n = 11 → Completes (exec (.csrw c n rs1) s) (fun t => OnlyCore s t c.val ∧
       t.core c.val = x.wentOn { x with inTrap := (x.getX rs1.toNat).getLsbD 0 } (x.pc + 4))) ∧
     (s.handles c → 12 < n.toNat → ∃ w, Completes (exec (.csrr c rd n) s) (TrapTaken s c 1 w)) ∧
     (s.handles c → n.toNat ∉ [3, 4, 5, 11] → ∃ w, Completes (exec (.csrw c n rs1) s) (TrapTaken s c 1 w))) ∧
  (∀ (s : State) (c : Fin 68) (rd rs1 : BitVec 5) (d : Fin 8) (k : Nat), s.ready c → ((s.core c.val).getX rs1.toNat).toNat = k →
     (68 ≤ k → Completes (exec (.send c rd rs1 d) s) (RegResult s c rd 4)) ∧
     (64 ≤ k → k < 68 → freeSlot (s.core k).queue = none → Completes (exec (.send c rd rs1 d) s) (RegResult s c rd 2)) ∧
     (∀ i, 64 ≤ k → k < 68 → k ≠ c.val → freeSlot (s.core k).queue = some i →
       Completes (exec (.send c rd rs1 d) s) (fun t => ∃ u, RegResult s c rd 0 u ∧ OnlyCore u t k ∧
         t.core k = { s.core k with dmem := (t.core k).dmem, queue := (t.core k).queue, evSeq := ((s.core k).evSeq + 1) % 2 ^ 32 } ∧
         (t.core k).queue = (s.core k).queue ++
           [⟨15, 0, i, false, false, (s.core k).evSeq, s.now, c.val, 0, 0, 0, ((s.core c.val).getD d.val).toNat, false⟩] ∧
         BytesStored (s.core k).dmem (t.core k).dmem (0xF000 + 64 * i) 64 ((s.core c.val).getD d.val).toNat)))

/-- R30, R434: a core stopped in WAITEV resumes once a source it names is pending: rd takes the pending mask, and its clock runs.
The ALARM that comes due wakes a core that waits on ALARM.

R434: WAITEV answers at once where a source it names is pending, or with POLL, and otherwise stops the core's clock with the pc at
the instruction; a reserved mask bit, or an empty mask without POLL, is answered BAD_ARG.

R17, R18: a watchdog expires once its core has run for its period without KICK; the first expiry stops the core for its restart,
and leaves every other core and general register as it was.

R430: the restart after a watchdog expiry restores the safe point: pc, general and descriptor registers, ALARM and TVEC as SAFE
took them, INTRAP clear, popped events given back, RESTART counting one more with cause 2. With no safe point held the core is loaded
anew.

R430, R436: an asynchronous operation that ends leaves the core's list, and its event enters the core's queue with the status and
value; the other operations run on. -/
def Obligations.WaitsWatchdogsAndRestarts : Prop :=
  (∀ (s : State) (c : Fin 68) (rd : BitVec 5) (mask : Nat), (s.core c.val).pc + 4 < 65536 → (s.core c.val).run = 1 →
     (s.core c.val).wait = some (rd.toNat, mask) →
     let p := pendingMask (s.core c.val) s.now
     let Woken := fun (t : State) => OnlyCore s t c.val ∧ XWritten (s.core c.val) (t.core c.val) rd (resultWord 0 0 (p % 2 ^ 32)) ∧
       t.core c.val = (s.core c.val).wentOn { s.core c.val with x := (t.core c.val).x, run := 0, wait := none, wdFrom := s.now }
         ((s.core c.val).pc + 4)
     (p &&& mask ≠ 0 → p < 8192 → Completes (exec (.coreWake c) s) Woken) ∧
     (mask.testBit 10 = true → (s.core c.val).alarm.toNat.testBit 63 = true → (s.core c.val).alarm.toNat % 2 ^ 48 ≤ s.now % 2 ^ 48 →
       Completes (exec (.alarmDue c) s) Woken) ∧
     (p &&& mask = 0 → exec (.coreWake c) s = .next s ∧ exec (.alarmDue c) s = .next s)) ∧
  (∀ (s : State) (c : Fin 68) (rd rs1 : BitVec 5) (poll : Bool) (mask : Nat), s.ready c →
     ((s.core c.val).getX rs1.toNat).toNat = mask →
     let p := pendingMask (s.core c.val) s.now
     (8192 ≤ mask ∨ mask = 0 ∧ poll = false → Completes (exec (.waitev c rd rs1 poll) s) (RegResult s c rd (resultWord 4 0 0))) ∧
     (mask < 8192 → (poll = true ∨ p &&& mask ≠ 0) →
       Completes (exec (.waitev c rd rs1 poll) s) (RegResult s c rd (resultWord 0 0 (p % 2 ^ 32)))) ∧
     (mask < 8192 → mask ≠ 0 → poll = false → p &&& mask = 0 →
       Completes (exec (.waitev c rd rs1 poll) s) (fun t => OnlyCore s t c.val ∧ t.core c.val = { s.core c.val with
         run := 1, wait := some (rd.toNat, mask), wdUsed := (s.core c.val).wdUsed + (s.now - (s.core c.val).wdFrom) }))) ∧
  (∀ (s : State) (c : Fin 68), s.boot.aoiOn = true → (s.core c.val).loaded = true → (s.core c.val).run = 0 ∨ (s.core c.val).run = 2 →
     s.wdPeriod ≤ s.wdElapsed c.val → s.secondExpiry c.val = false →
     Completes (exec (.watchdogExpiry c) s) (fun t => (t.core c.val).run = 3 ∧ (t.core c.val).expiry = some s.now ∧
       (t.core c.val).x = (s.core c.val).x ∧ (t.core c.val).safe = (s.core c.val).safe ∧ SameCores s t c.val ∧ t.waits = s.waits)) ∧
  (∀ (s : State) (c : Fin 68), s.boot.aoiOn = true → (s.core c.val).loaded = true → (s.core c.val).run = 3 →
     (∀ h : Shadow, (s.core c.val).safe = some h →
       Completes (exec (.coreRestart c .watchdog) s) (fun t =>
         (t.core c.val).pc = h.pc ∧ (t.core c.val).x = h.x ∧ (t.core c.val).d = h.d ∧ (t.core c.val).alarm = h.alarm ∧
         (t.core c.val).tvec = h.tvec ∧ (t.core c.val).inTrap = false ∧ (t.core c.val).run = 0 ∧ (t.core c.val).lastCause = 2 ∧
         (t.core c.val).restarts = Nat.min 255 ((s.core c.val).restarts + 1) ∧ (∀ e ∈ (t.core c.val).queue, e.popped = false) ∧
         (t.core c.val).queue.map (fun e => { e with popped := false }) = (s.core c.val).queue.map (fun e => { e with popped := false }) ∧
         (t.core c.val).async = (s.core c.val).async ∧ SameCores s t c.val ∧ SameRegs s t [])) ∧
     ((s.core c.val).safe = none →
       Completes (exec (.coreRestart c .watchdog) s) (fun t =>
         (t.core c.val).pc = 0 ∧ (t.core c.val).x = [] ∧ (t.core c.val).d = [] ∧ (t.core c.val).lastCause = 2 ∧ (t.core c.val).safe = none ∧
         (t.core c.val).async = (s.core c.val).async ∧ SameCores s t c.val))) ∧
  (∀ (s : State) (c : Fin 68) (i slot : Nat) (o : AsyncOp) (status : BitVec 8) (value : BitVec 32),
     (s.core c.val).async[i]? = some o → (status = 0 ∨ 2 ≤ status.toNat ∧ status.toNat ≤ 7) → freeSlot (s.core c.val).queue = some slot →
     Completes (exec (.asyncCompletion c i status value) s) (fun t => SameCores s t c.val ∧ SameRegs s t [] ∧
       (t.core c.val).async = (s.core c.val).async.erase o ∧ (t.core c.val).x = (s.core c.val).x ∧ (t.core c.val).pc = (s.core c.val).pc ∧
       ∃ e : CoreEv, (t.core c.val).queue = (s.core c.val).queue ++ [e] ∧ e.kind = o.kind ∧ e.status = status.toNat ∧
         e.value = value.toNat ∧ e.popped = false ∧ e.slot = slot))

/-- R118, R438, R440: ARM arms a tile that serves an in-service logical tile of a field whose episode function is ON: one commanded
entry of it stands in the armed queue, and VALUE counts the queue. Otherwise it is refused, and a bad tile ID is BAD_ARG.

R187, R436, R440: TEST of a tile whose field's self-test function is ON and that may be visited is accepted with PENDING and one more
asynchronous operation; a fifth one is answered BUSY, one that may not be visited is refused, and MODE 3 traps. -/
def Obligations.ArmAndTestInstructions : Prop :=
  (∀ (s : State) (c : Fin 68) (rd rs1 : BitVec 5) (tile : Nat), s.ready c → ((s.core c.val).getX rs1.toNat).toNat = tile →
     (tileOk tile = false → Completes (exec (.arm c rd rs1) s) (RegResult s c rd (resultWord 4 0 0))) ∧
     (tileOk tile = true → ¬ MayName c (tileField tile) → Completes (exec (.arm c rd rs1) s) (RegResult s c rd (resultWord 5 0 0))) ∧
     (tileOk tile = true → MayName c (tileField tile) → s.armable tile = true →
       Completes (exec (.arm c rd rs1) s) (fun t => ∃ u,
         u = { s with fields := u.fields } ∧ SameFields s u (tileField tile) ∧
         u.field (tileField tile) = { s.field (tileField tile) with armed := (u.field (tileField tile)).armed } ∧
         (∀ a : Armed, a.tile ≠ tile → (a ∈ (u.field (tileField tile)).armed ↔ a ∈ (s.field (tileField tile)).armed)) ∧
         (∃ a ∈ (u.field (tileField tile)).armed, a.tile = tile ∧ a.commanded = true) ∧
         RegResult u c rd (resultWord 0 0 ((u.field (tileField tile)).armed.length % 2 ^ 32)) t)) ∧
     (tileOk tile = true → MayName c (tileField tile) → s.armable tile = false →
       Completes (exec (.arm c rd rs1) s) (RegResult s c rd (resultWord 3 0 ((s.field (tileField tile)).armed.length % 2 ^ 32))))) ∧
  (∀ (s : State) (c : Fin 68) (rd rs1 : BitVec 5) (mode : BitVec 2) (tile : Nat), s.ready c →
     ((s.core c.val).getX rs1.toNat).toNat = tile → tileOk tile = true → MayName c (tileField tile) →
     (mode ≠ 3 → 4 ≤ (s.core c.val).async.length → Completes (exec (.testOperation c rd rs1 mode) s) (RegResult s c rd (resultWord 2 0 0))) ∧
     (mode ≠ 3 → (s.core c.val).async.length < 4 → s.fnOn (.fieldSelfTest (toFin32 (tileField tile))) = true → s.orderable tile = true →
       Completes (exec (.testOperation c rd rs1 mode) s) (fun t => ∃ u, OnlyCore s u c.val ∧
         XWritten (s.core c.val) (u.core c.val) rd (resultWord 1 0 0) ∧
         (u.core c.val).async = (s.core c.val).async ++ [⟨0x22, 13, tile⟩] ∧ (u.core c.val).pc = (s.core c.val).pc + 4 ∧
         t = u.orderVisit tile mode.toNat (.core c.val))) ∧
     (mode ≠ 3 → (s.core c.val).async.length < 4 → (s.fnOn (.fieldSelfTest (toFin32 (tileField tile))) && s.orderable tile) = false →
       Completes (exec (.testOperation c rd rs1 mode) s) (RegResult s c rd (resultWord 3 0 0))) ∧
     (mode = 3 → s.handles c → ∃ w, Completes (exec (.testOperation c rd rs1 mode) s) (TrapTaken s c 1 w)))

/-- R48, R49, R51, R440: QUAR stalls its core with the update lodged until the tick; at the tick a SUSPECT entry of its key goes to
QUARANTINED and the answer is OK, and one in another state, or none, is REFUSED; rd takes the answer once the tick's writes are done.

R209, R440: REMAP answers a regrowth in REFUSED, and is refused where the logical tile has none; ESCALATE ends it, RETRY takes it
back to its claim.

R440, R442: FILL reads a field's fill engines and queue into a descriptor, and changes nothing else.

R234, R440, R445: SECURE by a keeper core names a boundary for reason firmware; it is refused while securing is not ON, with no
valid map, or for a step taken; a field core is answered NOT_HERE.

R440, R443: DIGEST replaces the request in its descriptor by SHA-256, HMAC-SHA-256 under the job digest key, or PLD-61 of its
source, where no word of it is poisoned (R28); HMAC with no key is refused, and a field core is answered NOT_HERE. -/
def Obligations.QuarRemapFillSecureDigest : Prop :=
  (∀ (s : State) (c : Fin 68) (rd rs1 : BitVec 5) (k : UnitKey) (i : Nat) (e : Entry),
     let o : LedgerOp := ⟨3, k, 0, rd.toNat, 0, none⟩
     (s.ready c → keyArg ((s.core c.val).getX rs1.toNat) = some k →
       Completes (exec (.quar c rd rs1) s) (fun t => OnlyCore s t c.val ∧ t.core c.val = { s.core c.val with ledgerOp := some o })) ∧
     (s.ready c → keyArg ((s.core c.val).getX rs1.toNat) = none →
       Completes (exec (.quar c rd rs1) s) (RegResult s c rd (resultWord 4 0 0))) ∧
     ((s.core c.val).ledgerOp = some o → keyNotHere c.val k = false →
       (s.findEntry k = some (i, e) → e.state = 0 → k = e.key → s.outBefore k = true → (keyTile k).isSome = true →
         let t := s.firmwareWrite c.val
         Tab.get (fun _ => none) t.ledger.slots i = some { e with state := 1 } ∧
           (∀ j, j ≠ i → Tab.get (fun _ => none) t.ledger.slots j = Tab.get (fun _ => none) s.ledger.slots j) ∧ t.tiles = s.tiles ∧
           ∃ v, (t.core c.val).ledgerOp = some { o with done := some (0, v) }) ∧
       (s.findEntry k = none ∨ (∃ j x, s.findEntry k = some (j, x) ∧ x.state ≠ 0) →
         OnlyCore s (s.firmwareWrite c.val) c.val ∧
           ((s.firmwareWrite c.val).core c.val).ledgerOp = some { o with done := some (3, 0) })) ∧
     (∀ st v, (s.core c.val).ledgerOp = some { o with done := some (st, v) } → (s.core c.val).pc + 4 < 65536 → st < 256 → v < 2 ^ 32 →
       let u := s.firmwareAnswer c.val
       OnlyCore s u c.val ∧ XWritten (s.core c.val) (u.core c.val) rd (resultWord st 0 v) ∧ (u.core c.val).ledgerOp = none ∧
         (u.core c.val).pc = (s.core c.val).pc + 4)) ∧
  (∀ (s : State) (c : Fin 68) (rd rs1 : BitVec 5) (l : Nat), s.ready c → ((s.core c.val).getX rs1.toNat).toNat = l → logicalOk l = true →
     MayName c (tileField l) →
     (s.regrowAt l [rgRefused] = none →
       Completes (exec (.remapRetry c rd rs1) s) (RegResult s c rd (resultWord 3 0 0)) ∧
       Completes (exec (.remapEscalate c rd rs1) s) (RegResult s c rd (resultWord 3 0 0))) ∧
     (∀ r, s.regrowAt l [rgRefused] = some r →
       Completes (exec (.remapRetry c rd rs1) s) (fun t => Answers c rd 0 t ∧ t.regrows = (s.regrowRetry r).regrows) ∧
       Completes (exec (.remapEscalate c rd rs1) s) (fun t => Answers c rd 0 t ∧
         t.regrows = ((s.writeRegrow r 3 (if r.slackFailed then rsnSlack else rsnNoSpare)).endRegrow r).regrows))) ∧
  (∀ (s : State) (c : Fin 68) (rd rs1 : BitVec 5) (d : Fin 8) (f : Nat), s.ready c → ((s.core c.val).getX rs1.toNat).toNat = f →
     (32 ≤ f → Completes (exec (.fill c rd rs1 d) s) (RegResult s c rd (resultWord 4 0 0))) ∧
     (f < 32 → MayName c f → Completes (exec (.fill c rd rs1 d) s) (fun t => OnlyCore s t c.val ∧
       XWritten (s.core c.val) (t.core c.val) rd (resultWord 0 0 ((s.queuedRegrows f).length % 2 ^ 32)) ∧
       ∃ v : BitVec 256, DWritten (s.core c.val) (t.core c.val) d.val v ∧
       (∀ n : Nat, n < 2 → v.toNat / 2 ^ (32 * n) % 2 ^ 32 =
         match s.engineUser f n with | some r => r.logical % 2 ^ 19 + 2 ^ 19 * (r.phase % 8) + 2 ^ 22 * (if r.copyFill then 1 else 0) | none => 0) ∧
       v.toNat / 2 ^ 64 % 16 = (s.queuedRegrows f).length % 16 ∧ v.toNat / 2 ^ 68 % 512 = s.freeSpares f % 512))) ∧
  (∀ (s : State) (c : Fin 68) (rd rs1 : BitVec 5) (layers : BitVec 3) (n : Nat), s.ready c → ((s.core c.val).getX rs1.toNat).toNat = n →
     (c.val < 64 → Completes (exec (.secure c rd rs1 layers) s) (RegResult s c rd (resultWord 5 0 0))) ∧
     (64 ≤ c.val → s.fnOn .securing = false ∨ s.rf .kprSecCtrlMapValid 0 = 0 ∨ (n ≠ 0 ∧ n ≤ s.rf .kprSecStepStep 0) →
       Completes (exec (.secure c rd rs1 layers) s) (RegResult s c rd (resultWord 3 0 0))) ∧
     (64 ≤ c.val → s.fnOn .securing = true → s.rf .kprSecCtrlMapValid 0 ≠ 0 → (n = 0 ∨ s.rf .kprSecStepStep 0 < n) → s.sec.named.length < 4 →
       Completes (exec (.secure c rd rs1 layers) s) (fun t => ∃ u : State, u = { s with sec := u.sec } ∧
         (∃ m, u.sec = { s.sec with named := s.sec.named ++ [(n, m)] } ∧ (layers ≠ 0 → m = layers.toNat)) ∧
         RegResult u c rd (resultWord 0 0 0) t))) ∧
  (∀ (s : State) (c : Fin 68) (rd : BitVec 5) (d : Fin 8) (a n seed : Nat), s.ready c →
     (s.core c.val).getD d.val = BitVec.ofNat 256 (a + 2 ^ 64 * n + 2 ^ 128 * seed) → a < 2 ^ 64 → seed < 2 ^ 61 → 0 < n → n ≤ 1048576 →
     (a + n ≤ 0x10000 ∨ 0x10000000 ≤ a ∧ a + n ≤ 0x16000000 ∧ s.ksPoisoned (a - 0x10000000) n = false) →
     let src := if a < 0x10000 then readBytes (s.core c.val).dmem a n else readBytes s.ks (a - 0x10000000) n
     let Digest := fun (v : Nat) (t : State) => OnlyCore s t c.val ∧ XWritten (s.core c.val) (t.core c.val) rd (resultWord 0 0 0) ∧
       DWritten (s.core c.val) (t.core c.val) d.val (BitVec.ofNat 256 v)
     (64 ≤ c.val →
       Completes (exec (.digestSha256 c rd d) s) (Digest (shaNat (bytesOf src 0 n))) ∧
       (∀ key, s.jobKey = some key → Completes (exec (.digestHmac c rd d) s) (Digest (hmacNat key (bytesOf src 0 n)))) ∧
       (s.jobKey = none → Completes (exec (.digestHmac c rd d) s) (RegResult s c rd (resultWord 3 0 0))) ∧
       (n % 4 = 0 → Completes (exec (.digestPld61 c rd d) s) (Digest (pldAt (if seed ≤ 1 then 2 else seed) 0 (wordView src n))))) ∧
     (c.val < 64 → Completes (exec (.digestSha256 c rd d) s) (RegResult s c rd (resultWord 5 0 0)) ∧
       Completes (exec (.digestHmac c rd d) s) (RegResult s c rd (resultWord 5 0 0)) ∧
       Completes (exec (.digestPld61 c rd d) s) (RegResult s c rd (resultWord 5 0 0))))

/-- R51, R52, R440, R444: a LEDGER operation stalls its core, lodged until the tick. At the tick QUERY changes nothing; UPDATE takes
SUSPECT to QUARANTINED where the expected state holds, and is REFUSED with nothing changed where there is no entry; ADD applies one
detection of origin runtime. Once the tick's writes are done, the descriptor takes the entry of the key with its history, and rd the
status. A bad key is answered BAD_ARG at once.

R440, R441, R446, R272, R355: FENCE completes with no posted store outstanding; TIME reads manager time and, in a keeper core, the
WTC; CROAK queues a message of its class and code; MOLT of a poisoned counter asks for recovery and is refused otherwise. -/
def Obligations.LedgerFenceTimeCroakMolt : Prop :=
  (∀ (s : State) (c : Fin 68) (rd rs1 rs2 : BitVec 5) (d : Fin 8) (k : UnitKey) (kind arg : Nat),
     let o : LedgerOp := ⟨kind, k, arg, rd.toNat, d.val, none⟩
     let i := if kind = 0 then Instr.ledgerQueryOp c rd rs1 rs2 d else if kind = 1 then Instr.ledgerUpdateOp c rd rs1 rs2 d
       else Instr.ledgerAddOp c rd rs1 rs2 d
     (s.ready c → kind < 3 → (kind = 0 ∧ arg = 0 ∨ kind ≠ 0 ∧ arg = ((s.core c.val).getX rs2.toNat).toNat) →
       (keyArg ((s.core c.val).getX rs1.toNat) = some k →
         Completes (exec i s) (fun t => OnlyCore s t c.val ∧ t.core c.val = { s.core c.val with ledgerOp := some o })) ∧
       (keyArg ((s.core c.val).getX rs1.toNat) = none →
         Completes (exec i s) (fun t => OnlyCore s t c.val ∧ XWritten (s.core c.val) (t.core c.val) rd (resultWord 4 0 0) ∧
           DWritten (s.core c.val) (t.core c.val) d.val 0))) ∧
     ((s.core c.val).ledgerOp = some o → keyNotHere c.val k = false →
       let t := s.firmwareWrite c.val
       (kind = 0 → OnlyCore s t c.val ∧ (t.core c.val).ledgerOp = some { o with done := some (0, 0) }) ∧
       (kind = 1 → s.findEntry k = none → OnlyCore s t c.val ∧ (t.core c.val).ledgerOp = some { o with done := some (3, 0) }) ∧
       (∀ j e, kind = 1 → s.findEntry k = some (j, e) → e.state = 0 → arg % 64 = 8 → t.ledger = (s.firmwareQuarantine j e).ledger ∧
         t.hist = (s.firmwareQuarantine j e).hist) ∧
       (kind = 2 → causeKnown (arg % 4096) = true → addExcluded.contains (arg % 4096) = false → causeKind (arg % 4096) = k.kind →
         t.ledger = (s.applyDetect k (arg % 4096) 2).ledger ∧ t.hist = (s.applyDetect k (arg % 4096) 2).hist ∧
           t.hz = (s.applyDetect k (arg % 4096) 2).hz)) ∧
     (∀ st v, kind < 3 → (s.core c.val).ledgerOp = some { o with done := some (st, v) } → (s.core c.val).pc + 4 < 65536 → st < 256 →
       v < 2 ^ 32 →
       let u := s.firmwareAnswer c.val
       OnlyCore s u c.val ∧ XWritten (s.core c.val) (u.core c.val) rd (resultWord st 0 v) ∧
         DWritten (s.core c.val) (u.core c.val) d.val (s.ledgerWords k) ∧ (u.core c.val).ledgerOp = none) ∧
     (s.findEntry k = none → s.histOf k = none → s.ledgerWords k = 0)) ∧
  (∀ (s : State) (c : Fin 68) (rd rs1 rs2 : BitVec 5), s.ready c →
     Completes (exec (.fence c rd) s) (fun t => OnlyCore s t c.val ∧ XWritten (s.core c.val) (t.core c.val) rd (resultWord 0 0 0) ∧
       (t.core c.val).posted = 0) ∧
     Completes (exec (.timeManager c rd) s) (RegResult s c rd (BitVec.ofNat 64 s.now)) ∧
     (64 ≤ c.val → Completes (exec (.timeWtc c rd) s) (RegResult s c rd (BitVec.ofNat 64 s.wtc))) ∧
     (c.val < 64 → Completes (exec (.timeWtc c rd) s) (fun t => ∃ u lag, u = { s with freeCtr := u.freeCtr } ∧ lag ≤ 200 ∧
       RegResult u c rd (BitVec.ofNat 64 (s.wtc - lag)) t)) ∧
     (∀ code units buf, ((s.core c.val).getX rs1.toNat).toNat % 2 ^ 15 = code + 256 * units → code < 256 →
       ((s.core c.val).getX rs2.toNat).toNat = buf → buf % 64 = 0 → buf + 64 * units ≤ 0x10000 →
       1 ≤ code → code ≤ 0x23 → code ≠ 0x0C → code ≠ 0x1D → units = 1 → outRoom s.host.outQ 2 = true →
       Completes (exec (.croak c rd rs1 rs2 2) s) (fun t => SameCores s t c.val ∧
         XWritten (s.core c.val) (t.core c.val) rd (resultWord 0 0 0) ∧
         ∃ m : Msg, Queued s t m ∧ m.cls = 2 ∧ m.code = code ∧ m.units = 1 ∧
           m.payload = readBytes (s.core c.val).dmem buf 64 / 2 ^ 128)) ∧
     (∀ cls : BitVec 3, cls ≠ 2 → cls ≠ 5 → s.handles c → ∃ w, Completes (exec (.croak c rd rs1 rs2 cls) s) (TrapTaken s c 1 w)) ∧
     (64 ≤ c.val → ∀ n, ((s.core c.val).getX rs1.toNat).toNat = n → n < 4096 →
       (s.rf .semFlagsPoison n ≠ 1 → Completes (exec (.molt c rd rs1) s) (RegResult s c rd (resultWord 3 0 0))) ∧
       (s.rf .semFlagsPoison n = 1 → s.rf .kprHangStatusRecovery 0 = 0 → s.recRecent < s.rf .kprHangCtrlRecoveryLimit 0 →
         s.domState .compute = 0 →
         Completes (exec (.molt c rd rs1) s) (fun t => t.rf .kprHangStatusRecovery 0 = 1 ∧ t.poisonAsked = n :: s.poisonAsked ∧
           t.domState .compute = 1 ∧ Answers c rd 0 t ∧ t.molts.seq = (s.molts.seq + 1) % 2 ^ 32))))

/-- R281, R440: SEMADD and SEMSUB of a good counter with no waits: the counter takes the sum, held at 2³² − 1, or the difference, held
at 0; VALUE is the count after and FLAGS [0] says that it saturated; no other counter changes. A bad counter or n is BAD_ARG, a
poisoned counter POISONED.

R281, R283, R436, R440: SEMWAIT on a counter that has reached n answers at once, the consuming form with n taken off; on one that
has not, the core stalls with its wait held, or, asynchronous, goes on with PENDING. -/
def Obligations.CoreSemaphoreInstructions : Prop :=
  (∀ (s : State) (c : Fin 68) (rd rs1 rs2 : BitVec 5) (ctr n : Nat), s.ready c → ((s.core c.val).getX rs1.toNat).toNat = ctr →
     ((s.core c.val).getX rs2.toNat).toNat = n →
     (4096 ≤ ctr ∨ n = 0 ∨ 2 ^ 32 ≤ n →
       Completes (exec (.semadd c rd rs1 rs2) s) (RegResult s c rd (resultWord 4 0 0)) ∧
       Completes (exec (.semsub c rd rs1 rs2) s) (RegResult s c rd (resultWord 4 0 0))) ∧
     (ctr < 4096 → 0 < n → n < 2 ^ 32 → s.rf .semFlagsPoison ctr = 1 →
       Completes (exec (.semadd c rd rs1 rs2) s) (RegResult s c rd (resultWord 6 0 0)) ∧
       Completes (exec (.semsub c rd rs1 rs2) s) (RegResult s c rd (resultWord 6 0 0))) ∧
     (ctr < 4096 → 0 < n → n < 2 ^ 32 → s.rf .semFlagsPoison ctr ≠ 1 → s.rf .semCountCount ctr < 2 ^ 32 →
       (s.waits = [] → s.rf .kprSecCtrlMapValid 0 ≠ 1 →
         Completes (exec (.semadd c rd rs1 rs2) s) (fun t =>
           t.rf .semCountCount ctr = Nat.min (2 ^ 32 - 1) (s.rf .semCountCount ctr + n) ∧
           SameRegs s t ((.semCountCount, ctr) :: if 2 ^ 32 ≤ s.rf .semCountCount ctr + n then [(.semFlagsAddSat, ctr)] else []) ∧
           (2 ^ 32 ≤ s.rf .semCountCount ctr + n → t.rf .semFlagsAddSat ctr = 1 ∧ Raised s t 10 0 [.log]) ∧
           SameCores s t c.val ∧ XWritten (s.core c.val) (t.core c.val) rd
             (resultWord 0 (if 2 ^ 32 ≤ s.rf .semCountCount ctr + n then 1 else 0) (t.rf .semCountCount ctr)))) ∧
       Completes (exec (.semsub c rd rs1 rs2) s) (fun t =>
         t.rf .semCountCount ctr = s.rf .semCountCount ctr - n ∧
         SameRegs s t ((.semCountCount, ctr) :: if s.rf .semCountCount ctr < n then [(.semFlagsSubSat, ctr)] else []) ∧
         (s.rf .semCountCount ctr < n → t.rf .semFlagsSubSat ctr = 1 ∧ Raised s t 10 0 [.log]) ∧
         SameCores s t c.val ∧ XWritten (s.core c.val) (t.core c.val) rd
           (resultWord 0 (if s.rf .semCountCount ctr < n then 1 else 0) (t.rf .semCountCount ctr))))) ∧
  (∀ (s : State) (c : Fin 68) (rd rs1 rs2 : BitVec 5) (ctr n : Nat), s.ready c → ((s.core c.val).getX rs1.toNat).toNat = ctr →
     ((s.core c.val).getX rs2.toNat).toNat = n → ctr < 4096 → 0 < n → n < 2 ^ 32 → s.rf .semFlagsPoison ctr ≠ 1 →
     s.rf .semCountCount ctr < 2 ^ 32 → s.waits = [] →
     (n ≤ s.rf .semCountCount ctr →
       Completes (exec (.semwait c rd rs1 rs2 false) s) (RegResult s c rd (resultWord 0 0 (s.rf .semCountCount ctr))) ∧
       Completes (exec (.semwaitConsume c rd rs1 rs2 false) s) (fun t => ∃ u, OnlyRegs s u [(.semCountCount, ctr)] ∧
         u.rf .semCountCount ctr = s.rf .semCountCount ctr - n ∧ RegResult u c rd (resultWord 0 0 (s.rf .semCountCount ctr - n)) t)) ∧
     (s.rf .semCountCount ctr < n → ∀ consume : Bool,
       let i := fun (async : Bool) => if consume then Instr.semwaitConsume c rd rs1 rs2 async else Instr.semwait c rd rs1 rs2 async
       Completes (exec (i false) s) (fun t => t = { s with cores := t.cores, waits := t.waits } ∧ SameCores s t c.val ∧
         t.core c.val = { s.core c.val with stall := some rd.toNat } ∧ t.waits = [⟨.core c.val rd.toNat false, ctr, n, consume, s.now⟩]) ∧
       ((s.core c.val).async.length < 4 →
         Completes (exec (i true) s) (fun t => SameCores s t c.val ∧ XWritten (s.core c.val) (t.core c.val) rd (resultWord 1 0 0) ∧
           (t.core c.val).pc = (s.core c.val).pc + 4 ∧ (t.core c.val).async = (s.core c.val).async ++ [⟨0x2B, 14, ctr⟩] ∧
           t.waits = [⟨.core c.val rd.toNat true, ctr, n, consume, s.now⟩] ∧ SameRegs s t []))))

/-- R88, R90: the tap of a tile follows its transition table: an Enable event (the tap is requested on, and may start: a tap that enters
the window waits until those that left it are OFF), a Disable event, start done, drain done, and the tick with ENABLE_PENDING set. Nothing but the fields named changes.

R83, R90 to R95: the end of a hold period, the advance of a rotation window, a write of ROT_PERIOD (in force in the next tick, when an
overdue window advances), the allocation of taps over fields, and the injection request. -/
def Obligations.TapTransitionsAndHolds : Prop :=
  (∀ (s : State) (tile : Nat), tileOk tile = true →
     let state := s.rf .tsnTapCtrlState tile
     let Started := fun (t : State) => t = { s with tiles := t.tiles, regs := t.regs } ∧ SameTiles s t tile ∧
       SameRegs s t [(.tsnTapCtrlState, tile), (.tsnTapCtrlEnablePending, tile)] ∧ t.rf .tsnTapCtrlState tile = 1 ∧
       t.rf .tsnTapCtrlEnablePending tile = 0 ∧ (t.tile tile).tapStartAt = s.now ∧
       ((s.tile tile).lfsr = 0 → (t.tile tile).lfsr = lfsrStart tile (s.rf .kprTapSeedActiveSeed 0))
     let Sets := fun (o : Host.Outcome State Fault Refusal) (F : RF) (v : Nat) =>
       Completes o (fun t => OnlyRegs s t [(F, tile)] ∧ t.rf F tile = v)
     (s.tapWanted tile = true → s.tapMayStart tile = false → exec (.tapEnable tile) s = .next s) ∧
     (s.tapWanted tile = true → s.tapMayStart tile = true →
       (state = 0 → (s.tile tile).tapOffAt + 1 ≤ s.now → Completes (exec (.tapEnable tile) s) Started) ∧
       (state = 0 → s.now < (s.tile tile).tapOffAt + 1 → Sets (exec (.tapEnable tile) s) .tsnTapCtrlEnablePending 1) ∧
       (state = 1 → Sets (exec (.tapEnable tile) s) .tsnTapCtrlDisablePending 0) ∧
       (state = 2 → exec (.tapEnable tile) s = .next s) ∧
       (state = 3 → Sets (exec (.tapEnable tile) s) .tsnTapCtrlEnablePending 1)) ∧
     (s.tapWanted tile = false →
       (state = 0 → Sets (exec (.tapDisable tile) s) .tsnTapCtrlEnablePending 0) ∧
       (state = 1 → Sets (exec (.tapDisable tile) s) .tsnTapCtrlDisablePending 1) ∧
       (state = 2 → Sets (exec (.tapDisable tile) s) .tsnTapCtrlState 3) ∧
       (state = 3 → Sets (exec (.tapDisable tile) s) .tsnTapCtrlEnablePending 0)) ∧
     (state = 1 → 128 ≤ (s.now + 1 - (s.tile tile).tapStartAt) * s.clock →
       (s.rf .tsnTapCtrlDisablePending tile ≠ 1 → Completes (exec (.tapStartDone tile) s) (fun t =>
         t = { s with tiles := t.tiles, regs := t.regs } ∧ SameTiles s t tile ∧ SameRegs s t [(.tsnTapCtrlState, tile)] ∧
         t.rf .tsnTapCtrlState tile = 2 ∧ (t.tile tile).tapSeq = 0)) ∧
       (s.rf .tsnTapCtrlDisablePending tile = 1 → Completes (exec (.tapStartDone tile) s) (fun t =>
         t = { s with tiles := t.tiles, regs := t.regs } ∧ SameTiles s t tile ∧
         SameRegs s t [(.tsnTapCtrlState, tile), (.tsnTapCtrlDisablePending, tile)] ∧ t.rf .tsnTapCtrlState tile = 3 ∧
         t.rf .tsnTapCtrlDisablePending tile = 0 ∧ (t.tile tile).tapNever = true))) ∧
     (state = 3 → Completes (exec (.tapDrainDone tile) s) (fun t =>
       t = { s with tiles := t.tiles, regs := t.regs } ∧ SameTiles s t tile ∧ SameRegs s t [(.tsnTapCtrlState, tile)] ∧
       t.rf .tsnTapCtrlState tile = 0 ∧ (t.tile tile).tapOffAt = s.now)) ∧
     (state = 0 → s.rf .tsnTapCtrlEnablePending tile = 1 → (s.tile tile).tapOffAt + 1 ≤ s.now →
       Completes (exec (.tapPendingStart tile) s) Started)) ∧
  (∀ (s : State) (tile : Nat) (f : Fin 32) (h : Nat) (period : BitVec 16), tileOk tile = true →
     ((s.tile tile).holdFrom = some h → 65536 ≤ (s.now + 1 - h) * s.clock →
       ((s.tile tile).held = 0 → Completes (exec (.tapHoldEnd tile) s) (fun t => t = { s with tiles := t.tiles } ∧ SameTiles s t tile ∧
         (t.tile tile).holdFrom = none)) ∧
       (0 < (s.tile tile).held → Completes (exec (.tapHoldEnd tile) s) (fun t => SameTiles s t tile ∧ (t.tile tile).held = 0 ∧
         (t.tile tile).holdFrom = some s.now ∧ SameRegs s t [] ∧
         ∃ r, t.out = .record tile r :: s.out ∧ bits r 4 4 = 2 ∧ bits r 224 16 = (s.tile tile).held % 2 ^ 16 ∧ recordOk r 30 = true))) ∧
     ((s.field f.val).tapAdvAt + (s.field f.val).rotNow ≤ s.now → s.nOn < s.nService → 0 < s.inService f.val →
       Completes (exec (.tapWindowAdvance f) s) (fun t => t = { s with fields := t.fields, regs := t.regs } ∧ SameFields s t f.val ∧
         SameRegs s t [(.fstTapStatusWindowStart, f.val)] ∧ t.rf .fstTapStatusWindowStart f.val =
           (s.rf .fstTapStatusWindowStart f.val + (s.field f.val).tapN) % s.inService f.val % 2 ^ RF.fstTapStatusWindowStart.spec.width ∧
         (t.field f.val).tapAdvAt = s.now ∧ (t.field f.val).tapN = (s.field f.val).tapN ∧
         (t.field f.val).tapWas = (s.rf .fstTapStatusWindowStart f.val, (s.field f.val).tapN))) ∧
     (s.nService ≤ s.nOn → exec (.tapWindowAdvance f) s = .next s) ∧
     Completes (exec (.rotPeriodWrite f period) s) (fun t => OnlyRegs s t [(.fstTapCtrlRotPeriod, f.val)] ∧
       t.rf .fstTapCtrlRotPeriod f.val = period.toNat) ∧
     ((s.rotTick f.val).field f.val).rotNow = Nat.max 100 (s.rf .fstTapCtrlRotPeriod f.val) ∧
     Completes (exec (.tsnTapInject tile) s) (fun t => OnlyRegs s t [(.tsnTapCtrlInject, tile)] ∧ t.rf .tsnTapCtrlInject tile = 1) ∧
     (0 < s.nService → Completes (exec .tapAllocationRecompute s) (fun t => t = { s with fields := t.fields, regs := t.regs } ∧
       SameRegs s t [(.kprTapCoverOn, 0), (.kprTapCoverFraction, 0), (.kprAllowanceRotating, 0)] ∧
       (∀ g, g < 32 → (t.field g).tapN = Nat.min s.nService ((s.allowanceUw - s.rsfUw) / 1500) * s.inService g / s.nService) ∧
       (∀ g, 32 ≤ g → t.field g = s.field g))))

/-- R79, R83, R88: a block that a tap judges. A tap that is OFF or STARTING judges none, nor does one in DRAINING that was never ON, has
judged the block in progress at its Disable, or meets a block that began after it. One that cannot be checked is counted unchecked and takes a BLOCK_SEQ; one whose results hold a
NaN with none put in is a mismatch: counted, and its record sent where no hold period runs.

R81, R84, R86: a good tap record is counted and kept, and one of TYPE 1 or 2 brings a class 5 event: a detection of its tile, the
voiding of copies, and its post. A record whose check fails only sets RECORD_CRC. -/
def Obligations.TapBlocksAndRecords : Prop :=
  (∀ (s : State) (tile : Nat) (b : TapBlock), tileOk tile = true →
     (s.rf .tsnTapCtrlState tile = 0 ∨ s.rf .tsnTapCtrlState tile = 1 → exec (.tapBlockJudge tile b) s = .next s) ∧
     (s.rf .tsnTapCtrlState tile = 3 → (s.tile tile).drained = true ∨ (s.tile tile).tapNever = true ∨ b.afterOn = true →
       exec (.tapBlockJudge tile b) s = .next s) ∧
     (s.rf .tsnTapCtrlState tile = 2 → blkCase b = .unchecked → s.rf .tsnTapUncheckedUnchecked tile + 1 < 2 ^ RF.tsnTapUncheckedUnchecked.spec.width →
       Completes (exec (.tapBlockJudge tile b) s) (fun t => SameTiles s t tile ∧ OnlyRegs { s with tiles := t.tiles } t [(.tsnTapUncheckedUnchecked, tile)] ∧
         t.rf .tsnTapUncheckedUnchecked tile = s.rf .tsnTapUncheckedUnchecked tile + 1 ∧
         (t.tile tile).tapSeq = ((s.tile tile).tapSeq + 1) % 2 ^ 32)) ∧
     (s.rf .tsnTapCtrlState tile = 2 → blkCase b = .special → s.rf .tsnTapCtrlInject tile = 0 → (s.tile tile).holdFrom = none →
       s.rf .tsnTapMismatchesMismatches tile + 1 < 2 ^ RF.tsnTapMismatchesMismatches.spec.width →
       Completes (exec (.tapBlockJudge tile b) s) (fun t => SameTiles s t tile ∧
         SameRegs s t [(.tsnTapBlocksBlocks, tile), (.fstTapBlocksBlocks, tileField tile), (.tsnTapMismatchesMismatches, tile)] ∧
         t.rf .tsnTapMismatchesMismatches tile = s.rf .tsnTapMismatchesMismatches tile + 1 ∧
         t.rf .tsnTapBlocksBlocks tile = (s.rf .tsnTapBlocksBlocks tile + 1) % 2 ^ RF.tsnTapBlocksBlocks.spec.width ∧
         (t.tile tile).tapSeq = ((s.tile tile).tapSeq + 1) % 2 ^ 32 ∧ (t.tile tile).holdFrom = some s.now ∧
         ∃ r, t.out = .record tile r :: s.out ∧ bits r 0 4 = 1 ∧ bits r 4 4 = 1 ∧ bits r 28 1 = 1 ∧ bits r 32 19 = tile ∧ recordOk r 30 = true))) ∧
  (∀ (s : State) (f : Fin 32) (r : BitVec 256),
     (recordOk r.toNat 30 = false → Completes (exec (.tapRecordArrival f r) s) (fun t => OnlyRegs s t [(.fstTapFlagsRecordCrc, f.val)] ∧
       t.rf .fstTapFlagsRecordCrc f.val = 1)) ∧
     (recordOk r.toNat 30 = true → tileOk (bits r.toNat 32 19) = true → s.sliceDepth (tileField (bits r.toNat 32 19)) < 511 →
       Completes (exec (.tapRecordArrival f r) s) (fun t =>
         SameRegs s t [(.fstTapRecordsCount, f.val), (.fstTapFlagsRecordSat, f.val), (.fstTapLastRecord, f.val)] ∧
         t.rf .fstTapLastRecord f.val = r.toNat ∧
         (s.rf .fstTapRecordsCount f.val + 1 < 2 ^ RF.fstTapRecordsCount.spec.width → t.rf .fstTapRecordsCount f.val = s.rf .fstTapRecordsCount f.val + 1) ∧
         ∃ acts, Raised s t (if bits r.toNat 4 4 = 1 ∨ bits r.toNat 4 4 = 2 then 5 else 10) (locTile (bits r.toNat 32 19)) acts ∧
           .post 1 f.val (bits r.toNat 32 19) 32 r.toNat false ∈ acts ∧
           (bits r.toNat 4 4 = 1 ∨ bits r.toNat 4 4 = 2 →
             .detect ⟨1, bits r.toNat 32 19, 0⟩ (if bits r.toNat 8 4 = 0 then 0x002 else 0x001) 2 ∈ acts))))

/-- R116 to R118: an arm report enters the tile in its field's armed queue, one entry a tile, and a disarm report takes out the
entry its exposure put there; the ARM bit arms a tile that may be armed; the report of a tile that crosses the quota
that its field's Sentinels last evaluated is sent.

R129: every Sentinel of the field with exposure compares again with the quota as written. One tile alone listed that now reaches its
quota reads ARMED and sends an arm report; one that no longer reaches it reads unarmed and sends a disarm report; nothing else changes.

R113: while the spares replaying fit the share nothing is shed; one episode over the share is abandoned with reason 11. -/
def Obligations.ArmingQuotaAndReplayShare : Prop :=
  (∀ (s : State) (tile active idle : Nat), tileOk tile = true →
     let q := fun (t : State) => (t.field (tileField tile)).armed
     Completes (exec (.armReport tile false) s) (fun t => t = { s with fields := t.fields } ∧ SameFields s t (tileField tile) ∧
       (∃ a ∈ q t, a.tile = tile ∧ (∀ b ∈ q s, b.tile = tile → b.commanded = false) → a.at_ = s.now) ∧
       (∀ a : Armed, a.tile ≠ tile → (a ∈ q t ↔ a ∈ q s)) ∧ ((∀ b ∈ q s, b.tile ≠ tile) → q t = q s ++ [⟨tile, false, s.now, false⟩])) ∧
     Completes (exec (.armReport tile true) s) (fun t => t = { s with fields := t.fields } ∧ SameFields s t (tileField tile) ∧
       q t = (q s).filter (fun a => decide (a.tile ≠ tile) || a.commanded)) ∧
     (s.armable tile = true → Completes (exec (.tsnEpArm tile) s) (fun t => SameFields s t (tileField tile) ∧
       SameRegs s t [(.tsnEpCtrlArm, tile)] ∧ (∃ a ∈ q t, a.tile = tile ∧ a.commanded = true) ∧ ∀ a : Armed, a.tile ≠ tile → (a ∈ q t ↔ a ∈ q s))) ∧
     (s.armable tile = false → Completes (exec (.tsnEpArm tile) s) (fun t => OnlyRegs s t [(.tsnEpCtrlArm, tile)])) ∧
     (s.rf .kprMonStatusHold 0 ≠ 1 → s.computeUp = true → s.armedNow tile = false →
       s.rf .tsnExposureExposure tile + active < 2 ^ RF.tsnExposureExposure.spec.width →
       2 ^ (s.field (tileField tile)).quotaSeen ≤ s.rf .tsnExposureExposure tile + active - s.rf .tsnExposureCheckedChecked tile →
       Completes (exec (.armReportSend tile active idle) s) (fun t => SameTiles s t tile ∧
         SameRegs s t [(.tsnExposureExposure, tile), (.tsnEpCtrlArmed, tile)] ∧ t.rf .tsnExposureExposure tile = s.rf .tsnExposureExposure tile + active ∧
         t.rf .tsnEpCtrlArmed tile = 1 ∧ (t.tile tile).sinceArm = 0 ∧ ∃ r, t.out = .record tile r :: s.out ∧ bits r 32 19 = tile ∧ bits r 31 1 = 0))) ∧
  (∀ (s : State) (f : Fin 32) (tile : Nat) (was : Bool), s.exposedTiles f.val = [tile] →
     s.rf .tsnEpCtrlArmed tile = (if was then 1 else 0) →
     decide (2 ^ s.quotaLog2 f.val ≤ s.rf .tsnExposureExposure tile - s.rf .tsnExposureCheckedChecked tile) = !was →
     Completes (exec (.quotaReevaluate f) s) (fun t =>
       t = { s with regs := t.regs, out := t.out, fields := t.fields, tiles := t.tiles } ∧
       SameRegs s t [(.tsnEpCtrlArmed, tile)] ∧ SameTiles s t tile ∧ SameFields s t f.val ∧
       (t.field f.val).quotaSeen = s.quotaLog2 f.val ∧ (t.tile tile).sinceArm = 0 ∧ t.rf .tsnEpCtrlArmed tile = (if was then 0 else 1) ∧
       ∃ r, t.out = .record tile r :: s.out ∧ bits r 0 4 = 1 ∧ bits r 31 1 = (if was then 1 else 0) ∧ bits r 32 19 = tile % 2 ^ 19)) ∧
  (∀ (s : State), (s.replayCount ≤ s.replayLimit → exec .replayShareShed s = .next s) ∧
     (∀ e : Episode, s.episodes = [e] → e.phase = 2 → tileOk e.tile = true → e.spare ≠ 0 → e.spare2 = 0 → s.replayLimit < s.replayCount →
       s.ending = [] →
       Completes (exec .replayShareShed s) (fun t => t.episodes = [] ∧ (t.tile e.spare).replaying = false ∧
         ∃ x, t.ending = [x] ∧ x.ep = e ∧ x.verdict = 3 ∧ x.reason = 11)))

/-- R107, R119, R120: a slot that opens with a commanded tile to check, a spare and room under the share gives that tile a GO: an
episode of SELECT 2 that waits, with its spare and the window and quota in force. A slot that opens while the function is not ON gives
none.

R121, R124: a tile that is active within GO_WAIT of its GO, the function ON, asks for its row bus and a port with its position and
context held; granted, its capture begins: the episode takes the next number, t0, START_WTC and the exposure it will have checked. A GO
whose wait has passed lapses: it is released and counted.

R100 to R106, R108, R112, R124: with its snapshot complete an episode goes on to the replay; the load of its spare gives the spare the
slot's context, SRAM and records; a spare that has run W cycles leads to the readout; a
capture queue of more than 32 beats, or more than 18,432 records, ends the episode INCONCLUSIVE with reason 2, and a flit of another
epoch that reaches the tile in the window with reason 3. -/
def Obligations.EpisodesStartAndRun : Prop :=
  (∀ (s : State) (f : Fin 32) (a : Armed) (sp n : Nat), 0 < s.epRate f.val →
     (s.field f.val).slotAt + (1000000 + s.epRate f.val - 1) / s.epRate f.val ≤ s.now →
     let u := s.setField f.val { s.field f.val with slotAt := s.now }
     (u.fnOn (.fieldEpisode f) = false → exec (.episodeSlotOpen f) s = .next u) ∧
     (u.fnOn (.fieldEpisode f) = true → (u.fieldEpisodes f.val).length < u.maxInflight f.val →
       (u.field f.val).armed.find? (fun a => a.commanded && u.checkable a.tile) = some a → u.pickSpare a.tile = some sp →
       u.freeEpSlot f.val = some n → u.replayHeld < u.replayLimit →
       Completes (exec (.episodeSlotOpen f) s) (fun t => SameFields s t f.val ∧ (t.field f.val).slotAt = s.now ∧
         SameRegs s t [(.tsnEpCtrlGo, a.tile)] ∧ t.rf .tsnEpCtrlGo a.tile = 1 ∧
         ∃ e : Episode, t.episodes = s.episodes ++ [e] ∧ e.tile = a.tile ∧ e.spare = sp ∧ e.slot = n ∧ e.select = 2 ∧ e.phase = 0 ∧
           e.window = u.epWindow f.val ∧ e.quota = u.quotaLog2 f.val ∧ e.goAt = s.now))) ∧
  (∀ (s : State) (tile : Nat) (pos : BitVec 32) (img : TileImage) (e : Episode), tileOk tile = true → s.episodeOf tile = some e →
     e.tile = tile → e.phase = 0 →
     (s.now ≤ e.goAt + s.goWait (tileField tile) → s.fnOn (.fieldEpisode (toFin32 (tileField tile))) = true →
       Completes (exec (.episodeStart tile ⟨pos, img, []⟩) s) (fun t => t = { s with episodes := t.episodes } ∧
         t.episodes.map (fun x => x.tile) = s.episodes.map (fun x => x.tile) ∧ (∀ x ∈ s.episodes, x.tile ≠ tile → x ∈ t.episodes) ∧
         (∃ x ∈ t.episodes, x.tile = tile ∧ x.phase = 0 ∧ x.ready = true ∧ x.streamPos = pos.toNat) ∧
         ∃ a ∈ t.episodeAsks, a.what = .capture ∧ a.tile = tile ∧ a.owner = tile ∧ a.cls = clsReplay)) ∧
     (e.ready = true →
       let t := s.captureGranted tile
       t.rf .tsnEpCtrlGo tile = 0 ∧ t.rf .tsnEpCtrlCapturing tile = 1 ∧ t.now = s.now ∧ t.tiles = s.tiles ∧
         t.episodes.map (fun x => x.tile) = s.episodes.map (fun x => x.tile) ∧
         ∃ x ∈ t.episodes, x.tile = tile ∧ x.phase = 1 ∧ x.t0 = s.now ∧ x.startWtc = s.wtc ∧ x.streamPos = e.streamPos ∧
           x.saved = s.rf .tsnExposureExposure tile ∧ x.epoch = s.rf .kprEpochCurrent 0 ∧
           x.number = (if (s.field (tileField tile)).epNext = (s.field (tileField tile)).epEnd then s.rf .kprEpNextNext 0
             else (s.field (tileField tile)).epNext)) ∧
     (e.goAt + s.goWait (tileField tile) < s.now →
       s.rf .fstEpLapsedCount (tileField tile) + 1 < 2 ^ RF.fstEpLapsedCount.spec.width →
       Completes (exec (.goWaitExpiry tile) s) (fun t => (∀ x ∈ t.episodes, x.tile ≠ tile) ∧ t.rf .tsnEpCtrlGo tile = 0 ∧
         t.rf .fstEpLapsedCount (tileField tile) = s.rf .fstEpLapsedCount (tileField tile) + 1 ∧
         SameRegs s t [(.tsnEpCtrlGo, tile), (.tsnEpCtrlCapturing, tile), (.fstEpLapsedCount, tileField tile)]))) ∧
  (∀ (s : State) (tile : Nat) (e : Episode) (x : TileCycle), tileOk tile = true → s.episodeOf tile = some e → e.tile = tile →
     let Ended := fun (reason : Nat) (t : State) => (∀ x ∈ t.episodes, x.tile ≠ tile) ∧ t.rf .tsnEpCtrlCapturing tile = 0 ∧
       ∃ y ∈ t.ending, y.ep.tile = tile ∧ y.verdict = 2 ∧ y.reason = reason
     let Foreign := x.arrivals.any (fun f => jobFlit f && decide (f.epoch.toNat ≠ e.epoch)) = true
     (e.phase = 1 → e.cap.snapDone = true → exec (.snapshotComplete ⟨tile, []⟩) s =
       .next { s with episodes := s.episodes.map (fun x => if x.tile = tile then { e with phase := 2 } else x) }) ∧
     (e.phase = 2 → e.spare ≠ 0 → ((s.loadGranted tile).tile e.spare).replaying = true ∧
       (∃ y ∈ (s.loadGranted tile).episodes, y.tile = tile ∧ y.loaded = true ∧ y.loadAt = some s.now) ∧
       (s.loadGranted tile).out = .replay e.spare e.window (s.slotImage (tileField tile) e.slot)
         (s.slotRecs (tileField tile) e.slot e.cap.records) :: s.out) ∧
     (e.phase = 2 → s.ranFull e = true → exec (.replayRunDone tile) s =
       .next { s with episodes := s.episodes.map (fun x => if x.tile = tile then { e with phase := 3 } else x) }) ∧
     (e.phase = 1 → e.cap.done = false → s.ending = [] → ¬ (e.cap.cycle < e.window ∧ Foreign) →
       queueBeats < (e.cap.step e.window x).2.queue.length →
       Completes (exec (.captureOverflow ⟨tile, [x]⟩) s) (fun t => Ended 2 t ∧ t.rf .tsnEpCtrlOverflowSeen tile = 1)) ∧
     (∀ l, e.phase = 1 → e.cap.done = false → s.ending = [] → ¬ (e.cap.cycle < e.window ∧ Foreign) →
       (e.cap.step e.window x).2.queue.length ≤ queueBeats → (e.cap.step e.window x).1 = .records l →
       e.cap.records ≤ slotRecords → slotRecords < e.cap.records + l.length →
       Completes (exec (.recordRegionOverflow tile [x]) s) (Ended 2)) ∧
     (e.phase = 1 → e.cap.done = false → s.ending = [] → e.cap.cycle < e.window → Foreign →
       Completes (exec (.snapshotComplete ⟨tile, [x]⟩) s) (Ended 3)))

/-- R109 to R115: the comparison of a replay with its tile, once the capture and the readout are in. Equal runs end in MATCH; runs that
differ look for a second spare; a second spare that agrees with the first ends in MISMATCH, one that agrees with the tile in
INCONCLUSIVE, naming the first spare, and no second spare within 1,000 ticks lets the MISMATCH stand; an episode older than 10,000 ticks
ends ABANDONED. What an episode holds is released at once.

R110, R111, R113 to R115: the verdict of an ended episode, given in the tick it ended in. MATCH counts, takes the exposure saved as
checked and raises no event; MISMATCH counts and is a class 5 event with a detection of the tile, the voiding of copies since START_WTC
and the verdict record; INCONCLUSIVE and ABANDONED count, keep their record and are class 10. -/
def Obligations.EpisodeVerdictsAreReached : Prop :=
  (∀ (s : State) (tile : Nat) (e : Episode) (a b : RunResult) (r : SpareRun), tileOk tile = true → s.episodeOf tile = some e →
     e.tile = tile → s.ending = [] →
     let Ends := fun (verdict reason confirm : Nat) (spares : List Nat) (t : State) => (∀ x ∈ t.episodes, x.tile ≠ tile) ∧
       t.rf .tsnEpCtrlCapturing tile = 0 ∧ t.events = s.events ∧ (∀ x ∈ t.transfers, x.owner = tile → x.what.port = false) ∧
       ∃ x, t.ending = [x] ∧ x.ep.tile = tile ∧ x.verdict = verdict ∧ x.reason = reason ∧ x.confirm = confirm ∧ x.spares = spares
     (e.phase = 3 → e.tileRun = some a → s.readDone e = true → s.replayResult e r = a →
       Completes (exec (.episodeCompare tile [] r.emitted r.image) s) (Ends 0 0 0 [])) ∧
     (e.phase = 3 → e.tileRun = some a → s.readDone e = true → s.replayResult e r = b → a ≠ b →
       Completes (exec (.episodeCompare tile [] r.emitted r.image) s) (fun t => t.events = s.events ∧ t.ending = [] ∧
         ∃ x ∈ t.episodes, x.tile = tile ∧ x.phase = 4 ∧ x.spareRun = some b ∧ x.confirmAt = s.now ∧ x.loadAt = none ∧ x.readAt = none ∧
           x.sigDiff = decide (a.signature ≠ b.signature) ∧ x.sramDiff = decide (a.digest ≠ b.digest))) ∧
     (e.phase = 4 → e.spare2 ≠ 0 → s.readDone e = true → e.tileRun = some a → e.spareRun = some b → a ≠ b →
       (s.replayResult e r = b → Completes (exec (.confirmReplayDone tile r) s) (Ends 1 0 1 [])) ∧
       (s.replayResult e r = a → Completes (exec (.confirmReplayDone tile r) s) (Ends 2 1 2 [e.spare])) ∧
       (s.replayResult e r ≠ a → s.replayResult e r ≠ b → Completes (exec (.confirmReplayDone tile r) s) (Ends 1 0 3 [e.spare, e.spare2]))) ∧
     (e.phase = 4 → e.spare2 = 0 → e.confirmAt + 1000 ≤ s.now → Completes (exec (.confirmSpareTimeout tile) s) (Ends 1 0 0 [e.spare])) ∧
     (1 ≤ e.phase → e.t0 + 10000 ≤ s.now → Completes (exec (.episodeDeadline tile) s) (fun t => (∀ x ∈ t.episodes, x.tile ≠ tile) ∧
       t.rf .tsnEpCtrlCapturing tile = 0 ∧ ∃ x ∈ t.ending, x.ep = e ∧ x.verdict = 3 ∧ x.reason = 12))) ∧
  (∀ (s : State) (x : Ending), s.ending = [x] → tileOk x.ep.tile = true → s.stationUp (toFin32 (tileField x.ep.tile)) = true →
     s.sliceDepth (tileField x.ep.tile) < 511 →
     let f := tileField x.ep.tile
     let t := s.giveVerdicts
     t.ending = [] ∧ t.episodes = s.episodes ∧
     (x.verdict = 0 → s.rf .fstEpMatchCount f + 1 < 2 ^ RF.fstEpMatchCount.spec.width → t.events = s.events ∧
       t.rf .fstEpMatchCount f = s.rf .fstEpMatchCount f + 1 ∧
       t.rf .tsnExposureCheckedChecked x.ep.tile = x.ep.saved % 2 ^ RF.tsnExposureCheckedChecked.spec.width ∧
       (t.field f).verdictsAt = some s.now) ∧
     (x.verdict = 1 → s.rf .fstEpMismatchCount f + 1 < 2 ^ RF.fstEpMismatchCount.spec.width →
       t.rf .fstEpMismatchCount f = s.rf .fstEpMismatchCount f + 1 ∧ bits (t.rf .fstEpLastRecord f) 4 4 = 1 ∧
       bits (t.rf .fstEpLastRecord f) 29 2 = x.confirm % 4 ∧
       ∃ acts, Raised s t 5 (locStation f) acts ∧ .detect ⟨1, x.ep.tile, 0⟩ (if x.ep.sigDiff then 0x003 else 0x004) 2 ∈ acts ∧
         (∀ u ∈ x.spares, .detect ⟨1, u, 0⟩ 0x005 2 ∈ acts) ∧ .void x.ep.startWtc ∈ acts) ∧
     (x.verdict = 2 → s.rf .fstEpInconclusiveCount f + 1 < 2 ^ RF.fstEpInconclusiveCount.spec.width →
       t.rf .fstEpInconclusiveCount f = s.rf .fstEpInconclusiveCount f + 1 ∧ bits (t.rf .fstEpLastRecord f) 4 4 = 2 ∧
       bits (t.rf .fstEpLastRecord f) 8 4 = x.reason % 16 ∧ ∃ acts, Raised s t 10 (locStation f) acts ∧
         ∀ u ∈ x.spares, .detect ⟨1, u, 0⟩ 0x005 2 ∈ acts) ∧
     (x.verdict = 3 → s.rf .fstEpAbandonedCount f + 1 < 2 ^ RF.fstEpAbandonedCount.spec.width →
       t.rf .fstEpAbandonedCount f = s.rf .fstEpAbandonedCount f + 1 ∧ bits (t.rf .fstEpLastRecord f) 4 4 = 3 ∧
       bits (t.rf .fstEpLastRecord f) 8 4 = x.reason % 16 ∧ ∃ acts, Raised s t 10 (locStation f) acts))

/-- R194, R342 to R344: a stall that the manual exempts is not reported; a tile that otherwise stalls for the limit sends one stall record and holds what it waits for in its registers; the first record
to arrive opens the naming window, and one that arrives within 100 ticks joins it.

R344 to R346: 100 ticks after it opened the naming window closes with one hang record, a class 4 event and HANG: it names the
stall record with the earliest start, counts the tiles that stalled, and recovery begins where AUTO_RECOVER is set.

R355, R360: a write of KPR_RECOVER_REQ with its key asks for recovery while the Keeper answers; with another key it sets ACCESS_ERR
and changes nothing else. -/
def Obligations.StallsAndRecoverRequests : Prop :=
  (∀ (s : State) (tile : Nat) (i : StallInfo), tileOk tile = true → s.launch.running = true →
     ((s.tile tile).stall = true ∨ (s.tile tile).underTest = true ∨ (s.tile tile).inWindow = true ∨ s.rf .kprMonStatusHold 0 = 1 ∨
       s.logicalOf tile = none ∨ (∃ r ∈ s.regrows, r.rot = 0) ∨ s.sec.rollback.isSome = true → exec (.stallLimitReached tile i) s = .next s) ∧
     (s.stallExempt tile i = false → s.rf .kprStallLimitLimit 0 ≤ i.stalled.toNat → s.rf .tsnStallStalled tile < s.rf .kprStallLimitLimit 0 →
       Completes (exec (.stallLimitReached tile i) s) (fun t =>
         SameRegs s t [(.tsnStreamPosition, tile), (.tsnStallStalled, tile), (.tsnWaitSemaphore, tile), (.tsnWaitWait, tile), (.tsnWaitPort, tile),
           (.tsnWaitSemValid, tile), (.tsnBundleBundle, tile)] ∧
         t.rf .tsnStallStalled tile = i.stalled.toNat ∧ t.rf .tsnWaitSemaphore tile = i.semaphore.toNat ∧ t.rf .tsnStreamPosition tile = i.streamPos.toNat ∧
         ∃ r, t.out = .record tile r :: s.out)) ∧
     (s.recov.closed = false → s.recov.naming = none → exec (.stallRecordArrival tile i) s =
       .next { s with recov := { s.recov with naming := some s.now, stalls := [⟨tile, i⟩] } }) ∧
     (∀ t0, s.recov.closed = false → s.recov.naming = some t0 → s.now < t0 + 100 → exec (.stallRecordArrival tile i) s =
       .next { s with recov := { s.recov with stalls := s.recov.stalls ++ [⟨tile, i⟩] } })) ∧
  (∀ (s : State) (t0 : Nat) (r : StallRec) (l : List StallRec), s.recov.naming = some t0 → t0 + 100 ≤ s.now → s.recov.stalls = r :: l →
     (∀ x ∈ l, r.info.startWtc.toNat < x.info.startWtc.toNat) → r.info.semValid = false → r.info.wait.toNat ≠ 1 → tileOk r.tile = true →
     Completes (exec .namingWindowClose s) (fun t => t.recov.naming = none ∧ t.recov.closed = true ∧ t.recov.stalls = [] ∧
       bits (t.rf .kprHangLastRecord 0) 4 4 = 1 ∧ bits (t.rf .kprHangLastRecord 0) 8 4 = r.info.wait.toNat ∧
       bits (t.rf .kprHangLastRecord 0) 32 19 = r.tile ∧ bits (t.rf .kprHangLastRecord 0) 256 64 = r.info.startWtc.toNat ∧
       bits (t.rf .kprHangLastRecord 0) 320 32 = (l.length + 1) % 2 ^ 32 ∧ recordOk (t.rf .kprHangLastRecord 0) 62 = true ∧
       (∃ acts, Raised s t 4 0 acts ∧ .croak 0x1D 2 (t.rf .kprHangLastRecord 0) ∈ acts) ∧
       (s.rf .kprHangCtrlAutoRecover 0 = 1 → s.recoverable → RecoveryBegun s t))) ∧
  (∀ (s : State) (key : BitVec 8),
     (key ≠ 0x5A → Completes (exec (.kprRecoverReq key) s) (fun t => OnlyRegs s t [(.hptStatusAccessErr, 0)] ∧ t.rf .hptStatusAccessErr 0 = 1)) ∧
     (key = 0x5A → s.rf .aoiDomainsKeeper 0 ≠ 2 → s.rf .kprHangStatusRecovery 0 = 0 → s.rf .aoiDomainsCompute 0 = 0 →
       Completes (exec (.kprRecoverReq key) s) (fun t => RecoveryBegun s t ∧ t.recov.byHost = true ∧ t.ledger = s.ledger ∧ t.waits = s.waits)))

/-- R192: a tile that is stalled freezes.

R195 to R201, R209, R216: the slack check of a candidate passes, and the tick's claims give the spare to the one regrowth that wants
it, which goes on in FILL with it as target, or in COMMIT where the fill is a copy with nothing to wait for.

R201, R209: a candidate that fails its slack check leaves the regrowth in CHECK with the next candidate, or REFUSED with none. -/
def Obligations.RegrowthFreezesAndChecks : Prop :=
  (∀ (s : State) (tile : Nat), tileOk tile = true →
     ((s.tile tile).stall = true → s.computeUp = true →
       exec (.tileFrozen tile) s = .next (s.setTile tile { s.tile tile with frozen := true })) ∧
     ((s.tile tile).stall = false → exec (.tileFrozen tile) s = .next s)) ∧
  (∀ (s : State) (l cand : Nat) (r : Regrowth), s.regrows = [r] → r.logical = l → r.phase = rgCheck → r.rot = 0 → r.candidate = some cand →
     s.claimable cand = true →
     (r.passed = false → s.slackCheck l cand = none →
       exec (.slackCheckDone l) s = .next { s with regrows := [{ r with passed := true }] }) ∧
     (r.passed = true → s.episodes = [] → s.st.visits = [] →
       let t := s.claimSpares
       t.tiles = s.tiles ∧ SameRegs s t [] ∧ t.remap = s.remap ∧
         ∃ x, t.regrows = [x] ∧ x.logical = l ∧ x.failed = r.failed ∧ x.target = some cand ∧ x.candidate = none ∧ x.engine = r.engine ∧
           (x.phase = rgFill ∨ x.phase = rgCommit ∧ x.copyFill = true ∧ copyCause r.cause = true))) ∧
  (∀ (s : State) (l cand : Nat) (r : Regrowth) (w : SlackFail), s.regrows = [r] → r.logical = l → r.phase = rgCheck → r.rot = 0 →
     r.candidate = some cand → r.passed = false → s.claimable cand = true → s.slackCheck l cand = some w → r.tried.contains cand = true →
     s.sliceDepth (tileField r.failed) < 511 →
     Completes (exec (.slackCheckDone l) s) (fun t => ∃ x, t.regrows = [x] ∧ x.slackFailed = true ∧ x.target = none ∧
       (x.phase = rgCheck ∧ (∃ c, x.candidate = some c ∧ c ≠ cand) ∧ t.events = s.events ∨
        x.phase = rgRefused ∧ x.candidate = none ∧ x.refusedAt = s.now ∧ ∃ acts, Raised s t 10 (locStation (tileField r.failed)) acts)))

/-- R206, R209: a transplant asks for the row bus once its source is frozen and its target is free; granted, it runs. It is verified after
900 cycles by the digests of the beats as sent and as arrived: digests that agree lead to COMMIT, with the target's SRAM as the source's
where no beat changed; ones that differ lead to one more run, and then to the tadpole's failure; a word that cannot be read turns the
fill to a copy into a tadpole that is cleared first.

R209, R211, R212, R223: a commit with the epoch STEADY writes the remap entry of its logical tile, advances the epoch and begins a
drain with the commit in its batch; the map, which the routers load as their redirect state (R469), then names the target for the
logical tile. -/
def Obligations.RegrowthTransplantsAndCommits : Prop :=
  (∀ (s : State) (l tgt : Nat) (r : Regrowth) (sent changed : List (Fin 792 × BitVec 1024)), s.regrows = [r] → r.logical = l →
     r.phase = rgFill → r.rot = 0 → r.target = some tgt → copyCause r.cause = false →
     let ok := beatDigest (s.rf .kprTapSeedActiveSeed 0) (s.beatsSent r.failed sent) =
       beatDigest (s.rf .kprTapSeedActiveSeed 0) (beatsArrived (s.beatsSent r.failed sent) changed)
     (r.filling = false → (s.tile r.failed).frozen = true → s.claimReady tgt = true →
       exec (.transplantStart l) s = .next { s with regrows := [{ r with asked := true }] }) ∧
     (r.asked = true → s.fillGranted r.failed = { s with
       regrows := [{ r with filling := true, asked := false, fillAt := s.now }], out := .fill r.failed tgt r.save :: s.out }) ∧
     (r.filling = true → 900 ≤ (s.now + 1 - r.fillAt) * s.clock → ok →
       Completes (exec (.transplantVerified l ⟨sent, changed⟩) s) (fun t => t.regrows = [{ r with phase := rgCommit, filling := false }] ∧
         t.events = s.events ∧ SameRegs s t [] ∧ (changed = [] → Tab.wf (fun _ => 0) s.sram = true → ∀ n, n < 768 →
           t.sramLine tgt n = s.sramLine r.failed n % 2 ^ 1024))) ∧
     (r.filling = true → 900 ≤ (s.now + 1 - r.fillAt) * s.clock → ¬ ok → r.retried = false →
       Completes (exec (.transplantVerified l ⟨sent, changed⟩) s) (fun t => t.regrows = [{ r with retried := true, fillAt := s.now }] ∧
         t.events = s.events)) ∧
     (r.filling = true → 900 ≤ (s.now + 1 - r.fillAt) * s.clock → ¬ ok → r.retried = true → s.sliceDepth (tileField tgt) < 511 →
       Completes (exec (.transplantVerified l ⟨sent, changed⟩) s) (fun t => t.regrows = [{ r with filling := false }] ∧
         Raised s t 10 (locStation (tileField tgt)) [.detect ⟨1, tgt, 0⟩ 0x024 2])) ∧
     (r.filling = true →
       Completes (exec (.transplantUeWord l) s) (fun t => (∀ n, n < 768 → t.sramLine tgt n = 0) ∧ SameRegs s t [] ∧
         t.regrows = [{ r with phase := rgCommit, filling := false, copyFill := true, clearFrom := some s.now }]))) ∧
  (∀ (s : State) (l tgt : Nat) (r : Regrowth), s.regrows = [r] → r.logical = l → r.phase = rgCommit → r.rot = 0 → r.target = some tgt →
     r.clearFrom = none → s.rf .kprEpochDraining 0 = 0 → s.episodes = [] →
     Completes (exec (.regrowthCommit l) s) (fun t => SameRegs s t [(.kprEpochCurrent, 0), (.kprEpochDraining, 0)] ∧
       t.rf .kprEpochCurrent 0 = (s.rf .kprEpochCurrent 0 + 1) % 4 ∧ t.rf .kprEpochDraining 0 = 1 ∧ t.epochFn.batch = 1 ∧
       t.epochFn.drainAt = s.now ∧ t.epochFn.program = false ∧ t.tiles = s.tiles ∧
       (∃ x, t.regrows = [x] ∧ x.phase = rgDrain ∧ x.inBatch = true ∧ x.target = some tgt) ∧
       t.redirect = t.remap ∧ (∃ i, Tab.get (fun _ => none) t.remap (1024 * tileField r.failed + i) =
         some ⟨l, tileCol tgt, 1, true, r.copyFill, (s.rf .kprEpochCurrent 0 + 1) % 4⟩)))

/-- R212 to R215: a drain that ends with nothing left is counted, and the epoch function is STEADY; at the deadline what is left is
discarded and counted. While STEADY a waiting advance begins; an old-epoch flit at the
old tile of a copy fill is discarded and counted, and one at that of a transplant is forwarded to the new tile.

R209, R214, R222: the transplant of a batch that drains with nothing discarded ends DONE: its record is kept and counted, the failed
tile's collar closes and the tadpole's opens, and the remap entry is no tadpole any more.

R209, R217, R222: a refusal that nobody answers in time, and a regrowth that counts 50,000 ticks, escalate: the record of OUTCOME 3
is kept, the regrowth ends, CAPACITY_LOSS is queued and recovery begins. The timeout is counted.

R218: an uncorrectable Remap Table word with a good copy is rewritten: its reads come back, with a class 3 event and nothing else;
without one the word is lost and recovery begins. -/
def Obligations.RegrowthEndsOrEscalates : Prop :=
  (∀ (s : State) (left : List LeftFlits) (tile : Nat) (q : QueueId) (h : BitVec 64),
     (s.rf .kprEpochDraining 0 = 1 → s.regrows = [] → s.epochFn.program = false →
       s.rf .kprDrainDiscardsDiscards 0 < 2 ^ RF.kprDrainDiscardsDiscards.spec.width →
       (s.epochFn.discards = [] → Completes (exec .epochDrainDone s) (fun t => SameRegs s t [(.kprEpochDraining, 0)] ∧
         t.rf .kprEpochDraining 0 = 0 ∧ t.epochFn.drains = s.epochFn.drains + 1 ∧ t.events = s.events)) ∧
       (s.epochFn.drainAt + clamp 10 1000 (s.rf .kprRegrowCtrlDrainUs 0) ≤ s.now → s.epochFn.discards = [] → left = [⟨q, 1, h⟩] →
         s.rf .kprDrainDiscardsDiscards 0 + 1 < 2 ^ RF.kprDrainDiscardsDiscards.spec.width →
         Completes (exec (.drainDeadline left) s) (fun t => t.rf .kprEpochDraining 0 = 0 ∧
           t.rf .kprDrainDiscardsDiscards 0 = s.rf .kprDrainDiscardsDiscards 0 + 1 ∧ ∃ b, Raised s t 10 0 [.post 6 32 0 48 b false]))) ∧
     (s.rf .kprEpochDraining 0 = 0 → s.rf .kprEpochProgramPending 0 = 0 → s.rf .kprEpochPending 0 = 1 → s.episodes = [] → s.regrows = [] →
       Completes (exec .epochPendingAdvance s) (fun t => SameRegs s t [(.kprEpochPending, 0), (.kprEpochCurrent, 0), (.kprEpochDraining, 0)] ∧
         t.rf .kprEpochPending 0 = 0 ∧ t.rf .kprEpochDraining 0 = 1 ∧ t.rf .kprEpochCurrent 0 = (s.rf .kprEpochCurrent 0 + 1) % 4)) ∧
     (s.rf .kprEpochDraining 0 = 0 → exec .epochDrainDone s = .next s ∧ exec (.drainDeadline left) s = .next s) ∧
     (tileOk tile = true → s.rf .kprEpochDraining 0 = 1 → s.epochFn.discards = [] →
       s.rf .kprDrainDiscardsDiscards 0 + 1 < 2 ^ RF.kprDrainDiscardsDiscards.spec.width →
       ∀ r tgt, s.regrows.find? (fun r => decide (r.failed = tile ∧ r.phase = rgDrain) && r.inBatch) = some r → r.target = some tgt →
       (r.copyFill = true → Completes (exec (.oldEpochFlitLanding tile q h) s) (fun t =>
         t = { s with regs := t.regs, epochFn := { s.epochFn with discards := [⟨q, 1, h⟩] } } ∧ SameRegs s t [(.kprDrainDiscardsDiscards, 0)] ∧
         t.rf .kprDrainDiscardsDiscards 0 = s.rf .kprDrainDiscardsDiscards 0 + 1)) ∧
       (r.copyFill = false → exec (.oldEpochFlitLanding tile q h) s = .next { s with out := .forward tile tgt q.port h.toNat :: s.out }))) ∧
  (∀ (s : State) (tgt : Nat) (r : Regrowth) (m : Remap) (i : Nat), s.rf .kprEpochDraining 0 = 1 → s.epochFn.program = false → s.epochFn.discards = [] →
     s.regrows = [r] → r.phase = rgDrain → r.inBatch = true → r.rot = 0 → r.copyFill = false → r.target = some tgt → tgt ≠ r.failed →
     tileField r.failed < 32 → s.remapIndex (tileField r.failed) r.logical = i → Tab.get (fun _ => none) s.remap (1024 * tileField r.failed + i) = some m →
     Completes (exec .epochDrainDone s) (fun t => t.regrows = [] ∧ (t.tile r.failed).collarOut = true ∧ (t.tile r.failed).collarIn = true ∧
       (t.tile r.failed).stall = false ∧ (t.tile tgt).collarOut = false ∧ (t.tile tgt).frozen = false ∧
       Tab.get (fun _ => none) t.remap (1024 * tileField r.failed + i) = some { m with tadpole := false } ∧
       bits (t.rf .fstRegrowLastRecord (tileField r.failed)) 4 4 = 1 ∧ t.run.regrowths = Nat.min 0xFFFFFFFF (s.run.regrowths + 1))) ∧
  (∀ (s : State) (l : Nat) (r : Regrowth), s.regrows = [r] → r.logical = l → r.rot = 0 → 2 ≤ r.engine → s.recoverable →
     outRoom s.host.outQ 2 = true → tileField r.failed < 32 →
     let Escalated := fun (reason : Nat) (t : State) => t.regrows = [] ∧ RecoveryBegun s t ∧ t.tiles = s.tiles ∧
       bits (t.rf .fstRegrowLastRecord (tileField r.failed)) 4 4 = 3 ∧ bits (t.rf .fstRegrowLastRecord (tileField r.failed)) 8 4 = reason ∧
       ∃ m : Msg, Queued s t m ∧ m.cls = 2 ∧ m.code = 0x02
     (r.phase = rgRefused → r.refusedAt + 1000 * Nat.max 1 (s.rf .kprRegrowCtrlRefuseWaitMs 0) ≤ s.now →
       Completes (exec (.refuseWaitExpiry l) s) (Escalated (if r.slackFailed then 2 else 1))) ∧
     (1 ≤ r.phase → r.phase ≤ 5 → 50000 ≤ r.used + (s.now - r.runFrom) → s.rf .kprMonStatusHold 0 = 0 →
       s.rf .kprCmdTimeoutsCount 0 + 1 < 2 ^ RF.kprCmdTimeoutsCount.spec.width →
       Completes (exec (.regrowthTimeout l) s) (fun t => Escalated 5 t ∧ t.rf .kprCmdTimeoutsCount 0 = s.rf .kprCmdTimeoutsCount 0 + 1))) ∧
  (∀ (s : State) (f : Fin 32) (i : Nat), i < 1024 → s.sliceDepth f.val < 511 →
     exec (.remapTableUe f i true) s = .next { s with
       remapBad := s.remapBad.filter (fun k => decide (k ≠ 1024 * f.val + i)), events := s.events ++ [⟨3, locStation f.val, s.now, [.log]⟩] } ∧
     (s.regrows = [] → s.recoverable → Completes (exec (.remapTableUe f i false) s) (fun t => 1024 * f.val + i ∈ t.remapBad ∧
       RecoveryBegun s t ∧ t.remap = s.remap ∧ t.events.length = s.events.length + 2)))

/-- R159, R160: a scrub pass that is due begins at its field's first tile; the turn goes to the next tile of the field, whose visit
takes the entries of its table and the WTC; the visit ends when every entry has been treated, and not before.

R157 to R159, R161: a scrub visit takes the next entry of its table. Inside its window the block is skipped. DIRTY: its digest is
stored in the table and the block sealed. Sealed or frozen with a digest that agrees: nothing but the visit's place moves; with one that
differs a record is sent, and the table keeps its digest. A visit whose port another holds waits.

R158: a write to a line of a block inside its window makes the block DIRTY, and leaves every other block and line as it was.

R161: a good scrub record is counted, and brings a class 5 event with a detection of cause 0x006, the voiding of copies since the
visit before, and its post; one whose check fails sets RECORD_CRC alone. -/
def Obligations.ScrubPassesAndVisits : Prop :=
  (∀ (s : State) (f : Fin 32) (tile : Nat) (tb : ResidentTable) (pos : BitVec 32),
     (s.fnOn (.fieldScrub f) = true → s.stationUp f = true → (s.field f.val).scrubAt + 1000000 * clamp 1 3600 (s.rf .fstScrubCtrlPeriodS f.val) ≤ s.now →
       4000 ≤ s.scrubUw → (s.field f.val).scrubOn = false →
       (∀ u : State, u = s.setField f.val { s.field f.val with scrubOn := true, scrubPos := 0, scrubAt := s.now } →
         (u.scrubNextOf f.val).isSome = true) →
       Completes (exec (.scrubPassStart f) s) (fun t => t = { s with fields := t.fields } ∧ SameFields s t f.val ∧
         t.field f.val = { s.field f.val with scrubOn := true, scrubPos := 0, scrubAt := s.now })) ∧
     (s.fnOn (.fieldScrub f) = true → s.stationUp f = true → (s.field f.val).scrubAt + 1000000 * clamp 1 3600 (s.rf .fstScrubCtrlPeriodS f.val) ≤ s.now →
       (s.field f.val).scrubOn = true → Completes (exec (.scrubPassStart f) s) (fun t => t.rf .fstScrubStatusScrubLate f.val = 1 ∧
         (t.field f.val).scrubAt = (s.field f.val).scrubAt ∧ SameRegs s t [(.fstScrubStatusScrubLate, f.val)])) ∧
     (tileOk tile = true → s.scrubTurn = some (tileField tile) → (s.scrubNextOf (tileField tile)).map s.serving = some tile →
       s.scrubs.length < s.scrubUw / 4000 → s.residentTable tile = some tb → s.wtc < 2 ^ 64 →
       Completes (exec (.scrubVisitStart tile 0 pos) s) (fun t => SameTiles s t tile ∧ SameFields s t (tileField tile) ∧
         SameRegs s t [(.tsnScrubLastWtcWtc, tile), (.fstScrubStatusActive, tileField tile)] ∧ t.rf .tsnScrubLastWtcWtc tile = s.wtc ∧
         (t.tile tile).scrubPrev = s.rf .tsnScrubLastWtcWtc tile ∧ t.scrubNext = (tileField tile + 1) % 32 ∧
         t.tables = s.tables ∧ t.sram = s.sram ∧ ∃ v, t.scrubs = s.scrubs ++ [v] ∧ v.tile = tile ∧ v.left = List.range tb.entries.length)) ∧
     (tileOk tile = true → (∃ v ∈ s.scrubs, v.tile = tile ∧ v.left = []) → (s.field (tileField tile)).scrubOn = false →
       Completes (exec (.scrubVisitEnd tile) s) (fun t => t.scrubs = s.scrubs.filter (fun v => decide (v.tile ≠ tile)) ∧
         SameRegs s t [(.fstScrubStatusActive, tileField tile)] ∧ t.tables = s.tables ∧ t.fields = s.fields)) ∧
     (tileOk tile = true → (∀ v ∈ s.scrubs, v.tile = tile → v.left ≠ []) → exec (.scrubVisitEnd tile) s = .next s)) ∧
  (∀ (s : State) (tile e blk win : Nat) (rest : List Nat) (tb : ResidentTable) (pos : BitVec 32),
     tileOk tile = true → s.scrubs = [⟨tile, e :: rest⟩] → s.residentTable tile = some tb → tb.entries[e]? = some (blk, win) → blk < 384 →
     tb.base % 16 = 0 → tb.base + 144 + 16 * e + 8 ≤ 98304 →
     let next := { s with scrubs := [⟨tile, rest⟩] }
     let d := s.blockDigest tile tb.seed blk
     (∀ x, x ≠ e → exec (.scrubVisitResume tile x 1 pos) s = .next s) ∧
     (s.portHeld tile = true → exec (.scrubVisitResume tile e 1 pos) s = .next s) ∧
     (s.portHeld tile = false → blockOpen tb (blk, win) pos.toNat = true → exec (.scrubVisitResume tile e 1 pos) s = .next next) ∧
     (s.portHeld tile = false → blockOpen tb (blk, win) pos.toNat = false →
       (win ≠ 15 → s.isSealed tile blk = false → Completes (exec (.scrubVisitResume tile e 1 pos) s) (fun t =>
         t = { next with sram := t.sram, sealed := t.sealed } ∧ t.isSealed tile blk = true ∧ t.storedDigest tile tb e = d ∧
         (∀ b, b ≠ blk → b < 384 → t.isSealed tile b = s.isSealed tile b) ∧
         ∀ n, n ≠ (tb.base + 144 + 16 * e) / 128 → t.sramLine tile n = s.sramLine tile n)) ∧
       (win = 15 ∨ s.isSealed tile blk = true → s.storedDigest tile tb e = d → exec (.scrubVisitResume tile e 1 pos) s = .next next) ∧
       (win = 15 ∨ s.isSealed tile blk = true → s.storedDigest tile tb e ≠ d → Completes (exec (.scrubVisitResume tile e 1 pos) s) (fun t =>
         t = { next with out := t.out } ∧ ∃ r, t.out = .record tile r :: s.out ∧ bits r 4 4 = 1 ∧ bits r 8 1 = (if win = 15 then 1 else 0) ∧
           bits r 16 9 = blk ∧ bits r 32 19 = tile ∧ bits r 64 64 = s.storedDigest tile tb e ∧ bits r 128 64 = d ∧ recordOk r 30 = true)))) ∧
  (∀ (s : State) (tile : Nat) (line : Fin 768) (data : BitVec 1024) (pos : BitVec 32) (tb : ResidentTable) (win : Nat), tileOk tile = true →
     s.residentTable tile = some tb → (line.val / 2, win) ∈ tb.entries → blockOpen tb (line.val / 2, win) pos.toNat = true → s.episodeOf tile = none →
     Completes (exec (.tileSramWrite tile ⟨line, data⟩ pos) s) (fun t => t = { s with sealed := t.sealed, sram := t.sram } ∧
       t.isSealed tile (line.val / 2) = false ∧ (∀ k b, (k, b) ≠ (tile, line.val / 2) → b < 384 → t.isSealed k b = s.isSealed k b) ∧
       t.sramLine tile line.val = data.toNat ∧ ∀ k n, (k, n) ≠ (tile, line.val) → t.sramLine k n = s.sramLine k n)) ∧
  (∀ (s : State) (f : Fin 32) (r : BitVec 256),
     (recordOk r.toNat 30 = false → Completes (exec (.scrubRecordArrival f r) s) (fun t => OnlyRegs s t [(.fstScrubStatusRecordCrc, f.val)] ∧
       t.rf .fstScrubStatusRecordCrc f.val = 1)) ∧
     (recordOk r.toNat 30 = true → tileOk (bits r.toNat 32 19) = true → s.sliceDepth (tileField (bits r.toNat 32 19)) < 511 →
       s.rf .fstScrubMismatchMismatches f.val + 1 < 2 ^ RF.fstScrubMismatchMismatches.spec.width →
       Completes (exec (.scrubRecordArrival f r) s) (fun t => SameRegs s t [(.fstScrubMismatchMismatches, f.val)] ∧
         t.rf .fstScrubMismatchMismatches f.val = s.rf .fstScrubMismatchMismatches f.val + 1 ∧
         Raised s t 5 (locTile (bits r.toNat 32 19)) [.detect ⟨1, bits r.toNat 32 19, 0⟩ 0x006 2, .void (s.tile (bits r.toNat 32 19)).scrubPrev,
           .post 3 f.val (bits r.toNat 32 19) 32 r.toNat false])))

/-- R172 to R175, R187: RUN of a spare that serves nothing and may be visited starts a visit in place, in TESTING, behind closed
collars; RUN of a tile that may not leaves RUN clear. A slot that is due is noted, and begins at most one visit of its own.

R174, R175, R180: the life of a visit: a declared window that opens begins it in SAVING, with the context in its save area; the save
ends in TESTING, 64 cycles on; the restore ends it in IDLE, where what is incomplete is kept for the next visit; the clearing zeroes the
tile, and a visit that is whole sends its record. -/
def Obligations.SelfTestVisits : Prop :=
  (∀ (s : State) (tile : Nat) (f : Fin 32), tileOk tile = true →
     (s.rf .tsnStCtrlMode tile < 3 → s.logicalOf tile = none → s.visitBlocked tile = false → s.st.orders = [] → s.visitRoom = true → s.st.packs = [] →
       s.st.parked = [] → s.fnState (.fieldSelfTest (toFin32 (tileField tile))) ≠ 3 → s.stationUp (toFin32 (tileField tile)) = true →
       Completes (exec (.tsnStRun tile) s) (fun t => t.rf .tsnStCtrlRun tile = 1 ∧ t.rf .tsnStCtrlState tile = 3 ∧
         SameRegs s t [(.tsnStCtrlRun, tile), (.tsnStCtrlState, tile)] ∧ SameTiles s t tile ∧ (t.tile tile).underTest = true ∧
         (t.tile tile).collarOut = true ∧ (t.tile tile).collarIn = true ∧
         ∃ v, t.st.visits = s.st.visits ++ [v] ∧ v.tile = tile ∧ v.path = 3 ∧ v.owner = .register ∧ v.mode = s.rf .tsnStCtrlMode tile ∧ v.since = s.now)) ∧
     (s.visitBlocked tile = true → s.visitOf tile = none → Completes (exec (.tsnStRun tile) s) (fun t => OnlyRegs s t [(.tsnStCtrlRun, tile)] ∧
       t.rf .tsnStCtrlRun tile = 0)) ∧
     (s.fnOn (.fieldSelfTest f) = true → s.stationUp f = true → 0 < s.inService f.val + s.freeSpares f.val →
       (s.field f.val).visitSlotAt + s.visitPeriod f.val / (s.inService f.val + s.freeSpares f.val) ≤ s.now →
       Completes (exec (.visitSlot f) s) (fun t => SameFields s t f.val ∧ (t.field f.val).visitSlotAt = s.now ∧
         (t.st.visits = s.st.visits ∨ ∃ v, t.st.visits = s.st.visits ++ [v] ∧ v.owner = .function ∧ v.since = s.now)))) ∧
  (∀ (s : State) (tile len : Nat) (v : Visit) (w : WindowTable) (pos : BitVec 32) (ctx : BitVec 16384), tileOk tile = true →
     (Tab.get (fun _ => none) s.winTabs tile = some w → w.opens pos.toNat = some len →
       s.fnOn (.fieldSelfTest (toFin32 (tileField tile))) = true → (s.logicalOf tile).isSome = true → s.tileOut tile = false →
       s.visitBlocked tile = false → s.visitRoom = true → s.st.parked = [] → 141312 + 128 ≤ len → w.save / 128 + 16 ≤ 768 →
       Completes (exec (.testWindowOpen tile ⟨pos, ctx⟩) s) (fun t => t.rf .tsnStCtrlState tile = 2 ∧ SameRegs s t [(.tsnStCtrlState, tile)] ∧
         (t.tile tile).underTest = true ∧ (∀ i, i < 16 → t.sramLine tile (w.save / 128 + i) = bits ctx.toNat (1024 * i) 1024) ∧
         ∃ x, t.st.visits = s.st.visits ++ [x] ∧ x.tile = tile ∧ x.path = 2 ∧ x.window = len - 128)) ∧
     (s.visitOf tile = some v → v.tile = tile →
       (∀ j, s.rf .tsnStCtrlState tile = 2 → s.visitGoes v = true → s.stationUp (toFin32 (tileField tile)) = true → s.testCount < s.testLimit →
         s.nextItem { v with cycles := v.cycles + 64 } = some j → Completes (exec (.visitSaveDone tile) s) (fun t =>
           t.rf .tsnStCtrlState tile = 3 ∧ SameRegs s t [(.tsnStCtrlState, tile)] ∧
           t.visitOf tile = some { v with cycles := v.cycles + 64, item := j, paused := false })) ∧
       (s.rf .tsnStCtrlState tile = 4 → v.path = 2 → v.aborted = false → v.mode = 0 → v.ran % 2 ^ 33 ≠ 2 ^ 33 - 1 → v.owner = .function →
         Completes (exec (.visitRestoreDone tile) s) (fun t => t.rf .tsnStCtrlState tile = 0 ∧ t.rf .tsnStCtrlRun tile = 0 ∧
           t.tile tile = { s.tile tile with underTest := false } ∧ t.visitOf tile = none ∧
           t.st.parked = { v with cycles := v.cycles + 64 } :: s.st.parked ∧ t.out = s.out)) ∧
       (s.rf .tsnStCtrlState tile = 5 → v.held = false → v.aborted = false → v.path = 3 → v.mode = 0 → v.ran % 2 ^ 33 = 2 ^ 33 - 1 →
         v.owner = .function →
         Completes (exec (.visitClearDone tile) s) (fun t => t.rf .tsnStCtrlState tile = 0 ∧ t.visitOf tile = none ∧
           (t.tile tile).underTest = false ∧ (∀ n, t.sramLine tile n = 0) ∧ ∃ r, t.out = .record tile r :: s.out ∧ bits r 4 4 = 1 ∧
             bits r 32 32 = v.slices % 2 ^ 32 ∧ bits r 16 12 = v.banks % 2 ^ 12 ∧ bits r 64 19 = tile ∧ recordOk r 30 = true))))

/-- R168, R170, R175: the march that ends leaves the tile zero and is entered in the visit: failing banks set FAILED and are kept for the
record, and the next item begins; a slice whose signature differs sets its SLICE_FAIL bit and leaves the signature in MISR. A move that
has drained takes the visit into TESTING.

R176, R177, R183: the record of a whole visit stamps its unit, is counted and posted, with a detection for each failing part; one
whose check fails sets RECORD_CRC alone; a unit past twice its period raises VISIT_LATE once.

R44, R182: correctable errors of a bank accumulate, up to 31; the count that passes CE_LIMIT gives one detection of cause 0x011; the
hourly clearing takes the field's counters back. An uncorrectable word is a class 5 event with a detection of cause 0x010. -/
def Obligations.SelfTestItemsAndTileErrors : Prop :=
  (∀ (s : State) (tile : Nat) (v : Visit) (b : BitVec 12) (m g : BitVec 64) (r : Regrowth), tileOk tile = true → s.visitOf tile = some v → v.tile = tile →
     s.stationUp (toFin32 (tileField tile)) = true → s.visitGoes v = true → s.testCount ≤ s.testLimit → v.held = false →
     (v.path = 3 → s.rf .tsnStCtrlState tile = 3 → v.paused = false → v.item = 0 → v.mode = 0 → v.ran = 0 → v.routersOnly = false →
       Completes (exec (.visitItemEnd tile (.march b)) s) (fun t => SameRegs s t [(.tsnStCtrlFailed, tile)] ∧ (∀ n, t.sramLine tile n = 0) ∧
         (b ≠ 0 → t.rf .tsnStCtrlFailed tile = 1) ∧ (b = 0 → t.rf .tsnStCtrlFailed tile = s.rf .tsnStCtrlFailed tile) ∧
         t.visitOf tile = some { v with ran := 1, banks := v.banks ||| b.toNat, cycles := v.cycles + 135168, window := v.window - 135168, item := 1 })) ∧
     (v.path = 3 → s.rf .tsnStCtrlState tile = 3 → v.paused = false → v.item = 1 → v.mode = 0 → v.ran = 1 → v.routersOnly = false → m ≠ g →
       Completes (exec (.visitItemEnd tile (.slice m g)) s) (fun t => t.rf .tsnStCtrlFailed tile = 1 ∧ t.rf .tsnStMisrMisr tile = m.toNat ∧
         ∃ x, t.visitOf tile = some x ∧ x.slices = v.slices ||| 1 ∧ x.patterns = v.patterns + 1024 ∧ x.item = 2)) ∧
     (s.regrows = [r] → some r.logical = v.logical → r.rot = 1 → r.phase = rgDone → s.rf .tsnStCtrlState tile = 1 → v.aborted = false →
       v.path = 1 → (s.nextItem v).isSome = true →
       Completes (exec (.visitMoveDone tile) s) (fun t => t.regrows = [] ∧ t.rf .tsnStCtrlState tile = 3 ∧ (t.tile tile).collarOut = true ∧
         (t.tile tile).underTest = true ∧ SameRegs s t [(.tsnStCtrlState, tile)]))) ∧
  (∀ (s : State) (f : Fin 32) (r : BitVec 256) (u : Nat),
     let t0 := bits r.toNat 64 19
     (recordOk r.toNat 30 = false → Completes (exec (.visitRecordArrival f r) s) (fun t => OnlyRegs s t [(.fstStStatusRecordCrc, f.val)] ∧
       t.rf .fstStStatusRecordCrc f.val = 1)) ∧
     (recordOk r.toNat 30 = true → bits r.toNat 4 4 = 1 → s.st.diag = [] → tileOk t0 = true →
       bits r.toNat 32 32 = 0 → bits r.toNat 96 16 = 0 → bits r.toNat 16 12 = 0 → s.rf .fstStVisitsVisits f.val + 1 < 2 ^ RF.fstStVisitsVisits.spec.width →
       s.sliceDepth (tileField t0) < 511 →
       Completes (exec (.visitRecordArrival f r) s) (fun t => SameRegs s t [(.fstStVisitsVisits, f.val)] ∧
         t.rf .fstStVisitsVisits f.val = s.rf .fstStVisitsVisits f.val + 1 ∧
         Tab.get (fun _ => 0) t.st.done ((s.logicalOf t0).getD (2 ^ 19 + t0)) = s.now ∧
         Raised s t 10 (locTile t0) [.post 4 f.val t0 32 r.toNat false])) ∧
     (recordOk r.toNat 30 = true → tileOk t0 = true → s.sliceDepth (tileField t0) < 511 →
       Completes (exec (.visitRecordArrival f r) s) (fun t => ∃ acts, Raised s t 10 (locTile t0) acts ∧
         (bits r.toNat 96 16 = 0 → bits r.toNat 32 28 ≠ 0 → .detect ⟨1, t0, 0⟩ 0x020 2 ∈ acts) ∧
         (bits r.toNat 96 16 ≠ 0 → .detect ⟨1, t0, 0⟩ 0x022 3 ∈ acts) ∧
         (∀ p, p < 4 → r.toNat.testBit (60 + p) = true → .detect ⟨3, t0, p⟩ 0x023 2 ∈ acts) ∧
         (∀ b, b < 12 → r.toNat.testBit (16 + b) = true → .detect ⟨2, t0, b⟩ 0x021 2 ∈ acts))) ∧
     (u < 2 ^ 19 → s.served u = true → 2 * s.visitPeriod (tileField u) < s.visitAge (tileField u) u → u ∉ s.st.late →
       s.sliceDepth (tileField u) < 511 → tileField u < 32 →
       Completes (exec (.visitLate u) s) (fun t => SameRegs s t [(.fstStStatusVisitLate, tileField u)] ∧ t.rf .fstStStatusVisitLate (tileField u) = 1 ∧
         t.st.late = u :: s.st.late ∧ ∃ acts, Raised s t 10 (locStation (tileField u)) acts)) ∧
     (u ∈ s.st.late → exec (.visitLate u) s = .next s)) ∧
  (∀ (s : State) (tile n : Nat) (bank : Fin 12) (f : Fin 32), tileOk tile = true → s.sliceDepth (tileField tile) < 511 →
     (exec (.sramUeReport tile bank) s = .next { s with events := s.events ++ [⟨5, locTile tile, s.now, [.detect ⟨2, tile, bank.val⟩ 0x010 2]⟩] }) ∧
     (∀ c, Tab.get (fun _ => 0) s.ceCounts (12 * tile + bank.val) = c → c < 32 →
       Completes (exec (.sramCeReport tile bank n) s) (fun t => t = { s with ceCounts := t.ceCounts, events := t.events } ∧
         Tab.get (fun _ => 0) t.ceCounts (12 * tile + bank.val) % 32 = Nat.min 31 (c + n) ∧
         (∀ k, k ≠ 12 * tile + bank.val → Tab.get (fun _ => 0) t.ceCounts k = Tab.get (fun _ => 0) s.ceCounts k) ∧
         Raised s t 8 (locTile tile) (.hazard 0 :: if Nat.max 1 (s.rf .fstStCtrlCeLimit (tileField tile)) < Nat.min 31 (c + n) then
           [.detect ⟨2, tile, bank.val⟩ 0x011 2] else []))) ∧
     (s.stationUp f = true → (s.field f.val).ceClearAt + 3600000000 ≤ s.now → Completes (exec (.ceCounterClear f) s) (fun t => t = { s with fields := t.fields, ceCounts := t.ceCounts } ∧
       SameFields s t f.val ∧ (t.field f.val).ceClearAt = s.now ∧ ∀ e ∈ t.ceCounts, tileField (e.1 / 12) ≠ f.val)) ∧
     (s.stationUp f = false ∨ s.now < (s.field f.val).ceClearAt + 3600000000 → exec (.ceCounterClear f) s = .next s))

/-- R267, R268: a function in an UP domain follows its transition table: an Enable event, a Disable event, start done, drain done and
the tick with ENABLE_PENDING set. Nothing but the function's own ENABLE, STATE and pending bits changes.

R477: the I3C target. A private read gives the 8 status bytes latched at the tick, a private write is not acknowledged; ENTDAA and
SETDASA give an address to a target that has none; the identities are free values. Nothing else of the state changes.

R26 to R29, R219, R286: the patrol of a word, and a spine beat. A word with no wrong symbol changes nothing; one wrong symbol is
corrected, with a class 8 event. An uncorrectable word of the Keeper Store or a Replay Buffer is marked poisoned, with a class 3 event; an
uncorrectable counter is poisoned with a class 3 event. A clean beat is delivered; a corrected one too, and counted; an uncorrectable one
is resent and delivered once; after four failed resends the link has failed: a class 6 event with a detection of its station, and no
other effect where the station relays no Warden. -/
def Obligations.FunctionsI3cPatrolAndSpine : Prop :=
  (∀ (s : State) (fn : Func), s.domState (fnDomain fn) = 0 →
     let r := fnRegs fn
     let Only := fun (t : State) => t = { s with regs := t.regs, fns := t.fns } ∧ (∀ g, fnKey g ≠ fnKey fn → t.fn g = s.fn g) ∧
       SameRegs s t [(r.1, r.2.2.2), (r.2.1, r.2.2.2), (r.2.2.1, r.2.2.2)]
     let Goes := fun (o : Host.Outcome State Fault Refusal) (request state pending : Nat) (disable : Bool) =>
       Completes o (fun t => Only t ∧ t.fnRequest fn = request ∧ t.fnState fn = state ∧ t.fnPending fn = pending ∧
         (t.fn fn).disablePending = disable)
     let req := s.fnRequest fn
     let pen := s.fnPending fn
     let dis := (s.fn fn).disablePending
     ((s.fn fn).wroteAt ≠ some s.now → req = 0 →
       (s.fnState fn = 0 → (s.fn fn).offAt + 1 ≤ s.now → Goes (exec (.enableWrite fn true) s) 1 1 0 false) ∧
       (s.fnState fn = 0 → s.now < (s.fn fn).offAt + 1 → Goes (exec (.enableWrite fn true) s) 1 0 1 dis) ∧
       (s.fnState fn = 1 → Goes (exec (.enableWrite fn true) s) 1 1 pen false) ∧
       (s.fnState fn = 2 → Goes (exec (.enableWrite fn true) s) 1 2 pen dis) ∧
       (s.fnState fn = 3 → Goes (exec (.enableWrite fn true) s) 1 3 1 dis) ∧
       Goes (exec (.enableWrite fn false) s) 0 (s.fnState fn) pen dis) ∧
     ((s.fn fn).wroteAt ≠ some s.now → req = 1 →
       (s.fnState fn = 0 → Goes (exec (.enableWrite fn false) s) 0 0 0 dis) ∧
       (s.fnState fn = 1 → Goes (exec (.enableWrite fn false) s) 0 1 pen true) ∧
       (s.fnState fn = 2 → Goes (exec (.enableWrite fn false) s) 0 3 pen dis) ∧
       (s.fnState fn = 3 → Goes (exec (.enableWrite fn false) s) 0 3 0 dis) ∧
       Goes (exec (.enableWrite fn true) s) 1 (s.fnState fn) pen dis) ∧
     (s.fnState fn = 1 → (s.fn fn).startAt < s.now → s.fnStarted fn = true →
       Goes (exec (.functionStartDone fn) s) req (if dis then 3 else 2) pen false) ∧
     (s.fnState fn = 3 → s.fnDrained fn = true → Completes (exec (.functionDrainDone fn) s) (fun t => Only t ∧ t.fnRequest fn = req ∧
       t.fnState fn = 0 ∧ t.fnPending fn = pen ∧ (t.fn fn).offAt = s.now)) ∧
     (s.fnState fn = 3 → s.fnDrained fn = false → exec (.functionDrainDone fn) s = .next s) ∧
     (s.fnState fn = 0 → pen = 1 → (s.fn fn).offAt + 1 ≤ s.now → Goes (exec (.functionPendingStart fn) s) req 1 0 false)) ∧
  (∀ (s : State) (a : BitVec 7), s.boot.aoiOn = true →
     let Free := fun (i : Instr) (w : Nat) => Completes (exec i s) (fun t => t = { s with out := t.out, freeCtr := s.freeCtr + 1 } ∧
       ∃ v, v < 2 ^ w ∧ t.out = .i3c true v :: s.out)
     exec .i3cPrivateRead s = .next { s with out := .i3c true s.i3cLatch :: s.out } ∧
     exec .i3cPrivateWrite s = .next { s with out := .i3c false 0 :: s.out } ∧
     (s.i3cAddr = none → exec (.entdaa a) s = .next { s with i3cAddr := some a.toNat, out := .i3c true a.toNat :: s.out } ∧
       exec (.setdasa a) s = .next { s with i3cAddr := some a.toNat, out := .i3c true a.toNat :: s.out }) ∧
     (∀ b, s.i3cAddr = some b → exec (.entdaa a) s = .next s ∧ exec (.setdasa a) s = .next s) ∧
     Free .getpid 48 ∧ Free .getbcr 8 ∧ Free .getdcr 8 ∧ Free .getstatus 16) ∧
  (∀ (s : State) (m : MemWord) (e : SymbolErrors) (i : Fin 36) (b : BitVec 4) (c off : Nat) (f : Fin 32), s.boot.aoiOn = true →
     s.sliceDepth f.val < 511 → b ≠ 0 → errorSymbols e ≤ 2 → (eccRead (eccEncode 0 ^^^ errorBits e)).1 = .uncorrectable →
     let x := s.field f.val
     let Delivers := fun (o : Host.Outcome State Fault Refusal) (events : List Ev) (out : List Out) =>
       Completes o (fun t => t = { s with fields := t.fields, events := s.events ++ events, out := out ++ s.out } ∧ SameFields s t f.val ∧
         t.field f.val = { x with beats := x.beats + 1 })
     let Marks := fun (w : MemWord) (loc : Nat) => Completes (exec (.memoryPatrol w e) s) (fun t =>
       t = { s with poison := t.poison, events := s.events ++ [⟨3, loc, s.now, [.log]⟩] } ∧
       ∀ q, t.isPoisoned q = true ↔ (s.isPoisoned q = true ∨ memWord q = memWord w))
     exec (.memoryPatrol m []) s = .next s ∧
     exec (.memoryPatrol (.keeperStore off) [(i, b)]) s = .next { s with events := s.events ++ [⟨8, 0, s.now, [.hazard 0]⟩] } ∧
     exec (.memoryPatrol (.replayBuffer f off) [(i, b)]) s = .next { s with events := s.events ++ [⟨8, locStation f.val, s.now, [.hazard 0]⟩] } ∧
     Marks (.keeperStore off) 0 ∧ Marks (.replayBuffer f off) (locStation f.val) ∧
     (c < 4096 → s.rf .semFlagsPoison c ≠ 1 → Completes (exec (.memoryPatrol (.semaphore c) e) s) (fun t =>
       t = { s with regs := t.regs, events := t.events } ∧ SameRegs s t [(.semFlagsPoison, c)] ∧ t.rf .semFlagsPoison c = 1 ∧
       ∃ acts, Raised s t 3 0 acts)) ∧
     Delivers (exec (.spineBeatError f []) s) [] [] ∧
     Delivers (exec (.spineBeatError f [[(i, b)]]) s) [⟨8, locStation f.val, s.now, [.hazard 0]⟩] [] ∧
     (∀ n, n ≤ 4 →
       Delivers (exec (.spineBeatError f (List.replicate n e)) s) [] (List.replicate n (.resend f.val))) ∧
     (8 ≤ f.val → f.val < 24 →
       exec (.spineBeatError f (List.replicate 5 e)) s = .next { s with
         events := s.events ++ [⟨6, locStation f.val, s.now, [.detect (stationKey f.val) 0x050 2]⟩],
         out := List.replicate 4 (.resend f.val) ++ s.out }))

/-- R311, R474: a request to a target that is not open captures zero. A fuse blows only inside the fuse window: the map takes a new
revision, and the unit, and no other, is listed or unlisted. -/
def Obligations.FusesBlowInTheirWindow : Prop :=
  ∀ (s : State) (target : TapTarget) (v : BitVec 64) (k : UnitKey) (b : Bool) (rv : BitVec 4),
    (s.tapOpen target = false → exec (.testAccessPortRequest target v) s = .next { s with out := .jtag 0 :: s.out }) ∧
    (s.tapOpen target = true → Completes (exec (.testAccessPortRequest target v) s) (fun t =>
      t = { s with out := t.out, freeCtr := s.freeCtr + 1 } ∧ ∃ x, t.out = .jtag x :: s.out)) ∧
    (s.fuseOpen = false → exec (.fuseBlow k b rv) s = .next s) ∧
    (s.fuseOpen = true → keyOk k = true → Completes (exec (.fuseBlow k b rv) s) (fun t =>
      t = { s with fuses := { s.fuses with revision := rv.toNat, bad := t.fuses.bad } } ∧ (k ∈ t.fuses.bad ↔ b = true) ∧
      ∀ j, j ≠ k → (j ∈ t.fuses.bad ↔ j ∈ s.fuses.bad)))

/-- R281, R283, R286: a tile's operation on a good counter that no wait stands on. An add and a subtract change the count and nothing
else of the registers; a wait that is met leaves no wait (a consuming one takes n off), one that is not is held, with nothing else
changed. An operation with n = 0 or on a poisoned counter does nothing. An uncorrectable counter is poisoned with a class 3 event.

R289 to R293, R295: remote adds. A packet that fails its check, or one of another program, is discarded and counted; one whose
fence is satisfied is applied; one whose fence is not waits in the Parking Buffer, or at its port's ingress with the buffer full. A
landed write counts, but one from a reserved source, which is dropped and counted, and releases the adds of its source that it satisfies; a place that frees takes the add held longest. An add
parked longer than PARK_MS raises its class 7 event once. -/
def Obligations.SemaphoresOfTilesAndPeers : Prop :=
  (∀ (s : State) (tile : Nat) (c : BitVec 12) (n : BitVec 32) (op : SemOp), tileOk tile = true →
     let v := s.rf .semCountCount c.toNat
     let Count := fun (o : Host.Outcome State Fault Refusal) (v' : Nat) =>
       Completes o (fun t => OnlyRegs s t [(.semCountCount, c.toNat)] ∧ t.rf .semCountCount c.toNat = v')
     (n = 0 ∨ s.rf .semFlagsPoison c.toNat = 1 → exec (.tileSemOp tile op c n) s = .next s) ∧
     (n ≠ 0 → s.rf .semFlagsPoison c.toNat ≠ 1 → s.waits = [] → v < 2 ^ 32 →
       (v + n.toNat < 2 ^ 32 → s.mapHere = false → Count (exec (.tileSemOp tile .add c n) s) (v + n.toNat)) ∧
       (n.toNat ≤ v → Count (exec (.tileSemOp tile .sub c n) s) (v - n.toNat)) ∧
       (n.toNat ≤ v → exec (.tileSemOp tile .wait c n) s = .next s) ∧
       (n.toNat ≤ v → Count (exec (.tileSemOp tile .waitConsume c n) s) (v - n.toNat)) ∧
       (v < n.toNat → exec (.tileSemOp tile .wait c n) s = .next { s with waits := [⟨.tile tile, c.toNat, n.toNat, false, s.now⟩] } ∧
         exec (.tileSemOp tile .waitConsume c n) s = .next { s with waits := [⟨.tile tile, c.toNat, n.toNat, true, s.now⟩] })) ∧
     (s.rf .semFlagsPoison c.toNat = 1 → exec (.semPoison c) s = .next s) ∧
     (s.rf .semFlagsPoison c.toNat ≠ 1 → Completes (exec (.semPoison c) s) (fun t => t = { s with regs := t.regs, events := t.events } ∧
       SameRegs s t [(.semFlagsPoison, c.toNat)] ∧ t.rf .semFlagsPoison c.toNat = 1 ∧ Raised s t 3 0 [evNotice 11 32 0 0x80 0 c.toNat]))) ∧
  (∀ (s : State) (k : Fin 16) (p : RemoteAdd) (source : BitVec 15) (x : Parked),
     let n := p.toNat
     let src := addSource n
     let ctr := addCounter n
     let v := s.rf .semCountCount ctr
     let early := serialGe (s.landed k.val src) (addFseq n) = false
     let Applied := fun (t : State) => SameRegs s t [(.semCountCount, ctr)] ∧ t.rf .semCountCount ctr = v + addAmount n ∧ t.park = [] ∧ t.waits = []
     let free := s.rf .semFlagsPoison ctr ≠ 1 ∧ s.waits = [] ∧ v + addAmount n < 2 ^ 32
     (addOk n = false → s.rf .lwdParkDiscardDiscards k.val + 1 < 2 ^ 32 → Completes (exec (.remoteAddReceive k p) s) (fun t =>
       OnlyRegs s t [(.lwdParkDiscardDiscards, k.val)] ∧ t.rf .lwdParkDiscardDiscards k.val = s.rf .lwdParkDiscardDiscards k.val + 1)) ∧
     (addOk n = true → addLaunch n ≠ s.goWtc → s.rf .kprParkDiscardsDiscards 0 + 1 < 2 ^ 32 → Completes (exec (.remoteAddReceive k p) s) (fun t =>
       OnlyRegs s t [(.kprParkDiscardsDiscards, 0)] ∧ t.rf .kprParkDiscardsDiscards 0 = s.rf .kprParkDiscardsDiscards 0 + 1)) ∧
     (addOk n = true → addLaunch n = s.goWtc → ¬ early → s.park = [] → free →
       Completes (exec (.remoteAddReceive k p) s) (fun t => Applied t ∧ t.wardens = s.wardens)) ∧
     (addOk n = true → addLaunch n = s.goWtc → early → s.park.length < 256 → Completes (exec (.remoteAddReceive k p) s) (fun t =>
       t = { s with park := t.park, wardens := t.wardens, regs := t.regs } ∧ SameWardens s t k.val ∧
       SameRegs s t [(.kprParkStatusHigh, 0), (.kprParkStatusFullSeen, 0)] ∧
       ∃ slot, t.park = s.park ++ [⟨slot, k.val, n, s.now, false⟩] ∧ ∀ q ∈ s.park, q.slot ≠ slot)) ∧
     (addOk n = true → addLaunch n = s.goWtc → early → s.park.length = 256 → Completes (exec (.remoteAddReceive k p) s) (fun t =>
       t = { s with wardens := t.wardens, regs := t.regs } ∧ SameWardens s t k.val ∧ SameRegs s t [(.lwdParkStatusBackpressure, k.val)] ∧
       (t.warden k.val).ingress = (s.warden k.val).ingress ++ [n] ∧ t.rf .lwdParkStatusBackpressure k.val = 1)) ∧
     (s.park = [] → engineReserved source.toNat = true → Completes (exec (.writeLanded k source) s) (fun t => t = { s with wardens := t.wardens } ∧
       SameWardens s t k.val ∧ t.warden k.val = { s.warden k.val with discards := (s.warden k.val).discards + 1 })) ∧
     (s.park = [] → engineReserved source.toNat = false → Completes (exec (.writeLanded k source) s) (fun t =>
       t = { s with wardens := t.wardens } ∧ SameWardens s t k.val ∧
       t.landed k.val source.toNat = succ32 (s.landed k.val source.toNat) ∧ ∀ d, d ≠ source.toNat → t.landed k.val d = s.landed k.val d)) ∧
     (s.park = [x] → x.port = k.val → x.packet = n → src = source.toNat → free →
       (¬ early → Completes (exec (.parkedAddRelease k source) s) (fun t => Applied t ∧ t.wardens = s.wardens)) ∧
       (early → exec (.parkedAddRelease k source) s = .next s)) ∧
     ((s.warden k.val).ingress = [] → Completes (exec (.priorityIngressResume k) s) (fun t =>
       OnlyRegs s t [(.lwdParkStatusBackpressure, k.val)] ∧ t.rf .lwdParkStatusBackpressure k.val = 0)) ∧
     ((s.warden k.val).ingress = [n] → s.park = [] → addOk n = true → addLaunch n = s.goWtc → early →
       Completes (exec (.priorityIngressResume k) s) (fun t => (t.warden k.val).ingress = [] ∧ t.rf .lwdParkStatusBackpressure k.val = 0 ∧
         t.park.map (fun q => q.packet) = [n])) ∧
     (s.park = [x] → x.timedOut = false → x.since + s.parkTicks < s.now → Completes (exec (.parkTimeout x.slot) s) (fun t =>
       t = { s with park := t.park, regs := t.regs, events := t.events } ∧ t.park = [{ x with timedOut := true }] ∧
       SameRegs s t [(.kprParkStatusParkTimeoutSeen, 0)] ∧ t.rf .kprParkStatusParkTimeoutSeen 0 = 1 ∧ ∃ payload, Raised s t 7 0 [.croak 0x13 1 payload])) ∧
     (s.park = [x] → x.timedOut = true ∨ s.now ≤ x.since + s.parkTicks → exec (.parkTimeout x.slot) s = .next s))

/-- R289, R290: a remote add leaves stamped with the fence sequence of its destination and the launch, under a check that holds; a
write sent raises SENT of its destination.

R134, R139 to R146, R211, R213: a chunk that leaves is announced to its receivers and logged, its digest over the view of its mode;
an announcement that passes opens a chorus and joins it, one that does not is counted; a data flit advances the digest of the chorus of
the instance begun last, the first flit of chunk 0 beginning one; with the table full a piece waits at ingress. A flit enters the mesh
under the current epoch, or is held at ingress while the epoch function drains. -/
def Obligations.WardensAndAnnouncements : Prop :=
  (∀ (s : State) (k : Fin 16) (dest : BitVec 15) (c : BitVec 12) (n : BitVec 32),
     Completes (exec (.remoteAddSend k dest c n) s) (fun t => t = { s with wardens := t.wardens, out := t.out } ∧ SameWardens s t k.val ∧
       (t.warden k.val) = { s.warden k.val with addSeq := succ32 (s.warden k.val).addSeq } ∧
       ∃ p, t.out = .remoteAdd k.val p :: s.out ∧ addCounter p = c.toNat ∧ addAmount p = n.toNat ∧ addFseq p = s.sent k.val dest.toNat % 2 ^ 32 ∧
         addLaunch p = s.goWtc % 2 ^ 64 ∧ bits p 48 15 = dest.toNat ∧ recordOk p 30 = true) ∧
     Completes (exec (.fabricWriteSend k dest) s) (fun t => t = { s with wardens := t.wardens } ∧ SameWardens s t k.val ∧
       t.sent k.val dest.toNat = succ32 (s.sent k.val dest.toNat) ∧ ∀ d, d ≠ dest.toNat → t.sent k.val d = s.sent k.val d)) ∧
  (∀ (s : State) (k : Fin 16) (coll : BitVec 16) (inst : BitVec 32) (chunk : BitVec 12) (i : Nat) (words : List (BitVec 32))
     (first : BitVec 32) (rest : List (BitVec 32)) (ann : Announcement) (l : Collective) (c : Chorus) (r : Nat),
     let w := s.warden k
     let a := ann.toNat
     let Shown := [(RF.lwdDigStatusOpen, k.val), (.lwdDigStatusRollcall, k.val), (.lwdDigStatusBackpressure, k.val)]
     (s.collective k.val coll.toNat = none → exec (.chunkEgress k coll chunk words) s = .next s) ∧
     (s.collective k.val coll.toNat = some l → l.contributes = true → l.receivers = [r] → s.fnOn (.chorus k) = true →
       let begun := Tab.get (fun _ => 0) w.insts coll.toNat + (if chunk.toNat = 0 then 1 else 0)
       let d := pldAt (s.chunkSeed coll.toNat ((begun - 1) % 2 ^ 32) chunk.toNat) 0 (egressView l.exactMode words)
       Completes (exec (.chunkEgress k coll chunk words) s) (fun t => t = { s with wardens := t.wardens, out := t.out } ∧ SameWardens s t k.val ∧
         Tab.get (fun _ => 0) (t.warden k.val).insts coll.toNat = begun ∧ (t.warden k.val).annSeq = succ32 w.annSeq ∧
         (w.annLog.length < 4096 → (t.warden k.val).annLog = w.annLog ++ [⟨coll.toNat, (begun - 1) % 2 ^ 32, chunk.toNat, d, l.transfer⟩]) ∧
         ∃ b, t.out = .digest k.val r b :: s.out ∧ bits b 4 4 = 1 ∧ bits b 16 16 = coll.toNat ∧ bits b 32 32 = (begun - 1) % 2 ^ 32 ∧
           bits b 64 12 = chunk.toNat ∧ bits b 128 64 = d % 2 ^ 64 ∧ recordOk b 30 = true)) ∧
     (bits a 16 16 = coll.toNat → bits a 32 32 = inst.toNat → bits a 64 12 = chunk.toNat → w.pieces = [] →
       let key := (coll.toNat, inst.toNat, chunk.toNat)
       (annGood a 1 = false → s.rf .lwdAnnDiscardCount k.val + 1 < 2 ^ RF.lwdAnnDiscardCount.spec.width →
         Completes (exec (.announcementReceive k ann) s) (fun t => OnlyRegs s t ((.lwdAnnDiscardCount, k.val) :: Shown) ∧
           t.rf .lwdAnnDiscardCount k.val = s.rf .lwdAnnDiscardCount k.val + 1)) ∧
       (annGood a 1 = true → s.collective k.val coll.toNat = some l → s.annFits k.val a l = true → s.tagPasses a = true →
         s.chorusOf k.val key = none →
         (w.chorus.length < 256 → Completes (exec (.announcementReceive k ann) s) (fun t => t = { s with wardens := t.wardens, regs := t.regs } ∧
           SameWardens s t k.val ∧ SameRegs s t Shown ∧ ∃ x, t.chorusOf k.val key = some x ∧
             x.anns = [(bits a 80 15, bits a 128 64 % p61, bits a 76 4)] ∧ x.openWtc = s.wtc ∧ x.openAt = s.now ∧ x.got = 0)) ∧
         (256 ≤ w.chorus.length → Completes (exec (.announcementReceive k ann) s) (fun t => (t.warden k.val) = { w with pieces := [.ann ann] } ∧
           SameRegs s t Shown ∧ t.rf .lwdDigStatusBackpressure k.val = 1)))) ∧
     (w.pieces = [] → s.collective k.val coll.toNat = some l → l.receives = true →
       let begun := Tab.get (fun _ => 0) w.instsIn coll.toNat + (if chunk.toNat = 0 ∧ i = 0 then 1 else 0)
       let key := (coll.toNat, (begun - 1) % 2 ^ 32, chunk.toNat)
       let els := ingressView l.exactMode (first :: rest)
       let Enters := fun (t : State) => t = { s with wardens := t.wardens, regs := t.regs, out := t.out } ∧ SameWardens s t k.val ∧
         Tab.get (fun _ => 0) (t.warden k.val).instsIn coll.toNat = begun ∧
         (if s.rf .kprEpochDraining 0 = 1 then t.out = s.out ∧ (t.warden k.val).heldFlits = w.heldFlits ++ [(coll.toNat, chunk.toNat, i)]
           else t.out = .flit k.val (s.rf .kprEpochCurrent 0) coll.toNat chunk.toNat i :: s.out ∧ (t.warden k.val).heldFlits = w.heldFlits)
       (s.fnOn (.chorus k) = true → key ∉ w.closed → s.chorusOf k.val key = some c → c.phase = 0 →
         Completes (exec (.chorusDataFlit k coll chunk i first rest) s) (fun t => Enters t ∧
           SameRegs s t Shown ∧ ∃ x, t.chorusOf k.val key = some x ∧ x.got = c.got + els.length ∧ x.anns = c.anns ∧
             x.digest = (c.digest + pldAt (s.chunkSeed coll.toNat ((begun - 1) % 2 ^ 32) chunk.toNat) i els) % p61 ∧
             (x.phase = 1 ↔ l.chunkLen ≤ c.got + els.length ∧ l.contributors.length ≤ c.anns.length))) ∧
       (s.fnState (.chorus k) = 0 → i = 0 → s.rf .lwdChunksUncheckedCount k.val + 1 < 2 ^ RF.lwdChunksUncheckedCount.spec.width →
         Completes (exec (.chorusDataFlit k coll chunk i first rest) s) (fun t => Enters t ∧ SameRegs s t ((.lwdChunksUncheckedCount, k.val) :: Shown) ∧
           t.rf .lwdChunksUncheckedCount k.val = s.rf .lwdChunksUncheckedCount k.val + 1))))

/-- R146, R147, R151, R152, R164: the verdict of a chorus. Digests that agree PASS, a class 10 event; ones that differ wait for a roll call in EXACT mode,
and FAIL otherwise, with a class 5 event that voids copies since OPEN_WTC; one that is not complete by its deadline ends INCOMPLETE, or
TAG. A chorus that ends leaves the table and is counted. -/
def Obligations.ChorusVerdictsAreReached : Prop :=
  ∀ (s : State) (k : Fin 16) (coll : BitVec 16) (inst : BitVec 32) (chunk : BitVec 12) (c : Chorus) (l : Collective),
    let key := (coll.toNat, inst.toNat, chunk.toNat)
    let Shown := [(RF.lwdDigStatusOpen, k.val), (.lwdDigStatusRollcall, k.val), (.lwdDigStatusBackpressure, k.val)]
    let Counted := fun (t : State) (F : RF) => t.rf F k.val = s.rf F k.val + 1
    (s.warden k.val).pieces = [] → s.chorusOf k.val key = some c → s.collective k.val coll.toNat = some l →
    s.sliceDepth (wardenField k.val) < 511 →
    (c.phase = 1 → c.digest = expectedSum c → s.rf .lwdChorusPassCount k.val + 1 < 2 ^ 32 →
      Completes (exec (.chorusCompare k coll inst chunk) s) (fun t =>
        t = { s with wardens := t.wardens, regs := t.regs, events := s.events ++ [⟨10, locWarden k.val, s.now, [.log]⟩] } ∧
        SameWardens s t k.val ∧ t.chorusOf k.val key = none ∧ key ∈ (t.warden k.val).closed ∧
        SameRegs s t ((.lwdChorusPassCount, k.val) :: Shown) ∧ Counted t .lwdChorusPassCount)) ∧
    (c.phase = 1 → c.digest ≠ expectedSum c → l.exactMode = true → Completes (exec (.chorusCompare k coll inst chunk) s) (fun t =>
      t = { s with wardens := t.wardens, regs := t.regs } ∧ SameWardens s t k.val ∧ t.chorusOf k.val key = some { c with phase := 2 } ∧
      SameRegs s t Shown)) ∧
    (c.phase = 1 → c.digest ≠ expectedSum c → l.exactMode = false → s.rf .lwdChorusFailCount k.val + 1 < 2 ^ 32 →
      Completes (exec (.chorusCompare k coll inst chunk) s) (fun t => t.chorusOf k.val key = none ∧ Counted t .lwdChorusFailCount ∧
        bits (t.rf .lwdChorusLastRecord k.val) 4 4 = 1 ∧
        ∃ acts, ⟨5, locWarden k.val, s.now, acts⟩ ∈ t.events ∧ .void c.openWtc ∈ acts ∧ .rollback c.openWtc ∈ acts)) ∧
    (c.phase = 0 → c.openAt + 1000 * clamp 1 1000 (s.rf .lwdDigCtrlDeadlineMs k.val) ≤ s.now →
      let F := if c.tagFail then RF.lwdChorusTagCount else .lwdChorusIncompleteCount
      s.rf F k.val + 1 < 2 ^ 32 → Completes (exec (.chorusDeadline k coll inst chunk) s) (fun t => t.chorusOf k.val key = none ∧ Counted t F ∧
        bits (t.rf .lwdChorusLastRecord k.val) 4 4 = (if c.tagFail then 3 else 2) ∧ SameRegs s t ((F, k.val) :: (.lwdChorusLastRecord, k.val) :: Shown) ∧
        ∃ acts, Raised s t 10 (locWarden k.val) acts)) ∧
    (c.phase = 0 → s.now < c.openAt + 1000 * clamp 1 1000 (s.rf .lwdDigCtrlDeadlineMs k.val) →
      exec (.chorusDeadline k coll inst chunk) s = .next s)

/-- R148 to R150, R164: roll calls. The oldest failed chorus calls its contributors one by one; a Warden called asks for the link share to re-issue
the chunk it has logged, or answers STALE, and answers with the digest of what it sent again; each answer is kept until all are in, and the deadline ends
the call with its culprit. A name notice is a class 5 event with one CHORUS detection of the port it names. -/
def Obligations.RollCallsNameTheirCulprit : Prop :=
  ∀ (s : State) (k : Fin 16) (coll : BitVec 16) (inst : BitVec 32) (chunk : BitVec 12) (c : Chorus) (l : Collective) (e : Nat) (rcv : BitVec 15)
    (words : List (BitVec 32)) (ann : Announcement) (g : LoggedAnn) (data : Option (List (BitVec 32))),
    let a := ann.toNat
    let w := s.warden k.val
    let key := (coll.toNat, inst.toNat, chunk.toNat)
    let src := bits a 80 15
    (w.chorus = [c] → c.phase = 2 → chorusKey c = key → s.collective k.val coll.toNat = some l → l.contributors = [e] →
      Completes (exec (.rollCallStart k coll inst chunk) s) (fun t => t.chorusOf k.val key = some { c with phase := 3, rollAt := s.now } ∧
        t.rf .lwdDigStatusRollcall k.val = 1 ∧ SameWardens s t k.val ∧ ∃ b, t.out = .digest k.val e b :: s.out ∧ bits b 4 4 = 2 ∧ recordOk b 30 = true)) ∧
    (annGood a 2 = true → s.tagPasses a = true → bits a 192 15 = s.engine → engineReserved src = false →
      bits a 16 16 = coll.toNat → bits a 32 32 = inst.toNat → bits a 64 12 = chunk.toNat →
      (w.annLog = [g] → (g.coll, g.inst, g.chunk) = key → Completes (exec (.rollCallReceive k ann) s) (fun t =>
        t = { s with wardens := t.wardens } ∧ SameWardens s t k.val ∧ (t.warden k.val).reissues = w.reissues ++ [⟨g, src, false⟩])) ∧
      (w.annLog = [] → Completes (exec (.rollCallReceive k ann) s) (fun t => SameWardens s t k.val ∧ t.regs = s.regs ∧
        ∃ b, t.out = .digest k.val src b :: s.out ∧ bits b 4 4 = 3 ∧ bits b 11 1 = 1 ∧ bits b 16 16 = coll.toNat ∧ recordOk b 30 = true))) ∧
    (w.reissues = [⟨g, rcv.toNat, false⟩] → exec (.rollCallAnswerSend k coll inst chunk rcv words) s = .next s) ∧
    (w.reissues = [⟨g, rcv.toNat, true⟩] → (g.coll, g.inst, g.chunk) = key → s.collective k.val coll.toNat = some l →
      let d := pldAt (s.chunkSeed coll.toNat inst.toNat chunk.toNat) 0 (egressView true words)
      Completes (exec (.rollCallAnswerSend k coll inst chunk rcv words) s) (fun t => (t.warden k.val).reissues = [] ∧ SameWardens s t k.val ∧
        t.regs = s.regs ∧ ∃ b, t.out = .digest k.val rcv.toNat b :: s.out ∧ bits b 4 4 = 3 ∧ bits b 128 64 = d % 2 ^ 64 ∧
          bits b 11 1 = (if d = g.digest then 0 else 1))) ∧
    (s.chorusOf k.val key = some c → s.collective k.val coll.toNat = some l → c.phase = 3 →
      (annGood a 3 = true → s.tagPasses a = true → bits a 192 15 = s.engine → l.contributors.contains src = true → c.answers = [] →
        bits a 16 16 = coll.toNat → bits a 32 32 = inst.toNat → bits a 64 12 = chunk.toNat →
        let x : RollAnswer := ⟨src, decide (bits a 11 1 = 1), data.map (fun x => pldAt (s.chunkSeed coll.toNat inst.toNat chunk.toNat) 0 (egressView true x))⟩
        rollDone l { c with answers := [x] } = false → Completes (exec (.rollCallAnswerReceive k ann data) s) (fun t =>
          t = { s with wardens := t.wardens } ∧ SameWardens s t k.val ∧ t.chorusOf k.val key = some { c with answers := [x] })) ∧
      (c.rollAt + 1000 * clamp 10 1000 (s.rf .lwdDigCtrlRollcallMs k.val) ≤ s.now → w.pieces = [] → s.rf .lwdChorusFailCount k.val + 1 < 2 ^ 32 →
        Completes (exec (.rollCallDeadline k coll inst chunk) s) (fun t => t.chorusOf k.val key = none ∧
          t.rf .lwdChorusFailCount k.val = s.rf .lwdChorusFailCount k.val + 1 ∧
          bits (t.rf .lwdChorusLastRecord k.val) 10 2 = (if l.contributors.any (fun e => decide (judgeAnswer c e = 1)) then 0
            else if l.contributors.any (fun e => decide (judgeAnswer c e = 2)) then 2 else 1)))) ∧
    (annGood a 3 = false → s.rf .lwdAnnDiscardCount k.val + 1 < 2 ^ RF.lwdAnnDiscardCount.spec.width →
      Completes (exec (.rollCallAnswerReceive k ann data) s) (fun t => OnlyRegs s t [(.lwdAnnDiscardCount, k.val)] ∧
        t.rf .lwdAnnDiscardCount k.val = s.rf .lwdAnnDiscardCount k.val + 1)) ∧
    (annGood a 4 = true → s.tagPasses a = true → bits a 192 15 = s.engine → engineReserved src = false →
      s.sliceDepth (wardenField k.val) < 511 → Completes (exec (.nameNoticeReceive k ann) s) (fun t =>
        t = { s with regs := t.regs, events := t.events, freeCtr := t.freeCtr } ∧ SameRegs s t [(.lwdChorusLastRecord, k.val)] ∧
        bits (t.rf .lwdChorusLastRecord k.val) 12 1 = 1 ∧
        ∃ acts, Raised s t 5 (locWarden k.val) acts ∧ .detect (laneKey (bits a 76 4) 127) 0x007 2 ∈ acts))

/-- R4 to R7: an access of a width or alignment that R4 does not allow sets ACCESS_ERR and does nothing else; a write takes the bits of
an RW field, clears the W1C bits it names, and leaves an RO field; a 4-byte read of a 64-bit register's low word latches the high word,
which the read of the high word returns.

R43, R341, R454, R455: the windows. A read of a ledger entry's low half latches the upper half; the ledger and the Flight Recorder take
no write; a load region of the Keeper Store takes exactly the bytes written while it may be written, and sets ACCESS_ERR otherwise; an
access that nothing answers returns zero and sets REG_TIMEOUT.

R456, R457: a Sentinel access begins with GO, or ends at once with BAD_ADDR; GO set again is discarded with ACCESS_ERR. It ends with
its answer, UNAVAILABLE with compute held, or TIMEOUT after 1,000 ticks, and GO clear. -/
def Obligations.Bar0RegistersWindowsAndSentinel : Prop :=
  (∀ (s : State) (addr width : Nat) (v : BitVec 64), s.boot.aoiOn = true →
     (accessOk addr width = false → Completes (exec (.registerWrite addr width v) s) (fun t => OnlyRegs s t [(.hptStatusAccessErr, 0)] ∧
       t.rf .hptStatusAccessErr 0 = 1)) ∧
     Completes (exec (.registerWrite 0x11100 4 v) s) (fun t => OnlyRegs s t [(.kprParkCtrlParkMs, 0)] ∧
       t.rf .kprParkCtrlParkMs 0 = v.toNat % 2 ^ 16) ∧
     exec (.registerWrite 0x11408 4 v) s = .next s ∧
     (s.rf .aoiResetCauseStation 0 ≤ 1 → s.rf .aoiResetCausePort 0 ≤ 1 → Completes (exec (.registerWrite 0x300 4 v) s) (fun t =>
       t = { s with regs := t.regs } ∧ (∀ F i, F.spec.acc ≠ .w1c → t.rf F i = s.rf F i) ∧
       t.rf .aoiResetCauseStation 0 = (if v.toNat.testBit 8 then 0 else s.rf .aoiResetCauseStation 0) ∧
       t.rf .aoiResetCausePort 0 = (if v.toNat.testBit 9 then 0 else s.rf .aoiResetCausePort 0))) ∧
     Completes (exec (.latchedLowWordRead 0x11000) s) (fun t => t = { s with host := { s.host with latch := t.host.latch }, out := t.out } ∧
       t.out = .read 0x11000 (s.wtc % 2 ^ 32) :: s.out ∧ t.host.latch = some (0x11000, s.wtc / 2 ^ 32 % 2 ^ 32)) ∧
     (∀ w, s.host.latch = some (0x11000, w) → exec (.latchedLowWordRead 0x11004) s =
       .next { s with host := { s.host with latch := none }, out := .read 0x11004 w :: s.out })) ∧
  (∀ (s : State) (addr width i : Nat) (v : BitVec 64), s.boot.aoiOn = true →
     let Refused := fun (c : Instr) => Completes (exec c s) (fun t => OnlyRegs s t [(.hptStatusAccessErr, 0)] ∧ t.rf .hptStatusAccessErr 0 = 1)
     (i < 32768 → exec (.ledgerLowHalfRead i) s = .next { s with
       ledger := { s.ledger with latch := some (i, s.ledgerEntry i / 2 ^ 64) }, out := .read (0x400000 + 16 * i) (s.ledgerEntry i % 2 ^ 64) :: s.out }) ∧
     (0x400000 ≤ addr → addr < 0x480000 → Refused (.ledgerWindowWrite addr width v)) ∧
     (0xC00000 ≤ addr → Refused (.flightRecorderWindowWrite addr width v)) ∧
     (accessOk addr width = true → 0x800000 ≤ addr → addr < 0xC00000 →
       (s.ksWritable (s.ksOffset addr) = true → Completes (exec (.keeperStoreWindowWrite addr width v) s) (fun t =>
         t = { s with ks := t.ks } ∧ BytesStored s.ks t.ks (s.ksOffset addr) width (v.toNat % 2 ^ (8 * width)))) ∧
       (s.ksWritable (s.ksOffset addr) = false → Refused (.keeperStoreWindowWrite addr width v))) ∧
     Completes (exec (.registerAccessTimeout addr) s) (fun t => t = { s with out := .read addr 0 :: s.out, regs := t.regs } ∧
       SameRegs s t [(.kprHangStatusRegTimeout, 0)] ∧ t.rf .kprHangStatusRegTimeout 0 = 1)) ∧
  (∀ (s : State) (f : Fin 32) (set : Fin 2) (answered : Bool),
     let i := tsnSet f.val set.val
     let t0 := Tab.get (fun _ => 0) s.tsnGo i
     let tile := tileId f.val (s.rf .fstTsnCmdRow i) (s.rf .fstTsnCmdColumn i)
     let go := s.rf .fstTsnCmdGo i
     let Ends := fun (o : Host.Outcome State Fault Refusal) (err : Nat) => Completes o (fun t => t = { s with regs := t.regs } ∧
       SameRegs s t [(.fstTsnDataData, i), (.fstTsnCmdGo, i), (.fstTsnCmdErr, i)] ∧ t.rf .fstTsnCmdGo i = 0 ∧ t.rf .fstTsnCmdErr i = err ∧
       t.rf .fstTsnDataData i = if err = 0 then s.blkWord .sentinel tile (s.rf .fstTsnCmdOffset i) % 2 ^ 64 else 0)
     (go = 1 → Completes (exec (.fstTsnGo f set) s) (fun t => OnlyRegs s t [(.hptStatusAccessErr, 0)])) ∧
     (go ≠ 1 → Completes (exec (.fstTsnGo f set) s) (fun t => t = { s with regs := t.regs, tsnGo := t.tsnGo } ∧
       SameRegs s t [(.fstTsnCmdGo, i), (.fstTsnCmdErr, i)] ∧ Tab.get (fun _ => 0) t.tsnGo i = s.now ∧
       (s.tsnBad i = false → t.rf .fstTsnCmdGo i = 1 ∧ t.rf .fstTsnCmdErr i = s.rf .fstTsnCmdErr i) ∧
       (s.tsnBad i = true → t.rf .fstTsnCmdGo i = 0 ∧ t.rf .fstTsnCmdErr i = 1))) ∧
     (go = 0 → exec (.sentinelAccessEnd f set answered) s = .next s) ∧
     (go = 1 → s.domState .compute = 2 → Ends (exec (.sentinelAccessEnd f set answered) s) 2) ∧
     (go = 1 → s.dropped f.val = false → s.domState .compute = 0 →
       (s.now < t0 + 1000 → s.rf .fstTsnCmdWrite i = 0 → s.rf .fstTsnCmdWide i = 0 → Ends (exec (.sentinelAccessEnd f set true) s) 0) ∧
       (s.now < t0 + 1000 → exec (.sentinelAccessEnd f set false) s = .next s) ∧
       (t0 + 1000 ≤ s.now → s.rf .fstTsnCmdWrite i = 0 → Completes (exec (.sentinelAccessEnd f set answered) s) (fun t =>
         t.rf .fstTsnCmdGo i = 0 ∧ t.rf .fstTsnCmdErr i = 3 ∧ t.rf .fstTsnDataData i = 0 ∧
         SameRegs s t [(.fstTsnDataData, i), (.fstTsnCmdGo, i), (.fstTsnCmdErr, i)]))))

/-- R43, R48, R51 to R53, R58, R59, R403, R407: the host's ledger commands. Each is lodged with its operands and takes its place in the
tick, after the detections and the firmware updates; nothing else of the state changes until then. Then a query answers the entry; an
operator entry takes a free place; FREE and ACCEPT free the entry they may; DROP makes a disputed field's entry CONDEMNED and drops the
field. A key that R36 does not allow is BAD_FIELD, and what R48 does not allow LEDGER_REFUSED; either leaves the ledger as it was. -/
def Obligations.HostLedgerCommandsAnswer : Prop :=
  ∀ (s : State) (cid key : BitVec 32) (st : BitVec 3) (f : BitVec 5) (i : Nat) (e : Entry), s.hist.staged.length < 16384 →
    let k := wordKey key.toNat
    let slot := fun (t : State) (j : Nat) => Tab.get (fun _ => none) t.ledger.slots j
    let Others := fun (t : State) => ∀ j, j ≠ i → slot t j = slot s j
    let Lodges := fun (c : Instr) (op arg1 arg2 : Nat) => s.canAnswer op cid.toNat → Completes (exec c s) (fun t =>
      t = { s with regs := t.regs, host := t.host, ledger := { s.ledger with cmds := s.ledger.cmds ++ [⟨op, cid.toNat, arg1, arg2⟩] } } ∧
      t.host.outQ = s.host.outQ ∧ SameRegs s t creditRegs ∧ ∃ x ∈ t.host.taken, x.cid = cid.toNat ∧ x.opcode = op ∧ x.applied = true)
    let query := s.ledgerQuery cid.toNat key.toNat
    let add := s.ledgerWrite ⟨0x21, cid.toNat, key.toNat, st.toNat⟩
    let free := s.ledgerWrite ⟨0x22, cid.toNat, key.toNat, 0⟩
    let accept := s.ledgerWrite ⟨0x23, cid.toNat, f.toNat, 0⟩
    let drop := s.ledgerWrite ⟨0x24, cid.toNat, f.toNat, 0⟩
    let Refuses := fun (t : State) (op status : Nat) => Responded s t op cid.toNat status ∧ t.ledger = s.ledger ∧
      t.hist = s.hist ∧ SameRegs s t creditRegs
    Lodges (.ledgerQuery cid key) 0x20 key.toNat 0 ∧ Lodges (.ledgerAdd cid key st) 0x21 key.toNat st.toNat ∧
    Lodges (.ledgerFree cid key) 0x22 key.toNat 0 ∧ Lodges (.ledgerAccept cid f) 0x23 f.toNat 0 ∧ Lodges (.ledgerDrop cid f) 0x24 f.toNat 0 ∧
    (s.canAnswer 0x20 cid.toNat →
      (keyWordOk key.toNat = true →
        RespondedWith s query 0x20 cid.toNat 0 (fun p => p % 2 ^ 128 = s.entryOf k) ∧ query.ledger = s.ledger ∧ SameRegs s query creditRegs) ∧
      (keyWordOk key.toNat = false → Refuses query 0x20 7)) ∧
    (s.canAnswer 0x21 cid.toNat →
      (keyWordOk key.toNat = false ∨ 1 < st.toNat → Refuses add 0x21 7) ∧
      (keyWordOk key.toNat = true → st.toNat ≤ 1 → (s.findEntry k).isSome = true → Refuses add 0x21 9) ∧
      (keyWordOk key.toNat = true → st = 0 → s.findEntry k = none → s.freeEntry = some i →
        Responded s add 0x21 cid.toNat 0 ∧ slot add i = some ⟨k, 4, 0, 0, 0x070, s.now % 2 ^ 48⟩ ∧ Others add ∧ SameRegs s add creditRegs ∧
        ∃ acts, Raised s add 10 0 acts)) ∧
    (s.canAnswer 0x22 cid.toNat → keyWordOk key.toNat = true →
      (s.findEntry k = some (i, e) → e.origin = 4 → e.state = 0 →
        Responded s free 0x22 cid.toNat 0 ∧ slot free i = none ∧ Others free ∧ SameRegs s free creditRegs) ∧
      (s.findEntry k = some (i, e) → e.origin ≠ 4 ∨ e.state = 4 → Refuses free 0x22 9) ∧
      (s.findEntry k = none → Refuses free 0x22 9)) ∧
    (s.canAnswer 0x23 cid.toNat →
      (s.findEntry (stationKey f.toNat) = some (i, e) → e.state = 4 →
        Responded s accept 0x23 cid.toNat 0 ∧ slot accept i = none ∧ Others accept ∧ f.toNat ∈ accept.ledger.accepted ∧
        accept.disputed f.toNat = false ∧ SameRegs s accept ((.kprLedgerDisputedFields, 0) :: creditRegs)) ∧
      (s.findEntry (stationKey f.toNat) = none → s.disputed f.toNat = false → Refuses accept 0x23 9)) ∧
    (s.canAnswer 0x24 cid.toNat →
      (s.findEntry (stationKey f.toNat) = some (i, e) → e.state = 4 → s.dropped f.toNat = false → s.regrows = [] → s.episodes = [] → s.waits = [] →
        Responded s drop 0x24 cid.toNat 0 ∧ slot drop i = some { e with state := 2, origin := 4 } ∧
          Others drop ∧ drop.dropped f.toNat = true ∧ drop.domState (.station (toFin32 f.toNat)) = 2) ∧
      (s.findEntry (stationKey f.toNat) = none → s.disputed f.toNat = false → Refuses drop 0x24 9))

/-- R48, R61, R64, R272, R461: the ledger flash. While the flash write window is open the oldest staged record is appended to the active
half, an anchor that is due and an identity record that waits are written; nothing is written while it is closed. The hourly age check
frees a TRANSIENT entry with no recent detection, and keeps every other. -/
def Obligations.LedgerFlashAndAging : Prop :=
  ∀ (s : State) (r : HistRec) (rest : List HistRec) (n : Nat × Nat) (i : Nat) (e : Entry),
    (s.flashOpen = false → exec .historyRecordWrite s = .next s ∧ exec .timeAnchorWrite s = .next s ∧ exec .identityRecordWrite s = .next s) ∧
    (s.flashOpen = true → s.anchorDue = false → s.activeFull = false → s.hist.headerDue = false → s.hist.staged = r :: rest →
      exec .historyRecordWrite s = .next { s with hist := if s.hist.active = 0 then { s.hist with staged := rest, half0 := s.hist.half0 ++ [recBytes r] }
        else { s.hist with staged := rest, half1 := s.hist.half1 ++ [recBytes r] } }) ∧
    (s.flashOpen = true → s.anchorDue = true → s.anchors.newest = some n → s.anchors.active = 0 → s.anchors.sec0.length < 128 →
      exec .timeAnchorWrite s = .next { s with anchors := { s.anchors with sec0 := s.anchors.sec0 ++ [(succ32 n.1, s.now)] } }) ∧
    (s.flashOpen = true → s.anchorDue = true → s.anchors.newest = some n → s.anchors.active = 0 → 128 ≤ s.anchors.sec0.length →
      exec .timeAnchorWrite s = .next { s with anchors := { s.anchors with sec1 := [(succ32 n.1, s.now)], active := 1 } }) ∧
    (s.flashOpen = true → s.identDue = true → s.idents.newest = some n → s.idents.active = 0 → s.idents.sec0.length < 128 →
      exec .identityRecordWrite s = .next { s with
        idents := { s.idents with sec0 := s.idents.sec0 ++ [(succ32 n.1, s.rf .kprEngineEngine 0)] }, identDue := false }) ∧
    (s.now < s.hist.ageAt + 3600000000 → exec .ageCheck s = .next s) ∧
    (s.hist.ageAt + 3600000000 ≤ s.now → s.ledger.slots = [(i, some e)] → s.hist.staged.length < 16384 →
      (e.state = 3 → s.detections e.key = 0 → Completes (exec .ageCheck s) (fun t => t.ledger.slots = [] ∧ t.hist.ageAt = s.now ∧ t.regs = s.regs ∧
        ∃ acts, Raised s t 10 0 acts)) ∧
      (e.state ≠ 3 ∨ s.detections e.key ≠ 0 → exec .ageCheck s = .next { s with hist := { s.hist with ageAt := s.now } }))

/-- R397, R404, R406: PING, STATUS and the register commands answer; what R406 does not allow is BAD_FIELD. While no host is attached a
command is discarded and counted. -/
def Obligations.HostQueriesAndRegisters : Prop :=
  ∀ (s : State) (cid : BitVec 32) (addr : BitVec 24) (width : BitVec 4) (v : BitVec 64),
    (s.canAnswer 0x03 cid.toNat → Completes (exec (.ping cid) s) (fun t => SameRegs s t creditRegs ∧
      RespondedWith s t 0x03 cid.toNat 0 (fun p => bits p 0 64 = s.wtc % 2 ^ 64 ∧ bits p 64 64 = s.now % 2 ^ 64))) ∧
    (s.canAnswer 0x12 cid.toNat → Completes (exec (.status cid) s) (fun t => SameRegs s t creditRegs ∧
      RespondedWith s t 0x12 cid.toNat 0 (fun p => bits p 0 4 = s.rf .kprBringupStatusStage 0 % 16 ∧ bits p 128 64 = s.rf .kprSecStepStep 0 % 2 ^ 64 ∧
        bits p 192 64 = s.wtc % 2 ^ 64))) ∧
    (s.canAnswer 0x10 cid.toNat →
      Completes (exec (.regRead cid 0x11000 8) s) (fun t => SameRegs s t creditRegs ∧
        RespondedWith s t 0x10 cid.toNat 0 (fun p => p = s.wtc % 2 ^ 64)) ∧
      (accessOk addr.toNat width.toNat = false → Completes (exec (.regRead cid addr width) s) (fun t =>
        Responded s t 0x10 cid.toNat 7 ∧ SameRegs s t ((.hptStatusAccessErr, 0) :: creditRegs)))) ∧
    (s.canAnswer 0x11 cid.toNat →
      Completes (exec (.regWrite cid 0x11100 4 v) s) (fun t => Responded s t 0x11 cid.toNat 0 ∧ t.rf .kprParkCtrlParkMs 0 = v.toNat % 2 ^ 16 ∧
        SameRegs s t ((.kprParkCtrlParkMs, 0) :: (.hptStatusAccessErr, 0) :: creditRegs)) ∧
      (accessOk addr.toNat width.toNat = false → Completes (exec (.regWrite cid addr width v) s) (fun t =>
        Responded s t 0x11 cid.toNat 7 ∧ SameRegs s t ((.hptStatusAccessErr, 0) :: creditRegs)))) ∧
    (s.rf .hptStatusAttached 0 ≠ 1 → s.rf .hptRejectedCount 0 + 1 < 2 ^ RF.hptRejectedCount.spec.width → ∀ c : Instr,
      c ∈ [.ping cid, .status cid, .regRead cid addr width, .regWrite cid addr width v, .recover cid, .detach cid] →
      Completes (exec c s) (fun t => OnlyRegs s t [(.hptRejectedCount, 0)] ∧ t.rf .hptRejectedCount 0 = s.rf .hptRejectedCount 0 + 1))

/-- R281, R283, R286, R407: SWITCH writes the request of the function it names; SEM_ADD and SEM_SUB of a good counter answer its count; a
SEM_WAIT that is met answers at once, and one that is not is held with no answer. A reserved function, n = 0, or a limit out of range is
BAD_FIELD; a poisoned counter POISONED. -/
def Obligations.HostSwitchesAndWaits : Prop :=
  ∀ (s : State) (cid : BitVec 32) (code : BitVec 4) (idx : BitVec 5) (on : Bool) (c : BitVec 12) (n limit : BitVec 32) (f : Func),
    let ctr := c.toNat
    let x := s.rf .semCountCount ctr
    let Refuses := fun (i : Instr) (op status : Nat) => Completes (exec i s) (fun t => Responded s t op cid.toNat status ∧ SameRegs s t creditRegs ∧
      t.waits = s.waits)
    (s.canAnswer 0x32 cid.toNat →
      (funcOf code.toNat idx.toNat = some f → Completes (exec (.switch cid code idx on) s) (fun t =>
        RespondedWith s t 0x32 cid.toNat 0 (fun p => p = t.fnState f) ∧ t.fnRequest f = bit on)) ∧
      (funcOf code.toNat idx.toNat = none → Refuses (.switch cid code idx on) 0x32 7)) ∧
    (s.canAnswer 0x40 cid.toNat →
      (n = 0 → Refuses (.semAdd cid c n) 0x40 7 ∧ Refuses (.semSub cid c n) 0x40 7) ∧
      (n ≠ 0 → s.rf .semFlagsPoison ctr = 1 → Refuses (.semAdd cid c n) 0x40 11 ∧ Refuses (.semSub cid c n) 0x40 11) ∧
      (n ≠ 0 → s.rf .semFlagsPoison ctr ≠ 1 → s.waits = [] → x + n.toNat < 2 ^ 32 → s.mapHere = false →
        Completes (exec (.semAdd cid c n) s) (fun t => RespondedWith s t 0x40 cid.toNat 0 (fun p => p = x + n.toNat) ∧
          t.rf .semCountCount ctr = x + n.toNat ∧ SameRegs s t ((.semCountCount, ctr) :: creditRegs))) ∧
      (n ≠ 0 → s.rf .semFlagsPoison ctr ≠ 1 → n.toNat ≤ x → x < 2 ^ 32 → Completes (exec (.semSub cid c n) s) (fun t =>
        RespondedWith s t 0x40 cid.toNat 0 (fun p => p = x - n.toNat) ∧ t.rf .semCountCount ctr = x - n.toNat ∧
        SameRegs s t ((.semCountCount, ctr) :: creditRegs)))) ∧
    (s.canAnswer 0x41 cid.toNat →
      (n = 0 ∨ limit = 0 ∨ 10000000 < limit.toNat → Refuses (.semWait cid c n limit) 0x41 7 ∧ Refuses (.semWaitConsume cid c n limit) 0x41 7) ∧
      (n ≠ 0 → limit ≠ 0 → limit.toNat ≤ 10000000 → s.rf .semFlagsPoison ctr ≠ 1 → x < 2 ^ 32 →
        (n.toNat ≤ x →
          Completes (exec (.semWait cid c n limit) s) (fun t => RespondedWith s t 0x41 cid.toNat 0 (fun p => p = x) ∧ SameRegs s t creditRegs) ∧
          Completes (exec (.semWaitConsume cid c n limit) s) (fun t => RespondedWith s t 0x41 cid.toNat 0 (fun p => p = x - n.toNat) ∧
            t.rf .semCountCount ctr = x - n.toNat ∧ SameRegs s t ((.semCountCount, ctr) :: creditRegs))) ∧
        (x < n.toNat → s.waits = [] →
          Completes (exec (.semWait cid c n limit) s) (fun t => t.host.outQ = s.host.outQ ∧ SameRegs s t creditRegs ∧
            t.waits = [⟨.host cid.toNat limit.toNat, ctr, n.toNat, false, s.now⟩]) ∧
          Completes (exec (.semWaitConsume cid c n limit) s) (fun t => t.host.outQ = s.host.outQ ∧ SameRegs s t creditRegs ∧
            t.waits = [⟨.host cid.toNat limit.toNat, ctr, n.toNat, true, s.now⟩]))))

/-- R153, R154, R247, R373, R376, R407: TEST, the job key, PAIR and RUN_DIGEST. TEST of a tile that R187 does not allow is refused; a key
is taken only while no launch runs and is never zero; PAIR answers the holder; the host's digests are taken as they come, and the record
answered is the one of the run, after every write of the tick. -/
def Obligations.HostKeysTestsAndDigests : Prop :=
  ∀ (s : State) (cid : BitVec 32) (unit : BitVec 19) (mode : BitVec 2) (key : BitVec 256) (e : BitVec 15),
    let Refuses := fun (i : Instr) (op status : Nat) => Completes (exec i s) (fun t => Responded s t op cid.toNat status ∧ SameRegs s t creditRegs ∧
      t.st = s.st ∧ t.sec = s.sec ∧ t.jobKey = s.jobKey)
    (s.canAnswer 0x50 cid.toNat →
      (tileOk unit.toNat = false ∨ mode = 3 → Refuses (.test cid unit mode) 0x50 7) ∧
      (tileOk unit.toNat = true → mode ≠ 3 → s.orderable unit.toNat = false → Refuses (.test cid unit mode) 0x50 9) ∧
      (tileOk unit.toNat = true → mode ≠ 3 → s.orderable unit.toNat = true → Completes (exec (.test cid unit mode) s) (fun t =>
        ∃ u, u = { s with host := u.host, regs := u.regs } ∧ SameRegs s u creditRegs ∧ t = u.orderVisit unit.toNat mode.toNat (.host cid.toNat)))) ∧
    (s.canAnswer 0x30 cid.toNat →
      (s.launch.running = true → Refuses (.jobKeyLoad cid key) 0x30 9) ∧
      (s.launch.running = false → key = 0 → Refuses (.jobKeyLoad cid key) 0x30 7) ∧
      (s.launch.running = false → key ≠ 0 → Completes (exec (.jobKeyLoad cid key) s) (fun t => Responded s t 0x30 cid.toNat 0 ∧
        t.jobKey = some key.toNat ∧ t.rf .kprDigKeyLoaded 0 = 1 ∧ SameRegs s t ((.kprDigKeyLoaded, 0) :: creditRegs))) ∧
      (s.launch.running = false → Completes (exec (.jobKeyZeroise cid) s) (fun t => Responded s t 0x30 cid.toNat 0 ∧ t.jobKey = none ∧
        t.sec.sessionKey = none ∧ t.rf .kprDigKeyLoaded 0 = 0 ∧
        SameRegs s t ((.kprDigKeyLoaded, 0) :: (.kprDigKeyTagsActive, 0) :: (.kprDigKeyZeroisePending, 0) :: creditRegs)))) ∧
    (s.canAnswer 0x31 cid.toNat →
      (20480 ≤ e.toNat → e.toNat ≠ 0x7FFF → Refuses (.pair cid e) 0x31 7) ∧
      (e.toNat < 20480 → s.rf .kprSecPairHolderValid 0 = 1 → Completes (exec (.pair cid e) s) (fun t =>
        RespondedWith s t 0x31 cid.toNat 0 (fun p => p = s.rf .kprSecPairHolder 0) ∧ t.sec = { s.sec with hostNamed := some e.toNat } ∧ SameRegs s t creditRegs)) ∧
      (e.toNat = 0x7FFF → Completes (exec (.pair cid e) s) (fun t => Responded s t 0x31 cid.toNat 0 ∧ t.sec = { s.sec with hostNamed := none }))) ∧
    (s.canAnswer 0x70 cid.toNat →
      Completes (exec (.runDigestQuery cid) s) (fun t =>
        t = { s with regs := t.regs, host := t.host, ledger := { s.ledger with cmds := s.ledger.cmds ++ [⟨0x70, cid.toNat, 0, 0⟩] } } ∧
        t.host.outQ = s.host.outQ ∧ SameRegs s t creditRegs) ∧
      (s.run.stale = false → RespondedWith s (s.runQuery cid.toNat) 0x70 cid.toNat 0 (fun p => p = s.runRecord) ∧
        (s.runQuery cid.toNat).run = s.run ∧ SameRegs s (s.runQuery cid.toNat) creditRegs) ∧
      Completes (exec (.runDigestSetWeights cid key) s) (fun t => Responded s t 0x70 cid.toNat 0 ∧
        t.run = { s.run with weights := key.toNat, stale := true } ∧ SameRegs s t ((.kprRunStatusWeightsSet, 0) :: creditRegs) ∧
        t.rf .kprRunStatusWeightsSet 0 = 1) ∧
      Completes (exec (.runDigestSetInput cid key) s) (fun t => Responded s t 0x70 cid.toNat 0 ∧
        t.run = { s.run with input := key.toNat, stale := true } ∧ SameRegs s t ((.kprRunStatusInputSet, 0) :: creditRegs) ∧
        t.rf .kprRunStatusInputSet 0 = 1)) ∧
    (s.run.stale = true → Completes (exec .runDigestRecompute s) (fun t => t = { s with run := { s.run with stale := false }, regs := t.regs } ∧
      SameRegs s t [(.kprRunDigestDigest, 0)] ∧ t.rf .kprRunDigestDigest 0 = s.runDigest % 2 ^ 256)) ∧
    (s.run.stale = false → exec .runDigestRecompute s = .next s)

/-- R382, R397, R399, R400: ATTACH with a ring that R392 allows and a common version begins an attachment: its response stands first in
the outbound queue, every credit is free, the ring is empty. A host is attached already: OWNED, and with FORCE the new attachment replaces
the old. DETACH ends it once every earlier command is answered; a link reset at once. -/
def Obligations.AttachmentsBeginAndEnd : Prop :=
  ∀ (s : State) (cid seq : BitVec 32) (base : BitVec 64) (units : BitVec 17) (versions : BitVec 3) (msix : Bool) (x : Taken) (kind : PcieReset),
    let Begun := fun (t : State) => t.rf .hptStatusAttached 0 = 1 ∧ t.rf .hptStatusVersion 0 = 1 ∧ t.rf .hptRingTailTail 0 = 0 ∧
      t.rf .hptRingHeadHead 0 = 0 ∧ t.rf .hptApExpectedSeq 0 = succ32 seq.toNat ∧ t.host.taken = [] ∧
      ∃ m rest, t.host.outQ = m :: rest ∧ m.cls = 1 ∧ m.code = 1 ∧ m.cid = cid.toNat ∧ m.status = 0 ∧ m.seq = 0
    (s.rf .hptStatusAttached 0 ≠ 1 → s.rxOpen = true → ringOk base.toNat units.toNat = true → versions.toNat % 2 = 1 →
      Completes (exec (.attach cid seq base units versions msix) s) Begun ∧
      Completes (exec (.attachForce cid seq base units versions msix) s) Begun) ∧
    (s.rf .hptStatusAttached 0 ≠ 1 → s.rxOpen = true → ringOk base.toNat units.toNat = false →
      s.rf .hptRejectedCount 0 + 1 < 2 ^ RF.hptRejectedCount.spec.width → Completes (exec (.attach cid seq base units versions msix) s) (fun t =>
        OnlyRegs s t [(.hptRejectedCount, 0)] ∧ t.rf .hptRejectedCount 0 = s.rf .hptRejectedCount 0 + 1)) ∧
    (s.rxOpen = false → exec (.attach cid seq base units versions msix) s = .next s ∧ exec (.attachForce cid seq base units versions msix) s = .next s) ∧
    (s.rxOpen = true → s.canAnswer 0x01 cid.toNat → Completes (exec (.attach cid seq base units versions msix) s) (fun t =>
      Responded s t 0x01 cid.toNat 8 ∧ SameRegs s t creditRegs)) ∧
    (s.rf .hptStatusAttached 0 = 1 → s.rxOpen = true → ringOk base.toNat units.toNat = true → versions.toNat % 2 = 1 →
      Completes (exec (.attachForce cid seq base units versions msix) s) (fun t => Begun t ∧ t.rf .hptStatusTakeoverSeen 0 = 1)) ∧
    (s.canAnswer 0x02 cid.toNat → s.host.taken = [] → Completes (exec (.detach cid) s) (fun t =>
      t.rf .hptStatusAttached 0 = 0 ∧ t.host.taken = [] ∧ t.host.detaching = none ∧ t.host.landed = [])) ∧
    (s.canAnswer 0x02 cid.toNat → s.host.taken = [x] → x.cid ≠ cid.toNat → Completes (exec (.detach cid) s) (fun t =>
      t.rf .hptStatusAttached 0 = 1 ∧ t.host.detaching = some cid.toNat ∧ t.host.outQ = s.host.outQ ∧ SameRegs s t creditRegs)) ∧
    (s.rf .hptStatusAttached 0 ≠ 1 → exec (.hostPortLinkReset kind) s =
      .next { s with host := { s.host with busMaster := false, d3hot := false, msixEntry := 2 ^ 96, msixPending := false } }) ∧
    (s.rf .hptStatusAttached 0 = 1 → Completes (exec (.hostPortLinkReset kind) s) (fun t => t.rf .hptStatusAttached 0 = 0 ∧ t.host.taken = [] ∧
      t.host.busMaster = false ∧ t.host.msixEntry = 2 ^ 96))

/-- R385 to R387: a write to the aperture takes its bytes, and lands its unit with byte 63; the message at HEAD, complete and next in
sequence, is taken: it holds a credit, or is answered BUSY with none free, and HEAD and EXPECTED_SEQ move past it.

R390, R391, R394 to R396: the Event Ring. A write of RING_HEAD inside the ring is taken, another sets ACCESS_ERR; the oldest message goes
into the ring when it has room, one place after the other; a range of rejections is told when the queue has room; 1,000 ticks at or above
244 commands set OVERLOAD and as many below clear it; the MSI-X signal owed is given once the holdoff has passed. -/
def Obligations.ApertureAndEventRing : Prop :=
  (∀ (s : State) (u : Fin 1024) (o : Nat) (data : List Byte),
     let h := s.rf .hptApHead 0
     let w := s.apUnit h
     (o + data.length ≤ 64 → data ≠ [] → Completes (exec (.apertureUnitWrite u o data) s) (fun t =>
       t = { s with host := { s.host with aperture := t.host.aperture, landed := t.host.landed, headAt := t.host.headAt, stuckSent := t.host.stuckSent } } ∧
       (∀ j, j < 64 → bits (t.apUnit u.val) (8 * j) 8 = if o ≤ j ∧ j < o + data.length then ((data[j - o]?).getD 0).toNat
         else bits (s.apUnit u.val) (8 * j) 8) ∧
       (∀ v, v % 1024 ≠ u.val → t.apUnit v = s.apUnit v ∧ t.apLanded v = s.apLanded v) ∧
       t.apLanded u.val = (decide (o + data.length = 64) || s.apLanded u.val))) ∧
     (s.apReady = false → exec .commandTake s = .next s) ∧
     (s.apReady = true → s.rf .hptStatusAttached 0 = 1 → s.host.taken.length < 256 → Completes (exec .commandTake s) (fun t =>
       t.host.taken = s.host.taken ++ [⟨bits w 64 32, bits w 32 32, bits w 8 8, s.now, w, false⟩] ∧ t.host.outQ = s.host.outQ ∧
       t.rf .hptApHead 0 = (h + unitsTaken w) % 1024 ∧ t.rf .hptApExpectedSeq 0 = succ32 (bits w 32 32) ∧
       SameRegs s t ((.hptApHead, 0) :: (.hptApExpectedSeq, 0) :: creditRegs))) ∧
     (s.apReady = true → s.rf .hptStatusAttached 0 = 1 → 256 ≤ s.host.taken.length → s.host.outQ.length < 4096 → Completes (exec .commandTake s) (fun t =>
       t.host.taken = s.host.taken ∧ t.rf .hptApHead 0 = (h + unitsTaken w) % 1024 ∧
       ∃ m, Queued s t m ∧ m.cls = 1 ∧ m.code = bits w 8 8 ∧ m.cid = bits w 64 32 ∧ m.status = 1))) ∧
  (∀ (s : State) (head : BitVec 32) (m : Msg) (rest : List Msg) (f n : Nat) (more : List (Nat × Nat)),
     (s.domState .keeper ≠ 2 →
       ((s.ringTail + 2 ^ 32 - head.toNat) % 2 ^ 32 ≤ s.ringSize → serialGe head.toNat (s.rf .hptRingHeadHead 0) = true →
         Completes (exec (.hptRingHeadWrite head) s) (fun t => OnlyRegs s t [(.hptRingHeadHead, 0)] ∧ t.rf .hptRingHeadHead 0 = head.toNat)) ∧
       (s.ringSize < (s.ringTail + 2 ^ 32 - head.toNat) % 2 ^ 32 →
         Completes (exec (.hptRingHeadWrite head) s) (fun t => OnlyRegs s t [(.hptStatusAccessErr, 0)] ∧ t.rf .hptStatusAccessErr 0 = 1))) ∧
     (s.host.outQ = m :: rest → s.rf .hptStatusAttached 0 = 1 → s.busUp = true → s.ringRoom m.units = true → m.units = 1 → s.host.discards = [] →
       Completes (exec .eventRingWrite s) (fun t => t.host.outQ = rest ∧ SameRegs s t [(.hptRingTailTail, 0)] ∧
         t.rf .hptRingTailTail 0 = (s.ringTail + 1) % 2 ^ 32 ∧ Tab.get (fun _ => 0) t.host.ring (s.ringTail % s.ringSize) =
           bits (msgUnits m ((s.ringTail / s.ringSize + 1) % 2) (s.rf .hptStatusVersion 0)) 0 512 ∧
         ∀ j, j ≠ s.ringTail % s.ringSize → Tab.get (fun _ => 0) t.host.ring j = Tab.get (fun _ => 0) s.host.ring j)) ∧
     (s.ringReady = none → exec .eventRingWrite s = .next s) ∧
     (s.host.rejects = (f, n) :: more → outRoom s.host.outQ 2 = true → Completes (exec .rejectRange s) (fun t => t.host.rejects = more ∧
       t.regs = s.regs ∧ ∃ x, Queued s t x ∧ x.cls = 2 ∧ x.code = 0x22 ∧ bits x.payload 0 32 = f % 2 ^ 32 ∧ bits x.payload 32 32 = n % 2 ^ 32)) ∧
     (s.rf .hptStatusOverload 0 = 0 → (∃ a, s.host.highSince = some a ∧ a + 1000 ≤ s.now) → outRoom s.host.outQ 2 = true →
       Completes (exec .overload s) (fun t => t.rf .hptStatusOverload 0 = 1 ∧ t.rf .hptStatusOverloadSeen 0 = 1 ∧
         SameRegs s t [(.hptStatusOverload, 0), (.hptStatusOverloadSeen, 0)] ∧ ∃ x, Queued s t x ∧ x.cls = 2 ∧ x.code = 0x21)) ∧
     (s.rf .hptStatusOverload 0 = 1 → (∃ a, s.host.lowSince = some a ∧ a + 1000 ≤ s.now) → Completes (exec .overloadClear s) (fun t =>
       OnlyRegs s t [(.hptStatusOverload, 0)] ∧ t.rf .hptStatusOverload 0 = 0)) ∧
     (s.host.msixOwed = true → s.msixReady = true → s.host.msixEntry.testBit 96 = false → exec .msixHoldoffEnd s = .next { s with
       host := { s.host with msixAt := some s.now, msixOwed := false, msixSent := s.host.msixSent + 1 } }) ∧
     (s.host.msixOwed = false ∨ s.msixReady = false → exec .msixHoldoffEnd s = .next s))

/-- R387: a landed unit at HEAD whose message is not taken within 100 ticks sets APERTURE_STUCK, and is croaked with HEAD and EXPECTED_SEQ; the
manager goes on waiting, and croaks again only after a new landing at HEAD. -/
def Obligations.ApertureStuckIsToldOnce : Prop :=
  ∀ (s : State) (u : Fin 1024) (o : Nat) (data : List Byte) (a : Nat),
    let h := s.rf .hptApHead 0
    (s.host.stuckSent = false → s.apLanded h = true → s.host.headAt = some a →
      (a + 100 ≤ s.now → Completes (exec .apertureStuck s) (fun t => t.host.stuckSent = true ∧ t.rf .hptStatusApertureStuck 0 = 1 ∧
        t.rf .hptApHead 0 = h ∧ t.host.aperture = s.host.aperture ∧ t.host.landed = s.host.landed ∧ t.host.taken = s.host.taken ∧
        (outRoom s.host.outQ 2 = true → ∃ m, Queued s t m ∧ m.cls = 2 ∧ m.code = 0x23 ∧ bits m.payload 0 16 = h % 2 ^ 16 ∧
          bits m.payload 32 32 = s.rf .hptApExpectedSeq 0 % 2 ^ 32))) ∧
      (s.now < a + 100 → exec .apertureStuck s = .next s)) ∧
    (s.apLanded h = false → exec .apertureStuck s = .next s) ∧
    (s.host.stuckSent = true → exec .apertureStuck s = .next s) ∧
    (u.val = h → o < 64 → o + data.length = 64 → Completes (exec (.apertureUnitWrite u o data) s) (fun t =>
      t.host.stuckSent = false ∧ t.host.headAt = some s.now ∧ t.apLanded h = true))

/-- R278, R328, R407: LAUNCH opens its barrier when every check passes; while a launch runs, a barrier is open or a recovery is under way it is
refused, and a wafer that is not ready refuses with NOT_READY. READY markers pass before the deadline; ABORT, or a port that has shown none,
refuses the launch.

R275, R278, R285, R295, R344, R158: at WTC_go a launch that is ready is released: the tiles run, every counter of the program starts, no
wait and no parked add of the old program is left, and each tile loads the tables that its program gives it, with no block sealed. One that is not ready is refused. -/
def Obligations.LaunchesGatherAndRelease : Prop :=
  (∀ (s : State) (cid : BitVec 32) (go : BitVec 64) (multi : Bool) (k : Fin 16),
     let Refused := fun (t : State) => t.launch.barrier = false ∧ t.launch.running = s.launch.running ∧ t.launch.seenReady = 0 ∧ t.tiles = s.tiles
     (s.canAnswer 0x60 cid.toNat →
       (s.launch.running = true ∨ s.launch.barrier = true ∨ s.rf .kprHangStatusRecovery 0 ≠ 0 →
         Completes (exec (.launch cid go multi) s) (fun t => Responded s t 0x60 cid.toNat 9 ∧ t.launch = s.launch)) ∧
       (s.launch.running = false → s.launch.barrier = false → s.rf .kprHangStatusRecovery 0 = 0 → s.rf .kprBringupStatusReady 0 = 0 →
         Completes (exec (.launch cid go multi) s) (fun t => Refused t ∧
           (s.host.outQ.length < 4095 → outOthers s.host.outQ < 3840 → ∃ m ∈ t.host.outQ, m.cls = 1 ∧ m.code = 0x60 ∧ m.cid = cid.toNat ∧ m.status = 9 ∧ bits m.payload 0 16 = 0x87))) ∧
       (s.launch.running = false → s.launch.barrier = false → s.rf .kprHangStatusRecovery 0 = 0 → s.rf .kprBringupStatusReady 0 = 1 →
         s.engineValid = true → s.launchCodes go.toNat multi (s.tooLate go.toNat multi) = [] → Completes (exec (.launch cid go multi) s) (fun t =>
           t.launch = { s.launch with barrier := true, multi := multi, wtcGo := go.toNat, cid := some cid.toNat, sentReady := false, ready := false } ∧
           t.host.outQ = s.host.outQ ∧ SameRegs s t creditRegs))) ∧
     (s.launch.barrier = true → s.launch.multi = true → s.launch.sentReady = false →
       (s.launch.wtcGo ≤ s.wtc + 1000000 → s.barrierReady (s.launch.wtcGo, true, false) = true → Completes (exec .readyDeadline s) (fun t =>
         t = { s with launch := { s.launch with sentReady := true }, out := t.out } ∧ ∀ p ∈ s.namedPorts, .ready p ∈ t.out)) ∧
       (s.launch.wtcGo ≤ s.wtc + 1000000 → s.barrierReady (s.launch.wtcGo, true, false) = false → Completes (exec .readyDeadline s) Refused) ∧
       (s.wtc + 1000000 < s.launch.wtcGo → exec .readyDeadline s = .next s)) ∧
     (k.val ∈ s.namedPorts → exec (.readyMarkerReceive k) s =
       .next { s with launch := { s.launch with seenReady := s.launch.seenReady ||| 1 <<< k.val } }) ∧
     (k.val ∉ s.namedPorts → exec (.readyMarkerReceive k) s = .next s ∧ exec (.abortMarkerReceive k) s = .next s) ∧
     (s.launch.barrier = true → s.launch.multi = true → s.launch.ready = false → s.launch.wtcGo ≤ s.wtc + 100000 →
       (s.launch.sentReady = true → s.allReady = true → exec .readyCheck s = .next { s with launch := { s.launch with ready := true } }) ∧
       (s.launch.sentReady = false ∨ s.allReady = false → Completes (exec .readyCheck s) Refused)) ∧
     (s.launch.barrier = true → s.launch.multi = true → k.val ∈ s.namedPorts → s.wtc < s.launch.wtcGo →
       Completes (exec (.abortMarkerReceive k) s) Refused)) ∧
  (∀ (s : State), s.launch.barrier = true →
     (s.wtc < s.launch.wtcGo → exec .launchRelease s = .next s) ∧
     (s.launch.wtcGo ≤ s.wtc → s.launch.multi = false ∨ s.launch.ready = true → Completes (exec .launchRelease s) (fun t =>
       t.launch.running = true ∧ t.launch.barrier = false ∧ t.launch.everLaunched = true ∧ t.goWtc = s.launch.wtcGo ∧ t.waits = [] ∧ t.park = [] ∧
       t.sealed = [] ∧ (s.tilesWith .tsnRdtBaseValid = [] → t.tables = []) ∧ (s.tilesWith .tsnTwBaseValid = [] → t.winTabs = []) ∧
       (∀ tile, s.tilesWith .tsnRdtBaseValid = [tile] → t.residentTable tile = s.readTable tile) ∧ t.rf .kprLaunchWtcWtcGo 0 = s.launch.wtcGo % 2 ^ 64 ∧ t.rf .kprHangStatusStalled 0 = 0 ∧
       t.clock = s.effClock ∧ t.wtc = s.wtc ∧ t.ledger = s.ledger)) ∧
     (s.launch.wtcGo ≤ s.wtc → s.launch.multi = true → s.launch.ready = false → Completes (exec .launchRelease s) (fun t =>
       t.launch.barrier = false ∧ t.launch.running = s.launch.running ∧ t.waits = s.waits ∧ t.tiles = s.tiles)))

/-- R211, R275 to R277, R372: a program delivered with no launch running is the one loaded, with its digest; with one running the launch
ends and the epoch advances for it. The WTC is stepped before the first launch by an exchange with a parent nearer the root; a root takes
none; 10,000 ticks without one lose synchronisation. -/
def Obligations.ProgramsAndTimeExchange : Prop :=
  ∀ (s : State) (p : Program) (k : Fin 16) (hops : Nat) (offset : Int),
    let d := shaNat (p.binary.map BitVec.toNat)
    (s.launch.running = false → s.rf .kprHangStatusRecovery 0 = 0 → ∀ c : Instr, c = .programLoad p ∨ c = .programChange p →
      Completes (exec c s) (fun t => t = { s with regs := t.regs, run := { s.run with stale := true }, prog := some p } ∧
        SameRegs s t [(.kprProgramDigestDigest, 0), (.kprStallLimitLimit, 0)] ∧ t.rf .kprProgramDigestDigest 0 = d % 2 ^ 256 ∧
        t.rf .kprStallLimitLimit 0 = stallLimitOf p.stallLimit % 2 ^ 32)) ∧
    (s.launch.running = true → s.rf .kprHangStatusRecovery 0 = 0 → s.rf .kprEpochDraining 0 = 1 → ∀ c : Instr, c = .programLoad p ∨ c = .programChange p →
      Completes (exec c s) (fun t => t.launch.running = false ∧ t.progNext = some p ∧ t.prog = s.prog ∧ t.rf .kprEpochProgramPending 0 = 1 ∧
        t.rf .kprProgramDigestDigest 0 = d % 2 ^ 256)) ∧
    (s.rf .kprWtcCtrlRoot 0 = 1 → exec (.wtcExchange k hops offset) s = .next s) ∧
    (s.rf .kprWtcCtrlRoot 0 ≠ 1 → hops + 1 ≤ 10 → hops + 1 < s.rf .kprWtcStatusHops 0 → s.launch.everLaunched = false →
      Completes (exec (.wtcExchange k hops offset) s) (fun t => t = { s with regs := t.regs, wtcSyncAt := s.now, wtc := t.wtc } ∧
        t.wtc = ((s.wtc : Int) + offset / 10).toNat % 2 ^ 64 ∧ t.rf .kprWtcStatusHops 0 = hops + 1 ∧ t.rf .kprWtcStatusParent 0 = k.val ∧
        t.rf .kprWtcStatusSynced 0 = 1 ∧
        SameRegs s t [(.kprWtcStatusHops, 0), (.kprWtcStatusParent, 0), (.kprWtcStatusError, 0), (.kprWtcStatusSynced, 0)])) ∧
    (s.now < s.wtcSyncAt + 10000 → exec .wtcSyncLoss s = .next s) ∧
    (s.wtcSyncAt + 10000 ≤ s.now → s.rf .kprWtcCtrlRoot 0 ≠ 1 → s.rf .kprWtcStatusSynced 0 = 1 → outRoom s.host.outQ 2 = true →
      Completes (exec .wtcSyncLoss s) (fun t => t.rf .kprWtcStatusSynced 0 = 0 ∧ t.rf .kprWtcStatusUnsyncSeen 0 = 1 ∧ t.rf .kprWtcStatusHops 0 = 15 ∧
        SameRegs s t [(.kprWtcStatusSynced, 0), (.kprWtcStatusUnsyncSeen, 0), (.kprWtcStatusHops, 0)] ∧ ∃ m, Queued s t m ∧ m.cls = 2 ∧ m.code = 0x12))

/-- R188: KPR_SCAN_ENTRY takes 0x5CA1, then 0xA15C, then the mask of targets, within 1,000 ticks of the first write. An accepted sequence
zeroises the key store, sets SCANNED and adds its targets to SCAN_TARGET; a wrong write, one while the sequence may not be accepted, and a
sequence that comes too late set ENTRY_ERR and begin it afresh.

R185, R188, R449: COMMIT of a staged firmware image: ACCESS_ERR while BUSY; the first condition that it fails is the RESULT,
one with a poisoned word failing as its signature does (the model's reading, log entry 33); one of
lower revision than the running slot is refused, an equal one taken with no effect, any other waits for its write, which goes to the slot
that does not hold the running image.

R185, R381, R407: PACK_PUSH. A length out of range is BAD_FIELD, memory that cannot be read READ_FAIL, a pack that fails its conditions
the first of them; one whose revision is stored already answers its slot with no effect, a lower one is refused; the rest wait for their
write, which makes them active in their slot and answers. -/
def Obligations.ScanEntryAndSignedImages : Prop :=
  (∀ (s : State) (v : BitVec 32),
     let early := s.st.scanStep = 0 ∨ s.now < s.st.scanAt + 1000
     let Refused := fun (i : Instr) => Completes (exec i s) (fun t => t = { s with st := { s.st with scanStep := 0 }, regs := t.regs } ∧
       SameRegs s t [(.kprStStatusEntryErr, 0)] ∧ t.rf .kprStStatusEntryErr 0 = 1)
     (s.keeperAwake = true →
       (s.st.scanStep = 0 → exec (.kprScanEntry 0x5CA1) s = .next { s with st := { s.st with scanStep := 1, scanAt := s.now } }) ∧
       (s.st.scanStep = 1 → early → exec (.kprScanEntry 0xA15C) s = .next { s with st := { s.st with scanStep := 2 } }) ∧
       (s.st.scanStep = 2 → early → s.scanBlocked = false → Completes (exec (.kprScanEntry v) s) (fun t =>
         t.st.scanStep = 0 ∧ t.jobKey = none ∧ t.rf .kprStStatusScanned 0 = 1 ∧
         t.rf .kprStStatusScanTarget 0 = (s.rf .kprStStatusScanTarget 0 ||| v.toNat % 2 ^ 17) % 2 ^ RF.kprStStatusScanTarget.spec.width ∧
         ∀ k : Fin 16, v.toNat.testBit (k.val + 1) = true → t.rf .lwdPortStatusPortUp k.val = 0 ∧ t.rf .lwdLaneUpUp k.val = 0)) ∧
       (s.st.scanStep = 0 → v ≠ 0x5CA1 → Refused (.kprScanEntry v)) ∧
       (s.st.scanStep = 1 → early → v ≠ 0xA15C → Refused (.kprScanEntry v)) ∧
       (s.st.scanStep = 2 → early → s.scanBlocked = true → Refused (.kprScanEntry v))) ∧
     (s.st.scanStep ≠ 0 → s.st.scanAt + 1000 ≤ s.now → Refused .scanEntryTimeout) ∧
     (early → exec .scanEntryTimeout s = .next s)) ∧
  (∀ (s : State) (r : Nat) (v : FwImage),
     let n := s.rf .kprFwLengthLength 0
     let img := (List.range n).map (fun i => Tab.get (fun _ => (0 : Byte)) s.ks (0x1A00000 + i))
     let run := if s.rf .kprFwStatusActiveSlot 0 = 0 then s.fw.slotA else s.fw.slotB
     let Ends := fun (result : Nat) => Completes (exec .kprFwCommit s) (fun t => OnlyRegs s t [(.kprFwStatusResult, 0)] ∧
       t.rf .kprFwStatusResult 0 = result)
     let Staged := Completes (exec .kprFwCommit s) (fun t => t = { s with fw := t.fw, regs := t.regs } ∧
       t.fw = { s.fw with staged := some ⟨img, true⟩ } ∧ t.rf .kprFwStatusBusy 0 = 1 ∧ t.rf .kprFwCtrlCommit 0 = 1 ∧
       SameRegs s t [(.kprFwStatusBusy, 0), (.kprFwCtrlCommit, 0)])
     (s.keeperAwake = false → exec .kprFwCommit s = .next s) ∧
     (s.keeperAwake = true → s.rf .kprFwStatusBusy 0 = 1 → Completes (exec .kprFwCommit s) (fun t => OnlyRegs s t [(.hptStatusAccessErr, 0)] ∧
       t.rf .hptStatusAccessErr 0 = 1)) ∧
     (s.keeperAwake = true → s.rf .kprFwStatusBusy 0 ≠ 1 →
       (0x100000 < n → Ends 2) ∧
       (n ≤ 0x100000 → s.ksPoisoned 0x1A00000 n = true → Ends 4) ∧
       (n ≤ 0x100000 → s.ksPoisoned 0x1A00000 n = false → s.fwFault img = some r → Ends r) ∧
       (n ≤ 0x100000 → s.ksPoisoned 0x1A00000 n = false → s.fwFault img = none → run = some v → v.valid = true → fwRevision img < fwRevision v.bytes → Ends 6) ∧
       (n ≤ 0x100000 → s.ksPoisoned 0x1A00000 n = false → s.fwFault img = none → run = some v → v.valid = true → fwRevision img = fwRevision v.bytes → Ends 1) ∧
       (n ≤ 0x100000 → s.ksPoisoned 0x1A00000 n = false → s.fwFault img = none → run = some v → v.valid = false ∨ fwRevision v.bytes < fwRevision img → Staged) ∧
       (n ≤ 0x100000 → s.ksPoisoned 0x1A00000 n = false → s.fwFault img = none → run = none → Staged)) ∧
     (s.flashOpen = true → s.fw.staged = some v → Completes (exec .firmwareSlotWrite s) (fun t => t = { s with fw := t.fw, regs := t.regs } ∧
       t.fw = (if s.rf .kprFwStatusActiveSlot 0 = 0 then { s.fw with slotB := some v, staged := none }
         else { s.fw with slotA := some v, staged := none }) ∧
       t.rf .kprFwStatusResult 0 = 1 ∧ t.rf .kprFwStatusBusy 0 = 0 ∧ t.rf .kprFwCtrlCommit 0 = 0 ∧
       SameRegs s t [(.kprFwStatusResult, 0), (.kprFwStatusBusy, 0), (.kprFwCtrlCommit, 0)])) ∧
     (s.flashOpen = false ∨ s.fw.staged = none → exec .firmwareSlotWrite s = .next s)) ∧
  (∀ (s : State) (cid : BitVec 32) (addr : BitVec 64) (len : BitVec 32) (readOk : Bool) (pack : List Byte) (v n : Nat) (p : Pack),
     let push := exec (.packPush cid addr len readOk pack) s
     let id := imgField pack 4 4
     let rv := imgField pack 8 4
     let Ends := fun (status : Nat) => Completes push (fun t => Responded s t 0x51 cid.toNat status ∧ t.st = s.st ∧ SameRegs s t creditRegs)
     let read := readOk = true ∧ pack.length = len.toNat ∧ 288 ≤ len.toNat ∧ len.toNat ≤ 2097152
     (s.canAnswer 0x51 cid.toNat → s.host.busMaster = true → s.host.d3hot = false →
       (len.toNat < 288 ∨ 2097152 < len.toNat → Ends 7) ∧
       (288 ≤ len.toNat → len.toNat ≤ 2097152 → readOk = false ∨ pack.length ≠ len.toNat → Ends 0x26) ∧
       (read → s.packFault pack = some v → Ends v) ∧
       (read → s.packFault pack = none → (∃ q ∈ s.st.packs, q.id = id ∧ q.revision = rv) → Ends 0) ∧
       (read → s.packFault pack = none → (∀ q ∈ s.st.packs, q.id = id → q.revision ≠ rv) → (∃ q ∈ s.st.packs, q.id = id ∧ rv < q.revision) →
         Ends 0x24) ∧
       (read → s.packFault pack = none → (∀ q ∈ s.st.packs, q.id = id → q.revision < rv) → s.packSlotFor id = none → Ends 0x25) ∧
       (read → s.packFault pack = none → (∀ q ∈ s.st.packs, q.id = id → q.revision < rv) → s.packSlotFor id = some n → Completes push (fun t =>
         t.host.outQ = s.host.outQ ∧ SameRegs s t creditRegs ∧ t.st = { s.st with packs := t.st.packs } ∧
         ∃ q, t.st.packs = s.st.packs ++ [q] ∧ q.slot = n ∧ q.id = id ∧ q.revision = rv ∧ q.stored = false ∧ q.cid = some cid.toNat))) ∧
     (s.flashOpen = true → s.st.packs.find? (fun q => !q.stored) = some p → p.cid = some cid.toNat → s.rf .hptStatusAttached 0 = 1 →
       s.host.outQ.length < 4096 → Completes (exec .packFlashWrite s) (fun t =>
         RespondedWith s t 0x51 cid.toNat 0 (fun x => x = p.slot) ∧ SameRegs s t creditRegs ∧
         { p with stored := true, active := true, cid := none } ∈ t.st.packs)) ∧
     (s.flashOpen = false → exec .packFlashWrite s = .next s))

/-- R245, R246, R411, R412: the Partner Directory. A HELLO leaves every 100,000 ticks; one that passes enters its sender, or renews it and
keeps its role; a peer that misses one is counted and becomes LOST at the third; a PAUSE pauses it, and 3,000,000 ticks of pause lose it. A
message that does not pass is discarded and counted by its Warden. -/
def Obligations.PartnerDirectoryFollowsMessages : Prop :=
  ∀ (s : State) (k : Fin 16) (m : MgmtMsg) (e : BitVec 15) (n : Nat) (p : Peer),
    let Discarded := fun (o : Host.Outcome State Fault Refusal) => o = .next (s.setWarden k.val { s.warden k.val with
      discards := (s.warden k.val).discards + 1 })
    (s.boot.trained = true → s.engineValid = true → s.anyPortUp = true → s.sec.helloAt + 100000 ≤ s.now → s.sec.lastVoid = none →
      Completes (exec .helloSend s) (fun t => t = { s with out := t.out, sec := { s.sec with helloAt := s.now, mseq := succ32 s.sec.mseq } } ∧
        ∃ b, t.out = .mgmt 0x7FFF b :: s.out ∧ bits b 4 4 = 1 ∧ bits b 16 15 = s.rf .kprEngineEngine 0 % 2 ^ 15 ∧
          bits b 96 32 = s.sec.mseq % 2 ^ 32 ∧ recordOk b 46 = true)) ∧
    (s.now < s.sec.helloAt + 100000 → exec .helloSend s = .next s) ∧
    (s.mgmtOk m mgHello none = false → Discarded (exec (.helloReceive k m) s)) ∧
    (s.mgmtOk m mgHello none = true →
      (s.sec.peers = [] → Completes (exec (.helloReceive k m) s) (fun t =>
        t = { s with boot := { s.boot with lastPeer := s.now }, sec := { s.sec with peers := t.sec.peers } } ∧
        ∃ q, t.peerAt 0 = some q ∧ q.engine = mSource m ∧ q.state = 1 ∧ q.role = 0 ∧ q.missed = 0 ∧ q.seen = s.now % 2 ^ 32 ∧ q.port = k.val ∧
          ∀ j, j ≠ 0 → t.peerAt j = none)) ∧
      (s.peerOf (mSource m) = some (n, p) → p.state = 1 → Completes (exec (.helloReceive k m) s) (fun t =>
        t = { s with sec := { s.sec with peers := t.sec.peers } } ∧ (∀ j, j ≠ n → t.peerAt j = s.peerAt j) ∧
        ∃ q, t.peerAt n = some q ∧ q.state = 1 ∧ q.role = p.role ∧ q.missed = 0 ∧ q.mark = s.now))) ∧
    (s.peerOf e.toNat = some (n, p) →
      (p.state = 1 → p.mark + 100000 ≤ s.now → p.missed < 2 → exec (.helloMissed e) s =
        .next (s.setPeer n (some { p with missed := p.missed + 1, mark := s.now }))) ∧
      (p.state = 1 → p.mark + 100000 ≤ s.now → 2 ≤ p.missed → p.role = 0 → exec (.helloMissed e) s =
        .next (s.setPeer n (some { p with state := 3, missed := 3, role := 0, mark := s.now }))) ∧
      (p.state ≠ 1 ∨ s.now < p.mark + 100000 → exec (.helloMissed e) s = .next s) ∧
      (p.state = 2 → p.mark + 3000000 ≤ s.now → p.role = 0 → exec (.pausedTimeout e) s =
        .next (s.setPeer n (some { p with state := 3, role := 0, mark := s.now }))) ∧
      (p.state ≠ 2 ∨ s.now < p.mark + 3000000 → exec (.pausedTimeout e) s = .next s)) ∧
    (s.mgmtOk m mgPause none = true → s.peerOf (mSource m) = some (n, p) → p.state = 1 → p.role ≠ 1 → exec (.pauseReceive k m) s =
      .next (s.setPeer n (some { p with state := 2, mark := s.now }))) ∧
    (s.mgmtOk m mgPause none = false → Discarded (exec (.pauseReceive k m) s))

/-- R247, R249, R413, R414: pairing. A request this wafer can serve is taken and acknowledged, another refused with its reason; the
acknowledgement of the peer asked makes it the holder, and a refusal leads to the next, or to NO_PARTNER; PAIR_END ends a pairing as a
loss; a VOID reaches the copy held; HOLD_LOST_S after its client was lost the copy is given up. -/
def Obligations.PairingFollowsMessages : Prop :=
  ∀ (s : State) (k : Fin 16) (m : MgmtMsg) (g : Gen) (t0 : Nat),
    let src := mSource m
    (s.mgmtOk m mgPairReq s.jobKey = true →
      (s.pairReason m = 0 → Completes (exec (.pairReqReceive k m) s) (fun t => t.rf .kprSecPairClientValid 0 = 1 ∧ t.rf .kprSecPairClient 0 = src ∧
        SameRegs s t [(.kprSecPairClientValid, 0), (.kprSecPairClient, 0)] ∧ t.sec.held = none ∧ t.sec.clientAt = s.now ∧
        ∃ b, t.out = .mgmt src b :: s.out ∧ bits b 4 4 = mgPairAck)) ∧
      (s.pairReason m ≠ 0 → s.sec.clientAt ≠ s.now → Completes (exec (.pairReqReceive k m) s) (fun t =>
        t = { s with out := t.out, sec := { s.sec with mseq := succ32 s.sec.mseq } } ∧
        ∃ b, t.out = .mgmt src b :: s.out ∧ bits b 4 4 = mgPairNak ∧ bits b 128 64 = s.pairReason m))) ∧
    (s.mgmtOk m mgPairAck s.jobKey = true →
      (s.sec.asked = some src → s.rf .kprSecPairHolderValid 0 = 0 → Completes (exec (.pairAckReceive k m) s) (fun t =>
        t.rf .kprSecPairHolderValid 0 = 1 ∧ t.rf .kprSecPairHolder 0 = src ∧ t.rf .kprSecStatusNoPartner 0 = 0 ∧ t.sec.asked = none ∧
        t.sec.tried = [] ∧ t.sec.renewal = true ∧ ∃ acts, Raised s t 10 0 acts)) ∧
      (s.sec.asked ≠ some src → exec (.pairAckReceive k m) s = .next s)) ∧
    (s.mgmtOk m mgPairNak s.jobKey = true →
      (s.sec.asked ≠ some src → exec (.pairNakReceive k m) s = .next s) ∧
      (s.sec.asked = some src → s.nextHolder = none → Completes (exec (.pairNakReceive k m) s) (fun t => t.sec = { s.sec with asked := none } ∧
        t.rf .kprSecStatusNoPartner 0 = 1)) ∧
      (∀ e, s.sec.asked = some src → s.nextHolder = some e → Completes (exec (.pairNakReceive k m) s) (fun t => t.sec.asked = some e ∧ t.regs = s.regs ∧
        ∃ b, t.out = .mgmt e b :: s.out ∧ bits b 4 4 = mgPairReq))) ∧
    (s.rf .kprSecPairHolderValid 0 = 1 → s.rf .kprSecPairHolder 0 = src → s.mgmtOk m mgPairEnd s.holderKey = true → s.sec.capture = none → s.regrows = [] →
      Completes (exec (.pairEndReceive k m) s) (fun t => t.rf .kprSecPairHolderValid 0 = 0 ∧ t.sec.sessionKey = none ∧ t.sec.renewal = true ∧
        t.hz.partnerAt = some s.now)) ∧
    (s.rf .kprSecPairHolderValid 0 = 0 → s.rf .kprSecPairClientValid 0 = 1 → s.rf .kprSecPairClient 0 = src → s.mgmtOk m mgPairEnd s.clientAuth = true →
      Completes (exec (.pairEndReceive k m) s) (fun t => t.sec.clientLostAt = some s.now ∧ t.regs = s.regs ∧ t.sec.held = s.sec.held)) ∧
    (s.mgmtOk m mgVoid s.clientAuth = true → s.sec.held = some g → s.rf .kprSecPairClientValid 0 = 1 → s.rf .kprSecPairClient 0 = src →
      (mArg0 m ≤ g.wtc → exec (.voidReceive k m) s = .next { s with sec := { s.sec with held := some { g with state := 3 } } }) ∧
      (g.wtc < mArg0 m → exec (.voidReceive k m) s = .next s)) ∧
    (s.sec.clientLostAt = some t0 →
      (t0 + 1000000 * s.secCfg 20 12 ≤ s.now → Completes (exec .holdLostTimeout s) (fun t =>
        t = { s with regs := t.regs, sec := { s.sec with clientLostAt := none, held := none, clientKey := none, closings := [] } } ∧
        SameRegs s t [(.kprSecPairClientValid, 0)] ∧ t.rf .kprSecPairClientValid 0 = 0)) ∧
      (s.now < t0 + 1000000 * s.secCfg 20 12 → exec .holdLostTimeout s = .next s)) ∧
    (s.sec.clientLostAt = none → exec .holdLostTimeout s = .next s)

/-- R297 to R304: a thermal sample is taken at most once in 1,000 ticks and only of a station that is UP or in the test of its
restart; it leaves each sensor's reading. The
line of a sensor in service trips the wafer: TRIPPED, TRIP_SEEN and HOLD cleared, a molt without tiles begins, tile compute leaves UP, and the
trip is croaked; one of a withdrawn sensor does nothing. A trip ends after 1,000 cool samples, with tile compute HELD, in a recovery; a hold
after 10,000 ticks with every field calm; a hold that lasts HOLD_MAX becomes a trip. -/
def Obligations.TemperatureTripsAndHolds : Prop :=
  ∀ (s : State) (f : Fin 32) (rs : List (BitVec 11)) (aoi : BitVec 11) (i : Fin 36),
    let calm := ∀ g < 32, s.fieldOut g = false → 10 ≤ (s.monField g).calm
    let cool := 1000 ≤ s.mon.aoiCool ∧ ∀ g < 32, s.fieldOut g = false → 1000 ≤ (s.monField g).cool
    let Tripped := fun (t : State) => t.rf .kprMonStatusTripped 0 = 1 ∧ t.rf .kprMonStatusTripSeen 0 = 1 ∧ t.rf .kprMonStatusHold 0 = 0 ∧
      t.rf .aoiDomainsCompute 0 = 1 ∧ t.rf .aoiResetCauseComputeTrip 0 = 1 ∧
      ∃ r, t.molts.busy = s.molts.busy ++ [r] ∧ r.info.cause = 4 ∧ r.info.tilesAbsent = true
    ((s.stationUp f = false ∧ (s.domState (.station f) ≠ 3 ∨ s.dropped f.val = true)) ∨ (s.monField f.val).at_.any (fun a => decide (s.now < a + 1000)) = true →
      exec (.thermalSample f rs aoi) s = .next s) ∧
    (s.stationUp f = true ∨ (s.domState (.station f) = 3 ∧ s.dropped f.val = false) → (s.monField f.val).at_.all (fun a => decide (a + 1000 ≤ s.now)) = true → Completes (exec (.thermalSample f rs aoi) s) (fun t =>
      (t.monField f.val).at_ = some s.now ∧ (∀ g < 32, g ≠ f.val → t.monField g = s.monField g) ∧
      ∀ (j : Nat) (v : BitVec 11), j < 36 → rs[j]? = some v → t.rf .fstTempReading (36 * f.val + j) = v.toNat)) ∧
    (s.monIn f.val 0 i.val = false → exec (.overTempLine f i) s = .next s) ∧
    (s.monIn f.val 0 i.val = true → s.rf .kprMonStatusTripped 0 = 1 → exec (.overTempLine f i) s = .next s) ∧
    (s.monIn f.val 0 i.val = true → s.rf .kprMonStatusTripped 0 ≠ 1 → s.rf .aoiDomainsCompute 0 = 0 → s.rf .kprHangStatusRecovery 0 = 0 →
      Completes (exec (.overTempLine f i) s) (fun t => Tripped t ∧ ∃ p, Raised s t 1 locKeeper [.croak 0x17 1 p] ∧ bits p 0 8 = f.val ∧
        bits p 8 8 = i.val ∧ bits p 16 16 = s.rf .fstTempReading (36 * f.val + i.val) % 2 ^ 16)) ∧
    (s.rf .kprMonStatusTripped 0 = 1 → s.rf .aoiDomainsCompute 0 = 2 → s.rf .aoiDomainsKeeper 0 = 0 → cool → s.rf .kprHangStatusRecovery 0 = 0 →
      s.recRecent < s.rf .kprHangCtrlRecoveryLimit 0 → Completes (exec .tripHoldRelease s) (fun t => t.rf .kprMonStatusTripped 0 = 0 ∧
        t.rf .kprHangStatusRecovery 0 = 3 ∧ t.rf .aoiDomainsCompute 0 = 3 ∧ t.rf .kprBringupStatusStage 0 = 3 ∧ t.rf .kprBringupStatusRun 0 = 2)) ∧
    (s.rf .kprMonStatusTripped 0 ≠ 1 ∨ s.rf .aoiDomainsCompute 0 ≠ 2 ∨ ¬ cool → exec .tripHoldRelease s = .next s) ∧
    (s.rf .kprMonStatusHold 0 = 1 → s.mon.holdAt + 10000 ≤ s.now → calm → Completes (exec .thermalHoldEnd s) (fun t =>
      t.rf .kprMonStatusHold 0 = 0 ∧ SameRegs s t [(.kprMonStatusHold, 0)] ∧ t.launch = s.launch)) ∧
    (s.rf .kprMonStatusHold 0 ≠ 1 ∨ s.now < s.mon.holdAt + 10000 ∨ ¬ calm → exec .thermalHoldEnd s = .next s) ∧
    (s.rf .kprMonStatusHold 0 = 1 → s.mon.holdAt + 1000 * Nat.max 20 (s.rf .kprMonCtrlHoldMaxMs 0) ≤ s.now → s.rf .kprMonStatusTripped 0 ≠ 1 →
      s.rf .aoiDomainsCompute 0 = 0 → Completes (exec .holdMaxExpiry s) Tripped) ∧
    (s.rf .kprMonStatusHold 0 ≠ 1 ∨ s.now < s.mon.holdAt + 1000 * Nat.max 20 (s.rf .kprMonCtrlHoldMaxMs 0) → exec .holdMaxExpiry s = .next s)

/-- R298, R306 to R309, R471: a deep droop of a detector in service sets DROOP_DEEP_SEEN; ring oscillator ratios are
formed of the counts (their correction and baseline are free values, log entry 81); a power
sample joins those of its field, and one missing for 300 ticks is taken as the highest of them; shedding that lasts 100,000 ticks above the
cap is told once; drift is judged every 1,000,000 ticks, and above 200 parts in a million while SYNCED sets OSC_DRIFT. -/
def Obligations.DroopPowerAndDrift : Prop :=
  ∀ (s : State) (f : Fin 32) (warning deep : BitVec 8) (i : Fin 8) (rs : List (BitVec 32)) (w a : Nat) (rest : List (Nat × Nat)),
    let span : Int := 1000 * ((s.now - s.mon.driftTick : Nat) : Int)
    let drift : Int := ((s.wtc : Int) - s.mon.driftWtc - span) * 1000000 / span
    let known := s.rf .kprWtcStatusSynced 0 = 1 ∨ s.rf .kprWtcCtrlRoot 0 = 1
    (s.stationUp f = false → exec (.droopLatchSample f warning deep) s = .next s) ∧
    (s.stationUp f = true → deep.toNat.testBit i.val = true → s.monIn f.val 1 i.val = true → Completes (exec (.droopLatchSample f warning deep) s)
      (fun t => t.rf .fstMonStatusDroopDeepSeen f.val = 1)) ∧
    (s.stationUp f = true → warning = 0 → deep = 0 → Completes (exec (.droopLatchSample f warning deep) s) (fun t =>
      SameRegs s t [(.fstEvtStatusSliceFull, f.val)] ∧ t.hz = s.hz ∧ t.monF = s.monF)) ∧
    (s.domState (.station f) = 2 ∨ s.dropped f.val = true → exec (.ringOscillatorCount f rs) s = .next s) ∧
    (s.domState (.station f) ≠ 2 → s.dropped f.val = false → Completes (exec (.ringOscillatorCount f rs) s) (fun t =>
      ∀ (j : Nat) (v : BitVec 32), j < 4 → rs[j]? = some v → t.rf .fstRoRatioRatio (4 * f.val + j) = s.ringRatio f.val j v.toNat)) ∧
    Completes (exec (.powerSample f w) s) (fun t => (s.now, w) ∈ (t.monField f.val).power ∧
      ∀ p ∈ (t.monField f.val).power, p = (s.now, w) ∨ (p ∈ (s.monField f.val).power ∧ s.now < p.1 + 10000)) ∧
    ((s.monField f.val).power = [] → exec (.powerSampleMissing f) s = .next s) ∧
    ((s.monField f.val).power = (a, w) :: rest → s.now < a + 300 → exec (.powerSampleMissing f) s = .next s) ∧
    ((s.monField f.val).power = (a, w) :: rest → a + 300 ≤ s.now → Completes (exec (.powerSampleMissing f) s) (fun t =>
      ∃ h, (s.now, h) ∈ (t.monField f.val).power ∧ w ≤ h ∧ ∀ p ∈ rest, s.now < p.1 + 10000 → p.2 ≤ h)) ∧
    (s.mon.shedAt = some a → a + 100000 ≤ s.now → s.mon.capTold = false → s.capMw < s.averageMw → Completes (exec .powerCapEscalate s) (fun t =>
      t = { s with mon := { s.mon with capTold := true }, events := t.events } ∧ ∃ acts, Raised s t 10 locKeeper acts)) ∧
    (s.mon.shedAt = none ∨ s.mon.capTold = true → exec .powerCapEscalate s = .next s) ∧
    (s.now < s.mon.driftTick + 1000000 → exec .oscDriftCheck s = .next s) ∧
    (s.mon.driftTick + 1000000 ≤ s.now →
      (¬ known ∨ drift.natAbs ≤ 200 → exec .oscDriftCheck s = .next { s with mon := { s.mon with driftTick := s.now, driftWtc := s.wtc } }) ∧
      (known → 200 < drift.natAbs → Completes (exec .oscDriftCheck s) (fun t => t.mon = { s.mon with driftTick := s.now, driftWtc := s.wtc } ∧
        t.rf .kprMonStatusOscDrift 0 = 1 ∧ SameRegs s t [(.kprMonStatusOscDrift, 0)] ∧ ∃ acts, Raised s t 10 locKeeper acts)))

/-- R306 to R309, R471: what the droop, ring oscillator, power and drift rows give. Each warning or deep latch of a detector in service is a
droop event, each deep latch a deep one too, and DROOP_DEEP_SEEN stands once one was; the slowdown of a field is what its median RATIO falls
short of 1; a power sample goes first in its field's list, without those 10,000 ticks old; a field with none for 300 ticks is taken at the
highest of them; the cap is told once; the drift of a second is judged against the WTC. -/
def Obligations.MonitorRowsGiveTheirResults : Prop :=
  ∀ (s : State) (f : Fin 32) (warning deep : BitVec 8) (r0 r1 r2 r3 : BitVec 32) (w a : Nat) (rest : List (Nat × Nat)),
    let ins := fun (m : Nat) => ((List.range 8).filter (fun i => s.monIn f.val 1 i && m.testBit i)).length
    let n := ins (warning.toNat ||| deep.toNat)
    let d := ins deep.toNat
    let ratios := ((List.zip [0, 1, 2, 3] [r0, r1, r2, r3]).filter (fun p => s.monIn f.val 2 p.1)).map (fun p => (s.ringRatio f.val p.1 p.2.toNat : Int))
    let span : Int := 1000 * ((s.now - s.mon.driftTick : Nat) : Int)
    let drift : Int := ((s.wtc : Int) - s.mon.driftWtc - span) * 1000000 / span
    let known := s.rf .kprWtcStatusSynced 0 = 1 ∨ s.rf .kprWtcCtrlRoot 0 = 1
    let OnlyMonF := fun (t : State) => ∀ g < 32, g ≠ f.val → t.monField g = s.monField g
    (s.stationUp f = true → s.rf .fstDroopEventsEvents f.val + n < 2 ^ 32 → s.rf .fstDroopDeepEvents f.val + d < 2 ^ 32 →
      Completes (exec (.droopLatchSample f warning deep) s) (fun t => t.rf .fstDroopEventsEvents f.val = s.rf .fstDroopEventsEvents f.val + n ∧
        t.rf .fstDroopDeepEvents f.val = s.rf .fstDroopDeepEvents f.val + d ∧
        t.rf .fstMonStatusDroopDeepSeen f.val = (if 0 < d then 1 else s.rf .fstMonStatusDroopDeepSeen f.val) ∧ OnlyMonF t ∧
        SameRegs s t [(.fstDroopEventsEvents, f.val), (.fstDroopDeepEvents, f.val), (.fstMonStatusDroopDeepSeen, f.val), (.fstEvtStatusSliceFull, f.val)])) ∧
    (s.domState (.station f) ≠ 2 → s.dropped f.val = false → Completes (exec (.ringOscillatorCount f [r0, r1, r2, r3]) s) (fun t =>
      t.rf .fstMonStatusSlowdown f.val = (if ratios = [] then 0 else ((65536 - median2 ratios) / 2).toNat) ∧ OnlyMonF t)) ∧
    Completes (exec (.powerSample f w) s) (fun t => OnlyMonF t ∧
      (t.monField f.val).power = (s.now, w) :: (s.monField f.val).power.filter (fun p => decide (s.now < p.1 + 10000))) ∧
    ((s.monField f.val).power = (a, w) :: rest → a + 300 ≤ s.now →
      let h := ((rest.filter (fun p => decide (s.now < p.1 + 10000))).map (fun p => p.2)).foldl Nat.max w
      Completes (exec (.powerSampleMissing f) s) (fun t => OnlyMonF t ∧
        (t.monField f.val).power = (s.now, h) :: ((a, w) :: rest).filter (fun p => decide (s.now < p.1 + 10000)))) ∧
    (s.mon.shedAt = some a → a + 100000 ≤ s.now → s.mon.capTold = false → s.capMw < s.averageMw → Completes (exec .powerCapEscalate s) (fun t =>
      t = { s with mon := { s.mon with capTold := true }, events := t.events } ∧ ∃ acts, Raised s t 10 locKeeper acts)) ∧
    (s.mon.driftTick + 1000000 ≤ s.now → Completes (exec .oscDriftCheck s) (fun t => t.mon = { s.mon with driftTick := s.now, driftWtc := s.wtc } ∧
      SameRegs s t [(.kprMonStatusOscDrift, 0)] ∧
      t.rf .kprMonStatusOscDrift 0 = (if known ∧ 200 < drift.natAbs then 1 else s.rf .kprMonStatusOscDrift 0)))

/-- R332, R334, R337, R347, R349: the key of a reset register other than 0x5A does nothing but set ACCESS_ERR. With the key, a domain that is
UP goes to CAPTURE and a molt of its cause begins, with the next MOLT_SEQ (the Keeper's takes tile compute with it); tile compute goes
there only while a launch runs, else it is HELD at once, and so is a port that no launch names. A domain in RESTART keeps the request pending.
While the Keeper is HELD its registers do nothing.

R403, R407: RESET. The Keeper's is answered, with nothing taken before it, before the reset is requested, and waits for the commands
taken before it otherwise; those of tile compute and of a station wait for their domain to reach UP. A port past the last is BAD_FIELD. -/
def Obligations.ResetsByRegisterAndCommand : Prop :=
  (∀ (s : State) (key : BitVec 8) (f : Fin 32) (k : Fin 16),
     let molt := fun (t : State) (wafer : Bool) (field : Nat) => t.molts.seq = (s.molts.seq + 1) % 2 ^ 32 ∧
       ∃ r, t.molts.busy = s.molts.busy ++ [r] ∧ r.wafer = wafer ∧ r.info.cause = 8 ∧ r.info.field = field ∧ r.info.seq = s.molts.seq ∧
         r.info.startTime = s.now ∧ r.info.startWtc = s.wtc ∧ r.info.tilesAbsent = false
     (key ≠ 0x5A → ∀ i : Instr, i ∈ [.kprResetReqKeeper key, .kprResetReqCompute key, .kprResetReqPort k key, .fstReset f key] →
       Completes (exec i s) (fun t => OnlyRegs s t [(.hptStatusAccessErr, 0)] ∧ t.rf .hptStatusAccessErr 0 = 1)) ∧
     (s.keeperAwake = false → ∀ i : Instr, i ∈ [.kprResetReqKeeper 0x5A, .kprResetReqCompute 0x5A, .kprResetReqPort k 0x5A] → exec i s = .next s) ∧
     (s.domState .keeper = 0 → Completes (exec (.kprResetReqKeeper 0x5A) s) (fun t => t.rf .aoiDomainsKeeper 0 = 1 ∧ t.rf .aoiDomainsCompute 0 = 1 ∧
       t.rf .aoiResetCauseKeeperHost 0 = 1 ∧ molt t true 0 ∧ t.host = s.host ∧ t.launch = s.launch ∧
       SameRegs s t [(.aoiDomainsKeeper, 0), (.aoiDomainsCompute, 0), (.aoiResetCauseKeeperHost, 0), (.kprHangStatusMoltOverwrite, 0)])) ∧
     (s.domState .keeper = 3 → Completes (exec (.kprResetReqKeeper 0x5A) s) (fun t =>
       OnlyRegs s t [(.aoiResetCauseKeeperHost, 0), (.aoiDomainsKeeperPending, 0)] ∧ t.rf .aoiResetCauseKeeperHost 0 = 1 ∧
       t.rf .aoiDomainsKeeperPending 0 = 1)) ∧
     (s.domState .keeper = 0 → s.domState .compute = 0 →
       (s.launch.running = true → Completes (exec (.kprResetReqCompute 0x5A) s) (fun t => t.rf .aoiDomainsCompute 0 = 1 ∧
         t.rf .aoiResetCauseComputeHost 0 = 1 ∧ molt t true 0 ∧
         SameRegs s t [(.aoiDomainsCompute, 0), (.aoiResetCauseComputeHost, 0), (.kprHangStatusMoltOverwrite, 0)])) ∧
       (s.launch.running = false → Completes (exec (.kprResetReqCompute 0x5A) s) (fun t => t.rf .aoiDomainsCompute 0 = 2 ∧
         t.rf .aoiDomainsComputePending 0 = 0 ∧ t.rf .kprBringupStatusReady 0 = 0 ∧ t.episodes = [] ∧ t.regrows = []))) ∧
     (s.keeperAwake = true → s.launch.running = false → s.rf .kprHangStatusRecovery 0 ≠ 1 → s.rf .lwdPortStatusState k.val = 0 →
       Completes (exec (.kprResetReqPort k 0x5A) s) (fun t => t.rf .lwdPortStatusState k.val = 2 ∧ t.rf .lwdPortStatusResetPending k.val = 0)) ∧
     (s.rf .fstResetStatusState f.val = 0 → Completes (exec (.fstReset f 0x5A) s) (fun t => t.rf .fstResetStatusState f.val = 1 ∧
       t.rf .aoiResetCauseStation 0 = 1 ∧ molt t false f.val ∧
       SameRegs s t [(.fstResetStatusState, f.val), (.aoiResetCauseStation, 0), (.kprHangStatusMoltOverwrite, 0)])) ∧
     (s.rf .fstResetStatusState f.val = 3 → Completes (exec (.fstReset f 0x5A) s) (fun t =>
       OnlyRegs s t [(.aoiResetCauseStation, 0), (.fstResetStatusResetPending, f.val)] ∧ t.rf .fstResetStatusResetPending f.val = 1))) ∧
  (∀ (s : State) (cid : BitVec 32) (x : Taken) (index : BitVec 5), s.canAnswer 0x63 cid.toNat →
     (s.host.taken = [] → s.domState .keeper = 0 → Completes (exec (.resetKeeper cid) s) (fun t => Responded s t 0x63 cid.toNat 0 ∧
       t.rf .aoiDomainsKeeper 0 = 1 ∧ t.rf .aoiResetCauseKeeperHost 0 = 1 ∧ t.host.resetting = none)) ∧
     (s.host.taken = [x] → x.cid ≠ cid.toNat → Completes (exec (.resetKeeper cid) s) (fun t => t.host.resetting = some cid.toNat ∧
       t.host.outQ = s.host.outQ ∧ SameRegs s t creditRegs)) ∧
     (s.domState .keeper = 0 → s.domState .compute = 0 → s.launch.running = true → Completes (exec (.resetCompute cid) s) (fun t =>
       t.rf .aoiDomainsCompute 0 = 1 ∧ (t.domInfo .compute).cids = (s.domInfo .compute).cids ++ [cid.toNat] ∧ t.host.outQ = s.host.outQ)) ∧
     (s.rf .fstResetStatusState index.toNat = 0 → Completes (exec (.resetStation cid index) s) (fun t =>
       t.rf .fstResetStatusState index.toNat = 1 ∧ t.host.outQ = s.host.outQ ∧
       (t.domInfo (.station (toFin32 index.toNat))).cids = (s.domInfo (.station (toFin32 index.toNat))).cids ++ [cid.toNat])) ∧
     (16 ≤ index.toNat → Completes (exec (.resetPort cid index) s) (fun t => Responded s t 0x63 cid.toNat 7 ∧ SameRegs s t creditRegs)) ∧
     (index.toNat < 16 → s.launch.running = false → s.rf .kprHangStatusRecovery 0 ≠ 1 → s.rf .lwdPortStatusState index.toNat = 0 →
       Completes (exec (.resetPort cid index) s) (fun t => t.rf .lwdPortStatusState index.toNat = 2)))

/-- R333, R334, R348, R353, R410: a molt that ends within its time stands in its place with its sections whole and its notice due, one that
reaches its time is PARTIAL, and its domain is HELD; a domain HELD for 16 ticks is released where the order of bring-up allows it; the
oldest molt not copied is copied to flash, and the second notice goes out. -/
def Obligations.MoltsEndAndDomainsRelease : Prop :=
  ∀ (s : State) (r : MoltRun) (f : Fin 32) (k : Fin 16) (d : Domain) (n : Nat) (m : MoltSlot),
    let Kept := fun (t : State) (isPartial : Bool) => t.molts.busy = [] ∧ t.molts.noticeDue = s.molts.noticeDue ++ [r.slot] ∧
      ∃ x, t.moltSlot r.slot = some x ∧ x.isPartial = isPartial ∧ x.seq = r.info.seq ∧ x.cause = r.info.cause ∧ x.duration = s.now - r.info.startTime
    (s.molts.busy = [r] → r.wafer = false → r.doms = [domKey (.station f)] → s.rf .fstResetStatusState f.val = 1 →
      (s.now < r.info.startTime + 20000 → Completes (exec .moltDone s) (fun t => Kept t false ∧ t.rf .fstResetStatusState f.val = 2) ∧
        exec .moltBoundReached s = .next s) ∧
      (r.info.startTime + 20000 ≤ s.now → Completes (exec .moltBoundReached s) (fun t => Kept t true ∧ t.rf .fstResetStatusState f.val = 2) ∧
        exec .moltDone s = .next s)) ∧
    (s.molts.busy = [] → exec .moltDone s = .next s ∧ exec .moltBoundReached s = .next s) ∧
    (s.flashOpen = true → s.hist.staged = [] → s.anchorDue = false → s.molts.busy = [] → s.moltToCopy = some (n, m) → outRoom s.host.outQ 4 = true →
      Completes (exec .moltCopy s) (fun t => t.moltFlash n = some m ∧ t.molts.slots = s.molts.slots ∧ t.regs = s.regs ∧
        ∃ x, Queued s t x ∧ x.cls = 4 ∧ bits x.payload 0 2 = n % 4 ∧ bits x.payload 2 1 = 1)) ∧
    (s.moltToCopy = none → exec .moltCopy s = .next s) ∧
    (s.domState d ≠ 2 ∨ s.now < (s.domInfo d).heldAt + 16 → exec (.domainRelease d) s = .next s) ∧
    (s.domState (.station f) = 2 → (s.domInfo (.station f)).heldAt + 16 ≤ s.now → s.dropped f.val = false → s.boot.stations = true →
      Completes (exec (.domainRelease (.station f)) s) (fun t => t.rf .fstResetStatusState f.val = 3 ∧ SameRegs s t [(.fstResetStatusState, f.val)])) ∧
    (s.domState (.port k) = 2 → (s.domInfo (.port k)).heldAt + 16 ≤ s.now → s.boot.trained = true →
      Completes (exec (.domainRelease (.port k)) s) (fun t => OnlyRegs s t [(.lwdPortStatusState, k.val)] ∧ t.rf .lwdPortStatusState k.val = 3)) ∧
    (s.domState .keeper = 2 → (s.domInfo .keeper).heldAt + 16 ≤ s.now → s.boot.full = false → s.boot.powerGood ≠ none →
      Completes (exec (.domainRelease .keeper) s) (fun t => t.rf .aoiDomainsKeeper 0 = 3 ∧ t.rf .kprBringupStatusStage 0 = 2 ∧
        t.rf .kprBringupStatusRun 0 = 1 ∧ t.rf .kprBringupStatusBusy 0 = 1)) ∧
    (s.domState .compute = 2 → (s.domInfo .compute).heldAt + 16 ≤ s.now → s.domState .keeper = 0 → s.rf .kprMonStatusTripped 0 ≠ 1 →
      s.rf .kprHangStatusRecovery 0 ≠ 2 → Completes (exec (.domainRelease .compute) s) (fun t => t.rf .aoiDomainsCompute 0 = 3 ∧
        t.rf .kprBringupStatusStage 0 = 3 ∧ t.rf .kprBringupStatusRun 0 = 2))

/-- R233 to R238: boundaries. One that is taken counts the step and takes one from BOUNDARY_SEM; with securing OFF it is released at once, at
the cadence it begins a capture on the layers that serve; one that waited 50,000 ticks for a transplant is skipped. The reads of a capture
that have left the tiles release its boundary, with the content digest of what was read; they end neither before its transfers are granted
nor while a tile is in FILL. -/
def Obligations.BoundariesBeginCaptures : Prop :=
  ∀ (s : State) (w : Nat) (rest : List Nat) (c : Capture),
    let step := (s.rf .kprSecStepStep 0 + 1) % 2 ^ 64
    let b := s.boundarySem
    let r := s.releaseSem
    let count := fun (u : State) (n : Nat) => u.rf .semCountCount n
    let releasable := s.waits = [] ∧ s.rf .semFlagsPoison r ≠ 1 ∧ b ≠ r ∧ count s r + 1 < 2 ^ 32
    (s.rf .kprMonStatusHold 0 = 1 → exec .boundaryTake s = .next s) ∧
    (s.sec.waiting = none → s.sec.adds = [] → exec .boundaryTake s = .next s) ∧
    (s.rf .kprMonStatusHold 0 = 0 → s.sec.waiting = none → s.sec.adds = w :: rest → s.rf .kprSecCtrlMapValid 0 = 1 → s.launch.running = true →
      s.sec.needed = false → s.sec.rollback = none → s.sec.capture = none → count s b < 2 ^ 32 →
      (s.fnState .securing = 0 → releasable → Completes (exec .boundaryTake s) (fun t => t.rf .kprSecStepStep 0 = step ∧ t.sec.adds = rest ∧
        count t b = count s b - 1 ∧ count t r = count s r + 1 ∧ t.sec.capture = none ∧ t.sec.gens = s.sec.gens ∧
        SameRegs s t [(.kprSecStepStep, 0), (.semCountCount, b), (.semCountCount, r), (.kprSecStatusFloorMissed, 0)])) ∧
      (s.fnState .securing = 2 → step % s.kMax = 0 → s.partnerOk = false → s.latchCfg.flashOk = true → s.regrows = [] →
        Completes (exec .boundaryTake s) (fun t => t.rf .kprSecStepStep 0 = step ∧ t.sec.adds = rest ∧ count t b = count s b - 1 ∧
          (∃ x, t.sec.capture = some x ∧ x.step = step ∧ x.wtc = w ∧ x.reason = 1 ∧ x.layers = [2] ∧ x.released = false) ∧
          (∃ n g, t.gen n = some g ∧ g.layer = 2 ∧ g.state = 1 ∧ g.step = step ∧ g.wtc = w)))) ∧
    (s.sec.waiting = some c →
      (s.transplantDue = true → c.since + 50000 ≤ s.now → s.rf .kprSecSkippedCount 0 + 1 < 2 ^ RF.kprSecSkippedCount.spec.width → count s r + 1 < 2 ^ 32 →
        Completes (exec .boundaryWaitExpiry s) (fun t => t.sec.waiting = none ∧ t.rf .kprSecSkippedCount 0 = s.rf .kprSecSkippedCount 0 + 1 ∧
          bits (t.rf .kprSecLastRecord 0) 4 4 = 2 ∧ ∃ acts, Raised s t 10 0 acts)) ∧
      (s.transplantDue = false ∨ s.now < c.since + 50000 → exec .boundaryWaitExpiry s = .next s)) ∧
    (s.sec.capture = some c → c.released = true ∨ c.flashToo = true → exec .captureReadsDone s = .next s) ∧
    (s.sec.capture = some c → s.captureStarted = false ∨ (∃ x ∈ s.regrows, x.phase = rgFill) → exec .captureReadsDone s = .next s) ∧
    (s.sec.capture = some c → c.released = false → 1 ∉ c.layers → c.flashToo = false → s.captureStarted = true → (∀ x ∈ s.regrows, x.phase ≠ rgFill) →
      releasable → Completes (exec .captureReadsDone s) (fun t =>
      t.sec.capture = some { c with released := true, hold := s.now - c.since, content := s.copyDigest c.step } ∧ count t r = count s r + 1 ∧ SameRegs s t [(.semCountCount, r)]))

/-- R15, R231, R232, R239 to R242, R247, R330: copies. A trickle that commits leaves its generation committed; it is VALID once V has
passed since its boundary; the layer that exceeds its bound loses what it was writing; a drive that fails takes its copies with it; one
that comes up works if its blocks are of 4,096 bytes and its namespace has room, and brings in the headers that it holds; a closing message
of the client is applied once its writes have landed, and one that a reserved source sends, or whose tag does not verify, is counted. -/
def Obligations.CopiesCommitAndFail : Prop :=
  ∀ (s : State) (n : Fin 12) (g : Gen) (tr : Trickle) (t0 blocks size : Nat) (layer : Layer) (d k : Fin 16) (hb : HeaderBytes) (h : CopyHeader)
    (place : Fin 4) (source : BitVec 15) (fseq : BitVec 32) (message : ClosingBytes),
    (s.sec.capture = none → s.sec.trickles = [tr] → s.gen tr.dst = some g → g.layer = 3 → g.started = true → Completes (exec (.copyCommit .store true) s) (fun t =>
      t.sec.trickles = [] ∧ t.gen tr.dst = some { g with committed := true } ∧ t.out = .storeHeader (genHeader { g with state := 2 }) :: s.out ∧
      (∀ j, j ≠ tr.dst → t.gen j = s.gen j) ∧ SameRegs s t [(.kprSecLastRecord, 0)] ∧ bits (t.rf .kprSecLastRecord 0) 4 4 = 1 ∧ ∃ acts, Raised s t 10 0 acts)) ∧
    (s.sec.capture = none → s.sec.trickles = [tr] → s.gen tr.dst = some g → g.started = false → exec (.copyCommit layer true) s = .next s) ∧
    (s.sec.capture = none → exec (.copyCommit layer false) s = .next s) ∧
    (s.gen n.val = some g → g.state = 1 → g.committed = true →
      (g.wtc + s.validDelay ≤ s.wtc → exec (.copyValid n) s = .next (s.setGen n.val (some { g with state := 2 }))) ∧
      (s.wtc < g.wtc + s.validDelay → exec (.copyValid n) s = .next s)) ∧
    (s.rf .kprMonStatusHold 0 = 0 → s.sec.rollback = none →
      (s.layerSince (layerCode layer) = none → exec (.securingTimeout layer) s = .next s) ∧
      (s.layerSince (layerCode layer) = some t0 → t0 + s.secTimeout (layerCode layer) ≤ s.now →
        s.rf .kprCmdTimeoutsCount 0 + 1 < 2 ^ RF.kprCmdTimeoutsCount.spec.width → Completes (exec (.securingTimeout layer) s) (fun t =>
          t.rf .kprCmdTimeoutsCount 0 = s.rf .kprCmdTimeoutsCount 0 + 1 ∧ (∃ e ∈ t.events, e.cls = 7 ∧ e.tick = s.now) ∧
          ∀ j x, j < 12 → t.gen j = some x → x.layer = layerCode layer → x.state = 1 → x.committed = true))) ∧
    (s.rf .kprSecStatusDrivesOk 0 < 2 ^ 16 →
      (s.drivesOk.testBit d.val = false → exec (.driveFailure d) s = .next s) ∧
      (s.drivesOk.testBit d.val = true → s.sec.gens = [] → Completes (exec (.driveFailure d) s) (fun t =>
        t = { s with regs := t.regs, events := t.events, sec := { s.sec with drives := t.sec.drives } } ∧
        SameRegs s t [(.kprSecStatusDrivesOk, 0)] ∧ t.drivesOk.testBit d.val = false ∧
        (∀ j, j ≠ d.val → t.drivesOk.testBit j = s.drivesOk.testBit j) ∧ Raised s t 6 0 [.log])) ∧
      (s.drivesOk.testBit d.val = true → s.sec.gens = [(n.val, some g)] → g.layer = 2 → g.drives.testBit d.val = true → g.state = 2 →
        s.sec.rollback = none → s.sec.trickles = [] → s.regrows = [] → Completes (exec (.driveFailure d) s) (fun t => t.drivesOk.testBit d.val = false ∧
          t.gen n.val = some { g with state := 4 })) ∧
      Completes (exec (.storagePortReady d ⟨size, blocks, []⟩) s) (fun t =>
        t = { s with regs := t.regs, sec := { s.sec with drives := t.sec.drives } } ∧ SameRegs s t [(.kprSecStatusDrivesOk, 0)] ∧
        (size ≠ 4096 → t.drivesOk.testBit d.val = false) ∧
        (s.sec.drives = [] → size = 4096 → t.drivesOk = (if s.layerLimit 2 * (slotBlocks s.copyBytes 1 + 1) ≤ blocks then 2 ^ d.val else 0))) ∧
      (s.sec.gens = [] → s.sec.drives = [] → s.layerLimit 2 * (slotBlocks s.copyBytes 1 + 1) ≤ blocks → readHeader hb.toNat = some h → h.state = 2 →
        h.layer = 2 → Completes (exec (.storagePortReady d ⟨4096, blocks, [(place, hb)]⟩) s) (fun t =>
        ∃ x, t.gen 0 = some x ∧ x.layer = 2 ∧ x.state = 2 ∧ x.step = h.step ∧ x.wtc = h.boundaryWtc ∧ x.committed = true ∧ x.slot = place.val))) ∧
    (let raw := message.toNat
     let tagged := s.sec.clientKey.all (fun key => decide (bits raw 512 256 = hmacNat key (bytesOf raw 0 64)))
     (engineReserved source.toNat = true ∨ tagged = false → Completes (exec (.holderClosingMessage k source fseq message) s) (fun t =>
        t = { s with wardens := t.wardens } ∧ SameWardens s t k.val ∧
        t.warden k.val = { s.warden k.val with discards := (s.warden k.val).discards + 1 })) ∧
     (engineReserved source.toNat = false → tagged = true → s.sec.closings = [] →
      (s.rf .kprSecPairClientValid 0 = 1 → s.rf .kprSecPairClient 0 = source.toNat → readHeader raw = some h →
        (serialGe (s.landed k.val source.toNat) fseq.toNat = true → exec (.holderClosingMessage k source fseq message) s = .next { s with
          sec := { s.sec with held := some (headerGen h s.now) }, out := .closingAck k.val source.toNat :: s.out }) ∧
        (serialGe (s.landed k.val source.toNat) fseq.toNat = false → exec (.holderClosingMessage k source fseq message) s = .next { s with
          sec := { s.sec with closings := [⟨k.val, source.toNat, fseq.toNat, h⟩] } })) ∧
      (s.rf .kprSecPairClientValid 0 = 0 → exec (.holderClosingMessage k source fseq message) s = .next s)))

/-- R250 to R252, R356, R407: rollbacks. ROLLBACK is taken while a launch runs, or held while a recovery prepares; another is refused. A reload
that has its port lands its copy in the tiles; where the content digest agrees it sets the step and waits at its barrier; one that does not loses its generation and reports the fallback. The
release counts the rollback and the program runs again; a rollback that is not ready at WTC_go is refused, and asked for again. -/
def Obligations.RollbacksReloadAndRelease : Prop :=
  ∀ (s : State) (cid : BitVec 32) (step go : BitVec 64) (data : List (Fin 445440 × Fin 768 × BitVec 1024)) (r : Rollback) (n : Nat) (g : Gen),
    (s.canAnswer 0x61 cid.toNat →
      (s.sec.rollback ≠ none ∨ s.launch.running = false ∧ s.rf .kprHangStatusRecovery 0 = 0 → Completes (exec (.rollback cid step go) s) (fun t =>
        Responded s t 0x61 cid.toNat 9 ∧ t.sec = s.sec ∧ SameRegs s t creditRegs)) ∧
      (s.sec.rollback = none → s.rf .kprHangStatusRecovery 0 = 3 → Completes (exec (.rollback cid step go) s) (fun t =>
        t.sec = { s.sec with rollback := some ⟨some cid.toNat, step.toNat, go.toNat, 0, none, s.now, s.now, false⟩ } ∧ t.host.outQ = s.host.outQ ∧
        SameRegs s t creditRegs)) ∧
      (s.sec.rollback = none → s.rf .kprHangStatusRecovery 0 = 0 → s.launch.running = true → s.rf .kprEpochDraining 0 = 1 →
        Completes (exec (.rollback cid step go) s) (fun t =>
          t.sec = { s.sec with needed := false, rollback := some ⟨some cid.toNat, step.toNat, go.toNat, 1, none, s.now, s.now, false⟩ } ∧
          t.rf .kprEpochProgramPending 0 = 1 ∧ t.host.outQ = s.host.outQ))) ∧
    (s.sec.rollback = some r →
      (r.phase = 2 → r.started = false → exec (.reloadComplete data) s = .next s) ∧
      (r.phase = 2 → r.started = true → r.gen = some n → s.gen n = some g → s.regrows = [] → s.rf .kprHangStatusRecovery 0 = 0 →
        (g.content = (s.landCopy data).copyDigest r.step → Completes (exec (.reloadComplete data) s) (fun t => t = { s with
          regs := t.regs, sec := { s.sec with rollback := some { r with phase := 3 } }, sealed := [], sram := (s.landCopy data).sram } ∧
          SameRegs s t [(.kprSecStepStep, 0)] ∧ t.rf .kprSecStepStep 0 = r.step % 2 ^ 64)) ∧
        (g.state = 2 → s.sec.trickles = [] →
          (g.content ≠ (s.landCopy data).copyDigest r.step → Completes (exec (.reloadComplete data) s) (fun t => t.gen n = some { g with state := 4 } ∧
            t.rf .kprSecStatusFallbackSeen 0 = 1 ∧ t.rf .kprSecStepStep 0 = s.rf .kprSecStepStep 0)) ∧
          Completes (exec .reloadLayerFail s) (fun t => t.gen n = some { g with state := 4 } ∧ t.rf .kprSecStatusFallbackSeen 0 = 1))) ∧
      (r.phase = 3 → s.wtc < r.wtcGo → exec .rollbackRelease s = .next s) ∧
      (r.phase = 3 → r.wtcGo ≤ s.wtc → s.namedPorts = [] → s.rf .kprSecRollbacksCount 0 + 1 < 2 ^ RF.kprSecRollbacksCount.spec.width →
        Completes (exec .rollbackRelease s) (fun t => t.launch.running = true ∧ t.sec.rollback = none ∧ t.sec.needed = false ∧
          t.run.rollbacks = Nat.min 0xFFFFFFFF (s.run.rollbacks + 1) ∧ t.rf .kprSecRollbacksCount 0 = s.rf .kprSecRollbacksCount 0 + 1 ∧
          t.rf .kprHangStatusRecovery 0 = 0)) ∧
      (r.phase = 2 → r.wtcGo ≤ s.wtc → Completes (exec .rollbackRelease s) (fun t => t.sec.rollback = none ∧ t.sec.needed = true ∧
        t.launch.running = s.launch.running))) ∧
    (s.sec.rollback = none → exec .rollbackRelease s = .next s ∧ exec .reloadLayerFail s = .next s ∧ exec (.reloadComplete data) s = .next s)

/-- R272, R305, R318, R330, R478: the Always-On Island comes up with nothing but what flash, fuses and the outside hold, manager time an hour
past the newest anchor, and a full bring-up at stage 0; its supply lost, the same is left, unpowered. Power-good lost, or BRD_RESET low, holds
the Keeper and tile compute at once with no molt, staged records lost; power-good back begins a full bring-up.

R317 to R322, R448: stages 0 to 3. Stage 0 ends 10,000 ticks after power-good with the straps read, and begins again where power does not
hold; stage 1 halts where the fuses cannot be read; stage 2 starts the keeper cores from the newest valid image, runs again once where it
fails, and halts the second time; a station that passes its own stage 3 is UP with both its cores started. A stage's row acts only while its
stage runs. -/
def Obligations.PowerAndEarlyStages : Prop :=
  (∀ (s : State) (a : Nat × Nat),
     let Wiped := fun (t : State) => t.fuses = s.fuses ∧ t.jobKey = none ∧ t.launch = State.reset.launch ∧ t.cores = [] ∧ t.ks = [] ∧
       t.hist.staged = [] ∧ t.hist.half0 = s.hist.half0 ∧ t.hist.half1 = s.hist.half1 ∧ t.molts.flash = s.molts.flash ∧ t.molts.slots = [] ∧
       t.fw.slotA = s.fw.slotA ∧ t.fw.slotB = s.fw.slotB ∧ t.events = [] ∧ t.host.taken = []
     Completes (exec .aoiSupplyLoss s) (fun t => Wiped t ∧ t.boot.aoiOn = false ∧ t.regs = State.reset.regs) ∧
     Completes (exec .aoiPowerUp s) (fun t => Wiped t ∧ t.boot.aoiOn = true ∧ t.boot.powerGood = some t.now ∧ t.rf .kprBringupStatusStage 0 = 0 ∧
       t.rf .kprBringupStatusRun 0 = 0 ∧ t.rf .kprBringupStatusBusy 0 = 1 ∧ t.rf .aoiDomainsKeeper 0 = 2 ∧ t.rf .aoiDomainsCompute 0 = 2 ∧
       (s.anchors.newest = some a → t.now = a.2 + 3600000000) ∧
       (s.anchors.newest = none → t.now = 0 ∧ t.rf .aoiTimeStatusAnchorLost 0 = 1)) ∧
     exec .brdResetLow s = exec .powerGoodLoss s ∧
     (s.boot.aoiOn = false → exec .powerGoodLoss s = .next s) ∧
     (s.boot.aoiOn = true → s.stageOn 0 = true → exec .powerGoodLoss s = .next { s with boot := { s.boot with powerGood := none } }) ∧
     (s.boot.aoiOn = true → s.stageOn 0 = false → ∀ i : Instr, i ∈ [.powerGoodLoss, .brdResetLow] → Completes (exec i s) (fun t =>
       t.rf .aoiDomainsKeeper 0 = 2 ∧ t.rf .aoiDomainsCompute 0 = 2 ∧ t.rf .aoiResetCausePowerGood 0 = 1 ∧ t.boot.powerGood = none ∧
       t.boot.full = true ∧ t.waits = [] ∧ t.episodes = [] ∧ t.regrows = [])) ∧
     (s.boot.aoiOn = false ∨ s.boot.powerGood ≠ none → exec .powerGoodReturn s = .next s) ∧
     (s.boot.aoiOn = true → s.boot.powerGood = none → Completes (exec .powerGoodReturn s) (fun t => t.boot.powerGood = some s.now ∧
       (s.stageOn 0 = true → t = { s with boot := t.boot }) ∧
       (s.stageOn 0 = false → t.rf .kprBringupStatusStage 0 = 0 ∧ t.rf .kprBringupStatusRun 0 = 0 ∧ t.rf .kprBringupStatusBusy 0 = 1)))) ∧
  (∀ (s : State) (feed : BitVec 8) (sa : BitVec 2) (held : Nat) (readOk passed : Bool) (test : BitVec 64) (t0 n : Nat) (v : FwImage)
     (f : Fin 32) (testFails marchFails : BitVec 32),
     let quiet := s.domPending .keeper ≠ 1 ∧ s.domPending .compute ≠ 1
     let At := fun (t : State) (stage : Nat) => t.rf .kprBringupStatusStage 0 = stage ∧ t.rf .kprBringupStatusBusy 0 = 1 ∧ t.rf .kprBringupStatusHalted 0 = 0
     let Halted := fun (t : State) (code : Nat) => t.rf .kprBringupStatusHalted 0 = 1 ∧ t.rf .kprBringupStatusBusy 0 = 0 ∧ t.rf .kprBringupStatusCode 0 = code
     (s.stageOn 0 = true → s.boot.powerGood = some t0 →
       (t0 + 10000 ≤ s.now → quiet → Completes (exec (.stage0Power feed sa) s) (fun t => At t 1 ∧ t.feedId = feed.toNat ∧ t.i3cSa = sa.toNat)) ∧
       (s.now < t0 + 10000 → exec (.stage0Power feed sa) s = .next s) ∧
       (s.now < t0 + 10000 → s.boot.stageFrom + 1000000 ≤ s.now → Completes (exec (.powerUnstable held) s) (fun t => At t 0 ∧
         t.rf .kprBringupStatusCode 0 = 0x11 ∧ t.boot.stageFrom = s.now)) ∧
       (t0 + 10000 ≤ s.now ∨ s.now < s.boot.stageFrom + 1000000 → exec (.powerUnstable held) s = .next s)) ∧
     (s.stageOn 1 = true → Completes (exec (.stage1Fuses false) s) (fun t => Halted t 0x20) ∧
       (quiet → Completes (exec (.stage1Fuses true) s) (fun t => At t 2 ∧ t.boot.fusesRead = true ∧
         t.rf .kprBringupStatusCode 0 ∈ [0, 0x21, 0x22]))) ∧
     (s.stageOn 2 = true →
       (quiet → s.bestImage = some (n, v) → Completes (exec (.stage2Keeper true test) s) (fun t => At t 3 ∧ t.rf .kprFwStatusActiveSlot 0 = n ∧
         t.fw.cache = v.bytes ∧ ∀ c, 64 ≤ c → c < 68 → (t.core c).loaded = true ∧ (t.core c).pc = 0 ∧ (t.core c).run = 0)) ∧
       (passed = false ∨ s.bestImage = none →
         (s.boot.failed2 = false → Completes (exec (.stage2Keeper passed test) s) (fun t => At t 2 ∧ t.boot.failed2 = true ∧ t.rf .aoiResetCauseKeeperStage 0 = 1)) ∧
         (s.boot.failed2 = true → Completes (exec (.stage2Keeper passed test) s) (fun t => Halted t 0x30)))) ∧
     (s.stageOn 3 = true → quiet → Completes (exec (.stage3Stations none testFails marchFails) s) (fun t => At t 4 ∧ t.boot.stations = true)) ∧
     (s.domState (.station f) = 3 → s.stageOn 3 = false → (testFails ||| marchFails).toNat.testBit f.val = false → s.domPending (.station f) ≠ 1 →
       Completes (exec (.stage3Stations (some f) testFails marchFails) s) (fun t => t.rf .fstResetStatusState f.val = 0 ∧
         ∀ c, c / 2 = f.val → (t.core c).loaded = true ∧ (t.core c).pc = 0 ∧ (t.core c).run = 0)) ∧
     (s.domState (.station f) ≠ 3 → exec (.stage3Stations (some f) testFails marchFails) s = .next s) ∧
     (s.stageOn 0 = false → exec (.stage0Power feed sa) s = .next s ∧ exec (.powerUnstable held) s = .next s) ∧
     (s.stageOn 1 = false → exec (.stage1Fuses readOk) s = .next s) ∧ (s.stageOn 2 = false → exec (.stage2Keeper passed test) s = .next s) ∧
     (s.stageOn 3 = false → exec (.stage3Stations none testFails marchFails) s = .next s))

/-- R48, R317, R319, R322, R324, R328, R335: stages 4 to 7 and the overrun. Stage 4 leaves the failing units for stage 5; stage 5 halts while
a field is disputed, and while the ledger has fewer than 1,024 places left, and goes on else; stage 6 ends its training and begins discovery, which ends 200,000 ticks after the last new peer;
stage 7 sets READY, and the Keeper and tile compute reach UP. A stage past twice its bound begins once more, and halts the second time. -/
def Obligations.LateStagesOfBringUp : Prop :=
  ∀ (s : State) (fails lanes : List UnitKey) (trained : List (Fin 16 × BitVec 32)) (b : Nat),
    let quiet := s.domPending .keeper ≠ 1 ∧ s.domPending .compute ≠ 1
    let At := fun (t : State) (stage : Nat) => t.rf .kprBringupStatusStage 0 = stage ∧ t.rf .kprBringupStatusBusy 0 = 1 ∧ t.rf .kprBringupStatusHalted 0 = 0
    let Halted := fun (t : State) (code : Nat) => t.rf .kprBringupStatusHalted 0 = 1 ∧ t.rf .kprBringupStatusBusy 0 = 0 ∧ t.rf .kprBringupStatusCode 0 = code
    let u := s.reconcile.2.ageCheck
    let w := u.syncFields.buildMap.syncLanes true
    let n := s.rf .kprBringupStatusStage 0
    (s.stageOn 4 = true → quiet → Completes (exec (.stage4Tiles fails lanes) s) (fun t => At t 5 ∧
      t.ledger.fails = s.ledger.fails ++ fails.filter (fun k => decide (k.kind = kindTile ∨ k.kind = kindBank ∨ k.kind = kindRouter) &&
        !s.dropped (tileField k.unit)) ++ lanes.filter (fun k => decide (k.kind = kindLane)) ∧ t.ledger.prevFails = t.ledger.fails)) ∧
    (s.stageOn 5 = true → s.reconcile.1 ≠ [] → Completes (exec .stage5Ledger s) (fun t => Halted t 0x60)) ∧
    (s.stageOn 5 = true → s.reconcile.1 = [] → 31744 < u.entriesNeeded → Completes (exec .stage5Ledger s) (fun t => Halted t 0x61)) ∧
    (s.stageOn 5 = true → s.reconcile.1 = [] → u.entriesNeeded ≤ 31744 → w.entriesNeeded ≤ 31744 →
      w.rf .kprFieldsDroppedDropped 0 ≠ 0xFFFFFFFF → w.domPending .keeper ≠ 1 → w.domPending .compute ≠ 1 →
      Completes (exec .stage5Ledger s) (fun t => At t (if w.rf .kprBringupStatusRun 0 = 2 then 7 else 6) ∧ t.ledger.fails = [] ∧
        t.ledger.prevFails = w.ledger.prevFails ∧ t.remap = w.remap ∧ t.redirect = w.redirect)) ∧
    (s.stageOn 5 = false → s.rf .kprBringupStatusHalted 0 ≠ 1 → exec .stage5Ledger s = .next s) ∧
    (s.stageOn 6 = true → s.boot.trained = false → Completes (exec (.stage6Training trained) s) (fun t => t.boot.trained = true ∧
      t.boot.trainEnd = t.now ∧ t.boot.lastPeer = t.now)) ∧
    (s.stageOn 6 = true → s.boot.trained = true → quiet → s.boot.lastPeer + 200000 ≤ s.now → Completes (exec .discoveryEnd s) (fun t => At t 7)) ∧
    (s.boot.trained = false → exec .discoveryEnd s = .next s) ∧
    (s.stageOn 7 = true → quiet → s.rf .kprHangStatusRecovery 0 = 0 → Completes (exec .stage7Ready s) (fun t =>
      t.rf .kprBringupStatusReady 0 = 1 ∧ t.rf .kprBringupStatusBusy 0 = 0 ∧ t.boot.full = false ∧
      t.rf .aoiDomainsKeeper 0 = (if s.rf .aoiDomainsKeeper 0 = 3 then 0 else s.rf .aoiDomainsKeeper 0) ∧
      t.rf .aoiDomainsCompute 0 = if s.rf .aoiDomainsCompute 0 = 3 then 0 else s.rf .aoiDomainsCompute 0)) ∧
    (s.stageOn 4 = false → exec (.stage4Tiles fails lanes) s = .next s) ∧ (s.stageOn 6 = false → exec (.stage6Training trained) s = .next s) ∧
    (s.stageOn 7 = false → exec .stage7Ready s = .next s) ∧
    (s.stageOn n = true → s.stageBound n = some b →
      (s.stageTicks < 2 * b → exec .stageTimeout s = .next s) ∧
      (2 * b ≤ s.stageTicks → s.boot.overran = true → Completes (exec .stageTimeout s) (fun t => Halted t 0x70 ∧ t.rf .kprBringupStatusStage 0 = n)) ∧
      (2 * b ≤ s.stageTicks → s.boot.overran = false → Completes (exec .stageTimeout s) (fun t => At t n ∧ t.boot.overran = true))) ∧
    (s.stageBound n = none → exec .stageTimeout s = .next s)

/-- R324 to R326: a port that is down trains again a second after its last attempt, and comes up with 16 lanes or more; a lane in use that
loses lock, or replays more than 64 beats, is striped out and waits to retrain; a retrain that passes brings its lane back, unless the ledger
has withdrawn it, and its count goes up. -/
def Obligations.LinksTrainAndRetrain : Prop :=
  ∀ (s : State) (k : Fin 16) (lanes : BitVec 32) (lane : Fin 32) (lost passed : Bool) (replays : Nat),
    let m := lanes.toNat &&& (0xFFFFFFFF ^^^ s.rf .lwdLaneWithdrawnWithdrawn k.val)
    let open_ := (s.rf .kprStStatusScanTarget 0).testBit (k.val + 1) = false
    (s.boot.trained = false → exec (.portTrainingRetry k lanes) s = .next s) ∧
    (s.boot.trained = true → s.rf .lwdPortStatusState k.val = 0 → s.rf .lwdPortStatusPortUp k.val = 0 →
      ((s.warden k.val).trainAt + 1000000 ≤ s.now → open_ → 16 ≤ countBits m → Completes (exec (.portTrainingRetry k lanes) s) (fun t =>
        t.rf .lwdPortStatusPortUp k.val = 1 ∧ t.rf .lwdPortStatusNoPeer k.val = 0 ∧ t.rf .lwdLaneUpUp k.val = m % 2 ^ 32)) ∧
      ((s.warden k.val).trainAt + 1000000 ≤ s.now → countBits m < 16 → Completes (exec (.portTrainingRetry k lanes) s) (fun t =>
        t.rf .lwdPortStatusPortUp k.val = 0 ∧ t.rf .lwdPortStatusNoPeer k.val = 1 ∧ t.rf .lwdLaneUpUp k.val = 0 ∧ SameWardens s t k.val ∧
        SameRegs s t [(.lwdPortStatusPortUp, k.val), (.lwdPortStatusNoPeer, k.val), (.lwdLaneUpUp, k.val)])) ∧
      (s.now < (s.warden k.val).trainAt + 1000000 → exec (.portTrainingRetry k lanes) s = .next s)) ∧
    (s.launch.running = false ∨ (s.rf .lwdLaneUpUp k.val).testBit lane.val = false ∨ (lost = false ∧ replays ≤ 64) →
      exec (.laneRetrainTrigger k lane lost replays) s = .next s) ∧
    (s.launch.running = true → (s.rf .lwdLaneUpUp k.val).testBit lane.val = true → lost = true ∨ 64 < replays →
      Completes (exec (.laneRetrainTrigger k lane lost replays) s) (fun t => (t.rf .lwdLaneUpUp k.val).testBit lane.val = false ∧
        (∀ l, l < 32 → l ≠ lane.val → (t.rf .lwdLaneUpUp k.val).testBit l = (s.rf .lwdLaneUpUp k.val).testBit l) ∧ SameWardens s t k.val ∧
        t.launch = s.launch)) ∧
    (s.rf .lwdPortStatusRetraining k.val ≠ 1 → exec (.laneRetrainDone k passed) s = .next s) ∧
    (s.rf .lwdPortStatusRetraining k.val = 1 → s.rf .lwdPortStatusRetrainLane k.val = lane.val →
      ((s.rf .lwdLaneWithdrawnWithdrawn k.val).testBit lane.val = false →
        s.rf .lwdLaneRetrainsRetrains k.val + 1 < 2 ^ RF.lwdLaneRetrainsRetrains.spec.width → Completes (exec (.laneRetrainDone k true) s) (fun t =>
          (t.rf .lwdLaneUpUp k.val).testBit lane.val = true ∧ t.rf .lwdLaneRetrainsRetrains k.val = s.rf .lwdLaneRetrainsRetrains k.val + 1 ∧
          SameWardens s t k.val)) ∧
      ((s.rf .lwdLaneWithdrawnWithdrawn k.val).testBit lane.val = true → Completes (exec (.laneRetrainDone k true) s) (fun t =>
        t.rf .lwdLaneUpUp k.val = s.rf .lwdLaneUpUp k.val % 2 ^ 32)) ∧
      Completes (exec (.laneRetrainDone k false) s) (fun t => t.rf .lwdLaneUpUp k.val = s.rf .lwdLaneUpUp k.val))

/-- R312 to R314, R461, R463, R465, R466: the hazard index is the sum of its five terms, saturating at 255, and PEAK its highest; the Escape
Account is brought up to date once a second of compute time, and ABOVE_GOAL says that it exceeds 200,000; the allowance and the shares are
plain writes; ENGINE may not be written while a launch runs or a holder or client is held. -/
def Obligations.HazardEscapeAndIdentity : Prop :=
  ∀ (s : State) (which : AllowanceReg) (v : BitVec 12) (e : BitVec 15),
    let ce := (s.hz.ce.filter (fun t => decide (s.now < t + 1000000))).length
    let det := (s.hz.dets.filter (fun x => decide (s.now < x.1 + 3600000000))).length
    let droop := 4 * s.droopsIn s.hz.warn 100000 + 16 * s.droopsIn s.hz.deep 100000
    let held := s.launch.running = true ∨ s.rf .kprSecPairHolderValid 0 = 1 ∨ s.rf .kprSecPairClientValid 0 = 1
    let E := Nat.min 0xFFFFFFFF (s.escapeEstimate * 1000000000000 + 1 / 2).floor.toNat
    (s.now < s.mon.hzAt + 1000 ∨ s.domState .keeper ≠ 0 → exec .hazardCompute s = .next s) ∧
    (s.mon.hzAt + 1000 ≤ s.now → s.domState .keeper = 0 → Completes (exec .hazardCompute s) (fun t =>
      t.rf .kprHazardTermsCe 0 = Nat.min 64 (ce / 16) ∧ t.rf .kprHazardTermsDroop 0 = Nat.min 64 droop ∧
      t.rf .kprHazardTermsRise 0 = Nat.min 128 (96 * s.maxRate / Nat.max 4 (s.rf .kprMonCtrlRiseTrip 0)) ∧
      t.rf .kprHazardTermsDetect 0 = Nat.min 96 (24 * det) ∧
      t.rf .kprHazardTermsPartner 0 = (if s.hz.partnerAt.any (fun a => decide (s.now < a + 10000000)) = true then 64 else 0) ∧
      t.rf .kprHazardH 0 = Nat.min 255 (t.rf .kprHazardTermsCe 0 + t.rf .kprHazardTermsDroop 0 + t.rf .kprHazardTermsRise 0 +
        t.rf .kprHazardTermsDetect 0 + t.rf .kprHazardTermsPartner 0) ∧
      (s.rf .kprHazardPeak 0 < 256 → t.rf .kprHazardPeak 0 = Nat.max (t.rf .kprHazardH 0) (s.rf .kprHazardPeak 0)) ∧
      SameRegs s t [(.kprHazardH, 0), (.kprHazardPeak, 0), (.kprHazardTermsCe, 0), (.kprHazardTermsDroop, 0), (.kprHazardTermsRise, 0),
        (.kprHazardTermsDetect, 0), (.kprHazardTermsPartner, 0)])) ∧
    (s.mon.escTicks < s.mon.escLast + 1000000 → exec .escapeAccountUpdate s = .next s) ∧
    (s.mon.escLast + 1000000 ≤ s.mon.escTicks → Completes (exec .escapeAccountUpdate s) (fun t => t.mon.escLast = s.mon.escTicks ∧
      t.rf .kprEscapeEstimate 0 = E ∧ t.rf .kprEscapeAboveGoal 0 = (if 200000 < E then 1 else 0) ∧
      (200000 < E → t.rf .kprEscapeAboveSeen 0 = 1) ∧
      SameRegs s t [(.kprEscapeEstimate, 0), (.kprEscapeAboveGoal, 0), (.kprEscapeAboveSeen, 0)])) ∧
    Completes (exec (.kprAllowanceWrite which v) s) (fun t => OnlyRegs s t [(allowanceField which, 0)] ∧
      t.rf (allowanceField which) 0 = v.toNat % 2 ^ (allowanceField which).spec.width) ∧
    (held → Completes (exec (.kprEngineWrite e) s) (fun t => OnlyRegs s t [(.hptStatusAccessErr, 0)] ∧ t.rf .hptStatusAccessErr 0 = 1)) ∧
    (¬ held → Completes (exec (.kprEngineWrite e) s) (fun t => t = { s with regs := t.regs, identDue := true } ∧
      SameRegs s t [(.kprEngineEngine, 0), (.kprEngineValid, 0)] ∧ t.rf .kprEngineEngine 0 = e.toNat ∧
      (t.rf .kprEngineValid 0 = 1 ↔ engineReserved e.toNat = false)))

/-- R339, R340, R355, R407: a PING not answered within 1,000 ticks is answered TIMEOUT and counted; a self-test visit not done within a second
is aborted and counted; a RESET five seconds old leaves its domain HELD and is answered TIMEOUT. RECOVER of an attached host begins a recovery,
whatever the limit says, and its command waits for it. -/
def Obligations.TimeoutsAndRecover : Prop :=
  ∀ (s : State) (cid : BitVec 32) (c : Taken) (d : Domain) (tile : Nat) (v : Visit),
    let counted := fun (t : State) => t.rf .kprCmdTimeoutsCount 0 = s.rf .kprCmdTimeoutsCount 0 + 1
    let room := s.rf .kprCmdTimeoutsCount 0 + 1 < 2 ^ RF.kprCmdTimeoutsCount.spec.width
    (s.host.taken = [c] → c.cid = cid.toNat → c.applied = true → c.opcode = 3 →
      (s.now < c.since + 1000 → exec (.commandTimeout (.command cid)) s = .next s) ∧
      (c.since + 1000 ≤ s.now → s.rf .hptStatusAttached 0 = 1 → s.host.outQ.length < 4096 → room →
        Completes (exec (.commandTimeout (.command cid)) s) (fun t => Responded s t 3 cid.toNat 2 ∧ t.host.taken = [] ∧ counted t ∧
          Raised s t 7 locKeeper [.log] ∧ SameRegs s t ((.kprCmdTimeoutsCount, 0) :: creditRegs)))) ∧
    (s.host.taken = [] → exec (.commandTimeout (.command cid)) s = .next s) ∧
    (s.visitOf tile = none → exec (.commandTimeout (.visit tile)) s = .next s) ∧
    (s.visitOf tile = some v → v.owner = .register → s.now < v.since + 1000000 → exec (.commandTimeout (.visit tile)) s = .next s) ∧
    (s.visitOf tile = some v → v.owner = .register → v.since + 1000000 ≤ s.now → v.aborted = false → v.path ≠ 2 → room →
      Completes (exec (.commandTimeout (.visit tile)) s) (fun t => counted t ∧ Raised s t 7 locKeeper [.log] ∧
        ∃ x r, t.visitOf tile = some x ∧ x.aborted = true ∧ t.out = .record tile r :: s.out)) ∧
    ((s.domInfo d).cids = [] ∨ s.domState d = 0 → exec (.commandTimeout (.reset d)) s = .next s) ∧
    ((s.domInfo d).cids = [cid.toNat] → s.domState d = 2 → (s.domInfo d).since + 5000000 + s.boot.haltTicks ≤ s.now →
      s.rf .hptStatusAttached 0 = 1 → outRoom s.host.outQ 2 = true → s.host.outQ.length < 4095 → room →
      Completes (exec (.commandTimeout (.reset d)) s) (fun t => s.domState d = t.domState d ∧ (t.domInfo d).cids = [] ∧ counted t ∧
        ∃ m x, t.host.outQ = s.host.outQ ++ [m, x] ∧ m.cls = 1 ∧ m.code = 0x63 ∧ m.cid = cid.toNat ∧ m.status = 2 ∧ x.cls = 2 ∧ x.code = 0x1E)) ∧
    (s.canAnswer 0x62 cid.toNat → s.rf .kprHangStatusRecovery 0 = 0 → s.rf .aoiDomainsCompute 0 = 0 →
      Completes (exec (.recover cid) s) (fun t => RecoveryBegun s t ∧ t.recov.byHost = true ∧ t.recov.cids = s.recov.cids ++ [cid.toNat] ∧
        t.host.outQ = s.host.outQ)) ∧
    (s.canAnswer 0x62 cid.toNat → s.rf .kprHangStatusRecovery 0 ≠ 0 → Completes (exec (.recover cid) s) (fun t =>
      t.recov = { s.recov with cids := s.recov.cids ++ [cid.toNat] } ∧ t.host.outQ = s.host.outQ ∧ SameRegs s t creditRegs))

/-- R16, R259 to R261, R271, R275: a tick moves manager time on by one and, unless the Keeper is HELD, the WTC by a microsecond, within a
nanosecond; a core that runs counts 1,000 cycles. Events sampled since the last tick are applied once, lower class first. Without power of
the Always-On Island there is no tick. -/
def Obligations.TicksAdvanceTimeAndApplyEvents : Prop :=
  ∀ (s : State) (e1 e2 : Ev),
    let now := (s.now + 1) % 2 ^ 64
    let quiet := s.host.taken = [] ∧ s.st.orders = [] ∧ s.st.visits = [] ∧ s.host.detaching = none ∧ s.host.resetting = none ∧
      s.sec.closings = [] ∧ s.rf .kprBringupStatusHalted 0 ≠ 1 ∧ s.heldRecs = [] ∧ s.ledger.cmds = [] ∧ s.episodes = [] ∧ s.ending = [] ∧
      s.regrows = [] ∧ ∀ c < 68, (s.core c).ledgerOp = none
    let counted := fun (t : State) => ∀ c, c < 68 → (s.core c).loaded = true → (s.core c).run = 0 →
      (t.core c).cycle = (s.core c).cycle + 1000 ∧ (t.core c).pc = (s.core c).pc ∧ (t.core c).instret = (s.core c).instret
    (s.boot.aoiOn = false → exec .aoiTick s = .next s) ∧
    (s.boot.aoiOn = true → s.rf .aoiDomainsKeeper 0 = 2 → Completes (exec .aoiTick s) (fun t => t.now = now ∧ t.wtc = s.wtc ∧ t.evLog = s.evLog ∧
      counted t)) ∧
    (s.boot.aoiOn = true → s.rf .aoiDomainsKeeper 0 ≠ 2 → quiet → s.events = [] → Completes (exec .aoiTick s) (fun t => t.now = now ∧ counted t ∧
      t.evLog = s.evLog ∧ t.wtc ∈ [(s.wtc + 999) % 2 ^ 64, (s.wtc + 1000) % 2 ^ 64, (s.wtc + 1001) % 2 ^ 64] ∧ (s.wtcSlew = 0 → t.wtc = (s.wtc + 1000) % 2 ^ 64))) ∧
    (s.boot.aoiOn = true → s.rf .aoiDomainsKeeper 0 ≠ 2 → quiet → s.events = [e1, e2] → e1.acts = [.log] → e2.acts = [.log] →
      e2.cls < e1.cls → e1.cls < 9 → e1.loc < 2 ^ 40 → e2.loc < 2 ^ 40 → Completes (exec .aoiTick s) (fun t => t.events = [] ∧
        t.evLog = ({ e1 with tick := now } :: { e2 with tick := now } :: s.evLog).take 4096))

/-- One command at a time, first in, first out: a step runs the command at the front of the queue on the state with the queue's rest, and an
empty queue leaves the state as it is (the model's choice, log entry 2). No word spells a command (log entry 1). -/
def Obligations.StepRunsTheFrontCommand : Prop :=
  ∀ (s : State) (c : Instr) (rest : List Instr),
    step { s with pending := c :: rest } = exec c { s with pending := rest } ∧ step { s with pending := [] } = .next { s with pending := [] } ∧
      ∀ nbits w, decodeTableWord nbits w = none ∧ s.withFetchWord nbits w = s

/-- The state right after reset: no command waits, every domain is HELD, every register field reads the reset value of its table, but for
KPR_TILE_CFG, which holds the limits of grade A; nothing runs, waits or is attached, and the memories read zero.

The fuse map after reset is well formed. -/
def Obligations.ResetStateIsTheSpecs : Prop :=
  ((∀ (F : RF) (i : Nat), F ≠ .kprTileCfgClockMhz → F ≠ .kprTileCfgCap10w → State.reset.rf F i = F.spec.reset) ∧
   State.reset.rf .kprTileCfgClockMhz 0 = 1100 ∧ State.reset.rf .kprTileCfgCap10w 0 = 2800 ∧
   (∀ d : Domain, State.reset.domState d = 2) ∧ (∀ fn : Func, State.reset.fnState fn = 0) ∧
   State.reset.pending = [] ∧ State.reset.launch.running = false ∧ State.reset.waits = [] ∧ State.reset.episodes = [] ∧ State.reset.regrows = [] ∧
   State.reset.events = [] ∧ State.reset.host.taken = [] ∧ State.reset.host.outQ = [] ∧ State.reset.jobKey = none ∧ State.reset.molts.busy = [] ∧
   (∀ a, readByte State.reset.ks a = 0) ∧ (∀ c, (State.reset.core c).loaded = false)) ∧
  (State.reset.fuseMapOk)

/-- The tile operand of a command names a tile, or the command faults: a row, column or field that R36 does not give is no tile. -/
def Obligations.TileCommandsFaultOffTheWafer : Prop :=
  ∀ (s : State) (tile a b : Nat) (x : Bool) (p : BitVec 32) (w : BitVec 64) (blk : TapBlock) (img : TileImage) (flits : List Flit)
    (cycles : List TileCycle) (run : SpareRun) (ctx : BitVec 16384) (res : ItemResult) (bank : Fin 12) (q : QueueId) (op : SemOp) (ctr : BitVec 12)
    (stall : StallInfo) (line : Fin 768) (data : BitVec 1024),
    tileOk tile = false → ∀ i : Instr,
    i ∈ [.tsnTapInject tile, .tsnEpArm tile, .tsnStRun tile, .tapBlockJudge tile blk, .tapHoldEnd tile, .tapEnable tile, .tapDisable tile,
      .tapStartDone tile, .tapDrainDone tile, .tapPendingStart tile, .armReportSend tile a b, .armReport tile x, .episodeStart tile ⟨p, img, flits⟩,
      .goWaitExpiry tile, .snapshotComplete ⟨tile, cycles⟩, .captureOverflow ⟨tile, cycles⟩, .recordRegionOverflow tile cycles, .replayRunDone tile,
      .episodeCompare tile cycles run.emitted run.image, .confirmReplayDone tile run, .confirmSpareTimeout tile, .episodeDeadline tile, .scrubVisitStart tile a p,
      .scrubVisitResume tile a b p, .scrubVisitEnd tile, .tileSramWrite tile ⟨line, data⟩ p, .testWindowOpen tile ⟨p, ctx⟩, .visitMoveDone tile,
      .visitSaveDone tile, .visitItemEnd tile res, .visitRestoreDone tile, .visitClearDone tile, .sramCeReport tile bank a, .sramUeReport tile bank,
      .tileFrozen tile, .oldEpochFlitLanding tile q w, .tileSemOp tile op ctr p, .stallLimitReached tile stall, .stallRecordArrival tile stall] →
    exec i s = .fault .noSuchTile

/-- What the fuses hold stands (R60, R311, R474): the fuse map lists each unit at most once, and only units that exist; every step keeps
that. A step takes exactly the front command off the queue and puts none into it, and only FUSE_BLOW changes what the fuses hold. -/
def Obligations.EveryStepKeepsTheFuseMap : Prop :=
  (∀ s t : State, s.fuseMapOk → step s = .next t → t.fuseMapOk) ∧
  ∀ (s t : State) (c : Instr) (rest : List Instr), s.pending = c :: rest → step s = .next t →
    t.pending = rest ∧ ((∀ k bad rv, c ≠ .fuseBlow k bad rv) → t.fuses = s.fuses)
end

