-- ==== Sys2Proof/Laws/Tab.lean ====
section
/-! SUPPORT. The laws of sparse tables: a read after a write, and that writing keeps the canonical form. -/

namespace Sys2Proof.Machine

variable {α : Type}

theorem Tab.get_above_of_lt (d : Nat → α) (t : Tab α) (k j : Nat) (h : k < j) :
    Tab.get d (Tab.above k t) j = Tab.get d t j := by
  induction t with
  | nil => rfl
  | cons e t ih =>
    obtain ⟨k', v⟩ := e
    by_cases hk : k' ≤ k
    · have h1 : ¬ j < k' := by omega
      have h2 : j ≠ k' := by omega
      simp [Tab.above, Tab.get, hk, h1, h2, ih]
    · simp [Tab.above, hk]

theorem Tab.get_above_of_le (d : Nat → α) (t : Tab α) (k j : Nat) (h : j ≤ k) :
    Tab.get d (Tab.above k t) j = d j := by
  induction t with
  | nil => rfl
  | cons e t ih =>
    obtain ⟨k', v⟩ := e
    by_cases hk : k' ≤ k
    · simp [Tab.above, hk, ih]
    · have : j < k' := by omega
      simp [Tab.above, hk, Tab.get, this]

/-- Reading the key just written gives the value written. -/
theorem Tab.get_set_same [DecidableEq α] (d : Nat → α) (t : Tab α) (k : Nat) (v : α) :
    Tab.get d (Tab.set d t k v) k = v := by
  induction t with
  | nil => by_cases h : v = d k <;> simp [Tab.set, Tab.get, h]
  | cons e t ih =>
    obtain ⟨k', v'⟩ := e
    rcases Nat.lt_trichotomy k k' with h | h | h
    · by_cases hv : v = d k <;> simp [Tab.set, Tab.get, h, hv]
    · subst h
      by_cases hv : v = d k
      · simp [Tab.set, hv, Tab.get_above_of_le]
      · simp [Tab.set, hv, Tab.get]
    · have h1 : ¬ k < k' := by omega
      have h2 : k ≠ k' := by omega
      simp [Tab.set, Tab.get, h1, h2, ih]

/-- Writing one key leaves every other key as it was. -/
theorem Tab.get_set_other [DecidableEq α] (d : Nat → α) (t : Tab α) (k j : Nat) (v : α) (hj : j ≠ k) :
    Tab.get d (Tab.set d t k v) j = Tab.get d t j := by
  induction t with
  | nil =>
    by_cases h : v = d k
    · simp [Tab.set, h]
    · by_cases h' : j < k <;> simp [Tab.set, Tab.get, h, h', hj]
  | cons e t ih =>
    obtain ⟨k', v'⟩ := e
    rcases Nat.lt_trichotomy k k' with h | h | h
    · by_cases hv : v = d k
      · simp [Tab.set, h, hv]
      · rcases Nat.lt_trichotomy j k with g | g | g
        · have : j < k' := by omega
          simp [Tab.set, Tab.get, h, hv, g, this]
        · exact absurd g hj
        · have : ¬ j < k := by omega
          simp [Tab.set, Tab.get, h, hv, this, hj]
    · subst h
      by_cases hv : v = d k
      · rcases Nat.lt_trichotomy j k with g | g | g
        · simp [Tab.set, hv, Tab.get, g, Tab.get_above_of_le d t k j (by omega)]
        · exact absurd g hj
        · have : ¬ j < k := by omega
          simp [Tab.set, hv, Tab.get, this, hj, Tab.get_above_of_lt d t k j g]
      · simp [Tab.set, hv, Tab.get, hj]
    · have h1 : ¬ k < k' := by omega
      have h2 : k ≠ k' := by omega
      simp [Tab.set, Tab.get, h1, h2, ih]

theorem Tab.wfFrom_mono [DecidableEq α] (d : Nat → α) (t : Tab α) (b c : Nat) (h : c ≤ b)
    (hw : Tab.wfFrom d (some b) t = true) : Tab.wfFrom d (some c) t = true := by
  cases t with
  | nil => rfl
  | cons e t =>
    obtain ⟨k, v⟩ := e
    simp only [Tab.wfFrom, Bool.and_eq_true, decide_eq_true_eq] at hw ⊢
    exact ⟨⟨by omega, hw.1.2⟩, hw.2⟩

theorem Tab.wfFrom_none [DecidableEq α] (d : Nat → α) (t : Tab α) (b : Nat)
    (hw : Tab.wfFrom d (some b) t = true) : Tab.wfFrom d none t = true := by
  cases t with
  | nil => rfl
  | cons e t =>
    obtain ⟨k, v⟩ := e
    simp only [Tab.wfFrom, Bool.and_eq_true, decide_eq_true_eq] at hw ⊢
    exact ⟨⟨trivial, hw.1.2⟩, hw.2⟩

theorem Tab.above_wf [DecidableEq α] (d : Nat → α) (t : Tab α) (k : Nat)
    (hw : Tab.wfFrom d (some k) t = true) : Tab.above k t = t := by
  cases t with
  | nil => rfl
  | cons e t =>
    obtain ⟨k', v⟩ := e
    simp only [Tab.wfFrom, Bool.and_eq_true, decide_eq_true_eq] at hw
    have : ¬ k' ≤ k := by omega
    simp [Tab.above, this]

theorem Tab.set_wfFrom [DecidableEq α] (d : Nat → α) (t : Tab α) (b : Nat) (k : Nat) (v : α) (hb : b < k)
    (hw : Tab.wfFrom d (some b) t = true) : Tab.wfFrom d (some b) (Tab.set d t k v) = true := by
  induction t generalizing b with
  | nil => by_cases h : v = d k <;> simp [Tab.set, Tab.wfFrom, h, hb]
  | cons e t ih =>
    obtain ⟨k', v'⟩ := e
    have hw' := hw
    simp only [Tab.wfFrom, Bool.and_eq_true, decide_eq_true_eq] at hw
    rcases Nat.lt_trichotomy k k' with h | h | h
    · by_cases hv : v = d k
      · simpa [Tab.set, h, hv] using hw'
      · simp [Tab.set, Tab.wfFrom, h, hv, hb, hw.1.2, hw.2]
    · subst h
      by_cases hv : v = d k
      · simpa [Tab.set, hv, Tab.above_wf d t k hw.2] using Tab.wfFrom_mono d t k b (by omega) hw.2
      · simp [Tab.set, hv, Tab.wfFrom, hb, hw.2]
    · have h1 : ¬ k < k' := by omega
      have h2 : k ≠ k' := by omega
      simp [Tab.set, h1, h2, Tab.wfFrom, hw.1.1, hw.1.2, ih k' h hw.2]

/-- Writing keeps the canonical form. -/
theorem Tab.set_wf [DecidableEq α] (d : Nat → α) (t : Tab α) (k : Nat) (v : α)
    (hw : Tab.wf d t = true) : Tab.wf d (Tab.set d t k v) = true := by
  unfold Tab.wf at *
  cases t with
  | nil => by_cases h : v = d k <;> simp [Tab.set, Tab.wfFrom, h]
  | cons e t =>
    obtain ⟨k', v'⟩ := e
    have hw' := hw
    simp only [Tab.wfFrom, Bool.and_eq_true, decide_eq_true_eq, Bool.true_and] at hw
    rcases Nat.lt_trichotomy k k' with h | h | h
    · by_cases hv : v = d k
      · simpa [Tab.set, h, hv] using hw'
      · simp [Tab.set, Tab.wfFrom, h, hv, hw.1, hw.2]
    · subst h
      by_cases hv : v = d k
      · simpa [Tab.set, hv, Tab.above_wf d t k hw.2] using Tab.wfFrom_none d t k hw.2
      · simp [Tab.set, hv, Tab.wfFrom, hw.2]
    · have h1 : ¬ k < k' := by omega
      have h2 : k ≠ k' := by omega
      simp [Tab.set, h1, h2, Tab.wfFrom, hw.1, Tab.set_wfFrom d t k' k v h hw.2]

theorem Tab.drop_wfFrom [DecidableEq α] (d : Nat → α) (p : Nat → Bool) (t : Tab α) (b : Option Nat)
    (hw : Tab.wfFrom d b t = true) : Tab.wfFrom d b (Tab.drop p t) = true := by
  induction t generalizing b with
  | nil => rfl
  | cons e t ih =>
    obtain ⟨k, v⟩ := e
    simp only [Tab.wfFrom, Bool.and_eq_true] at hw
    cases hp : p k
    · have hd : Tab.drop p ((k, v) :: t) = (k, v) :: Tab.drop p t := by simp [Tab.drop, List.filter, hp]
      rw [hd]
      simp only [Tab.wfFrom, Bool.and_eq_true]
      exact ⟨hw.1, ih _ hw.2⟩
    · have hd : Tab.drop p ((k, v) :: t) = Tab.drop p t := by simp [Tab.drop, List.filter, hp]
      rw [hd]
      cases b with
      | none => exact ih _ (Tab.wfFrom_none d t k hw.2)
      | some b =>
        simp only [decide_eq_true_eq] at hw
        exact ih _ (Tab.wfFrom_mono d t k b (by omega) hw.2)

/-- Dropping keys keeps the canonical form. -/
theorem Tab.drop_wf [DecidableEq α] (d : Nat → α) (p : Nat → Bool) (t : Tab α)
    (hw : Tab.wf d t = true) : Tab.wf d (Tab.drop p t) = true := Tab.drop_wfFrom d p t none hw

end Sys2Proof.Machine
end

