-- ==== Sys2Proof/Laws/State.lean ====
section
/-! SUPPORT. The laws of the state's updates: what each named update changes reads as written, and every other field as before. -/

namespace Sys2Proof.Machine

/-! ### Register keys -/

theorem RF.ctorIdx_lt (F : RF) : F.ctorIdx < 512 := by cases F <;> decide

theorem RF.ctorIdx_inj {F G : RF} (h : F.ctorIdx = G.ctorIdx) : F = G := by
  have := congrArg RF.ofNat h
  rwa [RF.ofNat_ctorIdx, RF.ofNat_ctorIdx] at this

theorem regKey_inj {F G : RF} {i j : Nat} (h : regKey F i = regKey G j) : F = G ∧ i = j := by
  have hf := RF.ctorIdx_lt F
  have hg := RF.ctorIdx_lt G
  unfold regKey at h
  exact ⟨RF.ctorIdx_inj (by omega), by omega⟩

/-! ### Register fields -/

/-- A field just written reads as the value, cut to its width. -/
@[simp] theorem State.rf_put_same (s : State) (F : RF) (i v : Nat) : (s.put F i v).rf F i = v % 2 ^ F.spec.width :=
  Tab.get_set_same _ _ _ _

/-- A write of one field leaves every other field and instance as it was. -/
theorem State.rf_put_other (s : State) (F G : RF) (i j v : Nat) (h : F ≠ G ∨ i ≠ j) : (s.put F i v).rf G j = s.rf G j :=
  Tab.get_set_other _ _ _ _ _ (fun e => by
    obtain ⟨rfl, rfl⟩ := regKey_inj e
    rcases h with h | h <;> exact h rfl)

@[simp] theorem State.rf_put_field (s : State) (F G : RF) (i j v : Nat) (h : F ≠ G) : (s.put F i v).rf G j = s.rf G j :=
  s.rf_put_other F G i j v (Or.inl h)

theorem State.rf_put (s : State) (F G : RF) (i j v : Nat) :
    (s.put F i v).rf G j = if F = G ∧ i = j then v % 2 ^ F.spec.width else s.rf G j := by
  by_cases h : F = G ∧ i = j
  · obtain ⟨rfl, rfl⟩ := h; simp
  · rw [if_neg h]; exact s.rf_put_other F G i j v (by by_cases h1 : F = G <;> simp_all)

/-- A field that none of the writes names is left as it was. -/
theorem State.rf_puts_other (l : List (RF × Nat × Nat)) (s : State) (G : RF) (j : Nat) (h : ∀ e ∈ l, e.1 ≠ G ∨ e.2.1 ≠ j) :
    (s.puts l).rf G j = s.rf G j := by
  induction l generalizing s with
  | nil => rfl
  | cons e t ih =>
    rw [State.puts, ih _ (fun x hx => h x (List.mem_cons_of_mem _ hx))]
    exact s.rf_put_other _ _ _ _ _ (h e (List.mem_cons_self ..))

@[simp] theorem State.puts_nil (s : State) : s.puts [] = s := rfl
@[simp] theorem State.puts_cons (s : State) (F : RF) (i v : Nat) (t : List (RF × Nat × Nat)) :
    s.puts ((F, i, v) :: t) = (s.put F i v).puts t := rfl

/-- What the writes of several fields leave alone. -/
theorem State.puts_frame {α : Type} (g : State → α) (h : ∀ (s : State) F i v, g (s.put F i v) = g s) (s : State)
    (l : List (RF × Nat × Nat)) : g (s.puts l) = g s := by
  induction l generalizing s with
  | nil => rfl
  | cons e t ih => rw [State.puts, ih, h]

/-- The register table keeps its canonical form under every write of a field. -/
theorem State.put_regs_wf (s : State) (F : RF) (i v : Nat) (h : Tab.wf regDefault s.regs = true) :
    Tab.wf regDefault (s.put F i v).regs = true := Tab.set_wf _ _ _ _ h

/-! ### Cores, tiles, fields, Wardens -/

@[simp] theorem State.core_setCore_same (s : State) (c : Nat) (x : Core) : (s.setCore c x).core c = x := Tab.get_set_same _ _ _ _
theorem State.core_setCore_other (s : State) (c d : Nat) (x : Core) (h : d ≠ c) : (s.setCore c x).core d = s.core d :=
  Tab.get_set_other _ _ _ _ _ h
@[simp] theorem State.tile_setTile_same (s : State) (c : Nat) (x : Tile) : (s.setTile c x).tile c = x := Tab.get_set_same _ _ _ _
theorem State.tile_setTile_other (s : State) (c d : Nat) (x : Tile) (h : d ≠ c) : (s.setTile c x).tile d = s.tile d :=
  Tab.get_set_other _ _ _ _ _ h
@[simp] theorem State.field_setField_same (s : State) (c : Nat) (x : FieldSt) : (s.setField c x).field c = x := Tab.get_set_same _ _ _ _
theorem State.field_setField_other (s : State) (c d : Nat) (x : FieldSt) (h : d ≠ c) : (s.setField c x).field d = s.field d :=
  Tab.get_set_other _ _ _ _ _ h
@[simp] theorem State.warden_setWarden_same (s : State) (c : Nat) (x : Warden) : (s.setWarden c x).warden c = x :=
  Tab.get_set_same _ _ _ _
theorem State.warden_setWarden_other (s : State) (c d : Nat) (x : Warden) (h : d ≠ c) : (s.setWarden c x).warden d = s.warden d :=
  Tab.get_set_other _ _ _ _ _ h

/-! ### Every field under every update -/

@[simp] theorem State.put_pending (s : State) (F : RF) (i v : Nat) : (s.put F i v).pending = s.pending := rfl
@[simp] theorem State.put_freeCtr (s : State) (F : RF) (i v : Nat) : (s.put F i v).freeCtr = s.freeCtr := rfl
@[simp] theorem State.put_now (s : State) (F : RF) (i v : Nat) : (s.put F i v).now = s.now := rfl
@[simp] theorem State.put_wtc (s : State) (F : RF) (i v : Nat) : (s.put F i v).wtc = s.wtc := rfl
@[simp] theorem State.put_fuses (s : State) (F : RF) (i v : Nat) : (s.put F i v).fuses = s.fuses := rfl
@[simp] theorem State.put_feedId (s : State) (F : RF) (i v : Nat) : (s.put F i v).feedId = s.feedId := rfl
@[simp] theorem State.put_i3cSa (s : State) (F : RF) (i v : Nat) : (s.put F i v).i3cSa = s.i3cSa := rfl
@[simp] theorem State.put_boot (s : State) (F : RF) (i v : Nat) : (s.put F i v).boot = s.boot := rfl
@[simp] theorem State.put_doms (s : State) (F : RF) (i v : Nat) : (s.put F i v).doms = s.doms := rfl
@[simp] theorem State.put_fns (s : State) (F : RF) (i v : Nat) : (s.put F i v).fns = s.fns := rfl
@[simp] theorem State.put_events (s : State) (F : RF) (i v : Nat) : (s.put F i v).events = s.events := rfl
@[simp] theorem State.put_heldRecs (s : State) (F : RF) (i v : Nat) : (s.put F i v).heldRecs = s.heldRecs := rfl
@[simp] theorem State.put_evLog (s : State) (F : RF) (i v : Nat) : (s.put F i v).evLog = s.evLog := rfl
@[simp] theorem State.put_ledger (s : State) (F : RF) (i v : Nat) : (s.put F i v).ledger = s.ledger := rfl
@[simp] theorem State.put_hist (s : State) (F : RF) (i v : Nat) : (s.put F i v).hist = s.hist := rfl
@[simp] theorem State.put_host (s : State) (F : RF) (i v : Nat) : (s.put F i v).host = s.host := rfl
@[simp] theorem State.put_cores (s : State) (F : RF) (i v : Nat) : (s.put F i v).cores = s.cores := rfl
@[simp] theorem State.put_waits (s : State) (F : RF) (i v : Nat) : (s.put F i v).waits = s.waits := rfl
@[simp] theorem State.put_park (s : State) (F : RF) (i v : Nat) : (s.put F i v).park = s.park := rfl
@[simp] theorem State.put_launch (s : State) (F : RF) (i v : Nat) : (s.put F i v).launch = s.launch := rfl
@[simp] theorem State.put_molts (s : State) (F : RF) (i v : Nat) : (s.put F i v).molts = s.molts := rfl
@[simp] theorem State.put_recov (s : State) (F : RF) (i v : Nat) : (s.put F i v).recov = s.recov := rfl
@[simp] theorem State.put_clock (s : State) (F : RF) (i v : Nat) : (s.put F i v).clock = s.clock := rfl
@[simp] theorem State.put_cap (s : State) (F : RF) (i v : Nat) : (s.put F i v).cap = s.cap := rfl
@[simp] theorem State.put_tiles (s : State) (F : RF) (i v : Nat) : (s.put F i v).tiles = s.tiles := rfl
@[simp] theorem State.put_fields (s : State) (F : RF) (i v : Nat) : (s.put F i v).fields = s.fields := rfl
@[simp] theorem State.put_mapBuilt (s : State) (F : RF) (i v : Nat) : (s.put F i v).mapBuilt = s.mapBuilt := rfl
@[simp] theorem State.put_remap (s : State) (F : RF) (i v : Nat) : (s.put F i v).remap = s.remap := rfl
@[simp] theorem State.put_regrows (s : State) (F : RF) (i v : Nat) : (s.put F i v).regrows = s.regrows := rfl
@[simp] theorem State.put_epochFn (s : State) (F : RF) (i v : Nat) : (s.put F i v).epochFn = s.epochFn := rfl
@[simp] theorem State.put_sec (s : State) (F : RF) (i v : Nat) : (s.put F i v).sec = s.sec := rfl
@[simp] theorem State.put_st (s : State) (F : RF) (i v : Nat) : (s.put F i v).st = s.st := rfl
@[simp] theorem State.put_prog (s : State) (F : RF) (i v : Nat) : (s.put F i v).prog = s.prog := rfl
@[simp] theorem State.put_progNext (s : State) (F : RF) (i v : Nat) : (s.put F i v).progNext = s.progNext := rfl
@[simp] theorem State.put_episodes (s : State) (F : RF) (i v : Nat) : (s.put F i v).episodes = s.episodes := rfl
@[simp] theorem State.put_ending (s : State) (F : RF) (i v : Nat) : (s.put F i v).ending = s.ending := rfl
@[simp] theorem State.put_transfers (s : State) (F : RF) (i v : Nat) : (s.put F i v).transfers = s.transfers := rfl
@[simp] theorem State.put_rotors (s : State) (F : RF) (i v : Nat) : (s.put F i v).rotors = s.rotors := rfl
@[simp] theorem State.put_replayBuf (s : State) (F : RF) (i v : Nat) : (s.put F i v).replayBuf = s.replayBuf := rfl
@[simp] theorem State.put_poison (s : State) (F : RF) (i v : Nat) : (s.put F i v).poison = s.poison := rfl
@[simp] theorem State.put_wardens (s : State) (F : RF) (i v : Nat) : (s.put F i v).wardens = s.wardens := rfl
@[simp] theorem State.put_poisonAsked (s : State) (F : RF) (i v : Nat) : (s.put F i v).poisonAsked = s.poisonAsked := rfl
@[simp] theorem State.put_goWtc (s : State) (F : RF) (i v : Nat) : (s.put F i v).goWtc = s.goWtc := rfl
@[simp] theorem State.put_jobKey (s : State) (F : RF) (i v : Nat) : (s.put F i v).jobKey = s.jobKey := rfl
@[simp] theorem State.put_remapBad (s : State) (F : RF) (i v : Nat) : (s.put F i v).remapBad = s.remapBad := rfl
@[simp] theorem State.put_scrubs (s : State) (F : RF) (i v : Nat) : (s.put F i v).scrubs = s.scrubs := rfl
@[simp] theorem State.put_tables (s : State) (F : RF) (i v : Nat) : (s.put F i v).tables = s.tables := rfl
@[simp] theorem State.put_winTabs (s : State) (F : RF) (i v : Nat) : (s.put F i v).winTabs = s.winTabs := rfl
@[simp] theorem State.put_sealed (s : State) (F : RF) (i v : Nat) : (s.put F i v).sealed = s.sealed := rfl
@[simp] theorem State.put_sram (s : State) (F : RF) (i v : Nat) : (s.put F i v).sram = s.sram := rfl
@[simp] theorem State.put_clears (s : State) (F : RF) (i v : Nat) : (s.put F i v).clears = s.clears := rfl
@[simp] theorem State.put_redirect (s : State) (F : RF) (i v : Nat) : (s.put F i v).redirect = s.redirect := rfl
@[simp] theorem State.put_shut (s : State) (F : RF) (i v : Nat) : (s.put F i v).shut = s.shut := rfl
@[simp] theorem State.put_scrubNext (s : State) (F : RF) (i v : Nat) : (s.put F i v).scrubNext = s.scrubNext := rfl
@[simp] theorem State.put_hz (s : State) (F : RF) (i v : Nat) : (s.put F i v).hz = s.hz := rfl
@[simp] theorem State.put_ceCounts (s : State) (F : RF) (i v : Nat) : (s.put F i v).ceCounts = s.ceCounts := rfl
@[simp] theorem State.put_run (s : State) (F : RF) (i v : Nat) : (s.put F i v).run = s.run := rfl
@[simp] theorem State.put_wtcSyncAt (s : State) (F : RF) (i v : Nat) : (s.put F i v).wtcSyncAt = s.wtcSyncAt := rfl
@[simp] theorem State.put_wtcSlew (s : State) (F : RF) (i v : Nat) : (s.put F i v).wtcSlew = s.wtcSlew := rfl
@[simp] theorem State.put_mons (s : State) (F : RF) (i v : Nat) : (s.put F i v).mons = s.mons := rfl
@[simp] theorem State.put_monF (s : State) (F : RF) (i v : Nat) : (s.put F i v).monF = s.monF := rfl
@[simp] theorem State.put_mon (s : State) (F : RF) (i v : Nat) : (s.put F i v).mon = s.mon := rfl
@[simp] theorem State.put_anchors (s : State) (F : RF) (i v : Nat) : (s.put F i v).anchors = s.anchors := rfl
@[simp] theorem State.put_idents (s : State) (F : RF) (i v : Nat) : (s.put F i v).idents = s.idents := rfl
@[simp] theorem State.put_identDue (s : State) (F : RF) (i v : Nat) : (s.put F i v).identDue = s.identDue := rfl
@[simp] theorem State.put_shares (s : State) (F : RF) (i v : Nat) : (s.put F i v).shares = s.shares := rfl
@[simp] theorem State.put_fw (s : State) (F : RF) (i v : Nat) : (s.put F i v).fw = s.fw := rfl
@[simp] theorem State.put_tsnGo (s : State) (F : RF) (i v : Nat) : (s.put F i v).tsnGo = s.tsnGo := rfl
@[simp] theorem State.put_i3cAddr (s : State) (F : RF) (i v : Nat) : (s.put F i v).i3cAddr = s.i3cAddr := rfl
@[simp] theorem State.put_i3cLatch (s : State) (F : RF) (i v : Nat) : (s.put F i v).i3cLatch = s.i3cLatch := rfl
@[simp] theorem State.put_ks (s : State) (F : RF) (i v : Nat) : (s.put F i v).ks = s.ks := rfl
@[simp] theorem State.put_out (s : State) (F : RF) (i v : Nat) : (s.put F i v).out = s.out := rfl

@[simp] theorem State.setCore_pending (s : State) (c : Nat) (x : Core) : (s.setCore c x).pending = s.pending := rfl
@[simp] theorem State.setCore_freeCtr (s : State) (c : Nat) (x : Core) : (s.setCore c x).freeCtr = s.freeCtr := rfl
@[simp] theorem State.setCore_now (s : State) (c : Nat) (x : Core) : (s.setCore c x).now = s.now := rfl
@[simp] theorem State.setCore_wtc (s : State) (c : Nat) (x : Core) : (s.setCore c x).wtc = s.wtc := rfl
@[simp] theorem State.setCore_regs (s : State) (c : Nat) (x : Core) : (s.setCore c x).regs = s.regs := rfl
@[simp] theorem State.setCore_fuses (s : State) (c : Nat) (x : Core) : (s.setCore c x).fuses = s.fuses := rfl
@[simp] theorem State.setCore_feedId (s : State) (c : Nat) (x : Core) : (s.setCore c x).feedId = s.feedId := rfl
@[simp] theorem State.setCore_i3cSa (s : State) (c : Nat) (x : Core) : (s.setCore c x).i3cSa = s.i3cSa := rfl
@[simp] theorem State.setCore_boot (s : State) (c : Nat) (x : Core) : (s.setCore c x).boot = s.boot := rfl
@[simp] theorem State.setCore_doms (s : State) (c : Nat) (x : Core) : (s.setCore c x).doms = s.doms := rfl
@[simp] theorem State.setCore_fns (s : State) (c : Nat) (x : Core) : (s.setCore c x).fns = s.fns := rfl
@[simp] theorem State.setCore_events (s : State) (c : Nat) (x : Core) : (s.setCore c x).events = s.events := rfl
@[simp] theorem State.setCore_heldRecs (s : State) (c : Nat) (x : Core) : (s.setCore c x).heldRecs = s.heldRecs := rfl
@[simp] theorem State.setCore_evLog (s : State) (c : Nat) (x : Core) : (s.setCore c x).evLog = s.evLog := rfl
@[simp] theorem State.setCore_ledger (s : State) (c : Nat) (x : Core) : (s.setCore c x).ledger = s.ledger := rfl
@[simp] theorem State.setCore_hist (s : State) (c : Nat) (x : Core) : (s.setCore c x).hist = s.hist := rfl
@[simp] theorem State.setCore_host (s : State) (c : Nat) (x : Core) : (s.setCore c x).host = s.host := rfl
@[simp] theorem State.setCore_waits (s : State) (c : Nat) (x : Core) : (s.setCore c x).waits = s.waits := rfl
@[simp] theorem State.setCore_park (s : State) (c : Nat) (x : Core) : (s.setCore c x).park = s.park := rfl
@[simp] theorem State.setCore_launch (s : State) (c : Nat) (x : Core) : (s.setCore c x).launch = s.launch := rfl
@[simp] theorem State.setCore_molts (s : State) (c : Nat) (x : Core) : (s.setCore c x).molts = s.molts := rfl
@[simp] theorem State.setCore_recov (s : State) (c : Nat) (x : Core) : (s.setCore c x).recov = s.recov := rfl
@[simp] theorem State.setCore_clock (s : State) (c : Nat) (x : Core) : (s.setCore c x).clock = s.clock := rfl
@[simp] theorem State.setCore_cap (s : State) (c : Nat) (x : Core) : (s.setCore c x).cap = s.cap := rfl
@[simp] theorem State.setCore_tiles (s : State) (c : Nat) (x : Core) : (s.setCore c x).tiles = s.tiles := rfl
@[simp] theorem State.setCore_fields (s : State) (c : Nat) (x : Core) : (s.setCore c x).fields = s.fields := rfl
@[simp] theorem State.setCore_mapBuilt (s : State) (c : Nat) (x : Core) : (s.setCore c x).mapBuilt = s.mapBuilt := rfl
@[simp] theorem State.setCore_remap (s : State) (c : Nat) (x : Core) : (s.setCore c x).remap = s.remap := rfl
@[simp] theorem State.setCore_regrows (s : State) (c : Nat) (x : Core) : (s.setCore c x).regrows = s.regrows := rfl
@[simp] theorem State.setCore_epochFn (s : State) (c : Nat) (x : Core) : (s.setCore c x).epochFn = s.epochFn := rfl
@[simp] theorem State.setCore_sec (s : State) (c : Nat) (x : Core) : (s.setCore c x).sec = s.sec := rfl
@[simp] theorem State.setCore_st (s : State) (c : Nat) (x : Core) : (s.setCore c x).st = s.st := rfl
@[simp] theorem State.setCore_prog (s : State) (c : Nat) (x : Core) : (s.setCore c x).prog = s.prog := rfl
@[simp] theorem State.setCore_progNext (s : State) (c : Nat) (x : Core) : (s.setCore c x).progNext = s.progNext := rfl
@[simp] theorem State.setCore_episodes (s : State) (c : Nat) (x : Core) : (s.setCore c x).episodes = s.episodes := rfl
@[simp] theorem State.setCore_ending (s : State) (c : Nat) (x : Core) : (s.setCore c x).ending = s.ending := rfl
@[simp] theorem State.setCore_transfers (s : State) (c : Nat) (x : Core) : (s.setCore c x).transfers = s.transfers := rfl
@[simp] theorem State.setCore_rotors (s : State) (c : Nat) (x : Core) : (s.setCore c x).rotors = s.rotors := rfl
@[simp] theorem State.setCore_replayBuf (s : State) (c : Nat) (x : Core) : (s.setCore c x).replayBuf = s.replayBuf := rfl
@[simp] theorem State.setCore_poison (s : State) (c : Nat) (x : Core) : (s.setCore c x).poison = s.poison := rfl
@[simp] theorem State.setCore_wardens (s : State) (c : Nat) (x : Core) : (s.setCore c x).wardens = s.wardens := rfl
@[simp] theorem State.setCore_poisonAsked (s : State) (c : Nat) (x : Core) : (s.setCore c x).poisonAsked = s.poisonAsked := rfl
@[simp] theorem State.setCore_goWtc (s : State) (c : Nat) (x : Core) : (s.setCore c x).goWtc = s.goWtc := rfl
@[simp] theorem State.setCore_jobKey (s : State) (c : Nat) (x : Core) : (s.setCore c x).jobKey = s.jobKey := rfl
@[simp] theorem State.setCore_remapBad (s : State) (c : Nat) (x : Core) : (s.setCore c x).remapBad = s.remapBad := rfl
@[simp] theorem State.setCore_scrubs (s : State) (c : Nat) (x : Core) : (s.setCore c x).scrubs = s.scrubs := rfl
@[simp] theorem State.setCore_tables (s : State) (c : Nat) (x : Core) : (s.setCore c x).tables = s.tables := rfl
@[simp] theorem State.setCore_winTabs (s : State) (c : Nat) (x : Core) : (s.setCore c x).winTabs = s.winTabs := rfl
@[simp] theorem State.setCore_sealed (s : State) (c : Nat) (x : Core) : (s.setCore c x).sealed = s.sealed := rfl
@[simp] theorem State.setCore_sram (s : State) (c : Nat) (x : Core) : (s.setCore c x).sram = s.sram := rfl
@[simp] theorem State.setCore_clears (s : State) (c : Nat) (x : Core) : (s.setCore c x).clears = s.clears := rfl
@[simp] theorem State.setCore_redirect (s : State) (c : Nat) (x : Core) : (s.setCore c x).redirect = s.redirect := rfl
@[simp] theorem State.setCore_shut (s : State) (c : Nat) (x : Core) : (s.setCore c x).shut = s.shut := rfl
@[simp] theorem State.setCore_scrubNext (s : State) (c : Nat) (x : Core) : (s.setCore c x).scrubNext = s.scrubNext := rfl
@[simp] theorem State.setCore_hz (s : State) (c : Nat) (x : Core) : (s.setCore c x).hz = s.hz := rfl
@[simp] theorem State.setCore_ceCounts (s : State) (c : Nat) (x : Core) : (s.setCore c x).ceCounts = s.ceCounts := rfl
@[simp] theorem State.setCore_run (s : State) (c : Nat) (x : Core) : (s.setCore c x).run = s.run := rfl
@[simp] theorem State.setCore_wtcSyncAt (s : State) (c : Nat) (x : Core) : (s.setCore c x).wtcSyncAt = s.wtcSyncAt := rfl
@[simp] theorem State.setCore_wtcSlew (s : State) (c : Nat) (x : Core) : (s.setCore c x).wtcSlew = s.wtcSlew := rfl
@[simp] theorem State.setCore_mons (s : State) (c : Nat) (x : Core) : (s.setCore c x).mons = s.mons := rfl
@[simp] theorem State.setCore_monF (s : State) (c : Nat) (x : Core) : (s.setCore c x).monF = s.monF := rfl
@[simp] theorem State.setCore_mon (s : State) (c : Nat) (x : Core) : (s.setCore c x).mon = s.mon := rfl
@[simp] theorem State.setCore_anchors (s : State) (c : Nat) (x : Core) : (s.setCore c x).anchors = s.anchors := rfl
@[simp] theorem State.setCore_idents (s : State) (c : Nat) (x : Core) : (s.setCore c x).idents = s.idents := rfl
@[simp] theorem State.setCore_identDue (s : State) (c : Nat) (x : Core) : (s.setCore c x).identDue = s.identDue := rfl
@[simp] theorem State.setCore_shares (s : State) (c : Nat) (x : Core) : (s.setCore c x).shares = s.shares := rfl
@[simp] theorem State.setCore_fw (s : State) (c : Nat) (x : Core) : (s.setCore c x).fw = s.fw := rfl
@[simp] theorem State.setCore_tsnGo (s : State) (c : Nat) (x : Core) : (s.setCore c x).tsnGo = s.tsnGo := rfl
@[simp] theorem State.setCore_i3cAddr (s : State) (c : Nat) (x : Core) : (s.setCore c x).i3cAddr = s.i3cAddr := rfl
@[simp] theorem State.setCore_i3cLatch (s : State) (c : Nat) (x : Core) : (s.setCore c x).i3cLatch = s.i3cLatch := rfl
@[simp] theorem State.setCore_ks (s : State) (c : Nat) (x : Core) : (s.setCore c x).ks = s.ks := rfl
@[simp] theorem State.setCore_out (s : State) (c : Nat) (x : Core) : (s.setCore c x).out = s.out := rfl
@[simp] theorem State.setCore_rf (s : State) (c : Nat) (x : Core) (F : RF) (i : Nat) : (s.setCore c x).rf F i = s.rf F i := rfl

@[simp] theorem State.setTile_pending (s : State) (c : Nat) (x : Tile) : (s.setTile c x).pending = s.pending := rfl
@[simp] theorem State.setTile_freeCtr (s : State) (c : Nat) (x : Tile) : (s.setTile c x).freeCtr = s.freeCtr := rfl
@[simp] theorem State.setTile_now (s : State) (c : Nat) (x : Tile) : (s.setTile c x).now = s.now := rfl
@[simp] theorem State.setTile_wtc (s : State) (c : Nat) (x : Tile) : (s.setTile c x).wtc = s.wtc := rfl
@[simp] theorem State.setTile_regs (s : State) (c : Nat) (x : Tile) : (s.setTile c x).regs = s.regs := rfl
@[simp] theorem State.setTile_fuses (s : State) (c : Nat) (x : Tile) : (s.setTile c x).fuses = s.fuses := rfl
@[simp] theorem State.setTile_feedId (s : State) (c : Nat) (x : Tile) : (s.setTile c x).feedId = s.feedId := rfl
@[simp] theorem State.setTile_i3cSa (s : State) (c : Nat) (x : Tile) : (s.setTile c x).i3cSa = s.i3cSa := rfl
@[simp] theorem State.setTile_boot (s : State) (c : Nat) (x : Tile) : (s.setTile c x).boot = s.boot := rfl
@[simp] theorem State.setTile_doms (s : State) (c : Nat) (x : Tile) : (s.setTile c x).doms = s.doms := rfl
@[simp] theorem State.setTile_fns (s : State) (c : Nat) (x : Tile) : (s.setTile c x).fns = s.fns := rfl
@[simp] theorem State.setTile_events (s : State) (c : Nat) (x : Tile) : (s.setTile c x).events = s.events := rfl
@[simp] theorem State.setTile_heldRecs (s : State) (c : Nat) (x : Tile) : (s.setTile c x).heldRecs = s.heldRecs := rfl
@[simp] theorem State.setTile_evLog (s : State) (c : Nat) (x : Tile) : (s.setTile c x).evLog = s.evLog := rfl
@[simp] theorem State.setTile_ledger (s : State) (c : Nat) (x : Tile) : (s.setTile c x).ledger = s.ledger := rfl
@[simp] theorem State.setTile_hist (s : State) (c : Nat) (x : Tile) : (s.setTile c x).hist = s.hist := rfl
@[simp] theorem State.setTile_host (s : State) (c : Nat) (x : Tile) : (s.setTile c x).host = s.host := rfl
@[simp] theorem State.setTile_cores (s : State) (c : Nat) (x : Tile) : (s.setTile c x).cores = s.cores := rfl
@[simp] theorem State.setTile_waits (s : State) (c : Nat) (x : Tile) : (s.setTile c x).waits = s.waits := rfl
@[simp] theorem State.setTile_park (s : State) (c : Nat) (x : Tile) : (s.setTile c x).park = s.park := rfl
@[simp] theorem State.setTile_launch (s : State) (c : Nat) (x : Tile) : (s.setTile c x).launch = s.launch := rfl
@[simp] theorem State.setTile_molts (s : State) (c : Nat) (x : Tile) : (s.setTile c x).molts = s.molts := rfl
@[simp] theorem State.setTile_recov (s : State) (c : Nat) (x : Tile) : (s.setTile c x).recov = s.recov := rfl
@[simp] theorem State.setTile_clock (s : State) (c : Nat) (x : Tile) : (s.setTile c x).clock = s.clock := rfl
@[simp] theorem State.setTile_cap (s : State) (c : Nat) (x : Tile) : (s.setTile c x).cap = s.cap := rfl
@[simp] theorem State.setTile_fields (s : State) (c : Nat) (x : Tile) : (s.setTile c x).fields = s.fields := rfl
@[simp] theorem State.setTile_mapBuilt (s : State) (c : Nat) (x : Tile) : (s.setTile c x).mapBuilt = s.mapBuilt := rfl
@[simp] theorem State.setTile_remap (s : State) (c : Nat) (x : Tile) : (s.setTile c x).remap = s.remap := rfl
@[simp] theorem State.setTile_regrows (s : State) (c : Nat) (x : Tile) : (s.setTile c x).regrows = s.regrows := rfl
@[simp] theorem State.setTile_epochFn (s : State) (c : Nat) (x : Tile) : (s.setTile c x).epochFn = s.epochFn := rfl
@[simp] theorem State.setTile_sec (s : State) (c : Nat) (x : Tile) : (s.setTile c x).sec = s.sec := rfl
@[simp] theorem State.setTile_st (s : State) (c : Nat) (x : Tile) : (s.setTile c x).st = s.st := rfl
@[simp] theorem State.setTile_prog (s : State) (c : Nat) (x : Tile) : (s.setTile c x).prog = s.prog := rfl
@[simp] theorem State.setTile_progNext (s : State) (c : Nat) (x : Tile) : (s.setTile c x).progNext = s.progNext := rfl
@[simp] theorem State.setTile_episodes (s : State) (c : Nat) (x : Tile) : (s.setTile c x).episodes = s.episodes := rfl
@[simp] theorem State.setTile_ending (s : State) (c : Nat) (x : Tile) : (s.setTile c x).ending = s.ending := rfl
@[simp] theorem State.setTile_transfers (s : State) (c : Nat) (x : Tile) : (s.setTile c x).transfers = s.transfers := rfl
@[simp] theorem State.setTile_rotors (s : State) (c : Nat) (x : Tile) : (s.setTile c x).rotors = s.rotors := rfl
@[simp] theorem State.setTile_replayBuf (s : State) (c : Nat) (x : Tile) : (s.setTile c x).replayBuf = s.replayBuf := rfl
@[simp] theorem State.setTile_poison (s : State) (c : Nat) (x : Tile) : (s.setTile c x).poison = s.poison := rfl
@[simp] theorem State.setTile_wardens (s : State) (c : Nat) (x : Tile) : (s.setTile c x).wardens = s.wardens := rfl
@[simp] theorem State.setTile_poisonAsked (s : State) (c : Nat) (x : Tile) : (s.setTile c x).poisonAsked = s.poisonAsked := rfl
@[simp] theorem State.setTile_goWtc (s : State) (c : Nat) (x : Tile) : (s.setTile c x).goWtc = s.goWtc := rfl
@[simp] theorem State.setTile_jobKey (s : State) (c : Nat) (x : Tile) : (s.setTile c x).jobKey = s.jobKey := rfl
@[simp] theorem State.setTile_remapBad (s : State) (c : Nat) (x : Tile) : (s.setTile c x).remapBad = s.remapBad := rfl
@[simp] theorem State.setTile_scrubs (s : State) (c : Nat) (x : Tile) : (s.setTile c x).scrubs = s.scrubs := rfl
@[simp] theorem State.setTile_tables (s : State) (c : Nat) (x : Tile) : (s.setTile c x).tables = s.tables := rfl
@[simp] theorem State.setTile_winTabs (s : State) (c : Nat) (x : Tile) : (s.setTile c x).winTabs = s.winTabs := rfl
@[simp] theorem State.setTile_sealed (s : State) (c : Nat) (x : Tile) : (s.setTile c x).sealed = s.sealed := rfl
@[simp] theorem State.setTile_sram (s : State) (c : Nat) (x : Tile) : (s.setTile c x).sram = s.sram := rfl
@[simp] theorem State.setTile_clears (s : State) (c : Nat) (x : Tile) : (s.setTile c x).clears = s.clears := rfl
@[simp] theorem State.setTile_redirect (s : State) (c : Nat) (x : Tile) : (s.setTile c x).redirect = s.redirect := rfl
@[simp] theorem State.setTile_shut (s : State) (c : Nat) (x : Tile) : (s.setTile c x).shut = s.shut := rfl
@[simp] theorem State.setTile_scrubNext (s : State) (c : Nat) (x : Tile) : (s.setTile c x).scrubNext = s.scrubNext := rfl
@[simp] theorem State.setTile_hz (s : State) (c : Nat) (x : Tile) : (s.setTile c x).hz = s.hz := rfl
@[simp] theorem State.setTile_ceCounts (s : State) (c : Nat) (x : Tile) : (s.setTile c x).ceCounts = s.ceCounts := rfl
@[simp] theorem State.setTile_run (s : State) (c : Nat) (x : Tile) : (s.setTile c x).run = s.run := rfl
@[simp] theorem State.setTile_wtcSyncAt (s : State) (c : Nat) (x : Tile) : (s.setTile c x).wtcSyncAt = s.wtcSyncAt := rfl
@[simp] theorem State.setTile_wtcSlew (s : State) (c : Nat) (x : Tile) : (s.setTile c x).wtcSlew = s.wtcSlew := rfl
@[simp] theorem State.setTile_mons (s : State) (c : Nat) (x : Tile) : (s.setTile c x).mons = s.mons := rfl
@[simp] theorem State.setTile_monF (s : State) (c : Nat) (x : Tile) : (s.setTile c x).monF = s.monF := rfl
@[simp] theorem State.setTile_mon (s : State) (c : Nat) (x : Tile) : (s.setTile c x).mon = s.mon := rfl
@[simp] theorem State.setTile_anchors (s : State) (c : Nat) (x : Tile) : (s.setTile c x).anchors = s.anchors := rfl
@[simp] theorem State.setTile_idents (s : State) (c : Nat) (x : Tile) : (s.setTile c x).idents = s.idents := rfl
@[simp] theorem State.setTile_identDue (s : State) (c : Nat) (x : Tile) : (s.setTile c x).identDue = s.identDue := rfl
@[simp] theorem State.setTile_shares (s : State) (c : Nat) (x : Tile) : (s.setTile c x).shares = s.shares := rfl
@[simp] theorem State.setTile_fw (s : State) (c : Nat) (x : Tile) : (s.setTile c x).fw = s.fw := rfl
@[simp] theorem State.setTile_tsnGo (s : State) (c : Nat) (x : Tile) : (s.setTile c x).tsnGo = s.tsnGo := rfl
@[simp] theorem State.setTile_i3cAddr (s : State) (c : Nat) (x : Tile) : (s.setTile c x).i3cAddr = s.i3cAddr := rfl
@[simp] theorem State.setTile_i3cLatch (s : State) (c : Nat) (x : Tile) : (s.setTile c x).i3cLatch = s.i3cLatch := rfl
@[simp] theorem State.setTile_ks (s : State) (c : Nat) (x : Tile) : (s.setTile c x).ks = s.ks := rfl
@[simp] theorem State.setTile_out (s : State) (c : Nat) (x : Tile) : (s.setTile c x).out = s.out := rfl
@[simp] theorem State.setTile_rf (s : State) (c : Nat) (x : Tile) (F : RF) (i : Nat) : (s.setTile c x).rf F i = s.rf F i := rfl

@[simp] theorem State.setField_pending (s : State) (c : Nat) (x : FieldSt) : (s.setField c x).pending = s.pending := rfl
@[simp] theorem State.setField_freeCtr (s : State) (c : Nat) (x : FieldSt) : (s.setField c x).freeCtr = s.freeCtr := rfl
@[simp] theorem State.setField_now (s : State) (c : Nat) (x : FieldSt) : (s.setField c x).now = s.now := rfl
@[simp] theorem State.setField_wtc (s : State) (c : Nat) (x : FieldSt) : (s.setField c x).wtc = s.wtc := rfl
@[simp] theorem State.setField_regs (s : State) (c : Nat) (x : FieldSt) : (s.setField c x).regs = s.regs := rfl
@[simp] theorem State.setField_fuses (s : State) (c : Nat) (x : FieldSt) : (s.setField c x).fuses = s.fuses := rfl
@[simp] theorem State.setField_feedId (s : State) (c : Nat) (x : FieldSt) : (s.setField c x).feedId = s.feedId := rfl
@[simp] theorem State.setField_i3cSa (s : State) (c : Nat) (x : FieldSt) : (s.setField c x).i3cSa = s.i3cSa := rfl
@[simp] theorem State.setField_boot (s : State) (c : Nat) (x : FieldSt) : (s.setField c x).boot = s.boot := rfl
@[simp] theorem State.setField_doms (s : State) (c : Nat) (x : FieldSt) : (s.setField c x).doms = s.doms := rfl
@[simp] theorem State.setField_fns (s : State) (c : Nat) (x : FieldSt) : (s.setField c x).fns = s.fns := rfl
@[simp] theorem State.setField_events (s : State) (c : Nat) (x : FieldSt) : (s.setField c x).events = s.events := rfl
@[simp] theorem State.setField_heldRecs (s : State) (c : Nat) (x : FieldSt) : (s.setField c x).heldRecs = s.heldRecs := rfl
@[simp] theorem State.setField_evLog (s : State) (c : Nat) (x : FieldSt) : (s.setField c x).evLog = s.evLog := rfl
@[simp] theorem State.setField_ledger (s : State) (c : Nat) (x : FieldSt) : (s.setField c x).ledger = s.ledger := rfl
@[simp] theorem State.setField_hist (s : State) (c : Nat) (x : FieldSt) : (s.setField c x).hist = s.hist := rfl
@[simp] theorem State.setField_host (s : State) (c : Nat) (x : FieldSt) : (s.setField c x).host = s.host := rfl
@[simp] theorem State.setField_cores (s : State) (c : Nat) (x : FieldSt) : (s.setField c x).cores = s.cores := rfl
@[simp] theorem State.setField_waits (s : State) (c : Nat) (x : FieldSt) : (s.setField c x).waits = s.waits := rfl
@[simp] theorem State.setField_park (s : State) (c : Nat) (x : FieldSt) : (s.setField c x).park = s.park := rfl
@[simp] theorem State.setField_launch (s : State) (c : Nat) (x : FieldSt) : (s.setField c x).launch = s.launch := rfl
@[simp] theorem State.setField_molts (s : State) (c : Nat) (x : FieldSt) : (s.setField c x).molts = s.molts := rfl
@[simp] theorem State.setField_recov (s : State) (c : Nat) (x : FieldSt) : (s.setField c x).recov = s.recov := rfl
@[simp] theorem State.setField_clock (s : State) (c : Nat) (x : FieldSt) : (s.setField c x).clock = s.clock := rfl
@[simp] theorem State.setField_cap (s : State) (c : Nat) (x : FieldSt) : (s.setField c x).cap = s.cap := rfl
@[simp] theorem State.setField_tiles (s : State) (c : Nat) (x : FieldSt) : (s.setField c x).tiles = s.tiles := rfl
@[simp] theorem State.setField_mapBuilt (s : State) (c : Nat) (x : FieldSt) : (s.setField c x).mapBuilt = s.mapBuilt := rfl
@[simp] theorem State.setField_remap (s : State) (c : Nat) (x : FieldSt) : (s.setField c x).remap = s.remap := rfl
@[simp] theorem State.setField_regrows (s : State) (c : Nat) (x : FieldSt) : (s.setField c x).regrows = s.regrows := rfl
@[simp] theorem State.setField_epochFn (s : State) (c : Nat) (x : FieldSt) : (s.setField c x).epochFn = s.epochFn := rfl
@[simp] theorem State.setField_sec (s : State) (c : Nat) (x : FieldSt) : (s.setField c x).sec = s.sec := rfl
@[simp] theorem State.setField_st (s : State) (c : Nat) (x : FieldSt) : (s.setField c x).st = s.st := rfl
@[simp] theorem State.setField_prog (s : State) (c : Nat) (x : FieldSt) : (s.setField c x).prog = s.prog := rfl
@[simp] theorem State.setField_progNext (s : State) (c : Nat) (x : FieldSt) : (s.setField c x).progNext = s.progNext := rfl
@[simp] theorem State.setField_episodes (s : State) (c : Nat) (x : FieldSt) : (s.setField c x).episodes = s.episodes := rfl
@[simp] theorem State.setField_ending (s : State) (c : Nat) (x : FieldSt) : (s.setField c x).ending = s.ending := rfl
@[simp] theorem State.setField_transfers (s : State) (c : Nat) (x : FieldSt) : (s.setField c x).transfers = s.transfers := rfl
@[simp] theorem State.setField_rotors (s : State) (c : Nat) (x : FieldSt) : (s.setField c x).rotors = s.rotors := rfl
@[simp] theorem State.setField_replayBuf (s : State) (c : Nat) (x : FieldSt) : (s.setField c x).replayBuf = s.replayBuf := rfl
@[simp] theorem State.setField_poison (s : State) (c : Nat) (x : FieldSt) : (s.setField c x).poison = s.poison := rfl
@[simp] theorem State.setField_wardens (s : State) (c : Nat) (x : FieldSt) : (s.setField c x).wardens = s.wardens := rfl
@[simp] theorem State.setField_poisonAsked (s : State) (c : Nat) (x : FieldSt) : (s.setField c x).poisonAsked = s.poisonAsked := rfl
@[simp] theorem State.setField_goWtc (s : State) (c : Nat) (x : FieldSt) : (s.setField c x).goWtc = s.goWtc := rfl
@[simp] theorem State.setField_jobKey (s : State) (c : Nat) (x : FieldSt) : (s.setField c x).jobKey = s.jobKey := rfl
@[simp] theorem State.setField_remapBad (s : State) (c : Nat) (x : FieldSt) : (s.setField c x).remapBad = s.remapBad := rfl
@[simp] theorem State.setField_scrubs (s : State) (c : Nat) (x : FieldSt) : (s.setField c x).scrubs = s.scrubs := rfl
@[simp] theorem State.setField_tables (s : State) (c : Nat) (x : FieldSt) : (s.setField c x).tables = s.tables := rfl
@[simp] theorem State.setField_winTabs (s : State) (c : Nat) (x : FieldSt) : (s.setField c x).winTabs = s.winTabs := rfl
@[simp] theorem State.setField_sealed (s : State) (c : Nat) (x : FieldSt) : (s.setField c x).sealed = s.sealed := rfl
@[simp] theorem State.setField_sram (s : State) (c : Nat) (x : FieldSt) : (s.setField c x).sram = s.sram := rfl
@[simp] theorem State.setField_clears (s : State) (c : Nat) (x : FieldSt) : (s.setField c x).clears = s.clears := rfl
@[simp] theorem State.setField_redirect (s : State) (c : Nat) (x : FieldSt) : (s.setField c x).redirect = s.redirect := rfl
@[simp] theorem State.setField_shut (s : State) (c : Nat) (x : FieldSt) : (s.setField c x).shut = s.shut := rfl
@[simp] theorem State.setField_scrubNext (s : State) (c : Nat) (x : FieldSt) : (s.setField c x).scrubNext = s.scrubNext := rfl
@[simp] theorem State.setField_hz (s : State) (c : Nat) (x : FieldSt) : (s.setField c x).hz = s.hz := rfl
@[simp] theorem State.setField_ceCounts (s : State) (c : Nat) (x : FieldSt) : (s.setField c x).ceCounts = s.ceCounts := rfl
@[simp] theorem State.setField_run (s : State) (c : Nat) (x : FieldSt) : (s.setField c x).run = s.run := rfl
@[simp] theorem State.setField_wtcSyncAt (s : State) (c : Nat) (x : FieldSt) : (s.setField c x).wtcSyncAt = s.wtcSyncAt := rfl
@[simp] theorem State.setField_wtcSlew (s : State) (c : Nat) (x : FieldSt) : (s.setField c x).wtcSlew = s.wtcSlew := rfl
@[simp] theorem State.setField_mons (s : State) (c : Nat) (x : FieldSt) : (s.setField c x).mons = s.mons := rfl
@[simp] theorem State.setField_monF (s : State) (c : Nat) (x : FieldSt) : (s.setField c x).monF = s.monF := rfl
@[simp] theorem State.setField_mon (s : State) (c : Nat) (x : FieldSt) : (s.setField c x).mon = s.mon := rfl
@[simp] theorem State.setField_anchors (s : State) (c : Nat) (x : FieldSt) : (s.setField c x).anchors = s.anchors := rfl
@[simp] theorem State.setField_idents (s : State) (c : Nat) (x : FieldSt) : (s.setField c x).idents = s.idents := rfl
@[simp] theorem State.setField_identDue (s : State) (c : Nat) (x : FieldSt) : (s.setField c x).identDue = s.identDue := rfl
@[simp] theorem State.setField_shares (s : State) (c : Nat) (x : FieldSt) : (s.setField c x).shares = s.shares := rfl
@[simp] theorem State.setField_fw (s : State) (c : Nat) (x : FieldSt) : (s.setField c x).fw = s.fw := rfl
@[simp] theorem State.setField_tsnGo (s : State) (c : Nat) (x : FieldSt) : (s.setField c x).tsnGo = s.tsnGo := rfl
@[simp] theorem State.setField_i3cAddr (s : State) (c : Nat) (x : FieldSt) : (s.setField c x).i3cAddr = s.i3cAddr := rfl
@[simp] theorem State.setField_i3cLatch (s : State) (c : Nat) (x : FieldSt) : (s.setField c x).i3cLatch = s.i3cLatch := rfl
@[simp] theorem State.setField_ks (s : State) (c : Nat) (x : FieldSt) : (s.setField c x).ks = s.ks := rfl
@[simp] theorem State.setField_out (s : State) (c : Nat) (x : FieldSt) : (s.setField c x).out = s.out := rfl
@[simp] theorem State.setField_rf (s : State) (c : Nat) (x : FieldSt) (F : RF) (i : Nat) : (s.setField c x).rf F i = s.rf F i := rfl

@[simp] theorem State.setWarden_pending (s : State) (c : Nat) (x : Warden) : (s.setWarden c x).pending = s.pending := rfl
@[simp] theorem State.setWarden_freeCtr (s : State) (c : Nat) (x : Warden) : (s.setWarden c x).freeCtr = s.freeCtr := rfl
@[simp] theorem State.setWarden_now (s : State) (c : Nat) (x : Warden) : (s.setWarden c x).now = s.now := rfl
@[simp] theorem State.setWarden_wtc (s : State) (c : Nat) (x : Warden) : (s.setWarden c x).wtc = s.wtc := rfl
@[simp] theorem State.setWarden_regs (s : State) (c : Nat) (x : Warden) : (s.setWarden c x).regs = s.regs := rfl
@[simp] theorem State.setWarden_fuses (s : State) (c : Nat) (x : Warden) : (s.setWarden c x).fuses = s.fuses := rfl
@[simp] theorem State.setWarden_feedId (s : State) (c : Nat) (x : Warden) : (s.setWarden c x).feedId = s.feedId := rfl
@[simp] theorem State.setWarden_i3cSa (s : State) (c : Nat) (x : Warden) : (s.setWarden c x).i3cSa = s.i3cSa := rfl
@[simp] theorem State.setWarden_boot (s : State) (c : Nat) (x : Warden) : (s.setWarden c x).boot = s.boot := rfl
@[simp] theorem State.setWarden_doms (s : State) (c : Nat) (x : Warden) : (s.setWarden c x).doms = s.doms := rfl
@[simp] theorem State.setWarden_fns (s : State) (c : Nat) (x : Warden) : (s.setWarden c x).fns = s.fns := rfl
@[simp] theorem State.setWarden_events (s : State) (c : Nat) (x : Warden) : (s.setWarden c x).events = s.events := rfl
@[simp] theorem State.setWarden_heldRecs (s : State) (c : Nat) (x : Warden) : (s.setWarden c x).heldRecs = s.heldRecs := rfl
@[simp] theorem State.setWarden_evLog (s : State) (c : Nat) (x : Warden) : (s.setWarden c x).evLog = s.evLog := rfl
@[simp] theorem State.setWarden_ledger (s : State) (c : Nat) (x : Warden) : (s.setWarden c x).ledger = s.ledger := rfl
@[simp] theorem State.setWarden_hist (s : State) (c : Nat) (x : Warden) : (s.setWarden c x).hist = s.hist := rfl
@[simp] theorem State.setWarden_host (s : State) (c : Nat) (x : Warden) : (s.setWarden c x).host = s.host := rfl
@[simp] theorem State.setWarden_cores (s : State) (c : Nat) (x : Warden) : (s.setWarden c x).cores = s.cores := rfl
@[simp] theorem State.setWarden_waits (s : State) (c : Nat) (x : Warden) : (s.setWarden c x).waits = s.waits := rfl
@[simp] theorem State.setWarden_park (s : State) (c : Nat) (x : Warden) : (s.setWarden c x).park = s.park := rfl
@[simp] theorem State.setWarden_launch (s : State) (c : Nat) (x : Warden) : (s.setWarden c x).launch = s.launch := rfl
@[simp] theorem State.setWarden_molts (s : State) (c : Nat) (x : Warden) : (s.setWarden c x).molts = s.molts := rfl
@[simp] theorem State.setWarden_recov (s : State) (c : Nat) (x : Warden) : (s.setWarden c x).recov = s.recov := rfl
@[simp] theorem State.setWarden_clock (s : State) (c : Nat) (x : Warden) : (s.setWarden c x).clock = s.clock := rfl
@[simp] theorem State.setWarden_cap (s : State) (c : Nat) (x : Warden) : (s.setWarden c x).cap = s.cap := rfl
@[simp] theorem State.setWarden_tiles (s : State) (c : Nat) (x : Warden) : (s.setWarden c x).tiles = s.tiles := rfl
@[simp] theorem State.setWarden_fields (s : State) (c : Nat) (x : Warden) : (s.setWarden c x).fields = s.fields := rfl
@[simp] theorem State.setWarden_mapBuilt (s : State) (c : Nat) (x : Warden) : (s.setWarden c x).mapBuilt = s.mapBuilt := rfl
@[simp] theorem State.setWarden_remap (s : State) (c : Nat) (x : Warden) : (s.setWarden c x).remap = s.remap := rfl
@[simp] theorem State.setWarden_regrows (s : State) (c : Nat) (x : Warden) : (s.setWarden c x).regrows = s.regrows := rfl
@[simp] theorem State.setWarden_epochFn (s : State) (c : Nat) (x : Warden) : (s.setWarden c x).epochFn = s.epochFn := rfl
@[simp] theorem State.setWarden_sec (s : State) (c : Nat) (x : Warden) : (s.setWarden c x).sec = s.sec := rfl
@[simp] theorem State.setWarden_st (s : State) (c : Nat) (x : Warden) : (s.setWarden c x).st = s.st := rfl
@[simp] theorem State.setWarden_prog (s : State) (c : Nat) (x : Warden) : (s.setWarden c x).prog = s.prog := rfl
@[simp] theorem State.setWarden_progNext (s : State) (c : Nat) (x : Warden) : (s.setWarden c x).progNext = s.progNext := rfl
@[simp] theorem State.setWarden_episodes (s : State) (c : Nat) (x : Warden) : (s.setWarden c x).episodes = s.episodes := rfl
@[simp] theorem State.setWarden_ending (s : State) (c : Nat) (x : Warden) : (s.setWarden c x).ending = s.ending := rfl
@[simp] theorem State.setWarden_transfers (s : State) (c : Nat) (x : Warden) : (s.setWarden c x).transfers = s.transfers := rfl
@[simp] theorem State.setWarden_rotors (s : State) (c : Nat) (x : Warden) : (s.setWarden c x).rotors = s.rotors := rfl
@[simp] theorem State.setWarden_replayBuf (s : State) (c : Nat) (x : Warden) : (s.setWarden c x).replayBuf = s.replayBuf := rfl
@[simp] theorem State.setWarden_poison (s : State) (c : Nat) (x : Warden) : (s.setWarden c x).poison = s.poison := rfl
@[simp] theorem State.setWarden_poisonAsked (s : State) (c : Nat) (x : Warden) : (s.setWarden c x).poisonAsked = s.poisonAsked := rfl
@[simp] theorem State.setWarden_goWtc (s : State) (c : Nat) (x : Warden) : (s.setWarden c x).goWtc = s.goWtc := rfl
@[simp] theorem State.setWarden_jobKey (s : State) (c : Nat) (x : Warden) : (s.setWarden c x).jobKey = s.jobKey := rfl
@[simp] theorem State.setWarden_remapBad (s : State) (c : Nat) (x : Warden) : (s.setWarden c x).remapBad = s.remapBad := rfl
@[simp] theorem State.setWarden_scrubs (s : State) (c : Nat) (x : Warden) : (s.setWarden c x).scrubs = s.scrubs := rfl
@[simp] theorem State.setWarden_tables (s : State) (c : Nat) (x : Warden) : (s.setWarden c x).tables = s.tables := rfl
@[simp] theorem State.setWarden_winTabs (s : State) (c : Nat) (x : Warden) : (s.setWarden c x).winTabs = s.winTabs := rfl
@[simp] theorem State.setWarden_sealed (s : State) (c : Nat) (x : Warden) : (s.setWarden c x).sealed = s.sealed := rfl
@[simp] theorem State.setWarden_sram (s : State) (c : Nat) (x : Warden) : (s.setWarden c x).sram = s.sram := rfl
@[simp] theorem State.setWarden_clears (s : State) (c : Nat) (x : Warden) : (s.setWarden c x).clears = s.clears := rfl
@[simp] theorem State.setWarden_redirect (s : State) (c : Nat) (x : Warden) : (s.setWarden c x).redirect = s.redirect := rfl
@[simp] theorem State.setWarden_shut (s : State) (c : Nat) (x : Warden) : (s.setWarden c x).shut = s.shut := rfl
@[simp] theorem State.setWarden_scrubNext (s : State) (c : Nat) (x : Warden) : (s.setWarden c x).scrubNext = s.scrubNext := rfl
@[simp] theorem State.setWarden_hz (s : State) (c : Nat) (x : Warden) : (s.setWarden c x).hz = s.hz := rfl
@[simp] theorem State.setWarden_ceCounts (s : State) (c : Nat) (x : Warden) : (s.setWarden c x).ceCounts = s.ceCounts := rfl
@[simp] theorem State.setWarden_run (s : State) (c : Nat) (x : Warden) : (s.setWarden c x).run = s.run := rfl
@[simp] theorem State.setWarden_wtcSyncAt (s : State) (c : Nat) (x : Warden) : (s.setWarden c x).wtcSyncAt = s.wtcSyncAt := rfl
@[simp] theorem State.setWarden_wtcSlew (s : State) (c : Nat) (x : Warden) : (s.setWarden c x).wtcSlew = s.wtcSlew := rfl
@[simp] theorem State.setWarden_mons (s : State) (c : Nat) (x : Warden) : (s.setWarden c x).mons = s.mons := rfl
@[simp] theorem State.setWarden_monF (s : State) (c : Nat) (x : Warden) : (s.setWarden c x).monF = s.monF := rfl
@[simp] theorem State.setWarden_mon (s : State) (c : Nat) (x : Warden) : (s.setWarden c x).mon = s.mon := rfl
@[simp] theorem State.setWarden_anchors (s : State) (c : Nat) (x : Warden) : (s.setWarden c x).anchors = s.anchors := rfl
@[simp] theorem State.setWarden_idents (s : State) (c : Nat) (x : Warden) : (s.setWarden c x).idents = s.idents := rfl
@[simp] theorem State.setWarden_identDue (s : State) (c : Nat) (x : Warden) : (s.setWarden c x).identDue = s.identDue := rfl
@[simp] theorem State.setWarden_shares (s : State) (c : Nat) (x : Warden) : (s.setWarden c x).shares = s.shares := rfl
@[simp] theorem State.setWarden_fw (s : State) (c : Nat) (x : Warden) : (s.setWarden c x).fw = s.fw := rfl
@[simp] theorem State.setWarden_tsnGo (s : State) (c : Nat) (x : Warden) : (s.setWarden c x).tsnGo = s.tsnGo := rfl
@[simp] theorem State.setWarden_i3cAddr (s : State) (c : Nat) (x : Warden) : (s.setWarden c x).i3cAddr = s.i3cAddr := rfl
@[simp] theorem State.setWarden_i3cLatch (s : State) (c : Nat) (x : Warden) : (s.setWarden c x).i3cLatch = s.i3cLatch := rfl
@[simp] theorem State.setWarden_ks (s : State) (c : Nat) (x : Warden) : (s.setWarden c x).ks = s.ks := rfl
@[simp] theorem State.setWarden_out (s : State) (c : Nat) (x : Warden) : (s.setWarden c x).out = s.out := rfl
@[simp] theorem State.setWarden_rf (s : State) (c : Nat) (x : Warden) (F : RF) (i : Nat) : (s.setWarden c x).rf F i = s.rf F i := rfl

@[simp] theorem State.setFn_pending (s : State) (c : Func) (x : FnState) : (s.setFn c x).pending = s.pending := rfl
@[simp] theorem State.setFn_freeCtr (s : State) (c : Func) (x : FnState) : (s.setFn c x).freeCtr = s.freeCtr := rfl
@[simp] theorem State.setFn_now (s : State) (c : Func) (x : FnState) : (s.setFn c x).now = s.now := rfl
@[simp] theorem State.setFn_wtc (s : State) (c : Func) (x : FnState) : (s.setFn c x).wtc = s.wtc := rfl
@[simp] theorem State.setFn_regs (s : State) (c : Func) (x : FnState) : (s.setFn c x).regs = s.regs := rfl
@[simp] theorem State.setFn_fuses (s : State) (c : Func) (x : FnState) : (s.setFn c x).fuses = s.fuses := rfl
@[simp] theorem State.setFn_feedId (s : State) (c : Func) (x : FnState) : (s.setFn c x).feedId = s.feedId := rfl
@[simp] theorem State.setFn_i3cSa (s : State) (c : Func) (x : FnState) : (s.setFn c x).i3cSa = s.i3cSa := rfl
@[simp] theorem State.setFn_boot (s : State) (c : Func) (x : FnState) : (s.setFn c x).boot = s.boot := rfl
@[simp] theorem State.setFn_doms (s : State) (c : Func) (x : FnState) : (s.setFn c x).doms = s.doms := rfl
@[simp] theorem State.setFn_events (s : State) (c : Func) (x : FnState) : (s.setFn c x).events = s.events := rfl
@[simp] theorem State.setFn_heldRecs (s : State) (c : Func) (x : FnState) : (s.setFn c x).heldRecs = s.heldRecs := rfl
@[simp] theorem State.setFn_evLog (s : State) (c : Func) (x : FnState) : (s.setFn c x).evLog = s.evLog := rfl
@[simp] theorem State.setFn_ledger (s : State) (c : Func) (x : FnState) : (s.setFn c x).ledger = s.ledger := rfl
@[simp] theorem State.setFn_hist (s : State) (c : Func) (x : FnState) : (s.setFn c x).hist = s.hist := rfl
@[simp] theorem State.setFn_host (s : State) (c : Func) (x : FnState) : (s.setFn c x).host = s.host := rfl
@[simp] theorem State.setFn_cores (s : State) (c : Func) (x : FnState) : (s.setFn c x).cores = s.cores := rfl
@[simp] theorem State.setFn_waits (s : State) (c : Func) (x : FnState) : (s.setFn c x).waits = s.waits := rfl
@[simp] theorem State.setFn_park (s : State) (c : Func) (x : FnState) : (s.setFn c x).park = s.park := rfl
@[simp] theorem State.setFn_launch (s : State) (c : Func) (x : FnState) : (s.setFn c x).launch = s.launch := rfl
@[simp] theorem State.setFn_molts (s : State) (c : Func) (x : FnState) : (s.setFn c x).molts = s.molts := rfl
@[simp] theorem State.setFn_recov (s : State) (c : Func) (x : FnState) : (s.setFn c x).recov = s.recov := rfl
@[simp] theorem State.setFn_clock (s : State) (c : Func) (x : FnState) : (s.setFn c x).clock = s.clock := rfl
@[simp] theorem State.setFn_cap (s : State) (c : Func) (x : FnState) : (s.setFn c x).cap = s.cap := rfl
@[simp] theorem State.setFn_tiles (s : State) (c : Func) (x : FnState) : (s.setFn c x).tiles = s.tiles := rfl
@[simp] theorem State.setFn_fields (s : State) (c : Func) (x : FnState) : (s.setFn c x).fields = s.fields := rfl
@[simp] theorem State.setFn_mapBuilt (s : State) (c : Func) (x : FnState) : (s.setFn c x).mapBuilt = s.mapBuilt := rfl
@[simp] theorem State.setFn_remap (s : State) (c : Func) (x : FnState) : (s.setFn c x).remap = s.remap := rfl
@[simp] theorem State.setFn_regrows (s : State) (c : Func) (x : FnState) : (s.setFn c x).regrows = s.regrows := rfl
@[simp] theorem State.setFn_epochFn (s : State) (c : Func) (x : FnState) : (s.setFn c x).epochFn = s.epochFn := rfl
@[simp] theorem State.setFn_sec (s : State) (c : Func) (x : FnState) : (s.setFn c x).sec = s.sec := rfl
@[simp] theorem State.setFn_st (s : State) (c : Func) (x : FnState) : (s.setFn c x).st = s.st := rfl
@[simp] theorem State.setFn_prog (s : State) (c : Func) (x : FnState) : (s.setFn c x).prog = s.prog := rfl
@[simp] theorem State.setFn_progNext (s : State) (c : Func) (x : FnState) : (s.setFn c x).progNext = s.progNext := rfl
@[simp] theorem State.setFn_episodes (s : State) (c : Func) (x : FnState) : (s.setFn c x).episodes = s.episodes := rfl
@[simp] theorem State.setFn_ending (s : State) (c : Func) (x : FnState) : (s.setFn c x).ending = s.ending := rfl
@[simp] theorem State.setFn_transfers (s : State) (c : Func) (x : FnState) : (s.setFn c x).transfers = s.transfers := rfl
@[simp] theorem State.setFn_rotors (s : State) (c : Func) (x : FnState) : (s.setFn c x).rotors = s.rotors := rfl
@[simp] theorem State.setFn_replayBuf (s : State) (c : Func) (x : FnState) : (s.setFn c x).replayBuf = s.replayBuf := rfl
@[simp] theorem State.setFn_poison (s : State) (c : Func) (x : FnState) : (s.setFn c x).poison = s.poison := rfl
@[simp] theorem State.setFn_wardens (s : State) (c : Func) (x : FnState) : (s.setFn c x).wardens = s.wardens := rfl
@[simp] theorem State.setFn_poisonAsked (s : State) (c : Func) (x : FnState) : (s.setFn c x).poisonAsked = s.poisonAsked := rfl
@[simp] theorem State.setFn_goWtc (s : State) (c : Func) (x : FnState) : (s.setFn c x).goWtc = s.goWtc := rfl
@[simp] theorem State.setFn_jobKey (s : State) (c : Func) (x : FnState) : (s.setFn c x).jobKey = s.jobKey := rfl
@[simp] theorem State.setFn_remapBad (s : State) (c : Func) (x : FnState) : (s.setFn c x).remapBad = s.remapBad := rfl
@[simp] theorem State.setFn_scrubs (s : State) (c : Func) (x : FnState) : (s.setFn c x).scrubs = s.scrubs := rfl
@[simp] theorem State.setFn_tables (s : State) (c : Func) (x : FnState) : (s.setFn c x).tables = s.tables := rfl
@[simp] theorem State.setFn_winTabs (s : State) (c : Func) (x : FnState) : (s.setFn c x).winTabs = s.winTabs := rfl
@[simp] theorem State.setFn_sealed (s : State) (c : Func) (x : FnState) : (s.setFn c x).sealed = s.sealed := rfl
@[simp] theorem State.setFn_sram (s : State) (c : Func) (x : FnState) : (s.setFn c x).sram = s.sram := rfl
@[simp] theorem State.setFn_clears (s : State) (c : Func) (x : FnState) : (s.setFn c x).clears = s.clears := rfl
@[simp] theorem State.setFn_redirect (s : State) (c : Func) (x : FnState) : (s.setFn c x).redirect = s.redirect := rfl
@[simp] theorem State.setFn_shut (s : State) (c : Func) (x : FnState) : (s.setFn c x).shut = s.shut := rfl
@[simp] theorem State.setFn_scrubNext (s : State) (c : Func) (x : FnState) : (s.setFn c x).scrubNext = s.scrubNext := rfl
@[simp] theorem State.setFn_hz (s : State) (c : Func) (x : FnState) : (s.setFn c x).hz = s.hz := rfl
@[simp] theorem State.setFn_ceCounts (s : State) (c : Func) (x : FnState) : (s.setFn c x).ceCounts = s.ceCounts := rfl
@[simp] theorem State.setFn_run (s : State) (c : Func) (x : FnState) : (s.setFn c x).run = s.run := rfl
@[simp] theorem State.setFn_wtcSyncAt (s : State) (c : Func) (x : FnState) : (s.setFn c x).wtcSyncAt = s.wtcSyncAt := rfl
@[simp] theorem State.setFn_wtcSlew (s : State) (c : Func) (x : FnState) : (s.setFn c x).wtcSlew = s.wtcSlew := rfl
@[simp] theorem State.setFn_mons (s : State) (c : Func) (x : FnState) : (s.setFn c x).mons = s.mons := rfl
@[simp] theorem State.setFn_monF (s : State) (c : Func) (x : FnState) : (s.setFn c x).monF = s.monF := rfl
@[simp] theorem State.setFn_mon (s : State) (c : Func) (x : FnState) : (s.setFn c x).mon = s.mon := rfl
@[simp] theorem State.setFn_anchors (s : State) (c : Func) (x : FnState) : (s.setFn c x).anchors = s.anchors := rfl
@[simp] theorem State.setFn_idents (s : State) (c : Func) (x : FnState) : (s.setFn c x).idents = s.idents := rfl
@[simp] theorem State.setFn_identDue (s : State) (c : Func) (x : FnState) : (s.setFn c x).identDue = s.identDue := rfl
@[simp] theorem State.setFn_shares (s : State) (c : Func) (x : FnState) : (s.setFn c x).shares = s.shares := rfl
@[simp] theorem State.setFn_fw (s : State) (c : Func) (x : FnState) : (s.setFn c x).fw = s.fw := rfl
@[simp] theorem State.setFn_tsnGo (s : State) (c : Func) (x : FnState) : (s.setFn c x).tsnGo = s.tsnGo := rfl
@[simp] theorem State.setFn_i3cAddr (s : State) (c : Func) (x : FnState) : (s.setFn c x).i3cAddr = s.i3cAddr := rfl
@[simp] theorem State.setFn_i3cLatch (s : State) (c : Func) (x : FnState) : (s.setFn c x).i3cLatch = s.i3cLatch := rfl
@[simp] theorem State.setFn_ks (s : State) (c : Func) (x : FnState) : (s.setFn c x).ks = s.ks := rfl
@[simp] theorem State.setFn_out (s : State) (c : Func) (x : FnState) : (s.setFn c x).out = s.out := rfl
@[simp] theorem State.setFn_rf (s : State) (c : Func) (x : FnState) (F : RF) (i : Nat) : (s.setFn c x).rf F i = s.rf F i := rfl

@[simp] theorem State.setDomInfo_pending (s : State) (c : Domain) (x : Dom) : (s.setDomInfo c x).pending = s.pending := rfl
@[simp] theorem State.setDomInfo_freeCtr (s : State) (c : Domain) (x : Dom) : (s.setDomInfo c x).freeCtr = s.freeCtr := rfl
@[simp] theorem State.setDomInfo_now (s : State) (c : Domain) (x : Dom) : (s.setDomInfo c x).now = s.now := rfl
@[simp] theorem State.setDomInfo_wtc (s : State) (c : Domain) (x : Dom) : (s.setDomInfo c x).wtc = s.wtc := rfl
@[simp] theorem State.setDomInfo_regs (s : State) (c : Domain) (x : Dom) : (s.setDomInfo c x).regs = s.regs := rfl
@[simp] theorem State.setDomInfo_fuses (s : State) (c : Domain) (x : Dom) : (s.setDomInfo c x).fuses = s.fuses := rfl
@[simp] theorem State.setDomInfo_feedId (s : State) (c : Domain) (x : Dom) : (s.setDomInfo c x).feedId = s.feedId := rfl
@[simp] theorem State.setDomInfo_i3cSa (s : State) (c : Domain) (x : Dom) : (s.setDomInfo c x).i3cSa = s.i3cSa := rfl
@[simp] theorem State.setDomInfo_boot (s : State) (c : Domain) (x : Dom) : (s.setDomInfo c x).boot = s.boot := rfl
@[simp] theorem State.setDomInfo_fns (s : State) (c : Domain) (x : Dom) : (s.setDomInfo c x).fns = s.fns := rfl
@[simp] theorem State.setDomInfo_events (s : State) (c : Domain) (x : Dom) : (s.setDomInfo c x).events = s.events := rfl
@[simp] theorem State.setDomInfo_heldRecs (s : State) (c : Domain) (x : Dom) : (s.setDomInfo c x).heldRecs = s.heldRecs := rfl
@[simp] theorem State.setDomInfo_evLog (s : State) (c : Domain) (x : Dom) : (s.setDomInfo c x).evLog = s.evLog := rfl
@[simp] theorem State.setDomInfo_ledger (s : State) (c : Domain) (x : Dom) : (s.setDomInfo c x).ledger = s.ledger := rfl
@[simp] theorem State.setDomInfo_hist (s : State) (c : Domain) (x : Dom) : (s.setDomInfo c x).hist = s.hist := rfl
@[simp] theorem State.setDomInfo_host (s : State) (c : Domain) (x : Dom) : (s.setDomInfo c x).host = s.host := rfl
@[simp] theorem State.setDomInfo_cores (s : State) (c : Domain) (x : Dom) : (s.setDomInfo c x).cores = s.cores := rfl
@[simp] theorem State.setDomInfo_waits (s : State) (c : Domain) (x : Dom) : (s.setDomInfo c x).waits = s.waits := rfl
@[simp] theorem State.setDomInfo_park (s : State) (c : Domain) (x : Dom) : (s.setDomInfo c x).park = s.park := rfl
@[simp] theorem State.setDomInfo_launch (s : State) (c : Domain) (x : Dom) : (s.setDomInfo c x).launch = s.launch := rfl
@[simp] theorem State.setDomInfo_molts (s : State) (c : Domain) (x : Dom) : (s.setDomInfo c x).molts = s.molts := rfl
@[simp] theorem State.setDomInfo_recov (s : State) (c : Domain) (x : Dom) : (s.setDomInfo c x).recov = s.recov := rfl
@[simp] theorem State.setDomInfo_clock (s : State) (c : Domain) (x : Dom) : (s.setDomInfo c x).clock = s.clock := rfl
@[simp] theorem State.setDomInfo_cap (s : State) (c : Domain) (x : Dom) : (s.setDomInfo c x).cap = s.cap := rfl
@[simp] theorem State.setDomInfo_tiles (s : State) (c : Domain) (x : Dom) : (s.setDomInfo c x).tiles = s.tiles := rfl
@[simp] theorem State.setDomInfo_fields (s : State) (c : Domain) (x : Dom) : (s.setDomInfo c x).fields = s.fields := rfl
@[simp] theorem State.setDomInfo_mapBuilt (s : State) (c : Domain) (x : Dom) : (s.setDomInfo c x).mapBuilt = s.mapBuilt := rfl
@[simp] theorem State.setDomInfo_remap (s : State) (c : Domain) (x : Dom) : (s.setDomInfo c x).remap = s.remap := rfl
@[simp] theorem State.setDomInfo_regrows (s : State) (c : Domain) (x : Dom) : (s.setDomInfo c x).regrows = s.regrows := rfl
@[simp] theorem State.setDomInfo_epochFn (s : State) (c : Domain) (x : Dom) : (s.setDomInfo c x).epochFn = s.epochFn := rfl
@[simp] theorem State.setDomInfo_sec (s : State) (c : Domain) (x : Dom) : (s.setDomInfo c x).sec = s.sec := rfl
@[simp] theorem State.setDomInfo_st (s : State) (c : Domain) (x : Dom) : (s.setDomInfo c x).st = s.st := rfl
@[simp] theorem State.setDomInfo_prog (s : State) (c : Domain) (x : Dom) : (s.setDomInfo c x).prog = s.prog := rfl
@[simp] theorem State.setDomInfo_progNext (s : State) (c : Domain) (x : Dom) : (s.setDomInfo c x).progNext = s.progNext := rfl
@[simp] theorem State.setDomInfo_episodes (s : State) (c : Domain) (x : Dom) : (s.setDomInfo c x).episodes = s.episodes := rfl
@[simp] theorem State.setDomInfo_ending (s : State) (c : Domain) (x : Dom) : (s.setDomInfo c x).ending = s.ending := rfl
@[simp] theorem State.setDomInfo_transfers (s : State) (c : Domain) (x : Dom) : (s.setDomInfo c x).transfers = s.transfers := rfl
@[simp] theorem State.setDomInfo_rotors (s : State) (c : Domain) (x : Dom) : (s.setDomInfo c x).rotors = s.rotors := rfl
@[simp] theorem State.setDomInfo_replayBuf (s : State) (c : Domain) (x : Dom) : (s.setDomInfo c x).replayBuf = s.replayBuf := rfl
@[simp] theorem State.setDomInfo_poison (s : State) (c : Domain) (x : Dom) : (s.setDomInfo c x).poison = s.poison := rfl
@[simp] theorem State.setDomInfo_wardens (s : State) (c : Domain) (x : Dom) : (s.setDomInfo c x).wardens = s.wardens := rfl
@[simp] theorem State.setDomInfo_poisonAsked (s : State) (c : Domain) (x : Dom) : (s.setDomInfo c x).poisonAsked = s.poisonAsked := rfl
@[simp] theorem State.setDomInfo_goWtc (s : State) (c : Domain) (x : Dom) : (s.setDomInfo c x).goWtc = s.goWtc := rfl
@[simp] theorem State.setDomInfo_jobKey (s : State) (c : Domain) (x : Dom) : (s.setDomInfo c x).jobKey = s.jobKey := rfl
@[simp] theorem State.setDomInfo_remapBad (s : State) (c : Domain) (x : Dom) : (s.setDomInfo c x).remapBad = s.remapBad := rfl
@[simp] theorem State.setDomInfo_scrubs (s : State) (c : Domain) (x : Dom) : (s.setDomInfo c x).scrubs = s.scrubs := rfl
@[simp] theorem State.setDomInfo_tables (s : State) (c : Domain) (x : Dom) : (s.setDomInfo c x).tables = s.tables := rfl
@[simp] theorem State.setDomInfo_winTabs (s : State) (c : Domain) (x : Dom) : (s.setDomInfo c x).winTabs = s.winTabs := rfl
@[simp] theorem State.setDomInfo_sealed (s : State) (c : Domain) (x : Dom) : (s.setDomInfo c x).sealed = s.sealed := rfl
@[simp] theorem State.setDomInfo_sram (s : State) (c : Domain) (x : Dom) : (s.setDomInfo c x).sram = s.sram := rfl
@[simp] theorem State.setDomInfo_clears (s : State) (c : Domain) (x : Dom) : (s.setDomInfo c x).clears = s.clears := rfl
@[simp] theorem State.setDomInfo_redirect (s : State) (c : Domain) (x : Dom) : (s.setDomInfo c x).redirect = s.redirect := rfl
@[simp] theorem State.setDomInfo_shut (s : State) (c : Domain) (x : Dom) : (s.setDomInfo c x).shut = s.shut := rfl
@[simp] theorem State.setDomInfo_scrubNext (s : State) (c : Domain) (x : Dom) : (s.setDomInfo c x).scrubNext = s.scrubNext := rfl
@[simp] theorem State.setDomInfo_hz (s : State) (c : Domain) (x : Dom) : (s.setDomInfo c x).hz = s.hz := rfl
@[simp] theorem State.setDomInfo_ceCounts (s : State) (c : Domain) (x : Dom) : (s.setDomInfo c x).ceCounts = s.ceCounts := rfl
@[simp] theorem State.setDomInfo_run (s : State) (c : Domain) (x : Dom) : (s.setDomInfo c x).run = s.run := rfl
@[simp] theorem State.setDomInfo_wtcSyncAt (s : State) (c : Domain) (x : Dom) : (s.setDomInfo c x).wtcSyncAt = s.wtcSyncAt := rfl
@[simp] theorem State.setDomInfo_wtcSlew (s : State) (c : Domain) (x : Dom) : (s.setDomInfo c x).wtcSlew = s.wtcSlew := rfl
@[simp] theorem State.setDomInfo_mons (s : State) (c : Domain) (x : Dom) : (s.setDomInfo c x).mons = s.mons := rfl
@[simp] theorem State.setDomInfo_monF (s : State) (c : Domain) (x : Dom) : (s.setDomInfo c x).monF = s.monF := rfl
@[simp] theorem State.setDomInfo_mon (s : State) (c : Domain) (x : Dom) : (s.setDomInfo c x).mon = s.mon := rfl
@[simp] theorem State.setDomInfo_anchors (s : State) (c : Domain) (x : Dom) : (s.setDomInfo c x).anchors = s.anchors := rfl
@[simp] theorem State.setDomInfo_idents (s : State) (c : Domain) (x : Dom) : (s.setDomInfo c x).idents = s.idents := rfl
@[simp] theorem State.setDomInfo_identDue (s : State) (c : Domain) (x : Dom) : (s.setDomInfo c x).identDue = s.identDue := rfl
@[simp] theorem State.setDomInfo_shares (s : State) (c : Domain) (x : Dom) : (s.setDomInfo c x).shares = s.shares := rfl
@[simp] theorem State.setDomInfo_fw (s : State) (c : Domain) (x : Dom) : (s.setDomInfo c x).fw = s.fw := rfl
@[simp] theorem State.setDomInfo_tsnGo (s : State) (c : Domain) (x : Dom) : (s.setDomInfo c x).tsnGo = s.tsnGo := rfl
@[simp] theorem State.setDomInfo_i3cAddr (s : State) (c : Domain) (x : Dom) : (s.setDomInfo c x).i3cAddr = s.i3cAddr := rfl
@[simp] theorem State.setDomInfo_i3cLatch (s : State) (c : Domain) (x : Dom) : (s.setDomInfo c x).i3cLatch = s.i3cLatch := rfl
@[simp] theorem State.setDomInfo_ks (s : State) (c : Domain) (x : Dom) : (s.setDomInfo c x).ks = s.ks := rfl
@[simp] theorem State.setDomInfo_out (s : State) (c : Domain) (x : Dom) : (s.setDomInfo c x).out = s.out := rfl
@[simp] theorem State.setDomInfo_rf (s : State) (c : Domain) (x : Dom) (F : RF) (i : Nat) : (s.setDomInfo c x).rf F i = s.rf F i := rfl

@[simp] theorem State.free_pending (s : State) : s.free.2.pending = s.pending := rfl
@[simp] theorem State.free_now (s : State) : s.free.2.now = s.now := rfl
@[simp] theorem State.free_wtc (s : State) : s.free.2.wtc = s.wtc := rfl
@[simp] theorem State.free_regs (s : State) : s.free.2.regs = s.regs := rfl
@[simp] theorem State.free_fuses (s : State) : s.free.2.fuses = s.fuses := rfl
@[simp] theorem State.free_feedId (s : State) : s.free.2.feedId = s.feedId := rfl
@[simp] theorem State.free_i3cSa (s : State) : s.free.2.i3cSa = s.i3cSa := rfl
@[simp] theorem State.free_boot (s : State) : s.free.2.boot = s.boot := rfl
@[simp] theorem State.free_doms (s : State) : s.free.2.doms = s.doms := rfl
@[simp] theorem State.free_fns (s : State) : s.free.2.fns = s.fns := rfl
@[simp] theorem State.free_events (s : State) : s.free.2.events = s.events := rfl
@[simp] theorem State.free_heldRecs (s : State) : s.free.2.heldRecs = s.heldRecs := rfl
@[simp] theorem State.free_evLog (s : State) : s.free.2.evLog = s.evLog := rfl
@[simp] theorem State.free_ledger (s : State) : s.free.2.ledger = s.ledger := rfl
@[simp] theorem State.free_hist (s : State) : s.free.2.hist = s.hist := rfl
@[simp] theorem State.free_host (s : State) : s.free.2.host = s.host := rfl
@[simp] theorem State.free_cores (s : State) : s.free.2.cores = s.cores := rfl
@[simp] theorem State.free_waits (s : State) : s.free.2.waits = s.waits := rfl
@[simp] theorem State.free_park (s : State) : s.free.2.park = s.park := rfl
@[simp] theorem State.free_launch (s : State) : s.free.2.launch = s.launch := rfl
@[simp] theorem State.free_molts (s : State) : s.free.2.molts = s.molts := rfl
@[simp] theorem State.free_recov (s : State) : s.free.2.recov = s.recov := rfl
@[simp] theorem State.free_clock (s : State) : s.free.2.clock = s.clock := rfl
@[simp] theorem State.free_cap (s : State) : s.free.2.cap = s.cap := rfl
@[simp] theorem State.free_tiles (s : State) : s.free.2.tiles = s.tiles := rfl
@[simp] theorem State.free_fields (s : State) : s.free.2.fields = s.fields := rfl
@[simp] theorem State.free_mapBuilt (s : State) : s.free.2.mapBuilt = s.mapBuilt := rfl
@[simp] theorem State.free_remap (s : State) : s.free.2.remap = s.remap := rfl
@[simp] theorem State.free_regrows (s : State) : s.free.2.regrows = s.regrows := rfl
@[simp] theorem State.free_epochFn (s : State) : s.free.2.epochFn = s.epochFn := rfl
@[simp] theorem State.free_sec (s : State) : s.free.2.sec = s.sec := rfl
@[simp] theorem State.free_st (s : State) : s.free.2.st = s.st := rfl
@[simp] theorem State.free_prog (s : State) : s.free.2.prog = s.prog := rfl
@[simp] theorem State.free_progNext (s : State) : s.free.2.progNext = s.progNext := rfl
@[simp] theorem State.free_episodes (s : State) : s.free.2.episodes = s.episodes := rfl
@[simp] theorem State.free_ending (s : State) : s.free.2.ending = s.ending := rfl
@[simp] theorem State.free_transfers (s : State) : s.free.2.transfers = s.transfers := rfl
@[simp] theorem State.free_rotors (s : State) : s.free.2.rotors = s.rotors := rfl
@[simp] theorem State.free_replayBuf (s : State) : s.free.2.replayBuf = s.replayBuf := rfl
@[simp] theorem State.free_poison (s : State) : s.free.2.poison = s.poison := rfl
@[simp] theorem State.free_wardens (s : State) : s.free.2.wardens = s.wardens := rfl
@[simp] theorem State.free_poisonAsked (s : State) : s.free.2.poisonAsked = s.poisonAsked := rfl
@[simp] theorem State.free_goWtc (s : State) : s.free.2.goWtc = s.goWtc := rfl
@[simp] theorem State.free_jobKey (s : State) : s.free.2.jobKey = s.jobKey := rfl
@[simp] theorem State.free_remapBad (s : State) : s.free.2.remapBad = s.remapBad := rfl
@[simp] theorem State.free_scrubs (s : State) : s.free.2.scrubs = s.scrubs := rfl
@[simp] theorem State.free_tables (s : State) : s.free.2.tables = s.tables := rfl
@[simp] theorem State.free_winTabs (s : State) : s.free.2.winTabs = s.winTabs := rfl
@[simp] theorem State.free_sealed (s : State) : s.free.2.sealed = s.sealed := rfl
@[simp] theorem State.free_sram (s : State) : s.free.2.sram = s.sram := rfl
@[simp] theorem State.free_clears (s : State) : s.free.2.clears = s.clears := rfl
@[simp] theorem State.free_redirect (s : State) : s.free.2.redirect = s.redirect := rfl
@[simp] theorem State.free_shut (s : State) : s.free.2.shut = s.shut := rfl
@[simp] theorem State.free_scrubNext (s : State) : s.free.2.scrubNext = s.scrubNext := rfl
@[simp] theorem State.free_hz (s : State) : s.free.2.hz = s.hz := rfl
@[simp] theorem State.free_ceCounts (s : State) : s.free.2.ceCounts = s.ceCounts := rfl
@[simp] theorem State.free_run (s : State) : s.free.2.run = s.run := rfl
@[simp] theorem State.free_wtcSyncAt (s : State) : s.free.2.wtcSyncAt = s.wtcSyncAt := rfl
@[simp] theorem State.free_wtcSlew (s : State) : s.free.2.wtcSlew = s.wtcSlew := rfl
@[simp] theorem State.free_mons (s : State) : s.free.2.mons = s.mons := rfl
@[simp] theorem State.free_monF (s : State) : s.free.2.monF = s.monF := rfl
@[simp] theorem State.free_mon (s : State) : s.free.2.mon = s.mon := rfl
@[simp] theorem State.free_anchors (s : State) : s.free.2.anchors = s.anchors := rfl
@[simp] theorem State.free_idents (s : State) : s.free.2.idents = s.idents := rfl
@[simp] theorem State.free_identDue (s : State) : s.free.2.identDue = s.identDue := rfl
@[simp] theorem State.free_shares (s : State) : s.free.2.shares = s.shares := rfl
@[simp] theorem State.free_fw (s : State) : s.free.2.fw = s.fw := rfl
@[simp] theorem State.free_tsnGo (s : State) : s.free.2.tsnGo = s.tsnGo := rfl
@[simp] theorem State.free_i3cAddr (s : State) : s.free.2.i3cAddr = s.i3cAddr := rfl
@[simp] theorem State.free_i3cLatch (s : State) : s.free.2.i3cLatch = s.i3cLatch := rfl
@[simp] theorem State.free_ks (s : State) : s.free.2.ks = s.ks := rfl
@[simp] theorem State.free_out (s : State) : s.free.2.out = s.out := rfl
@[simp] theorem State.free_rf (s : State) (F : RF) (i : Nat) : s.free.2.rf F i = s.rf F i := rfl

@[simp] theorem State.puts_pending (s : State) (l : List (RF × Nat × Nat)) : (s.puts l).pending = s.pending := State.puts_frame State.pending (fun _ _ _ _ => rfl) s l
@[simp] theorem State.puts_freeCtr (s : State) (l : List (RF × Nat × Nat)) : (s.puts l).freeCtr = s.freeCtr := State.puts_frame State.freeCtr (fun _ _ _ _ => rfl) s l
@[simp] theorem State.puts_now (s : State) (l : List (RF × Nat × Nat)) : (s.puts l).now = s.now := State.puts_frame State.now (fun _ _ _ _ => rfl) s l
@[simp] theorem State.puts_wtc (s : State) (l : List (RF × Nat × Nat)) : (s.puts l).wtc = s.wtc := State.puts_frame State.wtc (fun _ _ _ _ => rfl) s l
@[simp] theorem State.puts_fuses (s : State) (l : List (RF × Nat × Nat)) : (s.puts l).fuses = s.fuses := State.puts_frame State.fuses (fun _ _ _ _ => rfl) s l
@[simp] theorem State.puts_feedId (s : State) (l : List (RF × Nat × Nat)) : (s.puts l).feedId = s.feedId := State.puts_frame State.feedId (fun _ _ _ _ => rfl) s l
@[simp] theorem State.puts_i3cSa (s : State) (l : List (RF × Nat × Nat)) : (s.puts l).i3cSa = s.i3cSa := State.puts_frame State.i3cSa (fun _ _ _ _ => rfl) s l
@[simp] theorem State.puts_boot (s : State) (l : List (RF × Nat × Nat)) : (s.puts l).boot = s.boot := State.puts_frame State.boot (fun _ _ _ _ => rfl) s l
@[simp] theorem State.puts_doms (s : State) (l : List (RF × Nat × Nat)) : (s.puts l).doms = s.doms := State.puts_frame State.doms (fun _ _ _ _ => rfl) s l
@[simp] theorem State.puts_fns (s : State) (l : List (RF × Nat × Nat)) : (s.puts l).fns = s.fns := State.puts_frame State.fns (fun _ _ _ _ => rfl) s l
@[simp] theorem State.puts_events (s : State) (l : List (RF × Nat × Nat)) : (s.puts l).events = s.events := State.puts_frame State.events (fun _ _ _ _ => rfl) s l
@[simp] theorem State.puts_heldRecs (s : State) (l : List (RF × Nat × Nat)) : (s.puts l).heldRecs = s.heldRecs := State.puts_frame State.heldRecs (fun _ _ _ _ => rfl) s l
@[simp] theorem State.puts_evLog (s : State) (l : List (RF × Nat × Nat)) : (s.puts l).evLog = s.evLog := State.puts_frame State.evLog (fun _ _ _ _ => rfl) s l
@[simp] theorem State.puts_ledger (s : State) (l : List (RF × Nat × Nat)) : (s.puts l).ledger = s.ledger := State.puts_frame State.ledger (fun _ _ _ _ => rfl) s l
@[simp] theorem State.puts_hist (s : State) (l : List (RF × Nat × Nat)) : (s.puts l).hist = s.hist := State.puts_frame State.hist (fun _ _ _ _ => rfl) s l
@[simp] theorem State.puts_host (s : State) (l : List (RF × Nat × Nat)) : (s.puts l).host = s.host := State.puts_frame State.host (fun _ _ _ _ => rfl) s l
@[simp] theorem State.puts_cores (s : State) (l : List (RF × Nat × Nat)) : (s.puts l).cores = s.cores := State.puts_frame State.cores (fun _ _ _ _ => rfl) s l
@[simp] theorem State.puts_waits (s : State) (l : List (RF × Nat × Nat)) : (s.puts l).waits = s.waits := State.puts_frame State.waits (fun _ _ _ _ => rfl) s l
@[simp] theorem State.puts_park (s : State) (l : List (RF × Nat × Nat)) : (s.puts l).park = s.park := State.puts_frame State.park (fun _ _ _ _ => rfl) s l
@[simp] theorem State.puts_launch (s : State) (l : List (RF × Nat × Nat)) : (s.puts l).launch = s.launch := State.puts_frame State.launch (fun _ _ _ _ => rfl) s l
@[simp] theorem State.puts_molts (s : State) (l : List (RF × Nat × Nat)) : (s.puts l).molts = s.molts := State.puts_frame State.molts (fun _ _ _ _ => rfl) s l
@[simp] theorem State.puts_recov (s : State) (l : List (RF × Nat × Nat)) : (s.puts l).recov = s.recov := State.puts_frame State.recov (fun _ _ _ _ => rfl) s l
@[simp] theorem State.puts_clock (s : State) (l : List (RF × Nat × Nat)) : (s.puts l).clock = s.clock := State.puts_frame State.clock (fun _ _ _ _ => rfl) s l
@[simp] theorem State.puts_cap (s : State) (l : List (RF × Nat × Nat)) : (s.puts l).cap = s.cap := State.puts_frame State.cap (fun _ _ _ _ => rfl) s l
@[simp] theorem State.puts_tiles (s : State) (l : List (RF × Nat × Nat)) : (s.puts l).tiles = s.tiles := State.puts_frame State.tiles (fun _ _ _ _ => rfl) s l
@[simp] theorem State.puts_fields (s : State) (l : List (RF × Nat × Nat)) : (s.puts l).fields = s.fields := State.puts_frame State.fields (fun _ _ _ _ => rfl) s l
@[simp] theorem State.puts_mapBuilt (s : State) (l : List (RF × Nat × Nat)) : (s.puts l).mapBuilt = s.mapBuilt := State.puts_frame State.mapBuilt (fun _ _ _ _ => rfl) s l
@[simp] theorem State.puts_remap (s : State) (l : List (RF × Nat × Nat)) : (s.puts l).remap = s.remap := State.puts_frame State.remap (fun _ _ _ _ => rfl) s l
@[simp] theorem State.puts_regrows (s : State) (l : List (RF × Nat × Nat)) : (s.puts l).regrows = s.regrows := State.puts_frame State.regrows (fun _ _ _ _ => rfl) s l
@[simp] theorem State.puts_epochFn (s : State) (l : List (RF × Nat × Nat)) : (s.puts l).epochFn = s.epochFn := State.puts_frame State.epochFn (fun _ _ _ _ => rfl) s l
@[simp] theorem State.puts_sec (s : State) (l : List (RF × Nat × Nat)) : (s.puts l).sec = s.sec := State.puts_frame State.sec (fun _ _ _ _ => rfl) s l
@[simp] theorem State.puts_st (s : State) (l : List (RF × Nat × Nat)) : (s.puts l).st = s.st := State.puts_frame State.st (fun _ _ _ _ => rfl) s l
@[simp] theorem State.puts_prog (s : State) (l : List (RF × Nat × Nat)) : (s.puts l).prog = s.prog := State.puts_frame State.prog (fun _ _ _ _ => rfl) s l
@[simp] theorem State.puts_progNext (s : State) (l : List (RF × Nat × Nat)) : (s.puts l).progNext = s.progNext := State.puts_frame State.progNext (fun _ _ _ _ => rfl) s l
@[simp] theorem State.puts_episodes (s : State) (l : List (RF × Nat × Nat)) : (s.puts l).episodes = s.episodes := State.puts_frame State.episodes (fun _ _ _ _ => rfl) s l
@[simp] theorem State.puts_ending (s : State) (l : List (RF × Nat × Nat)) : (s.puts l).ending = s.ending := State.puts_frame State.ending (fun _ _ _ _ => rfl) s l
@[simp] theorem State.puts_transfers (s : State) (l : List (RF × Nat × Nat)) : (s.puts l).transfers = s.transfers := State.puts_frame State.transfers (fun _ _ _ _ => rfl) s l
@[simp] theorem State.puts_rotors (s : State) (l : List (RF × Nat × Nat)) : (s.puts l).rotors = s.rotors := State.puts_frame State.rotors (fun _ _ _ _ => rfl) s l
@[simp] theorem State.puts_replayBuf (s : State) (l : List (RF × Nat × Nat)) : (s.puts l).replayBuf = s.replayBuf := State.puts_frame State.replayBuf (fun _ _ _ _ => rfl) s l
@[simp] theorem State.puts_poison (s : State) (l : List (RF × Nat × Nat)) : (s.puts l).poison = s.poison := State.puts_frame State.poison (fun _ _ _ _ => rfl) s l
@[simp] theorem State.puts_wardens (s : State) (l : List (RF × Nat × Nat)) : (s.puts l).wardens = s.wardens := State.puts_frame State.wardens (fun _ _ _ _ => rfl) s l
@[simp] theorem State.puts_poisonAsked (s : State) (l : List (RF × Nat × Nat)) : (s.puts l).poisonAsked = s.poisonAsked := State.puts_frame State.poisonAsked (fun _ _ _ _ => rfl) s l
@[simp] theorem State.puts_goWtc (s : State) (l : List (RF × Nat × Nat)) : (s.puts l).goWtc = s.goWtc := State.puts_frame State.goWtc (fun _ _ _ _ => rfl) s l
@[simp] theorem State.puts_jobKey (s : State) (l : List (RF × Nat × Nat)) : (s.puts l).jobKey = s.jobKey := State.puts_frame State.jobKey (fun _ _ _ _ => rfl) s l
@[simp] theorem State.puts_remapBad (s : State) (l : List (RF × Nat × Nat)) : (s.puts l).remapBad = s.remapBad := State.puts_frame State.remapBad (fun _ _ _ _ => rfl) s l
@[simp] theorem State.puts_scrubs (s : State) (l : List (RF × Nat × Nat)) : (s.puts l).scrubs = s.scrubs := State.puts_frame State.scrubs (fun _ _ _ _ => rfl) s l
@[simp] theorem State.puts_tables (s : State) (l : List (RF × Nat × Nat)) : (s.puts l).tables = s.tables := State.puts_frame State.tables (fun _ _ _ _ => rfl) s l
@[simp] theorem State.puts_winTabs (s : State) (l : List (RF × Nat × Nat)) : (s.puts l).winTabs = s.winTabs := State.puts_frame State.winTabs (fun _ _ _ _ => rfl) s l
@[simp] theorem State.puts_sealed (s : State) (l : List (RF × Nat × Nat)) : (s.puts l).sealed = s.sealed := State.puts_frame State.sealed (fun _ _ _ _ => rfl) s l
@[simp] theorem State.puts_sram (s : State) (l : List (RF × Nat × Nat)) : (s.puts l).sram = s.sram := State.puts_frame State.sram (fun _ _ _ _ => rfl) s l
@[simp] theorem State.puts_clears (s : State) (l : List (RF × Nat × Nat)) : (s.puts l).clears = s.clears := State.puts_frame State.clears (fun _ _ _ _ => rfl) s l
@[simp] theorem State.puts_redirect (s : State) (l : List (RF × Nat × Nat)) : (s.puts l).redirect = s.redirect := State.puts_frame State.redirect (fun _ _ _ _ => rfl) s l
@[simp] theorem State.puts_shut (s : State) (l : List (RF × Nat × Nat)) : (s.puts l).shut = s.shut := State.puts_frame State.shut (fun _ _ _ _ => rfl) s l
@[simp] theorem State.puts_scrubNext (s : State) (l : List (RF × Nat × Nat)) : (s.puts l).scrubNext = s.scrubNext := State.puts_frame State.scrubNext (fun _ _ _ _ => rfl) s l
@[simp] theorem State.puts_hz (s : State) (l : List (RF × Nat × Nat)) : (s.puts l).hz = s.hz := State.puts_frame State.hz (fun _ _ _ _ => rfl) s l
@[simp] theorem State.puts_ceCounts (s : State) (l : List (RF × Nat × Nat)) : (s.puts l).ceCounts = s.ceCounts := State.puts_frame State.ceCounts (fun _ _ _ _ => rfl) s l
@[simp] theorem State.puts_run (s : State) (l : List (RF × Nat × Nat)) : (s.puts l).run = s.run := State.puts_frame State.run (fun _ _ _ _ => rfl) s l
@[simp] theorem State.puts_wtcSyncAt (s : State) (l : List (RF × Nat × Nat)) : (s.puts l).wtcSyncAt = s.wtcSyncAt := State.puts_frame State.wtcSyncAt (fun _ _ _ _ => rfl) s l
@[simp] theorem State.puts_wtcSlew (s : State) (l : List (RF × Nat × Nat)) : (s.puts l).wtcSlew = s.wtcSlew := State.puts_frame State.wtcSlew (fun _ _ _ _ => rfl) s l
@[simp] theorem State.puts_mons (s : State) (l : List (RF × Nat × Nat)) : (s.puts l).mons = s.mons := State.puts_frame State.mons (fun _ _ _ _ => rfl) s l
@[simp] theorem State.puts_monF (s : State) (l : List (RF × Nat × Nat)) : (s.puts l).monF = s.monF := State.puts_frame State.monF (fun _ _ _ _ => rfl) s l
@[simp] theorem State.puts_mon (s : State) (l : List (RF × Nat × Nat)) : (s.puts l).mon = s.mon := State.puts_frame State.mon (fun _ _ _ _ => rfl) s l
@[simp] theorem State.puts_anchors (s : State) (l : List (RF × Nat × Nat)) : (s.puts l).anchors = s.anchors := State.puts_frame State.anchors (fun _ _ _ _ => rfl) s l
@[simp] theorem State.puts_idents (s : State) (l : List (RF × Nat × Nat)) : (s.puts l).idents = s.idents := State.puts_frame State.idents (fun _ _ _ _ => rfl) s l
@[simp] theorem State.puts_identDue (s : State) (l : List (RF × Nat × Nat)) : (s.puts l).identDue = s.identDue := State.puts_frame State.identDue (fun _ _ _ _ => rfl) s l
@[simp] theorem State.puts_shares (s : State) (l : List (RF × Nat × Nat)) : (s.puts l).shares = s.shares := State.puts_frame State.shares (fun _ _ _ _ => rfl) s l
@[simp] theorem State.puts_fw (s : State) (l : List (RF × Nat × Nat)) : (s.puts l).fw = s.fw := State.puts_frame State.fw (fun _ _ _ _ => rfl) s l
@[simp] theorem State.puts_tsnGo (s : State) (l : List (RF × Nat × Nat)) : (s.puts l).tsnGo = s.tsnGo := State.puts_frame State.tsnGo (fun _ _ _ _ => rfl) s l
@[simp] theorem State.puts_i3cAddr (s : State) (l : List (RF × Nat × Nat)) : (s.puts l).i3cAddr = s.i3cAddr := State.puts_frame State.i3cAddr (fun _ _ _ _ => rfl) s l
@[simp] theorem State.puts_i3cLatch (s : State) (l : List (RF × Nat × Nat)) : (s.puts l).i3cLatch = s.i3cLatch := State.puts_frame State.i3cLatch (fun _ _ _ _ => rfl) s l
@[simp] theorem State.puts_ks (s : State) (l : List (RF × Nat × Nat)) : (s.puts l).ks = s.ks := State.puts_frame State.ks (fun _ _ _ _ => rfl) s l
@[simp] theorem State.puts_out (s : State) (l : List (RF × Nat × Nat)) : (s.puts l).out = s.out := State.puts_frame State.out (fun _ _ _ _ => rfl) s l

@[simp] theorem State.put_core (s : State) (F : RF) (i v c : Nat) : (s.put F i v).core c = s.core c := rfl
@[simp] theorem State.put_tile (s : State) (F : RF) (i v c : Nat) : (s.put F i v).tile c = s.tile c := rfl
@[simp] theorem State.put_field (s : State) (F : RF) (i v c : Nat) : (s.put F i v).field c = s.field c := rfl
@[simp] theorem State.put_warden (s : State) (F : RF) (i v c : Nat) : (s.put F i v).warden c = s.warden c := rfl

end Sys2Proof.Machine
end

