-- ==== Sys2Proof/Laws/Cores.lean ====
section
/-! SUPPORT. What the shared operations of Ixfold instructions do: running, going on, writing a register, trapping, storing bytes. -/

namespace Sys2Proof.Machine

/-- A command that answers `t` completes with what holds of `t`. -/
theorem Completes.intro {o : Host.Outcome State Fault Refusal} {P : State → Prop} (t : State) (h : o = .next t) (hp : P t) :
    Completes o P := ⟨t, h, hp⟩

theorem State.coreRuns_of_ready {s : State} {c : Fin 68} (h : s.ready c) : s.coreRuns c.val = true := by
  obtain ⟨h1, h2, h3, h4, h5, -⟩ := h
  simp [State.coreRuns, h1, h2, h3, h4, h5]

/-- An instruction of a core that is ready is its meaning. -/
theorem State.onCore_of_ready {s : State} {c : Fin 68} (h : s.ready c) (f : State → Core → State) :
    s.onCore c f = .next (f s (s.core c.val)) := by
  simp [State.onCore, State.coreRuns_of_ready h]

theorem OnlyCore.setCore (s : State) (c : Nat) (x : Core) : OnlyCore s (s.setCore c x) c :=
  ⟨rfl, fun k hk => State.core_setCore_other s c k x hk⟩

theorem OnlyCore.trans {s t u : State} {c : Nat} (h1 : OnlyCore s t c) (h2 : OnlyCore t u c) : OnlyCore s u c := by
  refine ⟨?_, fun k hk => (h2.2 k hk).trans (h1.2 k hk)⟩
  rw [h2.1, h1.1]

theorem OnlyCore.setCore_trans {s t : State} {c : Nat} (h : OnlyCore s t c) (x : Core) : OnlyCore s (t.setCore c x) c :=
  h.trans (OnlyCore.setCore t c x)

/-- Going on at a target inside IMEM. -/
theorem State.goTo_eq (s : State) (c target : Nat) (h : target < 65536) :
    s.goTo c target = s.setCore c { s.core c with pc := target, instret := (s.core c).instret + 1 } := by
  have h32 : target % 2 ^ 32 = target := Nat.mod_eq_of_lt (by omega)
  simp only [State.goTo, h32, h, if_true]

theorem State.goNext_eq (s : State) (c : Nat) (h : (s.core c).pc + 4 < 65536) :
    s.goNext c = s.setCore c { s.core c with pc := (s.core c).pc + 4, instret := (s.core c).instret + 1 } :=
  s.goTo_eq c _ h

theorem Core.setX_pc (x : Core) (r : Nat) (v : Word) : (x.setX r v).pc = x.pc := by unfold Core.setX; split <;> rfl
theorem Core.setX_eq (x : Core) (r : Nat) (v : Word) : x.setX r v = { x with x := (x.setX r v).x } := by
  unfold Core.setX; split <;> rfl

theorem Core.setX_written (x : Core) (r : BitVec 5) (v : Word) : XWritten x (x.setX r.toNat v) r v := by
  refine ⟨by simp [Core.getX], fun q hq => ?_⟩
  have hq0 : q.toNat ≠ 0 := fun h => hq (BitVec.eq_of_toNat_eq (by simpa using h))
  by_cases hr : q = r
  · subst hr; simp [Core.getX, Core.setX, hq0, Tab.get_set_same]
  · have hne : q.toNat ≠ r.toNat := fun h => hr (BitVec.eq_of_toNat_eq h)
    by_cases h0 : r.toNat = 0
    · simp [Core.setX, h0, hr]
    · simp [Core.getX, Core.setX, hq0, h0, hr, Tab.get_set_other _ _ _ _ _ hne]

theorem Core.setD_written (x : Core) (d : Nat) (v : BitVec 256) : DWritten x (x.setD d v) d v := by
  intro r
  by_cases h : r = d
  · subst h; simp [Core.getD, Core.setD, Tab.get_set_same]
  · simp [Core.getD, Core.setD, h, Tab.get_set_other _ _ _ _ _ h]

/-- `Core.getX` looks at the registers alone. -/
theorem XWritten.congr {x y z : Core} {r : BitVec 5} {v : Word} (h : XWritten x y r v) (hx : z.x = y.x) : XWritten x z r v := by
  refine ⟨by simp [Core.getX], fun q hq => ?_⟩
  rw [← h.2 q hq]; simp [Core.getX, hx]

theorem DWritten.congr {x y z : Core} {d : Nat} {v : BitVec 256} (h : DWritten x y d v) (hz : z.d = y.d) : DWritten x z d v := by
  intro r; rw [← h r]; simp [Core.getD, hz]

/-- The one spec of a register write. -/
theorem State.writeReg_result (s : State) (c : Fin 68) (rd : BitVec 5) (v : Word) (h : (s.core c.val).pc + 4 < 65536) :
    RegResult s c rd v (s.writeReg c.val rd.toNat v) := by
  have e : s.writeReg c.val rd.toNat v = (s.setCore c.val ((s.core c.val).setX rd.toNat v)).setCore c.val
      { (s.core c.val).setX rd.toNat v with pc := (s.core c.val).pc + 4, instret := (s.core c.val).instret + 1 } := by
    unfold State.writeReg
    rw [State.goNext_eq _ _ (by simpa [Core.setX_pc] using h)]
    simp only [State.core_setCore_same, Core.setX_pc]
    rw [Core.setX_eq]
  rw [RegResult, e]
  refine ⟨(OnlyCore.setCore s _ _).setCore_trans _, ?_, ?_⟩
  · rw [State.core_setCore_same]; exact (Core.setX_written _ rd v).congr rfl
  · simp only [State.core_setCore_same, Core.wentOn]
    rw [Core.setX_eq]

/-- The one spec of a descriptor write. -/
theorem State.writeDesc_result (s : State) (c : Fin 68) (d : Fin 8) (v : BitVec 256) (h : (s.core c.val).pc + 4 < 65536) :
    DescResult s c d v (s.writeDesc c.val d.val v) := by
  have e : s.writeDesc c.val d.val v = (s.setCore c.val ((s.core c.val).setD d.val v)).setCore c.val
      { (s.core c.val).setD d.val v with pc := (s.core c.val).pc + 4, instret := (s.core c.val).instret + 1 } := by
    unfold State.writeDesc
    rw [State.goNext_eq _ _ (by simpa [Core.setD] using h)]
    simp only [State.core_setCore_same]
    rfl
  rw [DescResult, e]
  refine ⟨(OnlyCore.setCore s _ _).setCore_trans _, ?_, ?_⟩
  · rw [State.core_setCore_same]; exact (Core.setD_written _ _ v).congr rfl
  · simp only [State.core_setCore_same, Core.wentOn, Core.setD]

theorem State.goTo_result (s : State) (c : Fin 68) (target : Nat) (h : target < 65536) : PcResult s c target (s.goTo c.val target) := by
  rw [State.goTo_eq _ _ _ h]
  exact ⟨OnlyCore.setCore _ _ _, by simp [Core.wentOn]⟩

/-- A trap with a handler. -/
theorem State.trap_taken (s : State) (c : Fin 68) (cause tval : Nat) (h : s.handles c) :
    TrapTaken s c cause tval (s.trap c.val cause tval) := by
  obtain ⟨h1, h2, h3, h4⟩ := h
  have h32 : (s.core c.val).tvec.toNat % 2 ^ 32 = (s.core c.val).tvec.toNat := Nat.mod_eq_of_lt (by omega)
  have hf : fetchable (s.core c.val).tvec.toNat = true := by simp [fetchable, h2, h3]
  have e : s.trap c.val cause tval = s.setCore c.val { s.core c.val with
      epc := BitVec.ofNat 64 (s.core c.val).pc, cause := BitVec.ofNat 64 cause, tval := BitVec.ofNat 64 tval, inTrap := true,
      pc := (s.core c.val).tvec.toNat } := by
    simp only [State.trap, State.trapAt, h1, h4, hf, h32, false_or, if_true, if_false, Bool.false_eq_true]
  rw [e]
  exact ⟨OnlyCore.setCore _ _ _, by simp⟩

/-- A halt. -/
theorem State.haltCore_halts (s : State) (c : Fin 68) : Halts s c (s.haltCore c.val) := by
  unfold State.haltCore State.haltSeen Halts haltField isKeeperCore
  by_cases hc : 64 ≤ c.val
  all_goals
    simp only [hc, decide_true, decide_false, if_true, if_false, Bool.false_eq_true]
    refine ⟨rfl, fun k hk => State.core_setCore_other _ _ _ _ hk, State.core_setCore_same .., fun F i hF => ?_, ?_⟩
  · exact State.rf_put_other _ _ _ _ _ _ (by simp at hF; rcases Decidable.em (F = .kprCoreStatusHaltSeen) with h | h
                                             · exact .inr (fun e => hF h e.symm)
                                             · exact .inl (fun e => h e.symm))
  · rw [State.rf_put_same]; rfl
  · exact State.rf_put_other _ _ _ _ _ _ (by simp at hF; rcases Decidable.em (F = .fstCoreStatusHaltSeen) with h | h
                                             · exact .inr (fun e => hF h e.symm)
                                             · exact .inl (fun e => h e.symm))
  · rw [State.rf_put_same]; rfl

/-! ### Bytes -/

theorem readByte_set (m : Tab Byte) (a b : Nat) (v : Byte) :
    readByte (Tab.set (fun _ => 0) m a v) b = if b = a then v.toNat else readByte m b := by
  unfold readByte
  by_cases h : b = a
  · subst h; simp [Tab.get_set_same]
  · simp [h, Tab.get_set_other _ _ _ _ _ h]

/-- The bytes that a write of bytes leaves. -/
theorem readByte_writeBytes (bs : List Nat) (m : Tab Byte) (a b : Nat) :
    readByte (writeBytes m a bs) b = if h : a ≤ b ∧ b < a + bs.length then bs[b - a]'(by omega) % 256 else readByte m b := by
  induction bs generalizing m a with
  | nil => rw [dif_neg (by simp)]; rfl
  | cons v vs ih =>
    rw [writeBytes, ih, readByte_set]
    by_cases h1 : b = a
    · subst h1
      simp
    · by_cases h2 : a + 1 ≤ b ∧ b < a + 1 + vs.length
      · have h3 : a ≤ b ∧ b < a + (v :: vs).length := by simp; omega
        rw [dif_pos h2, dif_pos h3]
        have : b - a = (b - (a + 1)) + 1 := by omega
        simp [this]
      · have h3 : ¬ (a ≤ b ∧ b < a + (v :: vs).length) := by simp; omega
        rw [dif_neg h2, dif_neg h3, if_neg h1]

theorem bytesOf_length (v i n : Nat) : (bytesOf v i n).length = n := by
  induction n generalizing i with
  | zero => rfl
  | succ n ih => simp [bytesOf, ih]

theorem bytesOf_get (v i n k : Nat) (h : k < (bytesOf v i n).length) : (bytesOf v i n)[k] = bits v (8 * (i + k)) 8 := by
  induction n generalizing i k with
  | zero => simp [bytesOf] at h
  | succ n ih =>
    cases k with
    | zero => simp [bytesOf]
    | succ k =>
      simp only [bytesOf, List.getElem_cons_succ]
      rw [ih]; congr 2; omega

/-- A value stored little-endian: its bytes stand at their addresses, and every other byte keeps its value. -/
theorem writeBytes_stored (m : Tab Byte) (a w v : Nat) : BytesStored m (writeBytes m a (bytesOf v 0 w)) a w v := by
  intro b
  rw [readByte_writeBytes]
  by_cases h : a ≤ b ∧ b < a + w
  · have h' : a ≤ b ∧ b < a + (bytesOf v 0 w).length := by rw [bytesOf_length]; exact h
    rw [dif_pos h', if_pos h, bytesOf_get]
    have h256 : (256 : Nat) ^ (b - a) = 2 ^ (8 * (b - a)) := by rw [show (256 : Nat) = 2 ^ 8 from rfl, ← Nat.pow_mul]
    simp [bits, Nat.shiftRight_eq_div_pow, h256]
  · have h' : ¬ (a ≤ b ∧ b < a + (bytesOf v 0 w).length) := by rw [bytesOf_length]; exact h
    rw [dif_neg h', if_neg h]

/-- Writing bytes keeps the canonical form of a byte table. -/
theorem writeBytes_wf (bs : List Nat) (m : Tab Byte) (a : Nat) (h : Memory.wf m) : Memory.wf (writeBytes m a bs) := by
  induction bs generalizing m a with
  | nil => exact h
  | cons b bs ih => exact ih _ _ (Tab.set_wf _ _ _ _ h)

theorem reset_ks_wf : Memory.wf State.reset.ks := rfl

end Sys2Proof.Machine
end

