-- ==== Sys2Proof/Laws/Shared.lean ====
section
/-! SUPPORT. The laws of shared operations: lines of tile SRAM (R100, R159), poisoned words (R28) and arbitration (R265). -/

namespace Sys2Proof.Machine

/-! ### Tile SRAM -/

/-- A line reads as it was last written. -/
theorem State.sramLine_setSram (s : State) (t l v : Nat) (h : l < 768) : (s.setSram t l v).sramLine t l = v % 2 ^ 1024 := by
  simp only [State.sramLine, h, if_true]
  exact Tab.get_set_same _ _ _ _

/-- A write leaves every other line alone. -/
theorem State.sramLine_setSram_other (s : State) (t l v t' l' : Nat) (h : l < 768) (hn : (t', l') ≠ (t, l)) :
    (s.setSram t l v).sramLine t' l' = s.sramLine t' l' := by
  by_cases h' : l' < 768
  · simp only [State.sramLine, h', if_true]
    refine Tab.get_set_other _ _ _ _ _ ?_
    intro he
    exact hn (Prod.ext (by simp only; omega) (by simp only; omega))
  · simp [State.sramLine, h']

/-- A line that does not exist reads zero. -/
theorem State.sramLine_outside (s : State) (t l : Nat) (h : 768 ≤ l) : s.sramLine t l = 0 := by
  simp [State.sramLine, Nat.not_lt.mpr h]

/-- Writing a line keeps the canonical form. -/
theorem State.setSram_wf (s : State) (t l v : Nat) (h : Tab.wf (fun _ => 0) s.sram = true) : Tab.wf (fun _ => 0) (s.setSram t l v).sram = true :=
  Tab.set_wf _ _ _ _ h

/-- Writing lines changes the SRAM alone. -/
theorem State.setSram_eq (s : State) (t l v : Nat) : s.setSram t l v = { s with sram := (s.setSram t l v).sram } := rfl

/-! ### Poisoned words -/

/-- A word that is marked poisoned is poisoned. -/
theorem State.setPoison_isPoisoned (s : State) (m : MemWord) : (s.setPoison m).isPoisoned m = true := by
  unfold State.setPoison
  split
  · assumption
  · simp [State.isPoisoned]

/-- The mark leaves those of other words. -/
theorem State.setPoison_mono (s : State) (m n : MemWord) (h : s.isPoisoned n = true) : (s.setPoison m).isPoisoned n = true := by
  unfold State.setPoison
  split
  · exact h
  · simp only [State.isPoisoned, List.contains_cons, Bool.or_eq_true] at h ⊢
    exact Or.inr h

/-- A word written whole is good again; one that is not written keeps its mark. -/
theorem State.clearPoison_mem (s : State) (p : MemWord → Bool) (m : MemWord) : m ∈ (s.clearPoison p).poison ↔ m ∈ s.poison ∧ p m = false := by
  simp [State.clearPoison]

/-! ### Arbitration -/

/-- The least of a list is one of it, and no other has a smaller key. -/
theorem leastBy_some {α : Type} (key : α → Nat) (l : List α) (a : α) (h : leastBy key l = some a) : a ∈ l ∧ ∀ b ∈ l, key a ≤ key b := by
  induction l generalizing a with
  | nil => simp [leastBy] at h
  | cons x t ih =>
    unfold leastBy at h
    split at h
    · cases h
      rename_i hn
      refine ⟨List.mem_cons_self, fun b hb => ?_⟩
      cases t with
      | nil => simp at hb; simp [hb]
      | cons y u =>
        simp only [leastBy] at hn
        split at hn
        · cases hn
        · split at hn <;> cases hn
    · rename_i c hc
      have ⟨hm, hl⟩ := ih c hc
      split at h
      · cases h
        refine ⟨List.mem_cons_of_mem _ hm, fun b hb => ?_⟩
        rcases List.mem_cons.mp hb with rfl | hb
        · omega
        · exact hl b hb
      · cases h
        refine ⟨List.mem_cons_self, fun b hb => ?_⟩
        rcases List.mem_cons.mp hb with rfl | hb
        · exact Nat.le_refl _
        · have := hl b hb
          omega

theorem leastBy_none {α : Type} (key : α → Nat) (l : List α) : leastBy key l = none ↔ l = [] := by
  cases l with
  | nil => simp [leastBy]
  | cons x t =>
    simp only [leastBy, reduceCtorEq, iff_false]
    split
    · simp
    · split <;> simp

/-- A grant goes to a requester of the lowest class (R265). -/
theorem arbitrate_some {α : Type} (cls idx : α → Nat) (ptr : Nat) (l : List α) (a : α) (h : arbitrate cls idx ptr l = some a) :
    a ∈ l ∧ ∀ b ∈ l, cls a ≤ cls b := by
  unfold arbitrate at h
  split at h
  · cases h
  · rename_i m hm
    have ⟨_, hl⟩ := leastBy_some cls l m hm
    have ⟨ha, _⟩ := leastBy_some _ _ a h
    simp only [List.mem_filter, decide_eq_true_eq] at ha
    exact ⟨ha.1, fun b hb => ha.2 ▸ hl b hb⟩

/-- No requester, no grant; one requester or more, one grant. -/
theorem arbitrate_none {α : Type} (cls idx : α → Nat) (ptr : Nat) (l : List α) : arbitrate cls idx ptr l = none ↔ l = [] := by
  constructor
  · intro h
    unfold arbitrate at h
    split at h
    · rename_i hn
      exact (leastBy_none cls l).mp hn
    · rename_i m hm
      have hmem := (leastBy_some cls l m hm).1
      have := (leastBy_none _ _).mp h
      have hin : m ∈ l.filter (fun a => decide (cls a = cls m)) := by simp [hmem]
      rw [this] at hin
      cases hin
  · rintro rfl
    rfl

end Sys2Proof.Machine
end

