-- ==== Sys2Proof/WellFormed.lean ====
section
/-! DEFINITION. Commands that the block can be given: operands that a type does not bound lie in the range of their rule. -/

namespace Sys2Proof

open Machine

/-- A word that the memory has (R18 table, R42, R106, R223, R280). -/
def MemWord.inRange : MemWord → Bool
  | .keeperStore o => decide (o < 0x6000000)
  | .flightRecorder o => decide (o < 0x4000000)
  | .replayBuffer _ o => decide (o < 0x400000)
  | .ledger i => decide (i < 32768)
  | .semaphore c => decide (c < 4096)
  | .remap _ i => decide (i < 1024)
  | .imem _ | .dmem _ => true

/-- Every operand lies in its range: tiles and logical tiles exist (R36, R37), an access of BAR0 is 4 or 8 bytes, aligned and inside it
(R4, R453), an index names an entry that exists. -/
def Instr.wellFormed : Instr → Bool
  | .tsnTapInject tile | .tsnEpArm tile | .tsnStRun tile | .tapBlockJudge tile _ | .tapHoldEnd tile | .tapEnable tile | .tapDisable tile
  | .tapStartDone tile | .tapDrainDone tile | .tapPendingStart tile | .armReportSend tile _ _ | .armReport tile _ | .episodeStart tile _
  | .goWaitExpiry tile | .recordRegionOverflow tile _ | .replayRunDone tile | .episodeCompare tile _ _ _ | .confirmReplayDone tile _
  | .confirmSpareTimeout tile | .episodeDeadline tile | .scrubVisitStart tile _ _ | .scrubVisitResume tile _ _ _ | .testWindowOpen tile _
  | .visitMoveDone tile | .visitSaveDone tile | .visitItemEnd tile _ | .visitRestoreDone tile | .visitClearDone tile
  | .sramCeReport tile _ _ | .sramUeReport tile _ | .tileFrozen tile | .oldEpochFlitLanding tile _ _ | .tileSemOp tile _ _ _
  | .stallLimitReached tile _ | .stallRecordArrival tile _ | .scrubVisitEnd tile | .tileSramWrite tile _ _
      => tileOk tile
  | .snapshotComplete seen | .captureOverflow seen => tileOk seen.tile
  | .slackCheckDone logical | .transplantStart logical | .transplantVerified logical _ | .transplantUeWord logical | .regrowthCommit logical
  | .refuseWaitExpiry logical | .regrowthTimeout logical
      => logicalOk logical
  | .registerWrite addr width _ | .ledgerWindowWrite addr width _ | .keeperStoreWindowWrite addr width _
  | .flightRecorderWindowWrite addr width _
      => decide (addr < 2 ^ 24) && (decide (width = 4) || decide (width = 8)) && decide (addr % width = 0)
  | .latchedLowWordRead addr => decide (addr < 2 ^ 24) && decide (addr % 4 = 0)
  | .registerAccessTimeout addr => decide (addr < 2 ^ 24)
  | .ledgerLowHalfRead index => decide (index < 32768)
  | .apertureUnitWrite _ offset data => decide (offset + data.length ≤ 64)
  | .memoryPatrol word _ => word.inRange
  | .parkTimeout entry => decide (entry < 256)
  | .remapTableUe _ index _ => decide (index < 1024)
  | .asyncCompletion _ index _ _ => decide (index < 4)
  | _ => true

end Sys2Proof
end

