-- ==== Sys2Proof/Tests/Slice0.lean ====
section
/-! SUPPORT. Tests: ill-formed commands, worked examples of the spec, and for each statement a state and operands that meet its
hypotheses (`test_meets_<part>`, one conjunct for each of its cases). -/

namespace Sys2Proof.Test
open Machine
set_option maxRecDepth 100000
set_option Elab.async false

/-! ### Commands that are not well formed, one for each check -/

theorem test_wf_tile : (Instr.tapEnable 15360).wellFormed = false ∧ (Instr.tapEnable 120).wellFormed = false ∧ (Instr.tapEnable 119).wellFormed = true := by
  decide +kernel
theorem test_wf_capture : (Instr.captureOverflow ⟨120, []⟩).wellFormed = false ∧ (Instr.snapshotComplete ⟨120, []⟩).wellFormed = false := by decide +kernel
theorem test_wf_logical : (Instr.regrowthCommit 116).wellFormed = false ∧ (Instr.regrowthCommit 115).wellFormed = true := by decide +kernel
theorem test_wf_register_range : (Instr.registerWrite (2 ^ 24) 4 0).wellFormed = false := by decide +kernel
theorem test_wf_register_width : (Instr.registerWrite 0x10000 2 0).wellFormed = false := by decide +kernel
theorem test_wf_register_alignment : (Instr.registerWrite 0x10004 8 0).wellFormed = false ∧ (Instr.registerWrite 0x10004 4 0).wellFormed = true := by
  decide +kernel
theorem test_wf_ledger_window : (Instr.ledgerWindowWrite 3 4 0).wellFormed = false := by decide +kernel
theorem test_wf_keeper_window : (Instr.keeperStoreWindowWrite 4 8 0).wellFormed = false := by decide +kernel
theorem test_wf_recorder_window : (Instr.flightRecorderWindowWrite 0 1 0).wellFormed = false := by decide +kernel
theorem test_wf_latched_read : (Instr.latchedLowWordRead 2).wellFormed = false ∧ (Instr.latchedLowWordRead (2 ^ 24)).wellFormed = false := by decide +kernel
theorem test_wf_access_timeout : (Instr.registerAccessTimeout (2 ^ 24)).wellFormed = false := by decide +kernel
theorem test_wf_ledger_index : (Instr.ledgerLowHalfRead 32768).wellFormed = false ∧ (Instr.ledgerLowHalfRead 32767).wellFormed = true := by decide +kernel
theorem test_wf_aperture : (Instr.apertureUnitWrite 0 60 [1, 2, 3, 4, 5]).wellFormed = false ∧
    (Instr.apertureUnitWrite 0 60 [1, 2, 3, 4]).wellFormed = true := by decide +kernel
theorem test_wf_park : (Instr.parkTimeout 256).wellFormed = false ∧ (Instr.parkTimeout 255).wellFormed = true := by decide +kernel
theorem test_wf_memory_word : (Instr.memoryPatrol (.semaphore 4096) []).wellFormed = false ∧ (Instr.memoryPatrol (.semaphore 4095) []).wellFormed = true := by
  decide +kernel
theorem test_wf_remap_index : (Instr.remapTableUe 0 1024 false).wellFormed = false ∧ (Instr.remapTableUe 0 1023 false).wellFormed = true := by decide +kernel
theorem test_wf_async_index : (Instr.asyncCompletion 64 4 0 0).wellFormed = false ∧ (Instr.asyncCompletion 64 3 0 0).wellFormed = true := by decide +kernel

/-! ### States -/

def C0 : Core := { loaded := true, tvec := 0x100 }
/-- A wafer at work: its domains UP, a host attached, cores k0 and 0 of field 0 running. -/
def W : State := ({ State.reset with
    now := 20000000000, wtc := 20000000000000, mapBuilt := true, cores := [(0, C0), (64, C0)]
    boot := { started := true, stations := true, trained := true, full := false, fusesRead := true, keeperTested := true } } : State).puts
  [(.aoiDomainsKeeper, 0, 0), (.aoiDomainsCompute, 0, 0), (.fstResetStatusState, 0, 0), (.lwdPortStatusState, 0, 0),
   (.hptStatusAttached, 0, 1), (.kprBringupStatusReady, 0, 1), (.kprBringupStatusStage, 0, 7)]
/-- With registers x1 and x2 of both cores set. -/
def wx (a b : Nat) : State :=
  let c : Core := { C0 with x := Tab.set (fun _ => 0) (Tab.set (fun _ => 0) [] 1 (BitVec.ofNat 64 a)) 2 (BitVec.ofNat 64 b) }
  { W with cores := [(0, c), (64, c)] }
/-- With descriptor register d1 of both cores set. -/
def wd (v : Nat) : State :=
  let c : Core := { C0 with d := Tab.set (fun _ => 0) [] 1 (BitVec.ofNat 256 v) }
  { W with cores := [(0, c), (64, c)] }
/-- With core 0 of field 0 and k0 as given. -/
def wc (c : Core) : State := { W with cores := [(0, c), (64, c)] }
/-- With a launch running. -/
def WL : State := { W with launch := { running := true } }
def ent (k : UnitKey) (st origin : Nat) : Entry := ⟨k, origin, st, 1, 0x061, 0⟩

/-- The state after a command; the state after reset where it gives none. -/
def after (i : Instr) (s : State) : State := match exec i s with | .next t => t | _ => State.reset

/-! ### Single steps and worked examples -/

/-- R423: sums wrap at 64 bits. -/
theorem test_add_wraps : ((after (.add 64 3 1 2) (wx (2 ^ 64 - 1) 2)).core 64).getX 3 = 1 := by decide +kernel
/-- R418: x0 reads zero whatever is written. -/
theorem test_x0_discards : ((after (.add 64 0 1 2) (wx 7 2)).core 64).getX 0 = 0 := by decide +kernel
/-- R423: division by zero. -/
theorem test_divu_by_zero : ((after (.divu 64 3 1 2) (wx 7 0)).core 64).getX 3 = BitVec.allOnes 64 := by decide +kernel
theorem test_remu_by_zero : ((after (.remu 64 3 1 2) (wx 7 0)).core 64).getX 3 = 7 := by decide +kernel
/-- R423: minimum and set-less-than compare as signed. -/
theorem test_min_is_signed : ((after (.min 64 3 1 2) (wx (2 ^ 64 - 1) 2)).core 64).getX 3 = BitVec.allOnes 64 := by decide +kernel
/-- R424: immediates of ADDI are signed. -/
theorem test_addi_is_signed : ((after (.addi 64 3 1 0xFFFF) (wx 7 0)).core 64).getX 3 = 6 := by decide +kernel
/-- R427: a misaligned load with no handler loaded halts; the example's handler stands at 0x100. -/
theorem test_misaligned_load_traps : ((after (.ld 64 3 1 0) (wx 4 0)).core 64).pc = 0x100 := by decide +kernel
/-- A tile of column 120 does not exist. -/
theorem test_no_such_tile : exec (.tapEnable 120) State.reset = .fault .noSuchTile := rfl
/-- R37, the worked example of 02_units_and_ledger.md: logical tile (13, 42, 61) and its home. -/
theorem test_home_tile : tileId 13 42 61 = 0x3553D ∧ homeTile 0x3553D = 0x3553F := by decide +kernel
/-- R41, the same example: the entry of its first detection. -/
theorem test_entry_bits : entryBits ⟨⟨1, 0x3553F, 0⟩, 2, 1, 1, 1, 1000000000000⟩ = 0x0000001D1A94A200 * 2 ^ 64 + 0x00002000250B553F := by decide +kernel
/-- R71, the example of 03_checksum_taps.md: E4M3 1.5 under scale byte 130. -/
theorem test_residue : mxResidue .e4m3 0x3C 130 = 25165824 := by decide +kernel
/-- R27: one wrong symbol is corrected, two are detected. -/
theorem test_ecc_one_symbol : eccRead (eccEncode 5 ^^^ errorBits [(7, 12)]) = (.correctable, 5) := by decide +kernel
theorem test_ecc_two_symbols : (eccRead (eccEncode 5 ^^^ errorBits [(0, 1), (35, 9)])).1 = .uncorrectable := by decide +kernel
/-- R477, the worked example of 17_boundary.md: a private read in a thermal hold. -/
def WHold : State := { W.puts ([(.kprMonStatusHold, 0, 1), (.kprMonStatusHoldSeen, 0, 1), (.kprHazardH, 0, 122), (.kprMonStatusMaxTemp, 0, 319),
  (.kprMonStatusMaxField, 0, 14)] ++ (List.range 16).map (fun k => (RF.lwdPortStatusPortUp, k, 1))) with launch := { running := true } }
theorem test_i3c_bytes : (List.range 8).map (fun i => WHold.i3cBytes / 256 ^ i % 256) = [0xCB, 0x07, 0x7A, 0x3F, 0x01, 0x0E, 0x00, 0x00] := by decide +kernel

/-! ### Where the hypotheses of the statements are met -/

namespace A

theorem test_meets_AluWritesResultToRd :
  (∃ (s : State) (c : Fin 68) (rs1 : BitVec 5) (rs2 : BitVec 5) (a : Word) (b : Word), s.ready c ∧ (s.core ↑c).getX rs1.toNat = a ∧ (s.core ↑c).getX rs2.toNat = b) :=
  ⟨wx 5 3, 64, 1, 2, 5, 3, by decide +kernel⟩

theorem test_meets_ImmediatesWriteResultToRd :
  (∃ (s : State) (c : Fin 68) (rs1 : BitVec 5) (a : Word), s.ready c ∧ (s.core ↑c).getX rs1.toNat = a) :=
  ⟨wx 5 3, 64, 1, 5, by decide +kernel⟩

theorem test_meets_DescriptorMovesKeepOtherWords :
  (∃ (s : State) (c : Fin 68) (d : Fin 8) (v : BitVec 256), s.ready c ∧ (s.core ↑c).getD ↑d = v) :=
  ⟨wd 7, 64, 1, 7, by decide +kernel⟩

theorem test_meets_BranchesGoWhereTheyCompare :
  (∃ (s : State) (c : Fin 68) (ra : BitVec 5) (rb : BitVec 5) (off : BitVec 16) (a : Word) (b : Word) (target : ℕ), s.ready c ∧ (s.core ↑c).getX ra.toNat = a ∧ (s.core ↑c).getX rb.toNat = b ∧ ↑(s.core ↑c).pc + 4 * off.toInt = ↑target ∧ target < 65536) :=
  ⟨wx 5 5, 0, 1, 2, 2, 5, 5, 8, by decide +kernel⟩

theorem test_meets_JumpsLinkAndGo :
  (∃ (s : State) (c : Fin 68) (imm : BitVec 16) (target : ℕ), s.ready c ∧ target < 65536 ∧ ↑(s.core ↑c).pc + 4 * imm.toInt = ↑target)
    ∧ (∃ (s : State) (c : Fin 68) (rs1 : BitVec 5) (imm : BitVec 16) (target : ℕ), s.ready c ∧ target < 65536 ∧ EffAddr s c rs1 imm = target ∧ target % 4 = 0) :=
  ⟨⟨wx 5 5, 0, 16383, 65532, by decide +kernel⟩,
    ⟨wx 65528 5, 0, 1, 4, 65532, by decide +kernel⟩⟩

theorem test_meets_LoadsReadLittleEndian :
  (∃ (s : State) (c : Fin 68) (rs1 : BitVec 5) (imm : BitVec 16) (ea : ℕ) (off : ℕ) (m : Tab Byte), s.ready c ∧ EffAddr s c rs1 imm = ea ∧ (ea < 65536 ∧ m = (s.core ↑c).dmem ∧ off = ea ∨ 268435456 ≤ ea ∧ ea < 301989888 ∧ m = s.ks ∧ off = ea - 268435456 ∨ 301989888 ≤ ea ∧ ea < 369098752 ∧ m = s.ks ∧ off = ea - 268435456) ∧ (268435456 ≤ ea → s.ksPoisoned off 32 = false) ∧ ea % 8 = 0)
    ∧ (∃ (s : State) (c : Fin 68) (rs1 : BitVec 5) (imm : BitVec 16) (ea : ℕ) (off : ℕ) (m : Tab Byte), s.ready c ∧ EffAddr s c rs1 imm = ea ∧ (ea < 65536 ∧ m = (s.core ↑c).dmem ∧ off = ea ∨ 268435456 ≤ ea ∧ ea < 301989888 ∧ m = s.ks ∧ off = ea - 268435456 ∨ 301989888 ≤ ea ∧ ea < 369098752 ∧ m = s.ks ∧ off = ea - 268435456) ∧ (268435456 ≤ ea → s.ksPoisoned off 32 = false) ∧ ea % 4 = 0)
    ∧ (∃ (s : State) (c : Fin 68) (rs1 : BitVec 5) (imm : BitVec 16) (ea : ℕ) (off : ℕ) (m : Tab Byte), s.ready c ∧ EffAddr s c rs1 imm = ea ∧ (ea < 65536 ∧ m = (s.core ↑c).dmem ∧ off = ea ∨ 268435456 ≤ ea ∧ ea < 301989888 ∧ m = s.ks ∧ off = ea - 268435456 ∨ 301989888 ≤ ea ∧ ea < 369098752 ∧ m = s.ks ∧ off = ea - 268435456) ∧ (268435456 ≤ ea → s.ksPoisoned off 32 = false))
    ∧ (∃ (s : State) (c : Fin 68) (rs1 : BitVec 5) (imm : BitVec 16) (ea : ℕ) (off : ℕ) (m : Tab Byte), s.ready c ∧ EffAddr s c rs1 imm = ea ∧ (ea < 65536 ∧ m = (s.core ↑c).dmem ∧ off = ea ∨ 268435456 ≤ ea ∧ ea < 301989888 ∧ m = s.ks ∧ off = ea - 268435456 ∨ 301989888 ≤ ea ∧ ea < 369098752 ∧ m = s.ks ∧ off = ea - 268435456) ∧ (268435456 ≤ ea → s.ksPoisoned off 32 = false) ∧ ea % 32 = 0) :=
  ⟨⟨wx 65528 5, 0, 1, 0, 65528, 65528, (W.core 0).dmem, by decide +kernel⟩,
    ⟨wx 0x10000000 5, 0, 1, 0, 0x10000000, 0, W.ks, by decide +kernel⟩,
    ⟨wx 0x15FFFFFF 5, 64, 1, 0, 0x15FFFFFF, 0x5FFFFFF, W.ks, by decide +kernel⟩,
    ⟨wx 0x11FFFFE0 5, 64, 1, 0, 0x11FFFFE0, 0x1FFFFE0, W.ks, by decide +kernel⟩⟩

theorem test_meets_DmemStoresChangeTheirBytesOnly :
  (∃ (s : State) (c : Fin 68) (rs1 : BitVec 5) (imm : BitVec 16) (ea : ℕ), s.ready c ∧ EffAddr s c rs1 imm = ea ∧ ea < 61440 ∧ ea % 8 = 0)
    ∧ (∃ (s : State) (c : Fin 68) (rs1 : BitVec 5) (imm : BitVec 16) (ea : ℕ), s.ready c ∧ EffAddr s c rs1 imm = ea ∧ ea < 61440 ∧ ea % 4 = 0)
    ∧ (∃ (s : State) (c : Fin 68) (rs1 : BitVec 5) (imm : BitVec 16) (ea : ℕ), s.ready c ∧ EffAddr s c rs1 imm = ea ∧ ea < 61440)
    ∧ (∃ (s : State) (c : Fin 68) (rs1 : BitVec 5) (imm : BitVec 16) (ea : ℕ), s.ready c ∧ EffAddr s c rs1 imm = ea ∧ ea < 61440 ∧ ea % 32 = 0) :=
  ⟨⟨wx 61432 5, 0, 1, 0, 61432, by decide +kernel⟩,
    ⟨wx 61436 5, 0, 1, 0, 61436, by decide +kernel⟩,
    ⟨wx 61439 5, 0, 1, 0, 61439, by decide +kernel⟩,
    ⟨wx 61408 5, 0, 1, 0, 61408, by decide +kernel⟩⟩

theorem test_meets_KeeperStoreStoresChangeTheirBytesOnly :
  (∃ (s : State) (c : Fin 68) (rs1 : BitVec 5) (imm : BitVec 16) (ea : ℕ), s.ready c ∧ EffAddr s c rs1 imm = ea ∧ 268435456 ≤ ea ∧ ea < 285212672 ∧ ea % 8 = 0)
    ∧ (∃ (s : State) (c : Fin 68) (rs1 : BitVec 5) (imm : BitVec 16) (ea : ℕ), s.ready c ∧ EffAddr s c rs1 imm = ea ∧ 268435456 ≤ ea ∧ ea < 285212672 ∧ ea % 4 = 0)
    ∧ (∃ (s : State) (c : Fin 68) (rs1 : BitVec 5) (imm : BitVec 16) (ea : ℕ), s.ready c ∧ EffAddr s c rs1 imm = ea ∧ 268435456 ≤ ea ∧ ea < 285212672)
    ∧ (∃ (s : State) (c : Fin 68) (rs1 : BitVec 5) (imm : BitVec 16) (ea : ℕ), s.ready c ∧ EffAddr s c rs1 imm = ea ∧ 268435456 ≤ ea ∧ ea < 285212672 ∧ ea % 32 = 0) :=
  ⟨⟨wx 0x10FFFFF8 5, 64, 1, 0, 0x10FFFFF8, by decide +kernel⟩,
    ⟨wx 0x10FFFFFC 5, 64, 1, 0, 0x10FFFFFC, by decide +kernel⟩,
    ⟨wx 0x10FFFFFF 5, 64, 1, 0, 0x10FFFFFF, by decide +kernel⟩,
    ⟨wx 0x10FFFFE0 5, 64, 1, 0, 0x10FFFFE0, by decide +kernel⟩⟩

theorem test_meets_BadAccessesTrapBeforeWriting :
  (∃ (s : State) (c : Fin 68) (rs1 : BitVec 5) (imm : BitVec 16) (ea : ℕ), s.ready c ∧ s.handles c ∧ EffAddr s c rs1 imm = ea ∧ ea % 8 ≠ 0)
    ∧ (∃ (s : State) (c : Fin 68) (rs1 : BitVec 5) (imm : BitVec 16) (ea : ℕ), s.ready c ∧ s.handles c ∧ EffAddr s c rs1 imm = ea ∧ ea % 8 = 0 ∧ (65536 ≤ ea ∧ ea < 268435456 ∨ 369098752 ≤ ea ∧ ea < 536870912 ∨ 545259520 ≤ ea ∨ 536870912 ≤ ea ∧ 8 ≠ 4 ∧ 8 ≠ 8))
    ∧ (∃ (s : State) (c : Fin 68) (rs1 : BitVec 5) (imm : BitVec 16) (ea : ℕ), s.ready c ∧ s.handles c ∧ EffAddr s c rs1 imm = ea ∧ ea % 4 ≠ 0)
    ∧ (∃ (s : State) (c : Fin 68) (rs1 : BitVec 5) (imm : BitVec 16) (ea : ℕ), s.ready c ∧ s.handles c ∧ EffAddr s c rs1 imm = ea ∧ ea % 4 = 0 ∧ (65536 ≤ ea ∧ ea < 268435456 ∨ 369098752 ≤ ea ∧ ea < 536870912 ∨ 545259520 ≤ ea ∨ 536870912 ≤ ea ∧ 4 ≠ 4 ∧ 4 ≠ 8))
    ∧ (∃ (s : State) (c : Fin 68) (rs1 : BitVec 5) (imm : BitVec 16) (ea : ℕ), s.ready c ∧ s.handles c ∧ EffAddr s c rs1 imm = ea ∧ ea % 1 = 0 ∧ (65536 ≤ ea ∧ ea < 268435456 ∨ 369098752 ≤ ea ∧ ea < 536870912 ∨ 545259520 ≤ ea ∨ 536870912 ≤ ea ∧ 1 ≠ 4 ∧ 1 ≠ 8))
    ∧ (∃ (s : State) (c : Fin 68) (rs1 : BitVec 5) (imm : BitVec 16) (ea : ℕ), s.ready c ∧ s.handles c ∧ EffAddr s c rs1 imm = ea ∧ ea % 32 ≠ 0)
    ∧ (∃ (s : State) (c : Fin 68) (rs1 : BitVec 5) (imm : BitVec 16) (ea : ℕ), s.ready c ∧ s.handles c ∧ EffAddr s c rs1 imm = ea ∧ ea % 32 = 0 ∧ (65536 ≤ ea ∧ ea < 268435456 ∨ 369098752 ≤ ea ∧ ea < 536870912 ∨ 545259520 ≤ ea ∨ 536870912 ≤ ea ∧ 32 ≠ 4 ∧ 32 ≠ 8))
    ∧ (∃ (s : State) (c : Fin 68) (rs1 : BitVec 5) (imm : BitVec 16) (ea : ℕ), s.ready c ∧ s.handles c ∧ EffAddr s c rs1 imm = ea ∧ ea % 8 = 0 ∧ ((65536 ≤ ea ∧ ea < 268435456 ∨ 369098752 ≤ ea ∧ ea < 536870912 ∨ 545259520 ≤ ea ∨ 536870912 ≤ ea ∧ 8 ≠ 4 ∧ 8 ≠ 8) ∨ 61440 ≤ ea ∧ ea < 65536 ∨ 285212672 ≤ ea ∧ ea < 369098752))
    ∧ (∃ (s : State) (c : Fin 68) (rs1 : BitVec 5) (imm : BitVec 16) (ea : ℕ), s.ready c ∧ s.handles c ∧ EffAddr s c rs1 imm = ea ∧ ea % 4 = 0 ∧ ((65536 ≤ ea ∧ ea < 268435456 ∨ 369098752 ≤ ea ∧ ea < 536870912 ∨ 545259520 ≤ ea ∨ 536870912 ≤ ea ∧ 4 ≠ 4 ∧ 4 ≠ 8) ∨ 61440 ≤ ea ∧ ea < 65536 ∨ 285212672 ≤ ea ∧ ea < 369098752))
    ∧ (∃ (s : State) (c : Fin 68) (rs1 : BitVec 5) (imm : BitVec 16) (ea : ℕ), s.ready c ∧ s.handles c ∧ EffAddr s c rs1 imm = ea ∧ ea % 1 = 0 ∧ ((65536 ≤ ea ∧ ea < 268435456 ∨ 369098752 ≤ ea ∧ ea < 536870912 ∨ 545259520 ≤ ea ∨ 536870912 ≤ ea ∧ 1 ≠ 4 ∧ 1 ≠ 8) ∨ 61440 ≤ ea ∧ ea < 65536 ∨ 285212672 ≤ ea ∧ ea < 369098752))
    ∧ (∃ (s : State) (c : Fin 68) (rs1 : BitVec 5) (imm : BitVec 16) (ea : ℕ), s.ready c ∧ s.handles c ∧ EffAddr s c rs1 imm = ea ∧ ea % 32 = 0 ∧ ((65536 ≤ ea ∧ ea < 268435456 ∨ 369098752 ≤ ea ∧ ea < 536870912 ∨ 545259520 ≤ ea ∨ 536870912 ≤ ea ∧ 32 ≠ 4 ∧ 32 ≠ 8) ∨ 61440 ≤ ea ∧ ea < 65536 ∨ 285212672 ≤ ea ∧ ea < 369098752)) :=
  ⟨⟨wx 65535 5, 0, 1, 0, 65535, by decide +kernel⟩,
    ⟨wx 65536 5, 0, 1, 0, 65536, by decide +kernel⟩,
    ⟨wx 65535 5, 0, 1, 0, 65535, by decide +kernel⟩,
    ⟨wx 0x16000000 5, 0, 1, 0, 0x16000000, by decide +kernel⟩,
    ⟨wx 0x20000000 5, 0, 1, 0, 0x20000000, by decide +kernel⟩,
    ⟨wx 65535 5, 0, 1, 0, 65535, by decide +kernel⟩,
    ⟨wx 0x20000000 5, 0, 1, 0, 0x20000000, by decide +kernel⟩,
    ⟨wx 61440 5, 0, 1, 0, 61440, by decide +kernel⟩,
    ⟨wx 0x11000000 5, 64, 1, 0, 0x11000000, by decide +kernel⟩,
    ⟨wx 0xFFFFFFFFFFFFFFFF 5, 64, 1, 0, 0xFFFFFFFFFFFFFFFF, by decide +kernel⟩,
    ⟨wx 0x20000000 5, 64, 1, 0, 0x20000000, by decide +kernel⟩⟩

theorem test_meets_RegisterRangeReachesBar0 :
  (∃ (s : State) (c : Fin 68) (rs1 : BitVec 5) (imm : BitVec 16) (ea : ℕ), s.ready c ∧ EffAddr s c rs1 imm = ea ∧ 536870912 ≤ ea ∧ ea < 545259520 ∧ ea % 8 = 0)
    ∧ (∃ (s : State) (c : Fin 68) (rs1 : BitVec 5) (imm : BitVec 16) (ea : ℕ), s.ready c ∧ EffAddr s c rs1 imm = ea ∧ 536870912 ≤ ea ∧ ea < 545259520 ∧ ea % 4 = 0) :=
  ⟨⟨wx 0x20011000 5, 64, 1, 0, 0x20011000, by decide +kernel⟩,
    ⟨wx 0x20011100 5, 64, 1, 0, 0x20011100, by decide +kernel⟩⟩

theorem test_meets_TrapsAndHalts :
  (∃ (s : State) (c : Fin 68) (word : BitVec 32), s.ready c ∧ illegalWord word.toNat = true ∧ s.handles c)
    ∧ (∃ (s : State) (c : Fin 68) (word : BitVec 32), s.ready c ∧ illegalWord word.toNat = true ∧ ((s.core ↑c).tvec = 0 ∨ (s.core ↑c).inTrap = true))
    ∧ (∃ (s : State) (c : Fin 68) (rs1 : BitVec 5) (imm : BitVec 16), s.ready c ∧ s.handles c ∧ EffAddr s c rs1 imm % 4 ≠ 0)
    ∧ (∃ (s : State) (c : Fin 68) (rs1 : BitVec 5) (imm : BitVec 16), s.ready c ∧ s.handles c ∧ EffAddr s c rs1 imm % 4 = 0 ∧ 65536 ≤ EffAddr s c rs1 imm) :=
  ⟨⟨W, 64, 0, by decide +kernel⟩,
    ⟨wc { C0 with tvec := 0 }, 64, 0, by decide +kernel⟩,
    ⟨wx 2 0, 64, 1, 0, by decide +kernel⟩,
    ⟨wx 65536 0, 64, 1, 0, by decide +kernel⟩⟩

theorem test_meets_IllegalWordsByOpcode :
  (∃ (op : ℕ) (rest : ℕ), rest < 2 ^ 26 ∧ (op ∈ [0, 11, 21, 23] ∨ 48 ≤ op ∧ op < 64))
    ∧ (∃ (op : ℕ) (rest : ℕ), rest < 2 ^ 26 ∧ op = 1)
    ∧ (∃ (op : ℕ) (rest : ℕ), rest < 2 ^ 26 ∧ (op = 9 ∨ op = 30))
    ∧ (∃ (op : ℕ) (rest : ℕ), rest < 2 ^ 26 ∧ op ∈ [2, 3, 4, 5, 6, 7, 10, 12, 13, 14, 15, 16, 17, 24, 25, 26, 27, 28, 29, 31]) :=
  ⟨⟨48, 0, by decide +kernel⟩,
    ⟨1, 0, by decide +kernel⟩,
    ⟨30, 0, by decide +kernel⟩,
    ⟨31, 0, by decide +kernel⟩⟩

theorem test_meets_KickAndSafe :
  (∃ (s : State) (c : Fin 68), s.ready c) :=
  ⟨wx 5 0, 64, by decide +kernel⟩

theorem test_meets_EvpopPopsTheOldest :
  (∃ (s : State) (c : Fin 68) (pre : List CoreEv) (post : List CoreEv) (e : CoreEv), s.ready c ∧ (s.core ↑c).queue = pre ++ e :: post ∧ (∀ x ∈ pre, x.popped = true) ∧ e.popped = false)
    ∧ (∃ (s : State) (c : Fin 68), s.ready c ∧ (∀ x ∈ (s.core ↑c).queue, x.popped = true)) :=
  ⟨⟨wc { C0 with queue := [⟨1, 5, 0, false, false, 0, 0, 0, 0, 0, 0, 0, true⟩, ⟨2, 5, 1, false, false, 1, 0, 0, 0, 0, 0, 0, false⟩] }, 64, [⟨1, 5, 0, false, false, 0, 0, 0, 0, 0, 0, 0, true⟩], [], ⟨2, 5, 1, false, false, 1, 0, 0, 0, 0, 0, 0, false⟩, by decide +kernel⟩,
    ⟨W, 64, by decide +kernel⟩⟩

theorem test_meets_EretAndCsrs :
  (∃ (s : State) (c : Fin 68), s.ready c ∧ BitVec.toNat (s.core ↑c).epc % 4 = 0 ∧ BitVec.toNat (s.core ↑c).epc < 65536)
    ∧ (∃ (s : State) (c : Fin 68) (n : BitVec 5), s.ready c ∧ n.toNat ≤ 12)
    ∧ (∃ (s : State) (c : Fin 68) (n : BitVec 5), s.ready c ∧ n = 3)
    ∧ (∃ (s : State) (c : Fin 68) (n : BitVec 5), s.ready c ∧ n = 4)
    ∧ (∃ (s : State) (c : Fin 68) (n : BitVec 5), s.ready c ∧ n = 5)
    ∧ (∃ (s : State) (c : Fin 68) (n : BitVec 5), s.ready c ∧ n = 11)
    ∧ (∃ (s : State) (c : Fin 68) (n : BitVec 5), s.ready c ∧ s.handles c ∧ 12 < n.toNat)
    ∧ (∃ (s : State) (c : Fin 68) (n : BitVec 5), s.ready c ∧ s.handles c ∧ n.toNat ∉ [3, 4, 5, 11]) :=
  ⟨⟨wc { C0 with epc := 65532, inTrap := true }, 64, by decide +kernel⟩,
    ⟨W, 64, 12, by decide +kernel⟩,
    ⟨wx 5 0, 64, 3, by decide +kernel⟩,
    ⟨wx 5 0, 64, 4, by decide +kernel⟩,
    ⟨wx 5 0, 64, 5, by decide +kernel⟩,
    ⟨wx 5 0, 64, 11, by decide +kernel⟩,
    ⟨wx 5 0, 64, 13, by decide +kernel⟩,
    ⟨wx 5 0, 64, 0, by decide +kernel⟩⟩

theorem test_meets_SendDeliversMail :
  (∃ (s : State) (c : Fin 68) (rs1 : BitVec 5) (k : ℕ), s.ready c ∧ BitVec.toNat ((s.core ↑c).getX rs1.toNat) = k ∧ 68 ≤ k)
    ∧ (∃ (s : State) (c : Fin 68) (rs1 : BitVec 5) (k : ℕ), s.ready c ∧ BitVec.toNat ((s.core ↑c).getX rs1.toNat) = k ∧ 64 ≤ k ∧ k < 68 ∧ freeSlot (s.core k).queue = none)
    ∧ (∃ (s : State) (c : Fin 68) (rs1 : BitVec 5) (k : ℕ) (i : ℕ), s.ready c ∧ BitVec.toNat ((s.core ↑c).getX rs1.toNat) = k ∧ 64 ≤ k ∧ k < 68 ∧ k ≠ ↑c ∧ freeSlot (s.core k).queue = some i) :=
  ⟨⟨wx 68 0, 64, 1, 68, by decide +kernel⟩,
    ⟨{ wx 67 0 with cores := [(0, C0), (64, { C0 with x := [(1, 67)] }), (67, { C0 with queue := (List.range 64).map (fun i => ⟨1, 5, i, false, false, 0, 0, 0, 0, 0, 0, 0, true⟩) })] }, 64, 1, 67, by decide +kernel⟩,
    ⟨wx 67 0, 64, 1, 67, 0, by decide +kernel⟩⟩

end A

namespace B

def cw : Core := { C0 with run := 1, wait := some (3, 16), pc := 65528, queue := [⟨1, 5, 0, false, false, 0, 0, 0, 0, 0, 0, 0, false⟩] }
def sh : Shadow := ⟨40, [(3, 9)], [], 0, 8⟩
def cas : List AsyncOp := [⟨0x22, 13, 5⟩, ⟨0x22, 13, 6⟩, ⟨0x22, 13, 7⟩, ⟨0x22, 13, 8⟩]
def keyW (k : UnitKey) : Nat := k.unit + 2 ^ 19 * k.kind + 2 ^ 23 * k.sub
def kt : UnitKey := ⟨1, 5, 0⟩
def weC (e : Option Entry) (b : Nat) : State := { wx (keyW kt) b with ledger := { slots := [(0, e)] } }
def wlo (e : Option Entry) (o : LedgerOp) : State := { wc { C0 with ledgerOp := some o } with ledger := { slots := [(0, e), (1, some (ent ⟨2, 5, 1⟩ 1 2))] } }
def qo : LedgerOp := ⟨3, kt, 0, 3, 0, none⟩
def lo (kind arg : Nat) : LedgerOp := ⟨kind, kt, arg, 3, 1, none⟩
def rg7 : Regrowth := { logical := 5, failed := 5, cause := 0x20, phase := 7 }

theorem test_meets_WaitevEndsWhenASourceIsPending :
  (∃ (s : State) (c : Fin 68) (rd : BitVec 5) (mask : ℕ), (s.core ↑c).pc + 4 < 65536 ∧ (s.core ↑c).run = 1 ∧ (s.core ↑c).wait = some (rd.toNat, mask) ∧ pendingMask (s.core ↑c) s.now &&& mask ≠ 0 ∧ pendingMask (s.core ↑c) s.now < 8192)
    ∧ (∃ (s : State) (c : Fin 68) (rd : BitVec 5) (mask : ℕ), (s.core ↑c).pc + 4 < 65536 ∧ (s.core ↑c).run = 1 ∧ (s.core ↑c).wait = some (rd.toNat, mask) ∧ mask.testBit 10 = true ∧ (BitVec.toNat (s.core ↑c).alarm).testBit 63 = true ∧ BitVec.toNat (s.core ↑c).alarm % 2 ^ 48 ≤ s.now % 2 ^ 48)
    ∧ (∃ (s : State) (c : Fin 68) (rd : BitVec 5) (mask : ℕ), (s.core ↑c).pc + 4 < 65536 ∧ (s.core ↑c).run = 1 ∧ (s.core ↑c).wait = some (rd.toNat, mask) ∧ pendingMask (s.core ↑c) s.now &&& mask = 0) :=
  ⟨⟨wc cw, 0, 3, 16, by decide +kernel⟩,
    ⟨wc { C0 with run := 1, wait := some (3, 1024), alarm := BitVec.ofNat 64 (2^63 + 20000000000) }, 0, 3, 1024, by decide +kernel⟩,
    ⟨wc { cw with queue := [] }, 0, 3, 16, by decide +kernel⟩⟩

theorem test_meets_WaitevStopsOrAnswers :
  (∃ (s : State) (c : Fin 68) (rs1 : BitVec 5) (poll : Bool) (mask : ℕ), s.ready c ∧ BitVec.toNat ((s.core ↑c).getX rs1.toNat) = mask ∧ (8192 ≤ mask ∨ mask = 0 ∧ poll = false))
    ∧ (∃ (s : State) (c : Fin 68) (rs1 : BitVec 5) (poll : Bool) (mask : ℕ), s.ready c ∧ BitVec.toNat ((s.core ↑c).getX rs1.toNat) = mask ∧ mask < 8192 ∧ (poll = true ∨ pendingMask (s.core ↑c) s.now &&& mask ≠ 0))
    ∧ (∃ (s : State) (c : Fin 68) (rs1 : BitVec 5) (poll : Bool) (mask : ℕ), s.ready c ∧ BitVec.toNat ((s.core ↑c).getX rs1.toNat) = mask ∧ mask < 8192 ∧ mask ≠ 0 ∧ poll = false ∧ pendingMask (s.core ↑c) s.now &&& mask = 0) :=
  ⟨⟨wx 0 0, 64, 1, false, 0, by decide +kernel⟩,
    ⟨wx 0 0, 64, 1, true, 0, by decide +kernel⟩,
    ⟨wx 1 0, 64, 1, false, 1, by decide +kernel⟩⟩

theorem test_meets_WatchdogExpiryStopsTheCore :
  (∃ (s : State) (c : Fin 68), s.boot.aoiOn = true ∧ (s.core ↑c).loaded = true ∧ ((s.core ↑c).run = 0 ∨ (s.core ↑c).run = 2) ∧ s.wdPeriod ≤ s.wdElapsed ↑c ∧ s.secondExpiry ↑c = false) :=
  ⟨W, 64, by decide +kernel⟩

theorem test_meets_RestartFromTheSafePoint :
  (∃ (s : State) (c : Fin 68) (h : Shadow), s.boot.aoiOn = true ∧ (s.core ↑c).loaded = true ∧ (s.core ↑c).run = 3 ∧ (s.core ↑c).safe = some h)
    ∧ (∃ (s : State) (c : Fin 68), s.boot.aoiOn = true ∧ (s.core ↑c).loaded = true ∧ (s.core ↑c).run = 3 ∧ (s.core ↑c).safe = none) :=
  ⟨⟨wc { C0 with run := 3, safe := some sh, queue := [⟨1, 5, 0, false, false, 0, 0, 0, 0, 0, 0, 0, true⟩] }, 64, sh, by decide +kernel⟩,
    ⟨wc { C0 with run := 3, pc := 4 }, 64, by decide +kernel⟩⟩

theorem test_meets_AsyncCompletionPostsItsEvent :
  (∃ (s : State) (c : Fin 68) (i : ℕ) (slot : ℕ) (o : AsyncOp) (status : BitVec 8), (s.core ↑c).async[i]? = some o ∧ (status = 0 ∨ 2 ≤ status.toNat ∧ status.toNat ≤ 7) ∧ freeSlot (s.core ↑c).queue = some slot) :=
  ⟨wc { C0 with async := [⟨0x22, 13, 5⟩, ⟨0x22, 13, 6⟩] }, 64, 1, 0, ⟨0x22, 13, 6⟩, 7, by decide +kernel⟩

theorem test_meets_ArmEntersTheArmedQueue :
  (∃ (s : State) (c : Fin 68) (rs1 : BitVec 5) (tile : ℕ), s.ready c ∧ BitVec.toNat ((s.core ↑c).getX rs1.toNat) = tile ∧ tileOk tile = false)
    ∧ (∃ (s : State) (c : Fin 68) (rs1 : BitVec 5) (tile : ℕ), s.ready c ∧ BitVec.toNat ((s.core ↑c).getX rs1.toNat) = tile ∧ tileOk tile = true ∧ (¬MayName c (tileField tile)))
    ∧ (∃ (s : State) (c : Fin 68) (rs1 : BitVec 5) (tile : ℕ), s.ready c ∧ BitVec.toNat ((s.core ↑c).getX rs1.toNat) = tile ∧ tileOk tile = true ∧ MayName c (tileField tile) ∧ s.armable tile = true)
    ∧ (∃ (s : State) (c : Fin 68) (rs1 : BitVec 5) (tile : ℕ), s.ready c ∧ BitVec.toNat ((s.core ↑c).getX rs1.toNat) = tile ∧ tileOk tile = true ∧ MayName c (tileField tile) ∧ s.armable tile = false) :=
  ⟨⟨wx 120 0, 64, 1, 120, by decide +kernel⟩,
    ⟨wx 16384 0, 0, 1, 16384, by decide +kernel⟩,
    ⟨(wx 5 0).put .fstEpCtrlState 0 2, 64, 1, 5, by decide +kernel⟩,
    ⟨wx 5 0, 64, 1, 5, by decide +kernel⟩⟩

theorem test_meets_TestOrdersAVisit :
  (∃ (s : State) (c : Fin 68) (rs1 : BitVec 5) (mode : BitVec 2) (tile : ℕ), s.ready c ∧ BitVec.toNat ((s.core ↑c).getX rs1.toNat) = tile ∧ tileOk tile = true ∧ MayName c (tileField tile) ∧ mode ≠ 3 ∧ 4 ≤ (s.core ↑c).async.length)
    ∧ (∃ (s : State) (c : Fin 68) (rs1 : BitVec 5) (mode : BitVec 2) (tile : ℕ), s.ready c ∧ BitVec.toNat ((s.core ↑c).getX rs1.toNat) = tile ∧ tileOk tile = true ∧ MayName c (tileField tile) ∧ mode ≠ 3 ∧ (s.core ↑c).async.length < 4 ∧ s.fnOn (Func.fieldSelfTest (toFin32 (tileField tile))) = true ∧ s.orderable tile = true)
    ∧ (∃ (s : State) (c : Fin 68) (rs1 : BitVec 5) (mode : BitVec 2) (tile : ℕ), s.ready c ∧ BitVec.toNat ((s.core ↑c).getX rs1.toNat) = tile ∧ tileOk tile = true ∧ MayName c (tileField tile) ∧ mode ≠ 3 ∧ (s.core ↑c).async.length < 4 ∧ (s.fnOn (Func.fieldSelfTest (toFin32 (tileField tile))) && s.orderable tile) = false)
    ∧ (∃ (s : State) (c : Fin 68) (rs1 : BitVec 5) (mode : BitVec 2) (tile : ℕ), s.ready c ∧ BitVec.toNat ((s.core ↑c).getX rs1.toNat) = tile ∧ tileOk tile = true ∧ MayName c (tileField tile) ∧ mode = 3 ∧ s.handles c) :=
  ⟨⟨wc { C0 with x := [(1, 5)], async := cas }, 0, 1, 0, 5, by decide +kernel⟩,
    ⟨(wx 29 0).put .fstStCtrlState 0 2, 0, 1, 0, 29, by decide +kernel⟩,
    ⟨wx 29 0, 0, 1, 0, 29, by decide +kernel⟩,
    ⟨wx 29 0, 0, 1, 3, 29, by decide +kernel⟩⟩

theorem test_meets_QuarTakesSuspectToQuarantined :
  (∃ (s : State) (c : Fin 68) (rs1 : BitVec 5) (k : UnitKey), s.ready c ∧ keyArg ((s.core ↑c).getX rs1.toNat) = some k)
    ∧ (∃ (s : State) (c : Fin 68) (rs1 : BitVec 5), s.ready c ∧ keyArg ((s.core ↑c).getX rs1.toNat) = none)
    ∧ (∃ (s : State) (c : Fin 68) (rd : BitVec 5) (k : UnitKey) (i : ℕ) (e : Entry), (s.core ↑c).ledgerOp = some ({ kind := 3, key := k, arg := 0, rd := rd.toNat, d := 0, done := none } : LedgerOp) ∧ keyNotHere (↑c) k = false ∧ s.findEntry k = some (i, e) ∧ e.state = 0 ∧ k = e.key ∧ s.outBefore k = true ∧ (keyTile k).isSome = true)
    ∧ (∃ (s : State) (c : Fin 68) (rd : BitVec 5) (k : UnitKey) (i : ℕ) (e : Entry) (j : ℕ), (s.core ↑c).ledgerOp = some ({ kind := 3, key := k, arg := 0, rd := rd.toNat, d := 0, done := none } : LedgerOp) ∧ keyNotHere (↑c) k = false ∧ s.findEntry k = some (i, e) ∧ e.state = 0 ∧ k = e.key ∧ s.outBefore k = true ∧ (keyTile k).isSome = true ∧ j ≠ i)
    ∧ (∃ (s : State) (c : Fin 68) (rd : BitVec 5) (k : UnitKey), (s.core ↑c).ledgerOp = some ({ kind := 3, key := k, arg := 0, rd := rd.toNat, d := 0, done := none } : LedgerOp) ∧ keyNotHere (↑c) k = false ∧ (s.findEntry k = none ∨ ∃ j x, s.findEntry k = some (j, x) ∧ x.state ≠ 0))
    ∧ (∃ (s : State) (c : Fin 68) (rd : BitVec 5) (k : UnitKey) (st : ℕ) (v : ℕ), (s.core ↑c).ledgerOp = some ({ kind := 3, key := k, arg := 0, rd := rd.toNat, d := 0, done := some (st, v) } : LedgerOp) ∧ (s.core ↑c).pc + 4 < 65536 ∧ st < 256 ∧ v < 2 ^ 32) :=
  ⟨⟨weC (some (ent kt 0 2)) 0, 64, 1, kt, by decide +kernel⟩,
    ⟨wx (2 ^ 64 - 1) 0, 0, 1, by decide +kernel⟩,
    ⟨wlo (some (ent kt 0 2)) qo, 64, 3, kt, 0, ent kt 0 2, by decide +kernel⟩,
    ⟨wlo (some (ent kt 0 2)) qo, 64, 3, kt, 0, ent kt 0 2, 1, by decide +kernel⟩,
    ⟨wlo none qo, 0, 3, kt, by decide +kernel, by decide +kernel, Or.inl (by decide +kernel)⟩,
    ⟨wlo none { qo with done := some (255, 4294967295) }, 64, 3, kt, 255, 4294967295, by decide +kernel⟩⟩

theorem test_meets_RemapAnswersARefusedRegrowth :
  (∃ (s : State) (c : Fin 68) (rs1 : BitVec 5) (l : ℕ), s.ready c ∧ BitVec.toNat ((s.core ↑c).getX rs1.toNat) = l ∧ logicalOk l = true ∧ MayName c (tileField l) ∧ s.regrowAt l [rgRefused] = none)
    ∧ (∃ (s : State) (c : Fin 68) (rs1 : BitVec 5) (l : ℕ) (r : Regrowth), s.ready c ∧ BitVec.toNat ((s.core ↑c).getX rs1.toNat) = l ∧ logicalOk l = true ∧ MayName c (tileField l) ∧ s.regrowAt l [rgRefused] = some r) :=
  ⟨⟨wx 5 0, 64, 1, 5, by decide +kernel⟩,
    ⟨{ wx 5 0 with regrows := [rg7] }, 64, 1, 5, rg7, by decide +kernel⟩⟩

theorem test_meets_FillReadsEnginesAndQueue :
  (∃ (s : State) (c : Fin 68) (rs1 : BitVec 5) (f : ℕ), s.ready c ∧ BitVec.toNat ((s.core ↑c).getX rs1.toNat) = f ∧ 32 ≤ f)
    ∧ (∃ (s : State) (c : Fin 68) (rs1 : BitVec 5) (f : ℕ), s.ready c ∧ BitVec.toNat ((s.core ↑c).getX rs1.toNat) = f ∧ f < 32 ∧ MayName c f) :=
  ⟨⟨wx 32 0, 64, 1, 32, by decide +kernel⟩,
    ⟨{ wx 0 0 with regrows := [{ logical := 5, failed := 5, cause := 0x20, phase := 3, engine := 1 }] }, 64, 1, 0, by decide +kernel⟩⟩

theorem test_meets_SecureNamesABoundary :
  (∃ (s : State) (c : Fin 68) (rs1 : BitVec 5) (n : ℕ), s.ready c ∧ BitVec.toNat ((s.core ↑c).getX rs1.toNat) = n ∧ ↑c < 64)
    ∧ (∃ (s : State) (c : Fin 68) (rs1 : BitVec 5) (n : ℕ), s.ready c ∧ BitVec.toNat ((s.core ↑c).getX rs1.toNat) = n ∧ 64 ≤ ↑c ∧ (s.fnOn Func.securing = false ∨ s.rf RF.kprSecCtrlMapValid 0 = 0 ∨ n ≠ 0 ∧ n ≤ s.rf RF.kprSecStepStep 0))
    ∧ (∃ (s : State) (c : Fin 68) (rs1 : BitVec 5) (n : ℕ), s.ready c ∧ BitVec.toNat ((s.core ↑c).getX rs1.toNat) = n ∧ 64 ≤ ↑c ∧ s.fnOn Func.securing = true ∧ s.rf RF.kprSecCtrlMapValid 0 ≠ 0 ∧ (n = 0 ∨ s.rf RF.kprSecStepStep 0 < n) ∧ s.sec.named.length < 4) :=
  ⟨⟨wx 1 0, 0, 1, 1, by decide +kernel⟩,
    ⟨wx 1 0, 64, 1, 1, by decide +kernel⟩,
    ⟨(wx 1 0).puts [(.kprSecCtrlState, 0, 2), (.kprSecCtrlMapValid, 0, 1)], 64, 1, 1, by decide +kernel⟩⟩

theorem test_meets_DigestReplacesItsRequest :
  (∃ (s : State) (c : Fin 68) (d : Fin 8) (a : ℕ) (n : ℕ) (seed : ℕ), s.ready c ∧ (s.core ↑c).getD ↑d = BitVec.ofNat 256 (a + 2 ^ 64 * n + 2 ^ 128 * seed) ∧ a < 2 ^ 64 ∧ seed < 2 ^ 61 ∧ 0 < n ∧ n ≤ 1048576 ∧ (a + n ≤ 65536 ∨ 268435456 ≤ a ∧ a + n ≤ 369098752 ∧ s.ksPoisoned (a - 268435456) n = false) ∧ 64 ≤ ↑c)
    ∧ (∃ (s : State) (c : Fin 68) (d : Fin 8) (a : ℕ) (n : ℕ) (seed : ℕ) (key : ℕ), s.ready c ∧ (s.core ↑c).getD ↑d = BitVec.ofNat 256 (a + 2 ^ 64 * n + 2 ^ 128 * seed) ∧ a < 2 ^ 64 ∧ seed < 2 ^ 61 ∧ 0 < n ∧ n ≤ 1048576 ∧ (a + n ≤ 65536 ∨ 268435456 ≤ a ∧ a + n ≤ 369098752 ∧ s.ksPoisoned (a - 268435456) n = false) ∧ 64 ≤ ↑c ∧ s.jobKey = some key)
    ∧ (∃ (s : State) (c : Fin 68) (d : Fin 8) (a : ℕ) (n : ℕ) (seed : ℕ), s.ready c ∧ (s.core ↑c).getD ↑d = BitVec.ofNat 256 (a + 2 ^ 64 * n + 2 ^ 128 * seed) ∧ a < 2 ^ 64 ∧ seed < 2 ^ 61 ∧ 0 < n ∧ n ≤ 1048576 ∧ (a + n ≤ 65536 ∨ 268435456 ≤ a ∧ a + n ≤ 369098752 ∧ s.ksPoisoned (a - 268435456) n = false) ∧ 64 ≤ ↑c ∧ s.jobKey = none)
    ∧ (∃ (s : State) (c : Fin 68) (d : Fin 8) (a : ℕ) (n : ℕ) (seed : ℕ), s.ready c ∧ (s.core ↑c).getD ↑d = BitVec.ofNat 256 (a + 2 ^ 64 * n + 2 ^ 128 * seed) ∧ a < 2 ^ 64 ∧ seed < 2 ^ 61 ∧ 0 < n ∧ n ≤ 1048576 ∧ (a + n ≤ 65536 ∨ 268435456 ≤ a ∧ a + n ≤ 369098752 ∧ s.ksPoisoned (a - 268435456) n = false) ∧ 64 ≤ ↑c ∧ n % 4 = 0)
    ∧ (∃ (s : State) (c : Fin 68) (d : Fin 8) (a : ℕ) (n : ℕ) (seed : ℕ), s.ready c ∧ (s.core ↑c).getD ↑d = BitVec.ofNat 256 (a + 2 ^ 64 * n + 2 ^ 128 * seed) ∧ a < 2 ^ 64 ∧ seed < 2 ^ 61 ∧ 0 < n ∧ n ≤ 1048576 ∧ (a + n ≤ 65536 ∨ 268435456 ≤ a ∧ a + n ≤ 369098752 ∧ s.ksPoisoned (a - 268435456) n = false) ∧ ↑c < 64) :=
  ⟨⟨wd (65532 + 2 ^ 64 * 4 + 2 ^ 128 * 7), 64, 1, 65532, 4, 7, by decide +kernel⟩,
    ⟨{ wd (65532 + 2 ^ 64 * 4 + 2 ^ 128 * 7) with jobKey := some 9 }, 64, 1, 65532, 4, 7, 9, by decide +kernel⟩,
    ⟨wd (0x15FFFFFC + 2 ^ 64 * 4 + 2 ^ 128 * 7), 64, 1, 0x15FFFFFC, 4, 7, by decide +kernel⟩,
    ⟨wd (0x15FFFFFC + 2 ^ 64 * 4 + 2 ^ 128 * 1), 64, 1, 0x15FFFFFC, 4, 1, by decide +kernel⟩,
    ⟨wd (65532 + 2 ^ 64 * 4 + 2 ^ 128 * 7), 0, 1, 65532, 4, 7, by decide +kernel⟩⟩

theorem test_meets_LedgerOperationsAnswer :
  (∃ (s : State) (c : Fin 68) (rs1 : BitVec 5) (rs2 : BitVec 5) (k : UnitKey) (kind : ℕ) (arg : ℕ), s.ready c ∧ kind < 3 ∧ (kind = 0 ∧ arg = 0 ∨ kind ≠ 0 ∧ arg = BitVec.toNat ((s.core ↑c).getX rs2.toNat)) ∧ keyArg ((s.core ↑c).getX rs1.toNat) = some k)
    ∧ (∃ (s : State) (c : Fin 68) (rs1 : BitVec 5) (rs2 : BitVec 5) (kind : ℕ) (arg : ℕ), s.ready c ∧ kind < 3 ∧ (kind = 0 ∧ arg = 0 ∨ kind ≠ 0 ∧ arg = BitVec.toNat ((s.core ↑c).getX rs2.toNat)) ∧ keyArg ((s.core ↑c).getX rs1.toNat) = none)
    ∧ (∃ (s : State) (c : Fin 68) (rd : BitVec 5) (d : Fin 8) (k : UnitKey) (kind : ℕ) (arg : ℕ), (s.core ↑c).ledgerOp = some ({ kind := kind, key := k, arg := arg, rd := rd.toNat, d := ↑d, done := none } : LedgerOp) ∧ keyNotHere (↑c) k = false ∧ kind = 0)
    ∧ (∃ (s : State) (c : Fin 68) (rd : BitVec 5) (d : Fin 8) (k : UnitKey) (kind : ℕ) (arg : ℕ), (s.core ↑c).ledgerOp = some ({ kind := kind, key := k, arg := arg, rd := rd.toNat, d := ↑d, done := none } : LedgerOp) ∧ keyNotHere (↑c) k = false ∧ kind = 1 ∧ s.findEntry k = none)
    ∧ (∃ (s : State) (c : Fin 68) (rd : BitVec 5) (d : Fin 8) (k : UnitKey) (kind : ℕ) (arg : ℕ) (j : ℕ) (e : Entry), (s.core ↑c).ledgerOp = some ({ kind := kind, key := k, arg := arg, rd := rd.toNat, d := ↑d, done := none } : LedgerOp) ∧ keyNotHere (↑c) k = false ∧ kind = 1 ∧ s.findEntry k = some (j, e) ∧ e.state = 0 ∧ arg % 64 = 8)
    ∧ (∃ (s : State) (c : Fin 68) (rd : BitVec 5) (d : Fin 8) (k : UnitKey) (kind : ℕ) (arg : ℕ), (s.core ↑c).ledgerOp = some ({ kind := kind, key := k, arg := arg, rd := rd.toNat, d := ↑d, done := none } : LedgerOp) ∧ keyNotHere (↑c) k = false ∧ kind = 2 ∧ causeKnown (arg % 4096) = true ∧ addExcluded.contains (arg % 4096) = false ∧ causeKind (arg % 4096) = k.kind)
    ∧ (∃ (s : State) (c : Fin 68) (rd : BitVec 5) (d : Fin 8) (k : UnitKey) (kind : ℕ) (arg : ℕ) (st : ℕ) (v : ℕ), kind < 3 ∧ (s.core ↑c).ledgerOp = some ({ kind := kind, key := k, arg := arg, rd := rd.toNat, d := ↑d, done := some (st, v) } : LedgerOp) ∧ (s.core ↑c).pc + 4 < 65536 ∧ st < 256 ∧ v < 2 ^ 32)
    ∧ (∃ (s : State) (k : UnitKey), s.findEntry k = none ∧ s.histOf k = none) :=
  ⟨⟨weC (some (ent kt 0 2)) 0, 64, 1, 0, kt, 0, 0, by decide +kernel⟩,
    ⟨wx (2 ^ 64 - 1) 9, 0, 1, 2, 2, 9, by decide +kernel⟩,
    ⟨wlo none (lo 0 0), 64, 3, 1, kt, 0, 0, by decide +kernel⟩,
    ⟨wlo none (lo 1 8), 0, 3, 1, kt, 1, 8, by decide +kernel⟩,
    ⟨wlo (some (ent kt 0 2)) (lo 1 8), 0, 3, 1, kt, 1, 8, 0, ent kt 0 2, by decide +kernel⟩,
    ⟨wlo (some (ent kt 0 2)) (lo 2 0x20), 0, 3, 1, kt, 2, 0x20, by decide +kernel⟩,
    ⟨wlo none { lo 2 0x20 with done := some (255, 4294967295) }, 0, 3, 1, kt, 2, 0x20, 255, 4294967295, by decide +kernel⟩,
    ⟨wlo none qo, kt, by decide +kernel⟩⟩

theorem test_meets_SemaphoreArithmeticSaturates :
  (∃ (s : State) (c : Fin 68) (rs1 : BitVec 5) (rs2 : BitVec 5) (ctr : ℕ) (n : ℕ), s.ready c ∧ BitVec.toNat ((s.core ↑c).getX rs1.toNat) = ctr ∧ BitVec.toNat ((s.core ↑c).getX rs2.toNat) = n ∧ (4096 ≤ ctr ∨ n = 0 ∨ 2 ^ 32 ≤ n))
    ∧ (∃ (s : State) (c : Fin 68) (rs1 : BitVec 5) (rs2 : BitVec 5) (ctr : ℕ) (n : ℕ), s.ready c ∧ BitVec.toNat ((s.core ↑c).getX rs1.toNat) = ctr ∧ BitVec.toNat ((s.core ↑c).getX rs2.toNat) = n ∧ ctr < 4096 ∧ 0 < n ∧ n < 2 ^ 32 ∧ s.rf RF.semFlagsPoison ctr = 1)
    ∧ (∃ (s : State) (c : Fin 68) (rs1 : BitVec 5) (rs2 : BitVec 5) (ctr : ℕ) (n : ℕ), s.ready c ∧ BitVec.toNat ((s.core ↑c).getX rs1.toNat) = ctr ∧ BitVec.toNat ((s.core ↑c).getX rs2.toNat) = n ∧ ctr < 4096 ∧ 0 < n ∧ n < 2 ^ 32 ∧ s.rf RF.semFlagsPoison ctr ≠ 1 ∧ s.rf RF.semCountCount ctr < 2 ^ 32 ∧ s.waits = [] ∧ s.rf RF.kprSecCtrlMapValid 0 ≠ 1)
    ∧ (∃ (s : State) (c : Fin 68) (rs1 : BitVec 5) (rs2 : BitVec 5) (ctr : ℕ) (n : ℕ), s.ready c ∧ BitVec.toNat ((s.core ↑c).getX rs1.toNat) = ctr ∧ BitVec.toNat ((s.core ↑c).getX rs2.toNat) = n ∧ ctr < 4096 ∧ 0 < n ∧ n < 2 ^ 32 ∧ s.rf RF.semFlagsPoison ctr ≠ 1 ∧ s.rf RF.semCountCount ctr < 2 ^ 32) :=
  ⟨⟨wx 4095 0, 0, 1, 2, 4095, 0, by decide +kernel⟩,
    ⟨(wx 4095 1).put .semFlagsPoison 4095 1, 0, 1, 2, 4095, 1, by decide +kernel⟩,
    ⟨(wx 4095 2).put .semCountCount 4095 0xFFFFFFFE, 0, 1, 2, 4095, 2, by decide +kernel⟩,
    ⟨(wx 4095 2).put .semCountCount 4095 1, 0, 1, 2, 4095, 2, by decide +kernel⟩⟩

theorem test_meets_SemwaitAnswersOrHolds :
  (∃ (s : State) (c : Fin 68) (rs1 : BitVec 5) (rs2 : BitVec 5) (ctr : ℕ) (n : ℕ), s.ready c ∧ BitVec.toNat ((s.core ↑c).getX rs1.toNat) = ctr ∧ BitVec.toNat ((s.core ↑c).getX rs2.toNat) = n ∧ ctr < 4096 ∧ 0 < n ∧ n < 2 ^ 32 ∧ s.rf RF.semFlagsPoison ctr ≠ 1 ∧ s.rf RF.semCountCount ctr < 2 ^ 32 ∧ s.waits = [] ∧ n ≤ s.rf RF.semCountCount ctr)
    ∧ (∃ (s : State) (c : Fin 68) (rs1 : BitVec 5) (rs2 : BitVec 5) (ctr : ℕ) (n : ℕ), s.ready c ∧ BitVec.toNat ((s.core ↑c).getX rs1.toNat) = ctr ∧ BitVec.toNat ((s.core ↑c).getX rs2.toNat) = n ∧ ctr < 4096 ∧ 0 < n ∧ n < 2 ^ 32 ∧ s.rf RF.semFlagsPoison ctr ≠ 1 ∧ s.rf RF.semCountCount ctr < 2 ^ 32 ∧ s.waits = [] ∧ s.rf RF.semCountCount ctr < n)
    ∧ (∃ (s : State) (c : Fin 68) (rs1 : BitVec 5) (rs2 : BitVec 5) (ctr : ℕ) (n : ℕ), s.ready c ∧ BitVec.toNat ((s.core ↑c).getX rs1.toNat) = ctr ∧ BitVec.toNat ((s.core ↑c).getX rs2.toNat) = n ∧ ctr < 4096 ∧ 0 < n ∧ n < 2 ^ 32 ∧ s.rf RF.semFlagsPoison ctr ≠ 1 ∧ s.rf RF.semCountCount ctr < 2 ^ 32 ∧ s.waits = [] ∧ s.rf RF.semCountCount ctr < n ∧ (s.core ↑c).async.length < 4) :=
  ⟨⟨(wx 4095 2).put .semCountCount 4095 2, 0, 1, 2, 4095, 2, by decide +kernel⟩,
    ⟨wx 4095 2, 0, 1, 2, 4095, 2, by decide +kernel⟩,
    ⟨wx 4095 2, 0, 1, 2, 4095, 2, by decide +kernel⟩⟩

theorem test_meets_FenceTimeCroakMolt :
  (∃ (s : State) (c : Fin 68), s.ready c)
    ∧ (∃ (s : State) (c : Fin 68), s.ready c ∧ 64 ≤ ↑c)
    ∧ (∃ (s : State) (c : Fin 68), s.ready c ∧ ↑c < 64)
    ∧ (∃ (s : State) (c : Fin 68) (rs1 : BitVec 5) (rs2 : BitVec 5) (code : ℕ) (units : ℕ) (buf : ℕ), s.ready c ∧ BitVec.toNat ((s.core ↑c).getX rs1.toNat) % 2 ^ 15 = code + 256 * units ∧ code < 256 ∧ BitVec.toNat ((s.core ↑c).getX rs2.toNat) = buf ∧ buf % 64 = 0 ∧ buf + 64 * units ≤ 65536 ∧ 1 ≤ code ∧ code ≤ 35 ∧ code ≠ 12 ∧ code ≠ 29 ∧ units = 1 ∧ outRoom s.host.outQ 2 = true)
    ∧ (∃ (s : State) (c : Fin 68) (cls : BitVec 3), s.ready c ∧ cls ≠ 2 ∧ cls ≠ 5 ∧ s.handles c)
    ∧ (∃ (s : State) (c : Fin 68) (rs1 : BitVec 5) (n : ℕ), s.ready c ∧ 64 ≤ ↑c ∧ BitVec.toNat ((s.core ↑c).getX rs1.toNat) = n ∧ n < 4096 ∧ s.rf RF.semFlagsPoison n ≠ 1)
    ∧ (∃ (s : State) (c : Fin 68) (rs1 : BitVec 5) (n : ℕ), s.ready c ∧ 64 ≤ ↑c ∧ BitVec.toNat ((s.core ↑c).getX rs1.toNat) = n ∧ n < 4096 ∧ s.rf RF.semFlagsPoison n = 1 ∧ s.rf RF.kprHangStatusRecovery 0 = 0 ∧ s.recRecent < s.rf RF.kprHangCtrlRecoveryLimit 0 ∧ s.domState Domain.compute = 0) :=
  ⟨⟨wc { C0 with posted := 3 }, 0, by decide +kernel⟩,
    ⟨W, 64, by decide +kernel⟩,
    ⟨W, 0, by decide +kernel⟩,
    ⟨wx (0x23 + 256) 65472, 64, 1, 2, 0x23, 1, 65472, by decide +kernel⟩,
    ⟨W, 64, 7, by decide +kernel⟩,
    ⟨wx 4095 0, 64, 1, 4095, by decide +kernel⟩,
    ⟨(wx 4095 0).puts [(.semFlagsPoison, 4095, 1), (.kprHangCtrlRecoveryLimit, 0, 4)], 64, 1, 4095, by decide +kernel⟩⟩

end B

namespace C

def WT (st : Nat) : State := { W.puts [(.tsnTapCtrlState, 5, st), (.fstTapCtrlEnable, 0, 1), (.kprAllowanceInForce, 0, 200)] with fields := [(0, { tapN := 100 })] }
def blk (ab : Bool) : TapBlock := ⟨.bf16, .bf16, 1, 1, 1, [0], [0], [], [], [0], [.nan], false, ab, false, false, 7⟩
def rec1 (ty : Nat) : BitVec 256 := BitVec.ofNat 256 (withCrc16 30 (1 + 16 * ty + 2 ^ 32 * 5))
def WA : State := { W with fields := [(0, { armed := [⟨4, false, 5, false⟩, ⟨5, false, 6, false⟩] })] }
def a5 : Armed := ⟨5, true, 6, false⟩
def WE : State := { W.puts [(.fstEpRateRate, 0, 10), (.fstEpCtrlState, 0, 2), (.kprAllowanceInForce, 0, 20)] with shares := { replay := 10 }, fields := [(0, { armed := [⟨4, false, 5, false⟩, a5] })] }
def e5 : Episode := { tile := 5, logical := 5, spare := 157, slot := 0, select := 2, window := 256, quota := 30, goAt := 19999999990 }
def WX (e : Episode) (l : List (RF × Nat × Nat)) : State := { W.puts l with episodes := [e], fields := [(0, { epNext := 3, epEnd := 64, armed := [⟨4, false, 5, false⟩, a5] })] }
def rr : RunResult := ⟨1, 2⟩
def r0 : RunResult := ⟨0, 0⟩
def e6 : Episode := { e5 with phase := 4, spare2 := 29, spareRun := some r0, tileRun := some rr, startWtc := 8, t0 := 19999990000, confirmAt := 19999999000, readAt := some 0, loadAt := some 0 }
def e3 (b : RunResult) : Episode := { e6 with phase := 3, spare2 := 0, spareRun := some b }
def cy (ep : BitVec 2) : TileCycle := ⟨[⟨0, 0, ep, 7, 9, false⟩], false, [(0, 5)], [], []⟩
def ec (c : Capturing) : Episode := { e5 with phase := 1, cap := c }
def qr (n : Nat) : List CapBeat := List.replicate n (.records [0])
def wend (v reason confirm : Nat) (l : List Nat) : Ending := ⟨{ e6 with sigDiff := true, saved := 9 }, v, reason, confirm, l⟩

theorem test_meets_TapFollowsItsTransitionTable :
  (∃ (s : State) (tile : ℕ), tileOk tile = true ∧ s.tapWanted tile = true ∧ s.tapMayStart tile = false)
    ∧ (∃ (s : State) (tile : ℕ), tileOk tile = true ∧ s.tapWanted tile = true ∧ s.tapMayStart tile = true ∧ s.rf RF.tsnTapCtrlState tile = 0 ∧ (s.tile tile).tapOffAt + 1 ≤ s.now)
    ∧ (∃ (s : State) (tile : ℕ), tileOk tile = true ∧ s.tapWanted tile = true ∧ s.tapMayStart tile = true ∧ s.rf RF.tsnTapCtrlState tile = 0 ∧ s.now < (s.tile tile).tapOffAt + 1)
    ∧ (∃ (s : State) (tile : ℕ), tileOk tile = true ∧ s.tapWanted tile = true ∧ s.tapMayStart tile = true ∧ s.rf RF.tsnTapCtrlState tile = 1)
    ∧ (∃ (s : State) (tile : ℕ), tileOk tile = true ∧ s.tapWanted tile = true ∧ s.tapMayStart tile = true ∧ s.rf RF.tsnTapCtrlState tile = 2)
    ∧ (∃ (s : State) (tile : ℕ), tileOk tile = true ∧ s.tapWanted tile = true ∧ s.tapMayStart tile = true ∧ s.rf RF.tsnTapCtrlState tile = 3)
    ∧ (∃ (s : State) (tile : ℕ), tileOk tile = true ∧ s.tapWanted tile = false ∧ s.rf RF.tsnTapCtrlState tile = 0)
    ∧ (∃ (s : State) (tile : ℕ), tileOk tile = true ∧ s.tapWanted tile = false ∧ s.rf RF.tsnTapCtrlState tile = 1)
    ∧ (∃ (s : State) (tile : ℕ), tileOk tile = true ∧ s.tapWanted tile = false ∧ s.rf RF.tsnTapCtrlState tile = 2)
    ∧ (∃ (s : State) (tile : ℕ), tileOk tile = true ∧ s.tapWanted tile = false ∧ s.rf RF.tsnTapCtrlState tile = 3)
    ∧ (∃ (s : State) (tile : ℕ), tileOk tile = true ∧ s.rf RF.tsnTapCtrlState tile = 1 ∧ 128 ≤ (s.now + 1 - (s.tile tile).tapStartAt) * s.clock ∧ s.rf RF.tsnTapCtrlDisablePending tile ≠ 1)
    ∧ (∃ (s : State) (tile : ℕ), tileOk tile = true ∧ s.rf RF.tsnTapCtrlState tile = 1 ∧ 128 ≤ (s.now + 1 - (s.tile tile).tapStartAt) * s.clock ∧ s.rf RF.tsnTapCtrlDisablePending tile = 1)
    ∧ (∃ (s : State) (tile : ℕ), tileOk tile = true ∧ s.rf RF.tsnTapCtrlState tile = 3)
    ∧ (∃ (s : State) (tile : ℕ), tileOk tile = true ∧ s.rf RF.tsnTapCtrlState tile = 0 ∧ s.rf RF.tsnTapCtrlEnablePending tile = 1 ∧ (s.tile tile).tapOffAt + 1 ≤ s.now) :=
  ⟨⟨({ WT 0 with fields := [(0, { tapN := 3 })] } : State).puts [(.fstTapStatusWindowStart, 0, 5), (.tsnTapCtrlState, 2, 2)], 5, by decide +kernel⟩,
    ⟨WT 0, 5, by decide +kernel⟩,
    ⟨{ WT 0 with tiles := [(5, { tapOffAt := 20000000000 })] }, 5, by decide +kernel⟩,
    ⟨WT 1, 5, by decide +kernel⟩,
    ⟨WT 2, 5, by decide +kernel⟩,
    ⟨WT 3, 5, by decide +kernel⟩,
    ⟨W, 5, by decide +kernel⟩,
    ⟨W.put .tsnTapCtrlState 5 1, 5, by decide +kernel⟩,
    ⟨W.put .tsnTapCtrlState 5 2, 5, by decide +kernel⟩,
    ⟨W.put .tsnTapCtrlState 5 3, 5, by decide +kernel⟩,
    ⟨W.put .tsnTapCtrlState 5 1, 5, by decide +kernel⟩,
    ⟨W.puts [(.tsnTapCtrlState, 5, 1), (.tsnTapCtrlDisablePending, 5, 1)], 5, by decide +kernel⟩,
    ⟨W.put .tsnTapCtrlState 5 3, 5, by decide +kernel⟩,
    ⟨W.put .tsnTapCtrlEnablePending 5 1, 5, by decide +kernel⟩⟩

theorem test_meets_TapJudgesBlocks :
  (∃ (s : State) (tile : ℕ), tileOk tile = true ∧ (s.rf RF.tsnTapCtrlState tile = 0 ∨ s.rf RF.tsnTapCtrlState tile = 1))
    ∧ (∃ (s : State) (tile : ℕ) (b : TapBlock), tileOk tile = true ∧ s.rf RF.tsnTapCtrlState tile = 3 ∧ ((s.tile tile).drained = true ∨ (s.tile tile).tapNever = true ∨ b.afterOn = true))
    ∧ (∃ (s : State) (tile : ℕ) (b : TapBlock), tileOk tile = true ∧ s.rf RF.tsnTapCtrlState tile = 2 ∧ blkCase b = TapCase.unchecked ∧ s.rf RF.tsnTapUncheckedUnchecked tile + 1 < 2 ^ RF.tsnTapUncheckedUnchecked.spec.width)
    ∧ (∃ (s : State) (tile : ℕ) (b : TapBlock), tileOk tile = true ∧ s.rf RF.tsnTapCtrlState tile = 2 ∧ blkCase b = TapCase.special ∧ s.rf RF.tsnTapCtrlInject tile = 0 ∧ (s.tile tile).holdFrom = none ∧ s.rf RF.tsnTapMismatchesMismatches tile + 1 < 2 ^ RF.tsnTapMismatchesMismatches.spec.width) :=
  ⟨⟨W, 5, by decide +kernel⟩,
    ⟨{ W.put .tsnTapCtrlState 5 3 with tiles := [(5, { drained := true })] }, 5, blk false, by decide +kernel⟩,
    ⟨W.put .tsnTapCtrlState 5 2, 5, blk true, by decide +kernel⟩,
    ⟨W.put .tsnTapCtrlState 5 2, 5, blk false, by decide +kernel⟩⟩

theorem test_meets_TapRecordsBecomeEvents :
  (∃ (r : BitVec 256), recordOk r.toNat 30 = false)
    ∧ (∃ (s : State) (r : BitVec 256), recordOk r.toNat 30 = true ∧ tileOk (bits r.toNat 32 19) = true ∧ s.sliceDepth (tileField (bits r.toNat 32 19)) < 511) :=
  ⟨⟨0, by decide +kernel⟩,
    ⟨W, rec1 1, by decide +kernel⟩⟩

theorem test_meets_TapHoldWindowAndAllocation :
  (∃ (s : State) (tile : ℕ) (h : ℕ), tileOk tile = true ∧ (s.tile tile).holdFrom = some h ∧ 65536 ≤ (s.now + 1 - h) * s.clock ∧ (s.tile tile).held = 0)
    ∧ (∃ (s : State) (tile : ℕ) (h : ℕ), tileOk tile = true ∧ (s.tile tile).holdFrom = some h ∧ 65536 ≤ (s.now + 1 - h) * s.clock ∧ 0 < (s.tile tile).held)
    ∧ (∃ (s : State) (tile : ℕ) (f : Fin 32), tileOk tile = true ∧ (s.field ↑f).tapAdvAt + (s.field ↑f).rotNow ≤ s.now ∧ s.nOn < s.nService ∧ 0 < s.inService ↑f)
    ∧ (∃ (s : State) (tile : ℕ), tileOk tile = true ∧ s.nService ≤ s.nOn)
    ∧ (∃ (tile : ℕ), tileOk tile = true)
    ∧ (∃ (s : State) (tile : ℕ), tileOk tile = true ∧ 0 < s.nService) :=
  ⟨⟨{ W with tiles := [(5, { holdFrom := some 0 })] }, 5, 0, by decide +kernel⟩,
    ⟨{ W with tiles := [(5, { holdFrom := some 0, held := 3 })] }, 5, 0, by decide +kernel⟩,
    ⟨({ W with fields := [(31, { rotNow := 7 })] } : State).put .kprAllowanceInForce 0 20, 5, 31, by decide +kernel⟩,
    ⟨W.put .kprAllowanceInForce 0 2000, 5, by decide +kernel⟩,
    ⟨5, by decide +kernel⟩,
    ⟨W.put .kprAllowanceInForce 0 20, 5, by decide +kernel⟩⟩

theorem test_meets_ArmingFollowsReportsAndCommands :
  (∃ (tile : ℕ), tileOk tile = true)
    ∧ (∃ (s : State) (tile : ℕ), tileOk tile = true ∧ s.armable tile = true)
    ∧ (∃ (s : State) (tile : ℕ), tileOk tile = true ∧ s.armable tile = false)
    ∧ (∃ (s : State) (tile : ℕ) (active : ℕ), tileOk tile = true ∧ s.rf RF.kprMonStatusHold 0 ≠ 1 ∧ s.computeUp = true ∧ s.armedNow tile = false ∧ s.rf RF.tsnExposureExposure tile + active < 2 ^ RF.tsnExposureExposure.spec.width ∧ 2 ^ (s.field (tileField tile)).quotaSeen ≤ s.rf RF.tsnExposureExposure tile + active - s.rf RF.tsnExposureCheckedChecked tile) :=
  ⟨⟨5, by decide +kernel⟩,
    ⟨WA.put .fstEpCtrlState 0 2, 5, by decide +kernel⟩,
    ⟨WA, 5, by decide +kernel⟩,
    ⟨W, 5, 1073741824, by decide +kernel⟩⟩

theorem test_meets_QuotaReevaluation :
  (∃ (s : State) (f : Fin 32) (tile : ℕ) (was : Bool), s.exposedTiles ↑f = [tile] ∧ (s.rf RF.tsnEpCtrlArmed tile = if was = true then 1 else 0) ∧ decide (2 ^ s.quotaLog2 ↑f ≤ s.rf RF.tsnExposureExposure tile - s.rf RF.tsnExposureCheckedChecked tile) = !was) :=
  ⟨W.put .tsnExposureExposure 5 1073741824, 0, 5, false, by decide +kernel⟩

theorem test_meets_EpisodeSlotGivesAGo :
  (∃ (s : State) (f : Fin 32), 0 < s.epRate ↑f ∧ (s.field ↑f).slotAt + (1000000 + s.epRate ↑f - 1) / s.epRate ↑f ≤ s.now ∧ (s.setField (↑f) (have __src := s.field ↑f; { tapN := __src.tapN, tapAdvAt := __src.tapAdvAt, tapWas := __src.tapWas, rotNow := __src.rotNow, armed := __src.armed, slotAt := s.now, epNext := __src.epNext, epEnd := __src.epEnd, lfsr := __src.lfsr, quotaSeen := __src.quotaSeen, beats := __src.beats, owed := __src.owed, verdictsAt := __src.verdictsAt, visitSlotAt := __src.visitSlotAt, scrubAt := __src.scrubAt, scrubPos := __src.scrubPos, scrubOn := __src.scrubOn, scrubEnd := __src.scrubEnd, scrubFed := __src.scrubFed, visitStamp := __src.visitStamp, allDue := __src.allDue, packPtr := __src.packPtr, ceClearAt := __src.ceClearAt })).fnOn (Func.fieldEpisode f) = false)
    ∧ (∃ (s : State) (f : Fin 32) (a : Armed) (sp : ℕ) (n : ℕ), 0 < s.epRate ↑f ∧ (s.field ↑f).slotAt + (1000000 + s.epRate ↑f - 1) / s.epRate ↑f ≤ s.now ∧ (s.setField (↑f) (have __src := s.field ↑f; { tapN := __src.tapN, tapAdvAt := __src.tapAdvAt, tapWas := __src.tapWas, rotNow := __src.rotNow, armed := __src.armed, slotAt := s.now, epNext := __src.epNext, epEnd := __src.epEnd, lfsr := __src.lfsr, quotaSeen := __src.quotaSeen, beats := __src.beats, owed := __src.owed, verdictsAt := __src.verdictsAt, visitSlotAt := __src.visitSlotAt, scrubAt := __src.scrubAt, scrubPos := __src.scrubPos, scrubOn := __src.scrubOn, scrubEnd := __src.scrubEnd, scrubFed := __src.scrubFed, visitStamp := __src.visitStamp, allDue := __src.allDue, packPtr := __src.packPtr, ceClearAt := __src.ceClearAt })).fnOn (Func.fieldEpisode f) = true ∧ ((s.setField (↑f) (have __src := s.field ↑f; { tapN := __src.tapN, tapAdvAt := __src.tapAdvAt, tapWas := __src.tapWas, rotNow := __src.rotNow, armed := __src.armed, slotAt := s.now, epNext := __src.epNext, epEnd := __src.epEnd, lfsr := __src.lfsr, quotaSeen := __src.quotaSeen, beats := __src.beats, owed := __src.owed, verdictsAt := __src.verdictsAt, visitSlotAt := __src.visitSlotAt, scrubAt := __src.scrubAt, scrubPos := __src.scrubPos, scrubOn := __src.scrubOn, scrubEnd := __src.scrubEnd, scrubFed := __src.scrubFed, visitStamp := __src.visitStamp, allDue := __src.allDue, packPtr := __src.packPtr, ceClearAt := __src.ceClearAt })).fieldEpisodes ↑f).length < (s.setField (↑f) (have __src := s.field ↑f; { tapN := __src.tapN, tapAdvAt := __src.tapAdvAt, tapWas := __src.tapWas, rotNow := __src.rotNow, armed := __src.armed, slotAt := s.now, epNext := __src.epNext, epEnd := __src.epEnd, lfsr := __src.lfsr, quotaSeen := __src.quotaSeen, beats := __src.beats, owed := __src.owed, verdictsAt := __src.verdictsAt, visitSlotAt := __src.visitSlotAt, scrubAt := __src.scrubAt, scrubPos := __src.scrubPos, scrubOn := __src.scrubOn, scrubEnd := __src.scrubEnd, scrubFed := __src.scrubFed, visitStamp := __src.visitStamp, allDue := __src.allDue, packPtr := __src.packPtr, ceClearAt := __src.ceClearAt })).maxInflight ↑f ∧ (List.find? (fun a => a.commanded && (s.setField (↑f) (have __src := s.field ↑f; { tapN := __src.tapN, tapAdvAt := __src.tapAdvAt, tapWas := __src.tapWas, rotNow := __src.rotNow, armed := __src.armed, slotAt := s.now, epNext := __src.epNext, epEnd := __src.epEnd, lfsr := __src.lfsr, quotaSeen := __src.quotaSeen, beats := __src.beats, owed := __src.owed, verdictsAt := __src.verdictsAt, visitSlotAt := __src.visitSlotAt, scrubAt := __src.scrubAt, scrubPos := __src.scrubPos, scrubOn := __src.scrubOn, scrubEnd := __src.scrubEnd, scrubFed := __src.scrubFed, visitStamp := __src.visitStamp, allDue := __src.allDue, packPtr := __src.packPtr, ceClearAt := __src.ceClearAt })).checkable a.tile) ((s.setField (↑f) (have __src := s.field ↑f; { tapN := __src.tapN, tapAdvAt := __src.tapAdvAt, tapWas := __src.tapWas, rotNow := __src.rotNow, armed := __src.armed, slotAt := s.now, epNext := __src.epNext, epEnd := __src.epEnd, lfsr := __src.lfsr, quotaSeen := __src.quotaSeen, beats := __src.beats, owed := __src.owed, verdictsAt := __src.verdictsAt, visitSlotAt := __src.visitSlotAt, scrubAt := __src.scrubAt, scrubPos := __src.scrubPos, scrubOn := __src.scrubOn, scrubEnd := __src.scrubEnd, scrubFed := __src.scrubFed, visitStamp := __src.visitStamp, allDue := __src.allDue, packPtr := __src.packPtr, ceClearAt := __src.ceClearAt })).field ↑f).armed = some a) ∧ (s.setField (↑f) (have __src := s.field ↑f; { tapN := __src.tapN, tapAdvAt := __src.tapAdvAt, tapWas := __src.tapWas, rotNow := __src.rotNow, armed := __src.armed, slotAt := s.now, epNext := __src.epNext, epEnd := __src.epEnd, lfsr := __src.lfsr, quotaSeen := __src.quotaSeen, beats := __src.beats, owed := __src.owed, verdictsAt := __src.verdictsAt, visitSlotAt := __src.visitSlotAt, scrubAt := __src.scrubAt, scrubPos := __src.scrubPos, scrubOn := __src.scrubOn, scrubEnd := __src.scrubEnd, scrubFed := __src.scrubFed, visitStamp := __src.visitStamp, allDue := __src.allDue, packPtr := __src.packPtr, ceClearAt := __src.ceClearAt })).pickSpare a.tile = some sp ∧ (s.setField (↑f) (have __src := s.field ↑f; { tapN := __src.tapN, tapAdvAt := __src.tapAdvAt, tapWas := __src.tapWas, rotNow := __src.rotNow, armed := __src.armed, slotAt := s.now, epNext := __src.epNext, epEnd := __src.epEnd, lfsr := __src.lfsr, quotaSeen := __src.quotaSeen, beats := __src.beats, owed := __src.owed, verdictsAt := __src.verdictsAt, visitSlotAt := __src.visitSlotAt, scrubAt := __src.scrubAt, scrubPos := __src.scrubPos, scrubOn := __src.scrubOn, scrubEnd := __src.scrubEnd, scrubFed := __src.scrubFed, visitStamp := __src.visitStamp, allDue := __src.allDue, packPtr := __src.packPtr, ceClearAt := __src.ceClearAt })).freeEpSlot ↑f = some n ∧ (s.setField (↑f) (have __src := s.field ↑f; { tapN := __src.tapN, tapAdvAt := __src.tapAdvAt, tapWas := __src.tapWas, rotNow := __src.rotNow, armed := __src.armed, slotAt := s.now, epNext := __src.epNext, epEnd := __src.epEnd, lfsr := __src.lfsr, quotaSeen := __src.quotaSeen, beats := __src.beats, owed := __src.owed, verdictsAt := __src.verdictsAt, visitSlotAt := __src.visitSlotAt, scrubAt := __src.scrubAt, scrubPos := __src.scrubPos, scrubOn := __src.scrubOn, scrubEnd := __src.scrubEnd, scrubFed := __src.scrubFed, visitStamp := __src.visitStamp, allDue := __src.allDue, packPtr := __src.packPtr, ceClearAt := __src.ceClearAt })).replayHeld < (s.setField (↑f) (have __src := s.field ↑f; { tapN := __src.tapN, tapAdvAt := __src.tapAdvAt, tapWas := __src.tapWas, rotNow := __src.rotNow, armed := __src.armed, slotAt := s.now, epNext := __src.epNext, epEnd := __src.epEnd, lfsr := __src.lfsr, quotaSeen := __src.quotaSeen, beats := __src.beats, owed := __src.owed, verdictsAt := __src.verdictsAt, visitSlotAt := __src.visitSlotAt, scrubAt := __src.scrubAt, scrubPos := __src.scrubPos, scrubOn := __src.scrubOn, scrubEnd := __src.scrubEnd, scrubFed := __src.scrubFed, visitStamp := __src.visitStamp, allDue := __src.allDue, packPtr := __src.packPtr, ceClearAt := __src.ceClearAt })).replayLimit) :=
  ⟨⟨W.put .fstEpRateRate 0 10, 0, by decide +kernel⟩,
    ⟨WE, 0, a5, 157, 0, by decide +kernel⟩⟩

theorem test_meets_EpisodeStartsOrLapses :
  (∃ (s : State) (tile : ℕ) (e : Episode), tileOk tile = true ∧ s.episodeOf tile = some e ∧ e.tile = tile ∧ e.phase = 0 ∧ s.now ≤ e.goAt + s.goWait (tileField tile) ∧ s.fnOn (Func.fieldEpisode (toFin32 (tileField tile))) = true)
    ∧ (∃ (s : State) (tile : ℕ) (e : Episode), tileOk tile = true ∧ s.episodeOf tile = some e ∧ e.tile = tile ∧ e.phase = 0 ∧ e.ready = true)
    ∧ (∃ (s : State) (tile : ℕ) (e : Episode), tileOk tile = true ∧ s.episodeOf tile = some e ∧ e.tile = tile ∧ e.phase = 0 ∧ e.goAt + s.goWait (tileField tile) < s.now ∧ s.rf RF.fstEpLapsedCount (tileField tile) + 1 < 2 ^ RF.fstEpLapsedCount.spec.width) :=
  ⟨⟨WX e5 [(.tsnEpCtrlGo, 5, 1), (.fstEpCtrlState, 0, 2)], 5, e5, by decide +kernel⟩,
    ⟨WX { e5 with ready := true } [(.tsnEpCtrlGo, 5, 1)], 5, { e5 with ready := true }, by decide +kernel⟩,
    ⟨WX { e5 with goAt := 0 } [(.tsnEpCtrlGo, 5, 1)], 5, { e5 with goAt := 0 }, by decide +kernel⟩⟩

theorem test_meets_EpisodeRunsOrOverflows :
  (∃ (s : State) (tile : ℕ) (e : Episode), tileOk tile = true ∧ s.episodeOf tile = some e ∧ e.tile = tile ∧ e.phase = 1 ∧ e.cap.snapDone = true)
    ∧ (∃ (s : State) (tile : ℕ) (e : Episode), tileOk tile = true ∧ s.episodeOf tile = some e ∧ e.tile = tile ∧ e.phase = 2 ∧ e.spare ≠ 0)
    ∧ (∃ (s : State) (tile : ℕ) (e : Episode), tileOk tile = true ∧ s.episodeOf tile = some e ∧ e.tile = tile ∧ e.phase = 2 ∧ s.ranFull e = true)
    ∧ (∃ (s : State) (tile : ℕ) (e : Episode) (x : TileCycle), tileOk tile = true ∧ s.episodeOf tile = some e ∧ e.tile = tile ∧ e.phase = 1 ∧ e.cap.done = false ∧ s.ending = [] ∧ (¬(e.cap.cycle < e.window ∧ (x.arrivals.any fun f => jobFlit f && decide (f.epoch.toNat ≠ e.epoch)) = true)) ∧ queueBeats < (e.cap.step e.window x).2.queue.length)
    ∧ (∃ (s : State) (tile : ℕ) (e : Episode) (x : TileCycle) (l : List ℕ), tileOk tile = true ∧ s.episodeOf tile = some e ∧ e.tile = tile ∧ e.phase = 1 ∧ e.cap.done = false ∧ s.ending = [] ∧ (¬(e.cap.cycle < e.window ∧ (x.arrivals.any fun f => jobFlit f && decide (f.epoch.toNat ≠ e.epoch)) = true)) ∧ (e.cap.step e.window x).2.queue.length ≤ queueBeats ∧ (e.cap.step e.window x).1 = Sent.records l ∧ e.cap.records ≤ slotRecords ∧ slotRecords < e.cap.records + l.length)
    ∧ (∃ (s : State) (tile : ℕ) (e : Episode) (x : TileCycle), tileOk tile = true ∧ s.episodeOf tile = some e ∧ e.tile = tile ∧ e.phase = 1 ∧ e.cap.done = false ∧ s.ending = [] ∧ e.cap.cycle < e.window ∧ ((x.arrivals.any fun f => jobFlit f && decide (f.epoch.toNat ≠ e.epoch)) = true)) :=
  ⟨⟨WX (ec { taken := 2 ^ 784 - 1 }) [], 5, ec { taken := 2 ^ 784 - 1 }, by decide +kernel⟩,
    ⟨WX { e5 with phase := 2 } [], 5, { e5 with phase := 2 }, by decide +kernel⟩,
    ⟨WX { e5 with phase := 2, loadAt := some 0 } [], 5, { e5 with phase := 2, loadAt := some 0 }, by decide +kernel⟩,
    ⟨WX (ec { queue := qr 33 }) [], 5, ec { queue := qr 33 }, cy 0, by decide +kernel⟩,
    ⟨WX (ec { queue := qr 2, records := 18432 }) [], 5, ec { queue := qr 2, records := 18432 }, cy 0, [0], by decide +kernel⟩,
    ⟨WX (ec {}) [], 5, ec {}, cy 1, by decide +kernel⟩⟩

theorem test_meets_EpisodeVerdicts :
  (∃ (s : State) (tile : ℕ) (e : Episode) (a : RunResult) (r : SpareRun), tileOk tile = true ∧ s.episodeOf tile = some e ∧ e.tile = tile ∧ s.ending = [] ∧ e.phase = 3 ∧ e.tileRun = some a ∧ s.readDone e = true ∧ s.replayResult e r = a)
    ∧ (∃ (s : State) (tile : ℕ) (e : Episode) (a : RunResult) (b : RunResult) (r : SpareRun), tileOk tile = true ∧ s.episodeOf tile = some e ∧ e.tile = tile ∧ s.ending = [] ∧ e.phase = 3 ∧ e.tileRun = some a ∧ s.readDone e = true ∧ s.replayResult e r = b ∧ a ≠ b)
    ∧ (∃ (s : State) (tile : ℕ) (e : Episode) (a : RunResult) (b : RunResult) (r : SpareRun), tileOk tile = true ∧ s.episodeOf tile = some e ∧ e.tile = tile ∧ s.ending = [] ∧ e.phase = 4 ∧ e.spare2 ≠ 0 ∧ s.readDone e = true ∧ e.tileRun = some a ∧ e.spareRun = some b ∧ a ≠ b ∧ s.replayResult e r = b)
    ∧ (∃ (s : State) (tile : ℕ) (e : Episode) (a : RunResult) (b : RunResult) (r : SpareRun), tileOk tile = true ∧ s.episodeOf tile = some e ∧ e.tile = tile ∧ s.ending = [] ∧ e.phase = 4 ∧ e.spare2 ≠ 0 ∧ s.readDone e = true ∧ e.tileRun = some a ∧ e.spareRun = some b ∧ a ≠ b ∧ s.replayResult e r = a)
    ∧ (∃ (s : State) (tile : ℕ) (e : Episode) (a : RunResult) (b : RunResult) (r : SpareRun), tileOk tile = true ∧ s.episodeOf tile = some e ∧ e.tile = tile ∧ s.ending = [] ∧ e.phase = 4 ∧ e.spare2 ≠ 0 ∧ s.readDone e = true ∧ e.tileRun = some a ∧ e.spareRun = some b ∧ a ≠ b ∧ s.replayResult e r ≠ a ∧ s.replayResult e r ≠ b)
    ∧ (∃ (s : State) (tile : ℕ) (e : Episode), tileOk tile = true ∧ s.episodeOf tile = some e ∧ e.tile = tile ∧ s.ending = [] ∧ e.phase = 4 ∧ e.spare2 = 0 ∧ e.confirmAt + 1000 ≤ s.now)
    ∧ (∃ (s : State) (tile : ℕ) (e : Episode), tileOk tile = true ∧ s.episodeOf tile = some e ∧ e.tile = tile ∧ s.ending = [] ∧ 1 ≤ e.phase ∧ e.t0 + 10000 ≤ s.now) :=
  ⟨⟨WX { e3 rr with tileRun := some r0 } [], 5, { e3 rr with tileRun := some r0 }, r0, ⟨[], []⟩, by decide +kernel⟩,
    ⟨WX (e3 r0) [], 5, e3 r0, rr, r0, ⟨[], []⟩, by decide +kernel⟩,
    ⟨WX e6 [], 5, e6, rr, r0, ⟨[], []⟩, by decide +kernel⟩,
    ⟨WX { e6 with tileRun := some r0, spareRun := some rr } [], 5, { e6 with tileRun := some r0, spareRun := some rr }, r0, rr, ⟨[], []⟩, by decide +kernel⟩,
    ⟨WX { e6 with spareRun := some ⟨1, 3⟩ } [], 5, { e6 with spareRun := some ⟨1, 3⟩ }, rr, ⟨1, 3⟩, ⟨[], []⟩, by decide +kernel⟩,
    ⟨WX { e6 with spare2 := 0 } [], 5, { e6 with spare2 := 0 }, by decide +kernel⟩,
    ⟨WX e6 [], 5, e6, by decide +kernel⟩⟩

theorem test_meets_VerdictsAreGiven :
  (∃ (s : State) (x : Ending), s.ending = [x] ∧ tileOk x.ep.tile = true ∧ s.stationUp (toFin32 (tileField x.ep.tile)) = true ∧ s.sliceDepth (tileField x.ep.tile) < 511)
    ∧ (∃ (s : State) (x : Ending), s.ending = [x] ∧ tileOk x.ep.tile = true ∧ s.stationUp (toFin32 (tileField x.ep.tile)) = true ∧ s.sliceDepth (tileField x.ep.tile) < 511 ∧ x.verdict = 0 ∧ s.rf RF.fstEpMatchCount (tileField x.ep.tile) + 1 < 2 ^ RF.fstEpMatchCount.spec.width)
    ∧ (∃ (s : State) (x : Ending), s.ending = [x] ∧ tileOk x.ep.tile = true ∧ s.stationUp (toFin32 (tileField x.ep.tile)) = true ∧ s.sliceDepth (tileField x.ep.tile) < 511 ∧ x.verdict = 1 ∧ s.rf RF.fstEpMismatchCount (tileField x.ep.tile) + 1 < 2 ^ RF.fstEpMismatchCount.spec.width)
    ∧ (∃ (s : State) (x : Ending), s.ending = [x] ∧ tileOk x.ep.tile = true ∧ s.stationUp (toFin32 (tileField x.ep.tile)) = true ∧ s.sliceDepth (tileField x.ep.tile) < 511 ∧ x.verdict = 2 ∧ s.rf RF.fstEpInconclusiveCount (tileField x.ep.tile) + 1 < 2 ^ RF.fstEpInconclusiveCount.spec.width)
    ∧ (∃ (s : State) (x : Ending), s.ending = [x] ∧ tileOk x.ep.tile = true ∧ s.stationUp (toFin32 (tileField x.ep.tile)) = true ∧ s.sliceDepth (tileField x.ep.tile) < 511 ∧ x.verdict = 3 ∧ s.rf RF.fstEpAbandonedCount (tileField x.ep.tile) + 1 < 2 ^ RF.fstEpAbandonedCount.spec.width) :=
  ⟨⟨{ W with ending := [wend 0 0 0 []] }, wend 0 0 0 [], by decide +kernel⟩,
    ⟨{ W with ending := [wend 0 0 0 []] }, wend 0 0 0 [], by decide +kernel⟩,
    ⟨{ W with ending := [wend 1 0 3 [157, 29]] }, wend 1 0 3 [157, 29], by decide +kernel⟩,
    ⟨{ W with ending := [wend 2 1 2 [157]] }, wend 2 1 2 [157], by decide +kernel⟩,
    ⟨{ W with ending := [wend 3 12 0 []] }, wend 3 12 0 [], by decide +kernel⟩⟩

theorem test_meets_ReplayShareSheds :
  (∃ (s : State), s.replayCount ≤ s.replayLimit)
    ∧ (∃ (s : State) (e : Episode), s.episodes = [e] ∧ e.phase = 2 ∧ tileOk e.tile = true ∧ e.spare ≠ 0 ∧ e.spare2 = 0 ∧ s.replayLimit < s.replayCount ∧ s.ending = []) :=
  ⟨⟨W, by decide +kernel⟩,
    ⟨{ WX { e5 with phase := 2 } [(.kprAllowanceInForce, 0, 0)] with tiles := [(157, { replaying := true })] }, { e5 with phase := 2 }, by decide +kernel⟩⟩

end C

namespace D

def si (n : Nat) : StallInfo := ⟨3, 1, 9, 77, 4095, false, 1, BitVec.ofNat 32 n, 500⟩
def WLr (l : List (RF × Nat × Nat)) : State := { W.puts l with launch := { running := true } }
def WN (a : Nat) : State := { WLr [(.kprHangCtrlAutoRecover, 0, a), (.kprHangCtrlRecoveryLimit, 0, 2)] with recov := { naming := some 19999999900, stalls := [⟨6, si 2⟩, ⟨7, { si 2 with startWtc := 501 }⟩] } }
def rg (ph : Nat) : Regrowth := { logical := 5, failed := 5, cause := 0x20, phase := ph, engine := 0, target := some 157 }
def rc : Regrowth := { logical := 5, failed := 5, cause := 0x20, phase := 2, engine := 0, candidate := some 157, tried := [157] }
def WR (r : Regrowth) (l : List (RF × Nat × Nat)) : State := { W.puts l with regrows := [r] }
def ksS : Tab Byte := [(0x1000004,1),(0x1000006,2),(0x1000008,1),(0x1000026,4),(0x100DA00,5),(0x100DA06,2),(0x100DA0C,4),(0x100DA10,128)]
def rm : Remap := ⟨5, 29, 1, true, false, 1⟩
def rf7 (ph : Nat) : Regrowth := { logical := 5, failed := 5, cause := 0x20, phase := ph }
def rgf : Regrowth := { rg 3 with filling := true }
def rgt : Regrowth := { rgf with retried := true }

theorem test_meets_StallRecordsOpenTheNamingWindow :
  (∃ (s : State) (tile : ℕ), tileOk tile = true ∧ s.launch.running = true ∧ ((s.tile tile).stall = true ∨ (s.tile tile).underTest = true ∨ (s.tile tile).inWindow = true ∨ s.rf RF.kprMonStatusHold 0 = 1 ∨ s.logicalOf tile = none ∨ (∃ r ∈ s.regrows, r.rot = 0) ∨ s.sec.rollback.isSome = true))
    ∧ (∃ (s : State) (tile : ℕ) (i : StallInfo), tileOk tile = true ∧ s.launch.running = true ∧ s.stallExempt tile i = false ∧ s.rf RF.kprStallLimitLimit 0 ≤ i.stalled.toNat ∧ s.rf RF.tsnStallStalled tile < s.rf RF.kprStallLimitLimit 0)
    ∧ (∃ (s : State) (tile : ℕ), tileOk tile = true ∧ s.launch.running = true ∧ s.recov.closed = false ∧ s.recov.naming = none)
    ∧ (∃ (s : State) (tile : ℕ) (t0 : ℕ), tileOk tile = true ∧ s.launch.running = true ∧ s.recov.closed = false ∧ s.recov.naming = some t0 ∧ s.now < t0 + 100) :=
  ⟨⟨WLr [(.kprMonStatusHold, 0, 1)], 5, by decide +kernel⟩,
    ⟨WLr [(.kprStallLimitLimit, 0, 1000)], 5, si 1000, by decide +kernel⟩,
    ⟨WLr [], 5, by decide +kernel⟩,
    ⟨{ WLr [] with recov := { naming := some 19999999901, stalls := [⟨6, si 2⟩] } }, 5, 19999999901, by decide +kernel⟩⟩

theorem test_meets_NamingWindowNamesTheFault :
  (∃ (s : State) (t0 : ℕ) (r : StallRec) (l : List StallRec), s.recov.naming = some t0 ∧ t0 + 100 ≤ s.now ∧ s.recov.stalls = r :: l ∧ (∀ x ∈ l, r.info.startWtc.toNat < x.info.startWtc.toNat) ∧ r.info.semValid = false ∧ r.info.wait.toNat ≠ 1 ∧ tileOk r.tile = true) :=
  ⟨WN 1, 19999999900, ⟨6, si 2⟩, [⟨7, { si 2 with startWtc := 501 }⟩], by decide +kernel⟩

theorem test_meets_RecoverRequestNeedsItsKey :
  (∃ (key : BitVec 8), key ≠ 90)
    ∧ (∃ (s : State) (key : BitVec 8), key = 90 ∧ s.rf RF.aoiDomainsKeeper 0 ≠ 2 ∧ s.rf RF.kprHangStatusRecovery 0 = 0 ∧ s.rf RF.aoiDomainsCompute 0 = 0) :=
  ⟨⟨91, by decide +kernel⟩,
    ⟨W, 90, by decide +kernel⟩⟩

theorem test_meets_StalledTileFreezes :
  (∃ (s : State) (tile : ℕ), tileOk tile = true ∧ (s.tile tile).stall = true ∧ s.computeUp = true)
    ∧ (∃ (s : State) (tile : ℕ), tileOk tile = true ∧ (s.tile tile).stall = false) :=
  ⟨⟨{ W with tiles := [(5, { stall := true })] }, 5, by decide +kernel⟩,
    ⟨W, 5, by decide +kernel⟩⟩

theorem test_meets_SlackCheckClaimsTheCandidate :
  (∃ (s : State) (l : ℕ) (cand : ℕ) (r : Regrowth), s.regrows = [r] ∧ r.logical = l ∧ r.phase = rgCheck ∧ r.rot = 0 ∧ r.candidate = some cand ∧ s.claimable cand = true ∧ r.passed = false ∧ s.slackCheck l cand = none)
    ∧ (∃ (s : State) (l : ℕ) (cand : ℕ) (r : Regrowth), s.regrows = [r] ∧ r.logical = l ∧ r.phase = rgCheck ∧ r.rot = 0 ∧ r.candidate = some cand ∧ s.claimable cand = true ∧ r.passed = true ∧ s.episodes = [] ∧ s.st.visits = []) :=
  ⟨⟨WR rc [], 5, 157, rc, by decide +kernel⟩,
    ⟨WR { rc with passed := true } [], 5, 157, { rc with passed := true }, by decide +kernel⟩⟩

theorem test_meets_SlackFailureTriesTheNext :
  (∃ (s : State) (l : ℕ) (cand : ℕ) (r : Regrowth) (w : SlackFail), s.regrows = [r] ∧ r.logical = l ∧ r.phase = rgCheck ∧ r.rot = 0 ∧ r.candidate = some cand ∧ r.passed = false ∧ s.claimable cand = true ∧ s.slackCheck l cand = some w ∧ r.tried.contains cand = true ∧ s.sliceDepth (tileField r.failed) < 511) :=
  ⟨{ WR rc [(.kprRstCtrlValid, 0, 1)] with ks := ksS }, 5, 157, rc, ⟨2, 2, 0, 0⟩, by decide +kernel⟩

theorem test_meets_TransplantRunsToCommit :
  (∃ (s : State) (l : ℕ) (tgt : ℕ) (r : Regrowth), s.regrows = [r] ∧ r.logical = l ∧ r.phase = rgFill ∧ r.rot = 0 ∧ r.target = some tgt ∧ copyCause r.cause = false ∧ r.filling = false ∧ (s.tile r.failed).frozen = true ∧ s.claimReady tgt = true)
    ∧ (∃ (s : State) (l : ℕ) (tgt : ℕ) (r : Regrowth), s.regrows = [r] ∧ r.logical = l ∧ r.phase = rgFill ∧ r.rot = 0 ∧ r.target = some tgt ∧ copyCause r.cause = false ∧ r.asked = true)
    ∧ (∃ (s : State) (l : ℕ) (tgt : ℕ) (r : Regrowth) (sent : List (Fin 792 × BitVec 1024)) (changed : List (Fin 792 × BitVec 1024)), s.regrows = [r] ∧ r.logical = l ∧ r.phase = rgFill ∧ r.rot = 0 ∧ r.target = some tgt ∧ copyCause r.cause = false ∧ r.filling = true ∧ 900 ≤ (s.now + 1 - r.fillAt) * s.clock ∧ beatDigest (s.rf RF.kprTapSeedActiveSeed 0) (s.beatsSent r.failed sent) = beatDigest (s.rf RF.kprTapSeedActiveSeed 0) (beatsArrived (s.beatsSent r.failed sent) changed))
    ∧ (∃ (s : State) (l : ℕ) (tgt : ℕ) (r : Regrowth) (sent : List (Fin 792 × BitVec 1024)) (changed : List (Fin 792 × BitVec 1024)), s.regrows = [r] ∧ r.logical = l ∧ r.phase = rgFill ∧ r.rot = 0 ∧ r.target = some tgt ∧ copyCause r.cause = false ∧ r.filling = true ∧ 900 ≤ (s.now + 1 - r.fillAt) * s.clock ∧ (¬beatDigest (s.rf RF.kprTapSeedActiveSeed 0) (s.beatsSent r.failed sent) = beatDigest (s.rf RF.kprTapSeedActiveSeed 0) (beatsArrived (s.beatsSent r.failed sent) changed)) ∧ r.retried = false)
    ∧ (∃ (s : State) (l : ℕ) (tgt : ℕ) (r : Regrowth) (sent : List (Fin 792 × BitVec 1024)) (changed : List (Fin 792 × BitVec 1024)), s.regrows = [r] ∧ r.logical = l ∧ r.phase = rgFill ∧ r.rot = 0 ∧ r.target = some tgt ∧ copyCause r.cause = false ∧ r.filling = true ∧ 900 ≤ (s.now + 1 - r.fillAt) * s.clock ∧ (¬beatDigest (s.rf RF.kprTapSeedActiveSeed 0) (s.beatsSent r.failed sent) = beatDigest (s.rf RF.kprTapSeedActiveSeed 0) (beatsArrived (s.beatsSent r.failed sent) changed)) ∧ r.retried = true ∧ s.sliceDepth (tileField tgt) < 511)
    ∧ (∃ (s : State) (l : ℕ) (tgt : ℕ) (r : Regrowth), s.regrows = [r] ∧ r.logical = l ∧ r.phase = rgFill ∧ r.rot = 0 ∧ r.target = some tgt ∧ copyCause r.cause = false ∧ r.filling = true) :=
  ⟨⟨{ WR (rg 3) [] with tiles := [(5, { frozen := true })] }, 5, 157, rg 3, by decide +kernel⟩,
    ⟨WR { rg 3 with asked := true } [], 5, 157, { rg 3 with asked := true }, by decide +kernel⟩,
    ⟨WR rgf [], 5, 157, rgf, [(0, 7)], [], by decide +kernel⟩,
    ⟨WR rgf [(.kprTapSeedActiveSeed, 0, 9)], 5, 157, rgf, [(0, 7)], [(0, 8)], by decide +kernel⟩,
    ⟨WR rgt [(.kprTapSeedActiveSeed, 0, 9)], 5, 157, rgt, [(0, 7)], [(0, 8)], by decide +kernel⟩,
    ⟨WR rgf [], 5, 157, rgf, by decide +kernel⟩⟩

theorem test_meets_CommitWritesTheMapAndDrains :
  (∃ (s : State) (l : ℕ) (tgt : ℕ) (r : Regrowth), s.regrows = [r] ∧ r.logical = l ∧ r.phase = rgCommit ∧ r.rot = 0 ∧ r.target = some tgt ∧ r.clearFrom = none ∧ s.rf RF.kprEpochDraining 0 = 0 ∧ s.episodes = []) :=
  ⟨WR (rg 4) [], 5, 157, rg 4, by decide +kernel⟩

theorem test_meets_DrainsEnd :
  (∃ (s : State), s.rf RF.kprEpochDraining 0 = 1 ∧ s.regrows = [] ∧ s.epochFn.program = false ∧ s.rf RF.kprDrainDiscardsDiscards 0 < 2 ^ RF.kprDrainDiscardsDiscards.spec.width ∧ s.epochFn.discards = [])
    ∧ (∃ (s : State) (left : List LeftFlits) (q : QueueId) (h : BitVec 64), s.rf RF.kprEpochDraining 0 = 1 ∧ s.regrows = [] ∧ s.epochFn.program = false ∧ s.rf RF.kprDrainDiscardsDiscards 0 < 2 ^ RF.kprDrainDiscardsDiscards.spec.width ∧ s.epochFn.drainAt + clamp 10 1000 (s.rf RF.kprRegrowCtrlDrainUs 0) ≤ s.now ∧ s.epochFn.discards = [] ∧ left = [{ queue := q, count := 1, header := h }] ∧ s.rf RF.kprDrainDiscardsDiscards 0 + 1 < 2 ^ RF.kprDrainDiscardsDiscards.spec.width)
    ∧ (∃ (s : State), s.rf RF.kprEpochDraining 0 = 0 ∧ s.rf RF.kprEpochProgramPending 0 = 0 ∧ s.rf RF.kprEpochPending 0 = 1 ∧ s.episodes = [] ∧ s.regrows = [])
    ∧ (∃ (s : State), s.rf RF.kprEpochDraining 0 = 0)
    ∧ (∃ (s : State) (tile : ℕ) (r : Regrowth) (tgt : ℕ), tileOk tile = true ∧ s.rf RF.kprEpochDraining 0 = 1 ∧ s.epochFn.discards = [] ∧ s.rf RF.kprDrainDiscardsDiscards 0 + 1 < 2 ^ RF.kprDrainDiscardsDiscards.spec.width ∧ (List.find? (fun r => decide (r.failed = tile ∧ r.phase = rgDrain) && r.inBatch) s.regrows = some r) ∧ r.target = some tgt ∧ r.copyFill = true)
    ∧ (∃ (s : State) (tile : ℕ) (r : Regrowth) (tgt : ℕ), tileOk tile = true ∧ s.rf RF.kprEpochDraining 0 = 1 ∧ s.epochFn.discards = [] ∧ s.rf RF.kprDrainDiscardsDiscards 0 + 1 < 2 ^ RF.kprDrainDiscardsDiscards.spec.width ∧ (List.find? (fun r => decide (r.failed = tile ∧ r.phase = rgDrain) && r.inBatch) s.regrows = some r) ∧ r.target = some tgt ∧ r.copyFill = false) :=
  ⟨⟨W.put .kprEpochDraining 0 1, by decide +kernel⟩,
    ⟨W.put .kprEpochDraining 0 1, [⟨⟨5, 1, 0⟩, 1, 0⟩], ⟨5, 1, 0⟩, 0, by decide +kernel⟩,
    ⟨W.put .kprEpochPending 0 1, by decide +kernel⟩,
    ⟨W, by decide +kernel⟩,
    ⟨WR { rg 5 with inBatch := true, copyFill := true } [(.kprEpochDraining, 0, 1)], 5, { rg 5 with inBatch := true, copyFill := true }, 157, by decide +kernel⟩,
    ⟨WR { rg 5 with inBatch := true } [(.kprEpochDraining, 0, 1)], 5, { rg 5 with inBatch := true }, 157, by decide +kernel⟩⟩

theorem test_meets_DrainCompletesTheRegrowth :
  (∃ (s : State) (tgt : ℕ) (r : Regrowth) (m : Remap) (i : ℕ), s.rf RF.kprEpochDraining 0 = 1 ∧ s.epochFn.program = false ∧ s.epochFn.discards = [] ∧ s.regrows = [r] ∧ r.phase = rgDrain ∧ r.inBatch = true ∧ r.rot = 0 ∧ r.copyFill = false ∧ r.target = some tgt ∧ tgt ≠ r.failed ∧ tileField r.failed < 32 ∧ s.remapIndex (tileField r.failed) r.logical = i ∧ (Tab.get (fun _ => none) s.remap (1024 * tileField r.failed + i) = some m)) :=
  ⟨{ WR { rg 5 with inBatch := true } [(.kprEpochDraining, 0, 1)] with remap := [(0, some rm)] }, 157, { rg 5 with inBatch := true }, rm, 0, by decide +kernel⟩

theorem test_meets_RegrowthEscalates :
  (∃ (s : State) (l : ℕ) (r : Regrowth), s.regrows = [r] ∧ r.logical = l ∧ r.rot = 0 ∧ 2 ≤ r.engine ∧ s.recoverable ∧ outRoom s.host.outQ 2 = true ∧ tileField r.failed < 32 ∧ r.phase = rgRefused ∧ r.refusedAt + 1000 * Nat.max 1 (s.rf RF.kprRegrowCtrlRefuseWaitMs 0) ≤ s.now)
    ∧ (∃ (s : State) (l : ℕ) (r : Regrowth), s.regrows = [r] ∧ r.logical = l ∧ r.rot = 0 ∧ 2 ≤ r.engine ∧ s.recoverable ∧ outRoom s.host.outQ 2 = true ∧ tileField r.failed < 32 ∧ 1 ≤ r.phase ∧ r.phase ≤ 5 ∧ 50000 ≤ r.used + (s.now - r.runFrom) ∧ s.rf RF.kprMonStatusHold 0 = 0 ∧ s.rf RF.kprCmdTimeoutsCount 0 + 1 < 2 ^ RF.kprCmdTimeoutsCount.spec.width) :=
  ⟨⟨WR (rf7 7) [(.kprHangCtrlRecoveryLimit, 0, 2)], 5, rf7 7, by decide +kernel⟩,
    ⟨WR (rf7 1) [(.kprHangCtrlRecoveryLimit, 0, 2)], 5, rf7 1, by decide +kernel⟩⟩

theorem test_meets_RemapTableUncorrectable :
  (∃ (s : State) (f : Fin 32) (i : ℕ), i < 1024 ∧ s.sliceDepth ↑f < 511)
    ∧ (∃ (s : State) (f : Fin 32) (i : ℕ), i < 1024 ∧ s.sliceDepth ↑f < 511 ∧ s.regrows = [] ∧ s.recoverable) :=
  ⟨⟨W, 31, 1023, by decide +kernel⟩,
    ⟨W.put .kprHangCtrlRecoveryLimit 0 2, 31, 1023, by decide +kernel⟩⟩

end D

namespace E

def tbl : ResidentTable := ⟨1024, 3, [(10, 20)], [(383, 0), (2, 15)]⟩
def WS (l : List (RF × Nat × Nat)) : State := { W.puts ((.fstScrubCtrlState, 0, 2) :: (.kprAllowanceInForce, 0, 20) :: l) with scrubNext := 0 }
def WB (sealed : Tab Bool) : State := { W with scrubs := [⟨5, [0, 1]⟩], tables := [(5, some tbl)], sealed := sealed }
def sl : Tab Bool := [(384 * 5 + 383, true)]
def recV (ty : Nat) : BitVec 256 := BitVec.ofNat 256 (withCrc16 30 (1 + 16 * ty + 2 ^ 32 * 5))
def vv : Visit := { tile := 5, logical := none, path := 3, owner := .register, mode := 0, since := 7 }
def WV (v : Visit) (st : Nat) : State := { W.puts [(.tsnStCtrlState, 5, st)] with st := { visits := [v] }, tiles := [(5, { underTest := true })] }
def rgm : Regrowth := { logical := 5, failed := 5, cause := 0, rot := 1, phase := 8, target := some 157 }
def vm : Visit := { vv with logical := some 5, spare := 157, path := 1 }
def wtb : WindowTable := ⟨1024, [(7, 150000)]⟩
def recW (x : Nat) : BitVec 256 := BitVec.ofNat 256 (withCrc16 30 (17 + 2 ^ 64 * 5 + x))

theorem test_meets_ScrubPassAndVisits :
  (∃ (s : State) (f : Fin 32), s.fnOn (Func.fieldScrub f) = true ∧ s.stationUp f = true ∧ (s.field f.val).scrubAt + 1000000 * clamp 1 3600 (s.rf RF.fstScrubCtrlPeriodS f.val) ≤ s.now ∧ 4000 ≤ s.scrubUw ∧ (s.field f.val).scrubOn = false ∧ ((s.setField f.val { s.field f.val with scrubAt := s.now, scrubOn := true }).scrubNextOf f.val).isSome = true)
    ∧ (∃ (s : State) (f : Fin 32), s.fnOn (Func.fieldScrub f) = true ∧ s.stationUp f = true ∧ (s.field ↑f).scrubAt + 1000000 * clamp 1 3600 (s.rf RF.fstScrubCtrlPeriodS ↑f) ≤ s.now ∧ (s.field ↑f).scrubOn = true)
    ∧ (∃ (s : State) (tile : ℕ) (tb : ResidentTable), tileOk tile = true ∧ s.scrubTurn = some (tileField tile) ∧ Option.map s.serving (s.scrubNextOf (tileField tile)) = some tile ∧ s.scrubs.length < s.scrubUw / 4000 ∧ s.residentTable tile = some tb ∧ s.wtc < 2 ^ 64)
    ∧ (∃ (s : State) (tile : ℕ), tileOk tile = true ∧ (∃ v ∈ s.scrubs, v.tile = tile ∧ v.left = []) ∧ (s.field (tileField tile)).scrubOn = false)
    ∧ (∃ (s : State) (tile : ℕ), tileOk tile = true ∧ (∀ v ∈ s.scrubs, v.tile = tile → v.left ≠ [])) :=
  ⟨⟨WS [], 0, by decide +kernel⟩,
    ⟨{ WS [] with fields := [(0, { scrubOn := true })] }, 0, by decide +kernel⟩,
    ⟨{ WS [] with fields := [(0, { scrubOn := true })], tables := [(0, some tbl)] }, 0, tbl, by decide +kernel⟩,
    ⟨{ W with scrubs := [⟨5, []⟩] }, 5, by decide +kernel⟩,
    ⟨{ W with scrubs := [⟨5, [0]⟩] }, 5, by decide +kernel⟩⟩

theorem test_meets_ScrubReadsABlock :
  (∃ (s : State) (tile : ℕ) (e : ℕ) (blk : ℕ) (win : ℕ) (rest : List ℕ) (tb : ResidentTable) (x : ℕ), tileOk tile = true ∧ s.scrubs = [{ tile := tile, left := e :: rest }] ∧ s.residentTable tile = some tb ∧ tb.entries[e]? = some (blk, win) ∧ blk < 384 ∧ tb.base % 16 = 0 ∧ tb.base + 144 + 16 * e + 8 ≤ 98304 ∧ x ≠ e)
    ∧ (∃ (s : State) (tile : ℕ) (e : ℕ) (blk : ℕ) (win : ℕ) (rest : List ℕ) (tb : ResidentTable), tileOk tile = true ∧ s.scrubs = [{ tile := tile, left := e :: rest }] ∧ s.residentTable tile = some tb ∧ tb.entries[e]? = some (blk, win) ∧ blk < 384 ∧ tb.base % 16 = 0 ∧ tb.base + 144 + 16 * e + 8 ≤ 98304 ∧ s.portHeld tile = true)
    ∧ (∃ (s : State) (tile : ℕ) (e : ℕ) (blk : ℕ) (win : ℕ) (rest : List ℕ) (tb : ResidentTable) (pos : BitVec 32), tileOk tile = true ∧ s.scrubs = [{ tile := tile, left := e :: rest }] ∧ s.residentTable tile = some tb ∧ tb.entries[e]? = some (blk, win) ∧ blk < 384 ∧ tb.base % 16 = 0 ∧ tb.base + 144 + 16 * e + 8 ≤ 98304 ∧ s.portHeld tile = false ∧ blockOpen tb (blk, win) pos.toNat = true)
    ∧ (∃ (s : State) (tile : ℕ) (e : ℕ) (blk : ℕ) (win : ℕ) (rest : List ℕ) (tb : ResidentTable) (pos : BitVec 32), tileOk tile = true ∧ s.scrubs = [{ tile := tile, left := e :: rest }] ∧ s.residentTable tile = some tb ∧ tb.entries[e]? = some (blk, win) ∧ blk < 384 ∧ tb.base % 16 = 0 ∧ tb.base + 144 + 16 * e + 8 ≤ 98304 ∧ s.portHeld tile = false ∧ blockOpen tb (blk, win) pos.toNat = false ∧ win ≠ 15 ∧ s.isSealed tile blk = false)
    ∧ (∃ (s : State) (tile : ℕ) (e : ℕ) (blk : ℕ) (win : ℕ) (rest : List ℕ) (tb : ResidentTable) (pos : BitVec 32), tileOk tile = true ∧ s.scrubs = [{ tile := tile, left := e :: rest }] ∧ s.residentTable tile = some tb ∧ tb.entries[e]? = some (blk, win) ∧ blk < 384 ∧ tb.base % 16 = 0 ∧ tb.base + 144 + 16 * e + 8 ≤ 98304 ∧ s.portHeld tile = false ∧ blockOpen tb (blk, win) pos.toNat = false ∧ (win = 15 ∨ s.isSealed tile blk = true) ∧ s.storedDigest tile tb e = s.blockDigest tile tb.seed blk)
    ∧ (∃ (s : State) (tile : ℕ) (e : ℕ) (blk : ℕ) (win : ℕ) (rest : List ℕ) (tb : ResidentTable) (pos : BitVec 32), tileOk tile = true ∧ s.scrubs = [{ tile := tile, left := e :: rest }] ∧ s.residentTable tile = some tb ∧ tb.entries[e]? = some (blk, win) ∧ blk < 384 ∧ tb.base % 16 = 0 ∧ tb.base + 144 + 16 * e + 8 ≤ 98304 ∧ s.portHeld tile = false ∧ blockOpen tb (blk, win) pos.toNat = false ∧ (win = 15 ∨ s.isSealed tile blk = true) ∧ s.storedDigest tile tb e ≠ s.blockDigest tile tb.seed blk) :=
  ⟨⟨WB [], 5, 0, 383, 0, [1], tbl, 1, by decide +kernel⟩,
    ⟨{ WB [] with transfers := [⟨.capture, 5, 5, 0, none⟩] }, 5, 0, 383, 0, [1], tbl, by decide +kernel⟩,
    ⟨WB [], 5, 0, 383, 0, [1], tbl, 12, by decide +kernel⟩,
    ⟨(WB []).setSram 5 766 9, 5, 0, 383, 0, [1], tbl, 20, by decide +kernel⟩,
    ⟨WB sl, 5, 0, 383, 0, [1], tbl, 20, by decide +kernel⟩,
    ⟨(WB sl).setSram 5 766 9, 5, 0, 383, 0, [1], tbl, 20, by decide +kernel⟩⟩

theorem test_meets_WritesInAWindowUnseal :
  (∃ (s : State) (tile : ℕ) (line : Fin 768) (pos : BitVec 32) (tb : ResidentTable) (win : ℕ), tileOk tile = true ∧ s.residentTable tile = some tb ∧ (line.val / 2, win) ∈ tb.entries ∧ blockOpen tb (line.val / 2, win) pos.toNat = true ∧ s.episodeOf tile = none) :=
  ⟨WB [(384 * 5 + 382, true), (384 * 5 + 383, true)], 5, 767, 10, tbl, 0, by decide +kernel⟩

theorem test_meets_ScrubRecordsBecomeEvents :
  (∃ (r : BitVec 256), recordOk r.toNat 30 = false)
    ∧ (∃ (s : State) (f : Fin 32) (r : BitVec 256), recordOk r.toNat 30 = true ∧ tileOk (bits r.toNat 32 19) = true ∧ s.sliceDepth (tileField (bits r.toNat 32 19)) < 511 ∧ s.rf RF.fstScrubMismatchMismatches ↑f + 1 < 2 ^ RF.fstScrubMismatchMismatches.spec.width) :=
  ⟨⟨0, by decide +kernel⟩,
    ⟨W, 0, recV 1, by decide +kernel⟩⟩

theorem test_meets_VisitsBeginByCommandOrSlot :
  (∃ (s : State) (tile : ℕ), tileOk tile = true ∧ s.rf RF.tsnStCtrlMode tile < 3 ∧ s.logicalOf tile = none ∧ s.visitBlocked tile = false ∧ s.st.orders = [] ∧ s.visitRoom = true ∧ s.st.packs = [] ∧ s.st.parked = [] ∧ s.fnState (Func.fieldSelfTest (toFin32 (tileField tile))) ≠ 3 ∧ s.stationUp (toFin32 (tileField tile)) = true)
    ∧ (∃ (s : State) (tile : ℕ), tileOk tile = true ∧ s.visitBlocked tile = true ∧ s.visitOf tile = none)
    ∧ (∃ (s : State) (tile : ℕ) (f : Fin 32), tileOk tile = true ∧ s.fnOn (Func.fieldSelfTest f) = true ∧ s.stationUp f = true ∧ 0 < s.inService ↑f + s.freeSpares ↑f ∧ (s.field ↑f).visitSlotAt + s.visitPeriod ↑f / (s.inService ↑f + s.freeSpares ↑f) ≤ s.now) :=
  ⟨⟨W, 29, by decide +kernel⟩,
    ⟨{ W with episodes := [{ tile := 5, logical := 5, spare := 157, slot := 0, select := 2, window := 256, quota := 30, goAt := 1 }] }, 5, by decide +kernel⟩,
    ⟨W.put .fstStCtrlState 0 2, 5, 0, by decide +kernel⟩⟩

theorem test_meets_VisitStatesFollowEachOther :
  (∃ (s : State) (tile : ℕ) (len : ℕ) (w : WindowTable) (pos : BitVec 32), tileOk tile = true ∧ (Tab.get (fun _ => none) s.winTabs tile = some w) ∧ w.opens pos.toNat = some len ∧ s.fnOn (Func.fieldSelfTest (toFin32 (tileField tile))) = true ∧ (s.logicalOf tile).isSome = true ∧ s.tileOut tile = false ∧ s.visitBlocked tile = false ∧ s.visitRoom = true ∧ s.st.parked = [] ∧ 141312 + 128 ≤ len ∧ w.save / 128 + 16 ≤ 768)
    ∧ (∃ (s : State) (tile : ℕ) (v : Visit) (j : ℕ), tileOk tile = true ∧ s.visitOf tile = some v ∧ v.tile = tile ∧ s.rf RF.tsnStCtrlState tile = 2 ∧ s.visitGoes v = true ∧ s.stationUp (toFin32 (tileField tile)) = true ∧ s.testCount < s.testLimit ∧ s.nextItem { tile := v.tile, logical := v.logical, spare := v.spare, path := v.path, owner := v.owner, mode := v.mode, since := v.since, item := v.item, ran := v.ran, routersOnly := v.routersOnly, packsLeft := v.packsLeft, packFirst := v.packFirst, banks := v.banks, slices := v.slices, packFail := v.packFail, packId := v.packId, patterns := v.patterns, cycles := v.cycles + 64, window := v.window, aborted := v.aborted, paused := v.paused, held := v.held } = some j)
    ∧ (∃ (s : State) (tile : ℕ) (v : Visit), tileOk tile = true ∧ s.visitOf tile = some v ∧ v.tile = tile ∧ s.rf RF.tsnStCtrlState tile = 4 ∧ v.path = 2 ∧ v.aborted = false ∧ v.mode = 0 ∧ v.ran % 2 ^ 33 ≠ 2 ^ 33 - 1 ∧ v.owner = VisitOwner.function)
    ∧ (∃ (s : State) (tile : ℕ) (v : Visit), tileOk tile = true ∧ s.visitOf tile = some v ∧ v.tile = tile ∧ s.rf RF.tsnStCtrlState tile = 5 ∧ v.held = false ∧ v.aborted = false ∧ v.path = 3 ∧ v.mode = 0 ∧ v.ran % 2 ^ 33 = 2 ^ 33 - 1 ∧ v.owner = VisitOwner.function) :=
  ⟨⟨{ W.put .fstStCtrlState 0 2 with winTabs := [(5, some wtb)] }, 5, 150000, wtb, 7, by decide +kernel⟩,
    ⟨WV vv 2, 5, vv, 0, by decide +kernel⟩,
    ⟨WV { vv with ran := 3, item := 2, path := 2, owner := .function } 4, 5, { vv with ran := 3, item := 2, path := 2, owner := .function }, by decide +kernel⟩,
    ⟨WV { vv with ran := 2 ^ 33 - 1, owner := .function } 5, 5, { vv with ran := 2 ^ 33 - 1, owner := .function }, by decide +kernel⟩⟩

theorem test_meets_VisitItemsAreEntered :
  (∃ (s : State) (tile : ℕ) (v : Visit), tileOk tile = true ∧ s.visitOf tile = some v ∧ v.tile = tile ∧ s.stationUp (toFin32 (tileField tile)) = true ∧ s.visitGoes v = true ∧ s.testCount ≤ s.testLimit ∧ v.held = false ∧ v.path = 3 ∧ s.rf RF.tsnStCtrlState tile = 3 ∧ v.paused = false ∧ v.item = 0 ∧ v.mode = 0 ∧ v.ran = 0 ∧ v.routersOnly = false)
    ∧ (∃ (s : State) (tile : ℕ) (v : Visit) (m : BitVec 64) (g : BitVec 64), tileOk tile = true ∧ s.visitOf tile = some v ∧ v.tile = tile ∧ s.stationUp (toFin32 (tileField tile)) = true ∧ s.visitGoes v = true ∧ s.testCount ≤ s.testLimit ∧ v.held = false ∧ v.path = 3 ∧ s.rf RF.tsnStCtrlState tile = 3 ∧ v.paused = false ∧ v.item = 1 ∧ v.mode = 0 ∧ v.ran = 1 ∧ v.routersOnly = false ∧ m ≠ g)
    ∧ (∃ (s : State) (tile : ℕ) (v : Visit) (r : Regrowth), tileOk tile = true ∧ s.visitOf tile = some v ∧ v.tile = tile ∧ s.stationUp (toFin32 (tileField tile)) = true ∧ s.visitGoes v = true ∧ s.testCount ≤ s.testLimit ∧ v.held = false ∧ s.regrows = [r] ∧ some r.logical = v.logical ∧ r.rot = 1 ∧ r.phase = rgDone ∧ s.rf RF.tsnStCtrlState tile = 1 ∧ v.aborted = false ∧ v.path = 1 ∧ (s.nextItem v).isSome = true) :=
  ⟨⟨WV vv 3, 5, vv, by decide +kernel⟩,
    ⟨WV { vv with item := 1, ran := 1 } 3, 5, { vv with item := 1, ran := 1 }, 7, 8, by decide +kernel⟩,
    ⟨{ WV vm 1 with regrows := [rgm] }, 5, vm, rgm, by decide +kernel⟩⟩

theorem test_meets_VisitRecordsAndLateness :
  (∃ (r : BitVec 256), recordOk r.toNat 30 = false)
    ∧ (∃ (s : State) (f : Fin 32) (r : BitVec 256), recordOk r.toNat 30 = true ∧ bits r.toNat 4 4 = 1 ∧ s.st.diag = [] ∧ tileOk (bits r.toNat 64 19) = true ∧ bits r.toNat 32 32 = 0 ∧ bits r.toNat 96 16 = 0 ∧ bits r.toNat 16 12 = 0 ∧ s.rf RF.fstStVisitsVisits ↑f + 1 < 2 ^ RF.fstStVisitsVisits.spec.width ∧ s.sliceDepth (tileField (bits r.toNat 64 19)) < 511)
    ∧ (∃ (s : State) (r : BitVec 256), recordOk r.toNat 30 = true ∧ tileOk (bits r.toNat 64 19) = true ∧ s.sliceDepth (tileField (bits r.toNat 64 19)) < 511)
    ∧ (∃ (s : State) (u : ℕ), u < 2 ^ 19 ∧ s.served u = true ∧ 2 * s.visitPeriod (tileField u) < s.visitAge (tileField u) u ∧ u ∉ s.st.late ∧ s.sliceDepth (tileField u) < 511 ∧ tileField u < 32)
    ∧ (∃ (s : State) (u : ℕ), u ∈ s.st.late) :=
  ⟨⟨0, by decide +kernel⟩,
    ⟨W, 0, recW 0, by decide +kernel⟩,
    ⟨W, recW (2 ^ 32 + 2 ^ 60 + 2 ^ 17), by decide +kernel⟩,
    ⟨{ W with now := 200000000000000 }, 5, by decide +kernel⟩,
    ⟨{ W with st := { late := [5] } }, 5, by decide +kernel⟩⟩

theorem test_meets_TileSramErrors :
  (∃ (s : State) (tile : ℕ), tileOk tile = true ∧ s.sliceDepth (tileField tile) < 511)
    ∧ (∃ (s : State) (tile : ℕ) (bank : Fin 12) (c : ℕ), tileOk tile = true ∧ s.sliceDepth (tileField tile) < 511 ∧ (Tab.get (fun _ => 0) s.ceCounts (12 * tile + ↑bank) = c) ∧ c < 32)
    ∧ (∃ (s : State) (tile : ℕ) (f : Fin 32), tileOk tile = true ∧ s.sliceDepth (tileField tile) < 511 ∧ s.stationUp f = true ∧ (s.field ↑f).ceClearAt + 3600000000 ≤ s.now)
    ∧ (∃ (s : State) (tile : ℕ) (f : Fin 32), tileOk tile = true ∧ s.sliceDepth (tileField tile) < 511 ∧ (s.stationUp f = false ∨ s.now < (s.field ↑f).ceClearAt + 3600000000)) :=
  ⟨⟨W, 5, by decide +kernel⟩,
    ⟨{ W with ceCounts := [(71, 3)] }, 5, 11, 3, by decide +kernel⟩,
    ⟨{ W with ceCounts := [(71, 3), (12 * 16384, 3)] }, 5, 0, by decide +kernel⟩,
    ⟨{ W with fields := [(0, { ceClearAt := 20000000000 })] }, 5, 0, by decide +kernel⟩⟩

end E

namespace F

def fE : Func := .fieldScrub 31
def WF (req st : Nat) (x : FnState) : State := { W.puts [(.fstScrubCtrlEnable, 31, req), (.fstScrubCtrlState, 31, st), (.fstResetStatusState, 31, 0)] with fns := [(95, x)] }
def Wfu : State := { W.puts [(.kprMonStatusFlashWindow, 0, 1), (.aoiDomainsCompute, 0, 2), (.aoiTempReading, 0, 100)] with ledger := { orphans := (List.range 32).map (fun f => ⟨6, f * 2 ^ 14, 0⟩) }, fuses := { bad := [⟨1, 6, 0⟩] } }
def e2 : SymbolErrors := [(0, 1), (35, 9)]

theorem test_meets_FunctionsFollowTheirTable :
  (∃ (s : State) (fn : Func), s.domState (fnDomain fn) = 0 ∧ (s.fn fn).wroteAt ≠ some s.now ∧ s.fnRequest fn = 0 ∧ s.fnState fn = 0 ∧ (s.fn fn).offAt + 1 ≤ s.now)
    ∧ (∃ (s : State) (fn : Func), s.domState (fnDomain fn) = 0 ∧ (s.fn fn).wroteAt ≠ some s.now ∧ s.fnRequest fn = 0 ∧ s.fnState fn = 0 ∧ s.now < (s.fn fn).offAt + 1)
    ∧ (∃ (s : State) (fn : Func), s.domState (fnDomain fn) = 0 ∧ (s.fn fn).wroteAt ≠ some s.now ∧ s.fnRequest fn = 0 ∧ s.fnState fn = 1)
    ∧ (∃ (s : State) (fn : Func), s.domState (fnDomain fn) = 0 ∧ (s.fn fn).wroteAt ≠ some s.now ∧ s.fnRequest fn = 0 ∧ s.fnState fn = 2)
    ∧ (∃ (s : State) (fn : Func), s.domState (fnDomain fn) = 0 ∧ (s.fn fn).wroteAt ≠ some s.now ∧ s.fnRequest fn = 0 ∧ s.fnState fn = 3)
    ∧ (∃ (s : State) (fn : Func), s.domState (fnDomain fn) = 0 ∧ (s.fn fn).wroteAt ≠ some s.now ∧ s.fnRequest fn = 0)
    ∧ (∃ (s : State) (fn : Func), s.domState (fnDomain fn) = 0 ∧ (s.fn fn).wroteAt ≠ some s.now ∧ s.fnRequest fn = 1 ∧ s.fnState fn = 0)
    ∧ (∃ (s : State) (fn : Func), s.domState (fnDomain fn) = 0 ∧ (s.fn fn).wroteAt ≠ some s.now ∧ s.fnRequest fn = 1 ∧ s.fnState fn = 1)
    ∧ (∃ (s : State) (fn : Func), s.domState (fnDomain fn) = 0 ∧ (s.fn fn).wroteAt ≠ some s.now ∧ s.fnRequest fn = 1 ∧ s.fnState fn = 2)
    ∧ (∃ (s : State) (fn : Func), s.domState (fnDomain fn) = 0 ∧ (s.fn fn).wroteAt ≠ some s.now ∧ s.fnRequest fn = 1 ∧ s.fnState fn = 3)
    ∧ (∃ (s : State) (fn : Func), s.domState (fnDomain fn) = 0 ∧ (s.fn fn).wroteAt ≠ some s.now ∧ s.fnRequest fn = 1)
    ∧ (∃ (s : State) (fn : Func), s.domState (fnDomain fn) = 0 ∧ s.fnState fn = 1 ∧ (s.fn fn).startAt < s.now ∧ s.fnStarted fn = true)
    ∧ (∃ (s : State) (fn : Func), s.domState (fnDomain fn) = 0 ∧ s.fnState fn = 3 ∧ s.fnDrained fn = true)
    ∧ (∃ (s : State) (fn : Func), s.domState (fnDomain fn) = 0 ∧ s.fnState fn = 3 ∧ s.fnDrained fn = false)
    ∧ (∃ (s : State) (fn : Func), s.domState (fnDomain fn) = 0 ∧ s.fnState fn = 0 ∧ s.fnPending fn = 1 ∧ (s.fn fn).offAt + 1 ≤ s.now) :=
  ⟨⟨WF 0 0 {}, fE, by decide +kernel⟩,
    ⟨WF 0 0 { offAt := 20000000000 }, fE, by decide +kernel⟩,
    ⟨WF 0 1 { disablePending := true }, fE, by decide +kernel⟩,
    ⟨WF 0 2 { disablePending := true }, fE, by decide +kernel⟩,
    ⟨WF 0 3 {}, fE, by decide +kernel⟩,
    ⟨WF 0 3 {}, fE, by decide +kernel⟩,
    ⟨(WF 1 0 {}).put .fstScrubCtrlEnablePending 31 1, fE, by decide +kernel⟩,
    ⟨WF 1 1 {}, fE, by decide +kernel⟩,
    ⟨WF 1 2 {}, fE, by decide +kernel⟩,
    ⟨(WF 1 3 {}).put .fstScrubCtrlEnablePending 31 1, fE, by decide +kernel⟩,
    ⟨WF 1 3 {}, fE, by decide +kernel⟩,
    ⟨WF 1 1 { disablePending := true }, fE, by decide +kernel⟩,
    ⟨WF 0 3 {}, fE, by decide +kernel⟩,
    ⟨{ WF 0 3 {} with scrubs := [⟨31 * 16384, []⟩] }, fE, by decide +kernel⟩,
    ⟨(WF 1 0 {}).put .fstScrubCtrlEnablePending 31 1, fE, by decide +kernel⟩⟩

theorem test_meets_I3cTargetAnswers :
  (∃ (s : State), s.boot.aoiOn = true)
    ∧ (∃ (s : State), s.boot.aoiOn = true ∧ s.i3cAddr = none)
    ∧ (∃ (s : State) (b : ℕ), s.boot.aoiOn = true ∧ s.i3cAddr = some b) :=
  ⟨⟨W, by decide +kernel⟩,
    ⟨W, by decide +kernel⟩,
    ⟨{ W with i3cAddr := some 9 }, 9, by decide +kernel⟩⟩

theorem test_meets_FusesBlowInTheirWindow :
  (∃ (s : State) (target : TapTarget), s.tapOpen target = false)
    ∧ (∃ (s : State) (target : TapTarget), s.tapOpen target = true)
    ∧ (∃ (s : State), s.fuseOpen = false)
    ∧ (∃ (s : State) (k : UnitKey), s.fuseOpen = true ∧ keyOk k = true) :=
  ⟨⟨W, .keeperScan, by decide +kernel⟩,
    ⟨W.put .kprStStatusScanTarget 0 1, .keeperScan, by decide +kernel⟩,
    ⟨W, by decide +kernel⟩,
    ⟨Wfu, ⟨1, 5, 0⟩, by decide +kernel⟩⟩

theorem test_meets_PatrolAndSpine :
  (∃ (s : State) (e : SymbolErrors) (b : BitVec 4) (f : Fin 32), s.boot.aoiOn = true ∧ s.sliceDepth ↑f < 511 ∧ b ≠ 0 ∧ errorSymbols e ≤ 2 ∧ (eccRead (eccEncode 0 ^^^ errorBits e)).1 = EccFinding.uncorrectable)
    ∧ (∃ (s : State) (e : SymbolErrors) (b : BitVec 4) (c : ℕ) (f : Fin 32), s.boot.aoiOn = true ∧ s.sliceDepth ↑f < 511 ∧ b ≠ 0 ∧ errorSymbols e ≤ 2 ∧ (eccRead (eccEncode 0 ^^^ errorBits e)).1 = EccFinding.uncorrectable ∧ c < 4096 ∧ s.rf RF.semFlagsPoison c ≠ 1)
    ∧ (∃ (s : State) (e : SymbolErrors) (b : BitVec 4) (f : Fin 32) (n : ℕ), s.boot.aoiOn = true ∧ s.sliceDepth ↑f < 511 ∧ b ≠ 0 ∧ errorSymbols e ≤ 2 ∧ (eccRead (eccEncode 0 ^^^ errorBits e)).1 = EccFinding.uncorrectable ∧ n ≤ 4)
    ∧ (∃ (s : State) (e : SymbolErrors) (b : BitVec 4) (f : Fin 32), s.boot.aoiOn = true ∧ s.sliceDepth ↑f < 511 ∧ b ≠ 0 ∧ errorSymbols e ≤ 2 ∧ (eccRead (eccEncode 0 ^^^ errorBits e)).1 = EccFinding.uncorrectable ∧ 8 ≤ ↑f ∧ ↑f < 24) :=
  ⟨⟨W, e2, 8, 31, by decide +kernel⟩,
    ⟨W, e2, 1, 4095, 31, by decide +kernel⟩,
    ⟨W, e2, 1, 8, 4, by decide +kernel⟩,
    ⟨W, e2, 1, 8, by decide +kernel⟩⟩

end F

namespace G

def pk (ctr src amt fseq launch : Nat) : RemoteAdd := BitVec.ofNat 256 (withCrc16 30 (1 + ctr * 2 ^ 16 + src * 2 ^ 32 + amt * 2 ^ 64 + fseq * 2 ^ 96 + launch * 2 ^ 160))
def WG : State := { W with goWtc := 500 }
def p0 : RemoteAdd := pk 4095 20479 9 0 500
def p1 : RemoteAdd := pk 4095 20479 9 1 500
def x1 : Parked := ⟨3, 15, p1.toNat, 5, false⟩
def x0 : Parked := ⟨3, 15, p0.toNat, 5, false⟩

theorem test_meets_TileSemaphoreOperations :
  (∃ (s : State) (tile : ℕ) (c : BitVec 12) (n : BitVec 32), tileOk tile = true ∧ (n = 0 ∨ s.rf RF.semFlagsPoison c.toNat = 1))
    ∧ (∃ (s : State) (tile : ℕ) (c : BitVec 12) (n : BitVec 32), tileOk tile = true ∧ n ≠ 0 ∧ s.rf RF.semFlagsPoison c.toNat ≠ 1 ∧ s.waits = [] ∧ s.rf RF.semCountCount c.toNat < 2 ^ 32 ∧ s.rf RF.semCountCount c.toNat + n.toNat < 2 ^ 32 ∧ s.mapHere = false)
    ∧ (∃ (s : State) (tile : ℕ) (c : BitVec 12) (n : BitVec 32), tileOk tile = true ∧ n ≠ 0 ∧ s.rf RF.semFlagsPoison c.toNat ≠ 1 ∧ s.waits = [] ∧ s.rf RF.semCountCount c.toNat < 2 ^ 32 ∧ n.toNat ≤ s.rf RF.semCountCount c.toNat)
    ∧ (∃ (s : State) (tile : ℕ) (c : BitVec 12) (n : BitVec 32), tileOk tile = true ∧ n ≠ 0 ∧ s.rf RF.semFlagsPoison c.toNat ≠ 1 ∧ s.waits = [] ∧ s.rf RF.semCountCount c.toNat < 2 ^ 32 ∧ s.rf RF.semCountCount c.toNat < n.toNat)
    ∧ (∃ (s : State) (tile : ℕ) (c : BitVec 12), tileOk tile = true ∧ s.rf RF.semFlagsPoison c.toNat = 1)
    ∧ (∃ (s : State) (tile : ℕ) (c : BitVec 12), tileOk tile = true ∧ s.rf RF.semFlagsPoison c.toNat ≠ 1) :=
  ⟨⟨W, 0, 0, 0, by decide +kernel⟩,
    ⟨W, 0, 4095, 0xFFFFFFFF, by decide +kernel⟩,
    ⟨W.put .semCountCount 4095 7, 0, 4095, 7, by decide +kernel⟩,
    ⟨W, 0, 4095, 7, by decide +kernel⟩,
    ⟨W.put .semFlagsPoison 4095 1, 0, 4095, by decide +kernel⟩,
    ⟨W, 0, 4095, by decide +kernel⟩⟩

theorem test_meets_RemoteAddsParkAndRelease :
  (∃ (s : State) (k : Fin 16) (p : RemoteAdd), addOk (BitVec.toNat p) = false ∧ s.rf RF.lwdParkDiscardDiscards ↑k + 1 < 2 ^ 32)
    ∧ (∃ (s : State) (p : RemoteAdd), addOk (BitVec.toNat p) = true ∧ addLaunch (BitVec.toNat p) ≠ s.goWtc ∧ s.rf RF.kprParkDiscardsDiscards 0 + 1 < 2 ^ 32)
    ∧ (∃ (s : State) (k : Fin 16) (p : RemoteAdd), addOk (BitVec.toNat p) = true ∧ addLaunch (BitVec.toNat p) = s.goWtc ∧ (¬serialGe (s.landed (↑k) (addSource (BitVec.toNat p))) (addFseq (BitVec.toNat p)) = false) ∧ s.park = [] ∧ (s.rf RF.semFlagsPoison (addCounter (BitVec.toNat p)) ≠ 1 ∧ s.waits = [] ∧ s.rf RF.semCountCount (addCounter (BitVec.toNat p)) + addAmount (BitVec.toNat p) < 2 ^ 32))
    ∧ (∃ (s : State) (k : Fin 16) (p : RemoteAdd), addOk (BitVec.toNat p) = true ∧ addLaunch (BitVec.toNat p) = s.goWtc ∧ serialGe (s.landed (↑k) (addSource (BitVec.toNat p))) (addFseq (BitVec.toNat p)) = false ∧ s.park.length < 256)
    ∧ (∃ (s : State) (k : Fin 16) (p : RemoteAdd), addOk (BitVec.toNat p) = true ∧ addLaunch (BitVec.toNat p) = s.goWtc ∧ serialGe (s.landed (↑k) (addSource (BitVec.toNat p))) (addFseq (BitVec.toNat p)) = false ∧ s.park.length = 256)
    ∧ (∃ (s : State) (source : BitVec 15), s.park = [] ∧ engineReserved source.toNat = true)
    ∧ (∃ (s : State) (source : BitVec 15), s.park = [] ∧ engineReserved source.toNat = false)
    ∧ (∃ (s : State) (k : Fin 16) (p : RemoteAdd) (source : BitVec 15) (x : Parked), s.park = [x] ∧ x.port = ↑k ∧ x.packet = BitVec.toNat p ∧ addSource (BitVec.toNat p) = source.toNat ∧ (s.rf RF.semFlagsPoison (addCounter (BitVec.toNat p)) ≠ 1 ∧ s.waits = [] ∧ s.rf RF.semCountCount (addCounter (BitVec.toNat p)) + addAmount (BitVec.toNat p) < 2 ^ 32) ∧ (¬serialGe (s.landed (↑k) (addSource (BitVec.toNat p))) (addFseq (BitVec.toNat p)) = false))
    ∧ (∃ (s : State) (k : Fin 16) (p : RemoteAdd) (source : BitVec 15) (x : Parked), s.park = [x] ∧ x.port = ↑k ∧ x.packet = BitVec.toNat p ∧ addSource (BitVec.toNat p) = source.toNat ∧ (s.rf RF.semFlagsPoison (addCounter (BitVec.toNat p)) ≠ 1 ∧ s.waits = [] ∧ s.rf RF.semCountCount (addCounter (BitVec.toNat p)) + addAmount (BitVec.toNat p) < 2 ^ 32) ∧ serialGe (s.landed (↑k) (addSource (BitVec.toNat p))) (addFseq (BitVec.toNat p)) = false)
    ∧ (∃ (s : State) (k : Fin 16), (s.warden ↑k).ingress = [])
    ∧ (∃ (s : State) (k : Fin 16) (p : RemoteAdd), (s.warden ↑k).ingress = [BitVec.toNat p] ∧ s.park = [] ∧ addOk (BitVec.toNat p) = true ∧ addLaunch (BitVec.toNat p) = s.goWtc ∧ serialGe (s.landed (↑k) (addSource (BitVec.toNat p))) (addFseq (BitVec.toNat p)) = false)
    ∧ (∃ (s : State) (x : Parked), s.park = [x] ∧ x.timedOut = false ∧ x.since + s.parkTicks < s.now)
    ∧ (∃ (s : State) (x : Parked), s.park = [x] ∧ (x.timedOut = true ∨ s.now ≤ x.since + s.parkTicks)) :=
  ⟨⟨WG, 15, 0, by decide +kernel⟩,
    ⟨WG, pk 4095 20479 9 0 501, by decide +kernel⟩,
    ⟨WG, 15, p0, by decide +kernel⟩,
    ⟨{ WG with park := [⟨0, 14, p1.toNat, 4, false⟩] }, 15, p1, by decide +kernel⟩,
    ⟨{ WG with park := (List.range 256).map (fun i => ⟨i, 14, p1.toNat, 4, false⟩) }, 15, p1, by decide +kernel⟩,
    ⟨WG, 20480, by decide +kernel⟩,
    ⟨WG, 20479, by decide +kernel⟩,
    ⟨{ WG with park := [x0] }, 15, p0, 20479, x0, by decide +kernel⟩,
    ⟨{ WG with park := [x1] }, 15, p1, 20479, x1, by decide +kernel⟩,
    ⟨WG.put .lwdParkStatusBackpressure 15 1, 15, by decide +kernel⟩,
    ⟨{ WG.put .lwdParkStatusBackpressure 15 1 with wardens := [(15, { ingress := [p1.toNat] })] }, 15, p1, by decide +kernel⟩,
    ⟨{ WG with park := [x1] }, x1, by decide +kernel⟩,
    ⟨{ WG with park := [{ x1 with timedOut := true }] }, { x1 with timedOut := true }, by decide +kernel⟩⟩

end G

namespace H

def co (rx exact : Bool) : Collective := ⟨15, 0xFFFF, exact, true, rx, 2, 4096, [7], [9], 33⟩
def ch (ph : Nat) : Chorus := { coll := 0xFFFF, inst := 3, chunk := 4095, phase := ph, anns := [(7, 50, 2)], digest := 50, openWtc := 6, openAt := 19999999000 }
def WH (rx exact : Bool) (w : Warden) (l : List (RF × Nat × Nat)) : State := { W.puts l with
    prog := some ⟨[], 1, 5, [15], 100, 0, false, [], [co rx exact]⟩, wardens := [(15, w)] }
def an (ty : Nat) (mode : Nat) : Announcement := BitVec.ofNat 512 (withCrc16 30 (1 + 16 * ty + 2 ^ 8 * mode + 2 ^ 16 * 0xFFFF + 2 ^ 32 * 3 + 2 ^ 64 * 4095 + 2 ^ 80 * 7 + 2 ^ 128 * 50 + 2 ^ 192 * 11))
def onK : List (RF × Nat × Nat) := [(.lwdDigCtrlState, 15, 2), (.kprEngineEngine, 0, 11)]
def lg : LoggedAnn := ⟨0xFFFF, 3, 4095, 50, 33⟩

theorem test_meets_AnnouncementsAndData :
  (∃ (s : State) (k : Fin 16) (coll : BitVec 16), s.collective (↑k) coll.toNat = none)
    ∧ (∃ (s : State) (k : Fin 16) (coll : BitVec 16) (l : Collective) (r : ℕ), s.collective (↑k) coll.toNat = some l ∧ l.contributes = true ∧ l.receivers = [r] ∧ s.fnOn (Func.chorus k) = true)
    ∧ (∃ (s : State) (k : Fin 16) (coll : BitVec 16) (inst : BitVec 32) (chunk : BitVec 12) (ann : Announcement), bits (BitVec.toNat ann) 16 16 = coll.toNat ∧ bits (BitVec.toNat ann) 32 32 = inst.toNat ∧ bits (BitVec.toNat ann) 64 12 = chunk.toNat ∧ (s.warden ↑k).pieces = [] ∧ annGood (BitVec.toNat ann) 1 = false ∧ s.rf RF.lwdAnnDiscardCount ↑k + 1 < 2 ^ RF.lwdAnnDiscardCount.spec.width)
    ∧ (∃ (s : State) (k : Fin 16) (coll : BitVec 16) (inst : BitVec 32) (chunk : BitVec 12) (ann : Announcement) (l : Collective), bits (BitVec.toNat ann) 16 16 = coll.toNat ∧ bits (BitVec.toNat ann) 32 32 = inst.toNat ∧ bits (BitVec.toNat ann) 64 12 = chunk.toNat ∧ (s.warden ↑k).pieces = [] ∧ annGood (BitVec.toNat ann) 1 = true ∧ s.collective (↑k) coll.toNat = some l ∧ s.annFits (↑k) (BitVec.toNat ann) l = true ∧ s.tagPasses (BitVec.toNat ann) = true ∧ s.chorusOf ↑k (coll.toNat, inst.toNat, chunk.toNat) = none ∧ (s.warden ↑k).chorus.length < 256)
    ∧ (∃ (s : State) (k : Fin 16) (coll : BitVec 16) (inst : BitVec 32) (chunk : BitVec 12) (ann : Announcement) (l : Collective), bits (BitVec.toNat ann) 16 16 = coll.toNat ∧ bits (BitVec.toNat ann) 32 32 = inst.toNat ∧ bits (BitVec.toNat ann) 64 12 = chunk.toNat ∧ (s.warden ↑k).pieces = [] ∧ annGood (BitVec.toNat ann) 1 = true ∧ s.collective (↑k) coll.toNat = some l ∧ s.annFits (↑k) (BitVec.toNat ann) l = true ∧ s.tagPasses (BitVec.toNat ann) = true ∧ s.chorusOf ↑k (coll.toNat, inst.toNat, chunk.toNat) = none ∧ 256 ≤ (s.warden ↑k).chorus.length)
    ∧ (∃ (s : State) (k : Fin 16) (coll : BitVec 16) (chunk : BitVec 12) (i : ℕ) (l : Collective) (c : Chorus), (s.warden ↑k).pieces = [] ∧ s.collective (↑k) coll.toNat = some l ∧ l.receives = true ∧ s.fnOn (Func.chorus k) = true ∧ ((coll.toNat, ((Tab.get (fun _ => 0) (s.warden ↑k).instsIn coll.toNat + if chunk.toNat = 0 ∧ i = 0 then 1 else 0) - 1) % 2 ^ 32, chunk.toNat) ∉ (s.warden ↑k).closed) ∧ (s.chorusOf ↑k (coll.toNat, ((Tab.get (fun _ => 0) (s.warden ↑k).instsIn coll.toNat + if chunk.toNat = 0 ∧ i = 0 then 1 else 0) - 1) % 2 ^ 32, chunk.toNat) = some c) ∧ c.phase = 0)
    ∧ (∃ (s : State) (k : Fin 16) (coll : BitVec 16) (i : ℕ) (l : Collective), (s.warden ↑k).pieces = [] ∧ s.collective (↑k) coll.toNat = some l ∧ l.receives = true ∧ s.fnState (Func.chorus k) = 0 ∧ i = 0 ∧ s.rf RF.lwdChunksUncheckedCount ↑k + 1 < 2 ^ RF.lwdChunksUncheckedCount.spec.width) :=
  ⟨⟨W, 15, 0, by decide +kernel⟩,
    ⟨WH true false {} onK, 15, 0xFFFF, co true false, 9, by decide +kernel⟩,
    ⟨WH true false {} onK, 15, 0xFFFF, 3, 4095, an 2 0, by decide +kernel⟩,
    ⟨WH true false {} onK, 15, 0xFFFF, 3, 4095, an 1 0, co true false, by decide +kernel⟩,
    ⟨WH true false { chorus := (List.range 256).map (fun i => { ch 0 with inst := 4 + i }) } onK, 15, 0xFFFF, 3, 4095, an 1 0, co true false, by decide +kernel⟩,
    ⟨WH true false { chorus := [ch 0], instsIn := [(0xFFFF, 4)] } onK, 15, 0xFFFF, 4095, 0, co true false, ch 0, by decide +kernel⟩,
    ⟨WH true false { instsIn := [(0xFFFF, 4)] } [], 15, 0xFFFF, 0, co true false, by decide +kernel⟩⟩

theorem test_meets_ChorusVerdicts :
  (∃ (s : State) (k : Fin 16) (coll : BitVec 16) (inst : BitVec 32) (chunk : BitVec 12) (c : Chorus) (l : Collective), (s.warden ↑k).pieces = [] ∧ s.chorusOf ↑k (coll.toNat, inst.toNat, chunk.toNat) = some c ∧ s.collective (↑k) coll.toNat = some l ∧ s.sliceDepth (wardenField ↑k) < 511 ∧ c.phase = 1 ∧ c.digest = expectedSum c ∧ s.rf RF.lwdChorusPassCount ↑k + 1 < 2 ^ 32)
    ∧ (∃ (s : State) (k : Fin 16) (coll : BitVec 16) (inst : BitVec 32) (chunk : BitVec 12) (c : Chorus) (l : Collective), (s.warden ↑k).pieces = [] ∧ s.chorusOf ↑k (coll.toNat, inst.toNat, chunk.toNat) = some c ∧ s.collective (↑k) coll.toNat = some l ∧ s.sliceDepth (wardenField ↑k) < 511 ∧ c.phase = 1 ∧ c.digest ≠ expectedSum c ∧ l.exactMode = true)
    ∧ (∃ (s : State) (k : Fin 16) (coll : BitVec 16) (inst : BitVec 32) (chunk : BitVec 12) (c : Chorus) (l : Collective), (s.warden ↑k).pieces = [] ∧ s.chorusOf ↑k (coll.toNat, inst.toNat, chunk.toNat) = some c ∧ s.collective (↑k) coll.toNat = some l ∧ s.sliceDepth (wardenField ↑k) < 511 ∧ c.phase = 1 ∧ c.digest ≠ expectedSum c ∧ l.exactMode = false ∧ s.rf RF.lwdChorusFailCount ↑k + 1 < 2 ^ 32)
    ∧ (∃ (s : State) (k : Fin 16) (coll : BitVec 16) (inst : BitVec 32) (chunk : BitVec 12) (c : Chorus) (l : Collective), (s.warden ↑k).pieces = [] ∧ s.chorusOf ↑k (coll.toNat, inst.toNat, chunk.toNat) = some c ∧ s.collective (↑k) coll.toNat = some l ∧ s.sliceDepth (wardenField ↑k) < 511 ∧ c.phase = 0 ∧ c.openAt + 1000 * clamp 1 1000 (s.rf RF.lwdDigCtrlDeadlineMs ↑k) ≤ s.now ∧ (s.rf (if c.tagFail = true then RF.lwdChorusTagCount else RF.lwdChorusIncompleteCount) ↑k + 1 < 2 ^ 32))
    ∧ (∃ (s : State) (k : Fin 16) (coll : BitVec 16) (inst : BitVec 32) (chunk : BitVec 12) (c : Chorus) (l : Collective), (s.warden ↑k).pieces = [] ∧ s.chorusOf ↑k (coll.toNat, inst.toNat, chunk.toNat) = some c ∧ s.collective (↑k) coll.toNat = some l ∧ s.sliceDepth (wardenField ↑k) < 511 ∧ c.phase = 0 ∧ s.now < c.openAt + 1000 * clamp 1 1000 (s.rf RF.lwdDigCtrlDeadlineMs ↑k)) :=
  ⟨⟨WH true false { chorus := [ch 1] } onK, 15, 0xFFFF, 3, 4095, ch 1, co true false, by decide +kernel⟩,
    ⟨WH true true { chorus := [{ ch 1 with digest := 51 }] } onK, 15, 0xFFFF, 3, 4095, { ch 1 with digest := 51 }, co true true, by decide +kernel⟩,
    ⟨WH true false { chorus := [{ ch 1 with digest := 51 }] } onK, 15, 0xFFFF, 3, 4095, { ch 1 with digest := 51 }, co true false, by decide +kernel⟩,
    ⟨WH true false { chorus := [{ ch 0 with openAt := 0 }] } onK, 15, 0xFFFF, 3, 4095, { ch 0 with openAt := 0 }, co true false, by decide +kernel⟩,
    ⟨WH true false { chorus := [{ ch 0 with openAt := 20000000000 }] } onK, 15, 0xFFFF, 3, 4095, { ch 0 with openAt := 20000000000 }, co true false, by decide +kernel⟩⟩

theorem test_meets_RollCallsNameTheCulprit :
  (∃ (s : State) (k : Fin 16) (coll : BitVec 16) (inst : BitVec 32) (chunk : BitVec 12) (c : Chorus) (l : Collective) (e : ℕ), (s.warden ↑k).chorus = [c] ∧ c.phase = 2 ∧ chorusKey c = (coll.toNat, inst.toNat, chunk.toNat) ∧ s.collective (↑k) coll.toNat = some l ∧ l.contributors = [e])
    ∧ (∃ (s : State) (k : Fin 16) (coll : BitVec 16) (inst : BitVec 32) (chunk : BitVec 12) (ann : Announcement) (g : LoggedAnn), annGood (BitVec.toNat ann) 2 = true ∧ s.tagPasses (BitVec.toNat ann) = true ∧ bits (BitVec.toNat ann) 192 15 = s.engine ∧ engineReserved (bits (BitVec.toNat ann) 80 15) = false ∧ bits (BitVec.toNat ann) 16 16 = coll.toNat ∧ bits (BitVec.toNat ann) 32 32 = inst.toNat ∧ bits (BitVec.toNat ann) 64 12 = chunk.toNat ∧ (s.warden ↑k).annLog = [g] ∧ (g.coll, g.inst, g.chunk) = (coll.toNat, inst.toNat, chunk.toNat))
    ∧ (∃ (s : State) (k : Fin 16) (coll : BitVec 16) (inst : BitVec 32) (chunk : BitVec 12) (ann : Announcement), annGood (BitVec.toNat ann) 2 = true ∧ s.tagPasses (BitVec.toNat ann) = true ∧ bits (BitVec.toNat ann) 192 15 = s.engine ∧ engineReserved (bits (BitVec.toNat ann) 80 15) = false ∧ bits (BitVec.toNat ann) 16 16 = coll.toNat ∧ bits (BitVec.toNat ann) 32 32 = inst.toNat ∧ bits (BitVec.toNat ann) 64 12 = chunk.toNat ∧ (s.warden ↑k).annLog = [])
    ∧ (∃ (s : State) (k : Fin 16) (rcv : BitVec 15) (g : LoggedAnn), (s.warden ↑k).reissues = [{ logged := g, receiver := rcv.toNat }])
    ∧ (∃ (s : State) (k : Fin 16) (coll : BitVec 16) (inst : BitVec 32) (chunk : BitVec 12) (l : Collective) (rcv : BitVec 15) (g : LoggedAnn), (s.warden ↑k).reissues = [{ logged := g, receiver := rcv.toNat, granted := true }] ∧ (g.coll, g.inst, g.chunk) = (coll.toNat, inst.toNat, chunk.toNat) ∧ s.collective (↑k) coll.toNat = some l)
    ∧ (∃ (s : State) (k : Fin 16) (coll : BitVec 16) (inst : BitVec 32) (chunk : BitVec 12) (c : Chorus) (l : Collective) (ann : Announcement) (data : Option (List (BitVec 32))), s.chorusOf ↑k (coll.toNat, inst.toNat, chunk.toNat) = some c ∧ s.collective (↑k) coll.toNat = some l ∧ c.phase = 3 ∧ annGood (BitVec.toNat ann) 3 = true ∧ s.tagPasses (BitVec.toNat ann) = true ∧ bits (BitVec.toNat ann) 192 15 = s.engine ∧ l.contributors.contains (bits (BitVec.toNat ann) 80 15) = true ∧ c.answers = [] ∧ bits (BitVec.toNat ann) 16 16 = coll.toNat ∧ bits (BitVec.toNat ann) 32 32 = inst.toNat ∧ bits (BitVec.toNat ann) 64 12 = chunk.toNat ∧ (rollDone l { coll := c.coll, inst := c.inst, chunk := c.chunk, phase := c.phase, anns := c.anns, digest := c.digest, got := c.got, openWtc := c.openWtc, openAt := c.openAt, tagFail := c.tagFail, rollAt := c.rollAt, answers := [{ engine := bits (BitVec.toNat ann) 80 15, stale := decide (bits (BitVec.toNat ann) 11 1 = 1), data := Option.map (fun x => pldAt (s.chunkSeed coll.toNat inst.toNat chunk.toNat) 0 (egressView true x)) data }] } = false))
    ∧ (∃ (s : State) (k : Fin 16) (coll : BitVec 16) (inst : BitVec 32) (chunk : BitVec 12) (c : Chorus) (l : Collective), s.chorusOf ↑k (coll.toNat, inst.toNat, chunk.toNat) = some c ∧ s.collective (↑k) coll.toNat = some l ∧ c.phase = 3 ∧ c.rollAt + 1000 * clamp 10 1000 (s.rf RF.lwdDigCtrlRollcallMs ↑k) ≤ s.now ∧ (s.warden ↑k).pieces = [] ∧ s.rf RF.lwdChorusFailCount ↑k + 1 < 2 ^ 32)
    ∧ (∃ (s : State) (k : Fin 16) (ann : Announcement), annGood (BitVec.toNat ann) 3 = false ∧ s.rf RF.lwdAnnDiscardCount ↑k + 1 < 2 ^ RF.lwdAnnDiscardCount.spec.width)
    ∧ (∃ (s : State) (k : Fin 16) (ann : Announcement), annGood (BitVec.toNat ann) 4 = true ∧ s.tagPasses (BitVec.toNat ann) = true ∧ bits (BitVec.toNat ann) 192 15 = s.engine ∧ engineReserved (bits (BitVec.toNat ann) 80 15) = false ∧ s.sliceDepth (wardenField ↑k) < 511) :=
  ⟨⟨WH true true { chorus := [ch 2] } onK, 15, 0xFFFF, 3, 4095, ch 2, co true true, 7, by decide +kernel⟩,
    ⟨WH true true { annLog := [lg] } onK, 15, 0xFFFF, 3, 4095, an 2 0, lg, by decide +kernel⟩,
    ⟨WH true true {} onK, 15, 0xFFFF, 3, 4095, an 2 0, by decide +kernel⟩,
    ⟨WH true true { reissues := [⟨lg, 9, false⟩] } onK, 15, 9, lg, by decide +kernel⟩,
    ⟨WH true true { reissues := [⟨lg, 9, true⟩] } onK, 15, 0xFFFF, 3, 4095, co true true, 9, lg, by decide +kernel⟩,
    ⟨WH true true { chorus := [ch 3] } onK, 15, 0xFFFF, 3, 4095, ch 3, co true true, an 3 0, none, by decide +kernel⟩,
    ⟨WH true true { chorus := [ch 3] } onK, 15, 0xFFFF, 3, 4095, ch 3, co true true, by decide +kernel⟩,
    ⟨WH true true {} onK, 15, an 2 0, by decide +kernel⟩,
    ⟨WH true true {} onK, 15, an 4 0, by decide +kernel⟩⟩

end H

namespace I

theorem test_meets_RegisterReadsAndWrites :
  (∃ (s : State) (addr : ℕ) (width : ℕ), s.boot.aoiOn = true ∧ accessOk addr width = false)
    ∧ (∃ (s : State), s.boot.aoiOn = true)
    ∧ (∃ (s : State), s.boot.aoiOn = true ∧ s.rf RF.aoiResetCauseStation 0 ≤ 1 ∧ s.rf RF.aoiResetCausePort 0 ≤ 1)
    ∧ (∃ (s : State) (w : ℕ), s.boot.aoiOn = true ∧ s.host.latch = some (69632, w)) :=
  ⟨⟨W, 0x11101, 4, by decide +kernel⟩,
    ⟨W, by decide +kernel⟩,
    ⟨W.puts [(.aoiResetCauseStation, 0, 1), (.aoiResetCausePort, 0, 1)], by decide +kernel⟩,
    ⟨{ W with host := { latch := some (0x11000, 5) } }, 5, by decide +kernel⟩⟩

theorem test_meets_WindowsOfBar0 :
  (∃ (s : State) (i : ℕ), s.boot.aoiOn = true ∧ i < 32768)
    ∧ (∃ (s : State) (addr : ℕ), s.boot.aoiOn = true ∧ 4194304 ≤ addr ∧ addr < 4718592)
    ∧ (∃ (s : State) (addr : ℕ), s.boot.aoiOn = true ∧ 12582912 ≤ addr)
    ∧ (∃ (s : State) (addr : ℕ) (width : ℕ), s.boot.aoiOn = true ∧ accessOk addr width = true ∧ 8388608 ≤ addr ∧ addr < 12582912 ∧ s.ksWritable (s.ksOffset addr) = true)
    ∧ (∃ (s : State) (addr : ℕ) (width : ℕ), s.boot.aoiOn = true ∧ accessOk addr width = true ∧ 8388608 ≤ addr ∧ addr < 12582912 ∧ s.ksWritable (s.ksOffset addr) = false)
    ∧ (∃ (s : State), s.boot.aoiOn = true) :=
  ⟨⟨{ W with ledger := { slots := [(32767, some (ent ⟨1, 5, 0⟩ 1 2))] } }, 32767, by decide +kernel⟩,
    ⟨W, 0x400000, by decide +kernel⟩,
    ⟨W, 0xC00000, by decide +kernel⟩,
    ⟨W.put .kprKsPagePage 0 4, 0x800000, 8, by decide +kernel⟩,
    ⟨W.put .kprKsPagePage 0 3, 0xBFFFF8, 8, by decide +kernel⟩,
    ⟨W, by decide +kernel⟩⟩

theorem test_meets_SentinelAccess :
  (∃ (s : State) (f : Fin 32) (set : Fin 2), s.rf RF.fstTsnCmdGo (tsnSet ↑f ↑set) = 1)
    ∧ (∃ (s : State) (f : Fin 32) (set : Fin 2), s.rf RF.fstTsnCmdGo (tsnSet ↑f ↑set) ≠ 1)
    ∧ (∃ (s : State) (f : Fin 32) (set : Fin 2), s.rf RF.fstTsnCmdGo (tsnSet ↑f ↑set) = 0)
    ∧ (∃ (s : State) (f : Fin 32) (set : Fin 2), s.rf RF.fstTsnCmdGo (tsnSet ↑f ↑set) = 1 ∧ s.domState Domain.compute = 2)
    ∧ (∃ (s : State) (f : Fin 32) (set : Fin 2), s.rf RF.fstTsnCmdGo (tsnSet ↑f ↑set) = 1 ∧ s.dropped ↑f = false ∧ s.domState Domain.compute = 0 ∧ (s.now < Tab.get (fun _ => 0) s.tsnGo (tsnSet ↑f ↑set) + 1000) ∧ s.rf RF.fstTsnCmdWrite (tsnSet ↑f ↑set) = 0 ∧ s.rf RF.fstTsnCmdWide (tsnSet ↑f ↑set) = 0)
    ∧ (∃ (s : State) (f : Fin 32) (set : Fin 2), s.rf RF.fstTsnCmdGo (tsnSet ↑f ↑set) = 1 ∧ s.dropped ↑f = false ∧ s.domState Domain.compute = 0 ∧ (s.now < Tab.get (fun _ => 0) s.tsnGo (tsnSet ↑f ↑set) + 1000))
    ∧ (∃ (s : State) (f : Fin 32) (set : Fin 2), s.rf RF.fstTsnCmdGo (tsnSet ↑f ↑set) = 1 ∧ s.dropped ↑f = false ∧ s.domState Domain.compute = 0 ∧ (Tab.get (fun _ => 0) s.tsnGo (tsnSet ↑f ↑set) + 1000 ≤ s.now) ∧ s.rf RF.fstTsnCmdWrite (tsnSet ↑f ↑set) = 0) :=
  ⟨⟨W.put .fstTsnCmdGo 63 1, 31, 1, by decide +kernel⟩,
    ⟨W, 31, 1, by decide +kernel⟩,
    ⟨W, 31, 1, by decide +kernel⟩,
    ⟨W.puts [(.fstTsnCmdGo, 63, 1), (.aoiDomainsCompute, 0, 2)], 31, 1, by decide +kernel⟩,
    ⟨{ W.puts [(.fstTsnCmdGo, 63, 1)] with tsnGo := [(63, 19999999001)] }, 31, 1, by decide +kernel⟩,
    ⟨{ W.puts [(.fstTsnCmdGo, 63, 1)] with tsnGo := [(63, 19999999001)] }, 31, 1, by decide +kernel⟩,
    ⟨{ W.puts [(.fstTsnCmdGo, 63, 1)] with tsnGo := [(63, 19999999000)] }, 31, 1, by decide +kernel⟩⟩

end I

namespace J

def kw (k : UnitKey) : BitVec 32 := BitVec.ofNat 32 (k.unit + 2 ^ 19 * k.kind + 2 ^ 23 * k.sub)
def k5 : UnitKey := ⟨1, 5, 0⟩
def ks31 : UnitKey := ⟨6, 31 * 2 ^ 14, 0⟩
def WJ (k : UnitKey) (o st : Nat) : State := { W with ledger := { slots := [(3, some ⟨k, o, st, 1, 0x70, 0⟩), (9, some ⟨⟨1, 77, 0⟩, 2, 1, 1, 0x20, 0⟩)] } }
def eJ (k : UnitKey) (o st : Nat) : Entry := ⟨k, o, st, 1, 0x70, 0⟩
def hr : HistRec := ⟨k5, 3, 2, 0, 9, 1, 0, 0, 0, [], 0, 0, 0⟩
def WO : State := W.put .kprMonStatusFlashWindow 0 1
def fl (n : Nat) : FlashLog := { sec0 := (List.range n).map (fun i => (i, 5)) }

theorem test_meets_HostLedgerCommands :
  (∃ (s : State) (cid : BitVec 32), s.hist.staged.length < 16384 ∧ s.canAnswer 32 cid.toNat)
    ∧ (∃ (s : State) (cid : BitVec 32), s.hist.staged.length < 16384 ∧ s.canAnswer 33 cid.toNat)
    ∧ (∃ (s : State) (cid : BitVec 32), s.hist.staged.length < 16384 ∧ s.canAnswer 34 cid.toNat)
    ∧ (∃ (s : State) (cid : BitVec 32), s.hist.staged.length < 16384 ∧ s.canAnswer 35 cid.toNat)
    ∧ (∃ (s : State) (cid : BitVec 32), s.hist.staged.length < 16384 ∧ s.canAnswer 36 cid.toNat)
    ∧ (∃ (s : State) (cid : BitVec 32) (key : BitVec 32), s.hist.staged.length < 16384 ∧ s.canAnswer 32 cid.toNat ∧ keyWordOk key.toNat = true)
    ∧ (∃ (s : State) (cid : BitVec 32) (key : BitVec 32), s.hist.staged.length < 16384 ∧ s.canAnswer 32 cid.toNat ∧ keyWordOk key.toNat = false)
    ∧ (∃ (s : State) (cid : BitVec 32) (key : BitVec 32) (st : BitVec 3), s.hist.staged.length < 16384 ∧ s.canAnswer 33 cid.toNat ∧ (keyWordOk key.toNat = false ∨ 1 < st.toNat))
    ∧ (∃ (s : State) (cid : BitVec 32) (key : BitVec 32) (st : BitVec 3), s.hist.staged.length < 16384 ∧ s.canAnswer 33 cid.toNat ∧ keyWordOk key.toNat = true ∧ st.toNat ≤ 1 ∧ (s.findEntry (wordKey key.toNat)).isSome = true)
    ∧ (∃ (s : State) (cid : BitVec 32) (key : BitVec 32) (st : BitVec 3) (i : ℕ), s.hist.staged.length < 16384 ∧ s.canAnswer 33 cid.toNat ∧ keyWordOk key.toNat = true ∧ st = 0 ∧ s.findEntry (wordKey key.toNat) = none ∧ s.freeEntry = some i)
    ∧ (∃ (s : State) (cid : BitVec 32) (key : BitVec 32) (st : BitVec 3) (i : ℕ) (j : ℕ), s.hist.staged.length < 16384 ∧ s.canAnswer 33 cid.toNat ∧ keyWordOk key.toNat = true ∧ st = 0 ∧ s.findEntry (wordKey key.toNat) = none ∧ s.freeEntry = some i ∧ j ≠ i)
    ∧ (∃ (s : State) (cid : BitVec 32) (key : BitVec 32) (i : ℕ) (e : Entry), s.hist.staged.length < 16384 ∧ s.canAnswer 34 cid.toNat ∧ keyWordOk key.toNat = true ∧ s.findEntry (wordKey key.toNat) = some (i, e) ∧ e.origin = 4 ∧ e.state = 0)
    ∧ (∃ (s : State) (cid : BitVec 32) (key : BitVec 32) (i : ℕ) (e : Entry) (j : ℕ), s.hist.staged.length < 16384 ∧ s.canAnswer 34 cid.toNat ∧ keyWordOk key.toNat = true ∧ s.findEntry (wordKey key.toNat) = some (i, e) ∧ e.origin = 4 ∧ e.state = 0 ∧ j ≠ i)
    ∧ (∃ (s : State) (cid : BitVec 32) (key : BitVec 32) (i : ℕ) (e : Entry), s.hist.staged.length < 16384 ∧ s.canAnswer 34 cid.toNat ∧ keyWordOk key.toNat = true ∧ s.findEntry (wordKey key.toNat) = some (i, e) ∧ (e.origin ≠ 4 ∨ e.state = 4))
    ∧ (∃ (s : State) (cid : BitVec 32) (key : BitVec 32), s.hist.staged.length < 16384 ∧ s.canAnswer 34 cid.toNat ∧ keyWordOk key.toNat = true ∧ s.findEntry (wordKey key.toNat) = none)
    ∧ (∃ (s : State) (cid : BitVec 32) (f : BitVec 5) (i : ℕ) (e : Entry), s.hist.staged.length < 16384 ∧ s.canAnswer 35 cid.toNat ∧ s.findEntry (stationKey f.toNat) = some (i, e) ∧ e.state = 4)
    ∧ (∃ (s : State) (cid : BitVec 32) (f : BitVec 5) (i : ℕ) (e : Entry) (j : ℕ), s.hist.staged.length < 16384 ∧ s.canAnswer 35 cid.toNat ∧ s.findEntry (stationKey f.toNat) = some (i, e) ∧ e.state = 4 ∧ j ≠ i)
    ∧ (∃ (s : State) (cid : BitVec 32) (f : BitVec 5), s.hist.staged.length < 16384 ∧ s.canAnswer 35 cid.toNat ∧ s.findEntry (stationKey f.toNat) = none ∧ s.disputed f.toNat = false)
    ∧ (∃ (s : State) (cid : BitVec 32) (f : BitVec 5) (i : ℕ) (e : Entry), s.hist.staged.length < 16384 ∧ s.canAnswer 36 cid.toNat ∧ s.findEntry (stationKey f.toNat) = some (i, e) ∧ e.state = 4 ∧ s.dropped f.toNat = false ∧ s.regrows = [] ∧ s.episodes = [] ∧ s.waits = [])
    ∧ (∃ (s : State) (cid : BitVec 32) (f : BitVec 5) (i : ℕ) (e : Entry) (j : ℕ), s.hist.staged.length < 16384 ∧ s.canAnswer 36 cid.toNat ∧ s.findEntry (stationKey f.toNat) = some (i, e) ∧ e.state = 4 ∧ s.dropped f.toNat = false ∧ s.regrows = [] ∧ s.episodes = [] ∧ s.waits = [] ∧ j ≠ i)
    ∧ (∃ (s : State) (cid : BitVec 32) (f : BitVec 5), s.hist.staged.length < 16384 ∧ s.canAnswer 36 cid.toNat ∧ s.findEntry (stationKey f.toNat) = none ∧ s.disputed f.toNat = false) :=
  ⟨⟨WJ k5 4 0, 7, by decide +kernel⟩,
    ⟨WJ k5 4 0, 7, by decide +kernel⟩,
    ⟨WJ k5 4 0, 7, by decide +kernel⟩,
    ⟨WJ k5 4 0, 7, by decide +kernel⟩,
    ⟨WJ k5 4 0, 7, by decide +kernel⟩,
    ⟨WJ k5 4 0, 7, kw k5, by decide +kernel⟩,
    ⟨WJ k5 4 0, 7, 0, by decide +kernel⟩,
    ⟨WJ k5 4 0, 7, 0, 0, by decide +kernel⟩,
    ⟨WJ k5 4 0, 7, kw k5, 1, by decide +kernel⟩,
    ⟨W, 7, kw k5, 0, 0, by decide +kernel⟩,
    ⟨WJ ks31 4 0, 7, kw k5, 0, 0, 9, by decide +kernel⟩,
    ⟨WJ k5 4 0, 7, kw k5, 3, eJ k5 4 0, by decide +kernel⟩,
    ⟨WJ k5 4 0, 7, kw k5, 3, eJ k5 4 0, 9, by decide +kernel⟩,
    ⟨WJ k5 4 4, 7, kw k5, 3, eJ k5 4 4, by decide +kernel⟩,
    ⟨W, 7, kw k5, by decide +kernel⟩,
    ⟨WJ ks31 2 4, 7, 31, 3, eJ ks31 2 4, by decide +kernel⟩,
    ⟨WJ ks31 2 4, 7, 31, 3, eJ ks31 2 4, 9, by decide +kernel⟩,
    ⟨W, 7, 31, by decide +kernel⟩,
    ⟨WJ ks31 2 4, 7, 31, 3, eJ ks31 2 4, by decide +kernel⟩,
    ⟨WJ ks31 2 4, 7, 31, 3, eJ ks31 2 4, 9, by decide +kernel⟩,
    ⟨W, 7, 31, by decide +kernel⟩⟩

theorem test_meets_LedgerFlashAndAgeCheck :
  (∃ (s : State), s.flashOpen = false)
    ∧ (∃ (s : State) (r : HistRec) (rest : List HistRec), s.flashOpen = true ∧ s.anchorDue = false ∧ s.activeFull = false ∧ s.hist.headerDue = false ∧ s.hist.staged = r :: rest)
    ∧ (∃ (s : State) (n : ℕ × ℕ), s.flashOpen = true ∧ s.anchorDue = true ∧ s.anchors.newest = some n ∧ s.anchors.active = 0 ∧ s.anchors.sec0.length < 128)
    ∧ (∃ (s : State) (n : ℕ × ℕ), s.flashOpen = true ∧ s.anchorDue = true ∧ s.anchors.newest = some n ∧ s.anchors.active = 0 ∧ 128 ≤ s.anchors.sec0.length)
    ∧ (∃ (s : State) (n : ℕ × ℕ), s.flashOpen = true ∧ s.identDue = true ∧ s.idents.newest = some n ∧ s.idents.active = 0 ∧ s.idents.sec0.length < 128)
    ∧ (∃ (s : State), s.now < s.hist.ageAt + 3600000000)
    ∧ (∃ (s : State) (i : ℕ) (e : Entry), s.hist.ageAt + 3600000000 ≤ s.now ∧ s.ledger.slots = [(i, some e)] ∧ s.hist.staged.length < 16384 ∧ e.state = 3 ∧ s.detections e.key = 0)
    ∧ (∃ (s : State) (i : ℕ) (e : Entry), s.hist.ageAt + 3600000000 ≤ s.now ∧ s.ledger.slots = [(i, some e)] ∧ s.hist.staged.length < 16384 ∧ (e.state ≠ 3 ∨ s.detections e.key ≠ 0)) :=
  ⟨⟨W, by decide +kernel⟩,
    ⟨{ WO with anchors := { sec0 := [(3, 20000000000)] }, hist := { staged := [hr, hr], active := 1 } }, hr, [hr], by decide +kernel⟩,
    ⟨{ WO with anchors := fl 127 }, (126, 5), by decide +kernel⟩,
    ⟨{ WO with anchors := fl 128 }, (127, 5), by decide +kernel⟩,
    ⟨{ WO with idents := fl 127, identDue := true }, (126, 5), by decide +kernel⟩,
    ⟨{ W with hist := { ageAt := 20000000000 } }, by decide +kernel⟩,
    ⟨{ W with ledger := { slots := [(3, some (eJ k5 2 3))] } }, 3, eJ k5 2 3, by decide +kernel⟩,
    ⟨{ W with ledger := { slots := [(3, some (eJ k5 2 1))] } }, 3, eJ k5 2 1, by decide +kernel⟩⟩

end J

namespace K

def sfn : Func := .fieldScrub 31
def cr (r : Bool) : State := { W with launch := { running := r } }
def Wn : State := W.put .hptStatusAttached 0 0
def tk : Taken := ⟨9, 3, 0x41, 5, 0, true⟩
def cmdw (seq : Nat) : Nat := withCrc16 14 (2 ^ 8 * 3 + 2 ^ 32 * seq + 2 ^ 64 * 7 + 2 ^ 16 * 1)
def WAp (n : Nat) : State := { W with host := { aperture := [(0, cmdw 0)], landed := [(0, true)], headAt := some 19999999900, taken := (List.range n).map (fun i => ⟨i, 0, 0x41, 5, 0, true⟩) } }
def mm : Msg := ⟨2, 0x12, 1, 0, 0, 0, 0x55⟩
def WRi : State := { W.puts [(.hptRingSizeUnits, 0, 64), (.hptRingTailTail, 0, 127), (.hptRingHeadHead, 0, 64)] with host := { outQ := [mm, mm], busMaster := true } }

theorem test_meets_HostQueriesAndRegisterCommands :
  (∃ (s : State) (cid : BitVec 32), s.canAnswer 3 cid.toNat)
    ∧ (∃ (s : State) (cid : BitVec 32), s.canAnswer 18 cid.toNat)
    ∧ (∃ (s : State) (cid : BitVec 32), s.canAnswer 16 cid.toNat)
    ∧ (∃ (s : State) (cid : BitVec 32) (addr : BitVec 24) (width : BitVec 4), s.canAnswer 16 cid.toNat ∧ accessOk addr.toNat width.toNat = false)
    ∧ (∃ (s : State) (cid : BitVec 32), s.canAnswer 17 cid.toNat)
    ∧ (∃ (s : State) (cid : BitVec 32) (addr : BitVec 24) (width : BitVec 4), s.canAnswer 17 cid.toNat ∧ accessOk addr.toNat width.toNat = false)
    ∧ (∃ (s : State) (cid : BitVec 32) (addr : BitVec 24) (width : BitVec 4) (v : BitVec 64) (c : Instr), s.rf RF.hptStatusAttached 0 ≠ 1 ∧ s.rf RF.hptRejectedCount 0 + 1 < 2 ^ RF.hptRejectedCount.spec.width ∧ c ∈ [Instr.ping cid, Instr.status cid, Instr.regRead cid addr width, Instr.regWrite cid addr width v, Instr.recover cid, Instr.detach cid]) :=
  ⟨⟨W, 7, by decide +kernel⟩,
    ⟨W, 7, by decide +kernel⟩,
    ⟨W, 7, by decide +kernel⟩,
    ⟨W, 7, 0x11101, 4, by decide +kernel⟩,
    ⟨W, 7, by decide +kernel⟩,
    ⟨W, 7, 0x11101, 4, by decide +kernel⟩,
    ⟨W.put .hptStatusAttached 0 0, 7, 0, 0, 0, .recover 7, by decide +kernel⟩⟩

theorem test_meets_HostSwitchesAndSemaphores :
  (∃ (s : State) (cid : BitVec 32) (code : BitVec 4) (idx : BitVec 5) (f : Func), s.canAnswer 50 cid.toNat ∧ funcOf code.toNat idx.toNat = some f)
    ∧ (∃ (s : State) (cid : BitVec 32) (code : BitVec 4) (idx : BitVec 5), s.canAnswer 50 cid.toNat ∧ funcOf code.toNat idx.toNat = none)
    ∧ (∃ (s : State) (cid : BitVec 32) (n : BitVec 32), s.canAnswer 64 cid.toNat ∧ n = 0)
    ∧ (∃ (s : State) (cid : BitVec 32) (c : BitVec 12) (n : BitVec 32), s.canAnswer 64 cid.toNat ∧ n ≠ 0 ∧ s.rf RF.semFlagsPoison c.toNat = 1)
    ∧ (∃ (s : State) (cid : BitVec 32) (c : BitVec 12) (n : BitVec 32), s.canAnswer 64 cid.toNat ∧ n ≠ 0 ∧ s.rf RF.semFlagsPoison c.toNat ≠ 1 ∧ s.waits = [] ∧ s.rf RF.semCountCount c.toNat + n.toNat < 2 ^ 32 ∧ s.mapHere = false)
    ∧ (∃ (s : State) (cid : BitVec 32) (c : BitVec 12) (n : BitVec 32), s.canAnswer 64 cid.toNat ∧ n ≠ 0 ∧ s.rf RF.semFlagsPoison c.toNat ≠ 1 ∧ n.toNat ≤ s.rf RF.semCountCount c.toNat ∧ s.rf RF.semCountCount c.toNat < 2 ^ 32)
    ∧ (∃ (s : State) (cid : BitVec 32) (n : BitVec 32) (limit : BitVec 32), s.canAnswer 65 cid.toNat ∧ (n = 0 ∨ limit = 0 ∨ 10000000 < limit.toNat))
    ∧ (∃ (s : State) (cid : BitVec 32) (c : BitVec 12) (n : BitVec 32) (limit : BitVec 32), s.canAnswer 65 cid.toNat ∧ n ≠ 0 ∧ limit ≠ 0 ∧ limit.toNat ≤ 10000000 ∧ s.rf RF.semFlagsPoison c.toNat ≠ 1 ∧ s.rf RF.semCountCount c.toNat < 2 ^ 32 ∧ n.toNat ≤ s.rf RF.semCountCount c.toNat)
    ∧ (∃ (s : State) (cid : BitVec 32) (c : BitVec 12) (n : BitVec 32) (limit : BitVec 32), s.canAnswer 65 cid.toNat ∧ n ≠ 0 ∧ limit ≠ 0 ∧ limit.toNat ≤ 10000000 ∧ s.rf RF.semFlagsPoison c.toNat ≠ 1 ∧ s.rf RF.semCountCount c.toNat < 2 ^ 32 ∧ s.rf RF.semCountCount c.toNat < n.toNat ∧ s.waits = []) :=
  ⟨⟨W, 7, 2, 31, sfn, by decide +kernel⟩,
    ⟨W, 7, 15, 31, by decide +kernel⟩,
    ⟨W, 7, 0, by decide +kernel⟩,
    ⟨W.put .semFlagsPoison 4095 1, 7, 4095, 3, by decide +kernel⟩,
    ⟨W.put .semCountCount 4095 4, 7, 4095, 3, by decide +kernel⟩,
    ⟨W.put .semCountCount 4095 4, 7, 4095, 4, by decide +kernel⟩,
    ⟨W, 7, 4, 10000001, by decide +kernel⟩,
    ⟨W.put .semCountCount 4095 4, 7, 4095, 4, 10000000, by decide +kernel⟩,
    ⟨W, 7, 4095, 4, 10000000, by decide +kernel⟩⟩

theorem test_meets_HostTestKeyPairAndRunDigest :
  (∃ (s : State) (cid : BitVec 32) (unit : BitVec 19) (mode : BitVec 2), s.canAnswer 80 cid.toNat ∧ (tileOk unit.toNat = false ∨ mode = 3))
    ∧ (∃ (s : State) (cid : BitVec 32) (unit : BitVec 19) (mode : BitVec 2), s.canAnswer 80 cid.toNat ∧ tileOk unit.toNat = true ∧ mode ≠ 3 ∧ s.orderable unit.toNat = false)
    ∧ (∃ (s : State) (cid : BitVec 32) (unit : BitVec 19) (mode : BitVec 2), s.canAnswer 80 cid.toNat ∧ tileOk unit.toNat = true ∧ mode ≠ 3 ∧ s.orderable unit.toNat = true)
    ∧ (∃ (s : State) (cid : BitVec 32), s.canAnswer 48 cid.toNat ∧ s.launch.running = true)
    ∧ (∃ (s : State) (cid : BitVec 32) (key : BitVec 256), s.canAnswer 48 cid.toNat ∧ s.launch.running = false ∧ key = 0)
    ∧ (∃ (s : State) (cid : BitVec 32) (key : BitVec 256), s.canAnswer 48 cid.toNat ∧ s.launch.running = false ∧ key ≠ 0)
    ∧ (∃ (s : State) (cid : BitVec 32), s.canAnswer 48 cid.toNat ∧ s.launch.running = false)
    ∧ (∃ (s : State) (cid : BitVec 32) (e : BitVec 15), s.canAnswer 49 cid.toNat ∧ 20480 ≤ e.toNat ∧ e.toNat ≠ 32767)
    ∧ (∃ (s : State) (cid : BitVec 32) (e : BitVec 15), s.canAnswer 49 cid.toNat ∧ e.toNat < 20480 ∧ s.rf RF.kprSecPairHolderValid 0 = 1)
    ∧ (∃ (s : State) (cid : BitVec 32) (e : BitVec 15), s.canAnswer 49 cid.toNat ∧ e.toNat = 32767)
    ∧ (∃ (s : State) (cid : BitVec 32), s.canAnswer 112 cid.toNat)
    ∧ (∃ (s : State) (cid : BitVec 32), s.canAnswer 112 cid.toNat ∧ s.run.stale = false)
    ∧ (∃ (s : State), s.run.stale = true)
    ∧ (∃ (s : State), s.run.stale = false) :=
  ⟨⟨W, 7, 120, 0, by decide +kernel⟩,
    ⟨{ W with episodes := [{ tile := 5, logical := 5, spare := 157, slot := 0, select := 2, window := 256, quota := 30, goAt := 1 }] }, 7, 5, 0, by decide +kernel⟩,
    ⟨W, 7, 29, 0, by decide +kernel⟩,
    ⟨cr true, 7, by decide +kernel⟩,
    ⟨cr false, 7, 0, by decide +kernel⟩,
    ⟨cr false, 7, 5, by decide +kernel⟩,
    ⟨{ (cr false).put .kprDigKeyLoaded 0 1 with jobKey := some 9 }, 7, by decide +kernel⟩,
    ⟨W, 7, 20480, by decide +kernel⟩,
    ⟨W.puts [(.kprSecPairHolderValid, 0, 1), (.kprSecPairHolder, 0, 66)], 7, 20479, by decide +kernel⟩,
    ⟨W, 7, 0x7FFF, by decide +kernel⟩,
    ⟨W, 7, by decide +kernel⟩,
    ⟨W, 7, by decide +kernel⟩,
    ⟨{ W with run := { stale := true } }, by decide +kernel⟩,
    ⟨W, by decide +kernel⟩⟩

theorem test_meets_AttachmentsBeginAndEnd :
  (∃ (s : State) (base : BitVec 64) (units : BitVec 17) (versions : BitVec 3), s.rf RF.hptStatusAttached 0 ≠ 1 ∧ s.rxOpen = true ∧ ringOk base.toNat units.toNat = true ∧ versions.toNat % 2 = 1)
    ∧ (∃ (s : State) (base : BitVec 64) (units : BitVec 17), s.rf RF.hptStatusAttached 0 ≠ 1 ∧ s.rxOpen = true ∧ ringOk base.toNat units.toNat = false ∧ s.rf RF.hptRejectedCount 0 + 1 < 2 ^ RF.hptRejectedCount.spec.width)
    ∧ (∃ (s : State), s.rxOpen = false)
    ∧ (∃ (s : State) (cid : BitVec 32), s.rxOpen = true ∧ s.canAnswer 1 cid.toNat)
    ∧ (∃ (s : State) (base : BitVec 64) (units : BitVec 17) (versions : BitVec 3), s.rf RF.hptStatusAttached 0 = 1 ∧ s.rxOpen = true ∧ ringOk base.toNat units.toNat = true ∧ versions.toNat % 2 = 1)
    ∧ (∃ (s : State) (cid : BitVec 32), s.canAnswer 2 cid.toNat ∧ s.host.taken = [])
    ∧ (∃ (s : State) (cid : BitVec 32) (x : Taken), s.canAnswer 2 cid.toNat ∧ s.host.taken = [x] ∧ x.cid ≠ cid.toNat)
    ∧ (∃ (s : State), s.rf RF.hptStatusAttached 0 ≠ 1)
    ∧ (∃ (s : State), s.rf RF.hptStatusAttached 0 = 1) :=
  ⟨⟨Wn, 4096, 65536, 1, by decide +kernel⟩,
    ⟨Wn, 4096, 63, by decide +kernel⟩,
    ⟨W.put .aoiDomainsKeeper 0 2, by decide +kernel⟩,
    ⟨W, 7, by decide +kernel⟩,
    ⟨W, 4096, 65536, 1, by decide +kernel⟩,
    ⟨W, 7, by decide +kernel⟩,
    ⟨{ W with host := { taken := [tk] } }, 7, tk, by decide +kernel⟩,
    ⟨Wn, by decide +kernel⟩,
    ⟨W, by decide +kernel⟩⟩

theorem test_meets_ApertureLandsAndTakes :
  (∃ (o : ℕ) (data : List Byte), o + data.length ≤ 64 ∧ data ≠ [])
    ∧ (∃ (s : State), s.apReady = false)
    ∧ (∃ (s : State), s.apReady = true ∧ s.rf RF.hptStatusAttached 0 = 1 ∧ s.host.taken.length < 256)
    ∧ (∃ (s : State), s.apReady = true ∧ s.rf RF.hptStatusAttached 0 = 1 ∧ 256 ≤ s.host.taken.length ∧ s.host.outQ.length < 4096) :=
  ⟨⟨62, [0xAA, 0xBB], by decide +kernel⟩,
    ⟨W, by decide +kernel⟩,
    ⟨WAp 0, by decide +kernel⟩,
    ⟨WAp 256, by decide +kernel⟩⟩

theorem test_meets_ApertureStuckIsToldOnce :
  (∃ (s : State) (a : ℕ), s.host.stuckSent = false ∧ s.apLanded (s.rf RF.hptApHead 0) = true ∧ s.host.headAt = some a ∧ a + 100 ≤ s.now)
    ∧ (∃ (s : State) (a : ℕ), s.host.stuckSent = false ∧ s.apLanded (s.rf RF.hptApHead 0) = true ∧ s.host.headAt = some a ∧ s.now < a + 100)
    ∧ (∃ (s : State), s.apLanded (s.rf RF.hptApHead 0) = false)
    ∧ (∃ (s : State), s.host.stuckSent = true)
    ∧ (∃ (s : State) (u : Fin 1024) (o : ℕ) (data : List Byte), ↑u = s.rf RF.hptApHead 0 ∧ o < 64 ∧ o + data.length = 64) :=
  ⟨⟨WAp 0, 19999999900, by decide +kernel⟩,
    ⟨{ WAp 0 with now := 19999999999 }, 19999999900, by decide +kernel⟩,
    ⟨W, by decide +kernel⟩,
    ⟨{ W with host := { stuckSent := true } }, by decide +kernel⟩,
    ⟨{ W with host := { stuckSent := true } }, 0, 63, [1], by decide +kernel⟩⟩

theorem test_meets_EventRingAndOverload :
  (∃ (s : State) (head : BitVec 32), s.domState Domain.keeper ≠ 2 ∧ (s.ringTail + 2 ^ 32 - head.toNat) % 2 ^ 32 ≤ s.ringSize ∧ serialGe head.toNat (s.rf RF.hptRingHeadHead 0) = true)
    ∧ (∃ (s : State) (head : BitVec 32), s.domState Domain.keeper ≠ 2 ∧ s.ringSize < (s.ringTail + 2 ^ 32 - head.toNat) % 2 ^ 32)
    ∧ (∃ (s : State) (m : Msg) (rest : List Msg), s.host.outQ = m :: rest ∧ s.rf RF.hptStatusAttached 0 = 1 ∧ s.busUp = true ∧ s.ringRoom m.units = true ∧ m.units = 1 ∧ s.host.discards = [])
    ∧ (∃ (s : State), s.ringReady = none)
    ∧ (∃ (s : State) (f : ℕ) (n : ℕ) (more : List (ℕ × ℕ)), s.host.rejects = (f, n) :: more ∧ outRoom s.host.outQ 2 = true)
    ∧ (∃ (s : State), s.rf RF.hptStatusOverload 0 = 0 ∧ (∃ a, s.host.highSince = some a ∧ a + 1000 ≤ s.now) ∧ outRoom s.host.outQ 2 = true)
    ∧ (∃ (s : State), s.rf RF.hptStatusOverload 0 = 1 ∧ (∃ a, s.host.lowSince = some a ∧ a + 1000 ≤ s.now))
    ∧ (∃ (s : State), s.host.msixOwed = true ∧ s.msixReady = true ∧ s.host.msixEntry.testBit 96 = false)
    ∧ (∃ (s : State), (s.host.msixOwed = false ∨ s.msixReady = false)) :=
  ⟨⟨WRi, 127, by decide +kernel⟩,
    ⟨WRi, 128, by decide +kernel⟩,
    ⟨WRi, mm, [mm], by decide +kernel⟩,
    ⟨W, by decide +kernel⟩,
    ⟨{ W with host := { rejects := [(5, 2), (9, 1)] } }, 5, 2, [(9, 1)], by decide +kernel⟩,
    ⟨{ W with host := { highSince := some 19999999000 } }, by decide +kernel⟩,
    ⟨{ W.put .hptStatusOverload 0 1 with host := { lowSince := some 19999999000 } }, by decide +kernel⟩,
    ⟨{ W with host := { msixOwed := true, msixEntry := 0 } }, by decide +kernel⟩,
    ⟨W, by decide +kernel⟩⟩

end K

namespace M

def pg : Program := ⟨[1, 2], 1, 5, [15], 100, 0, false, [], []⟩
def WM (l : List (RF × Nat × Nat)) (x : Launch) : State := { W.puts l with launch := x, prog := some pg }

theorem test_meets_LaunchBarrier :
  (∃ (s : State) (cid : BitVec 32), s.canAnswer 96 cid.toNat ∧ (s.launch.running = true ∨ s.launch.barrier = true ∨ s.rf RF.kprHangStatusRecovery 0 ≠ 0))
    ∧ (∃ (s : State) (cid : BitVec 32), s.canAnswer 96 cid.toNat ∧ s.launch.running = false ∧ s.launch.barrier = false ∧ s.rf RF.kprHangStatusRecovery 0 = 0 ∧ s.rf RF.kprBringupStatusReady 0 = 0)
    ∧ (∃ (s : State) (cid : BitVec 32) (go : BitVec 64) (multi : Bool), s.canAnswer 96 cid.toNat ∧ s.launch.running = false ∧ s.launch.barrier = false ∧ s.rf RF.kprHangStatusRecovery 0 = 0 ∧ s.rf RF.kprBringupStatusReady 0 = 1 ∧ s.engineValid = true ∧ s.launchCodes go.toNat multi (s.tooLate go.toNat multi) = [])
    ∧ (∃ (s : State), s.launch.barrier = true ∧ s.launch.multi = true ∧ s.launch.sentReady = false ∧ s.launch.wtcGo ≤ s.wtc + 1000000 ∧ s.barrierReady (s.launch.wtcGo, true, false) = true)
    ∧ (∃ (s : State), s.launch.barrier = true ∧ s.launch.multi = true ∧ s.launch.sentReady = false ∧ s.launch.wtcGo ≤ s.wtc + 1000000 ∧ s.barrierReady (s.launch.wtcGo, true, false) = false)
    ∧ (∃ (s : State), s.launch.barrier = true ∧ s.launch.multi = true ∧ s.launch.sentReady = false ∧ s.wtc + 1000000 < s.launch.wtcGo)
    ∧ (∃ (s : State) (k : Fin 16), ↑k ∈ s.namedPorts)
    ∧ (∃ (s : State) (k : Fin 16), ↑k ∉ s.namedPorts)
    ∧ (∃ (s : State), s.launch.barrier = true ∧ s.launch.multi = true ∧ s.launch.ready = false ∧ s.launch.wtcGo ≤ s.wtc + 100000 ∧ s.launch.sentReady = true ∧ s.allReady = true)
    ∧ (∃ (s : State), s.launch.barrier = true ∧ s.launch.multi = true ∧ s.launch.ready = false ∧ s.launch.wtcGo ≤ s.wtc + 100000 ∧ (s.launch.sentReady = false ∨ s.allReady = false))
    ∧ (∃ (s : State) (k : Fin 16), s.launch.barrier = true ∧ s.launch.multi = true ∧ ↑k ∈ s.namedPorts ∧ s.wtc < s.launch.wtcGo) :=
  ⟨⟨WM [] { running := true }, 7, by decide +kernel⟩,
    ⟨WM [(.kprBringupStatusReady, 0, 0)] {}, 7, by decide +kernel⟩,
    ⟨WM [(.kprEngineEngine, 0, 11)] {}, 7, 20000000000000, false, by decide +kernel⟩,
    ⟨WM [(.kprWtcStatusSynced, 0, 1)] { barrier := true, multi := true, wtcGo := 20000001000000 }, by decide +kernel⟩,
    ⟨WM [] { barrier := true, multi := true, wtcGo := 20000001000000 }, by decide +kernel⟩,
    ⟨WM [] { barrier := true, multi := true, wtcGo := 20000001000001 }, by decide +kernel⟩,
    ⟨WM [] {}, 15, by decide +kernel⟩,
    ⟨WM [] {}, 14, by decide +kernel⟩,
    ⟨WM [] { barrier := true, multi := true, wtcGo := 20000000100000, sentReady := true, seenReady := 32768 }, by decide +kernel⟩,
    ⟨WM [] { barrier := true, multi := true, wtcGo := 20000000100000, sentReady := true }, by decide +kernel⟩,
    ⟨WM [] { barrier := true, multi := true, wtcGo := 20000000100000, sentReady := true }, 15, by decide +kernel⟩⟩

theorem test_meets_LaunchReleases :
  (∃ (s : State), s.launch.barrier = true ∧ s.wtc < s.launch.wtcGo)
    ∧ (∃ (s : State), s.launch.barrier = true ∧ s.launch.wtcGo ≤ s.wtc ∧ (s.launch.multi = false ∨ s.launch.ready = true))
    ∧ (∃ (s : State), s.launch.barrier = true ∧ s.launch.wtcGo ≤ s.wtc ∧ s.launch.multi = true ∧ s.launch.ready = false) :=
  ⟨⟨WM [] { barrier := true, wtcGo := 20000000000001 }, by decide +kernel⟩,
    ⟨WM [] { barrier := true, wtcGo := 20000000000000 }, by decide +kernel⟩,
    ⟨WM [] { barrier := true, wtcGo := 20000000000000, multi := true }, by decide +kernel⟩⟩

theorem test_meets_ProgramsAndTimeExchange :
  (∃ (s : State) (p : Program) (c : Instr), s.launch.running = false ∧ s.rf RF.kprHangStatusRecovery 0 = 0 ∧ (c = Instr.programLoad p ∨ c = Instr.programChange p))
    ∧ (∃ (s : State) (p : Program) (c : Instr), s.launch.running = true ∧ s.rf RF.kprHangStatusRecovery 0 = 0 ∧ s.rf RF.kprEpochDraining 0 = 1 ∧ (c = Instr.programLoad p ∨ c = Instr.programChange p))
    ∧ (∃ (s : State), s.rf RF.kprWtcCtrlRoot 0 = 1)
    ∧ (∃ (s : State) (hops : ℕ), s.rf RF.kprWtcCtrlRoot 0 ≠ 1 ∧ hops + 1 ≤ 10 ∧ hops + 1 < s.rf RF.kprWtcStatusHops 0 ∧ s.launch.everLaunched = false)
    ∧ (∃ (s : State), s.now < s.wtcSyncAt + 10000)
    ∧ (∃ (s : State), s.wtcSyncAt + 10000 ≤ s.now ∧ s.rf RF.kprWtcCtrlRoot 0 ≠ 1 ∧ s.rf RF.kprWtcStatusSynced 0 = 1 ∧ outRoom s.host.outQ 2 = true) :=
  ⟨⟨W, pg, .programChange pg, by decide +kernel⟩,
    ⟨WM [(.kprEpochDraining, 0, 1)] { running := true }, pg, .programChange pg, by decide +kernel⟩,
    ⟨W.put .kprWtcCtrlRoot 0 1, by decide +kernel⟩,
    ⟨W.put .kprWtcStatusHops 0 15, 9, by decide +kernel⟩,
    ⟨{ W with wtcSyncAt := 19999999999 }, by decide +kernel⟩,
    ⟨W.put .kprWtcStatusSynced 0 1, by decide +kernel⟩⟩

end M

namespace N

/-! Images signed by the key whose public point is the base point of P-384. -/
def keyBytes : List Nat := 3 :: beBytes 48 p384Gx
def keyHash : Nat := 0x43d1259257f4b37d0ce1e95e1596d452b23513421fccf811ed342d11ec3383dd0adeff446817e61a491e570edee5bc57
def sigR : Nat := 0x77a41d4606ffa1464793c7e5fdc7d98cb9d3910202dcd06bea4f240d3566da6b408bbae5026580d02d7e5c70500c831
def packS : Nat := 0x46f7b3f6b17725b994a91886c4287654c6a891c02c56e6ef8fccf51331e0a751c8b4171ae6a3bb0e67d75f1c02a66073
def fwS : Nat := 0x48ae01ceedf480695f7e7a1a7805b37b3198974921208d8d1d0e189f2b128bad5be76e9c9ca9ddaaa6a407a52f133f8
def toB (l : List Nat) : List Byte := l.map (fun n => BitVec.ofNat 8 n)
/-- PACK_ID 9, REVISION 4, any STEPPING, one descriptor. -/
def pk : List Byte := toB ([1, 0, 1, 0, 9, 0, 0, 0, 4, 0, 0, 0, 0xFF, 0xFF] ++ List.replicate 18 0 ++ keyBytes ++ List.replicate 15 0 ++
  beBytes 48 sigR ++ beBytes 48 packS ++ List.replicate 64 0 ++
  [5, 0, 0, 0, 0, 0, 0, 0, 7, 0, 2, 0, 99, 0, 0, 0, 0, 0, 0, 0, 0, 0, 0, 0, 0, 0, 0, 0, 0, 0, 0, 0])
/-- REVISION 2, any STEPPING, empty segments. -/
def fwi : List Byte := toB ([1, 0, 0, 0, 2, 0, 0, 0, 0xFF, 0xFF] ++ List.replicate 54 0 ++ keyBytes ++ List.replicate 15 0 ++
  beBytes 48 sigR ++ beBytes 48 fwS ++ List.replicate 32 0)
theorem test_pack_signature : ecdsaOk (imgBytes pk 32 49) (imgBytes pk 96 96) (imgBytes pk 0 96 ++ (pk.drop 256).map (fun b => b.toNat)) = true := by
  decide +kernel
theorem test_firmware_signature : ecdsaOk (imgBytes fwi 64 49) (imgBytes fwi 128 96) (imgBytes fwi 0 113 ++ (fwi.drop 256).map (fun b => b.toNat)) = true := by
  decide +kernel
/-- A wafer with that key fused. -/
def WK : State := { W with fuses := { W.fuses with keyHash0 := keyHash } }
theorem pack_passes (s : State) (h : s.fuses = WK.fuses) : s.packFault pk = none := by
  have a : packFormatOk pk = true := by decide +kernel
  have b : WK.keyFused (imgField pk 1 1) (imgBytes pk 32 49) = true := by decide +kernel
  have c : WK.steppingOk (imgField pk 12 2) = true := by decide +kernel
  have b' : s.keyFused (imgField pk 1 1) (imgBytes pk 32 49) = true := by rw [← b]; unfold State.keyFused State.keyHash; rw [h]
  have c' : s.steppingOk (imgField pk 12 2) = true := by rw [← c]; unfold State.steppingOk; rw [h]
  unfold State.packFault; rw [a, b', c', test_pack_signature]; rfl
theorem firmware_passes (s : State) (h : s.fuses = WK.fuses) : s.fwFault fwi = none := by
  have a : fwFormatOk fwi = true := by decide +kernel
  have b : WK.keyFused (imgField fwi 1 1) (imgBytes fwi 64 49) = true := by decide +kernel
  have c : WK.steppingOk (imgField fwi 8 2) = true := by decide +kernel
  have b' : s.keyFused (imgField fwi 1 1) (imgBytes fwi 64 49) = true := by rw [← b]; unfold State.keyFused State.keyHash; rw [h]
  have c' : s.steppingOk (imgField fwi 8 2) = true := by rw [← c]; unfold State.steppingOk; rw [h]
  unfold State.fwFault; rw [a, b', c', test_firmware_signature]; rfl
/-- With that image in the window of the image, and the slots as given. -/
def WFw (a : Option FwImage) : State := { WK.put .kprFwLengthLength 0 256 with
  ks := writeBytes [] 0x1A00000 (fwi.map (fun b => b.toNat)), fw := { slotA := a } }
theorem firmware_staged (a : Option FwImage) :
    (WFw a).fwFault ((List.range ((WFw a).rf .kprFwLengthLength 0)).map (fun i => Tab.get (fun _ => 0) (WFw a).ks (27262976 + i))) = none := by
  have h : (List.range ((WFw none).rf .kprFwLengthLength 0)).map (fun i => Tab.get (fun _ => (0 : Byte)) (WFw none).ks (27262976 + i)) = fwi := by
    decide +kernel
  exact (congrArg _ h).trans (firmware_passes _ rfl)
def slotOf (rev : Byte) (v : Bool) : FwImage := ⟨[1, 0, 0, 0, rev, 0, 0, 0], v⟩
def packOf (id rev slot : Nat) : Pack := ⟨slot, id, rev, 0, 0, [], true, true, none, 5, []⟩
def WPs (l : List Pack) : State := { WK with host := { busMaster := true }, st := { packs := l } }
def WSc (n : Nat) : State := { W with st := { scanStep := n, scanAt := 19999999001 } }
def im : FwImage := ⟨[1, 2], true⟩
def pq : Pack := ⟨1, 3, 4, 0, 0, [], false, false, some 7, 5, []⟩
def WPk : State := { W with host := { busMaster := true } }

theorem test_meets_ScanEntryTakesThreeWrites :
  (∃ (s : State), s.keeperAwake = true ∧ s.st.scanStep = 0)
    ∧ (∃ (s : State), s.keeperAwake = true ∧ s.st.scanStep = 1 ∧ (s.st.scanStep = 0 ∨ s.now < s.st.scanAt + 1000))
    ∧ (∃ (s : State), s.keeperAwake = true ∧ s.st.scanStep = 2 ∧ (s.st.scanStep = 0 ∨ s.now < s.st.scanAt + 1000) ∧ s.scanBlocked = false)
    ∧ (∃ (s : State) (v : BitVec 32), s.keeperAwake = true ∧ s.st.scanStep = 0 ∧ v ≠ 23713)
    ∧ (∃ (s : State) (v : BitVec 32), s.keeperAwake = true ∧ s.st.scanStep = 1 ∧ (s.st.scanStep = 0 ∨ s.now < s.st.scanAt + 1000) ∧ v ≠ 41308)
    ∧ (∃ (s : State), s.keeperAwake = true ∧ s.st.scanStep = 2 ∧ (s.st.scanStep = 0 ∨ s.now < s.st.scanAt + 1000) ∧ s.scanBlocked = true)
    ∧ (∃ (s : State), s.st.scanStep ≠ 0 ∧ s.st.scanAt + 1000 ≤ s.now)
    ∧ (∃ (s : State), (s.st.scanStep = 0 ∨ s.now < s.st.scanAt + 1000)) :=
  ⟨⟨WSc 0, by decide +kernel⟩,
    ⟨WSc 1, by decide +kernel⟩,
    ⟨(WSc 2).puts [(.kprStStatusScanTarget, 0, 4), (.lwdPortStatusPortUp, 15, 1)], by decide +kernel⟩,
    ⟨WSc 0, 0xA15C, by decide +kernel⟩,
    ⟨WSc 1, 0x5CA1, by decide +kernel⟩,
    ⟨{ WSc 2 with launch := { running := true } }, by decide +kernel⟩,
    ⟨{ WSc 2 with now := 20000000001 }, by decide +kernel⟩,
    ⟨WSc 2, by decide +kernel⟩⟩

theorem test_meets_FirmwareCommitJudgesThenWrites :
  (∃ (s : State), s.keeperAwake = false)
    ∧ (∃ (s : State), s.keeperAwake = true ∧ s.rf RF.kprFwStatusBusy 0 = 1)
    ∧ (∃ (s : State), s.keeperAwake = true ∧ s.rf RF.kprFwStatusBusy 0 ≠ 1 ∧ 1048576 < s.rf RF.kprFwLengthLength 0)
    ∧ (∃ (s : State), s.keeperAwake = true ∧ s.rf RF.kprFwStatusBusy 0 ≠ 1 ∧ s.rf RF.kprFwLengthLength 0 ≤ 1048576 ∧ s.ksPoisoned 27262976 (s.rf RF.kprFwLengthLength 0) = true)
    ∧ (∃ (s : State) (r : ℕ), s.keeperAwake = true ∧ s.rf RF.kprFwStatusBusy 0 ≠ 1 ∧ s.rf RF.kprFwLengthLength 0 ≤ 1048576 ∧ s.ksPoisoned 27262976 (s.rf RF.kprFwLengthLength 0) = false ∧ (s.fwFault (List.map (fun i => Tab.get (fun _ => 0) s.ks (27262976 + i)) (List.range (s.rf RF.kprFwLengthLength 0))) = some r))
    ∧ (∃ (s : State) (v : FwImage), s.keeperAwake = true ∧ s.rf RF.kprFwStatusBusy 0 ≠ 1 ∧ s.rf RF.kprFwLengthLength 0 ≤ 1048576 ∧ s.ksPoisoned 27262976 (s.rf RF.kprFwLengthLength 0) = false ∧ (s.fwFault (List.map (fun i => Tab.get (fun _ => 0) s.ks (27262976 + i)) (List.range (s.rf RF.kprFwLengthLength 0))) = none) ∧ ((if s.rf RF.kprFwStatusActiveSlot 0 = 0 then s.fw.slotA else s.fw.slotB) = some v) ∧ v.valid = true ∧ (fwRevision (List.map (fun i => Tab.get (fun _ => 0) s.ks (27262976 + i)) (List.range (s.rf RF.kprFwLengthLength 0))) < fwRevision v.bytes))
    ∧ (∃ (s : State) (v : FwImage), s.keeperAwake = true ∧ s.rf RF.kprFwStatusBusy 0 ≠ 1 ∧ s.rf RF.kprFwLengthLength 0 ≤ 1048576 ∧ s.ksPoisoned 27262976 (s.rf RF.kprFwLengthLength 0) = false ∧ (s.fwFault (List.map (fun i => Tab.get (fun _ => 0) s.ks (27262976 + i)) (List.range (s.rf RF.kprFwLengthLength 0))) = none) ∧ ((if s.rf RF.kprFwStatusActiveSlot 0 = 0 then s.fw.slotA else s.fw.slotB) = some v) ∧ v.valid = true ∧ (fwRevision (List.map (fun i => Tab.get (fun _ => 0) s.ks (27262976 + i)) (List.range (s.rf RF.kprFwLengthLength 0))) = fwRevision v.bytes))
    ∧ (∃ (s : State) (v : FwImage), s.keeperAwake = true ∧ s.rf RF.kprFwStatusBusy 0 ≠ 1 ∧ s.rf RF.kprFwLengthLength 0 ≤ 1048576 ∧ s.ksPoisoned 27262976 (s.rf RF.kprFwLengthLength 0) = false ∧ (s.fwFault (List.map (fun i => Tab.get (fun _ => 0) s.ks (27262976 + i)) (List.range (s.rf RF.kprFwLengthLength 0))) = none) ∧ ((if s.rf RF.kprFwStatusActiveSlot 0 = 0 then s.fw.slotA else s.fw.slotB) = some v) ∧ (v.valid = false ∨ fwRevision v.bytes < fwRevision (List.map (fun i => Tab.get (fun _ => 0) s.ks (27262976 + i)) (List.range (s.rf RF.kprFwLengthLength 0)))))
    ∧ (∃ (s : State), s.keeperAwake = true ∧ s.rf RF.kprFwStatusBusy 0 ≠ 1 ∧ s.rf RF.kprFwLengthLength 0 ≤ 1048576 ∧ s.ksPoisoned 27262976 (s.rf RF.kprFwLengthLength 0) = false ∧ (s.fwFault (List.map (fun i => Tab.get (fun _ => 0) s.ks (27262976 + i)) (List.range (s.rf RF.kprFwLengthLength 0))) = none) ∧ ((if s.rf RF.kprFwStatusActiveSlot 0 = 0 then s.fw.slotA else s.fw.slotB) = none))
    ∧ (∃ (s : State) (v : FwImage), s.flashOpen = true ∧ s.fw.staged = some v)
    ∧ (∃ (s : State), (s.flashOpen = false ∨ s.fw.staged = none)) :=
  ⟨⟨W.put .aoiDomainsKeeper 0 2, by decide +kernel⟩,
    ⟨W.put .kprFwStatusBusy 0 1, by decide +kernel⟩,
    ⟨W.put .kprFwLengthLength 0 1048577, by decide +kernel⟩,
    ⟨{ W.put .kprFwLengthLength 0 300 with poison := [.keeperStore 27262976] }, by decide +kernel⟩,
    ⟨W.put .kprFwLengthLength 0 300, 2, by decide +kernel⟩,
    ⟨WFw (some (slotOf 3 true)), slotOf 3 true, by decide +kernel, by decide +kernel, by decide +kernel, by decide +kernel, firmware_staged _, by decide +kernel, by decide +kernel, by decide +kernel⟩,
    ⟨WFw (some (slotOf 2 true)), slotOf 2 true, by decide +kernel, by decide +kernel, by decide +kernel, by decide +kernel, firmware_staged _, by decide +kernel, by decide +kernel, by decide +kernel⟩,
    ⟨WFw (some (slotOf 1 true)), slotOf 1 true, by decide +kernel, by decide +kernel, by decide +kernel, by decide +kernel, firmware_staged _, by decide +kernel, by decide +kernel⟩,
    ⟨WFw none, by decide +kernel, by decide +kernel, by decide +kernel, by decide +kernel, firmware_staged _, by decide +kernel⟩,
    ⟨{ W.puts [(.kprMonStatusFlashWindow, 0, 1), (.kprFwStatusBusy, 0, 1), (.kprFwCtrlCommit, 0, 1)] with fw := { staged := some im } }, im, by decide +kernel⟩,
    ⟨W, by decide +kernel⟩⟩

theorem test_meets_PacksAreJudgedThenWritten :
  (∃ (s : State) (cid : BitVec 32) (len : BitVec 32), s.canAnswer 81 cid.toNat ∧ s.host.busMaster = true ∧ s.host.d3hot = false ∧ (len.toNat < 288 ∨ 2097152 < len.toNat))
    ∧ (∃ (s : State) (cid : BitVec 32) (len : BitVec 32) (readOk : Bool) (pack : List Byte), s.canAnswer 81 cid.toNat ∧ s.host.busMaster = true ∧ s.host.d3hot = false ∧ 288 ≤ len.toNat ∧ len.toNat ≤ 2097152 ∧ (readOk = false ∨ pack.length ≠ len.toNat))
    ∧ (∃ (s : State) (cid : BitVec 32) (len : BitVec 32) (readOk : Bool) (pack : List Byte) (v : ℕ), s.canAnswer 81 cid.toNat ∧ s.host.busMaster = true ∧ s.host.d3hot = false ∧ (readOk = true ∧ pack.length = len.toNat ∧ 288 ≤ len.toNat ∧ len.toNat ≤ 2097152) ∧ s.packFault pack = some v)
    ∧ (∃ (s : State) (cid : BitVec 32) (len : BitVec 32) (readOk : Bool) (pack : List Byte), s.canAnswer 81 cid.toNat ∧ s.host.busMaster = true ∧ s.host.d3hot = false ∧ (readOk = true ∧ pack.length = len.toNat ∧ 288 ≤ len.toNat ∧ len.toNat ≤ 2097152) ∧ s.packFault pack = none ∧ (∃ q ∈ s.st.packs, q.id = imgField pack 4 4 ∧ q.revision = imgField pack 8 4))
    ∧ (∃ (s : State) (cid : BitVec 32) (len : BitVec 32) (readOk : Bool) (pack : List Byte), s.canAnswer 81 cid.toNat ∧ s.host.busMaster = true ∧ s.host.d3hot = false ∧ (readOk = true ∧ pack.length = len.toNat ∧ 288 ≤ len.toNat ∧ len.toNat ≤ 2097152) ∧ s.packFault pack = none ∧ (∀ q ∈ s.st.packs, q.id = imgField pack 4 4 → q.revision ≠ imgField pack 8 4) ∧ (∃ q ∈ s.st.packs, q.id = imgField pack 4 4 ∧ imgField pack 8 4 < q.revision))
    ∧ (∃ (s : State) (cid : BitVec 32) (len : BitVec 32) (readOk : Bool) (pack : List Byte), s.canAnswer 81 cid.toNat ∧ s.host.busMaster = true ∧ s.host.d3hot = false ∧ (readOk = true ∧ pack.length = len.toNat ∧ 288 ≤ len.toNat ∧ len.toNat ≤ 2097152) ∧ s.packFault pack = none ∧ (∀ q ∈ s.st.packs, q.id = imgField pack 4 4 → q.revision < imgField pack 8 4) ∧ s.packSlotFor (imgField pack 4 4) = none)
    ∧ (∃ (s : State) (cid : BitVec 32) (len : BitVec 32) (readOk : Bool) (pack : List Byte) (n : ℕ), s.canAnswer 81 cid.toNat ∧ s.host.busMaster = true ∧ s.host.d3hot = false ∧ (readOk = true ∧ pack.length = len.toNat ∧ 288 ≤ len.toNat ∧ len.toNat ≤ 2097152) ∧ s.packFault pack = none ∧ (∀ q ∈ s.st.packs, q.id = imgField pack 4 4 → q.revision < imgField pack 8 4) ∧ s.packSlotFor (imgField pack 4 4) = some n)
    ∧ (∃ (s : State) (cid : BitVec 32) (p : Pack), s.flashOpen = true ∧ (List.find? (fun q => !q.stored) s.st.packs = some p) ∧ p.cid = some cid.toNat ∧ s.rf RF.hptStatusAttached 0 = 1 ∧ s.host.outQ.length < 4096)
    ∧ (∃ (s : State), s.flashOpen = false) :=
  ⟨⟨WPk, 7, 287, by decide +kernel⟩,
    ⟨WPk, 7, 288, true, [], by decide +kernel⟩,
    ⟨WPk, 7, 288, true, List.replicate 288 0, 0x20, by decide +kernel⟩,
    ⟨WPs [packOf 9 4 1], 7, 288, true, pk, by decide +kernel, by decide +kernel, by decide +kernel, by decide +kernel, pack_passes _ rfl, by decide +kernel⟩,
    ⟨WPs [packOf 9 5 1], 7, 288, true, pk, by decide +kernel, by decide +kernel, by decide +kernel, by decide +kernel, pack_passes _ rfl, by decide +kernel, by decide +kernel⟩,
    ⟨WPs ((List.range 16).map (packOf 8 4)), 7, 288, true, pk, by decide +kernel, by decide +kernel, by decide +kernel, by decide +kernel, pack_passes _ rfl, by decide +kernel, by decide +kernel⟩,
    ⟨WPs [packOf 9 3 1], 7, 288, true, pk, 1, by decide +kernel, by decide +kernel, by decide +kernel, by decide +kernel, pack_passes _ rfl, by decide +kernel, by decide +kernel⟩,
    ⟨{ WPk.put .kprMonStatusFlashWindow 0 1 with st := { packs := [{ pq with slot := 0, stored := true }, pq] } }, 7, pq, by decide +kernel⟩,
    ⟨WPk, by decide +kernel⟩⟩

end N

namespace P

def mg (ty arg0 : Nat) : MgmtMsg := BitVec.ofNat 640 (withCrc16 46 (1 + 16 * ty + 2 ^ 16 * 66 + 2 ^ 32 * 11 + 2 ^ 48 * 5 + 2 ^ 56 + 2 ^ 128 * arg0))
def pe (st : Nat) (missed : Nat) : Peer := ⟨66, 1, 1, 0, st, 0, missed, 0, 0, 19999900000, false, 2⟩
def WPt (l : List Peer) (r : List (RF × Nat × Nat)) : State := { W.puts ((.kprEngineEngine, 0, 11) :: r) with sec := { peers := l.map (fun p => (3, some p)) } }
def gn : Gen := { layer := 1, state := 2, coFed := false, hazard := false, engine := 66, drives := 0, step := 5, wtc := 600, bytes := 100, mapDigest := 0, content := 77, committed := true, since := 0 }

theorem test_meets_PartnerDirectoryFollowsMessages :
  (∃ (s : State), s.boot.trained = true ∧ s.engineValid = true ∧ s.anyPortUp = true ∧ s.sec.helloAt + 100000 ≤ s.now ∧ s.sec.lastVoid = none)
    ∧ (∃ (s : State), s.now < s.sec.helloAt + 100000)
    ∧ (∃ (s : State) (m : MgmtMsg), s.mgmtOk m mgHello none = false)
    ∧ (∃ (s : State) (m : MgmtMsg), s.mgmtOk m mgHello none = true ∧ s.sec.peers = [])
    ∧ (∃ (s : State) (m : MgmtMsg) (n : ℕ) (p : Peer), s.mgmtOk m mgHello none = true ∧ s.peerOf (mSource m) = some (n, p) ∧ p.state = 1)
    ∧ (∃ (s : State) (e : BitVec 15) (n : ℕ) (p : Peer), s.peerOf e.toNat = some (n, p) ∧ p.state = 1 ∧ p.mark + 100000 ≤ s.now ∧ p.missed < 2)
    ∧ (∃ (s : State) (e : BitVec 15) (n : ℕ) (p : Peer), s.peerOf e.toNat = some (n, p) ∧ p.state = 1 ∧ p.mark + 100000 ≤ s.now ∧ 2 ≤ p.missed ∧ p.role = 0)
    ∧ (∃ (s : State) (e : BitVec 15) (n : ℕ) (p : Peer), s.peerOf e.toNat = some (n, p) ∧ (p.state ≠ 1 ∨ s.now < p.mark + 100000))
    ∧ (∃ (s : State) (e : BitVec 15) (n : ℕ) (p : Peer), s.peerOf e.toNat = some (n, p) ∧ p.state = 2 ∧ p.mark + 3000000 ≤ s.now ∧ p.role = 0)
    ∧ (∃ (s : State) (e : BitVec 15) (n : ℕ) (p : Peer), s.peerOf e.toNat = some (n, p) ∧ (p.state ≠ 2 ∨ s.now < p.mark + 3000000))
    ∧ (∃ (s : State) (m : MgmtMsg) (n : ℕ) (p : Peer), s.mgmtOk m mgPause none = true ∧ s.peerOf (mSource m) = some (n, p) ∧ p.state = 1 ∧ p.role ≠ 1)
    ∧ (∃ (s : State) (m : MgmtMsg), s.mgmtOk m mgPause none = false) :=
  ⟨⟨WPt [] [(.lwdPortStatusPortUp, 15, 1)], by decide +kernel⟩,
    ⟨{ WPt [] [] with sec := { helloAt := 19999900001 } }, by decide +kernel⟩,
    ⟨WPt [] [], mg 2 0, by decide +kernel⟩,
    ⟨WPt [] [], mg 1 0, by decide +kernel⟩,
    ⟨WPt [pe 1 2] [], mg 1 0, 3, pe 1 2, by decide +kernel⟩,
    ⟨WPt [pe 1 1] [], 66, 3, pe 1 1, by decide +kernel⟩,
    ⟨WPt [pe 1 2] [], 66, 3, pe 1 2, by decide +kernel⟩,
    ⟨WPt [pe 2 0] [], 66, 3, pe 2 0, by decide +kernel⟩,
    ⟨WPt [{ pe 2 0 with mark := 19997000000 }] [], 66, 3, { pe 2 0 with mark := 19997000000 }, by decide +kernel⟩,
    ⟨WPt [pe 2 0] [], 66, 3, pe 2 0, by decide +kernel⟩,
    ⟨WPt [pe 1 0] [], mg 2 0, 3, pe 1 0, by decide +kernel⟩,
    ⟨WPt [pe 1 0] [], mg 1 0, by decide +kernel⟩⟩

theorem test_meets_PairingFollowsMessages :
  (∃ (s : State) (m : MgmtMsg), s.mgmtOk m mgPairReq s.jobKey = true ∧ s.pairReason m = 0)
    ∧ (∃ (s : State) (m : MgmtMsg), s.mgmtOk m mgPairReq s.jobKey = true ∧ s.pairReason m ≠ 0 ∧ s.sec.clientAt ≠ s.now)
    ∧ (∃ (s : State) (m : MgmtMsg), s.mgmtOk m mgPairAck s.jobKey = true ∧ s.sec.asked = some (mSource m) ∧ s.rf RF.kprSecPairHolderValid 0 = 0)
    ∧ (∃ (s : State) (m : MgmtMsg), s.mgmtOk m mgPairAck s.jobKey = true ∧ s.sec.asked ≠ some (mSource m))
    ∧ (∃ (s : State) (m : MgmtMsg), s.mgmtOk m mgPairNak s.jobKey = true ∧ s.sec.asked ≠ some (mSource m))
    ∧ (∃ (s : State) (m : MgmtMsg), s.mgmtOk m mgPairNak s.jobKey = true ∧ s.sec.asked = some (mSource m) ∧ s.nextHolder = none)
    ∧ (∃ (s : State) (m : MgmtMsg) (e : ℕ), s.mgmtOk m mgPairNak s.jobKey = true ∧ s.sec.asked = some (mSource m) ∧ s.nextHolder = some e)
    ∧ (∃ (s : State) (m : MgmtMsg), s.rf RF.kprSecPairHolderValid 0 = 1 ∧ s.rf RF.kprSecPairHolder 0 = mSource m ∧ s.mgmtOk m mgPairEnd s.holderKey = true ∧ s.sec.capture = none ∧ s.regrows = [])
    ∧ (∃ (s : State) (m : MgmtMsg), s.rf RF.kprSecPairHolderValid 0 = 0 ∧ s.rf RF.kprSecPairClientValid 0 = 1 ∧ s.rf RF.kprSecPairClient 0 = mSource m ∧ s.mgmtOk m mgPairEnd s.clientAuth = true)
    ∧ (∃ (s : State) (m : MgmtMsg) (g : Gen), s.mgmtOk m mgVoid s.clientAuth = true ∧ s.sec.held = some g ∧ s.rf RF.kprSecPairClientValid 0 = 1 ∧ s.rf RF.kprSecPairClient 0 = mSource m ∧ mArg0 m ≤ g.wtc)
    ∧ (∃ (s : State) (m : MgmtMsg) (g : Gen), s.mgmtOk m mgVoid s.clientAuth = true ∧ s.sec.held = some g ∧ s.rf RF.kprSecPairClientValid 0 = 1 ∧ s.rf RF.kprSecPairClient 0 = mSource m ∧ g.wtc < mArg0 m)
    ∧ (∃ (s : State) (t0 : ℕ), s.sec.clientLostAt = some t0 ∧ t0 + 1000000 * s.secCfg 20 12 ≤ s.now)
    ∧ (∃ (s : State) (t0 : ℕ), s.sec.clientLostAt = some t0 ∧ s.now < t0 + 1000000 * s.secCfg 20 12)
    ∧ (∃ (s : State), s.sec.clientLostAt = none) :=
  ⟨⟨WPt [] [(.kprSecCtrlForceCofed, 0, 1)], mg 4 0, by decide +kernel⟩,
    ⟨WPt [] [(.kprSecPairClientValid, 0, 1), (.kprSecPairClient, 0, 67)], mg 4 0, by decide +kernel⟩,
    ⟨{ WPt [] [] with sec := { asked := some 66, tried := [66] } }, mg 5 0, by decide +kernel⟩,
    ⟨WPt [] [], mg 5 0, by decide +kernel⟩,
    ⟨WPt [] [], mg 6 0, by decide +kernel⟩,
    ⟨{ WPt [] [] with sec := { asked := some 66, tried := [66] } }, mg 6 0, by decide +kernel⟩,
    ⟨{ WPt [] [] with sec := { asked := some 66, tried := [66], peers := [(3, some { pe 1 0 with engine := 68 })] } }, mg 6 0, 68, by decide +kernel⟩,
    ⟨WPt [pe 1 0] [(.kprSecPairHolderValid, 0, 1), (.kprSecPairHolder, 0, 66)], mg 7 0, by decide +kernel⟩,
    ⟨{ WPt [pe 1 0] [(.kprSecPairClientValid, 0, 1), (.kprSecPairClient, 0, 66)] with sec := { held := some gn } }, mg 7 0, by decide +kernel⟩,
    ⟨{ WPt [pe 1 0] [(.kprSecPairClientValid, 0, 1), (.kprSecPairClient, 0, 66)] with sec := { held := some gn } }, mg 3 600, gn, by decide +kernel⟩,
    ⟨{ WPt [pe 1 0] [(.kprSecPairClientValid, 0, 1), (.kprSecPairClient, 0, 66)] with sec := { held := some gn } }, mg 3 601, gn, by decide +kernel⟩,
    ⟨{ WPt [pe 1 0] [(.kprSecPairClientValid, 0, 1), (.kprSecPairClient, 0, 66)] with sec := { held := some gn, clientLostAt := some 16400000000, cfg := 3600 * 2 ^ 20 } }, 16400000000, by decide +kernel⟩,
    ⟨{ WPt [pe 1 0] [] with sec := { held := some gn, clientLostAt := some 16400000001, cfg := 3600 * 2 ^ 20 } }, 16400000001, by decide +kernel⟩,
    ⟨WPt [] [], by decide +kernel⟩⟩

end P

namespace Q

def mf (s : State) (f : Nat) (m : MonField) : State := { s with monF := [(f, m)] }
def wsn : State := { W with ledger := { slots := [(0, some ⟨sensorKey 31 0 35, 3, 2, 1, 0x061, 0⟩)] } }
def coolF (l : List (RF × Nat × Nat)) : State := { W.puts l with mon := { W.mon with aoiCool := 1000 }, monF := (List.range 32).map (fun f => (f, { W.monField f with cool := 1000, calm := 10 })) }

theorem test_meets_TemperatureTripsAndHolds :
  (∃ (s : State) (f : Fin 32), (s.stationUp f = false ∧ (s.domState (Domain.station f) ≠ 3 ∨ s.dropped ↑f = true) ∨ Option.any (fun a => decide (s.now < a + 1000)) (s.monField ↑f).at_ = true))
    ∧ (∃ (s : State) (f : Fin 32), (s.stationUp f = true ∨ s.domState (Domain.station f) = 3 ∧ s.dropped ↑f = false) ∧ (Option.all (fun a => decide (a + 1000 ≤ s.now)) (s.monField ↑f).at_ = true))
    ∧ (∃ (s : State) (f : Fin 32) (i : Fin 36), s.monIn (↑f) 0 ↑i = false)
    ∧ (∃ (s : State) (f : Fin 32) (i : Fin 36), s.monIn (↑f) 0 ↑i = true ∧ s.rf RF.kprMonStatusTripped 0 = 1)
    ∧ (∃ (s : State) (f : Fin 32) (i : Fin 36), s.monIn (↑f) 0 ↑i = true ∧ s.rf RF.kprMonStatusTripped 0 ≠ 1 ∧ s.rf RF.aoiDomainsCompute 0 = 0 ∧ s.rf RF.kprHangStatusRecovery 0 = 0)
    ∧ (∃ (s : State), s.rf RF.kprMonStatusTripped 0 = 1 ∧ s.rf RF.aoiDomainsCompute 0 = 2 ∧ s.rf RF.aoiDomainsKeeper 0 = 0 ∧ (1000 ≤ s.mon.aoiCool ∧ ∀ g < 32, s.fieldOut g = false → 1000 ≤ (s.monField g).cool) ∧ s.rf RF.kprHangStatusRecovery 0 = 0 ∧ s.recRecent < s.rf RF.kprHangCtrlRecoveryLimit 0)
    ∧ (∃ (s : State), (s.rf RF.kprMonStatusTripped 0 ≠ 1 ∨ s.rf RF.aoiDomainsCompute 0 ≠ 2 ∨ ¬(1000 ≤ s.mon.aoiCool ∧ ∀ g < 32, s.fieldOut g = false → 1000 ≤ (s.monField g).cool)))
    ∧ (∃ (s : State), s.rf RF.kprMonStatusHold 0 = 1 ∧ s.mon.holdAt + 10000 ≤ s.now ∧ (∀ g < 32, s.fieldOut g = false → 10 ≤ (s.monField g).calm))
    ∧ (∃ (s : State), (s.rf RF.kprMonStatusHold 0 ≠ 1 ∨ s.now < s.mon.holdAt + 10000 ∨ ¬∀ g < 32, s.fieldOut g = false → 10 ≤ (s.monField g).calm))
    ∧ (∃ (s : State), s.rf RF.kprMonStatusHold 0 = 1 ∧ s.mon.holdAt + 1000 * Nat.max 20 (s.rf RF.kprMonCtrlHoldMaxMs 0) ≤ s.now ∧ s.rf RF.kprMonStatusTripped 0 ≠ 1 ∧ s.rf RF.aoiDomainsCompute 0 = 0)
    ∧ (∃ (s : State), (s.rf RF.kprMonStatusHold 0 ≠ 1 ∨ s.now < s.mon.holdAt + 1000 * Nat.max 20 (s.rf RF.kprMonCtrlHoldMaxMs 0))) :=
  ⟨⟨W.put .fstResetStatusState 31 2, 31, by decide +kernel⟩,
    ⟨W.put .fstResetStatusState 31 0, 31, by decide +kernel⟩,
    ⟨wsn, 31, 35, by decide +kernel⟩,
    ⟨W.puts [(.fstResetStatusState, 31, 0), (.kprMonStatusTripped, 0, 1)], 31, 35, by decide +kernel⟩,
    ⟨W.puts [(.fstResetStatusState, 31, 0)], 31, 35, by decide +kernel⟩,
    ⟨coolF [(.aoiDomainsCompute, 0, 2), (.kprMonStatusTripped, 0, 1), (.kprHangCtrlRecoveryLimit, 0, 3)], by decide +kernel⟩,
    ⟨W, by decide +kernel⟩,
    ⟨coolF [(.kprMonStatusHold, 0, 1)], by decide +kernel⟩,
    ⟨W, by decide +kernel⟩,
    ⟨W.put .kprMonStatusHold 0 1, by decide +kernel⟩,
    ⟨W, by decide +kernel⟩⟩

theorem test_meets_DroopPowerAndDrift :
  (∃ (s : State) (f : Fin 32), s.stationUp f = false)
    ∧ (∃ (s : State) (f : Fin 32) (deep : BitVec 8) (i : Fin 8), s.stationUp f = true ∧ deep.toNat.testBit ↑i = true ∧ s.monIn (↑f) 1 ↑i = true)
    ∧ (∃ (s : State) (f : Fin 32) (warning : BitVec 8) (deep : BitVec 8), s.stationUp f = true ∧ warning = 0 ∧ deep = 0)
    ∧ (∃ (s : State) (f : Fin 32), (s.domState (Domain.station f) = 2 ∨ s.dropped ↑f = true))
    ∧ (∃ (s : State) (f : Fin 32), s.domState (Domain.station f) ≠ 2 ∧ s.dropped ↑f = false)
    ∧ (∃ (s : State) (f : Fin 32), (s.monField ↑f).power = [])
    ∧ (∃ (s : State) (f : Fin 32) (w : ℕ) (a : ℕ) (rest : List (ℕ × ℕ)), (s.monField ↑f).power = (a, w) :: rest ∧ s.now < a + 300)
    ∧ (∃ (s : State) (f : Fin 32) (w : ℕ) (a : ℕ) (rest : List (ℕ × ℕ)), (s.monField ↑f).power = (a, w) :: rest ∧ a + 300 ≤ s.now)
    ∧ (∃ (s : State) (a : ℕ), s.mon.shedAt = some a ∧ a + 100000 ≤ s.now ∧ s.mon.capTold = false ∧ s.capMw < s.averageMw)
    ∧ (∃ (s : State), (s.mon.shedAt = none ∨ s.mon.capTold = true))
    ∧ (∃ (s : State), s.now < s.mon.driftTick + 1000000)
    ∧ (∃ (s : State), s.mon.driftTick + 1000000 ≤ s.now ∧ (¬(s.rf .kprWtcStatusSynced 0 = 1 ∨ s.rf .kprWtcCtrlRoot 0 = 1) ∨ (((s.wtc : Int) - s.mon.driftWtc - 1000 * ((s.now - s.mon.driftTick : Nat) : Int)) * 1000000 / (1000 * ((s.now - s.mon.driftTick : Nat) : Int))).natAbs ≤ 200))
    ∧ (∃ (s : State), s.mon.driftTick + 1000000 ≤ s.now ∧ (s.rf .kprWtcStatusSynced 0 = 1 ∨ s.rf .kprWtcCtrlRoot 0 = 1) ∧ 200 < (((s.wtc : Int) - s.mon.driftWtc - 1000 * ((s.now - s.mon.driftTick : Nat) : Int)) * 1000000 / (1000 * ((s.now - s.mon.driftTick : Nat) : Int))).natAbs) :=
  ⟨⟨W.put .fstResetStatusState 31 2, 31, by decide +kernel⟩,
    ⟨W.put .fstResetStatusState 31 0, 31, 128, 7, by decide +kernel⟩,
    ⟨W.put .fstResetStatusState 31 0, 31, 0, 0, by decide +kernel⟩,
    ⟨W.put .fstResetStatusState 31 2, 31, by decide +kernel⟩,
    ⟨W.put .fstResetStatusState 31 0, 31, by decide +kernel⟩,
    ⟨W, 31, by decide +kernel⟩,
    ⟨mf W 31 { W.monField 31 with power := [(19999999999, 5), (5, 3)] }, 31, 5, 19999999999, [(5, 3)], by decide +kernel⟩,
    ⟨mf W 31 { W.monField 31 with power := [(19999999700, 5), (5, 9)] }, 31, 5, 19999999700, [(5, 9)], by decide +kernel⟩,
    ⟨mf { W.put .fstResetStatusState 31 0 with mon := { W.mon with shedAt := some 5 } } 31 { W.monField 31 with power := [(19999999700, 500000000), (5, 9)] }, 5, by decide +kernel⟩,
    ⟨W, by decide +kernel⟩,
    ⟨{ W with mon := { W.mon with driftTick := 19999000001 } }, by decide +kernel⟩,
    ⟨{ W with mon := { W.mon with driftTick := 19999000000 } }, by decide +kernel⟩,
    ⟨{ W.put .kprWtcCtrlRoot 0 1 with mon := { W.mon with driftTick := 19999000000, driftWtc := 19999000000000 - 201000 } }, by decide +kernel⟩⟩

theorem test_meets_MonitorRowsGiveTheirResults :
  (∃ (s : State) (f : Fin 32) (warning : BitVec 8) (deep : BitVec 8), s.stationUp f = true ∧ (s.rf RF.fstDroopEventsEvents ↑f + (List.filter (fun i => s.monIn (↑f) 1 i && (warning.toNat ||| deep.toNat).testBit i) (List.range 8)).length < 2 ^ 32) ∧ (s.rf RF.fstDroopDeepEvents ↑f + (List.filter (fun i => s.monIn (↑f) 1 i && deep.toNat.testBit i) (List.range 8)).length < 2 ^ 32))
    ∧ (∃ (s : State) (f : Fin 32), s.domState (Domain.station f) ≠ 2 ∧ s.dropped ↑f = false)
    ∧ (∃ (s : State) (f : Fin 32) (w : ℕ) (a : ℕ) (rest : List (ℕ × ℕ)), (s.monField ↑f).power = (a, w) :: rest ∧ a + 300 ≤ s.now)
    ∧ (∃ (s : State) (a : ℕ), s.mon.shedAt = some a ∧ a + 100000 ≤ s.now ∧ s.mon.capTold = false ∧ s.capMw < s.averageMw)
    ∧ (∃ (s : State), s.mon.driftTick + 1000000 ≤ s.now) :=
  ⟨⟨W.put .fstResetStatusState 31 0, 31, 255, 128, by decide +kernel⟩,
    ⟨W.put .fstResetStatusState 31 0, 31, by decide +kernel⟩,
    ⟨mf W 31 { W.monField 31 with power := [(19999999700, 5), (5, 9)] }, 31, 5, 19999999700, [(5, 9)], by decide +kernel⟩,
    ⟨mf { W.put .fstResetStatusState 31 0 with mon := { W.mon with shedAt := some 5 } } 31 { W.monField 31 with power := [(19999999700, 500000000), (5, 9)] }, 5, by decide +kernel⟩,
    ⟨{ W.put .kprWtcCtrlRoot 0 1 with mon := { W.mon with driftTick := 19999000000, driftWtc := 19999000000000 - 201000 } }, by decide +kernel⟩⟩

end Q

namespace R

def WRe (l : List (RF × Nat × Nat)) (run : Bool) : State := { W.puts (((List.range 32).map (fun f => (RF.fstResetStatusState, f, 0))) ++ ((List.range 16).map (fun f => (RF.lwdPortStatusState, f, 0))) ++ l) with launch := { running := run } }
def tx : Taken := ⟨9, 3, 0x41, 5, 0, true⟩
def ms (st : Nat) : MoltSlot := ⟨6, 8, 1, 31, false, false, false, st, 5, 0, 0, 0, 0⟩
def mr (st : Nat) : MoltRun := ⟨ms st, 2, false, [33]⟩
def WMo (st : Nat) : State := { WRe [(.fstResetStatusState, 31, 1)] false with molts := { busy := [mr st], slots := [(2, some (ms st))] } }

theorem test_meets_ResetRegistersBeginResets :
  (∃ (key : BitVec 8) (f : Fin 32) (k : Fin 16) (i : Instr), key ≠ 90 ∧ i ∈ [Instr.kprResetReqKeeper key, Instr.kprResetReqCompute key, Instr.kprResetReqPort k key, Instr.fstReset f key])
    ∧ (∃ (s : State) (k : Fin 16) (i : Instr), s.keeperAwake = false ∧ i ∈ [Instr.kprResetReqKeeper 90, Instr.kprResetReqCompute 90, Instr.kprResetReqPort k 90])
    ∧ (∃ (s : State), s.domState Domain.keeper = 0)
    ∧ (∃ (s : State), s.domState Domain.keeper = 3)
    ∧ (∃ (s : State), s.domState Domain.keeper = 0 ∧ s.domState Domain.compute = 0 ∧ s.launch.running = true)
    ∧ (∃ (s : State), s.domState Domain.keeper = 0 ∧ s.domState Domain.compute = 0 ∧ s.launch.running = false)
    ∧ (∃ (s : State) (k : Fin 16), s.keeperAwake = true ∧ s.launch.running = false ∧ s.rf RF.kprHangStatusRecovery 0 ≠ 1 ∧ s.rf RF.lwdPortStatusState ↑k = 0)
    ∧ (∃ (s : State) (f : Fin 32), s.rf RF.fstResetStatusState ↑f = 0)
    ∧ (∃ (s : State) (f : Fin 32), s.rf RF.fstResetStatusState ↑f = 3) :=
  ⟨⟨91, 0, 0, .fstReset 0 91, by decide +kernel⟩,
    ⟨WRe [(.aoiDomainsKeeper, 0, 2)] false, 0, .kprResetReqKeeper 90, by decide +kernel⟩,
    ⟨WRe [] true, by decide +kernel⟩,
    ⟨WRe [(.aoiDomainsKeeper, 0, 3)] true, by decide +kernel⟩,
    ⟨WRe [] true, by decide +kernel⟩,
    ⟨WRe [] false, by decide +kernel⟩,
    ⟨WRe [] false, 15, by decide +kernel⟩,
    ⟨WRe [] true, 31, by decide +kernel⟩,
    ⟨WRe [(.fstResetStatusState, 31, 3)] true, 31, by decide +kernel⟩⟩

theorem test_meets_ResetCommandsWaitForUp :
  (∃ (s : State) (cid : BitVec 32), s.canAnswer 99 cid.toNat ∧ s.host.taken = [] ∧ s.domState Domain.keeper = 0)
    ∧ (∃ (s : State) (cid : BitVec 32) (x : Taken), s.canAnswer 99 cid.toNat ∧ s.host.taken = [x] ∧ x.cid ≠ cid.toNat)
    ∧ (∃ (s : State) (cid : BitVec 32), s.canAnswer 99 cid.toNat ∧ s.domState Domain.keeper = 0 ∧ s.domState Domain.compute = 0 ∧ s.launch.running = true)
    ∧ (∃ (s : State) (cid : BitVec 32) (index : BitVec 5), s.canAnswer 99 cid.toNat ∧ s.rf RF.fstResetStatusState index.toNat = 0)
    ∧ (∃ (s : State) (cid : BitVec 32) (index : BitVec 5), s.canAnswer 99 cid.toNat ∧ 16 ≤ index.toNat)
    ∧ (∃ (s : State) (cid : BitVec 32) (index : BitVec 5), s.canAnswer 99 cid.toNat ∧ index.toNat < 16 ∧ s.launch.running = false ∧ s.rf RF.kprHangStatusRecovery 0 ≠ 1 ∧ s.rf RF.lwdPortStatusState index.toNat = 0) :=
  ⟨⟨WRe [] true, 7, by decide +kernel⟩,
    ⟨{ WRe [] true with host := { taken := [tx] } }, 7, tx, by decide +kernel⟩,
    ⟨WRe [] true, 7, by decide +kernel⟩,
    ⟨WRe [] true, 7, 31, by decide +kernel⟩,
    ⟨WRe [] true, 7, 16, by decide +kernel⟩,
    ⟨WRe [] false, 7, 15, by decide +kernel⟩⟩

theorem test_meets_MoltsEndAndDomainsRelease :
  (∃ (s : State) (r : MoltRun) (f : Fin 32), s.molts.busy = [r] ∧ r.wafer = false ∧ r.doms = [domKey (Domain.station f)] ∧ s.rf RF.fstResetStatusState ↑f = 1 ∧ s.now < r.info.startTime + 20000)
    ∧ (∃ (s : State) (r : MoltRun) (f : Fin 32), s.molts.busy = [r] ∧ r.wafer = false ∧ r.doms = [domKey (Domain.station f)] ∧ s.rf RF.fstResetStatusState ↑f = 1 ∧ r.info.startTime + 20000 ≤ s.now)
    ∧ (∃ (s : State), s.molts.busy = [])
    ∧ (∃ (s : State) (n : ℕ) (m : MoltSlot), s.flashOpen = true ∧ s.hist.staged = [] ∧ s.anchorDue = false ∧ s.molts.busy = [] ∧ s.moltToCopy = some (n, m) ∧ outRoom s.host.outQ 4 = true)
    ∧ (∃ (s : State), s.moltToCopy = none)
    ∧ (∃ (s : State) (d : Domain), (s.domState d ≠ 2 ∨ s.now < (s.domInfo d).heldAt + 16))
    ∧ (∃ (s : State) (f : Fin 32), s.domState (Domain.station f) = 2 ∧ (s.domInfo (Domain.station f)).heldAt + 16 ≤ s.now ∧ s.dropped ↑f = false ∧ s.boot.stations = true)
    ∧ (∃ (s : State) (k : Fin 16), s.domState (Domain.port k) = 2 ∧ (s.domInfo (Domain.port k)).heldAt + 16 ≤ s.now ∧ s.boot.trained = true)
    ∧ (∃ (s : State), s.domState Domain.keeper = 2 ∧ (s.domInfo Domain.keeper).heldAt + 16 ≤ s.now ∧ s.boot.full = false ∧ s.boot.powerGood ≠ none)
    ∧ (∃ (s : State), s.domState Domain.compute = 2 ∧ (s.domInfo Domain.compute).heldAt + 16 ≤ s.now ∧ s.domState Domain.keeper = 0 ∧ s.rf RF.kprMonStatusTripped 0 ≠ 1 ∧ s.rf RF.kprHangStatusRecovery 0 ≠ 2) :=
  ⟨⟨WMo 19999980001, mr 19999980001, 31, by decide +kernel⟩,
    ⟨WMo 19999980000, mr 19999980000, 31, by decide +kernel⟩,
    ⟨W, by decide +kernel⟩,
    ⟨{ W.put .kprMonStatusFlashWindow 0 1 with anchors := { sec0 := [(3, 20000000000)] }, molts := { slots := [(2, some (ms 5))] } }, 2, ms 5, by decide +kernel⟩,
    ⟨W, by decide +kernel⟩,
    ⟨W, .keeper, by decide +kernel⟩,
    ⟨WRe [(.fstResetStatusState, 31, 2)] false, 31, by decide +kernel⟩,
    ⟨WRe [(.lwdPortStatusState, 15, 2)] false, 15, by decide +kernel⟩,
    ⟨WRe [(.aoiDomainsKeeper, 0, 2)] false, by decide +kernel⟩,
    ⟨WRe [(.aoiDomainsCompute, 0, 2)] false, by decide +kernel⟩⟩

end R

namespace S

def cp : Capture := { step := 5, wtc := 600, reason := 1, layers := [2], since := 19999950000, hold := 0, released := false, toStore := false, flashToo := false, counted := false }
def gk : Gen := { layer := 3, state := 1, coFed := false, hazard := false, engine := 66, drives := 0, step := 5, wtc := 600, bytes := 100, mapDigest := 0, content := 77, committed := false, since := 0 }
def WB (l : List (RF × Nat × Nat)) (x : Sec) : State := { W.puts ((.kprSecCtrlMapValid, 0, 1) :: (.semCountCount, 7, 1) :: l) with launch := { running := true }, sec := x, ks := [(0x1800008, 7), (0x180000A, 8)] }
def trk : Trickle := ⟨0, 9, 5⟩
def gh : Gen := { gk with layer := 2, state := 2, drives := 3, committed := true }
def hd : CopyHeader := { layer := 2, state := 2, coFed := false, hazard := false, engine := 66, drives := 3, step := 5, boundaryWtc := 600, bytes := 100, mapDigest := 0, content := 77 }
def rb (ph : Nat) (go : Nat) : Rollback := { cid := some 7, step := 5, wtcGo := go, phase := ph, gen := some 4, since := 5, asked := 5 }
def rs : Rollback := { rb 2 5 with started := true }
def g2 : Gen := { gk with layer := 2, state := 2, committed := true }
def WRb (r : Rollback) : State := WB [] { rollback := some r, gens := [(4, some g2)] }
def dr2 : Tab (Nat × Nat) := [(0, (4096, 1000)), (1, (4096, 1000))]
def WRg (r : Rollback) (g : Gen) : State := WB [] { rollback := some r, gens := [(4, some g)] }

theorem test_meets_BoundariesBeginCaptures :
  (∃ (s : State), s.rf RF.kprMonStatusHold 0 = 1)
    ∧ (∃ (s : State), s.sec.waiting = none ∧ s.sec.adds = [])
    ∧ (∃ (s : State) (w : ℕ) (rest : List ℕ), s.rf RF.kprMonStatusHold 0 = 0 ∧ s.sec.waiting = none ∧ s.sec.adds = w :: rest ∧ s.rf RF.kprSecCtrlMapValid 0 = 1 ∧ s.launch.running = true ∧ s.sec.needed = false ∧ s.sec.rollback = none ∧ s.sec.capture = none ∧ s.rf RF.semCountCount s.boundarySem < 2 ^ 32 ∧ s.fnState Func.securing = 0 ∧ (s.waits = [] ∧ s.rf RF.semFlagsPoison s.releaseSem ≠ 1 ∧ s.boundarySem ≠ s.releaseSem ∧ s.rf RF.semCountCount s.releaseSem + 1 < 2 ^ 32))
    ∧ (∃ (s : State) (w : ℕ) (rest : List ℕ), s.rf RF.kprMonStatusHold 0 = 0 ∧ s.sec.waiting = none ∧ s.sec.adds = w :: rest ∧ s.rf RF.kprSecCtrlMapValid 0 = 1 ∧ s.launch.running = true ∧ s.sec.needed = false ∧ s.sec.rollback = none ∧ s.sec.capture = none ∧ s.rf RF.semCountCount s.boundarySem < 2 ^ 32 ∧ s.fnState Func.securing = 2 ∧ (s.rf RF.kprSecStepStep 0 + 1) % 2 ^ 64 % s.kMax = 0 ∧ s.partnerOk = false ∧ s.latchCfg.flashOk = true ∧ s.regrows = [])
    ∧ (∃ (s : State) (c : Capture), s.sec.waiting = some c ∧ s.transplantDue = true ∧ c.since + 50000 ≤ s.now ∧ s.rf RF.kprSecSkippedCount 0 + 1 < 2 ^ RF.kprSecSkippedCount.spec.width ∧ s.rf RF.semCountCount s.releaseSem + 1 < 2 ^ 32)
    ∧ (∃ (s : State) (c : Capture), s.sec.waiting = some c ∧ (s.transplantDue = false ∨ s.now < c.since + 50000))
    ∧ (∃ (s : State) (c : Capture), s.sec.capture = some c ∧ (c.released = true ∨ c.flashToo = true))
    ∧ (∃ (s : State) (c : Capture), s.sec.capture = some c ∧ (s.captureStarted = false ∨ ∃ x ∈ s.regrows, x.phase = rgFill))
    ∧ (∃ (s : State) (c : Capture), s.sec.capture = some c ∧ c.released = false ∧ 1 ∉ c.layers ∧ c.flashToo = false ∧ s.captureStarted = true ∧ (∀ x ∈ s.regrows, x.phase ≠ rgFill) ∧ (s.waits = [] ∧ s.rf RF.semFlagsPoison s.releaseSem ≠ 1 ∧ s.boundarySem ≠ s.releaseSem ∧ s.rf RF.semCountCount s.releaseSem + 1 < 2 ^ 32)) :=
  ⟨⟨W.put .kprMonStatusHold 0 1, by decide +kernel⟩,
    ⟨W, by decide +kernel⟩,
    ⟨WB [] { adds := [600, 601] }, 600, [601], by decide +kernel⟩,
    ⟨WB [(.kprSecCtrlState, 0, 2), (.kprSecCtrlFlashEn, 0, 1), (.kprSecCtrlKMax, 0, 1)] { adds := [600, 601], drives := dr2 }, 600, [601], by decide +kernel⟩,
    ⟨{ WB [] { waiting := some cp } with regrows := [{ logical := 5, failed := 5, cause := 0x20, phase := 3 }] }, cp, by decide +kernel⟩,
    ⟨WB [] { waiting := some cp }, cp, by decide +kernel⟩,
    ⟨WB [] { capture := some { cp with released := true } }, { cp with released := true }, by decide +kernel⟩,
    ⟨WB [] { capture := some cp, gens := [(9, some { gk with started := false })] }, cp, by decide +kernel⟩,
    ⟨WB [] { capture := some cp }, cp, by decide +kernel⟩⟩

theorem test_meets_CopiesCommitAndFail :
  (∃ (s : State) (g : Gen) (tr : Trickle), s.sec.capture = none ∧ s.sec.trickles = [tr] ∧ s.gen tr.dst = some g ∧ g.layer = 3 ∧ g.started = true)
    ∧ (∃ (s : State) (g : Gen) (tr : Trickle), s.sec.capture = none ∧ s.sec.trickles = [tr] ∧ s.gen tr.dst = some g ∧ g.started = false)
    ∧ (∃ (s : State), s.sec.capture = none)
    ∧ (∃ (s : State) (n : Fin 12) (g : Gen), s.gen ↑n = some g ∧ g.state = 1 ∧ g.committed = true ∧ g.wtc + s.validDelay ≤ s.wtc)
    ∧ (∃ (s : State) (n : Fin 12) (g : Gen), s.gen ↑n = some g ∧ g.state = 1 ∧ g.committed = true ∧ s.wtc < g.wtc + s.validDelay)
    ∧ (∃ (s : State) (layer : Layer), s.rf RF.kprMonStatusHold 0 = 0 ∧ s.sec.rollback = none ∧ s.layerSince (layerCode layer) = none)
    ∧ (∃ (s : State) (t0 : ℕ) (layer : Layer), s.rf RF.kprMonStatusHold 0 = 0 ∧ s.sec.rollback = none ∧ s.layerSince (layerCode layer) = some t0 ∧ t0 + s.secTimeout (layerCode layer) ≤ s.now ∧ s.rf RF.kprCmdTimeoutsCount 0 + 1 < 2 ^ RF.kprCmdTimeoutsCount.spec.width)
    ∧ (∃ (s : State) (d : Fin 16), s.rf RF.kprSecStatusDrivesOk 0 < 2 ^ 16 ∧ s.drivesOk.testBit ↑d = false)
    ∧ (∃ (s : State) (d : Fin 16), s.rf RF.kprSecStatusDrivesOk 0 < 2 ^ 16 ∧ s.drivesOk.testBit ↑d = true ∧ s.sec.gens = [])
    ∧ (∃ (s : State) (n : Fin 12) (g : Gen) (d : Fin 16), s.rf RF.kprSecStatusDrivesOk 0 < 2 ^ 16 ∧ s.drivesOk.testBit ↑d = true ∧ s.sec.gens = [(↑n, some g)] ∧ g.layer = 2 ∧ g.drives.testBit ↑d = true ∧ g.state = 2 ∧ s.sec.rollback = none ∧ s.sec.trickles = [] ∧ s.regrows = [])
    ∧ (∃ (s : State), s.rf RF.kprSecStatusDrivesOk 0 < 2 ^ 16)
    ∧ (∃ (s : State) (blocks : ℕ) (hb : HeaderBytes) (h : CopyHeader), s.rf RF.kprSecStatusDrivesOk 0 < 2 ^ 16 ∧ s.sec.gens = [] ∧ s.sec.drives = [] ∧ s.layerLimit 2 * (slotBlocks s.copyBytes 1 + 1) ≤ blocks ∧ readHeader (BitVec.toNat hb) = some h ∧ h.state = 2 ∧ h.layer = 2)
    ∧ (∃ (s : State) (source : BitVec 15) (message : ClosingBytes), (engineReserved source.toNat = true ∨ Option.all (fun key => decide (bits (BitVec.toNat message) 512 256 = hmacNat key (bytesOf (BitVec.toNat message) 0 64))) s.sec.clientKey = false))
    ∧ (∃ (s : State) (k : Fin 16) (h : CopyHeader) (source : BitVec 15) (fseq : BitVec 32) (message : ClosingBytes), engineReserved source.toNat = false ∧ (Option.all (fun key => decide (bits (BitVec.toNat message) 512 256 = hmacNat key (bytesOf (BitVec.toNat message) 0 64))) s.sec.clientKey = true) ∧ s.sec.closings = [] ∧ s.rf RF.kprSecPairClientValid 0 = 1 ∧ s.rf RF.kprSecPairClient 0 = source.toNat ∧ readHeader (BitVec.toNat message) = some h ∧ serialGe (s.landed (↑k) source.toNat) fseq.toNat = true)
    ∧ (∃ (s : State) (k : Fin 16) (h : CopyHeader) (source : BitVec 15) (fseq : BitVec 32) (message : ClosingBytes), engineReserved source.toNat = false ∧ (Option.all (fun key => decide (bits (BitVec.toNat message) 512 256 = hmacNat key (bytesOf (BitVec.toNat message) 0 64))) s.sec.clientKey = true) ∧ s.sec.closings = [] ∧ s.rf RF.kprSecPairClientValid 0 = 1 ∧ s.rf RF.kprSecPairClient 0 = source.toNat ∧ readHeader (BitVec.toNat message) = some h ∧ serialGe (s.landed (↑k) source.toNat) fseq.toNat = false)
    ∧ (∃ (s : State) (source : BitVec 15) (message : ClosingBytes), engineReserved source.toNat = false ∧ (Option.all (fun key => decide (bits (BitVec.toNat message) 512 256 = hmacNat key (bytesOf (BitVec.toNat message) 0 64))) s.sec.clientKey = true) ∧ s.sec.closings = [] ∧ s.rf RF.kprSecPairClientValid 0 = 0) :=
  ⟨⟨WB [] { trickles := [trk], gens := [(9, some gk)] }, gk, trk, by decide +kernel⟩,
    ⟨WB [] { trickles := [trk], gens := [(9, some { gk with started := false })] }, { gk with started := false }, trk, by decide +kernel⟩,
    ⟨WB [] {}, by decide +kernel⟩,
    ⟨{ WB [] { gens := [(9, some { gk with committed := true })] } with wtc := 600 + 1000 * 64 }, 9, { gk with committed := true }, by decide +kernel⟩,
    ⟨{ WB [] { gens := [(9, some { gk with committed := true })] } with wtc := 600 + 1000 * 47 }, 9, { gk with committed := true }, by decide +kernel⟩,
    ⟨WB [] {}, .flash, by decide +kernel⟩,
    ⟨WB [] { capture := some cp, gens := [(9, some { gk with layer := 2, since := 19000000000 })] }, 19000000000, .flash, by decide +kernel⟩,
    ⟨WB [] {}, 15, by decide +kernel⟩,
    ⟨WB [(.kprSecStatusDrivesOk, 0, 0xC000)] {}, 15, by decide +kernel⟩,
    ⟨WB [(.kprSecStatusDrivesOk, 0, 0xC000)] { gens := [(4, some { gk with layer := 2, state := 2, drives := 0xC000, committed := true })] }, 4, { gk with layer := 2, state := 2, drives := 0xC000, committed := true }, 15, by decide +kernel⟩,
    ⟨WB [] {}, by decide +kernel⟩,
    ⟨WB [] {}, 1000, BitVec.ofNat 512 (genHeader gh), hd, by decide +kernel⟩,
    ⟨WB [] {}, 20480, 0, by decide +kernel⟩,
    ⟨WB [(.kprSecPairClientValid, 0, 1), (.kprSecPairClient, 0, 66)] {}, 15, hd, 66, 0, BitVec.ofNat 768 (genHeader gh), by decide +kernel⟩,
    ⟨WB [(.kprSecPairClientValid, 0, 1), (.kprSecPairClient, 0, 66)] {}, 15, hd, 66, 1, BitVec.ofNat 768 (genHeader gh), by decide +kernel⟩,
    ⟨WB [] {}, 66, BitVec.ofNat 768 (genHeader gh), by decide +kernel⟩⟩

theorem test_meets_RollbacksReloadAndRelease :
  (∃ (s : State) (cid : BitVec 32), s.canAnswer 97 cid.toNat ∧ (s.sec.rollback ≠ none ∨ s.launch.running = false ∧ s.rf RF.kprHangStatusRecovery 0 = 0))
    ∧ (∃ (s : State) (cid : BitVec 32), s.canAnswer 97 cid.toNat ∧ s.sec.rollback = none ∧ s.rf RF.kprHangStatusRecovery 0 = 3)
    ∧ (∃ (s : State) (cid : BitVec 32), s.canAnswer 97 cid.toNat ∧ s.sec.rollback = none ∧ s.rf RF.kprHangStatusRecovery 0 = 0 ∧ s.launch.running = true ∧ s.rf RF.kprEpochDraining 0 = 1)
    ∧ (∃ (s : State) (r : Rollback), s.sec.rollback = some r ∧ r.phase = 2 ∧ r.started = false)
    ∧ (∃ (s : State) (data : List (Fin 445440 × Fin 768 × BitVec 1024)) (r : Rollback) (n : ℕ) (g : Gen), s.sec.rollback = some r ∧ r.phase = 2 ∧ r.started = true ∧ r.gen = some n ∧ s.gen n = some g ∧ s.regrows = [] ∧ s.rf RF.kprHangStatusRecovery 0 = 0 ∧ g.content = (s.landCopy data).copyDigest r.step)
    ∧ (∃ (s : State) (data : List (Fin 445440 × Fin 768 × BitVec 1024)) (r : Rollback) (n : ℕ) (g : Gen), s.sec.rollback = some r ∧ r.phase = 2 ∧ r.started = true ∧ r.gen = some n ∧ s.gen n = some g ∧ s.regrows = [] ∧ s.rf RF.kprHangStatusRecovery 0 = 0 ∧ g.state = 2 ∧ s.sec.trickles = [] ∧ g.content ≠ (s.landCopy data).copyDigest r.step)
    ∧ (∃ (s : State) (r : Rollback) (n : ℕ) (g : Gen), s.sec.rollback = some r ∧ r.phase = 2 ∧ r.started = true ∧ r.gen = some n ∧ s.gen n = some g ∧ s.regrows = [] ∧ s.rf RF.kprHangStatusRecovery 0 = 0 ∧ g.state = 2 ∧ s.sec.trickles = [])
    ∧ (∃ (s : State) (r : Rollback), s.sec.rollback = some r ∧ r.phase = 3 ∧ s.wtc < r.wtcGo)
    ∧ (∃ (s : State) (r : Rollback), s.sec.rollback = some r ∧ r.phase = 3 ∧ r.wtcGo ≤ s.wtc ∧ s.namedPorts = [] ∧ s.rf RF.kprSecRollbacksCount 0 + 1 < 2 ^ RF.kprSecRollbacksCount.spec.width)
    ∧ (∃ (s : State) (r : Rollback), s.sec.rollback = some r ∧ r.phase = 2 ∧ r.wtcGo ≤ s.wtc)
    ∧ (∃ (s : State), s.sec.rollback = none) :=
  ⟨⟨W, 7, by decide +kernel⟩,
    ⟨W.put .kprHangStatusRecovery 0 3, 7, by decide +kernel⟩,
    ⟨WB [(.kprEpochDraining, 0, 1)] {}, 7, by decide +kernel⟩,
    ⟨WRb (rb 2 5), rb 2 5, by decide +kernel⟩,
    ⟨WRg rs { g2 with content := 0 }, [], rs, 4, { g2 with content := 0 }, by decide +kernel⟩,
    ⟨WRg rs g2, [], rs, 4, g2, by decide +kernel⟩,
    ⟨WRg rs g2, rs, 4, g2, by decide +kernel⟩,
    ⟨WRb (rb 3 20000000000001), rb 3 20000000000001, by decide +kernel⟩,
    ⟨WRb (rb 3 20000000000000), rb 3 20000000000000, by decide +kernel⟩,
    ⟨WRb (rb 2 20000000000000), rb 2 20000000000000, by decide +kernel⟩,
    ⟨W, by decide +kernel⟩⟩

end S

namespace T

def WT (n : Nat) (l : List (RF × Nat × Nat)) : State := W.puts ([(.kprBringupStatusReady, 0, 0), (.kprBringupStatusStage, 0, n), (.kprBringupStatusBusy, 0, 1), (.kprBringupStatusHalted, 0, 0), (.aoiDomainsKeeper, 0, 3), (.aoiDomainsCompute, 0, 3)] ++ l)
def wb (s : State) (f : Boot → Boot) : State := { s with boot := f s.boot }
def WP (n : Nat) (l : List (RF × Nat × Nat)) : State := wb (WT n l) (fun b => { b with powerGood := some 19999990000, stageFrom := 19999000000 })
def WP' (n : Nat) (l : List (RF × Nat × Nat)) : State := wb (WT n l) (fun b => { b with powerGood := some 19999990001, stageFrom := 19999000000 })
def kt : UnitKey := ⟨kindTile, 0, 0⟩
def disp : State := { WP 5 [(.kprLedgerDisputedFields, 0, 4)] with ledger := { slots := [(0, some ⟨stationKey 2, 3, 5, 1, 0x061, 0⟩)] } }
def WO (n d : Nat) (o : Bool) : State := wb (WT n []) (fun b => { b with stageFrom := 20000000000 - d, overran := o })
def WLk (l : List (RF × Nat × Nat)) (run : Bool) : State := { W.puts (((List.range 16).map (fun f => (RF.lwdPortStatusState, f, 0))) ++ l) with boot := { W.boot with trained := true }, launch := { running := run } }

theorem test_meets_PowerComesAndGoes :
  (∃ (s : State), s.boot.aoiOn = false)
    ∧ (∃ (s : State), s.boot.aoiOn = true ∧ s.stageOn 0 = true)
    ∧ (∃ (s : State) (i : Instr), s.boot.aoiOn = true ∧ s.stageOn 0 = false ∧ i ∈ [Instr.powerGoodLoss, Instr.brdResetLow])
    ∧ (∃ (s : State), (s.boot.aoiOn = false ∨ s.boot.powerGood ≠ none))
    ∧ (∃ (s : State), s.boot.aoiOn = true ∧ s.boot.powerGood = none) :=
  ⟨⟨wb W (fun b => { b with aoiOn := false }), by decide +kernel⟩,
    ⟨WT 0 [], by decide +kernel⟩,
    ⟨W, .powerGoodLoss, by decide +kernel⟩,
    ⟨W, by decide +kernel⟩,
    ⟨wb W (fun b => { b with powerGood := none }), by decide +kernel⟩⟩

theorem test_meets_EarlyStagesOfBringUp :
  (∃ (s : State) (t0 : ℕ), s.stageOn 0 = true ∧ s.boot.powerGood = some t0 ∧ t0 + 10000 ≤ s.now ∧ (s.domPending Domain.keeper ≠ 1 ∧ s.domPending Domain.compute ≠ 1))
    ∧ (∃ (s : State) (t0 : ℕ), s.stageOn 0 = true ∧ s.boot.powerGood = some t0 ∧ s.now < t0 + 10000)
    ∧ (∃ (s : State) (t0 : ℕ), s.stageOn 0 = true ∧ s.boot.powerGood = some t0 ∧ s.now < t0 + 10000 ∧ s.boot.stageFrom + 1000000 ≤ s.now)
    ∧ (∃ (s : State) (t0 : ℕ), s.stageOn 0 = true ∧ s.boot.powerGood = some t0 ∧ (t0 + 10000 ≤ s.now ∨ s.now < s.boot.stageFrom + 1000000))
    ∧ (∃ (s : State), s.stageOn 1 = true)
    ∧ (∃ (s : State), s.stageOn 1 = true ∧ (s.domPending Domain.keeper ≠ 1 ∧ s.domPending Domain.compute ≠ 1))
    ∧ (∃ (s : State) (n : ℕ) (v : FwImage), s.stageOn 2 = true ∧ (s.domPending Domain.keeper ≠ 1 ∧ s.domPending Domain.compute ≠ 1) ∧ s.bestImage = some (n, v))
    ∧ (∃ (s : State) (passed : Bool), s.stageOn 2 = true ∧ (passed = false ∨ s.bestImage = none) ∧ s.boot.failed2 = false)
    ∧ (∃ (s : State) (passed : Bool), s.stageOn 2 = true ∧ (passed = false ∨ s.bestImage = none) ∧ s.boot.failed2 = true)
    ∧ (∃ (s : State), s.stageOn 3 = true ∧ (s.domPending Domain.keeper ≠ 1 ∧ s.domPending Domain.compute ≠ 1))
    ∧ (∃ (s : State) (f : Fin 32) (testFails : BitVec 32) (marchFails : BitVec 32), s.domState (Domain.station f) = 3 ∧ s.stageOn 3 = false ∧ (testFails ||| marchFails).toNat.testBit ↑f = false ∧ s.domPending (Domain.station f) ≠ 1)
    ∧ (∃ (s : State) (f : Fin 32), s.domState (Domain.station f) ≠ 3)
    ∧ (∃ (s : State), s.stageOn 0 = false)
    ∧ (∃ (s : State), s.stageOn 1 = false)
    ∧ (∃ (s : State), s.stageOn 2 = false)
    ∧ (∃ (s : State), s.stageOn 3 = false) :=
  ⟨⟨WP 0 [], 19999990000, by decide +kernel⟩,
    ⟨WP' 0 [], 19999990001, by decide +kernel⟩,
    ⟨WP' 0 [], 19999990001, by decide +kernel⟩,
    ⟨WP 0 [], 19999990000, by decide +kernel⟩,
    ⟨WP 1 [], by decide +kernel⟩,
    ⟨WP 1 [], by decide +kernel⟩,
    ⟨WP 2 [], 0, factoryImage, by decide +kernel⟩,
    ⟨WP 2 [], false, by decide +kernel⟩,
    ⟨wb (WP 2 []) (fun b => { b with failed2 := true }), false, by decide +kernel⟩,
    ⟨WP 3 [], by decide +kernel⟩,
    ⟨W.put .fstResetStatusState 31 3, 31, 4, 2, by decide +kernel⟩,
    ⟨W, 31, by decide +kernel⟩,
    ⟨W, by decide +kernel⟩,
    ⟨W, by decide +kernel⟩,
    ⟨W, by decide +kernel⟩,
    ⟨W, by decide +kernel⟩⟩

theorem test_meets_LateStagesOfBringUp :
  (∃ (s : State), s.stageOn 4 = true ∧ (s.domPending Domain.keeper ≠ 1 ∧ s.domPending Domain.compute ≠ 1))
    ∧ (∃ (s : State), s.stageOn 5 = true ∧ s.reconcile.1 ≠ [])
    ∧ (∃ (s : State), s.stageOn 5 = true ∧ s.reconcile.1 = [] ∧ s.reconcile.2.ageCheck.entriesNeeded ≤ 31744 ∧ (s.reconcile.2.ageCheck.syncFields.buildMap.syncLanes true).entriesNeeded ≤ 31744 ∧ (s.reconcile.2.ageCheck.syncFields.buildMap.syncLanes true).rf RF.kprFieldsDroppedDropped 0 ≠ 4294967295 ∧ (s.reconcile.2.ageCheck.syncFields.buildMap.syncLanes true).domPending Domain.keeper ≠ 1 ∧ (s.reconcile.2.ageCheck.syncFields.buildMap.syncLanes true).domPending Domain.compute ≠ 1)
    ∧ (∃ (s : State), s.stageOn 5 = false ∧ s.rf RF.kprBringupStatusHalted 0 ≠ 1)
    ∧ (∃ (s : State), s.stageOn 6 = true ∧ s.boot.trained = false)
    ∧ (∃ (s : State), s.stageOn 6 = true ∧ s.boot.trained = true ∧ (s.domPending Domain.keeper ≠ 1 ∧ s.domPending Domain.compute ≠ 1) ∧ s.boot.lastPeer + 200000 ≤ s.now)
    ∧ (∃ (s : State), s.boot.trained = false)
    ∧ (∃ (s : State), s.stageOn 7 = true ∧ (s.domPending Domain.keeper ≠ 1 ∧ s.domPending Domain.compute ≠ 1) ∧ s.rf RF.kprHangStatusRecovery 0 = 0)
    ∧ (∃ (s : State), s.stageOn 4 = false)
    ∧ (∃ (s : State), s.stageOn 6 = false)
    ∧ (∃ (s : State), s.stageOn 7 = false)
    ∧ (∃ (s : State) (b : ℕ), s.stageOn (s.rf RF.kprBringupStatusStage 0) = true ∧ s.stageBound (s.rf RF.kprBringupStatusStage 0) = some b ∧ s.stageTicks < 2 * b)
    ∧ (∃ (s : State) (b : ℕ), s.stageOn (s.rf RF.kprBringupStatusStage 0) = true ∧ s.stageBound (s.rf RF.kprBringupStatusStage 0) = some b ∧ 2 * b ≤ s.stageTicks ∧ s.boot.overran = true)
    ∧ (∃ (s : State) (b : ℕ), s.stageOn (s.rf RF.kprBringupStatusStage 0) = true ∧ s.stageBound (s.rf RF.kprBringupStatusStage 0) = some b ∧ 2 * b ≤ s.stageTicks ∧ s.boot.overran = false)
    ∧ (∃ (s : State), s.stageBound (s.rf RF.kprBringupStatusStage 0) = none) :=
  ⟨⟨WP 4 [], by decide +kernel⟩,
    ⟨disp, by decide +kernel⟩,
    ⟨WP 5 [], by decide +kernel⟩,
    ⟨W, by decide +kernel⟩,
    ⟨wb (WP 6 []) (fun b => { b with trained := false }), by decide +kernel⟩,
    ⟨WP 6 [], by decide +kernel⟩,
    ⟨wb W (fun b => { b with trained := false }), by decide +kernel⟩,
    ⟨WP 7 [], by decide +kernel⟩,
    ⟨W, by decide +kernel⟩,
    ⟨W, by decide +kernel⟩,
    ⟨W, by decide +kernel⟩,
    ⟨WO 5 79999 false, 40000, by decide +kernel⟩,
    ⟨WO 5 80000 true, 40000, by decide +kernel⟩,
    ⟨WO 5 80000 false, 40000, by decide +kernel⟩,
    ⟨W, by decide +kernel⟩⟩

theorem test_meets_LinksTrainAndRetrain :
  (∃ (s : State), s.boot.trained = false)
    ∧ (∃ (s : State) (k : Fin 16) (lanes : BitVec 32), s.boot.trained = true ∧ s.rf RF.lwdPortStatusState ↑k = 0 ∧ s.rf RF.lwdPortStatusPortUp ↑k = 0 ∧ (s.warden ↑k).trainAt + 1000000 ≤ s.now ∧ (s.rf RF.kprStStatusScanTarget 0).testBit (↑k + 1) = false ∧ 16 ≤ countBits (lanes.toNat &&& (4294967295 ^^^ s.rf RF.lwdLaneWithdrawnWithdrawn ↑k)))
    ∧ (∃ (s : State) (k : Fin 16) (lanes : BitVec 32), s.boot.trained = true ∧ s.rf RF.lwdPortStatusState ↑k = 0 ∧ s.rf RF.lwdPortStatusPortUp ↑k = 0 ∧ (s.warden ↑k).trainAt + 1000000 ≤ s.now ∧ countBits (lanes.toNat &&& (4294967295 ^^^ s.rf RF.lwdLaneWithdrawnWithdrawn ↑k)) < 16)
    ∧ (∃ (s : State) (k : Fin 16), s.boot.trained = true ∧ s.rf RF.lwdPortStatusState ↑k = 0 ∧ s.rf RF.lwdPortStatusPortUp ↑k = 0 ∧ s.now < (s.warden ↑k).trainAt + 1000000)
    ∧ (∃ (s : State) (k : Fin 16) (lane : Fin 32) (lost : Bool) (replays : ℕ), (s.launch.running = false ∨ (s.rf RF.lwdLaneUpUp ↑k).testBit ↑lane = false ∨ lost = false ∧ replays ≤ 64))
    ∧ (∃ (s : State) (k : Fin 16) (lane : Fin 32) (lost : Bool) (replays : ℕ), s.launch.running = true ∧ (s.rf RF.lwdLaneUpUp ↑k).testBit ↑lane = true ∧ (lost = true ∨ 64 < replays))
    ∧ (∃ (s : State) (k : Fin 16), s.rf RF.lwdPortStatusRetraining ↑k ≠ 1)
    ∧ (∃ (s : State) (k : Fin 16) (lane : Fin 32), s.rf RF.lwdPortStatusRetraining ↑k = 1 ∧ s.rf RF.lwdPortStatusRetrainLane ↑k = ↑lane ∧ (s.rf RF.lwdLaneWithdrawnWithdrawn ↑k).testBit ↑lane = false ∧ s.rf RF.lwdLaneRetrainsRetrains ↑k + 1 < 2 ^ RF.lwdLaneRetrainsRetrains.spec.width)
    ∧ (∃ (s : State) (k : Fin 16) (lane : Fin 32), s.rf RF.lwdPortStatusRetraining ↑k = 1 ∧ s.rf RF.lwdPortStatusRetrainLane ↑k = ↑lane ∧ (s.rf RF.lwdLaneWithdrawnWithdrawn ↑k).testBit ↑lane = true)
    ∧ (∃ (s : State) (k : Fin 16) (lane : Fin 32), s.rf RF.lwdPortStatusRetraining ↑k = 1 ∧ s.rf RF.lwdPortStatusRetrainLane ↑k = ↑lane) :=
  ⟨⟨wb W (fun b => { b with trained := false }), by decide +kernel⟩,
    ⟨WLk [] true, 15, 0xFFFF0000, by decide +kernel⟩,
    ⟨WLk [(.lwdLaneWithdrawnWithdrawn, 15, 0x10000)] true, 15, 0xFFFF0000, by decide +kernel⟩,
    ⟨{ WLk [] true with now := 999999 }, 15, by decide +kernel⟩,
    ⟨WLk [] false, 0, 0, false, 0, by decide +kernel⟩,
    ⟨WLk [(.lwdPortStatusPortUp, 15, 1), (.lwdLaneUpUp, 15, 0xFFFFFFFF)] true, 15, 31, false, 65, by decide +kernel⟩,
    ⟨WLk [] true, 0, by decide +kernel⟩,
    ⟨WLk [(.lwdPortStatusPortUp, 15, 1), (.lwdLaneUpUp, 15, 0xFFFF00FF), (.lwdPortStatusRetraining, 15, 1), (.lwdPortStatusRetrainLane, 15, 9)] true, 15, 9, by decide +kernel⟩,
    ⟨WLk [(.lwdLaneWithdrawnWithdrawn, 15, 0x200), (.lwdPortStatusPortUp, 15, 1), (.lwdLaneUpUp, 15, 0xFFFF00FF), (.lwdPortStatusRetraining, 15, 1), (.lwdPortStatusRetrainLane, 15, 9)] true, 15, 9, by decide +kernel⟩,
    ⟨WLk [(.lwdPortStatusPortUp, 15, 1), (.lwdLaneUpUp, 15, 0xFFFF00FF), (.lwdPortStatusRetraining, 15, 1), (.lwdPortStatusRetrainLane, 15, 9)] true, 15, 9, by decide +kernel⟩⟩

theorem no_entries (t : State) (h : t.ledger.slots = []) : t.entries = [] := by simp [State.entries, h]
theorem no_findEntry (t : State) (k : UnitKey) (h : t.ledger.slots = []) : t.findEntry k = none := by simp [State.findEntry, no_entries t h]
/-- Without entries, records and failures stage 5 leaves the exclusions held without an entry as they are. -/
theorem orphans_stay (t : State) (hs : t.ledger.slots = []) (hc : t.hist.cache = []) (hf : t.flashRecords = []) : t.settleOrphans = t := by
  simp only [State.settleOrphans, hc, hf, List.filter_nil, ite_self, List.append_nil, List.foldl_nil, List.any_nil, Bool.not_false, Bool.and_true]
  have : t.ledger.orphans.filter (fun k => (t.findEntry k).isNone) = t.ledger.orphans := by simp [no_findEntry t _ hs]
  rw [this]
theorem settle_none (t : State) (p) (hs : t.ledger.slots = []) (hf : t.ledger.fails = []) : t.settle p = t := by
  simp [State.settle, no_entries t hs, State.newFails, hf]
theorem foldl_ledger (g : State → Nat → State) (hg : ∀ t f, (g t f).ledger = t.ledger) (l : List Nat) (t : State) : (l.foldl g t).ledger = t.ledger := by
  induction l generalizing t with
  | nil => rfl
  | cons a l ih => simp [ih, hg]
theorem foldl_settle (g : State → Nat → State) (l : List Nat) (t : State) (hg : ∀ t : State, t.ledger.slots = [] → t.ledger.fails = [] → ∀ f, g t f = t)
    (hs : t.ledger.slots = []) (hf : t.ledger.fails = []) : l.foldl g t = t := by
  induction l with
  | nil => rfl
  | cons a l ih => simp [hg t hs hf, ih]
theorem reconcile_none (s : State) (hs : s.ledger.slots = []) (hf : s.ledger.fails = []) (hh : s.hist = State.reset.hist)
    (hd : s.clearReconcile.rf .kprLedgerDisputedFields 0 = 0) :
    s.reconcile.1 = [] ∧ s.reconcile.2.ageCheck.entriesNeeded = s.ledger.orphans.length := by
  have h0 : ({ s with ledger := { s.ledger with accepted := [] } } : State).settleOrphans = { s with ledger := { s.ledger with accepted := [] } } := by
    apply orphans_stay
    · exact hs
    · show s.hist.cache = []; rw [hh]; rfl
    · show newestRecords (if s.hist.active = 0 then s.hist.half0 else s.hist.half1) = []; rw [hh]; rfl
  unfold State.reconcile
  rw [h0]
  obtain ⟨u, hu⟩ : ∃ u, u = ({ s with ledger := { s.ledger with accepted := [] } } : State).clearReconcile := ⟨_, rfl⟩
  have us : u.ledger.slots = [] := by rw [hu]; exact hs
  have uf : u.ledger.fails = [] := by rw [hu]; exact hf
  have uo : u.ledger.orphans = s.ledger.orphans := by rw [hu]; rfl
  have h1 : ∀ f, u.firstKind f = 0 := fun f => by simp [State.firstKind, no_entries u us]
  have h2 : ∀ f, u.secondKind f = 0 := fun f => by simp [State.secondKind, State.newFails, no_entries u us, uf]
  have h3 : ∀ f, u.disputed f = false := fun f => by
    have : u.rf .kprLedgerDisputedFields 0 = 0 := by rw [hu]; exact hd
    simp [State.disputed, this]
  simp only [← hu, h1, h2, h3]
  have hfil : (List.range 32).filter (fun _ => decide (64 < 0 ∨ 256 < 0) || false) = [] := rfl
  simp only [hfil, List.foldl_nil]
  refine ⟨trivial, ?_⟩
  obtain ⟨v, hv⟩ : ∃ v, v = (List.range 32).foldl (fun t f => t.puts [(.fstReconcileFuseBadPass, f, Nat.min 1023 0), (.fstReconcileFuseGoodFail, f, Nat.min 1023 0)]) u := ⟨_, rfl⟩
  have hvl : v.ledger = u.ledger := by rw [hv]; exact foldl_ledger _ (fun t f => by simp) _ u
  rw [← hv, settle_none v _ (hvl ▸ us) (hvl ▸ uf), foldl_settle _ _ v (fun t a b f => settle_none t _ a b) (hvl ▸ us) (hvl ▸ uf)]
  have ha : v.ageCheck = { v with hist := { v.hist with ageAt := v.now } } := by simp [State.ageCheck, no_entries v (hvl ▸ us)]
  rw [ha]
  show ((v.ledger.slots.filterMap _).length + v.ledger.orphans.length) = _
  rw [hvl, us, uo]; simp
def WOr : State := { WP 5 [] with ledger := { (WP 5 []).ledger with orphans := List.replicate 31745 kt } }
theorem test_meets_LateStagesOfBringUp_full : ∃ s : State, s.stageOn 5 = true ∧ s.reconcile.1 = [] ∧ 31744 < s.reconcile.2.ageCheck.entriesNeeded := by
  have h := reconcile_none WOr rfl rfl rfl (by decide +kernel)
  refine ⟨WOr, by decide +kernel, h.1, ?_⟩
  rw [h.2]
  show 31744 < (List.replicate 31745 kt).length
  simp

end T

namespace W

def wbb (s : State) : State := { s with boot := { s.boot with aoiOn := false } }
def evA : Ev := ⟨8, 5, 19999999999, [.log]⟩
def evB : Ev := ⟨3, 9, 19999999999, [.log]⟩

theorem test_meets_TicksAdvanceTimeAndApplyEvents :
  (∃ (s : State), s.boot.aoiOn = false)
    ∧ (∃ (s : State), s.boot.aoiOn = true ∧ s.rf RF.aoiDomainsKeeper 0 = 2)
    ∧ (∃ (s : State), s.boot.aoiOn = true ∧ s.rf RF.aoiDomainsKeeper 0 ≠ 2 ∧ (s.host.taken = [] ∧ s.st.orders = [] ∧ s.st.visits = [] ∧ s.host.detaching = none ∧ s.host.resetting = none ∧ s.sec.closings = [] ∧ s.rf RF.kprBringupStatusHalted 0 ≠ 1 ∧ s.heldRecs = [] ∧ s.ledger.cmds = [] ∧ s.episodes = [] ∧ s.ending = [] ∧ s.regrows = [] ∧ ∀ c < 68, (s.core c).ledgerOp = none) ∧ s.events = [])
    ∧ (∃ (s : State) (e1 : Ev) (e2 : Ev), s.boot.aoiOn = true ∧ s.rf RF.aoiDomainsKeeper 0 ≠ 2 ∧ (s.host.taken = [] ∧ s.st.orders = [] ∧ s.st.visits = [] ∧ s.host.detaching = none ∧ s.host.resetting = none ∧ s.sec.closings = [] ∧ s.rf RF.kprBringupStatusHalted 0 ≠ 1 ∧ s.heldRecs = [] ∧ s.ledger.cmds = [] ∧ s.episodes = [] ∧ s.ending = [] ∧ s.regrows = [] ∧ ∀ c < 68, (s.core c).ledgerOp = none) ∧ s.events = [e1, e2] ∧ e1.acts = [EvAct.log] ∧ e2.acts = [EvAct.log] ∧ e2.cls < e1.cls ∧ e1.cls < 9 ∧ e1.loc < 2 ^ 40 ∧ e2.loc < 2 ^ 40) :=
  ⟨⟨wbb W, by decide +kernel⟩,
    ⟨W.put .aoiDomainsKeeper 0 2, by decide +kernel⟩,
    ⟨W, by decide +kernel⟩,
    ⟨{ W with events := [evA, evB] }, evA, evB, by decide +kernel⟩⟩

theorem test_meets_ResetLeavesEveryRegisterAtItsValue : ∃ F : RF, F ≠ .kprTileCfgClockMhz ∧ F ≠ .kprTileCfgCap10w := ⟨.kprHazardH, by decide⟩
theorem test_meets_TileCommandsFaultOffTheWafer (a b : Nat) (x : Bool) (p : BitVec 32) (w : BitVec 64) (blk : TapBlock) (img : TileImage)
    (flits : List Flit) (cycles : List TileCycle) (run : SpareRun) (ctx : BitVec 16384) (res : ItemResult) (bank : Fin 12) (q : QueueId) (op : SemOp)
    (ctr : BitVec 12) (stall : StallInfo) (line : Fin 768) (data : BitVec 1024) : ∃ tile : Nat, tileOk tile = false ∧ Instr.tapEnable tile ∈
    ([.tsnTapInject tile, .tsnEpArm tile, .tsnStRun tile, .tapBlockJudge tile blk, .tapHoldEnd tile, .tapEnable tile, .tapDisable tile,
      .tapStartDone tile, .tapDrainDone tile, .tapPendingStart tile, .armReportSend tile a b, .armReport tile x, .episodeStart tile ⟨p, img, flits⟩,
      .goWaitExpiry tile, .snapshotComplete ⟨tile, cycles⟩, .captureOverflow ⟨tile, cycles⟩, .recordRegionOverflow tile cycles, .replayRunDone tile,
      .episodeCompare tile cycles run.emitted run.image, .confirmReplayDone tile run, .confirmSpareTimeout tile, .episodeDeadline tile, .scrubVisitStart tile a p,
      .scrubVisitResume tile a b p, .scrubVisitEnd tile, .tileSramWrite tile ⟨line, data⟩ p, .testWindowOpen tile ⟨p, ctx⟩, .visitMoveDone tile,
      .visitSaveDone tile, .visitItemEnd tile res, .visitRestoreDone tile, .visitClearDone tile, .sramCeReport tile bank a, .sramUeReport tile bank,
      .tileFrozen tile, .oldEpochFlitLanding tile q w, .tileSemOp tile op ctr p, .stallLimitReached tile stall, .stallRecordArrival tile stall] : List Instr) :=
  ⟨120, by decide +kernel, by simp⟩
def WQ : State := { State.reset with pending := [.apertureStuck] }
theorem test_meets_EveryStepKeepsTheFuseMap : (∃ s t : State, s.fuseMapOk ∧ step s = .next t) ∧
    (∃ (s t : State) (c : Instr) (rest : List Instr), s.pending = c :: rest ∧ step s = .next t ∧ ∀ k bad rv, c ≠ .fuseBlow k bad rv) :=
  ⟨⟨State.reset, State.reset, by decide +kernel, rfl⟩, ⟨WQ, _, .apertureStuck, [], rfl, rfl, by intro _ _ _ h; cases h⟩⟩

end W

namespace Z

def tk : Taken := ⟨9, 3, 0x41, 5, 0, true⟩
def vs : Visit := { tile := 0, logical := none, path := 3, mode := 0, owner := .register, since := 19999000000 }
def WV (v : Visit) : State := { W with st := { W.st with visits := [v] } }

theorem test_meets_HazardEscapeAndIdentity :
  (∃ (s : State), (s.now < s.mon.hzAt + 1000 ∨ s.domState Domain.keeper ≠ 0))
    ∧ (∃ (s : State), s.mon.hzAt + 1000 ≤ s.now ∧ s.domState Domain.keeper = 0)
    ∧ (∃ (s : State), s.mon.escTicks < s.mon.escLast + 1000000)
    ∧ (∃ (s : State), s.mon.escLast + 1000000 ≤ s.mon.escTicks)
    ∧ (∃ (s : State), (s.launch.running = true ∨ s.rf RF.kprSecPairHolderValid 0 = 1 ∨ s.rf RF.kprSecPairClientValid 0 = 1))
    ∧ (∃ (s : State), (¬(s.launch.running = true ∨ s.rf RF.kprSecPairHolderValid 0 = 1 ∨ s.rf RF.kprSecPairClientValid 0 = 1))) :=
  ⟨⟨{ W with mon := { W.mon with hzAt := 19999999001 } }, by decide +kernel⟩,
    ⟨W, by decide +kernel⟩,
    ⟨W, by decide +kernel⟩,
    ⟨{ W with mon := { W.mon with escTicks := 1000000 } }, by decide +kernel⟩,
    ⟨WL, by decide +kernel⟩,
    ⟨W, by decide +kernel⟩⟩

theorem test_meets_TimeoutsAndRecover :
  (∃ (s : State) (cid : BitVec 32) (c : Taken), s.host.taken = [c] ∧ c.cid = cid.toNat ∧ c.applied = true ∧ c.opcode = 3 ∧ s.now < c.since + 1000)
    ∧ (∃ (s : State) (cid : BitVec 32) (c : Taken), s.host.taken = [c] ∧ c.cid = cid.toNat ∧ c.applied = true ∧ c.opcode = 3 ∧ c.since + 1000 ≤ s.now ∧ s.rf RF.hptStatusAttached 0 = 1 ∧ s.host.outQ.length < 4096 ∧ s.rf RF.kprCmdTimeoutsCount 0 + 1 < 2 ^ RF.kprCmdTimeoutsCount.spec.width)
    ∧ (∃ (s : State), s.host.taken = [])
    ∧ (∃ (s : State) (tile : ℕ), s.visitOf tile = none)
    ∧ (∃ (s : State) (tile : ℕ) (v : Visit), s.visitOf tile = some v ∧ v.owner = VisitOwner.register ∧ s.now < v.since + 1000000)
    ∧ (∃ (s : State) (tile : ℕ) (v : Visit), s.visitOf tile = some v ∧ v.owner = VisitOwner.register ∧ v.since + 1000000 ≤ s.now ∧ v.aborted = false ∧ v.path ≠ 2 ∧ s.rf RF.kprCmdTimeoutsCount 0 + 1 < 2 ^ RF.kprCmdTimeoutsCount.spec.width)
    ∧ (∃ (s : State) (d : Domain), ((s.domInfo d).cids = [] ∨ s.domState d = 0))
    ∧ (∃ (s : State) (cid : BitVec 32) (d : Domain), (s.domInfo d).cids = [cid.toNat] ∧ s.domState d = 2 ∧ (s.domInfo d).since + 5000000 + s.boot.haltTicks ≤ s.now ∧ s.rf RF.hptStatusAttached 0 = 1 ∧ outRoom s.host.outQ 2 = true ∧ s.host.outQ.length < 4095 ∧ s.rf RF.kprCmdTimeoutsCount 0 + 1 < 2 ^ RF.kprCmdTimeoutsCount.spec.width)
    ∧ (∃ (s : State) (cid : BitVec 32), s.canAnswer 98 cid.toNat ∧ s.rf RF.kprHangStatusRecovery 0 = 0 ∧ s.rf RF.aoiDomainsCompute 0 = 0)
    ∧ (∃ (s : State) (cid : BitVec 32), s.canAnswer 98 cid.toNat ∧ s.rf RF.kprHangStatusRecovery 0 ≠ 0) :=
  ⟨⟨{ W with host := { taken := [{ tk with since := 19999999001, cid := 9, opcode := 3 }] } }, 9, { tk with since := 19999999001, cid := 9, opcode := 3 }, by decide +kernel⟩,
    ⟨{ W with host := { taken := [{ tk with since := 19999999000, cid := 9, opcode := 3 }] } }, 9, { tk with since := 19999999000, cid := 9, opcode := 3 }, by decide +kernel⟩,
    ⟨W, by decide +kernel⟩,
    ⟨W, 0, by decide +kernel⟩,
    ⟨WV { vs with since := 19999000001 }, 0, { vs with since := 19999000001 }, by decide +kernel⟩,
    ⟨WV vs, 0, vs, by decide +kernel⟩,
    ⟨W, .keeper, by decide +kernel⟩,
    ⟨{ W.put .fstResetStatusState 31 2 with doms := [(33, { W.domInfo .keeper with cids := [9], since := 5 })] }, 9, .station 31, by decide +kernel⟩,
    ⟨W, 7, by decide +kernel⟩,
    ⟨W.put .kprHangStatusRecovery 0 3, 7, by decide +kernel⟩⟩

end Z

end Sys2Proof.Test
end

section
/-! Frames of register writes: which fields a `State.put` leaves alone, in the terms of the statements (`SameRegs`, `OnlyRegs`), and a
command that completes with a state that is known. -/

namespace Sys2Proof.Machine

/-- A command that answers a state completes with all that holds of that state. -/
theorem Completes.of_next {o : Host.Outcome State Fault Refusal} {P : State → Prop} {t : State} (h : o = .next t) (hP : P t) :
    Completes o P := ⟨t, h, hP⟩

theorem SameRegs.refl (s : State) (l : List (RF × Nat)) : SameRegs s s l := fun _ _ _ => rfl

theorem SameRegs.trans {s t u : State} {l : List (RF × Nat)} (h : SameRegs s t l) (h' : SameRegs t u l) : SameRegs s u l :=
  fun F i hn => (h' F i hn).trans (h F i hn)

/-- A longer list of fields says less. -/
theorem SameRegs.mono {s t : State} {l l' : List (RF × Nat)} (h : SameRegs s t l) (hs : ∀ x ∈ l, x ∈ l') : SameRegs s t l' :=
  fun F i hn => h F i (fun hm => hn (hs _ hm))

/-- What leaves the register table alone leaves every field alone. -/
theorem SameRegs.of_regs_eq {s t : State} (l : List (RF × Nat)) (h : t.regs = s.regs) : SameRegs s t l :=
  fun F i _ => by rw [State.rf, State.rf, h]

/-- A write of a listed field leaves the fields that are not listed. -/
theorem State.sameRegs_put (s : State) {F : RF} {i : Nat} (v : Nat) {l : List (RF × Nat)} (h : (F, i) ∈ l) : SameRegs s (s.put F i v) l :=
  fun G j hn => s.rf_put_other F G i j v (by
    by_contra hc
    push Not at hc
    obtain ⟨rfl, rfl⟩ := hc
    exact hn h)

theorem SameRegs.put {s t : State} {F : RF} {i : Nat} {l : List (RF × Nat)} (h : SameRegs s t l) (v : Nat) (hm : (F, i) ∈ l) :
    SameRegs s (t.put F i v) l := h.trans (t.sameRegs_put v hm)

/-- One field written: nothing else of the state differs. -/
theorem State.onlyRegs_put (s : State) (F : RF) (i v : Nat) : OnlyRegs s (s.put F i v) [(F, i)] :=
  ⟨rfl, s.sameRegs_put v (List.mem_singleton.mpr rfl)⟩

/-- ACCESS_ERR set, and nothing else changed (R4). -/
theorem State.onlyRegs_accessErr (s : State) :
    OnlyRegs s s.accessErr [(.hptStatusAccessErr, 0)] ∧ s.accessErr.rf .hptStatusAccessErr 0 = 1 :=
  ⟨s.onlyRegs_put .hptStatusAccessErr 0 1, s.rf_put_same .hptStatusAccessErr 0 1⟩

end Sys2Proof.Machine
end

section
/-! BAR0 (R4 to R7, R43, R341, R454, R455): where a write goes by its address, what it does to the fields of its word by their access
codes, and what a read returns. -/

namespace Sys2Proof.Machine

/-! ### Writes by address -/

theorem exec_registerWrite {s : State} (h : s.boot.aoiOn = true) (a w : Nat) (v : BitVec 64) :
    exec (.registerWrite a w v) s = .next (s.bar0Write a w v.toNat) := by
  show execRegisterWrite a w v s = _
  simp [execRegisterWrite, State.powered, h]

/-- The windows take the same path as a register write. -/
theorem exec_windowWrite {s : State} (h : s.boot.aoiOn = true) (a w : Nat) (v : BitVec 64) :
    exec (.ledgerWindowWrite a w v) s = .next (s.bar0Write a w v.toNat) ∧
    exec (.keeperStoreWindowWrite a w v) s = .next (s.bar0Write a w v.toNat) ∧
    exec (.flightRecorderWindowWrite a w v) s = .next (s.bar0Write a w v.toNat) :=
  have e := exec_registerWrite h a w v
  ⟨e, e, e⟩

theorem State.bar0Write_of_not_accessOk (s : State) {a w : Nat} (v : Nat) (h : accessOk a w = false) :
    s.bar0Write a w v = s.accessErr := by simp [State.bar0Write, h]

/-- The ledger window and the Flight Recorder window take no write, whatever its width (R43, R455). -/
theorem State.bar0Write_of_readOnlyWindow (s : State) {a : Nat} (w v : Nat) (h : 0x400000 ≤ a ∧ a < 0x480000 ∨ 0xC00000 ≤ a) :
    s.bar0Write a w v = s.accessErr := by
  have hm : ¬ (0x2F000 ≤ a ∧ a < 0x30000) := by omega
  simp [State.bar0Write, hm, h]

theorem State.bar0Write_of_keeperStore (s : State) {a w : Nat} (v : Nat) (hok : accessOk a w = true) (h1 : 0x800000 ≤ a)
    (h2 : a < 0xC00000) : s.bar0Write a w v = s.ksWrite a w v := by
  have hm : ¬ (0x2F000 ≤ a ∧ a < 0x30000) := by omega
  have hl : ¬ (0x400000 ≤ a ∧ a < 0x480000 ∨ 0xC00000 ≤ a) := by omega
  simp [State.bar0Write, hok, hm, hl, h1]

/-- A 4-byte write of a register goes to its word. -/
theorem State.bar0Write_word (s : State) {a u off : Nat} {b : Blk} (v : Nat) (hok : accessOk a 4 = true) (hr : a < 0x2F000)
    (hb : addrBlk a = some (b, u, off)) : s.bar0Write a 4 v = s.writeWord b u off (v % 2 ^ 32) := by
  have hm : ¬ (0x2F000 ≤ a ∧ a < 0x30000) := by omega
  have hl : ¬ (0x400000 ≤ a ∧ a < 0x480000 ∨ 0xC00000 ≤ a) := by omega
  have hk : ¬ 0x800000 ≤ a := by omega
  simp [State.bar0Write, hok, hm, hl, hk, hb]

/-! ### Words by their fields -/

/-- A write of a word whose fields have no action and no reserved encoding writes its fields in turn (R7). -/
theorem State.writeWord_fields (s : State) {b : Blk} {u off : Nat} (w : Nat) {l : List (RF × Nat × Int)} (hf : wordFields b u off = l)
    (hst : b ≠ .station) (hsen : b ≠ .sentinel) (hk : off ∉ [0x11340, 0x11420, 0x10804]) :
    s.writeWord b u off w = l.foldl (State.writeField true w) (l.foldl (State.writeField false w) s) := by
  simp only [List.mem_cons, List.not_mem_nil, or_false, not_or] at hk
  simp [State.writeWord, reservedWord, State.tsnBusy, hst, hsen, hk, hf]

/-- An RO field takes no bit of a write. -/
theorem State.writeField_ro (s : State) (acts : Bool) (w : Nat) {x : RF × Nat × Int} (h : x.1.spec.acc = .ro) :
    State.writeField acts w s x = s := by cases acts <;> simp [State.writeField, h]

/-- An RW field that is no request and no base address takes the bits of the word at its place. -/
theorem State.writeRw_plain (s : State) {F : RF} (i v : Nat) (he : enableOf F i = none) (hb : baseBits F = 1)
    (h : F ∉ [.fstTapCtrlRotPeriod, .hptRingHeadHead, .kprEngineEngine]) : s.writeRw F i v = s.put F i v := by
  simp only [List.mem_cons, List.not_mem_nil, or_false, not_or] at h
  simp [State.writeRw, he, hb, h]

/-- The value that a W1C field keeps: the bits that the write does not name. -/
def w1cKept (old w : Nat) (F : RF) (d : Int) : Nat := old ^^^ (old &&& wordPatch 0 F.spec.width w d)

theorem State.writeField_w1c (s : State) (acts : Bool) (w : Nat) {x : RF × Nat × Int} (h : x.1.spec.acc = .w1c) :
    State.writeField acts w s x = if acts then s else s.put x.1 x.2.1 (w1cKept (s.rf x.1 x.2.1) w x.1 x.2.2) := by
  cases acts <;> simp [State.writeField, h, w1cKept]

/-- A word of W1C fields: each keeps what the write does not name, and nothing else differs. -/
theorem State.foldl_writeField_w1c (w : Nat) (l : List (RF × Nat × Int)) (s : State) (hl : ∀ x ∈ l, x.1.spec.acc = .w1c)
    (hd : (l.map (fun x => (x.1, x.2.1))).Nodup) :
    let t := l.foldl (State.writeField false w) s
    t = { s with regs := t.regs } ∧ SameRegs s t (l.map (fun x => (x.1, x.2.1))) ∧
      ∀ x ∈ l, t.rf x.1 x.2.1 = w1cKept (s.rf x.1 x.2.1) w x.1 x.2.2 % 2 ^ x.1.spec.width := by
  induction l generalizing s with
  | nil => exact ⟨rfl, SameRegs.refl s _, by simp⟩
  | cons y l ih =>
    rw [List.map_cons, List.nodup_cons] at hd
    obtain ⟨hy, hd⟩ := hd
    obtain ⟨hrec, hsame, hval⟩ := ih (State.writeField false w s y) (fun x hx => hl x (List.mem_cons_of_mem _ hx)) hd
    have hstep := s.writeField_w1c false w (hl y List.mem_cons_self)
    simp only [Bool.false_eq_true, if_false] at hstep
    rw [hstep] at hrec hsame hval
    rw [List.foldl_cons, hstep]
    refine ⟨hrec.trans rfl, fun F i hn => ?_, fun x hx => ?_⟩
    · rw [List.map_cons, List.mem_cons, not_or] at hn
      exact (hsame F i hn.2).trans (s.sameRegs_put _ (List.mem_singleton.mpr rfl) F i (by simpa using hn.1))
    · rcases List.mem_cons.mp hx with rfl | hx
      · exact (hsame _ _ hy).trans (s.rf_put_same _ _ _)
      · have hne : (y.1, y.2.1) ≠ (x.1, x.2.1) := fun e => hy (e ▸ List.mem_map.mpr ⟨x, hx, rfl⟩)
        rw [hval x hx, s.rf_put_other _ _ _ _ _ (by by_contra hc; push Not at hc; exact hne (Prod.ext hc.1 hc.2))]

/-- Such a word has no action. -/
theorem State.foldl_writeField_actions_w1c (w : Nat) (l : List (RF × Nat × Int)) (s : State) (hl : ∀ x ∈ l, x.1.spec.acc = .w1c) :
    l.foldl (State.writeField true w) s = s := by
  induction l generalizing s with
  | nil => rfl
  | cons y l ih =>
    rw [List.foldl_cons, s.writeField_w1c true w (hl y List.mem_cons_self)]
    exact ih s (fun x hx => hl x (List.mem_cons_of_mem _ hx))

theorem bits_one (v d : Nat) : bits v d 1 = if v.testBit d then 1 else 0 := by
  rw [bits, pow_one, Nat.shiftRight_eq_div_pow, ← Nat.toNat_testBit]
  cases v.testBit d <;> rfl

/-- A W1C field of one bit is cleared by a 1 at its place, and stands otherwise. -/
theorem w1cKept_one_bit {old d : Nat} (v : Nat) {F : RF} (hw : F.spec.width = 1) (ho : old ≤ 1) (hd : d < 32) :
    w1cKept old (v % 2 ^ 32) F d = if v.testBit d then 0 else old := by
  have hk : Nat.min 1 (32 - d) = 1 := Nat.min_eq_left (by omega)
  have hbit : (v % 2 ^ 32).testBit d = v.testBit d := by rw [Nat.testBit_mod_two_pow, decide_eq_true hd, Bool.true_and]
  have hpart : wordPatch 0 1 (v % 2 ^ 32) d = if v.testBit d then 1 else 0 := by
    rw [← hbit]
    generalize v % 2 ^ 32 = w
    simp [wordPatch, hk, bits_one]
  rw [w1cKept, hw, hpart]
  interval_cases old <;> cases v.testBit d <;> rfl

/-! ### The Keeper Store window -/

/-- A write of fewer than 16 bytes covers no word whole, so it makes no poisoned word good. -/
theorem State.writeKs_short (s : State) (off : Nat) (l : List Nat) (h : l.length < 16) :
    s.writeKs off l = { s with ks := writeBytes s.ks off l } := by
  have hp : s.poison.filter (fun m => !(match m with | .keeperStore o => decide (off ≤ o ∧ o + 16 ≤ off + l.length) | _ => false)) =
      s.poison := List.filter_eq_self.mpr (fun m _ => by
    cases m with
    | keeperStore o => simp; omega
    | _ => rfl)
  simp only [State.writeKs, State.clearPoison]
  exact congrArg (fun p => ({ s with ks := writeBytes s.ks off l, poison := p } : State)) hp

/-- Of a value that is stored, the bytes beyond its width do not matter. -/
theorem BytesStored.mod {old new : Tab Byte} {ea w v : Nat} (h : BytesStored old new ea w v) :
    BytesStored old new ea w (v % 2 ^ (8 * w)) := by
  intro a
  rw [h a]
  split
  · rename_i ha
    have hpow : (2 : Nat) ^ (8 * w) = 256 ^ (a - ea) * 256 ^ (w - (a - ea)) := by
      rw [← pow_add, show a - ea + (w - (a - ea)) = w by omega, show (256 : Nat) = 2 ^ 8 from rfl, ← pow_mul]
    have hdvd : 256 ∣ 256 ^ (w - (a - ea)) := dvd_pow_self 256 (by omega)
    rw [hpow, Nat.mod_mul_right_div_self, Nat.mod_mod_of_dvd _ hdvd]
  · rfl

/-! ### Reads -/

theorem exec_latchedLowWordRead {s : State} (h : s.boot.aoiOn = true) (a : Nat) :
    exec (.latchedLowWordRead a) s = .next (s.hostRead a 4) := by
  show execLatchedLowWordRead a s = _
  simp [execLatchedLowWordRead, State.powered, h]

theorem exec_ledgerLowHalfRead {s : State} (h : s.boot.aoiOn = true) (i : Nat) :
    exec (.ledgerLowHalfRead i) s = .next (s.hostRead (0x400000 + 16 * i) 8) := by
  show execLedgerLowHalfRead i s = _
  simp [execLedgerLowHalfRead, State.powered, h]

theorem State.windowBytes_below (s : State) {a : Nat} (h : a < 0x800000) : s.windowBytes a = none := by
  have h1 : ¬ 0x800000 ≤ a := by omega
  have h2 : ¬ 0xC00000 ≤ a := by omega
  simp [State.windowBytes, h1, h2]

/-- A read below the paged windows is never poisoned: what it returns goes out. -/
theorem State.hostRead_below (s : State) {a : Nat} (w : Nat) (h : a < 0x800000) :
    s.hostRead a w = { (s.bar0Read a w).2 with out := .read a (s.bar0Read a w).1 :: (s.bar0Read a w).2.out } := by
  simp [State.hostRead, s.windowBytes_below h]

/-- A 4-byte read of the low word of a 64-bit register latches the high word (R6). -/
theorem State.bar0Read_low (s : State) {a : Nat} (hok : accessOk a 4 = true) (hr : a < 0x400000) (hl : isLow64 a = true) :
    s.bar0Read a 4 = (s.word a, { s with host := { s.host with latch := some (a, s.word (a + 4)) } }) := by
  have h1 : ¬ 0x400000 ≤ a := by omega
  simp [State.bar0Read, hok, s.windowBytes_below (show a < 0x800000 by omega), h1, hl]

/-- The read of the high word returns what is latched and uses the latch up (R6). -/
theorem State.bar0Read_high (s : State) {a w : Nat} (hok : accessOk (a + 4) 4 = true) (hr : a + 4 < 0x400000) (hl : isLow64 a = true)
    (hh : isLow64 (a + 4) = false) (hw : s.host.latch = some (a, w)) :
    s.bar0Read (a + 4) 4 = (w, { s with host := { s.host with latch := none } }) := by
  have h1 : ¬ 0x400000 ≤ a + 4 := by omega
  simp [State.bar0Read, hok, s.windowBytes_below (show a + 4 < 0x800000 by omega), h1, hl, hh, hw]

/-- An 8-byte read of the low half of a ledger entry latches the upper half (R43). -/
theorem State.bar0Read_ledgerLow (s : State) {i : Nat} (h : i < 32768) :
    s.bar0Read (0x400000 + 16 * i) 8 =
      (s.ledgerEntry i % 2 ^ 64, { s with ledger := { s.ledger with latch := some (i, s.ledgerEntry i / 2 ^ 64) } }) := by
  have hok : accessOk (0x400000 + 16 * i) 8 = true := by simp [accessOk]; omega
  have hi : (0x400000 + 16 * i - 0x400000) / 16 = i := by omega
  have ha : (0x400000 + 16 * i) % 16 = 0 := by omega
  have hr : 0x400000 ≤ 0x400000 + 16 * i ∧ 0x400000 + 16 * i < 0x480000 := by omega
  rw [State.bar0Read, hok, s.windowBytes_below (by omega)]
  simp only [Bool.true_eq_false, if_false, if_pos hr, State.readLedger, hi, ha, if_true]

/-! ### The word of KPR_WTC -/

theorem State.readField_wtc (s : State) (i : Nat) : s.readField .kprWtcWtc i = s.wtc % 2 ^ 64 := rfl

/-- KPR_WTC at 0x11000: its low word and its high word. -/
theorem State.word_wtc (s : State) : s.word 0x11000 = s.wtc % 2 ^ 32 ∧ s.word 0x11004 = s.wtc / 2 ^ 32 % 2 ^ 32 := by
  have hlow : wordFields .keeper 0 0x11000 = [(.kprWtcWtc, 0, 0)] := by decide +kernel
  have hhigh : wordFields .keeper 0 0x11004 = [(.kprWtcWtc, 0, -32)] := by decide +kernel
  have hl : s.word 0x11000 = s.blkWord .keeper 0 0x11000 := rfl
  have hh : s.word 0x11004 = s.blkWord .keeper 0 0x11004 := rfl
  constructor
  · rw [hl, State.blkWord, hlow]
    simp [State.readField_wtc, wordPart]
  · rw [hh, State.blkWord, hhigh]
    simp [State.readField_wtc, wordPart, bits, Nat.shiftRight_eq_div_pow]
    omega

/-! ### Sentinel accesses (R456, R457) -/

/-- What an access leaves when it ends: ERR, GO clear, and every other field as it stands. -/
theorem State.tsnEnd_spec (s : State) (i err : Nat) :
    s.tsnEnd i err = { s with regs := (s.tsnEnd i err).regs } ∧
    SameRegs s (s.tsnEnd i err) [(.fstTsnCmdGo, i), (.fstTsnCmdErr, i)] ∧
    (s.tsnEnd i err).rf .fstTsnCmdGo i = 0 ∧ (s.tsnEnd i err).rf .fstTsnCmdErr i = err % 8 :=
  ⟨rfl, (s.sameRegs_put err (by simp)).put 0 (by simp), (s.put .fstTsnCmdErr i err).rf_put_same .fstTsnCmdGo i 0, by
    show ((s.put .fstTsnCmdErr i err).put .fstTsnCmdGo i 0).rf .fstTsnCmdErr i = err % 8
    rw [State.rf_put_field _ _ _ _ _ _ (by decide), State.rf_put_same]; rfl⟩

/-- An access that ends with a value in DATA. -/
theorem State.put_data_tsnEnd_spec (s : State) (i v err : Nat) :
    let t := (s.put .fstTsnDataData i v).tsnEnd i err
    t = { s with regs := t.regs } ∧ SameRegs s t [(.fstTsnDataData, i), (.fstTsnCmdGo, i), (.fstTsnCmdErr, i)] ∧
      t.rf .fstTsnCmdGo i = 0 ∧ t.rf .fstTsnCmdErr i = err % 8 ∧ t.rf .fstTsnDataData i = v % 2 ^ 64 := by
  obtain ⟨hrec, hsame, hgo, herr⟩ := (s.put .fstTsnDataData i v).tsnEnd_spec i err
  refine ⟨hrec, (s.sameRegs_put v (by simp)).trans (hsame.mono (by simp)), hgo, herr, ?_⟩
  rw [hsame _ _ (by simp)]
  exact s.rf_put_same .fstTsnDataData i v

/-- GO is set: the registers and the start time that an access begins with. -/
def State.tsnBegun (s : State) (i : Nat) : State :=
  { s.put .fstTsnCmdGo i 1 with tsnGo := Tab.set (fun _ => 0) s.tsnGo i s.now }

theorem State.tsnBegun_rf (s : State) (i : Nat) (F : RF) (j : Nat) : (s.tsnBegun i).rf F j = (s.put .fstTsnCmdGo i 1).rf F j := rfl

theorem State.sameRegs_tsnBegun (s : State) (i : Nat) : SameRegs s (s.tsnBegun i) [(.fstTsnCmdGo, i), (.fstTsnCmdErr, i)] :=
  s.sameRegs_put 1 (by simp)

/-- Whether an access is bad does not depend on GO, nor on when it was set. -/
theorem State.tsnStart_eq (s : State) (i : Nat) :
    s.tsnStart i = if s.tsnBad i then (s.tsnBegun i).tsnEnd i 1 else s.tsnBegun i := by
  have hbad : (s.tsnBegun i).tsnBad i = s.tsnBad i := by
    simp only [State.tsnBad, State.tsnBegun_rf]
    simp
  rw [← hbad]
  rfl

theorem exec_sentinelAccessEnd (f : Fin 32) (set : Fin 2) (answered : Bool) (s : State) :
    exec (.sentinelAccessEnd f set answered) s = .next (s.tsnDone f.val set.val answered) := rfl

/-- With compute held, an access ends UNAVAILABLE and reads zero. -/
theorem State.tsnDone_held (s : State) (f n : Nat) (answered : Bool) (hgo : s.rf .fstTsnCmdGo (tsnSet f n) = 1)
    (hc : s.domState .compute = 2) :
    s.tsnDone f n answered = (s.put .fstTsnDataData (tsnSet f n) 0).tsnEnd (tsnSet f n) 2 := by
  simp [State.tsnDone, hgo, hc]

/-- With its field in service and compute UP, an access that is not overdue ends with its answer, and stays without one. -/
theorem State.tsnDone_inTime (s : State) (f n : Nat) (answered : Bool) (hgo : s.rf .fstTsnCmdGo (tsnSet f n) = 1)
    (hd : s.dropped f = false) (hc : s.domState .compute = 0) (hl : s.now < Tab.get (fun _ => 0) s.tsnGo (tsnSet f n) + 1000) :
    s.tsnDone f n answered = if answered then
      (s.tsnMove (tsnSet f n) (tileId f (s.rf .fstTsnCmdRow (tsnSet f n)) (s.rf .fstTsnCmdColumn (tsnSet f n)))).tsnEnd (tsnSet f n) 0
      else s := by
  simp [State.tsnDone, hgo, hd, hc, Nat.not_le.mpr hl]

/-- A read that is overdue ends with TIMEOUT and reads zero. -/
theorem State.tsnDone_lateRead (s : State) (f n : Nat) (answered : Bool) (hgo : s.rf .fstTsnCmdGo (tsnSet f n) = 1)
    (hd : s.dropped f = false) (hc : s.domState .compute = 0) (hl : Tab.get (fun _ => 0) s.tsnGo (tsnSet f n) + 1000 ≤ s.now)
    (hw : s.rf .fstTsnCmdWrite (tsnSet f n) = 0) :
    s.tsnDone f n answered = (s.free.2.put .fstTsnDataData (tsnSet f n) 0).tsnEnd (tsnSet f n) 3 := by
  simp [State.tsnDone, hgo, hd, hc, hl, hw]

/-- A read of 32 bits moves the register's word into DATA. -/
theorem State.tsnMove_read (s : State) (i t : Nat) (hw : s.rf .fstTsnCmdWrite i = 0) (hn : s.rf .fstTsnCmdWide i = 0) :
    s.tsnMove i t = s.put .fstTsnDataData i (s.blkWord .sentinel t (s.rf .fstTsnCmdOffset i)) := by
  simp [State.tsnMove, hw, hn]

end Sys2Proof.Machine
end

section
/-! The settlement of O29, clause by clause. -/

namespace Sys2Proof.Machine

/-! ### R4 to R7: registers -/

/-- KPR_PARK_CTRL holds one RW field of 16 bits. -/
theorem State.bar0Write_parkCtrl (s : State) (v : Nat) :
    s.bar0Write 0x11100 4 v = s.put .kprParkCtrlParkMs 0 (wordPatch (s.rf .kprParkCtrlParkMs 0) 16 (v % 2 ^ 32) 0) := by
  have hf : wordFields .keeper 0 0x11100 = [(.kprParkCtrlParkMs, 0, 0)] := by decide +kernel
  have hacc : RF.kprParkCtrlParkMs.spec.acc = .rw := rfl
  rw [s.bar0Write_word v (b := .keeper) (u := 0) (off := 0x11100) (by decide) (by decide) rfl,
    s.writeWord_fields _ hf (by decide) (by decide) (by decide)]
  simp only [List.foldl_cons, List.foldl_nil, State.writeField, hacc]
  exact s.writeRw_plain _ _ rfl rfl (by decide)

/-- The low 16 bits of a word replace a field of 16 bits whole. -/
theorem wordPatch_16_mod (old v : Nat) : wordPatch old 16 (v % 2 ^ 32) 0 % 2 ^ 16 = v % 2 ^ 16 := by
  simp [wordPatch, bits, Nat.shiftLeft_eq, Nat.shiftRight_eq_div_pow]

/-- KPR_STALL_LIMIT at 0x11408 is RO. -/
theorem State.bar0Write_readOnly (s : State) (v : Nat) : s.bar0Write 0x11408 4 v = s := by
  have hf : wordFields .keeper 0 0x11408 = [(.kprStallLimitLimit, 0, 0)] := by decide +kernel
  rw [s.bar0Write_word v (b := .keeper) (u := 0) (off := 0x11408) (by decide) (by decide) rfl,
    s.writeWord_fields _ hf (by decide) (by decide) (by decide)]
  simp only [List.foldl_cons, List.foldl_nil]
  rw [s.writeField_ro false _ rfl, s.writeField_ro true _ rfl]

/-- The fields of AOI_RESET_CAUSE, with the place of each. -/
def resetCauseFields : List (RF × Nat × Int) :=
  [(.aoiResetCauseAoiPower, 0, 0), (.aoiResetCausePowerGood, 0, 1), (.aoiResetCauseKeeperHost, 0, 2), (.aoiResetCauseKeeperWatchdog, 0, 3),
   (.aoiResetCauseKeeperStage, 0, 4), (.aoiResetCauseComputeHost, 0, 5), (.aoiResetCauseComputeRecovery, 0, 6),
   (.aoiResetCauseComputeTrip, 0, 7), (.aoiResetCauseStation, 0, 8), (.aoiResetCausePort, 0, 9)]

theorem wordFields_resetCause : wordFields .aoi 0 0x300 = resetCauseFields := by decide +kernel

theorem resetCauseFields_w1c : ∀ x ∈ resetCauseFields, x.1.spec.acc = .w1c := by decide

theorem resetCauseFields_nodup : (resetCauseFields.map (fun x => (x.1, x.2.1))).Nodup := by decide

/-- A write of AOI_RESET_CAUSE is one of a word of W1C fields. -/
theorem State.bar0Write_resetCause (s : State) (v : Nat) :
    s.bar0Write 0x300 4 v = resetCauseFields.foldl (State.writeField false (v % 2 ^ 32)) s := by
  rw [s.bar0Write_word v (b := .aoi) (u := 0) (off := 0x300) (by decide) (by decide) rfl,
    s.writeWord_fields _ wordFields_resetCause (by decide) (by decide) (by decide)]
  exact State.foldl_writeField_actions_w1c _ _ _ resetCauseFields_w1c

theorem State.bar0Write_resetCause_spec (s : State) (v : Nat) (hs : s.rf .aoiResetCauseStation 0 ≤ 1) (hp : s.rf .aoiResetCausePort 0 ≤ 1) :
    let t := s.bar0Write 0x300 4 v
    t = { s with regs := t.regs } ∧ (∀ F i, F.spec.acc ≠ .w1c → t.rf F i = s.rf F i) ∧
      t.rf .aoiResetCauseStation 0 = (if v.testBit 8 then 0 else s.rf .aoiResetCauseStation 0) ∧
      t.rf .aoiResetCausePort 0 = (if v.testBit 9 then 0 else s.rf .aoiResetCausePort 0) := by
  obtain ⟨hrec, hsame, hval⟩ := s.foldl_writeField_w1c (v % 2 ^ 32) resetCauseFields resetCauseFields_w1c resetCauseFields_nodup
  have hkept : ∀ {F : RF} {d : Nat}, (F, 0, (d : Int)) ∈ resetCauseFields → F.spec.width = 1 → d < 32 → s.rf F 0 ≤ 1 →
      (s.bar0Write 0x300 4 v).rf F 0 = if v.testBit d then 0 else s.rf F 0 := by
    intro F d hm hw hd ho
    rw [s.bar0Write_resetCause, hval _ hm, w1cKept_one_bit v hw ho hd, hw]
    exact Nat.mod_eq_of_lt (by split <;> omega)
  refine ⟨by rw [s.bar0Write_resetCause]; exact hrec, fun F i hacc => ?_,
    hkept (d := 8) (by decide) rfl (by decide) hs, hkept (d := 9) (by decide) rfl (by decide) hp⟩
  rw [s.bar0Write_resetCause]
  refine hsame F i (fun hm => hacc ?_)
  obtain ⟨x, hx, he⟩ := List.mem_map.mp hm
  cases he
  exact resetCauseFields_w1c x hx

theorem bar0_registers (s : State) (addr width : Nat) (v : BitVec 64) (hon : s.boot.aoiOn = true) :
    (accessOk addr width = false → Completes (exec (.registerWrite addr width v) s) (fun t => OnlyRegs s t [(.hptStatusAccessErr, 0)] ∧
      t.rf .hptStatusAccessErr 0 = 1)) ∧
    Completes (exec (.registerWrite 0x11100 4 v) s) (fun t => OnlyRegs s t [(.kprParkCtrlParkMs, 0)] ∧
      t.rf .kprParkCtrlParkMs 0 = v.toNat % 2 ^ 16) ∧
    exec (.registerWrite 0x11408 4 v) s = .next s ∧
    (s.rf .aoiResetCauseStation 0 ≤ 1 → s.rf .aoiResetCausePort 0 ≤ 1 → Completes (exec (.registerWrite 0x300 4 v) s) (fun t =>
      t = { s with regs := t.regs } ∧ (∀ F i, F.spec.acc ≠ .w1c → t.rf F i = s.rf F i) ∧
      t.rf .aoiResetCauseStation 0 = (if v.toNat.testBit 8 then 0 else s.rf .aoiResetCauseStation 0) ∧
      t.rf .aoiResetCausePort 0 = (if v.toNat.testBit 9 then 0 else s.rf .aoiResetCausePort 0))) ∧
    Completes (exec (.latchedLowWordRead 0x11000) s) (fun t => t = { s with host := { s.host with latch := t.host.latch }, out := t.out } ∧
      t.out = .read 0x11000 (s.wtc % 2 ^ 32) :: s.out ∧ t.host.latch = some (0x11000, s.wtc / 2 ^ 32 % 2 ^ 32)) ∧
    (∀ w, s.host.latch = some (0x11000, w) → exec (.latchedLowWordRead 0x11004) s =
      .next { s with host := { s.host with latch := none }, out := .read 0x11004 w :: s.out }) := by
  refine ⟨fun hbad => .of_next (exec_registerWrite hon _ _ v) ?_, .of_next (exec_registerWrite hon _ _ v) ?_, ?_,
    fun hs hp => .of_next (exec_registerWrite hon _ _ v) (s.bar0Write_resetCause_spec v.toNat hs hp),
    .of_next (exec_latchedLowWordRead hon _) ?_, fun w hw => ?_⟩
  · rw [s.bar0Write_of_not_accessOk v.toNat hbad]
    exact s.onlyRegs_accessErr
  · rw [s.bar0Write_parkCtrl]
    exact ⟨s.onlyRegs_put _ _ _, (s.rf_put_same _ _ _).trans (wordPatch_16_mod _ _)⟩
  · rw [exec_registerWrite hon, s.bar0Write_readOnly]
  · rw [s.hostRead_below 4 (by decide), s.bar0Read_low (by decide) (by decide) (by decide +kernel), s.word_wtc.1, s.word_wtc.2]
    exact ⟨rfl, rfl, rfl⟩
  · rw [exec_latchedLowWordRead hon, s.hostRead_below 4 (by decide),
      s.bar0Read_high (a := 0x11000) (by decide) (by decide) (by decide +kernel) (by decide +kernel) hw]

/-! ### R43, R341, R454, R455: windows -/

theorem bar0_windows (s : State) (addr width i : Nat) (v : BitVec 64) (hon : s.boot.aoiOn = true) :
    let Refused := fun (c : Instr) => Completes (exec c s) (fun t => OnlyRegs s t [(.hptStatusAccessErr, 0)] ∧ t.rf .hptStatusAccessErr 0 = 1)
    (i < 32768 → exec (.ledgerLowHalfRead i) s = .next { s with
      ledger := { s.ledger with latch := some (i, s.ledgerEntry i / 2 ^ 64) }, out := .read (0x400000 + 16 * i) (s.ledgerEntry i % 2 ^ 64) :: s.out }) ∧
    (0x400000 ≤ addr → addr < 0x480000 → Refused (.ledgerWindowWrite addr width v)) ∧
    (0xC00000 ≤ addr → Refused (.flightRecorderWindowWrite addr width v)) ∧
    (accessOk addr width = true → 0x800000 ≤ addr → addr < 0xC00000 →
      (s.ksWritable (s.ksOffset addr) = true → Completes (exec (.keeperStoreWindowWrite addr width v) s) (fun t =>
        t = { s with ks := t.ks } ∧ BytesStored s.ks t.ks (s.ksOffset addr) width (v.toNat % 2 ^ (8 * width)))) ∧
      (s.ksWritable (s.ksOffset addr) = false → Refused (.keeperStoreWindowWrite addr width v))) ∧
    Completes (exec (.registerAccessTimeout addr) s) (fun t => t = { s with out := .read addr 0 :: s.out, regs := t.regs } ∧
      SameRegs s t [(.kprHangStatusRegTimeout, 0)] ∧ t.rf .kprHangStatusRegTimeout 0 = 1) := by
  obtain ⟨hledger, hstore, hflight⟩ := exec_windowWrite hon addr width v
  refine ⟨fun hi => ?_, fun h1 h2 => .of_next hledger ?_, fun h => .of_next hflight ?_, fun hok h1 h2 => ⟨fun hw => .of_next hstore ?_,
    fun hw => .of_next hstore ?_⟩, ?_⟩
  · rw [exec_ledgerLowHalfRead hon, s.hostRead_below 8 (by omega), s.bar0Read_ledgerLow hi]
  · rw [s.bar0Write_of_readOnlyWindow width v.toNat (Or.inl ⟨h1, h2⟩)]
    exact s.onlyRegs_accessErr
  · rw [s.bar0Write_of_readOnlyWindow width v.toNat (Or.inr h)]
    exact s.onlyRegs_accessErr
  · have hshort : (bytesOf v.toNat 0 width).length < 16 := by
      simp only [accessOk, decide_eq_true_eq] at hok
      rw [bytesOf_length]
      omega
    rw [s.bar0Write_of_keeperStore v.toNat hok h1 h2, State.ksWrite, if_pos hw, s.writeKs_short _ _ hshort]
    exact ⟨rfl, (writeBytes_stored s.ks (s.ksOffset addr) width v.toNat).mod⟩
  · rw [s.bar0Write_of_keeperStore v.toNat hok h1 h2, State.ksWrite, hw]
    exact s.onlyRegs_accessErr
  · have hexec : exec (.registerAccessTimeout addr) s =
        .next ({ s with out := .read addr 0 :: s.out }.put .kprHangStatusRegTimeout 0 1) := by
      show execRegisterAccessTimeout addr s = _
      simp [execRegisterAccessTimeout, State.powered, hon]
    exact .of_next hexec ⟨rfl, s.sameRegs_put 1 (List.mem_singleton.mpr rfl), s.rf_put_same .kprHangStatusRegTimeout 0 1⟩

/-! ### R456, R457: the Sentinel port -/

/-- GO: a second GO is refused; a first begins the access, or ends it at once with BAD_ADDR. -/
theorem sentinel_go (s : State) (f : Fin 32) (set : Fin 2) :
    let i := tsnSet f.val set.val
    let go := s.rf .fstTsnCmdGo i
    (go = 1 → Completes (exec (.fstTsnGo f set) s) (fun t => OnlyRegs s t [(.hptStatusAccessErr, 0)])) ∧
    (go ≠ 1 → Completes (exec (.fstTsnGo f set) s) (fun t => t = { s with regs := t.regs, tsnGo := t.tsnGo } ∧
      SameRegs s t [(.fstTsnCmdGo, i), (.fstTsnCmdErr, i)] ∧ Tab.get (fun _ => 0) t.tsnGo i = s.now ∧
      (s.tsnBad i = false → t.rf .fstTsnCmdGo i = 1 ∧ t.rf .fstTsnCmdErr i = s.rf .fstTsnCmdErr i) ∧
      (s.tsnBad i = true → t.rf .fstTsnCmdGo i = 0 ∧ t.rf .fstTsnCmdErr i = 1))) := by
  intro i go
  have hexec : exec (.fstTsnGo f set) s = .next (if go = 1 then s.accessErr else s.tsnStart i) := rfl
  refine ⟨fun hgo => .of_next (hexec.trans (by rw [if_pos hgo])) s.onlyRegs_accessErr.1,
    fun hgo => .of_next (hexec.trans (by rw [if_neg hgo, s.tsnStart_eq])) ?_⟩
  have hnow : Tab.get (fun _ => 0) (s.tsnBegun i).tsnGo i = s.now := Tab.get_set_same _ _ _ _
  cases hb : s.tsnBad i
  · exact ⟨rfl, s.sameRegs_tsnBegun i, hnow,
      fun _ => ⟨s.rf_put_same .fstTsnCmdGo i 1, s.rf_put_field .fstTsnCmdGo .fstTsnCmdErr i i 1 (by decide)⟩, fun h => by cases h⟩
  · obtain ⟨hrec, hsame, hg, he⟩ := (s.tsnBegun i).tsnEnd_spec i 1
    simp only [if_true]
    exact ⟨hrec, (s.sameRegs_tsnBegun i).trans hsame, hnow, fun h => (by cases h), fun _ => ⟨hg, he⟩⟩

/-- The end of an access (R457). -/
theorem sentinel_end (s : State) (f : Fin 32) (set : Fin 2) (answered : Bool) :
    let i := tsnSet f.val set.val
    let t0 := Tab.get (fun _ => 0) s.tsnGo i
    let tile := tileId f.val (s.rf .fstTsnCmdRow i) (s.rf .fstTsnCmdColumn i)
    let go := s.rf .fstTsnCmdGo i
    let Ends := fun (o : Host.Outcome State Fault Refusal) (err : Nat) => Completes o (fun t => t = { s with regs := t.regs } ∧
      SameRegs s t [(.fstTsnDataData, i), (.fstTsnCmdGo, i), (.fstTsnCmdErr, i)] ∧ t.rf .fstTsnCmdGo i = 0 ∧ t.rf .fstTsnCmdErr i = err ∧
      t.rf .fstTsnDataData i = if err = 0 then s.blkWord .sentinel tile (s.rf .fstTsnCmdOffset i) % 2 ^ 64 else 0)
    (go = 0 → exec (.sentinelAccessEnd f set answered) s = .next s) ∧
    (go = 1 → s.domState .compute = 2 → Ends (exec (.sentinelAccessEnd f set answered) s) 2) ∧
    (go = 1 → s.dropped f.val = false → s.domState .compute = 0 →
      (s.now < t0 + 1000 → s.rf .fstTsnCmdWrite i = 0 → s.rf .fstTsnCmdWide i = 0 → Ends (exec (.sentinelAccessEnd f set true) s) 0) ∧
      (s.now < t0 + 1000 → exec (.sentinelAccessEnd f set false) s = .next s) ∧
      (t0 + 1000 ≤ s.now → s.rf .fstTsnCmdWrite i = 0 → Completes (exec (.sentinelAccessEnd f set answered) s) (fun t =>
        t.rf .fstTsnCmdGo i = 0 ∧ t.rf .fstTsnCmdErr i = 3 ∧ t.rf .fstTsnDataData i = 0 ∧
        SameRegs s t [(.fstTsnDataData, i), (.fstTsnCmdGo, i), (.fstTsnCmdErr, i)]))) := by
  intro i t0 tile go Ends
  refine ⟨fun hgo => ?_, fun hgo hc => .of_next (exec_sentinelAccessEnd ..) ?_, fun hgo hd hc => ⟨fun hl hw hn =>
    .of_next (exec_sentinelAccessEnd ..) ?_, fun hl => ?_, fun hl hw => .of_next (exec_sentinelAccessEnd ..) ?_⟩⟩
  · rw [exec_sentinelAccessEnd, State.tsnDone, if_pos hgo]
  · rw [s.tsnDone_held _ _ answered hgo hc]
    exact s.put_data_tsnEnd_spec i 0 2
  · rw [s.tsnDone_inTime _ _ true hgo hd hc hl, if_pos rfl, s.tsnMove_read i tile hw hn]
    exact s.put_data_tsnEnd_spec i _ 0
  · rw [exec_sentinelAccessEnd, s.tsnDone_inTime _ _ false hgo hd hc hl, if_neg Bool.false_ne_true]
  · rw [s.tsnDone_lateRead _ _ answered hgo hd hc hl hw]
    obtain ⟨-, hsame, hg, he, hdata⟩ := s.free.2.put_data_tsnEnd_spec i 0 3
    exact ⟨hg, he, hdata, (SameRegs.of_regs_eq _ rfl).trans hsame⟩

/-- Settles O29: the registers, the windows and the Sentinel port, a theorem for each. -/
theorem bar0RegistersWindowsAndSentinel : Obligations.Bar0RegistersWindowsAndSentinel := by
  unfold Obligations.Bar0RegistersWindowsAndSentinel
  exact ⟨bar0_registers, bar0_windows, fun s f set answered =>
    ⟨(sentinel_go s f set).1, (sentinel_go s f set).2, sentinel_end s f set answered⟩⟩

end Sys2Proof.Machine
end

section
/-! Bits of numbers: the fields of a packed record (R2), and masks of units one bit each. -/

namespace Sys2Proof.Machine

/-! ### Fields of a record -/

theorem testBit_bits (v lo w i : Nat) : (bits v lo w).testBit i = (decide (i < w) && v.testBit (lo + i)) := by
  simp [bits, Nat.testBit_mod_two_pow, Nat.testBit_shiftRight]

theorem bits_or (a b lo w : Nat) : bits (a ||| b) lo w = bits a lo w ||| bits b lo w := by
  simp [bits, Nat.shiftRight_or_distrib, Nat.or_mod_two_pow]

/-- Bits below a cut are not changed by it. -/
theorem bits_mod_two_pow (v : Nat) {lo w n : Nat} (h : lo + w ≤ n) : bits (v % 2 ^ n) lo w = bits v lo w :=
  Nat.eq_of_testBit_eq fun i => by
    rw [testBit_bits, testBit_bits, Nat.testBit_mod_two_pow]
    by_cases hi : i < w
    · simp [show lo + i < n by omega]
    · simp [hi]

/-- Nothing of a number that is shifted past a field stands in the field. -/
theorem bits_shiftLeft_above (v : Nat) {lo w k : Nat} (h : lo + w ≤ k) : bits (v <<< k) lo w = 0 :=
  Nat.eq_of_testBit_eq fun i => by
    rw [testBit_bits, Nat.testBit_shiftLeft, Nat.zero_testBit]
    by_cases hi : i < w
    · simp [show ¬ k ≤ lo + i by omega]
    · simp [hi]

/-- A field of a record reads its value where it stands, and nothing in a field apart from it. -/
theorem bits_field_same (v lo w : Nat) : bits ((v % 2 ^ w) <<< lo) lo w = v % 2 ^ w :=
  Nat.eq_of_testBit_eq fun i => by
    rw [testBit_bits, Nat.testBit_shiftLeft, Nat.testBit_mod_two_pow, Nat.add_sub_cancel_left]
    simp

theorem bits_field_apart (v : Nat) {lo w lo' w' : Nat} (h : lo' + w' ≤ lo ∨ lo + w ≤ lo') : bits ((v % 2 ^ w') <<< lo') lo w = 0 :=
  Nat.eq_of_testBit_eq fun i => by
    rw [testBit_bits, Nat.testBit_shiftLeft, Nat.testBit_mod_two_pow, Nat.zero_testBit]
    by_cases hi : i < w
    · by_cases hl : lo' ≤ lo + i
      · simp [show ¬ lo + i - lo' < w' by omega]
      · simp [hl]
    · simp [hi]

/-- Fields apart from a place leave it zero. -/
theorem bits_pack_apart (l : List (Nat × Nat × Nat)) {lo w : Nat} (h : ∀ e ∈ l, e.1 + e.2.1 ≤ lo ∨ lo + w ≤ e.1) : bits (pack l) lo w = 0 := by
  induction l with
  | nil => simp [pack, bits]
  | cons e l ih =>
    rw [pack, bits_or, bits_field_apart _ (h e List.mem_cons_self), ih (fun x hx => h x (List.mem_cons_of_mem _ hx)), Nat.or_zero]

/-- A field of a record reads its value when the others stand apart from it. -/
theorem bits_pack_field (l l' : List (Nat × Nat × Nat)) (lo w v : Nat) (h : ∀ e ∈ l ++ l', e.1 + e.2.1 ≤ lo ∨ lo + w ≤ e.1) :
    bits (pack (l ++ (lo, w, v) :: l')) lo w = v % 2 ^ w := by
  induction l with
  | nil => rw [List.nil_append, pack, bits_or, bits_field_same, bits_pack_apart l' h, Nat.or_zero]
  | cons e l ih =>
    rw [List.cons_append, pack, bits_or, bits_field_apart _ (h e List.mem_cons_self),
      ih (fun x hx => h x (List.mem_cons_of_mem _ hx)), Nat.zero_or]

/-- The check bytes of a record stand past its fields. -/
theorem bits_withCrc16 (n v : Nat) {lo w : Nat} (h : lo + w ≤ 8 * n) : bits (withCrc16 n v) lo w = bits v lo w := by
  rw [withCrc16, bits_or, bits_shiftLeft_above _ h, Nat.or_zero]

/-! ### Masks -/

/-- Taking a set bit out of a mask leaves the others. -/
theorem testBit_sub_two_pow {m d : Nat} (h : m.testBit d = true) (j : Nat) : (m - 2 ^ d).testBit j = (m.testBit j && decide (j ≠ d)) := by
  induction d generalizing m j with
  | zero =>
    have hm : m % 2 = 1 := by simpa [Nat.testBit_zero] using h
    cases j with
    | zero => simp [Nat.testBit_zero]; omega
    | succ j => rw [Nat.testBit_succ, Nat.testBit_succ, show (m - 2 ^ 0) / 2 = m / 2 by omega]; simp
  | succ d ih =>
    have hge := Nat.ge_two_pow_of_testBit h
    rw [Nat.testBit_succ] at h
    cases j with
    | zero => rw [Nat.testBit_zero, Nat.testBit_zero, show (m - 2 ^ (d + 1)) % 2 = m % 2 by omega]; simp
    | succ j => rw [Nat.testBit_succ, Nat.testBit_succ, show (m - 2 ^ (d + 1)) / 2 = m / 2 - 2 ^ d by omega, ih h]; simp

/-- A mask added up bit by bit: the bits that it has. -/
theorem foldl_two_pow_filter_range (p : Nat → Bool) (n : Nat) :
    let m := (((List.range n).filter p).map (fun d => 2 ^ d)).foldl (· + ·) 0
    m < 2 ^ n ∧ ∀ d, m.testBit d = (decide (d < n) && p d) := by
  induction n with
  | zero => simp
  | succ n ih =>
    obtain ⟨hlt, hbit⟩ := ih
    rw [List.range_succ, List.filter_append, List.map_append, List.foldl_append]
    generalize (((List.range n).filter p).map (fun d => 2 ^ d)).foldl (· + ·) 0 = m at hlt hbit
    have htop : m.testBit n = false := Nat.testBit_lt_two_pow hlt
    cases hp : p n
    · simp only [List.filter_cons, hp, Bool.false_eq_true, if_false, List.filter_nil, List.map_nil, List.foldl_nil]
      refine ⟨by omega, fun d => ?_⟩
      rw [hbit d]
      rcases Nat.lt_trichotomy d n with h | rfl | h
      · simp [h, Nat.lt_succ_of_lt h]
      · simp [hp]
      · simp [show ¬ d < n by omega, show ¬ d < n + 1 by omega]
    · simp only [List.filter_cons, hp, if_true, List.filter_nil, List.map_cons, List.map_nil, List.foldl_cons, List.foldl_nil]
      refine ⟨by omega, fun d => ?_⟩
      rw [Nat.add_comm m]
      rcases Nat.lt_trichotomy d n with h | rfl | h
      · rw [Nat.testBit_two_pow_add_gt h, hbit d]
        simp [h, Nat.lt_succ_of_lt h]
      · rw [Nat.testBit_two_pow_add_eq, htop]
        simp [hp]
      · have hsum : 2 ^ n + m < 2 ^ d := by
          have := Nat.pow_le_pow_right (show 0 < 2 by omega) (show n + 1 ≤ d by omega)
          omega
        rw [Nat.testBit_lt_two_pow hsum]
        simp [show ¬ d < n + 1 by omega]

end Sys2Proof.Machine
end

section
/-! Transfers that fail (R242, R243): a generation becomes LOST, its capture ends and lets its boundary go. What that leaves alone, stated
once as a relation between the states before and after, and kept by every operation on the way. -/

namespace Sys2Proof.Machine

/-- The timeout counter stands, every event stays sampled, and a generation is as it was or becomes LOST. -/
structure LosesAtMost (s t : State) : Prop where
  timeouts : t.rf .kprCmdTimeoutsCount 0 = s.rf .kprCmdTimeoutsCount 0
  events   : ∀ e ∈ s.events, e ∈ t.events
  gens     : ∀ j, t.gen j = s.gen j ∨ ∃ g, s.gen j = some g ∧ t.gen j = some { g with state := 4 }

theorem LosesAtMost.trans {s t u : State} (h : LosesAtMost s t) (h' : LosesAtMost t u) : LosesAtMost s u where
  timeouts := h'.timeouts.trans h.timeouts
  events := fun e he => h'.events e (h.events e he)
  gens := fun j => by
    rcases h.gens j with hj | ⟨g, hg, hj⟩ <;> rcases h'.gens j with hk | ⟨g', hg', hk⟩
    · exact Or.inl (hk.trans hj)
    · exact Or.inr ⟨g', hj ▸ hg', hk⟩
    · exact Or.inr ⟨g, hg, hk.trans hj⟩
    · rw [hj] at hg'
      cases hg'
      exact Or.inr ⟨g, hg, hk⟩

/-- What leaves registers, events and the copy directory alone. -/
theorem LosesAtMost.of_same {s t : State} (hr : t.regs = s.regs) (he : t.events = s.events) (hg : t.sec.gens = s.sec.gens) :
    LosesAtMost s t where
  timeouts := by rw [State.rf, State.rf, hr]
  events := fun e h => he ▸ h
  gens := fun j => Or.inl (by rw [State.gen, State.gen, hg])

theorem LosesAtMost.refl (s : State) : LosesAtMost s s := .of_same rfl rfl rfl

/-- A step before that leaves registers, events and the copy directory alone. -/
theorem LosesAtMost.after_same {s t u : State} (h : LosesAtMost t u) (hr : t.regs = s.regs := by rfl) (he : t.events = s.events := by rfl)
    (hg : t.sec.gens = s.sec.gens := by rfl) : LosesAtMost s u := (LosesAtMost.of_same hr he hg).trans h

/-- A step behind that leaves them alone. -/
theorem LosesAtMost.then_same {s t u : State} (h : LosesAtMost s t) (hr : u.regs = t.regs := by rfl) (he : u.events = t.events := by rfl)
    (hg : u.sec.gens = t.sec.gens := by rfl) : LosesAtMost s u := h.trans (.of_same hr he hg)

/-- A write of any field but the timeout counter. -/
theorem LosesAtMost.put {s t : State} (hs : LosesAtMost s t) (F : RF) (i v : Nat) (h : F ≠ .kprCmdTimeoutsCount) :
    LosesAtMost s (t.put F i v) :=
  hs.trans { timeouts := t.rf_put_field F _ i 0 v h, events := fun _ he => he, gens := fun _ => Or.inl rfl }

/-- An event of the Keeper. -/
theorem LosesAtMost.sample {s t : State} (hs : LosesAtMost s t) (cls : Nat) (acts : List EvAct) :
    LosesAtMost s (t.sample cls locKeeper acts) :=
  hs.trans { timeouts := rfl, events := fun _ he => List.mem_append_left _ he, gens := fun _ => Or.inl rfl }

theorem LosesAtMost.foldl {α : Type} {f : State → α → State} (h : ∀ t a, LosesAtMost t (f t a)) (l : List α) (s : State) :
    LosesAtMost s (l.foldl f s) := by
  induction l generalizing s with
  | nil => exact .refl s
  | cons a l ih => exact (h s a).trans (ih _)

/-! ### Waits that end -/

theorem State.losesAtMost_haltCore (s : State) (c : Nat) : LosesAtMost s (s.haltCore c) := by
  have hrun : LosesAtMost s (s.setCore c { s.core c with run := 2 }) := (LosesAtMost.refl s).then_same
  unfold State.haltCore State.haltSeen
  split
  · exact hrun.put _ _ _ (by decide)
  · exact hrun.put _ _ _ (by decide)

theorem State.losesAtMost_trapAt (s : State) (c epc cause tval : Nat) : LosesAtMost s (s.trapAt c epc cause tval) := by
  unfold State.trapAt
  dsimp only
  split
  · exact s.losesAtMost_haltCore c
  · split
    · exact (LosesAtMost.refl s).then_same
    · exact (State.losesAtMost_haltCore _ c).after_same

theorem State.losesAtMost_writeReg (s : State) (c rd : Nat) (v : Word) : LosesAtMost s (s.writeReg c rd v) := by
  unfold State.writeReg State.goNext State.goTo
  dsimp only
  split
  · exact (LosesAtMost.refl s).then_same
  · exact (State.losesAtMost_trapAt _ _ _ _ _).after_same

theorem State.losesAtMost_setTaken (s : State) (l : List Taken) : LosesAtMost s (s.setTaken l) := by
  have htaken : LosesAtMost s { s with host := { s.host with taken := l } } := (LosesAtMost.refl s).then_same
  exact (htaken.put .hptCreditsOutstanding 0 _ (by decide)).put .hptCreditsHigh 0 _ (by decide)

theorem State.losesAtMost_sendMsg (s : State) (cls code units cid status payload : Nat) :
    LosesAtMost s (s.sendMsg cls code units cid status payload) := by
  unfold State.sendMsg
  split
  · exact (LosesAtMost.refl s).then_same
  · refine LosesAtMost.put ?_ _ _ _ (by decide)
    exact (LosesAtMost.refl s).then_same

theorem State.losesAtMost_respond (s : State) (op cid status units payload : Nat) : LosesAtMost s (s.respond op cid status units payload) := by
  unfold State.respond
  split
  · exact (s.losesAtMost_sendMsg _ _ _ _ _ _).trans (State.losesAtMost_setTaken _ _)
  · exact .refl s

theorem State.losesAtMost_endWait (s : State) (w : SemWait) (status value : Nat) : LosesAtMost s (s.endWait w status value) := by
  unfold State.endWait
  split
  · exact (LosesAtMost.refl s).then_same
  · exact (State.losesAtMost_writeReg _ _ _ _).after_same
  · exact s.losesAtMost_respond _ _ _ _ _
  · exact .refl s

theorem State.losesAtMost_resolve (s : State) (c : Nat) : LosesAtMost s (s.resolve c) := by
  unfold State.resolve State.endWaits
  generalize resolveWaits c (sortBy (fun w => waitLoc w.owner) s.waits) (s.rf .semCountCount c) = r
  have hleft : LosesAtMost s { s with waits := r.2.1 } := (LosesAtMost.refl s).then_same
  exact (hleft.put .semCountCount c _ (by decide)).trans
    (.foldl (fun t (w : SemWait × Nat) => t.losesAtMost_endWait w.1 0 w.2) _ _)

theorem State.losesAtMost_semAdd (s : State) (c n : Nat) : LosesAtMost s (s.semAdd c n) := by
  have hcount : LosesAtMost s (s.put .semCountCount c (Nat.min (s.rf .semCountCount c + n) 0xFFFFFFFF)) :=
    (LosesAtMost.refl s).put _ _ _ (by decide)
  unfold State.semAdd
  refine LosesAtMost.trans ?_ (State.losesAtMost_resolve _ c)
  dsimp only
  generalize hs2 : (if 0xFFFFFFFF < s.rf .semCountCount c + n then
      ((s.put .semCountCount c (Nat.min (s.rf .semCountCount c + n) 0xFFFFFFFF)).put .semFlagsAddSat c 1).satEvent
      else s.put .semCountCount c (Nat.min (s.rf .semCountCount c + n) 0xFFFFFFFF)) = s2
  have hsat : LosesAtMost s s2 := by
    rw [← hs2]
    split
    · exact (hcount.put .semFlagsAddSat c 1 (by decide)).sample _ _
    · exact hcount
  split
  · exact hsat.then_same
  · exact hsat

/-! ### Captures and generations -/

theorem State.losesAtMost_releaseBoundary (s : State) : LosesAtMost s s.releaseBoundary := by
  unfold State.releaseBoundary
  split
  · exact .refl s
  · exact s.losesAtMost_semAdd _ _

theorem State.losesAtMost_dropHold (s : State) : LosesAtMost s s.dropHold := by
  unfold State.dropHold
  split
  · split
    · exact .refl s
    · exact (State.losesAtMost_releaseBoundary _).after_same
  · exact .refl s

theorem State.losesAtMost_captureWithout (s : State) (layer : Nat) : LosesAtMost s (s.captureWithout layer) := by
  unfold State.captureWithout
  split
  · split
    · dsimp only
      split
      · exact s.losesAtMost_dropHold.then_same
      · exact (LosesAtMost.refl s).then_same
    · exact .refl s
  · exact .refl s

theorem State.losesAtMost_secRecord (s : State) (ty reason layer : Nat) (coFed : Bool) (dur step wtc hold : Nat) :
    LosesAtMost s (s.secRecord ty reason layer coFed dur step wtc hold) :=
  ((LosesAtMost.refl s).put .kprSecLastRecord 0 _ (by decide)).sample 10 _

theorem State.gen_setGen_same (s : State) (n : Nat) (g : Option Gen) : (s.setGen n g).gen n = g := Tab.get_set_same _ _ _ _

theorem State.gen_setGen_other (s : State) {n j : Nat} (g : Option Gen) (h : j ≠ n) : (s.setGen n g).gen j = s.gen j :=
  Tab.get_set_other _ _ _ _ _ h

/-- A generation is marked LOST. -/
theorem State.losesAtMost_setGen (s : State) {n : Nat} {g : Gen} (h : s.gen n = some g) :
    LosesAtMost s (s.setGen n (some { g with state := 4 })) where
  timeouts := rfl
  events := fun _ he => he
  gens := fun j => by
    by_cases hj : j = n
    · exact Or.inr ⟨g, hj ▸ h, by rw [hj, s.gen_setGen_same]⟩
    · exact Or.inl (s.gen_setGen_other _ hj)

/-- A generation marked LOST, with its record; a lost partner copy asks for a renewal. -/
def State.markLost (s : State) (n : Nat) (g : Gen) : State :=
  let s0 := (s.setGen n (some { g with state := 4 })).secRecord 5 0 g.layer g.coFed 0 g.step g.wtc 0
  { s0 with sec := { s0.sec with renewal := s0.sec.renewal || decide (g.layer = 1) } }

/-- The generation that a trickle from generation `n` was writing is lost with it. -/
def State.loseDst (n : Nat) (u : State) (t : Trickle) : State :=
  match u.gen t.dst with
  | some d => ({ u with sec := { u.sec with trickles := u.sec.trickles.filter (fun x => decide (x.src ≠ n)) } }.setGen t.dst
      (some { d with state := 4 })).secRecord 5 0 d.layer d.coFed 0 d.step d.wtc 0
  | none => u

/-- A generation that is not lost or void yet is marked, and those that trickles from it write are lost. -/
theorem State.loseGen_eq (s : State) {n : Nat} {g : Gen} (h : s.gen n = some g) (hst : ¬ (g.state = 4 ∨ g.state = 3)) :
    s.loseGen n = ((s.markLost n g).sec.trickles.filter (fun t => decide (t.src = n))).foldl (State.loseDst n) (s.markLost n g) := by
  unfold State.loseGen
  rw [h]
  dsimp only
  rw [if_neg hst]
  rfl

theorem State.losesAtMost_markLost (s : State) {n : Nat} {g : Gen} (h : s.gen n = some g) : LosesAtMost s (s.markLost n g) :=
  ((s.losesAtMost_setGen h).trans (State.losesAtMost_secRecord _ 5 0 g.layer g.coFed 0 g.step g.wtc 0)).then_same

theorem State.gen_markLost (s : State) (n : Nat) (g : Gen) : (s.markLost n g).gen n = some { g with state := 4 } :=
  s.gen_setGen_same n _

theorem State.losesAtMost_loseDst (n : Nat) (s : State) (t : Trickle) : LosesAtMost s (s.loseDst n t) := by
  unfold State.loseDst
  split
  · rename_i d hd
    have hdst := State.losesAtMost_setGen (s := { s with sec := { s.sec with trickles := s.sec.trickles.filter (fun x => decide (x.src ≠ n)) } }) hd
    exact (hdst.after_same (s := s)).trans (State.losesAtMost_secRecord _ _ _ _ _ _ _ _ _)
  · exact .refl s

/-- A generation that is not being written stays so. -/
theorem LosesAtMost.not_writing {s t : State} (h : LosesAtMost s t) {j : Nat} (hj : ∀ x, s.gen j = some x → x.state ≠ 1) :
    ∀ x, t.gen j = some x → x.state ≠ 1 := by
  intro x hx
  rcases h.gens j with he | ⟨g, -, he⟩
  · exact hj x (he ▸ hx)
  · rw [he] at hx
    cases hx
    exact (by decide : (4 : Nat) ≠ 1)

/-- A generation that is lost, and one that was lost or void before, is being written no more. -/
theorem State.loseGen_spec (s : State) (n : Nat) :
    LosesAtMost s (s.loseGen n) ∧ ∀ x, (s.loseGen n).gen n = some x → x.state ≠ 1 := by
  cases hg : s.gen n with
  | none =>
    have hid : s.loseGen n = s := by rw [State.loseGen, hg]
    rw [hid]
    exact ⟨.refl s, fun x hx => by rw [hg] at hx; cases hx⟩
  | some g =>
    by_cases hst : g.state = 4 ∨ g.state = 3
    · have hid : s.loseGen n = s := by simp only [State.loseGen, hg, if_pos hst]
      rw [hid]
      exact ⟨.refl s, fun x hx => by rw [hg] at hx; cases hx; omega⟩
    · have hdsts := LosesAtMost.foldl (State.losesAtMost_loseDst n) ((s.markLost n g).sec.trickles.filter (fun t => decide (t.src = n))) (s.markLost n g)
      rw [s.loseGen_eq hg hst]
      refine ⟨(s.losesAtMost_markLost hg).trans hdsts, hdsts.not_writing (fun x hx => ?_)⟩
      rw [s.gen_markLost n g] at hx
      cases hx
      exact (by decide : (4 : Nat) ≠ 1)

theorem State.mem_genList (s : State) (j : Nat) (g : Gen) : (j, g) ∈ s.genList ↔ j < 12 ∧ s.gen j = some g := by
  simp only [State.genList, List.mem_filterMap, List.mem_range, Option.map_eq_some_iff]
  constructor
  · rintro ⟨n, hn, x, hx, he⟩
    cases he
    exact ⟨hn, hx⟩
  · rintro ⟨hj, hg⟩
    exact ⟨j, hj, g, hg, rfl⟩

/-- The trickle into a generation stops, and the generation is lost. -/
def State.stopWriting (t : State) (g : Nat × Gen) : State :=
  ({ t with sec := { t.sec with trickles := t.sec.trickles.filter (fun x => decide (x.dst ≠ g.1)) } }).loseGen g.1

theorem State.stopWriting_spec (t : State) (g : Nat × Gen) :
    LosesAtMost t (t.stopWriting g) ∧ ∀ x, (t.stopWriting g).gen g.1 = some x → x.state ≠ 1 :=
  have h := State.loseGen_spec { t with sec := { t.sec with trickles := t.sec.trickles.filter (fun x => decide (x.dst ≠ g.1)) } } g.1
  ⟨h.1.after_same, h.2⟩

theorem State.foldl_stopWriting (l : List (Nat × Gen)) (s : State) :
    LosesAtMost s (l.foldl State.stopWriting s) ∧ ∀ g ∈ l, ∀ x, (l.foldl State.stopWriting s).gen g.1 = some x → x.state ≠ 1 := by
  induction l generalizing s with
  | nil => exact ⟨.refl s, by simp⟩
  | cons y l ih =>
    obtain ⟨hy, hstop⟩ := s.stopWriting_spec y
    obtain ⟨hl, hrest⟩ := ih (s.stopWriting y)
    refine ⟨hy.trans hl, fun g hg => ?_⟩
    rcases List.mem_cons.mp hg with rfl | hg
    · exact hl.not_writing hstop
    · exact hrest g hg

/-- The layer writes nothing any more that has not committed, and what else changes is as `LosesAtMost` says. -/
theorem State.failWriting_spec (s : State) (layer : Nat) :
    LosesAtMost s (s.failWriting layer) ∧
    ∀ j x, j < 12 → (s.failWriting layer).gen j = some x → x.layer = layer → x.state = 1 → x.committed = true := by
  have hfold : s.failWriting layer = ((s.genList.filter (fun g => decide (g.2.layer = layer ∧ g.2.state = 1) && !g.2.committed)).foldl
    State.stopWriting s).captureWithout layer := rfl
  obtain ⟨hl, hstop⟩ := s.foldl_stopWriting (s.genList.filter (fun g => decide (g.2.layer = layer ∧ g.2.state = 1) && !g.2.committed))
  have hall := hl.trans (State.losesAtMost_captureWithout _ layer)
  rw [hfold]
  refine ⟨hall, fun j x hj hx hlayer hst => ?_⟩
  by_contra hc
  have hs : s.gen j = some x := by
    rcases hall.gens j with he | ⟨g, -, he⟩
    · exact he ▸ hx
    · rw [he] at hx
      cases hx
      exact absurd hst (by decide : (4 : Nat) ≠ 1)
  have hmem : (j, x) ∈ s.genList.filter (fun g => decide (g.2.layer = layer ∧ g.2.state = 1) && !g.2.committed) := by
    rw [List.mem_filter]
    exact ⟨(s.mem_genList j x).mpr ⟨hj, hs⟩, by simp [hlayer, hst, hc]⟩
  exact (State.losesAtMost_captureWithout _ layer).not_writing (hstop (j, x) hmem) x hx hst

end Sys2Proof.Machine
end

section
/-! Copies of a generation (R231, R232, R239 to R242, R330): records, commits, drives and closing messages, and the settlement of O49. -/

namespace Sys2Proof.Machine

/-! ### Records and commits -/

/-- A securing record (R255): it stands in KPR_SEC_LAST with its TYPE, and goes out with an event of class 10. -/
theorem State.secRecord_spec (s : State) (ty reason layer : Nat) (coFed : Bool) (dur step wtc hold : Nat) :
    let t := s.secRecord ty reason layer coFed dur step wtc hold
    t = { s with regs := t.regs, events := t.events } ∧ SameRegs s t [(.kprSecLastRecord, 0)] ∧
      bits (t.rf .kprSecLastRecord 0) 4 4 = ty % 2 ^ 4 ∧ ∃ acts, Raised s t 10 0 acts := by
  refine ⟨rfl, s.sameRegs_put _ (List.mem_singleton.mpr rfl), ?_, _, rfl⟩
  set fields := [(8, 3, reason), (11, 2, layer), (13, 1, bit coFed), (16, 15, s.holder), (32, 32, dur), (64, 64, step), (128, 64, wtc),
    (192, 32, hold)] with hfields
  have hreg : (s.secRecord ty reason layer coFed dur step wtc hold).rf .kprSecLastRecord 0 =
      withCrc16 30 (pack ([(0, 4, 1)] ++ (4, 4, ty) :: fields)) % 2 ^ 256 := s.rf_put_same .kprSecLastRecord 0 _
  rw [hreg, bits_mod_two_pow _ (by decide), bits_withCrc16 30 _ (by decide)]
  exact bits_pack_field _ _ 4 4 ty (by simp [hfields])

theorem State.commitGen_store (s : State) {n : Nat} {g : Gen} (hl : g.layer = 3) :
    s.commitGen n g g.content g.hold =
      ({ s with out := .storeHeader (genHeader { g with state := 2 }) :: s.out }.setGen n (some { g with committed := true })).secRecord
        1 g.reason g.layer g.coFed (s.now - g.boundaryAt) g.step g.wtc g.hold := by
  have hheader : s.writeHeader { g with content := g.content } 2 =
      { s with out := .storeHeader (genHeader { g with state := 2 }) :: s.out } := by
    simp [State.writeHeader, hl]
  rw [State.commitGen, hheader]

theorem State.trickleCommit_store (s : State) {tr : Trickle} {g : Gen} (ht : s.sec.trickles = [tr]) (hg : s.gen tr.dst = some g)
    (hl : g.layer = 3) (hst : g.started = true) :
    s.trickleCommit 3 = { s with sec := { s.sec with trickles := [] } }.commitGen tr.dst g g.content g.hold := by
  simp [State.trickleCommit, ht, hg, hl, hst]

/-- A trickle to the shared store commits: its header is written, its generation committed, and its record made. -/
theorem State.trickleCommit_store_spec (s : State) {tr : Trickle} {g : Gen} (ht : s.sec.trickles = [tr]) (hg : s.gen tr.dst = some g)
    (hl : g.layer = 3) (hst : g.started = true) :
    let t := s.trickleCommit 3
    t.sec.trickles = [] ∧ t.gen tr.dst = some { g with committed := true } ∧ t.out = .storeHeader (genHeader { g with state := 2 }) :: s.out ∧
      (∀ j, j ≠ tr.dst → t.gen j = s.gen j) ∧ SameRegs s t [(.kprSecLastRecord, 0)] ∧ bits (t.rf .kprSecLastRecord 0) 4 4 = 1 ∧
      ∃ acts, Raised s t 10 0 acts := by
  dsimp only
  rw [s.trickleCommit_store ht hg hl hst, State.commitGen_store _ hl]
  set u : State := { s with sec := { s.sec with trickles := [] }, out := .storeHeader (genHeader { g with state := 2 }) :: s.out } with hu
  obtain ⟨-, hsame, hty, hev⟩ := (u.setGen tr.dst (some { g with committed := true })).secRecord_spec
    1 g.reason g.layer g.coFed (s.now - g.boundaryAt) g.step g.wtc g.hold
  exact ⟨rfl, u.gen_setGen_same tr.dst _, rfl, fun j hj => u.gen_setGen_other _ hj, (SameRegs.of_regs_eq _ rfl).trans hsame, hty, hev⟩

/-- A trickle whose transfer has not begun commits on no layer. -/
theorem State.trickleCommit_waiting (s : State) {tr : Trickle} {g : Gen} (layer : Nat) (ht : s.sec.trickles = [tr])
    (hg : s.gen tr.dst = some g) (hst : g.started = false) : s.trickleCommit layer = s := by
  simp [State.trickleCommit, ht, hg, hst]

theorem State.copyCommit_none (s : State) (layer : Nat) (h : s.sec.capture = none) : s.copyCommit layer = s := by
  rw [State.copyCommit, h]

theorem State.copyValid_eq (s : State) {n : Nat} {g : Gen} (hg : s.gen n = some g) (hst : g.state = 1) (hc : g.committed = true) :
    s.copyValid n = if g.wtc + s.validDelay ≤ s.wtc then s.setGen n (some { g with state := 2 }) else s := by
  simp [State.copyValid, hg, hst, hc]

/-! ### The bound of a layer -/

/-- With no hold and no rollback, a layer within its bound goes on, and one past it is counted and fails. -/
theorem State.securingTimeout_eq (s : State) (layer : Nat) (hh : s.rf .kprMonStatusHold 0 = 0) (hr : s.sec.rollback = none) :
    s.securingTimeout layer = if (s.layerSince layer).any (fun t => decide (t + s.secTimeout layer ≤ s.now)) then
      ((s.bump .kprCmdTimeoutsCount 0 .kprHangStatusCountSat 0 1).sample 7 locKeeper [.log]).failWriting layer else s := by
  have hreload : s.reloadSince layer = none := by rw [State.reloadSince, hr]
  simp [State.securingTimeout, hh, hreload]

theorem State.securingTimeout_late (s : State) (layer : Nat) {t0 : Nat} (hh : s.rf .kprMonStatusHold 0 = 0) (hr : s.sec.rollback = none)
    (hs : s.layerSince layer = some t0) (hl : t0 + s.secTimeout layer ≤ s.now)
    (hc : s.rf .kprCmdTimeoutsCount 0 + 1 < 2 ^ RF.kprCmdTimeoutsCount.spec.width) :
    let t := s.securingTimeout layer
    t.rf .kprCmdTimeoutsCount 0 = s.rf .kprCmdTimeoutsCount 0 + 1 ∧ (∃ e ∈ t.events, e.cls = 7 ∧ e.tick = s.now) ∧
      ∀ j x, j < 12 → t.gen j = some x → x.layer = layer → x.state = 1 → x.committed = true := by
  dsimp only
  rw [s.securingTimeout_eq layer hh hr, hs, Option.any_some, if_pos (decide_eq_true hl), State.bump, State.bumpBy, if_pos hc]
  obtain ⟨hfail, hlayer⟩ := (((s.put .kprCmdTimeoutsCount 0 (s.rf .kprCmdTimeoutsCount 0 + 1)).sample 7 locKeeper [.log])).failWriting_spec layer
  refine ⟨hfail.timeouts.trans ?_, ⟨⟨7, locKeeper, s.now, [.log]⟩, hfail.events _ (List.mem_append_right _ (List.mem_singleton.mpr rfl)),
    rfl, rfl⟩, hlayer⟩
  exact (s.rf_put_same .kprCmdTimeoutsCount 0 _).trans (Nat.mod_eq_of_lt hc)

/-! ### Drives that fail -/

theorem State.genList_nil (s : State) (h : s.sec.gens = []) : s.genList = [] := by
  simp [State.genList, State.gen, h, Tab.get]

/-- A directory that holds one generation. -/
theorem State.genList_singleton (s : State) {n : Fin 12} {g : Gen} (h : s.sec.gens = [(n.val, some g)]) : s.genList = [(n.val, g)] := by
  have hgen : ∀ j, s.gen j = if j = n.val then some g else none := fun j => by
    rw [State.gen, h, Tab.get, Tab.get]
    split
    · rw [if_neg (by omega)]
    · rfl
  have hentry : (fun j => (s.gen j).map (fun x => (j, x))) = fun j => if j = n.val then some (n.val, g) else none := by
    funext j
    rw [hgen]
    by_cases hj : j = n.val <;> simp [hj]
  rw [State.genList, hentry]
  fin_cases n <;> rfl

/-- The drive leaves DRIVES_OK, and its failure is a class 6 event. -/
def State.driveOut (s : State) (d : Nat) : State :=
  ({ s with sec := { s.sec with drives := Tab.set (fun _ => (0, 0)) s.sec.drives d (0, 0) } }.put .kprSecStatusDrivesOk 0
    (s.drivesOk - 2 ^ d)).sample 6 locKeeper [.log]

theorem State.driveOut_spec (s : State) {d : Nat} (hw : s.rf .kprSecStatusDrivesOk 0 < 2 ^ 16) (hd : s.drivesOk.testBit d = true) :
    let t := s.driveOut d
    t = { s with regs := t.regs, events := t.events, sec := { s.sec with drives := t.sec.drives } } ∧
      SameRegs s t [(.kprSecStatusDrivesOk, 0)] ∧ t.drivesOk.testBit d = false ∧
      (∀ j, j ≠ d → t.drivesOk.testBit j = s.drivesOk.testBit j) ∧ Raised s t 6 0 [.log] := by
  have hmask : (s.driveOut d).drivesOk = s.drivesOk - 2 ^ d := by
    have hput : (s.driveOut d).drivesOk = (s.drivesOk - 2 ^ d) % 2 ^ 16 := s.rf_put_same .kprSecStatusDrivesOk 0 _
    have hlt : s.drivesOk < 2 ^ 16 := hw
    rw [hput, Nat.mod_eq_of_lt (lt_of_le_of_lt (Nat.sub_le _ _) hlt)]
  refine ⟨rfl, s.sameRegs_put _ (List.mem_singleton.mpr rfl), ?_, fun j hj => ?_, rfl⟩
  · rw [hmask, testBit_sub_two_pow hd]
    simp
  · rw [hmask, testBit_sub_two_pow hd]
    simp [hj]

/-- The flash copies that span a drive. -/
def State.copiesOn (s : State) (d : Nat) : List (Nat × Gen) :=
  s.genList.filter (fun g => decide (g.2.layer = 2) && g.2.drives.testBit d)

/-- A working drive fails: it is out, a reload or a write that uses a copy on it fails, and every copy on it is lost. -/
theorem State.driveFailure_eq (s : State) {d : Nat} (hd : s.drivesOk.testBit d = true) :
    s.driveFailure d =
      (let s1 := s.driveOut d
       let s2 := if s1.sec.rollback.any (fun r => decide (r.phase = 2) && (s1.copiesOn d).any (fun g => decide (r.gen = some g.1))) then
         s1.reloadFail else s1
       let s3 := if (s1.copiesOn d).any (fun g => decide (g.2.state = 1) && !g.2.committed) then s2.failWriting 2 else s2
       if (s1.copiesOn d).isEmpty then s1 else ((s1.copiesOn d).foldl (fun t g => t.loseGen g.1) s3).noSource) := by
  rw [State.driveFailure, if_pos hd]
  rfl

/-- With no copy on it, nothing else comes of a drive's failure. -/
theorem State.driveFailure_empty (s : State) {d : Nat} (hd : s.drivesOk.testBit d = true) (hg : s.sec.gens = []) :
    s.driveFailure d = s.driveOut d := by
  have hon : (s.driveOut d).copiesOn d = [] := by
    rw [State.copiesOn, State.genList_nil (s.driveOut d) hg, List.filter_nil]
  simp [s.driveFailure_eq hd, hon]

/-- A VALID copy on the drive, which no reload reads, is lost with it. -/
theorem State.driveFailure_valid (s : State) {d : Nat} {n : Fin 12} {g : Gen} (hd : s.drivesOk.testBit d = true)
    (hg : s.sec.gens = [(n.val, some g)]) (hl : g.layer = 2) (hdr : g.drives.testBit d = true) (hst : g.state = 2)
    (hr : s.sec.rollback = none) : s.driveFailure d = ((s.driveOut d).loseGen n.val).noSource := by
  have hon : (s.driveOut d).copiesOn d = [(n.val, g)] := by
    rw [State.copiesOn, State.genList_singleton (s.driveOut d) hg]
    simp [hl, hdr]
  have hroll : (s.driveOut d).sec.rollback = none := hr
  simp [s.driveFailure_eq hd, hon, hroll, hst]

theorem State.noSource_no_regrows (s : State) (h : s.regrows = []) : s.noSource = s := by
  simp [State.noSource, h, State.escalateAll]

/-- With no trickle, a generation that is lost is marked and nothing more. -/
theorem State.loseGen_no_trickles (s : State) {n : Nat} {g : Gen} (h : s.gen n = some g) (hst : ¬ (g.state = 4 ∨ g.state = 3))
    (ht : s.sec.trickles = []) : s.loseGen n = s.markLost n g := by
  have hnone : (s.markLost n g).sec.trickles = [] := ht
  rw [s.loseGen_eq h hst, hnone]
  rfl

/-! ### Drives that come up -/

/-- Drives that do not fit are struck off, and no other. -/
theorem State.fitDrives_eq_filter (s : State) (bytes n : Nat) (l : List Nat) : ∃ p, s.fitDrives bytes n l = l.filter p := by
  induction n generalizing l with
  | zero => exact ⟨fun _ => true, by simp [State.fitDrives]⟩
  | succ n ih =>
    rw [State.fitDrives]
    obtain ⟨p, hp⟩ := ih (l.filter (fun d => decide (s.layerLimit 2 * (slotBlocks bytes l.length + 1) ≤ (Tab.get (fun _ => (0, 0)) s.sec.drives d).2)))
    exact ⟨_, hp.trans (List.filter_filter ..)⟩

/-- A drive alone fits or does not. -/
theorem State.fitDrives_one (s : State) (bytes n d : Nat) :
    s.fitDrives bytes (n + 1) [d] =
      if s.layerLimit 2 * (slotBlocks bytes 1 + 1) ≤ (Tab.get (fun _ => (0, 0)) s.sec.drives d).2 then [d] else [] := by
  have hnil : ∀ m, s.fitDrives bytes m [] = [] := fun m => by
    induction m with
    | zero => rfl
    | succ m ih => rw [State.fitDrives, List.filter_nil, ih]
  induction n with
  | zero => simp [State.fitDrives, List.filter_cons]
  | succ n ih =>
    rw [State.fitDrives]
    by_cases h : s.layerLimit 2 * (slotBlocks bytes 1 + 1) ≤ (Tab.get (fun _ => (0, 0)) s.sec.drives d).2
    · simp only [List.filter_cons, List.length_singleton, h, decide_true, if_true, List.filter_nil]
      rw [ih, if_pos h]
    · simp only [List.filter_cons, List.length_singleton, h, decide_false, Bool.false_eq_true, if_false, List.filter_nil]
      exact hnil _

/-- DRIVES_OK as it is judged holds no drive with another block size. -/
theorem State.judgeDrives_testBit (s : State) {d : Nat} (h : (Tab.get (fun _ => (0, 0)) s.sec.drives d).1 ≠ 4096) :
    s.judgeDrives.drivesOk.testBit d = false := by
  obtain ⟨p, hp⟩ := s.fitDrives_eq_filter s.copyBytes 16
    ((List.range 16).filter (fun d => decide ((Tab.get (fun _ => (0, 0)) s.sec.drives d).1 = 4096)))
  have hok : s.judgeDrives.drivesOk = _ := s.rf_put_same .kprSecStatusDrivesOk 0 _
  rw [hok, hp, List.filter_filter, Nat.testBit_mod_two_pow, (foldl_two_pow_filter_range _ 16).2 d]
  simp [h]

/-- With one drive known, of blocks of 4,096 bytes, DRIVES_OK is that drive if its namespace has room. -/
theorem State.judgeDrives_one (s : State) {d : Fin 16} {blocks : Nat} (h : s.sec.drives = [(d.val, (4096, blocks))]) :
    s.judgeDrives.drivesOk = if s.layerLimit 2 * (slotBlocks s.copyBytes 1 + 1) ≤ blocks then 2 ^ d.val else 0 := by
  have hget : ∀ j, Tab.get (fun _ => (0, 0)) s.sec.drives j = if j = d.val then (4096, blocks) else (0, 0) := fun j => by
    rw [h, Tab.get, Tab.get]
    split
    · rw [if_neg (by omega)]
    · rfl
  have hone : ∀ m : Fin 16, (List.range 16).filter (fun j => decide (j = m.val)) = [m.val] := by decide
  have hup : (List.range 16).filter (fun j => decide ((Tab.get (fun _ => (0, 0)) s.sec.drives j).1 = 4096)) = [d.val] := by
    rw [← hone d]
    congr 1
    funext j
    rw [hget]
    by_cases hj : j = d.val <;> simp [hj]
  have hok : s.judgeDrives.drivesOk = _ := s.rf_put_same .kprSecStatusDrivesOk 0 _
  rw [hok, hup, s.fitDrives_one, hget, if_pos rfl]
  split
  · have hpow : 2 ^ d.val < 2 ^ 16 := Nat.pow_lt_pow_right (by decide) d.isLt
    simp only [List.map_cons, List.map_nil, List.foldl_cons, List.foldl_nil, Nat.zero_add]
    exact Nat.mod_eq_of_lt hpow
  · rfl

/-- What is known of a drive that has come up. -/
def State.driveFound (s : State) (d size blocks : Nat) : State :=
  { s with sec := { s.sec with drives := Tab.set (fun _ => (0, 0)) s.sec.drives d (size, blocks) } }

theorem State.driveFound_first (s : State) (d blocks : Nat) (h : s.sec.drives = []) :
    (s.driveFound d 4096 blocks).sec.drives = [(d, (4096, blocks))] := by
  simp [State.driveFound, h, Tab.set]

/-- A first drive works if its namespace has room. -/
theorem State.driveFound_drivesOk (s : State) (d : Fin 16) (blocks : Nat) (h : s.sec.drives = []) :
    (s.driveFound d.val 4096 blocks).judgeDrives.drivesOk =
      if s.layerLimit 2 * (slotBlocks s.copyBytes 1 + 1) ≤ blocks then 2 ^ d.val else 0 :=
  State.judgeDrives_one _ (s.driveFound_first d.val blocks h)

theorem State.portReady_eq (s : State) (d size blocks : Nat) (hs : List (Fin 4 × HeaderBytes)) :
    s.portReady d size blocks hs = if (s.driveFound d size blocks).judgeDrives.drivesOk.testBit d then
      hs.foldl (fun t h => t.adoptHeader h.1.val h.2.toNat) (s.driveFound d size blocks).judgeDrives
      else (s.driveFound d size blocks).judgeDrives := rfl

theorem State.portReady_no_headers (s : State) (d size blocks : Nat) :
    s.portReady d size blocks [] = (s.driveFound d size blocks).judgeDrives := by
  rw [s.portReady_eq, List.foldl_nil, ite_self]

/-- A header of a VALID flash copy takes the first entry of an empty directory. -/
theorem State.adoptHeader_first (s : State) (slot raw : Nat) {h : CopyHeader} (hg : s.sec.gens = []) (hr : readHeader raw = some h)
    (hst : h.state = 2) (hl : h.layer = 2) :
    (s.adoptHeader slot raw).gen 0 = some { headerGen h s.now with slot := slot } := by
  have hlist := s.genList_nil hg
  have hgen : (s.gen 0).isNone = true := by rw [State.gen, hg]; rfl
  have hslot : s.genSlot 2 = 0 := by
    have hroom : 0 < s.layerLimit 2 := Nat.succ_pos _
    have hfind : (List.range 12).find? (fun n => (s.gen n).isNone) = some 0 := by
      rw [List.range_succ_eq_map, List.find?_cons, hgen]
    simp [State.genSlot, hlist, hroom, hfind]
  have hadopt : s.adoptHeader slot raw = s.setGen 0 (some { headerGen h s.now with slot := slot }) := by
    simp [State.adoptHeader, hr, hst, hl, hlist, hslot]
  rw [hadopt, s.gen_setGen_same]

/-! ### Closing messages -/

/-- A message has a bad tag where the tag is not what the key, if there is one, makes of it. -/
theorem option_any_ne (key : Option Nat) (tag : Nat) (f : Nat → Nat) :
    key.any (fun k => decide (tag ≠ f k)) = !key.all (fun k => decide (tag = f k)) := by
  cases key <;> simp

/-- A message from a reserved source, or with a bad tag, is discarded and counted. -/
theorem State.closingMessage_discard (s : State) (k source fseq raw : Nat)
    (h : engineReserved source = true ∨ s.sec.clientKey.all (fun key => decide (bits raw 512 256 = hmacNat key (bytesOf raw 0 64))) = false) :
    s.closingMessage k source fseq raw = s.setWarden k { s.warden k with discards := (s.warden k).discards + 1 } := by
  rw [State.closingMessage, option_any_ne]
  rcases h with h | h <;> simp [h]

section
variable (s : State) (k source fseq raw : Nat) (hr : engineReserved source = false)
  (ht : s.sec.clientKey.all (fun key => decide (bits raw 512 256 = hmacNat key (bytesOf raw 0 64))) = true)
include hr ht

/-- The client's message is parked, and applied once its writes have landed. -/
theorem State.closingMessage_client {h : CopyHeader} (hv : s.rf .kprSecPairClientValid 0 = 1) (hc : s.rf .kprSecPairClient 0 = source)
    (hh : readHeader raw = some h) :
    s.closingMessage k source fseq raw =
      ({ s with sec := { s.sec with closings := s.sec.closings ++ [({ port := k, source := source, fseq := fseq, header := h } : Closing)] } }).applyClosings := by
  rw [State.closingMessage, option_any_ne, hr, ht, hh]
  simp [hv, hc]

/-- With no client no message is heard. -/
theorem State.closingMessage_no_client (hv : s.rf .kprSecPairClientValid 0 = 0) : s.closingMessage k source fseq raw = s := by
  rw [State.closingMessage, option_any_ne, hr, ht]
  cases readHeader raw <;> simp [hv]

end

/-- One message parked: it is applied and acknowledged if its writes have landed, and stays otherwise. -/
theorem State.applyClosings_one (s : State) {c : Closing} (hc : s.sec.closings = [c]) :
    s.applyClosings = if serialGe (s.landed c.port c.source) c.fseq then
      { s with sec := { s.sec with closings := [], held := some (headerGen c.header s.now) }, out := .closingAck c.port c.source :: s.out }
      else s := by
  rw [State.applyClosings, hc, List.foldl_cons, List.foldl_nil]
  simp [hc]

/-! ### The settlement -/

theorem copies_commit (s : State) (n : Fin 12) (g : Gen) (tr : Trickle) (layer : Layer) :
    (s.sec.trickles = [tr] → s.gen tr.dst = some g → g.layer = 3 → g.started = true → Completes (exec (.copyCommit .store true) s) (fun t =>
      t.sec.trickles = [] ∧ t.gen tr.dst = some { g with committed := true } ∧ t.out = .storeHeader (genHeader { g with state := 2 }) :: s.out ∧
      (∀ j, j ≠ tr.dst → t.gen j = s.gen j) ∧ SameRegs s t [(.kprSecLastRecord, 0)] ∧ bits (t.rf .kprSecLastRecord 0) 4 4 = 1 ∧ ∃ acts, Raised s t 10 0 acts)) ∧
    (s.sec.trickles = [tr] → s.gen tr.dst = some g → g.started = false → exec (.copyCommit layer true) s = .next s) ∧
    (s.sec.capture = none → exec (.copyCommit layer false) s = .next s) ∧
    (s.gen n.val = some g → g.state = 1 → g.committed = true →
      (g.wtc + s.validDelay ≤ s.wtc → exec (.copyValid n) s = .next (s.setGen n.val (some { g with state := 2 }))) ∧
      (s.wtc < g.wtc + s.validDelay → exec (.copyValid n) s = .next s)) := by
  have hcommit : ∀ b, exec (.copyCommit layer b) s =
      .next (if b then s.trickleCommit (layerCode layer) else s.copyCommit (layerCode layer)) := fun _ => rfl
  have hvalid : exec (.copyValid n) s = .next (s.copyValid n.val) := rfl
  refine ⟨fun ht hg hl hst => .of_next rfl (s.trickleCommit_store_spec ht hg hl hst), fun ht hg hst => ?_, fun hc => ?_,
    fun hg hst hc => ⟨fun h => ?_, fun h => ?_⟩⟩
  · rw [hcommit, if_pos rfl, s.trickleCommit_waiting _ ht hg hst]
  · rw [hcommit, if_neg Bool.false_ne_true, s.copyCommit_none _ hc]
  · rw [hvalid, s.copyValid_eq hg hst hc, if_pos h]
  · rw [hvalid, s.copyValid_eq hg hst hc, if_neg (by omega)]

theorem drive_fails (s : State) (n : Fin 12) (g : Gen) (d : Fin 16) (hw : s.rf .kprSecStatusDrivesOk 0 < 2 ^ 16) :
    (s.drivesOk.testBit d.val = false → exec (.driveFailure d) s = .next s) ∧
    (s.drivesOk.testBit d.val = true → s.sec.gens = [] → Completes (exec (.driveFailure d) s) (fun t =>
      t = { s with regs := t.regs, events := t.events, sec := { s.sec with drives := t.sec.drives } } ∧
      SameRegs s t [(.kprSecStatusDrivesOk, 0)] ∧ t.drivesOk.testBit d.val = false ∧
      (∀ j, j ≠ d.val → t.drivesOk.testBit j = s.drivesOk.testBit j) ∧ Raised s t 6 0 [.log])) ∧
    (s.drivesOk.testBit d.val = true → s.sec.gens = [(n.val, some g)] → g.layer = 2 → g.drives.testBit d.val = true → g.state = 2 →
      s.sec.rollback = none → s.sec.trickles = [] → s.regrows = [] → Completes (exec (.driveFailure d) s) (fun t => t.drivesOk.testBit d.val = false ∧
        t.gen n.val = some { g with state := 4 })) := by
  have hexec : exec (.driveFailure d) s = .next (s.driveFailure d.val) := rfl
  refine ⟨fun hd => ?_, fun hd hg => .of_next hexec ?_, fun hd hg hl hdr hst hr ht hrg => .of_next hexec ?_⟩
  · rw [hexec, State.driveFailure, if_neg (by rw [hd]; exact Bool.false_ne_true)]
  · rw [s.driveFailure_empty hd hg]
    exact s.driveOut_spec hw hd
  · obtain ⟨-, -, hout, -, -⟩ := s.driveOut_spec hw hd
    have hgen : (s.driveOut d.val).gen n.val = some g := by
      show s.gen n.val = some g
      rw [State.gen, hg, Tab.get, if_neg (lt_irrefl _), if_pos rfl]
    have hlost : (s.driveOut d.val).loseGen n.val = (s.driveOut d.val).markLost n.val g :=
      State.loseGen_no_trickles _ hgen (by omega) ht
    have hregrows : ((s.driveOut d.val).markLost n.val g).regrows = [] := hrg
    rw [s.driveFailure_valid hd hg hl hdr hst hr, hlost, State.noSource_no_regrows _ hregrows]
    obtain ⟨-, hsame, -, -⟩ := ((s.driveOut d.val).setGen n.val (some { g with state := 4 })).secRecord_spec
      5 0 g.layer g.coFed 0 g.step g.wtc 0
    refine ⟨?_, State.gen_markLost _ _ _⟩
    have hdrives : ((s.driveOut d.val).markLost n.val g).drivesOk = (s.driveOut d.val).drivesOk :=
      hsame .kprSecStatusDrivesOk 0 (by simp)
    rw [hdrives, hout]

theorem drive_ready (s : State) (d : Fin 16) (size blocks : Nat) (hb : HeaderBytes) (h : CopyHeader) (place : Fin 4) :
    Completes (exec (.storagePortReady d ⟨size, blocks, []⟩) s) (fun t =>
      t = { s with regs := t.regs, sec := { s.sec with drives := t.sec.drives } } ∧ SameRegs s t [(.kprSecStatusDrivesOk, 0)] ∧
      (size ≠ 4096 → t.drivesOk.testBit d.val = false) ∧
      (s.sec.drives = [] → size = 4096 → t.drivesOk = (if s.layerLimit 2 * (slotBlocks s.copyBytes 1 + 1) ≤ blocks then 2 ^ d.val else 0))) ∧
    (s.sec.gens = [] → s.sec.drives = [] → s.layerLimit 2 * (slotBlocks s.copyBytes 1 + 1) ≤ blocks → readHeader hb.toNat = some h → h.state = 2 →
      h.layer = 2 → Completes (exec (.storagePortReady d ⟨4096, blocks, [(place, hb)]⟩) s) (fun t =>
      ∃ x, t.gen 0 = some x ∧ x.layer = 2 ∧ x.state = 2 ∧ x.step = h.step ∧ x.wtc = h.boundaryWtc ∧ x.committed = true ∧ x.slot = place.val)) := by
  refine ⟨.of_next (t := s.portReady d.val size blocks []) rfl ?_, fun hg hd hfit hr hst hl =>
    .of_next (t := s.portReady d.val 4096 blocks [(place, hb)]) rfl ?_⟩
  · rw [s.portReady_no_headers]
    refine ⟨rfl, s.sameRegs_put _ (List.mem_singleton.mpr rfl), fun hsize => State.judgeDrives_testBit _ ?_, fun hd hsize => ?_⟩
    · rw [show Tab.get (fun _ => (0, 0)) (s.driveFound d.val size blocks).sec.drives d.val = (size, blocks) from Tab.get_set_same _ _ _ _]
      exact hsize
    · rw [hsize, s.driveFound_drivesOk d blocks hd]
  · have hok : (s.driveFound d.val 4096 blocks).judgeDrives.drivesOk.testBit d.val = true := by
      rw [s.driveFound_drivesOk d blocks hd, if_pos hfit, Nat.testBit_two_pow_self]
    rw [s.portReady_eq, if_pos hok, List.foldl_cons, List.foldl_nil]
    exact ⟨_, State.adoptHeader_first _ place.val hb.toNat hg hr hst hl, hl, hst, rfl, rfl, rfl, rfl⟩

theorem closing_messages (s : State) (k : Fin 16) (h : CopyHeader) (source : BitVec 15) (fseq : BitVec 32) (message : ClosingBytes) :
    let raw := message.toNat
    let tagged := s.sec.clientKey.all (fun key => decide (bits raw 512 256 = hmacNat key (bytesOf raw 0 64)))
    (engineReserved source.toNat = true ∨ tagged = false → Completes (exec (.holderClosingMessage k source fseq message) s) (fun t =>
      t = { s with wardens := t.wardens } ∧ SameWardens s t k.val ∧
      t.warden k.val = { s.warden k.val with discards := (s.warden k.val).discards + 1 })) ∧
    (engineReserved source.toNat = false → tagged = true → s.sec.closings = [] →
     (s.rf .kprSecPairClientValid 0 = 1 → s.rf .kprSecPairClient 0 = source.toNat → readHeader raw = some h →
       (serialGe (s.landed k.val source.toNat) fseq.toNat = true → exec (.holderClosingMessage k source fseq message) s = .next { s with
         sec := { s.sec with held := some (headerGen h s.now) }, out := .closingAck k.val source.toNat :: s.out }) ∧
       (serialGe (s.landed k.val source.toNat) fseq.toNat = false → exec (.holderClosingMessage k source fseq message) s = .next { s with
         sec := { s.sec with closings := [⟨k.val, source.toNat, fseq.toNat, h⟩] } })) ∧
     (s.rf .kprSecPairClientValid 0 = 0 → exec (.holderClosingMessage k source fseq message) s = .next s)) := by
  intro raw tagged
  have hexec : exec (.holderClosingMessage k source fseq message) s = .next (s.closingMessage k.val source.toNat fseq.toNat raw) := rfl
  refine ⟨fun hbad => .of_next hexec ?_, fun hr ht hclosings => ⟨fun hv hc hh => ?_, fun hv => ?_⟩⟩
  · rw [s.closingMessage_discard _ _ _ _ hbad]
    exact ⟨rfl, fun j hj => s.warden_setWarden_other _ _ _ hj, s.warden_setWarden_same _ _⟩
  · rw [hexec, s.closingMessage_client _ _ _ _ hr ht hv hc hh, hclosings, List.nil_append, State.applyClosings_one _ rfl]
    refine ⟨fun hland => ?_, fun hland => ?_⟩
    · exact congrArg Host.Outcome.next ((if_pos hland).trans (by rw [← hclosings]))
    · exact congrArg Host.Outcome.next (if_neg (Bool.eq_false_iff.mp hland))
  · rw [hexec, s.closingMessage_no_client _ _ _ _ hr ht hv]

/-- Settles O49: commits, the bound of a layer, drives that fail and come up, and closing messages, a theorem for each. -/
theorem copiesCommitAndFail : Obligations.CopiesCommitAndFail := by
  unfold Obligations.CopiesCommitAndFail
  intro s n g tr t0 blocks size layer d k hb h place source fseq message
  obtain ⟨hstore, hwaiting, hcapture, hvalid⟩ := copies_commit s n g tr layer
  obtain ⟨hfound, hadopted⟩ := drive_ready s d size blocks hb h place
  have htimeout : exec (.securingTimeout layer) s = .next (s.securingTimeout (layerCode layer)) := rfl
  refine ⟨fun _ => hstore, fun _ => hwaiting, hcapture, hvalid, fun hh hr => ⟨fun hs => ?_, fun hs hl hc =>
    .of_next htimeout (s.securingTimeout_late _ hh hr hs hl hc)⟩, fun hw => ?_, closing_messages s k h source fseq message⟩
  · rw [htimeout, s.securingTimeout_eq _ hh hr, hs]
    rfl
  · obtain ⟨hout, hempty, hlost⟩ := drive_fails s n g d hw
    exact ⟨hout, hempty, hlost, hfound, hadopted⟩

end Sys2Proof.Machine
end

section
/-! The queue and the fuses through every function of the model: `State.foo_keeps` says that `State.foo` leaves both alone, in the
order of the model's files. -/

namespace Sys2Proof.Machine

/-- The queue and the fuses of `t` are those of `s`: what every command but FUSE_BLOW leaves alone. -/
@[simp, reducible] def Keeps (s t : State) : Prop := t.pending = s.pending ∧ t.fuses = s.fuses

theorem Keeps.refl (s : State) : Keeps s s := ⟨rfl, rfl⟩

theorem Keeps.trans {s t u : State} (h : Keeps s t) (h' : Keeps t u) : Keeps s u := ⟨h'.1.trans h.1, h'.2.trans h.2⟩

@[simp] theorem State.pending_ite (c : Prop) [Decidable c] (s t : State) :
    (if c then s else t).pending = if c then s.pending else t.pending := apply_ite _ _ _ _

@[simp] theorem State.fuses_ite (c : Prop) [Decidable c] (s t : State) :
    (if c then s else t).fuses = if c then s.fuses else t.fuses := apply_ite _ _ _ _

/-- A choice keeps what both of its branches keep. -/
theorem Keeps.ite {s t u : State} {c : Prop} [Decidable c] (ht : Keeps s t) (hu : Keeps s u) :
    Keeps s (if c then t else u) := by
  split
  · exact ht
  · exact hu

/-- A fold keeps what its step keeps. -/
@[simp] theorem State.foldl_keeps {α : Type} {f : State → α → State} (h : ∀ s a, Keeps s (f s a)) (l : List α) (s : State) :
    Keeps s (l.foldl f s) := by
  induction l generalizing s with
  | nil => exact Keeps.refl s
  | cons a l ih => exact (h s a).trans (ih _)

/-- As `State.foldl_keeps`, for a fold that gathers a value beside the state. -/
@[simp] theorem State.foldl_snd_keeps {α β : Type} {f : β × State → α → β × State} (h : ∀ p a, Keeps p.2 (f p a).2) (l : List α)
    (p : β × State) : Keeps p.2 (l.foldl f p).2 := by
  induction l generalizing p with
  | nil => exact Keeps.refl p.2
  | cons a l ih => exact (h p a).trans (ih _)

/-- A state that may be missing, with one that stands in for it. -/
theorem Option.getD_keeps {s t : State} {o : Option State} (h : ∀ u, o = some u → Keeps s u) (ht : Keeps s t) :
    Keeps s (o.getD t) := by
  cases o with
  | none => exact ht
  | some u => exact h u rfl

/-! ### Ops -/

@[simp] theorem State.put_keeps (s : State) (F : RF) (i v : Nat) : Keeps s (s.put F i v) := ⟨rfl, rfl⟩
@[simp] theorem State.puts_keeps (s : State) (l : List (RF × Nat × Nat)) : Keeps s (s.puts l) := by simp
@[simp] theorem State.bumpBy_keeps (s : State) (F : RF) (i n : Nat) (G : RF) (j m : Nat) :
    Keeps s (s.bumpBy F i n G j m) := by
  simp [State.bumpBy]
@[simp] theorem State.bump_keeps (s : State) (F : RF) (i : Nat) (G : RF) (j m : Nat) : Keeps s (s.bump F i G j m) := by
  simp [State.bump]
@[simp] theorem State.resetRegs_keeps (s : State) (p : RF → Nat → Bool) : Keeps s (s.resetRegs p) := ⟨rfl, rfl⟩
@[simp] theorem State.free_keeps (s : State) : Keeps s (s.free).2 := ⟨rfl, rfl⟩
@[simp] theorem State.setDom_keeps (s : State) (d : Domain) (v : Nat) : Keeps s (s.setDom d v) := by
  unfold State.setDom
  split <;> simp
@[simp] theorem State.setDomPending_keeps (s : State) (d : Domain) (v : Nat) : Keeps s (s.setDomPending d v) := by
  unfold State.setDomPending
  split <;> simp
@[simp] theorem State.setDomInfo_keeps (s : State) (d : Domain) (x : Dom) : Keeps s (s.setDomInfo d x) := ⟨rfl, rfl⟩
@[simp] theorem State.sendMsg_keeps (s : State) (cls code units cid status payload : Nat) :
    Keeps s (s.sendMsg cls code units cid status payload) := by
  simp [State.sendMsg]
@[simp] theorem State.croak_keeps (s : State) (code units payload : Nat) : Keeps s (s.croak code units payload) := by
  simp [State.croak]
@[simp] theorem State.setTaken_keeps (s : State) (l : List Taken) : Keeps s (s.setTaken l) := ⟨rfl, rfl⟩
@[simp] theorem State.respond_keeps (s : State) (opcode cid status units payload : Nat) :
    Keeps s (s.respond opcode cid status units payload) := by
  simp [State.respond]
@[simp] theorem State.rejectBusy_keeps (s : State) (opcode cid seq : Nat) : Keeps s (s.rejectBusy opcode cid seq) := by
  simp [State.rejectBusy]
@[simp] theorem State.asHost_keeps (s : State) (opcode cid : Nat) (f : State → State) (h : ∀ t, Keeps t (f t)) :
    Keeps s (s.asHost opcode cid f) := by
  rw [State.asHost]
  refine Keeps.ite (s.bump_keeps _ _ _ _ _) (Keeps.ite ?_ (Keeps.ite (s.rejectBusy_keeps _ _ _) ?_))
  · exact Keeps.trans (t := { s with host := _ }) ⟨rfl, rfl⟩ (h _)
  · exact (s.setTaken_keeps _).trans (h _)
@[simp] theorem State.accessErr_keeps (s : State) : Keeps s s.accessErr := ⟨rfl, rfl⟩
@[simp] theorem State.sample_keeps (s : State) (cls loc : Nat) (acts : List EvAct) : Keeps s (s.sample cls loc acts) := by
  unfold State.sample
  split <;> simp
@[simp] theorem State.setCore_keeps (s : State) (c : Nat) (x : Core) : Keeps s (s.setCore c x) := ⟨rfl, rfl⟩
@[simp] theorem State.toCore_keeps (s : State) (c : Nat) (e : CoreEv) : Keeps s (s.toCore c e) := ⟨rfl, rfl⟩
@[simp] theorem State.setPoison_keeps (s : State) (m : MemWord) : Keeps s (s.setPoison m) := by simp [State.setPoison]
@[simp] theorem State.clearPoison_keeps (s : State) (p : MemWord → Bool) : Keeps s (s.clearPoison p) := ⟨rfl, rfl⟩
@[simp] theorem State.writeKs_keeps (s : State) (off : Nat) (l : List Nat) : Keeps s (s.writeKs off l) := ⟨rfl, rfl⟩
@[simp] theorem State.post_keeps (s : State) (cls kind field unit len body : Nat) (notice : Bool) :
    Keeps s (s.post cls kind field unit len body notice) := by
  unfold State.post
  split <;> exact ⟨rfl, rfl⟩
@[simp] theorem State.setFn_keeps (s : State) (f : Func) (x : FnState) : Keeps s (s.setFn f x) := ⟨rfl, rfl⟩
@[simp] theorem State.setFnState_keeps (s : State) (f : Func) (v : Nat) : Keeps s (s.setFnState f v) := ⟨rfl, rfl⟩
@[simp] theorem State.setFnPending_keeps (s : State) (f : Func) (v : Nat) : Keeps s (s.setFnPending f v) := ⟨rfl, rfl⟩

/-! ### Ecc -/

@[simp] theorem State.eccFind_keeps (s : State) (e : SymbolErrors) : Keeps s (s.eccFind e).2 := by
  unfold State.eccFind
  split <;> simp

/-! ### Units -/

@[simp] theorem State.setTile_keeps (s : State) (t : Nat) (x : Tile) : Keeps s (s.setTile t x) := ⟨rfl, rfl⟩
@[simp] theorem State.setField_keeps (s : State) (f : Nat) (x : FieldSt) : Keeps s (s.setField f x) := ⟨rfl, rfl⟩
@[simp] theorem State.setSram_keeps (s : State) (t l v : Nat) : Keeps s (s.setSram t l v) := ⟨rfl, rfl⟩
@[simp] theorem State.fillSram_keeps (s : State) (t : Nat) (l : List (Nat × Nat)) : Keeps s (s.fillSram t l) := by
  simp [State.fillSram]
@[simp] theorem State.clearSram_keeps (s : State) (t : Nat) : Keeps s (s.clearSram t) := ⟨rfl, rfl⟩
@[simp] theorem State.clearSpare_keeps (s : State) (t : Nat) : Keeps s (s.clearSpare t) := ⟨rfl, rfl⟩
@[simp] theorem State.endClears_keeps (s : State) : Keeps s s.endClears := ⟨rfl, rfl⟩

/-! ### Transfers -/

@[simp] theorem State.rotate_keeps (s : State) (k i : Nat) : Keeps s (s.rotate k i) := ⟨rfl, rfl⟩
@[simp] theorem State.endTransfer_keeps (s : State) (p : Transfer → Bool) : Keeps s (s.endTransfer p) := ⟨rfl, rfl⟩
@[simp] theorem State.endBeats_keeps (s : State) : Keeps s s.endBeats := ⟨rfl, rfl⟩
@[simp] theorem State.beginTransfer_keeps (s : State) (a : Ask) : Keeps s (s.beginTransfer a) := by
  simp [State.beginTransfer]
@[simp] theorem State.grantPorts_keeps (n : Nat) (s : State) (f : Nat) (l : List Ask) :
    Keeps s (State.grantPorts n s f l).2 := by
  fun_induction State.grantPorts n s f l with
  | case4 n s f l _ a _ r ih => exact (s.beginTransfer_keeps a).trans ih
  | _ => exact Keeps.refl _
@[simp] theorem State.grantRows_keeps (s : State) (asks : List Ask) : Keeps s (s.grantRows asks).2 := by
  unfold State.grantRows
  extract_lets w plain t
  have ht : Keeps s t := State.foldl_keeps (fun u a => u.beginTransfer_keeps a) plain s
  have h := State.foldl_snd_keeps (f := fun (acc : List Ask × State) f =>
    let r := State.grantPorts 4 acc.2 f (w.filter (fun a => a.what.port && decide (tileField a.tile = f)))
    (acc.1 ++ r.1, r.2)) (fun p f => p.2.grantPorts_keeps 4 f _) (List.range 32) (plain, t)
  exact ht.trans h

/-! ### Captures -/

@[simp] theorem State.setBuf_keeps (s : State) (f line v : Nat) : Keeps s (s.setBuf f line v) := ⟨rfl, rfl⟩
@[simp] theorem State.bufRecord_keeps (s : State) (f slot i r : Nat) : Keeps s (s.bufRecord f slot i r) := ⟨rfl, rfl⟩

/-! ### Semaphores -/

@[simp] theorem State.haltSeen_keeps (s : State) (c : Nat) : Keeps s (s.haltSeen c) := by simp [State.haltSeen]
@[simp] theorem State.haltCore_keeps (s : State) (c : Nat) : Keeps s (s.haltCore c) := by simp [State.haltCore]
@[simp] theorem State.trapAt_keeps (s : State) (c epc cause tval : Nat) : Keeps s (s.trapAt c epc cause tval) := by
  simp [State.trapAt]
@[simp] theorem State.trap_keeps (s : State) (c cause tval : Nat) : Keeps s (s.trap c cause tval) := by
  simp [State.trap]
@[simp] theorem State.goTo_keeps (s : State) (c target : Nat) : Keeps s (s.goTo c target) := by simp [State.goTo]
@[simp] theorem State.goNext_keeps (s : State) (c : Nat) : Keeps s (s.goNext c) := by simp [State.goNext]
@[simp] theorem State.writeReg_keeps (s : State) (c rd : Nat) (v : Word) : Keeps s (s.writeReg c rd v) := by
  simp [State.writeReg]
@[simp] theorem State.asyncDone_keeps (s : State) (c major kind id status value body : Nat) :
    Keeps s (s.asyncDone c major kind id status value body) :=
  ⟨rfl, rfl⟩
@[simp] theorem State.endWait_keeps (s : State) (w : SemWait) (status value : Nat) : Keeps s (s.endWait w status value) := by
  unfold State.endWait
  split <;> simp
@[simp] theorem State.endWaits_keeps (s : State) (ws : List (SemWait × Nat)) (status : Nat) :
    Keeps s (s.endWaits ws status) := by
  simp [State.endWaits]
@[simp] theorem State.dropWaits_keeps (s : State) (p : SemWait → Bool) (status : Nat) : Keeps s (s.dropWaits p status) := by
  simp [State.dropWaits]
@[simp] theorem State.resolve_keeps (s : State) (c : Nat) : Keeps s (s.resolve c) := by simp [State.resolve]
@[simp] theorem State.satEvent_keeps (s : State) : Keeps s s.satEvent := ⟨rfl, rfl⟩
@[simp] theorem State.semAdd_keeps (s : State) (c n : Nat) : Keeps s (s.semAdd c n) := by simp [State.semAdd]
@[simp] theorem State.semSub_keeps (s : State) (c n : Nat) : Keeps s (s.semSub c n) := by simp [State.semSub]
@[simp] theorem State.semWait_keeps (s : State) (w : SemWait) : Keeps s (s.semWait w) := by simp [State.semWait]
@[simp] theorem State.tileSem_keeps (s : State) (t : Nat) (op : SemOp) (c n : Nat) : Keeps s (s.tileSem t op c n) := by
  fun_cases State.tileSem s t op c n <;> simp
@[simp] theorem State.semPoisonSet_keeps (s : State) (c : Nat) : Keeps s (s.semPoisonSet c) := by
  simp [State.semPoisonSet]
@[simp] theorem State.setWarden_keeps (s : State) (k : Nat) (w : Warden) : Keeps s (s.setWarden k w) := ⟨rfl, rfl⟩
@[simp] theorem State.parkDiscard_keeps (s : State) (n : Nat) : Keeps s (s.parkDiscard n) := by simp [State.parkDiscard]
@[simp] theorem State.applyAdd_keeps (s : State) (p : Nat) : Keeps s (s.applyAdd p) := by simp [State.applyAdd]
@[simp] theorem State.parkAdd_keeps (s : State) (k p : Nat) : Keeps s (s.parkAdd k p) := by simp [State.parkAdd]
@[simp] theorem State.remoteAdd_keeps (s : State) (k p : Nat) : Keeps s (s.remoteAdd k p) := by simp [State.remoteAdd]
@[simp] theorem State.releaseAdds_keeps (s : State) (k src : Nat) : Keeps s (s.releaseAdds k src) := by
  simp [State.releaseAdds]
@[simp] theorem State.writeLanded_keeps (s : State) (k src : Nat) : Keeps s (s.writeLanded k src) := by
  simp [State.writeLanded]
@[simp] theorem State.ingressResume_keeps (s : State) (k : Nat) : Keeps s (s.ingressResume k) := by
  fun_cases State.ingressResume s k <;> simp
@[simp] theorem State.parkTimeout_keeps (s : State) (entry : Nat) : Keeps s (s.parkTimeout entry) := by
  unfold State.parkTimeout
  split <;> simp
@[simp] theorem State.parkFlush_keeps (n : Nat) (s : State) (l : List Nat) : Keeps s (State.parkFlush n s l) := by
  fun_induction State.parkFlush n s l <;> simp [*]
@[simp] theorem State.clearWarden_keeps (s : State) (k : Nat) : Keeps s (s.clearWarden k) := ⟨rfl, rfl⟩
@[simp] theorem State.loadSems_keeps (s : State) (l : List (Nat × Nat)) : Keeps s (s.loadSems l) := by
  simp [State.loadSems]
@[simp] theorem State.clearCounts_keeps (s : State) : Keeps s s.clearCounts := ⟨rfl, rfl⟩
@[simp] theorem State.programStart_keeps (s : State) (init : List (Nat × Nat)) (wtcGo : Nat) (flush : Bool) :
    Keeps s (s.programStart init wtcGo flush) := by
  simp [State.programStart]
@[simp] theorem State.remoteAddSend_keeps (s : State) (k dest c n : Nat) : Keeps s (s.remoteAddSend k dest c n) :=
  ⟨rfl, rfl⟩
@[simp] theorem State.fabricSend_keeps (s : State) (k dest : Nat) : Keeps s (s.fabricSend k dest) := ⟨rfl, rfl⟩

/-! ### SecBase -/

@[simp] theorem State.landCopy_keeps (s : State) (data : List (Fin 445440 × Fin 768 × BitVec 1024)) :
    Keeps s (s.landCopy data) := by
  simp [State.landCopy]
@[simp] theorem State.setGen_keeps (s : State) (n : Nat) (g : Option Gen) : Keeps s (s.setGen n g) := ⟨rfl, rfl⟩
@[simp] theorem State.writeHeader_keeps (s : State) (g : Gen) (state : Nat) : Keeps s (s.writeHeader g state) := by
  simp [State.writeHeader]
@[simp] theorem State.judgeDrives_keeps (s : State) : Keeps s s.judgeDrives := ⟨rfl, rfl⟩
@[simp] theorem State.latchCfg_keeps (s : State) : Keeps s s.latchCfg := ⟨rfl, rfl⟩
@[simp] theorem State.secBump_keeps (s : State) (F : RF) : Keeps s (s.secBump F) := by simp [State.secBump]
@[simp] theorem State.secRecord_keeps (s : State) (ty reason layer : Nat) (coFed : Bool) (dur step wtc hold : Nat) :
    Keeps s (s.secRecord ty reason layer coFed dur step wtc hold) :=
  ⟨rfl, rfl⟩
@[simp] theorem State.sendMgmt_keeps (s : State) (ty dest arg0 arg1 : Nat) (key : Option Nat) :
    Keeps s (s.sendMgmt ty dest arg0 arg1 key) :=
  ⟨rfl, rfl⟩
@[simp] theorem State.reserveLost_keeps (s : State) : Keeps s s.reserveLost := by
  unfold State.reserveLost
  split <;> simp
@[simp] theorem State.releaseBoundary_keeps (s : State) : Keeps s s.releaseBoundary := by simp [State.releaseBoundary]
@[simp] theorem State.dropHold_keeps (s : State) : Keeps s s.dropHold := by
  unfold State.dropHold
  split <;> simp
@[simp] theorem State.loseGen_keeps (s : State) (n : Nat) : Keeps s (s.loseGen n) := by
  rw [State.loseGen]
  split
  · refine Keeps.ite (Keeps.refl s) (Keeps.trans ?_ (State.foldl_keeps (fun u t => ?_) _ _))
    · simp
    · split <;> simp
  · exact Keeps.refl s
@[simp] theorem State.loseLayer_keeps (s : State) (layer : Nat) : Keeps s (s.loseLayer layer) := by
  simp [State.loseLayer]
@[simp] theorem State.voidGen_keeps (s : State) (wtc n : Nat) : Keeps s (s.voidGen wtc n) := by
  unfold State.voidGen
  split <;> simp
@[simp] theorem State.croakNeeded_keeps (s : State) : Keeps s s.croakNeeded := by simp [State.croakNeeded]
@[simp] theorem State.answerRollback_keeps (s : State) (status code detail : Nat) :
    Keeps s (s.answerRollback status code detail) := by
  unfold State.answerRollback
  repeat' split <;> simp
@[simp] theorem State.voidCopies_keeps (s : State) (wtc : Nat) : Keeps s (s.voidCopies wtc) := by
  unfold State.voidCopies
  dsimp only
  repeat' split <;> simp

/-! ### Taps -/

@[simp] theorem State.tapStart_keeps (s : State) (t : Nat) : Keeps s (s.tapStart t) := ⟨rfl, rfl⟩
@[simp] theorem State.tapEnableEv_keeps (s : State) (t : Nat) : Keeps s (s.tapEnableEv t) := by
  unfold State.tapEnableEv
  split <;> simp
@[simp] theorem State.tapDisableEv_keeps (s : State) (t : Nat) : Keeps s (s.tapDisableEv t) := by
  unfold State.tapDisableEv
  split <;> simp
@[simp] theorem State.sendRecord_keeps (s : State) (t bytes : Nat) : Keeps s (s.sendRecord t bytes) := ⟨rfl, rfl⟩
@[simp] theorem State.tapMismatch_keeps (s : State) (t rec : Nat) : Keeps s (s.tapMismatch t rec) := by
  unfold State.tapMismatch
  dsimp only
  repeat' split <;> simp
@[simp] theorem State.tapJudged_keeps (s : State) (t : Nat) (b : TapBlock) (v : TapVerdict) (special : Bool) (seq : Nat) :
    Keeps s (s.tapJudged t b v special seq) := by
  simp [State.tapJudged]
@[simp] theorem State.tapBlock_keeps (s : State) (t : Nat) (b : TapBlock) : Keeps s (s.tapBlock t b) := by
  unfold State.tapBlock
  repeat' split <;> simp
@[simp] theorem State.tapArrival_keeps (s : State) (f rec : Nat) : Keeps s (s.tapArrival f rec) := by
  simp [State.tapArrival]
@[simp] theorem State.tapHoldEnd_keeps (s : State) (t : Nat) : Keeps s (s.tapHoldEnd t) := by
  fun_cases State.tapHoldEnd s t <;> simp
@[simp] theorem State.windowAdvance_keeps (s : State) (f : Nat) : Keeps s (s.windowAdvance f) := ⟨rfl, rfl⟩
@[simp] theorem State.rotTick_keeps (s : State) (f : Nat) : Keeps s (s.rotTick f) := by simp [State.rotTick]
@[simp] theorem State.setTapN_keeps (s : State) (n : Nat) : Keeps s (s.setTapN n) := by
  fun_induction State.setTapN s n <;> simp [*]
@[simp] theorem State.tapRecompute_keeps (s : State) : Keeps s s.tapRecompute := by simp [State.tapRecompute]
@[simp] theorem State.tapsOff_keeps (s : State) : Keeps s s.tapsOff := by simp [State.tapsOff]
@[simp] theorem State.tapTick_keeps (s : State) : Keeps s s.tapTick := by simp [State.tapTick]
@[simp] theorem State.rotWrite_keeps (s : State) (f period : Nat) : Keeps s (s.rotWrite f period) := ⟨rfl, rfl⟩

/-! ### Episodes -/

@[simp] theorem State.setArmed_keeps (s : State) (f : Nat) (q : List Armed) : Keeps s (s.setArmed f q) := ⟨rfl, rfl⟩
@[simp] theorem State.staleArm_keeps (s : State) (t : Nat) (lapsed : Bool) : Keeps s (s.staleArm t lapsed) := ⟨rfl, rfl⟩
@[simp] theorem State.commandArm_keeps (s : State) (t : Nat) : Keeps s (s.commandArm t) := ⟨rfl, rfl⟩
@[simp] theorem State.armReport_keeps (s : State) (t : Nat) (disarm : Bool) : Keeps s (s.armReport t disarm) :=
  ⟨rfl, rfl⟩
@[simp] theorem State.armSend_keeps (s : State) (t active idle : Nat) : Keeps s (s.armSend t active idle) := by
  simp [State.armSend]
@[simp] theorem State.quotaTile_keeps (s : State) (t : Nat) : Keeps s (s.quotaTile t) := by simp [State.quotaTile]
@[simp] theorem State.quotaReevaluate_keeps (s : State) (f : Nat) : Keeps s (s.quotaReevaluate f) := by
  simp [State.quotaReevaluate]
@[simp] theorem State.setEpisode_keeps (s : State) (x : Episode) : Keeps s (s.setEpisode x) := ⟨rfl, rfl⟩
@[simp] theorem State.setReplay_keeps (s : State) (t : Nat) (b : Bool) : Keeps s (s.setReplay t b) := by
  simp [State.setReplay]
@[simp] theorem State.releaseEpisode_keeps (s : State) (e : Episode) : Keeps s (s.releaseEpisode e) := by
  simp [State.releaseEpisode]
@[simp] theorem State.endEpisode_keeps (s : State) (e : Episode) (verdict reason confirm : Nat) (spares : List Nat) :
    Keeps s (s.endEpisode e verdict reason confirm spares) := by
  simp [State.endEpisode]
@[simp] theorem State.stopWhere_keeps (s : State) (p : Episode → Bool) (verdict reason : Nat) :
    Keeps s (s.stopWhere p verdict reason) := by
  simp [State.stopWhere]
@[simp] theorem State.stopEpisode_keeps (s : State) (t verdict reason : Nat) : Keeps s (s.stopEpisode t verdict reason) := by
  simp [State.stopEpisode]
@[simp] theorem State.dropDisarmed_keeps (s : State) (t : Nat) : Keeps s (s.dropDisarmed t) := by
  simp [State.dropDisarmed]
@[simp] theorem State.giveVerdict_keeps (s : State) (x : Ending) : Keeps s (s.giveVerdict x) := by
  simp [State.giveVerdict]
@[simp] theorem State.giveVerdicts_keeps (s : State) : Keeps s s.giveVerdicts := by simp [State.giveVerdicts]
@[simp] theorem State.secondLost_keeps (s : State) (t : Nat) : Keeps s (s.secondLost t) := by simp [State.secondLost]
@[simp] theorem State.spareClaimed_keeps (s : State) (t : Nat) : Keeps s (s.spareClaimed t) := by
  simp [State.spareClaimed]
@[simp] theorem State.episodeWithdrawn_keeps (s : State) (t : Nat) : Keeps s (s.episodeWithdrawn t) := by
  simp [State.episodeWithdrawn]
@[simp] theorem State.drawPick_keeps (n : Nat) (s : State) (f : Nat) : Keeps s (State.drawPick n s f).2 := by
  fun_induction State.drawPick n s f with
  | case1 => exact Keeps.refl _
  | case2 n s f s1 _ => exact s.setField_keeps _ _
  | case3 n s f s1 _ ih => exact (s.setField_keeps _ _).trans ih
@[simp] theorem State.slotCandidate_keeps (s : State) (f : Nat) : Keeps s (s.slotCandidate f).2 := by
  have h := State.drawPick_keeps 5 s f
  rw [State.slotCandidate]
  split
  · exact Keeps.refl s
  · split
    · exact Keeps.refl s
    · split
      · rename_i e
        rwa [e] at h
      · rename_i e
        rwa [e] at h
@[simp] theorem State.noSpare_keeps (s : State) (f : Nat) : Keeps s (s.noSpare f) := by simp [State.noSpare]
@[simp] theorem State.slotOpen_keeps (s : State) (f : Nat) : Keeps s (s.slotOpen f) := by
  rw [State.slotOpen]
  refine (s.setField_keeps f { s.field f with slotAt := s.now }).trans ?_
  generalize s.setField f { s.field f with slotAt := s.now } = s1
  refine Keeps.ite (Keeps.refl s1) ?_
  have h := s1.slotCandidate_keeps f
  generalize s1.slotCandidate f = p at h ⊢
  obtain ⟨o, t⟩ := p
  refine Keeps.trans h ?_
  cases o with
  | none => exact t.noSpare_keeps f
  | some x => dsimp only; split <;> simp
@[simp] theorem State.takeNumber_keeps (s : State) (f : Nat) : Keeps s (s.takeNumber f).2 := by
  fun_cases State.takeNumber s f <;> simp
@[simp] theorem State.episodeStart_keeps (s : State) (t pos : Nat) (img : TileImage) (resident : List Flit) :
    Keeps s (s.episodeStart t pos img resident) := by
  unfold State.episodeStart
  split <;> simp
@[simp] theorem State.captureGranted_keeps (s : State) (t : Nat) : Keeps s (s.captureGranted t) := by
  unfold State.captureGranted
  split <;> simp
@[simp] theorem State.goExpire_keeps (s : State) (t : Nat) : Keeps s (s.goExpire t) := by
  unfold State.goExpire
  split <;> simp
@[simp] theorem State.setCapture_keeps (s : State) (e : Episode) (c : Capturing) : Keeps s (s.setCapture e c) := by
  simp [State.setCapture]
@[simp] theorem State.storeRecords_keeps (s : State) (f slot n : Nat) (l : List Nat) :
    Keeps s (s.storeRecords f slot n l) := by
  fun_induction State.storeRecords s f slot n l <;> simp [*]
@[simp] theorem State.beatArrives_keeps (s : State) (e : Episode) (b : Sent) : Keeps s (s.beatArrives e b) := by
  unfold State.beatArrives
  split <;> simp
@[simp] theorem State.captureCycle_keeps (s : State) (t : Nat) (x : TileCycle) : Keeps s (s.captureCycle t x) := by
  unfold State.captureCycle
  repeat' split <;> simp
@[simp] theorem State.snapshotCheck_keeps (s : State) (t : Nat) : Keeps s (s.snapshotCheck t) := by
  unfold State.snapshotCheck
  split <;> simp
@[simp] theorem State.captureCycles_keeps (s : State) (t : Nat) (l : List TileCycle) : Keeps s (s.captureCycles t l) := by
  simp [State.captureCycles]
@[simp] theorem State.captureWrite_keeps (s : State) (t line data : Nat) : Keeps s (s.captureWrite t line data) := by
  unfold State.captureWrite
  split <;> simp
@[simp] theorem State.loadGranted_keeps (s : State) (t : Nat) : Keeps s (s.loadGranted t) := by
  unfold State.loadGranted
  split <;> simp
@[simp] theorem State.readGranted_keeps (s : State) (t : Nat) : Keeps s (s.readGranted t) := by
  unfold State.readGranted
  split <;> simp
@[simp] theorem State.leaveImage_keeps (s : State) (t : Nat) (r : SpareRun) : Keeps s (s.leaveImage t r) := by
  simp [State.leaveImage]
@[simp] theorem State.replayDone_keeps (s : State) (t : Nat) : Keeps s (s.replayDone t) := by
  unfold State.replayDone
  split <;> simp
@[simp] theorem State.episodeCompare_keeps (s : State) (t : Nat) (r : SpareRun) : Keeps s (s.episodeCompare t r) := by
  unfold State.episodeCompare
  repeat' split <;> simp
@[simp] theorem State.confirmDone_keeps (s : State) (t : Nat) (run : SpareRun) : Keeps s (s.confirmDone t run) := by
  unfold State.confirmDone
  split <;> simp
@[simp] theorem State.confirmTimeout_keeps (s : State) (t : Nat) : Keeps s (s.confirmTimeout t) := by
  fun_cases State.confirmTimeout s t <;> simp
@[simp] theorem State.episodeDeadline_keeps (s : State) (t : Nat) : Keeps s (s.episodeDeadline t) := by
  simp [State.episodeDeadline]
@[simp] theorem State.replaysEnd_keeps (s : State) : Keeps s s.replaysEnd := by simp [State.replaysEnd]
@[simp] theorem State.shedReplay_keeps (n : Nat) (s : State) : Keeps s (State.shedReplay n s) := by
  fun_induction State.shedReplay n s <;> simp [*]
@[simp] theorem State.withdrawGos_keeps (s : State) : Keeps s s.withdrawGos := by simp [State.withdrawGos]

/-! ### Molts -/

@[simp] theorem State.setMolts_keeps (s : State) (m : Molts) : Keeps s (s.setMolts m) := ⟨rfl, rfl⟩
@[simp] theorem State.setMoltSlot_keeps (s : State) (n : Nat) (m : Option MoltSlot) : Keeps s (s.setMoltSlot n m) :=
  ⟨rfl, rfl⟩
@[simp] theorem State.clearPlace_keeps (s : State) (p : List Nat) : Keeps s (s.clearPlace p) := by
  refine State.foldl_keeps (fun t n => ?_) p s
  split <;> simp
@[simp] theorem State.moltBegin_keeps (s : State) (wafer : Bool) (cause field : Nat) (tilesAbsent : Bool) (dom : Domain) :
    Keeps s (s.moltBegin wafer cause field tilesAbsent dom) := by
  simp [State.moltBegin]
@[simp] theorem State.captureReset_keeps (s : State) (d : Domain) (wafer : Bool) (cause field : Nat) (tilesAbsent : Bool) :
    Keeps s (s.captureReset d wafer cause field tilesAbsent) := by
  unfold State.captureReset
  repeat' split <;> simp
@[simp] theorem State.beginStage_keeps (s : State) (n : Nat) : Keeps s (s.beginStage n) := ⟨rfl, rfl⟩
@[simp] theorem State.beginRun_keeps (s : State) (run first : Nat) : Keeps s (s.beginRun run first) := ⟨rfl, rfl⟩
@[simp] theorem State.setRec_keeps (s : State) (v : Nat) : Keeps s (s.setRec v) := ⟨rfl, rfl⟩
@[simp] theorem State.requestRecovery_keeps (s : State) (byHost : Bool) (cid : Option Nat) (cause : Nat) (trip : Bool) :
    Keeps s (s.requestRecovery byHost cid cause trip) := by
  simp [State.requestRecovery]

/-! ### Visits -/

@[simp] theorem State.setStState_keeps (s : State) (t v : Nat) : Keeps s (s.setStState t v) := ⟨rfl, rfl⟩
@[simp] theorem State.setVisit_keeps (s : State) (v : Visit) : Keeps s (s.setVisit v) := ⟨rfl, rfl⟩
@[simp] theorem State.dropVisit_keeps (s : State) (t : Nat) : Keeps s (s.dropVisit t) := ⟨rfl, rfl⟩
@[simp] theorem State.sendVisit_keeps (s : State) (v : Visit) (ty : Nat) : Keeps s (s.sendVisit v ty) := by
  unfold State.sendVisit
  repeat' split <;> simp
@[simp] theorem State.visitEnds_keeps (s : State) (t : Nat) : Keeps s (s.visitEnds t) := ⟨rfl, rfl⟩
@[simp] theorem State.visitIdle_keeps (s : State) (t : Nat) : Keeps s (s.visitIdle t) := ⟨rfl, rfl⟩
@[simp] theorem State.abortVisit_keeps (s : State) (t : Nat) : Keeps s (s.abortVisit t) := by
  unfold State.abortVisit
  split <;> simp
@[simp] theorem State.abortVisitsOn_keeps (s : State) (t : Nat) : Keeps s (s.abortVisitsOn t) := by
  unfold State.abortVisitsOn
  split <;> simp

/-! ### Regrowth -/

@[simp] theorem State.setRegrow_keeps (s : State) (r : Regrowth) : Keeps s (s.setRegrow r) := ⟨rfl, rfl⟩
@[simp] theorem State.dropRegrow_keeps (s : State) (r : Regrowth) : Keeps s (s.dropRegrow r) := ⟨rfl, rfl⟩
@[simp] theorem State.writeRegrow_keeps (s : State) (r : Regrowth) (outcome reason : Nat) :
    Keeps s (s.writeRegrow r outcome reason) := by
  simp [State.writeRegrow]
@[simp] theorem State.refuse_keeps (s : State) (r : Regrowth) : Keeps s (s.refuse r) := by simp [State.refuse]
@[simp] theorem State.claimNext_keeps (s : State) (r : Regrowth) : Keeps s (s.claimNext r) := by
  unfold State.claimNext
  split <;> simp
@[simp] theorem State.takeEngine_keeps (s : State) (r : Regrowth) (e : Nat) : Keeps s (s.takeEngine r e) := by
  unfold State.takeEngine
  split <;> simp
@[simp] theorem State.dequeueOnto_keeps (s : State) (f e : Nat) : Keeps s (s.dequeueOnto f e) := by
  unfold State.dequeueOnto
  split <;> simp
@[simp] theorem State.dequeue_keeps (s : State) (f : Nat) : Keeps s (s.dequeue f) := by simp [State.dequeue]
@[simp] theorem State.endRegrow_keeps (s : State) (r : Regrowth) : Keeps s (s.endRegrow r) := by simp [State.endRegrow]
@[simp] theorem State.releaseTarget_keeps (s : State) (r : Regrowth) : Keeps s (s.releaseTarget r) := by
  unfold State.releaseTarget
  split <;> simp
@[simp] theorem State.escalate_keeps (s : State) (r : Regrowth) (reason : Nat) : Keeps s (s.escalate r reason) := by
  simp [State.escalate]
@[simp] theorem State.escalateAll_keeps (s : State) (l : List Regrowth) (reason : Nat) :
    Keeps s (s.escalateAll l reason) := by
  simp [State.escalateAll]
@[simp] theorem State.startRegrow_keeps (s : State) (l failed cause : Nat) (save : Option Nat) :
    Keeps s (s.startRegrow l failed cause save) := by
  unfold State.startRegrow
  dsimp only
  repeat' split <;> simp
@[simp] theorem State.startMove_keeps (s : State) (l src dst rot : Nat) : Keeps s (s.startMove l src dst rot) :=
  ⟨rfl, rfl⟩
@[simp] theorem State.quarantine_keeps (s : State) (t cause : Nat) : Keeps s (s.quarantine t cause) := by
  unfold State.quarantine
  repeat' split <;> simp
@[simp] theorem State.moveFails_keeps (s : State) (r : Regrowth) : Keeps s (s.moveFails r) := by
  unfold State.moveFails
  dsimp only
  repeat' split <;> simp
@[simp] theorem State.tadpoleOut_keeps (s : State) (t cause : Nat) : Keeps s (s.tadpoleOut t cause) := by
  unfold State.tadpoleOut
  split <;> simp
@[simp] theorem State.openTarget_keeps (s : State) (t : Nat) : Keeps s (s.openTarget t) := by simp [State.openTarget]
@[simp] theorem State.claimSpare_keeps (s : State) (r : Regrowth) (t : Nat) : Keeps s (s.claimSpare r t) := by
  simp [State.claimSpare]
@[simp] theorem State.copyToCommit_keeps (s : State) (r : Regrowth) : Keeps s (s.copyToCommit r) := by
  simp [State.copyToCommit]
@[simp] theorem State.takeSpare_keeps (s : State) (r : Regrowth) (c : Nat) : Keeps s (s.takeSpare r c) := by
  unfold State.takeSpare
  dsimp only
  repeat' split <;> simp
@[simp] theorem State.loseSpare_keeps (s : State) (r : Regrowth) : Keeps s (s.loseSpare r) := by simp [State.loseSpare]
@[simp] theorem State.claimSpares_keeps (s : State) : Keeps s s.claimSpares := by
  refine State.foldl_keeps (fun t c => ?_) _ s
  dsimp only
  split <;> simp
@[simp] theorem State.slackDone_keeps (s : State) (l : Nat) : Keeps s (s.slackDone l) := by
  fun_cases State.slackDone s l <;> simp
@[simp] theorem State.transplantStart_keeps (s : State) (l : Nat) : Keeps s (s.transplantStart l) := by
  unfold State.transplantStart
  split <;> simp
@[simp] theorem State.fillGranted_keeps (s : State) (failed : Nat) : Keeps s (s.fillGranted failed) := by
  unfold State.fillGranted
  split <;> simp
@[simp] theorem State.endFills_keeps (s : State) : Keeps s s.endFills := ⟨rfl, rfl⟩
@[simp] theorem State.transplantVerified_keeps (s : State) (l : Nat) (sent changed : List (Fin 792 × BitVec 1024)) :
    Keeps s (s.transplantVerified l sent changed) := by
  unfold State.transplantVerified
  repeat' split <;> simp
@[simp] theorem State.transplantUe_keeps (s : State) (l : Nat) : Keeps s (s.transplantUe l) := by
  unfold State.transplantUe
  split <;> simp
@[simp] theorem State.regrowRetry_keeps (s : State) (r : Regrowth) : Keeps s (s.regrowRetry r) := by
  simp [State.regrowRetry]
@[simp] theorem State.freeze_keeps (s : State) (t : Nat) : Keeps s (s.freeze t) := by simp [State.freeze]
@[simp] theorem State.mapLost_keeps (s : State) (f : Nat) : Keeps s (s.mapLost f) := by simp [State.mapLost]

/-! ### Epoch -/

@[simp] theorem State.setRollback_keeps (s : State) (r : Option Rollback) : Keeps s (s.setRollback r) := ⟨rfl, rfl⟩
@[simp] theorem State.noSource_keeps (s : State) : Keeps s s.noSource := by simp [State.noSource]
@[simp] theorem State.reloadNext_keeps (s : State) : Keeps s s.reloadNext := by
  unfold State.reloadNext
  repeat' split <;> simp
@[simp] theorem State.advanceEpoch_keeps (s : State) (program : Bool) : Keeps s (s.advanceEpoch program) := by
  simp [State.advanceEpoch]
@[simp] theorem State.loadRedirect_keeps (s : State) : Keeps s s.loadRedirect := ⟨rfl, rfl⟩
@[simp] theorem State.joinBatch_keeps (s : State) (r : Regrowth) : Keeps s (s.joinBatch r) := ⟨rfl, rfl⟩
@[simp] theorem State.takeProgram_keeps (s : State) : Keeps s s.takeProgram := by
  unfold State.takeProgram
  split <;> simp
@[simp] theorem State.programAdvance_keeps (s : State) : Keeps s s.programAdvance := by simp [State.programAdvance]
@[simp] theorem State.pendingAdvance_keeps (s : State) : Keeps s s.pendingAdvance := by simp [State.pendingAdvance]
@[simp] theorem State.setRemap_keeps (s : State) (f i : Nat) (m : Option Remap) : Keeps s (s.setRemap f i m) :=
  ⟨rfl, rfl⟩
@[simp] theorem State.writeRemap_keeps (s : State) (r : Regrowth) : Keeps s (s.writeRemap r) := by
  simp [State.writeRemap]
@[simp] theorem State.regrowCommit_keeps (s : State) (l : Nat) : Keeps s (s.regrowCommit l) := by
  unfold State.regrowCommit
  repeat' split <;> simp
@[simp] theorem State.drainReports_keeps (n : Nat) (s : State) (l : List LeftFlits) (n2 n3 n4 : Nat) :
    Keeps s (State.drainReports n s l n2 n3 n4) := by
  fun_induction State.drainReports n s l n2 n3 n4 <;> simp [*]
@[simp] theorem State.requestRollback_keeps (s : State) (void : Option Nat) : Keeps s (s.requestRollback void) := by
  unfold State.requestRollback
  repeat' split <;> simp
@[simp] theorem State.regrowDrainEnd_keeps (s : State) (discarded : Bool) (r : Regrowth) :
    Keeps s (s.regrowDrainEnd discarded r) := by
  unfold State.regrowDrainEnd
  repeat' split <;> simp
@[simp] theorem State.releaseFlits_keeps (s : State) : Keeps s s.releaseFlits := by simp [State.releaseFlits]
@[simp] theorem State.drainEnd_keeps (s : State) (l : List LeftFlits) : Keeps s (s.drainEnd l) := by
  unfold State.drainEnd
  dsimp only
  repeat' split <;> simp
@[simp] theorem State.countDiscards_keeps (s : State) (n : Nat) : Keeps s (s.countDiscards n) := by
  simp [State.countDiscards]
@[simp] theorem State.oldFlit_keeps (s : State) (t : Nat) (q : QueueId) (h : Nat) : Keeps s (s.oldFlit t q h) := by
  fun_cases State.oldFlit s t q h <;> simp

/-! ### Functions -/

@[simp] theorem State.fnStart_keeps (s : State) (f : Func) : Keeps s (s.fnStart f) := ⟨rfl, rfl⟩
@[simp] theorem State.fnToOff_keeps (s : State) (f : Func) : Keeps s (s.fnToOff f) := ⟨rfl, rfl⟩
@[simp] theorem State.fnEnable_keeps (s : State) (f : Func) : Keeps s (s.fnEnable f) := by
  unfold State.fnEnable
  split <;> simp
@[simp] theorem State.fnDisable_keeps (s : State) (f : Func) : Keeps s (s.fnDisable f) := by
  unfold State.fnDisable
  split <;> simp
@[simp] theorem State.setFnRequest_keeps (s : State) (f : Func) (v : Nat) : Keeps s (s.setFnRequest f v) := ⟨rfl, rfl⟩
@[simp] theorem State.fnEvent_keeps (s : State) (f : Func) (old new : Nat) : Keeps s (s.fnEvent f old new) := by
  simp [State.fnEvent]
@[simp] theorem State.enableWrite_keeps (s : State) (f : Func) (v : Nat) : Keeps s (s.enableWrite f v) := by
  simp [State.enableWrite]
@[simp] theorem State.fnStartDone_keeps (s : State) (f : Func) : Keeps s (s.fnStartDone f) := by
  simp [State.fnStartDone]
@[simp] theorem State.fnReset_keeps (s : State) (f : Func) : Keeps s (s.fnReset f) := ⟨rfl, rfl⟩
@[simp] theorem State.fnRestart_keeps (s : State) (f : Func) : Keeps s (s.fnRestart f) := by simp [State.fnRestart]
@[simp] theorem State.restartFns_keeps (s : State) (d : Domain) : Keeps s (s.restartFns d) := by simp [State.restartFns]
@[simp] theorem State.resetFns_keeps (s : State) (d : Domain) : Keeps s (s.resetFns d) := by simp [State.resetFns]

/-! ### Detect -/

@[simp] theorem State.stage_keeps (s : State) (r : HistRec) : Keeps s (s.stage r) := by simp [State.stage]
@[simp] theorem State.writeHist_keeps (s : State) (k : UnitKey) (st origin : Nat) (det : Bool) (ev created : Nat) :
    Keeps s (s.writeHist k st origin det ev created) := by
  simp [State.writeHist]
@[simp] theorem State.setSlot_keeps (s : State) (i : Nat) (e : Option Entry) : Keeps s (s.setSlot i e) := ⟨rfl, rfl⟩
@[simp] theorem State.entryNotice_keeps (s : State) (e : Entry) (prev : Nat) : Keeps s (s.entryNotice e prev) :=
  ⟨rfl, rfl⟩
@[simp] theorem State.freeSlotOf_keeps (s : State) (i : Nat) (e : Entry) : Keeps s (s.freeSlotOf i e) := by
  simp [State.freeSlotOf]
@[simp] theorem State.roomFor_keeps (s : State) : Keeps s (s.roomFor).2 := by
  fun_cases State.roomFor s <;> simp
@[simp] theorem State.sortQueue_keeps (s : State) (f : Nat) : Keeps s (s.sortQueue f) := ⟨rfl, rfl⟩
@[simp] theorem State.clearFills_keeps (s : State) (f : Nat) : Keeps s (s.clearFills f) := by
  refine State.foldl_keeps (fun t r => ?_) _ s
  split <;> simp
@[simp] theorem State.stationClear_keeps (s : State) (f : Nat) : Keeps s (s.stationClear f) := by
  simp [State.stationClear]
@[simp] theorem State.tilesClear_keeps (s : State) (p : Nat → Bool) : Keeps s (s.tilesClear p) := by
  simp [State.tilesClear]
@[simp] theorem State.dropField_keeps (s : State) (f : Nat) : Keeps s (s.dropField f) := by simp [State.dropField]
@[simp] theorem State.laneOut_keeps (s : State) (unit : Nat) : Keeps s (s.laneOut unit) := by simp [State.laneOut]
@[simp] theorem State.holdField_keeps (s : State) (f : Nat) : Keeps s (s.holdField f) := ⟨rfl, rfl⟩
@[simp] theorem State.unholdField_keeps (s : State) (f : Nat) : Keeps s (s.unholdField f) := ⟨rfl, rfl⟩
@[simp] theorem State.withdraw_keeps (s : State) (k : UnitKey) (cause : Nat) (wasOut : Bool) :
    Keeps s (s.withdraw k cause wasOut) := by
  unfold State.withdraw
  split <;> simp
@[simp] theorem State.newEntryActs_keeps (s : State) (k : UnitKey) (st cause : Nat) (wasOut : Bool) :
    Keeps s (s.newEntryActs k st cause wasOut) := by
  simp [State.newEntryActs]
@[simp] theorem State.hazardDet_keeps (s : State) (k : UnitKey) (cause : Nat) : Keeps s (s.hazardDet k cause) := by
  simp [State.hazardDet]
@[simp] theorem State.noEntry_keeps (s : State) (k : UnitKey) (st : Nat) : Keeps s (s.noEntry k st) := by
  simp [State.noEntry]
@[simp] theorem State.applyDetect_keeps (s : State) (k : UnitKey) (cause origin : Nat) :
    Keeps s (s.applyDetect k cause origin) := by
  rw [State.applyDetect]
  refine (s.hazardDet_keeps k cause).trans ?_
  generalize s.hazardDet k cause = t
  dsimp only
  split
  · simp
  · have h := t.roomFor_keeps
    generalize t.roomFor = p at h ⊢
    obtain ⟨o, u⟩ := p
    refine Keeps.trans h ?_
    cases o <;> simp
@[simp] theorem State.firmwareQuarantine_keeps (s : State) (i : Nat) (e : Entry) : Keeps s (s.firmwareQuarantine i e) := by
  simp [State.firmwareQuarantine]

/-! ### Monitors -/

@[simp] theorem State.setMonField_keeps (s : State) (f : Nat) (x : MonField) : Keeps s (s.setMonField f x) := ⟨rfl, rfl⟩
@[simp] theorem State.setMonitor_keeps (s : State) (k : UnitKey) (x : Monitor) : Keeps s (s.setMonitor k x) :=
  ⟨rfl, rfl⟩
@[simp] theorem State.disagree_keeps (s : State) (f : Nat) (k : UnitKey) (m : Monitor) (c : Bool) :
    Keeps s (s.disagree f k m c) := by
  simp [State.disagree]
@[simp] theorem State.abortRollback_keeps (s : State) : Keeps s s.abortRollback := by
  unfold State.abortRollback
  repeat' split <;> simp
@[simp] theorem State.absoluteTrip_keeps (s : State) (f sensor reading : Nat) :
    Keeps s (s.absoluteTrip f sensor reading) := by
  unfold State.absoluteTrip
  repeat' split <;> simp
@[simp] theorem State.riseTrip_keeps (s : State) (f sensor reading : Nat) : Keeps s (s.riseTrip f sensor reading) := by
  rw [State.riseTrip]
  have ht := s.sample_keeps 2 (locStation f) [.log]
  obtain ⟨t, e⟩ : ∃ t, s.sample 2 (locStation f) [.log] = t := ⟨_, rfl⟩
  rw [e] at ht ⊢
  exact Keeps.ite ht (by simp [ht])
@[simp] theorem State.endHold_keeps (s : State) : Keeps s s.endHold := ⟨rfl, rfl⟩
@[simp] theorem State.sensorSample_keeps (s : State) (f n i : Nat) (r : Option Int) : Keeps s (s.sensorSample f n i r) := by
  unfold State.sensorSample
  split <;> simp
@[simp] theorem State.waferMax_keeps (s : State) : Keeps s s.waferMax := by
  unfold State.waferMax
  split <;> simp
@[simp] theorem State.flashWindow_keeps (s : State) : Keeps s s.flashWindow := ⟨rfl, rfl⟩
@[simp] theorem State.aoiSample_keeps (s : State) (v : Nat) : Keeps s (s.aoiSample v) := by simp [State.aoiSample]
@[simp] theorem State.tellBlind_keeps (s : State) (f : Nat) : Keeps s (s.tellBlind f) := by simp [State.tellBlind]
@[simp] theorem State.thermalSample_keeps (s : State) (f : Nat) (rs : List (BitVec 11)) (aoi : Nat) :
    Keeps s (s.thermalSample f rs aoi) := by
  unfold State.thermalSample
  extract_lets x n s0 s1 s2 s3 ins calm cool rise y s4 s5 hot s6
  have h0 : Keeps s s0 := s.setMonField_keeps _ _
  have h1 : Keeps s s1 := h0.trans (State.foldl_keeps (fun t i => by split <;> simp) _ _)
  have h2 : Keeps s s2 := h1.trans (State.foldl_keeps (fun t i => t.sensorSample_keeps _ _ _ _) _ _)
  have h3 : Keeps s s3 := by
    refine h2.trans ?_
    simp only [s3]
    split <;> simp
  have h5 : Keeps s s5 := (h3.trans (s3.setMonField_keeps _ _)).trans
    ((s4.waferMax_keeps.trans (State.aoiSample_keeps _ _)).trans (State.tellBlind_keeps _ _))
  have h6 : Keeps s s6 := by
    refine h5.trans ?_
    clear_value hot
    cases hot <;> simp [s6]
  refine Keeps.ite (Keeps.refl s) ?_
  split
  · exact h6.trans (s6.riseTrip_keeps _ _ _)
  · exact h6
@[simp] theorem State.overTemp_keeps (s : State) (f i : Nat) : Keeps s (s.overTemp f i) := by simp [State.overTemp]
@[simp] theorem State.holdEnd_keeps (s : State) : Keeps s s.holdEnd := by simp [State.holdEnd]
@[simp] theorem State.holdExpiry_keeps (s : State) : Keeps s s.holdExpiry := by simp [State.holdExpiry]
@[simp] theorem State.droopOne_keeps (s : State) (f i : Nat) (w d : Bool) : Keeps s (s.droopOne f i w d) := by
  simp [State.droopOne]
@[simp] theorem State.droopSample_keeps (s : State) (f warning deep : Nat) : Keeps s (s.droopSample f warning deep) := by
  simp [State.droopSample]
@[simp] theorem State.ringCount_keeps (s : State) (f : Nat) (counts : List (BitVec 32)) :
    Keeps s (s.ringCount f counts) := by
  rw [State.ringCount]
  refine Keeps.ite (Keeps.refl s) ?_
  extract_lets t ratio ins med slow u judged v x
  have ht : Keeps s t := State.foldl_keeps (fun t j => by split <;> simp) _ s
  have hv : Keeps s v := (ht.trans (t.put_keeps _ _ _)).trans (State.foldl_keeps (fun t j => t.disagree_keeps _ _ _ _) _ _)
  exact Keeps.ite (hv.trans ((v.setMonField_keeps _ _).trans (State.sample_keeps _ _ _ _))) hv
@[simp] theorem State.powerCheck_keeps (s : State) : Keeps s s.powerCheck := by
  unfold State.powerCheck
  repeat' split <;> simp
@[simp] theorem State.addPower_keeps (s : State) (f w : Nat) : Keeps s (s.addPower f w) := by simp [State.addPower]
@[simp] theorem State.powerMissing_keeps (s : State) (f : Nat) : Keeps s (s.powerMissing f) := by
  unfold State.powerMissing
  split <;> simp
@[simp] theorem State.powerEscalate_keeps (s : State) : Keeps s s.powerEscalate := by
  unfold State.powerEscalate
  split <;> simp
@[simp] theorem State.driftCheck_keeps (s : State) : Keeps s s.driftCheck := by simp [State.driftCheck]

/-! ### Scrub -/

@[simp] theorem State.loadTables_keeps (s : State) : Keeps s s.loadTables := by
  have table : ∀ (u : State) (t : Nat), Keeps u (match u.readTable t with
      | some x => { u with tables := Tab.set (fun _ => none) u.tables t (some x) }
      | none => u.sample 10 (locStation (tileField t)) [evNotice 3 (tileField t) t 0x0F 0 t]) := fun u t => by split <;> simp
  have windows : ∀ (u : State) (t : Nat), Keeps u (match u.readWindows t with
      | some x => { u with winTabs := Tab.set (fun _ => none) u.winTabs t (some x) }
      | none => u.sample 10 (locStation (tileField t)) [evNotice 4 (tileField t) t 0x10 0 t]) := fun u t => by split <;> simp
  rw [State.loadTables]
  exact Keeps.trans (t := { s with tables := [], winTabs := [], sealed := [] }) ⟨rfl, rfl⟩
    ((State.foldl_keeps table _ _).trans (State.foldl_keeps windows _ _))
@[simp] theorem State.setSealed_keeps (s : State) (t b : Nat) (v : Bool) : Keeps s (s.setSealed t b v) := ⟨rfl, rfl⟩
@[simp] theorem State.writeDigest_keeps (s : State) (t : Nat) (tb : ResidentTable) (e d : Nat) :
    Keeps s (s.writeDigest t tb e d) := by
  simp [State.writeDigest]
@[simp] theorem State.tileWrite_keeps (s : State) (t line data q : Nat) : Keeps s (s.tileWrite t line data q) := by
  unfold State.tileWrite
  split <;> simp
@[simp] theorem State.showScrub_keeps (s : State) (f : Nat) : Keeps s (s.showScrub f) := ⟨rfl, rfl⟩
@[simp] theorem State.beginPass_keeps (s : State) (f : Nat) : Keeps s (s.beginPass f) := ⟨rfl, rfl⟩
@[simp] theorem State.passEnd_keeps (s : State) (f : Nat) : Keeps s (s.passEnd f) := by simp [State.passEnd]
@[simp] theorem State.passStart_keeps (s : State) (f : Nat) : Keeps s (s.passStart f) := by simp [State.passStart]
@[simp] theorem State.scrubEntry_keeps (s : State) (t q : Nat) (tb : ResidentTable) (e : Nat) :
    Keeps s (s.scrubEntry t q tb e) := by
  unfold State.scrubEntry
  split <;> simp
@[simp] theorem State.scrubRun_keeps (n : Nat) (s : State) (n2 n3 : Nat) : Keeps s (State.scrubRun n s n2 n3) := by
  fun_induction State.scrubRun n s n2 n3 <;> simp [*]
@[simp] theorem State.scrubStart_keeps (s : State) (t count q : Nat) : Keeps s (s.scrubStart t count q) := by
  simp [State.scrubStart]
@[simp] theorem State.dropScrub_keeps (s : State) (t : Nat) : Keeps s (s.dropScrub t) := by simp [State.dropScrub]
@[simp] theorem State.scrubEnd_keeps (s : State) (t : Nat) : Keeps s (s.scrubEnd t) := by simp [State.scrubEnd]
@[simp] theorem State.scrubTick_keeps (s : State) : Keeps s s.scrubTick := by simp [State.scrubTick]
@[simp] theorem State.scrubArrival_keeps (s : State) (f rec : Nat) : Keeps s (s.scrubArrival f rec) := by
  simp [State.scrubArrival]

/-! ### Hazard -/

@[simp] theorem State.hazardCompute_keeps (s : State) : Keeps s s.hazardCompute := by simp [State.hazardCompute]
@[simp] theorem State.escapeUpdate_keeps (s : State) : Keeps s s.escapeUpdate := by simp [State.escapeUpdate]
@[simp] theorem State.computeTick_keeps (s : State) : Keeps s s.computeTick := by simp [State.computeTick]
@[simp] theorem State.takeAllowance_keeps (s : State) : Keeps s s.takeAllowance := ⟨rfl, rfl⟩
@[simp] theorem State.engineWrite_keeps (s : State) (e : Nat) : Keeps s (s.engineWrite e) := by simp [State.engineWrite]

/-! ### Ledger -/

@[simp] theorem State.appendHeader_keeps (s : State) (half : Nat) : Keeps s (s.appendHeader half) := ⟨rfl, rfl⟩
@[simp] theorem State.swapHalf_keeps (s : State) : Keeps s s.swapHalf := by simp [State.swapHalf]
@[simp] theorem State.writeAnchor_keeps (s : State) : Keeps s s.writeAnchor := ⟨rfl, rfl⟩
@[simp] theorem State.anchorWrite_keeps (s : State) : Keeps s s.anchorWrite := by simp [State.anchorWrite]
@[simp] theorem State.identWrite_keeps (s : State) : Keeps s s.identWrite := by simp [State.identWrite]
@[simp] theorem State.histWrite_keeps (s : State) : Keeps s s.histWrite := by
  rw [State.histWrite]
  refine Keeps.ite (Keeps.refl s) ?_
  extract_lets t u
  have ht : Keeps s t := Keeps.ite s.writeAnchor_keeps (Keeps.refl s)
  have hu : Keeps s u := ht.trans (Keeps.ite t.swapHalf_keeps (Keeps.refl t))
  refine hu.trans (Keeps.ite (u.appendHeader_keeps _) ?_)
  split
  · exact Keeps.refl u
  · exact ⟨rfl, rfl⟩
@[simp] theorem State.ageCheck_keeps (s : State) : Keeps s s.ageCheck := by simp [State.ageCheck]
@[simp] theorem State.countSince_keeps (s : State) (r : HistRec) : Keeps s (s.countSince r).2 := by
  unfold State.countSince
  repeat' split <;> simp
@[simp] theorem State.rebuildEntry_keeps (s : State) (r : HistRec) (cause : Nat) : Keeps s (s.rebuildEntry r cause) := by
  unfold State.rebuildEntry
  split <;> simp
@[simp] theorem State.recreate_keeps (s : State) (r : HistRec) : Keeps s (s.recreate r) := by simp [State.recreate]
@[simp] theorem State.rebuildLost_keeps (s : State) (i : Nat) : Keeps s (s.rebuildLost i) := by
  unfold State.rebuildLost
  split <;> simp
@[simp] theorem State.ledgerQuery_keeps (s : State) (cid key : Nat) : Keeps s (s.ledgerQuery cid key) := by
  simp [State.ledgerQuery]
@[simp] theorem State.operatorAdd_keeps (s : State) (i : Nat) (k : UnitKey) (st : Nat) : Keeps s (s.operatorAdd i k st) := by
  simp [State.operatorAdd]
@[simp] theorem State.ledgerAdd_keeps (s : State) (cid key st : Nat) : Keeps s (s.ledgerAdd cid key st) := by
  rw [State.ledgerAdd]
  refine Keeps.ite (s.respond_keeps _ _ _ _ _) (Keeps.ite (s.respond_keeps _ _ _ _ _) ?_)
  have h := s.roomFor_keeps
  generalize s.roomFor = p at h ⊢
  obtain ⟨o, u⟩ := p
  refine Keeps.trans h ?_
  cases o <;> simp
@[simp] theorem State.freeOperator_keeps (s : State) (i : Nat) (e : Entry) : Keeps s (s.freeOperator i e) := by
  simp [State.freeOperator]
@[simp] theorem State.ledgerFree_keeps (s : State) (cid key : Nat) : Keeps s (s.ledgerFree cid key) := by
  fun_cases State.ledgerFree s cid key <;> simp
@[simp] theorem State.endDispute_keeps (s : State) (f : Nat) : Keeps s (s.endDispute f) := ⟨rfl, rfl⟩
@[simp] theorem State.ledgerAccept_keeps (s : State) (cid f : Nat) : Keeps s (s.ledgerAccept cid f) := by
  unfold State.ledgerAccept
  split <;> simp
@[simp] theorem State.ledgerDrop_keeps (s : State) (cid f : Nat) : Keeps s (s.ledgerDrop cid f) := by
  unfold State.ledgerDrop
  split <;> simp
@[simp] theorem State.ledgerCommand_keeps (s : State) (opcode cid key arg : Nat) :
    Keeps s (s.ledgerCommand opcode cid key arg) :=
  ⟨rfl, rfl⟩
@[simp] theorem State.ledgerWrite_keeps (s : State) (c : LedgerCmd) : Keeps s (s.ledgerWrite c) := by
  simp [State.ledgerWrite]
@[simp] theorem State.ledgerWrites_keeps (s : State) : Keeps s s.ledgerWrites := by simp [State.ledgerWrites]
@[simp] theorem State.ledgerAnswers_keeps (s : State) : Keeps s s.ledgerAnswers := by simp [State.ledgerAnswers]

/-! ### Chorus -/

@[simp] theorem State.sendAnn_keeps (s : State) (k ty mode coll inst chunk port len digest dest : Nat) (stale : Bool) :
    Keeps s (s.sendAnn k ty mode coll inst chunk port len digest dest stale) :=
  ⟨rfl, rfl⟩
@[simp] theorem State.logAnn_keeps (s : State) (k : Nat) (x : LoggedAnn) : Keeps s (s.logAnn k x) := ⟨rfl, rfl⟩
@[simp] theorem State.chunkEgress_keeps (s : State) (k coll chunk : Nat) (words : List (BitVec 32)) :
    Keeps s (s.chunkEgress k coll chunk words) := by
  unfold State.chunkEgress
  split <;> simp
@[simp] theorem State.setChorus_keeps (s : State) (k : Nat) (c : Chorus) : Keeps s (s.setChorus k c) := ⟨rfl, rfl⟩
@[simp] theorem State.showChorus_keeps (s : State) (k : Nat) : Keeps s (s.showChorus k) := ⟨rfl, rfl⟩
theorem State.chorusOpen_keeps (s : State) (k : Nat) (key : Nat × Nat × Nat) (p : Chorus × State) (h : s.chorusOpen k key = some p) :
    Keeps s p.2 := by
  unfold State.chorusOpen at h
  split at h
  · cases h; exact Keeps.refl s
  · dsimp only at h
    split at h
    · cases h; exact s.setWarden_keeps _ _
    · cases h
@[simp] theorem State.annDiscard_keeps (s : State) (k : Nat) : Keeps s (s.annDiscard k) := by simp [State.annDiscard]
@[simp] theorem State.flitIn_keeps (s : State) (k coll chunk index : Nat) : Keeps s (s.flitIn k coll chunk index) := by
  simp [State.flitIn]
theorem State.chorusPiece_keeps (s : State) (k : Nat) (p : Piece) (t : State) (h : s.chorusPiece k p = some t) :
    Keeps s t := by
  unfold State.chorusPiece at h
  split at h
  · dsimp only at h
    split at h
    · split at h
      · cases h
        simp
      · split at h
        · split at h
          · cases h
            simp
          · cases h
            simp
        · obtain ⟨q, hq, rfl⟩ := Option.map_eq_some_iff.mp h
          exact (s.chorusOpen_keeps k _ q hq).trans (State.setChorus_keeps _ _ _)
    · cases h
      simp
  · obtain ⟨u, hu, rfl⟩ := Option.map_eq_some_iff.mp h
    refine Keeps.trans ?_ (State.flitIn_keeps _ _ _ _ _)
    split at hu
    · dsimp only at hu
      split at hu
      · cases hu
        exact Keeps.refl s
      · split at hu
        · split at hu
          · cases hu
            exact Keeps.refl s
          · obtain ⟨q, hq, rfl⟩ := Option.map_eq_some_iff.mp hu
            exact (s.chorusOpen_keeps k _ q hq).trans (Keeps.ite (State.setChorus_keeps _ _ _) (Keeps.refl _))
        · cases hu
          simp
    · cases hu
      exact Keeps.refl s
@[simp] theorem State.chorusAdmit_keeps (n : Nat) (s : State) (k : Nat) : Keeps s (State.chorusAdmit n s k) := by
  fun_induction State.chorusAdmit n s k with
  | case3 n s k p t hp u hu ih => exact ((s.setWarden_keeps _ _).trans (State.chorusPiece_keeps _ _ _ _ hu)).trans ih
  | _ => exact Keeps.refl _
@[simp] theorem State.chorusArrive_keeps (s : State) (k : Nat) (p : Piece) : Keeps s (s.chorusArrive k p) := by
  rw [State.chorusArrive]
  refine Keeps.ite ?_ (s.setWarden_keeps _ _)
  split
  · rename_i u hu
    exact (s.chorusPiece_keeps k p u hu).trans (u.showChorus_keeps k)
  · simp
@[simp] theorem State.chorusData_keeps (s : State) (k coll chunk index : Nat) (words : List (BitVec 32)) :
    Keeps s (s.chorusData k coll chunk index words) := by
  simp [State.chorusData]
@[simp] theorem State.chorusPost_keeps (s : State) (k cls r : Nat) (acts : List EvAct) :
    Keeps s (s.chorusPost k cls r acts) := by
  simp [State.chorusPost]
@[simp] theorem State.chorusClose_keeps (s : State) (k : Nat) (c : Chorus) : Keeps s (s.chorusClose k c) := by
  simp [State.chorusClose]
@[simp] theorem State.chorusEnd_keeps (s : State) (k : Nat) (l : Collective) (c : Chorus) (verdict : Nat) (named : List Nat)
    (culprit stale : Nat) : Keeps s (s.chorusEnd k l c verdict named culprit stale) := by
  have ht : Keeps s ((s.chorusClose k c).bump (chorusCounter verdict) k .lwdDigFlagsSat k (2 ^ verdict)) :=
    (s.chorusClose_keeps k c).trans (State.bump_keeps _ _ _ _ _ _)
  unfold State.chorusEnd
  extract_lets t missing mk
  split
  · exact ht.trans (State.sample_keeps _ _ _ _)
  · exact ((ht.trans (State.foldl_keeps (fun u e => State.sendAnn_keeps _ _ _ _ _ _ _ _ _ _ _ _) _ _)).trans
      (State.chorusPost_keeps _ _ _ _ _)).trans (State.foldl_keeps (fun u e => State.chorusPost_keeps _ _ _ _ _) _ _)
  · exact ht.trans (State.chorusPost_keeps _ _ _ _ _)
  · exact ht.trans (State.chorusPost_keeps _ _ _ _ _)
@[simp] theorem State.chorusCompare_keeps (s : State) (k : Nat) (key : Nat × Nat × Nat) :
    Keeps s (s.chorusCompare k key) := by
  unfold State.chorusCompare
  split <;> simp
@[simp] theorem State.chorusDeadline_keeps (s : State) (k : Nat) (key : Nat × Nat × Nat) :
    Keeps s (s.chorusDeadline k key) := by
  unfold State.chorusDeadline
  split <;> simp
@[simp] theorem State.chorusAbandon_keeps (s : State) (k : Nat) : Keeps s (s.chorusAbandon k) := by
  have step : ∀ (t : State) (c : Chorus), Keeps t (match t.collective k c.coll with
      | some l => t.chorusEnd k l c 4 [] 3 0
      | none => t) := fun t c => by split <;> simp
  rw [State.chorusAbandon]
  exact (s.setWarden_keeps k { s.warden k with pieces := [] }).trans ((State.foldl_keeps step _ _).trans (State.showChorus_keeps _ _))
@[simp] theorem State.rollStart_keeps (s : State) (k : Nat) (key : Nat × Nat × Nat) : Keeps s (s.rollStart k key) := by
  fun_cases State.rollStart s k key <;> simp
@[simp] theorem State.rollReceive_keeps (s : State) (k : Nat) (x : Announcement) : Keeps s (s.rollReceive k x) := by
  fun_cases State.rollReceive s k x <;> simp
@[simp] theorem State.reissueGranted_keeps (s : State) (k : Nat) : Keeps s (s.reissueGranted k) := by
  unfold State.reissueGranted
  split <;> simp
@[simp] theorem State.rollAnswerSend_keeps (s : State) (k coll inst chunk receiver : Nat) (words : List (BitVec 32)) :
    Keeps s (s.rollAnswerSend k coll inst chunk receiver words) := by
  fun_cases State.rollAnswerSend s k coll inst chunk receiver words <;> simp
@[simp] theorem State.rollEnd_keeps (s : State) (k : Nat) (l : Collective) (c : Chorus) : Keeps s (s.rollEnd k l c) := by
  simp [State.rollEnd]
@[simp] theorem State.rollAnswer_keeps (s : State) (k : Nat) (x : Announcement) (data : Option (List (BitVec 32))) :
    Keeps s (s.rollAnswer k x data) := by
  fun_cases State.rollAnswer s k x data <;> simp
@[simp] theorem State.rollDeadline_keeps (s : State) (k : Nat) (key : Nat × Nat × Nat) : Keeps s (s.rollDeadline k key) := by
  unfold State.rollDeadline
  split <;> simp
@[simp] theorem State.nameNotice_keeps (s : State) (k : Nat) (x : Announcement) : Keeps s (s.nameNotice k x) := by
  simp [State.nameNotice]

/-! ### Securing -/

@[simp] theorem State.floorMissed_keeps (s : State) (step : Nat) : Keeps s (s.floorMissed step) := by
  simp [State.floorMissed]
@[simp] theorem State.skipBoundary_keeps (s : State) (step wtc hold : Nat) : Keeps s (s.skipBoundary step wtc hold) := by
  simp [State.skipBoundary]
@[simp] theorem State.beginCapture_keeps (s : State) (c : Capture) : Keeps s (s.beginCapture c) := by
  simp [State.beginCapture]
@[simp] theorem State.secureNow_keeps (s : State) (c : Capture) : Keeps s (s.secureNow c) := by simp [State.secureNow]
@[simp] theorem State.boundaryTake_keeps (s : State) : Keeps s s.boundaryTake := by
  unfold State.boundaryTake
  refine Keeps.ite (Keeps.refl s) ?_
  split
  · exact s.secureNow_keeps _
  · split
    · exact Keeps.refl s
    · refine Keeps.ite (Keeps.refl s) ?_
      extract_lets step t cad haz ren fw secures t' sec u layers
      have ht : Keeps s t := (s.put_keeps _ _ _).trans (State.put_keeps _ _ _ _)
      have hu : Keeps s u := ht.trans (Keeps.ite t.latchCfg_keeps (Keeps.refl t))
      exact hu.trans (Keeps.ite (u.secureNow_keeps _) ((u.floorMissed_keeps _).trans (State.releaseBoundary_keeps _)))
@[simp] theorem State.boundaryExpiry_keeps (s : State) : Keeps s s.boundaryExpiry := by
  unfold State.boundaryExpiry
  split <;> simp
@[simp] theorem State.readsDone_keeps (s : State) : Keeps s s.readsDone := by
  unfold State.readsDone
  repeat' split <;> simp
@[simp] theorem State.startTrickle_keeps (s : State) (src layer : Nat) : Keeps s (s.startTrickle src layer) := by
  unfold State.startTrickle
  split <;> simp
@[simp] theorem State.afterFlash_keeps (s : State) (n : Nat) (store : Bool) : Keeps s (s.afterFlash n store) := by
  simp [State.afterFlash]
@[simp] theorem State.afterPartner_keeps (s : State) (n : Nat) : Keeps s (s.afterPartner n) := by
  simp [State.afterPartner]
@[simp] theorem State.commitGen_keeps (s : State) (n : Nat) (g : Gen) (content hold : Nat) :
    Keeps s (s.commitGen n g content hold) := by
  simp [State.commitGen]
@[simp] theorem State.copyCommit_keeps (s : State) (layer : Nat) : Keeps s (s.copyCommit layer) := by
  unfold State.copyCommit
  repeat' split <;> simp
@[simp] theorem State.trickleCommit_keeps (s : State) (layer : Nat) : Keeps s (s.trickleCommit layer) := by
  unfold State.trickleCommit
  repeat' split <;> simp
@[simp] theorem State.copyValid_keeps (s : State) (n : Nat) : Keeps s (s.copyValid n) := by
  unfold State.copyValid
  split <;> simp
@[simp] theorem State.captureWithout_keeps (s : State) (layer : Nat) : Keeps s (s.captureWithout layer) := by
  unfold State.captureWithout
  split <;> simp
@[simp] theorem State.failWriting_keeps (s : State) (layer : Nat) : Keeps s (s.failWriting layer) := by
  simp [State.failWriting]
@[simp] theorem State.fallback_keeps (s : State) (layer step wtc : Nat) (coFed : Bool) :
    Keeps s (s.fallback layer step wtc coFed) := by
  simp [State.fallback]
@[simp] theorem State.reloadFail_keeps (s : State) : Keeps s s.reloadFail := by
  rw [State.reloadFail]
  split
  · refine Keeps.ite ?_ (Keeps.refl s)
    split
    · exact (((s.loseGen_keeps _).trans (State.fallback_keeps _ _ _ _ _)).trans
        (Keeps.ite (State.foldl_keeps (fun t x => t.writeRegrow_keeps _ _ _) _ _) (Keeps.refl _))).trans (State.reloadNext_keeps _)
    · exact s.reloadNext_keeps
  · exact Keeps.refl s
@[simp] theorem State.partnerCopyLost_keeps (s : State) : Keeps s s.partnerCopyLost := by simp [State.partnerCopyLost]
@[simp] theorem State.securingTimeout_keeps (s : State) (layer : Nat) : Keeps s (s.securingTimeout layer) := by
  simp [State.securingTimeout]
@[simp] theorem State.driveFailure_keeps (s : State) (d : Nat) : Keeps s (s.driveFailure d) := by
  simp [State.driveFailure]
@[simp] theorem State.adoptHeader_keeps (s : State) (slot raw : Nat) : Keeps s (s.adoptHeader slot raw) := by
  unfold State.adoptHeader
  split <;> simp
@[simp] theorem State.portReady_keeps (s : State) (d size blocks : Nat) (hs : List (Fin 4 × HeaderBytes)) :
    Keeps s (s.portReady d size blocks hs) := by
  simp [State.portReady]
@[simp] theorem State.handedLoaded_keeps (s : State) (r : Regrowth) : Keeps s (s.handedLoaded r) := by
  unfold State.handedLoaded
  dsimp only
  repeat' split <;> simp
@[simp] theorem State.reloadComplete_keeps (s : State) (data : List (Fin 445440 × Fin 768 × BitVec 1024)) :
    Keeps s (s.reloadComplete data) := by
  unfold State.reloadComplete
  repeat' split <;> simp
@[simp] theorem State.applyClosings_keeps (s : State) : Keeps s s.applyClosings := by
  rw [State.applyClosings]
  refine State.foldl_keeps (fun t c => ?_) _ s
  split
  · exact ⟨rfl, rfl⟩
  · exact Keeps.refl t
@[simp] theorem State.closingMessage_keeps (s : State) (k source fseq raw : Nat) :
    Keeps s (s.closingMessage k source fseq raw) := by
  fun_cases State.closingMessage s k source fseq raw <;> simp
@[simp] theorem State.beginSec_keeps (s : State) (a : SecAsk) : Keeps s (s.beginSec a) := by
  rw [State.beginSec]
  refine Keeps.ite (s.reissueGranted_keeps _) (Keeps.ite ?_ ?_)
  · split
    · exact ⟨rfl, rfl⟩
    · exact Keeps.refl s
  · split
    · exact ⟨rfl, rfl⟩
    · exact Keeps.refl s
@[simp] theorem State.securingGrants_keeps (s : State) : Keeps s s.securingGrants := by
  unfold State.securingGrants
  dsimp only
  repeat' split <;> simp

/-! ### Partners -/

@[simp] theorem State.setPeer_keeps (s : State) (n : Nat) (p : Option Peer) : Keeps s (s.setPeer n p) := ⟨rfl, rfl⟩
@[simp] theorem State.setRole_keeps (s : State) (e role : Nat) : Keeps s (s.setRole e role) := by
  unfold State.setRole
  split <;> simp
@[simp] theorem State.askHolder_keeps (s : State) : Keeps s s.askHolder := by
  unfold State.askHolder
  split <;> simp
@[simp] theorem State.chooseHolder_keeps (s : State) : Keeps s s.chooseHolder := by simp [State.chooseHolder]
@[simp] theorem State.partnerNotice_keeps (s : State) (port engine : Nat) : Keeps s (s.partnerNotice port engine) :=
  ⟨rfl, rfl⟩
@[simp] theorem State.captureFallback_keeps (s : State) : Keeps s s.captureFallback := by
  unfold State.captureFallback
  split <;> simp
@[simp] theorem State.holderGone_keeps (s : State) : Keeps s s.holderGone := by simp [State.holderGone]
@[simp] theorem State.holderLost_keeps (s : State) (port : Nat) : Keeps s (s.holderLost port) := by
  simp [State.holderLost]
@[simp] theorem State.clientLost_keeps (s : State) : Keeps s s.clientLost := ⟨rfl, rfl⟩
@[simp] theorem State.peerLost_keeps (s : State) (n : Nat) (p : Peer) : Keeps s (s.peerLost n p) := by
  simp [State.peerLost]
@[simp] theorem State.linkDown_keeps (s : State) (k : Nat) : Keeps s (s.linkDown k) := by simp [State.linkDown]
@[simp] theorem State.mgmtDiscard_keeps (s : State) (k : Nat) : Keeps s (s.mgmtDiscard k) := ⟨rfl, rfl⟩
@[simp] theorem State.helloReceive_keeps (s : State) (k : Nat) (m : MgmtMsg) : Keeps s (s.helloReceive k m) := by
  rw [State.helloReceive]
  refine Keeps.ite ?_ (s.mgmtDiscard_keeps k)
  dsimp only
  split
  · repeat' refine Keeps.ite ?_ ?_
    all_goals simp
  · split
    · simp
    · split <;> simp
@[simp] theorem State.helloMissed_keeps (s : State) (e : Nat) : Keeps s (s.helloMissed e) := by
  unfold State.helloMissed
  split <;> simp
@[simp] theorem State.pauseReceive_keeps (s : State) (k : Nat) (m : MgmtMsg) : Keeps s (s.pauseReceive k m) := by
  unfold State.pauseReceive
  repeat' split <;> simp
@[simp] theorem State.pausedTimeout_keeps (s : State) (e : Nat) : Keeps s (s.pausedTimeout e) := by
  unfold State.pausedTimeout
  split <;> simp
@[simp] theorem State.holdLostTimeout_keeps (s : State) : Keeps s s.holdLostTimeout := by
  unfold State.holdLostTimeout
  split <;> simp
@[simp] theorem State.voidReceive_keeps (s : State) (k : Nat) (m : MgmtMsg) : Keeps s (s.voidReceive k m) := by
  unfold State.voidReceive
  split <;> simp
@[simp] theorem State.takeClient_keeps (s : State) (m : MgmtMsg) : Keeps s (s.takeClient m) := by
  simp [State.takeClient]
@[simp] theorem State.pairReq_keeps (s : State) (k : Nat) (m : MgmtMsg) : Keeps s (s.pairReq k m) := by
  simp [State.pairReq]
@[simp] theorem State.pairAck_keeps (s : State) (k : Nat) (m : MgmtMsg) : Keeps s (s.pairAck k m) := by
  simp [State.pairAck]
@[simp] theorem State.pairNak_keeps (s : State) (k : Nat) (m : MgmtMsg) : Keeps s (s.pairNak k m) := by
  simp [State.pairNak]
@[simp] theorem State.pairEnd_keeps (s : State) (k : Nat) (m : MgmtMsg) : Keeps s (s.pairEnd k m) := by
  simp [State.pairEnd]
@[simp] theorem State.sendHello_keeps (s : State) : Keeps s s.sendHello := by
  unfold State.sendHello
  dsimp only
  repeat' split <;> simp
@[simp] theorem State.helloSend_keeps (s : State) : Keeps s s.helloSend := by simp [State.helloSend]
@[simp] theorem State.sendPause_keeps (s : State) : Keeps s s.sendPause := by simp [State.sendPause]
@[simp] theorem State.pairCommand_keeps (s : State) (cid e : Nat) : Keeps s (s.pairCommand cid e) := by
  simp [State.pairCommand]
@[simp] theorem State.zeroise_keeps (s : State) (launchEnd : Bool) : Keeps s (s.zeroise launchEnd) := by
  simp [State.zeroise]
@[simp] theorem State.zeroiseDetach_keeps (s : State) : Keeps s s.zeroiseDetach := by simp [State.zeroiseDetach]
@[simp] theorem State.zeroisePending_keeps (s : State) : Keeps s s.zeroisePending := by simp [State.zeroisePending]
@[simp] theorem State.keyLoad_keeps (s : State) (cid key : Nat) : Keeps s (s.keyLoad cid key) := by simp [State.keyLoad]

/-! ### Launch -/

@[simp] theorem State.launchReport_keeps (s : State) (code detail : Nat) : Keeps s (s.launchReport code detail) := by
  simp [State.launchReport]
@[simp] theorem State.runRecompute_keeps (s : State) : Keeps s s.runRecompute := by simp [State.runRecompute]
@[simp] theorem State.runStale_keeps (s : State) : Keeps s s.runStale := ⟨rfl, rfl⟩
@[simp] theorem State.runQuery_keeps (s : State) (cid : Nat) : Keeps s (s.runQuery cid) := by simp [State.runQuery]
@[simp] theorem State.setWeights_keeps (s : State) (cid v : Nat) : Keeps s (s.setWeights cid v) := by
  simp [State.setWeights]
@[simp] theorem State.setInput_keeps (s : State) (cid v : Nat) : Keeps s (s.setInput cid v) := by simp [State.setInput]
@[simp] theorem State.beginRunOf_keeps (s : State) : Keeps s s.beginRunOf := by
  unfold State.beginRunOf
  split <;> simp
@[simp] theorem State.programDelivered_keeps (s : State) (p : Program) : Keeps s (s.programDelivered p) := by
  simp [State.programDelivered]
@[simp] theorem State.endLaunch_keeps (s : State) : Keeps s s.endLaunch := by simp [State.endLaunch]
@[simp] theorem State.changeProgram_keeps (s : State) (p : Program) : Keeps s (s.changeProgram p) := by
  simp [State.changeProgram]
@[simp] theorem State.loadProgram_keeps (s : State) (p : Program) : Keeps s (s.loadProgram p) := by
  simp [State.loadProgram]
@[simp] theorem State.loseSync_keeps (s : State) : Keeps s s.loseSync := by simp [State.loseSync]
@[simp] theorem State.wtcExchange_keeps (s : State) (k hops : Nat) (offset : Int) :
    Keeps s (s.wtcExchange k hops offset) := by
  rw [State.wtcExchange]
  refine Keeps.ite (Keeps.refl s) ?_
  extract_lets cur parent mine t u
  have ht : Keeps s t := by simp [t]
  have hu : Keeps s u := by simp [u, ht]
  refine Keeps.ite (Keeps.ite s.loseSync_keeps (Keeps.refl s)) (Keeps.ite (Keeps.ite ?_ (hu.trans ?_)) (Keeps.refl s))
  · simp [ht]
  · simp
@[simp] theorem State.wtcLoss_keeps (s : State) : Keeps s s.wtcLoss := by simp [State.wtcLoss]
@[simp] theorem State.launchFlags_keeps (s : State) : Keeps s s.launchFlags := by
  unfold State.launchFlags
  repeat' split <;> simp
@[simp] theorem State.sendMarkers_keeps (s : State) (ready : Bool) : Keeps s (s.sendMarkers ready) := ⟨rfl, rfl⟩
@[simp] theorem State.closeBarrier_keeps (s : State) : Keeps s s.closeBarrier := ⟨rfl, rfl⟩
@[simp] theorem State.refuseLaunch_keeps (s : State) (cid : Option Nat) (multi : Bool) (code detail : Nat) :
    Keeps s (s.refuseLaunch cid multi code detail) := by
  unfold State.refuseLaunch
  repeat' split <;> simp
@[simp] theorem State.refuseRollback_keeps (s : State) (multi : Bool) (code detail : Nat) :
    Keeps s (s.refuseRollback multi code detail) := by
  simp [State.refuseRollback]
@[simp] theorem State.refuseBarrier_keeps (s : State) (b : Nat × Bool × Bool) : Keeps s (s.refuseBarrier b) := by
  simp [State.refuseBarrier]
@[simp] theorem State.readyDeadline_keeps (s : State) : Keeps s s.readyDeadline := by
  unfold State.readyDeadline
  split <;> simp
@[simp] theorem State.readyMarker_keeps (s : State) (k : Nat) : Keeps s (s.readyMarker k) := by simp [State.readyMarker]
@[simp] theorem State.readyCheck_keeps (s : State) : Keeps s s.readyCheck := by
  unfold State.readyCheck
  split <;> simp
@[simp] theorem State.abortMarker_keeps (s : State) (k : Nat) : Keeps s (s.abortMarker k) := by
  unfold State.abortMarker
  split <;> simp
@[simp] theorem State.launchCommand_keeps (s : State) (cid go : Nat) (multi : Bool) :
    Keeps s (s.launchCommand cid go multi) := by
  fun_cases State.launchCommand s cid go multi <;> simp
@[simp] theorem State.fixSeeds_keeps (s : State) (go : Nat) : Keeps s (s.fixSeeds go) := by simp [State.fixSeeds]
@[simp] theorem State.restartLfsrs_keeps (s : State) : Keeps s s.restartLfsrs := ⟨rfl, rfl⟩
@[simp] theorem State.clearChoruses_keeps (s : State) : Keeps s s.clearChoruses := by simp [State.clearChoruses]
@[simp] theorem State.seedPicks_keeps (s : State) : Keeps s s.seedPicks := by simp [State.seedPicks]
@[simp] theorem State.securingAtLaunch_keeps (s : State) : Keeps s s.securingAtLaunch := by
  simp [State.securingAtLaunch]
@[simp] theorem State.beginProgram_keeps (s : State) (go : Nat) : Keeps s (s.beginProgram go) := by
  unfold State.beginProgram
  dsimp only
  repeat' split <;> simp
@[simp] theorem State.takeSettings_keeps (s : State) : Keeps s s.takeSettings := ⟨rfl, rfl⟩
@[simp] theorem State.releaseLaunch_keeps (s : State) : Keeps s s.releaseLaunch := by
  unfold State.releaseLaunch
  dsimp only
  repeat' split <;> simp
@[simp] theorem State.launchRelease_keeps (s : State) : Keeps s s.launchRelease := by simp [State.launchRelease]
@[simp] theorem State.startReload_keeps (s : State) : Keeps s s.startReload := by
  unfold State.startReload
  split <;> simp
@[simp] theorem State.rollbackCommand_keeps (s : State) (cid step go : Nat) : Keeps s (s.rollbackCommand cid step go) := by
  simp [State.rollbackCommand]
@[simp] theorem State.recoveryChecks_keeps (s : State) : Keeps s s.recoveryChecks := by
  fun_cases State.recoveryChecks s <;> simp
@[simp] theorem State.endRecovery_keeps (s : State) : Keeps s s.endRecovery := by simp [State.endRecovery]
@[simp] theorem State.releaseRollback_keeps (s : State) (r : Rollback) : Keeps s (s.releaseRollback r) := by
  simp [State.releaseRollback]
@[simp] theorem State.rollbackRelease_keeps (s : State) : Keeps s s.rollbackRelease := by
  unfold State.rollbackRelease
  split <;> simp

/-! ### HostPort -/

@[simp] theorem State.msixFire_keeps (s : State) : Keeps s s.msixFire := by simp [State.msixFire]
@[simp] theorem State.msixHeader_keeps (s : State) : Keeps s s.msixHeader := by simp [State.msixHeader]
@[simp] theorem State.msixEnd_keeps (s : State) : Keeps s s.msixEnd := by simp [State.msixEnd]
@[simp] theorem State.writeMsg_keeps (s : State) (m : Msg) : Keeps s (s.writeMsg m) := by simp [State.writeMsg]
@[simp] theorem State.tellDiscards_keeps (s : State) : Keeps s s.tellDiscards := by simp [State.tellDiscards]
@[simp] theorem State.ringWrite_keeps (s : State) : Keeps s s.ringWrite := by
  unfold State.ringWrite
  split <;> simp
@[simp] theorem State.ringFlush_keeps (n : Nat) (s : State) : Keeps s (State.ringFlush n s) := by
  fun_induction State.ringFlush n s <;> simp [*]
@[simp] theorem State.ringHead_keeps (s : State) (v : Nat) : Keeps s (s.ringHead v) := by simp [State.ringHead]
@[simp] theorem State.moveHead_keeps (s : State) (h : Nat) : Keeps s (s.moveHead h) := ⟨rfl, rfl⟩
@[simp] theorem State.forgetCids_keeps (s : State) : Keeps s s.forgetCids := ⟨rfl, rfl⟩
@[simp] theorem State.portIdle_keeps (s : State) : Keeps s s.portIdle := ⟨rfl, rfl⟩
@[simp] theorem State.endAttachment_keeps (s : State) : Keeps s s.endAttachment := by simp [State.endAttachment]
@[simp] theorem State.detachNow_keeps (s : State) (cid : Nat) : Keeps s (s.detachNow cid) := by simp [State.detachNow]
@[simp] theorem State.detachCheck_keeps (s : State) : Keeps s s.detachCheck := by
  unfold State.detachCheck
  split <;> simp
@[simp] theorem State.attachBegin_keeps (s : State) (cid seq base units : Nat) (msix : Bool) :
    Keeps s (s.attachBegin cid seq base units msix) := by
  simp [State.attachBegin]
@[simp] theorem State.attachFresh_keeps (s : State) (cid seq base units versions : Nat) (msix : Bool) :
    Keeps s (s.attachFresh cid seq base units versions msix) := by
  simp [State.attachFresh]
@[simp] theorem State.attachPlain_keeps (s : State) (cid seq base units versions : Nat) (msix : Bool) :
    Keeps s (s.attachPlain cid seq base units versions msix) :=
  Keeps.ite (Keeps.refl s) (Keeps.ite (s.asHost_keeps _ _ _ (fun t => t.respond_keeps _ _ _ _ _)) (s.attachFresh_keeps _ _ _ _ _ _))
@[simp] theorem State.attachTakeover_keeps (s : State) (cid seq base units versions : Nat) (msix : Bool) :
    Keeps s (s.attachTakeover cid seq base units versions msix) := by
  have answer : ∀ st, Keeps s (s.asHost 0x01 cid (fun t => t.respond 0x01 cid st 1 0)) :=
    fun st => s.asHost_keeps _ _ _ (fun t => t.respond_keeps _ _ _ _ _)
  refine Keeps.ite (Keeps.refl s) (Keeps.ite (s.attachFresh_keeps _ _ _ _ _ _) (Keeps.ite (answer 7) (Keeps.ite (answer 4) ?_)))
  simp
@[simp] theorem State.linkReset_keeps (s : State) : Keeps s s.linkReset := by simp [State.linkReset]
@[simp] theorem State.apWrite_keeps (s : State) (u o : Nat) (bs : List Nat) : Keeps s (s.apWrite u o bs) := by
  simp [State.apWrite]
@[simp] theorem State.freeAp_keeps (s : State) (h n : Nat) : Keeps s (s.freeAp h n) := by
  induction n with
  | zero => exact Keeps.refl s
  | succ n ih => exact ih
@[simp] theorem State.commandTake_keeps (s : State) : Keeps s s.commandTake := by
  have ht : ∀ h n, Keeps s (s.freeAp h n) := s.freeAp_keeps
  rw [State.commandTake]
  refine Keeps.ite (Keeps.ite ?_ (Keeps.ite ?_ ?_)) (Keeps.refl s)
  · refine Keeps.ite ?_ ?_
    · exact ((ht _ _).trans ((State.moveHead_keeps _ _).trans (State.put_keeps _ _ _ _))).trans (State.rejectBusy_keeps _ _ _ _)
    · exact ((ht _ _).trans ((State.moveHead_keeps _ _).trans (State.put_keeps _ _ _ _))).trans (State.setTaken_keeps _ _)
  · have hu : ∀ cid sq base units versions msix h n, Keeps s ((s.freeAp h n).attachFresh cid sq base units versions msix) :=
      fun cid sq base units versions msix h n => (ht h n).trans (State.attachFresh_keeps _ _ _ _ _ _ _)
    exact Keeps.ite ((hu _ _ _ _ _ _ _ _).trans (State.moveHead_keeps _ _)) (hu _ _ _ _ _ _ _ _)
  · exact (ht _ _).trans (State.bump_keeps _ _ _ _ _ _)
@[simp] theorem State.apStuck_keeps (s : State) : Keeps s s.apStuck := by simp [State.apStuck]
@[simp] theorem State.rejectRange_keeps (s : State) : Keeps s s.rejectRange := by
  unfold State.rejectRange
  split <;> simp
@[simp] theorem State.overloadTick_keeps (s : State) : Keeps s s.overloadTick := by simp [State.overloadTick]
@[simp] theorem State.overload_keeps (s : State) : Keeps s s.overload := by simp [State.overload]
@[simp] theorem State.overloadEnd_keeps (s : State) : Keeps s s.overloadEnd := by simp [State.overloadEnd]

/-! ### SelfTest -/

@[simp] theorem State.takePacks_keeps (s : State) (f : Nat) : Keeps s (s.takePacks f).2 :=
  Keeps.ite (Keeps.refl s) (s.setField_keeps _ _)
@[simp] theorem State.newVisit_keeps (s : State) (t : Nat) (l : Option Nat) (path mode : Nat) (owner : VisitOwner) (spare : Nat) :
    Keeps s (s.newVisit t l path mode owner spare).2 := by
  have h : ∀ c : Bool, Keeps s (if c then s.takePacks (tileField t) else ((0, 0), s)).2 := fun c => by
    cases c
    · exact Keeps.refl s
    · exact s.takePacks_keeps _
  unfold State.newVisit
  extract_lets old takes
  specialize h takes
  generalize (if takes then s.takePacks (tileField t) else ((0, 0), s)) = p at h ⊢
  obtain ⟨⟨k, i⟩, u⟩ := p
  cases old <;> exact h
@[simp] theorem State.addVisit_keeps (s : State) (v : Visit) (st : Nat) : Keeps s (s.addVisit v st) := ⟨rfl, rfl⟩
@[simp] theorem State.closeCollar_keeps (s : State) (t : Nat) : Keeps s (s.closeCollar t) := ⟨rfl, rfl⟩
@[simp] theorem State.visitAfter_keeps (s : State) (v : Visit) : Keeps s (s.visitAfter v) := by simp [State.visitAfter]
@[simp] theorem State.nextStep_keeps (s : State) (v : Visit) : Keeps s (s.nextStep v) := by
  fun_cases State.nextStep s v <;> simp
theorem State.startVisit_keeps (s : State) (t mode : Nat) (owner : VisitOwner) (u : State) (h : s.startVisit t mode owner = some u) :
    Keeps s u := by
  rw [State.startVisit] at h
  have hv := fun l path sp => s.newVisit_keeps t l path mode owner sp
  split at h
  · cases h
  · split at h
    · split at h
      · cases h
      · split at h
        · cases h
          exact ((hv _ _ _).trans (State.addVisit_keeps _ _ _)).trans (State.startMove_keeps _ _ _ _ _)
        · cases h
    · cases h
      exact ((hv _ _ _).trans (State.addVisit_keeps _ _ _)).trans ((State.closeCollar_keeps _ _).trans (State.nextStep_keeps _ _))
@[simp] theorem State.visitSlot_keeps (s : State) (f : Nat) : Keeps s (s.visitSlot f) := by
  have hu : ∀ x n, Keeps s { s.setField f x with freeCtr := n } := fun x n => ⟨rfl, rfl⟩
  simp only [State.visitSlot]
  refine Keeps.ite ?_ (Keeps.refl s)
  split
  · exact (hu _ _).trans (Option.getD_keeps (fun v hv => State.startVisit_keeps _ _ _ _ v hv) (Keeps.refl _))
  · exact hu _ _
@[simp] theorem State.visitLate_keeps (s : State) (u : Nat) : Keeps s (s.visitLate u) := by simp [State.visitLate]
@[simp] theorem State.orderVisit_keeps (s : State) (t mode : Nat) (owner : VisitOwner) :
    Keeps s (s.orderVisit t mode owner) := by
  rw [State.orderVisit]
  split
  · rename_i u hu
    exact s.startVisit_keeps t mode owner u hu
  · exact Keeps.refl s
@[simp] theorem State.resumeOrders_keeps (s : State) : Keeps s s.resumeOrders := by
  have drop : ∀ (t : State) (st : SelfTest), Keeps t { t with st := st } := fun t st => ⟨rfl, rfl⟩
  rw [State.resumeOrders]
  refine State.foldl_keeps (fun t o => ?_) _ s
  refine Option.getD_keeps (fun u hu => ?_) (Keeps.refl t)
  exact (drop _ _).trans (State.startVisit_keeps _ _ _ _ u hu)
@[simp] theorem State.resumeItems_keeps (s : State) : Keeps s s.resumeItems := by simp [State.resumeItems]
@[simp] theorem State.stRun_keeps (s : State) (t : Nat) : Keeps s (s.stRun t) := by simp [State.stRun]
@[simp] theorem State.testCommand_keeps (s : State) (cid t m : Nat) : Keeps s (s.testCommand cid t m) := by
  simp [State.testCommand]
@[simp] theorem State.windowOpen_keeps (s : State) (t q context : Nat) : Keeps s (s.windowOpen t q context) := by
  unfold State.windowOpen
  repeat' split <;> simp
@[simp] theorem State.saveDone_keeps (s : State) (t : Nat) : Keeps s (s.saveDone t) := by
  unfold State.saveDone
  split <;> simp
@[simp] theorem State.recordItem_keeps (s : State) (v : Visit) (r : ItemResult) : Keeps s (s.recordItem v r).2 := by
  unfold State.recordItem
  cases r with
  | march b => simp
  | slice m g => dsimp only; split <;> simp
  | pack m g =>
    dsimp only
    split
    · split <;> simp
    · simp
@[simp] theorem State.itemEnd_keeps (s : State) (t : Nat) (r : ItemResult) : Keeps s (s.itemEnd t r) := by
  unfold State.itemEnd
  split <;> simp
@[simp] theorem State.reorder_keeps (s : State) (v : Visit) : Keeps s (s.reorder v) := by simp [State.reorder]
@[simp] theorem State.visitFinish_keeps (s : State) (v : Visit) : Keeps s (s.visitFinish v) := by
  simp [State.visitFinish]
@[simp] theorem State.restoreDone_keeps (s : State) (t : Nat) : Keeps s (s.restoreDone t) := by
  unfold State.restoreDone
  split <;> simp
@[simp] theorem State.afterClear_keeps (s : State) (v : Visit) : Keeps s (s.afterClear v) := by
  unfold State.afterClear
  split <;> simp
@[simp] theorem State.clearDone_keeps (s : State) (t : Nat) : Keeps s (s.clearDone t) := by
  unfold State.clearDone
  split <;> simp
@[simp] theorem State.releaseHeld_keeps (s : State) (f : Nat) : Keeps s (s.releaseHeld f) := by simp [State.releaseHeld]
@[simp] theorem State.moveDone_keeps (s : State) (t : Nat) : Keeps s (s.moveDone t) := by
  unfold State.moveDone
  repeat' split <;> simp
@[simp] theorem State.visitArrival_keeps (s : State) (f rec : Nat) : Keeps s (s.visitArrival f rec) := by
  simp [State.visitArrival]
@[simp] theorem State.sramCe_keeps (s : State) (t b n : Nat) : Keeps s (s.sramCe t b n) := by simp [State.sramCe]
@[simp] theorem State.ceClear_keeps (s : State) (f : Nat) : Keeps s (s.ceClear f) := by simp [State.ceClear]

/-! ### Resets -/

@[simp] theorem State.abortOwner_keeps (s : State) (o : VisitOwner) (t : Nat) : Keeps s (s.abortOwner o t) := by
  unfold State.abortOwner
  split <;> simp
@[simp] theorem State.endVisit_keeps (s : State) (v : Visit) : Keeps s (s.endVisit v) := by simp [State.endVisit]
@[simp] theorem State.endVisits_keeps (s : State) : Keeps s s.endVisits := by simp [State.endVisits]
@[simp] theorem State.endCapture_keeps (s : State) : Keeps s s.endCapture := by
  unfold State.endCapture
  split <;> simp
@[simp] theorem State.abortStarted_keeps (s : State) : Keeps s s.abortStarted := by
  unfold State.abortStarted
  split <;> simp
@[simp] theorem State.endCompute_keeps (s : State) : Keeps s s.endCompute := by
  unfold State.endCompute
  repeat' split <;> simp
@[simp] theorem State.computeClear_keeps (s : State) : Keeps s s.computeClear := by simp [State.computeClear]
@[simp] theorem State.hold_keeps (s : State) (d : Domain) : Keeps s (s.hold d) := by simp [State.hold]
@[simp] theorem State.assertCompute_keeps (s : State) : Keeps s s.assertCompute := by simp [State.assertCompute]
@[simp] theorem State.assertStation_keeps (s : State) (f : Nat) : Keeps s (s.assertStation f) := by
  simp [State.assertStation]
@[simp] theorem State.assertPort_keeps (s : State) (k : Nat) : Keeps s (s.assertPort k) := by simp [State.assertPort]
@[simp] theorem State.dropMolts_keeps (s : State) : Keeps s s.dropMolts := by simp [State.dropMolts]
@[simp] theorem State.keeperClear_keeps (s : State) : Keeps s s.keeperClear := by simp [State.keeperClear]
@[simp] theorem State.assertKeeper_keeps (s : State) : Keeps s s.assertKeeper := by simp [State.assertKeeper]
@[simp] theorem State.assertReset_keeps (s : State) (d : Domain) : Keeps s (s.assertReset d) := by
  unfold State.assertReset
  split <;> simp
@[simp] theorem State.resetNow_keeps (s : State) (d : Domain) : Keeps s (s.resetNow d) := by
  unfold State.resetNow
  split <;> simp
@[simp] theorem State.requestCompute_keeps (s : State) : Keeps s s.requestCompute := by
  have h := s.put_keeps .aoiResetCauseComputeHost 0 1
  exact Keeps.ite h (h.trans (Keeps.ite (State.captureReset_keeps _ _ _ _ _ _) (State.resetNow_keeps _ _)))
@[simp] theorem State.requestKeeper_keeps (s : State) (cause : Nat) : Keeps s (s.requestKeeper cause) := by
  simp [State.requestKeeper]
@[simp] theorem State.requestStation_keeps (s : State) (f cause : Nat) : Keeps s (s.requestStation f cause) := by
  simp [State.requestStation]
@[simp] theorem State.portWaits_keeps (s : State) (k : Nat) : Keeps s (s.portWaits k) := by
  fun_cases State.portWaits s k <;> simp
@[simp] theorem State.requestPort_keeps (s : State) (k : Nat) : Keeps s (s.requestPort k) := by simp [State.requestPort]
@[simp] theorem State.afterMolt_keeps (s : State) (d : Domain) : Keeps s (s.afterMolt d) := by
  unfold State.afterMolt
  repeat' split <;> simp
@[simp] theorem State.placeMolt_keeps (s : State) (r : MoltRun) (m : MoltSlot) : Keeps s (s.placeMolt r m) := by
  simp [State.placeMolt]
@[simp] theorem State.domUp_keeps (s : State) (d : Domain) : Keeps s (s.domUp d) := by simp [State.domUp]
@[simp] theorem State.tellMolts_keeps (s : State) (p : MoltSlot → Bool) : Keeps s (s.tellMolts p) := by
  refine State.foldl_keeps (fun t n => ?_) _ s
  split <;> simp
@[simp] theorem State.resetCommand_keeps (s : State) (cid : Nat) (d : Domain) (go : State → State) (h : ∀ t, Keeps t (go t)) :
    Keeps s (s.resetCommand cid d go) := (s.setDomInfo_keeps _ _).trans (h _)
@[simp] theorem State.resettingCheck_keeps (s : State) : Keeps s s.resettingCheck := by
  unfold State.resettingCheck
  split <;> simp

/-! ### Images -/

@[simp] theorem State.packPush_keeps (s : State) (cid len : Nat) (readOk : Bool) (l : List Byte) :
    Keeps s (s.packPush cid len readOk l) := by
  fun_cases State.packPush s cid len readOk l <;> simp +zetaDelta
@[simp] theorem State.packWrite_keeps (s : State) : Keeps s s.packWrite := by
  unfold State.packWrite
  repeat' split <;> simp
@[simp] theorem State.packsVerify_keeps (s : State) : Keeps s (s.packsVerify).2 := by simp [State.packsVerify]
@[simp] theorem State.loadCore_keeps (s : State) (c : Nat) : Keeps s (s.loadCore c) := ⟨rfl, rfl⟩
@[simp] theorem State.fwCommit_keeps (s : State) : Keeps s s.fwCommit := by
  unfold State.fwCommit
  repeat' split <;> simp
@[simp] theorem State.fwWrite_keeps (s : State) : Keeps s s.fwWrite := by
  unfold State.fwWrite
  split <;> simp
@[simp] theorem State.scanReset_keeps (s : State) (err : Bool) : Keeps s (s.scanReset err) := by simp [State.scanReset]
@[simp] theorem State.scanOpen_keeps (s : State) (mask : Nat) : Keeps s (s.scanOpen mask) := by simp [State.scanOpen]
@[simp] theorem State.scanLate_keeps (s : State) : Keeps s s.scanLate := by simp [State.scanLate]
@[simp] theorem State.scanWrite_keeps (s : State) (v : Nat) : Keeps s (s.scanWrite v) := by simp [State.scanWrite]

/-! ### Stages -/

@[simp] theorem State.stageReport_keeps (s : State) (n : Nat) (halted : Bool) (code detail : Nat) :
    Keeps s (s.stageReport n halted code detail) := by
  simp [State.stageReport]
@[simp] theorem State.stageHalt_keeps (s : State) (n code detail : Nat) : Keeps s (s.stageHalt n code detail) := by
  simp [State.stageHalt]
@[simp] theorem State.haltResume_keeps (s : State) : Keeps s s.haltResume := by
  have h : ∀ (b : Boot) l, Keeps s (({ s with boot := b } : State).puts l) := fun b l => State.puts_keeps _ l
  rw [State.haltResume]
  exact Keeps.ite ((h _ _).trans (State.setRec_keeps _ _)) (h _ _)
@[simp] theorem State.startStations_keeps (s : State) : Keeps s s.startStations := by simp [State.startStations]
@[simp] theorem State.enterStage_keeps (s : State) (n : Nat) : Keeps s (s.enterStage n) := by
  unfold State.enterStage
  split <;> simp
@[simp] theorem State.restage_keeps (s : State) : Keeps s s.restage := by simp [State.restage]
theorem State.pendingReset_keeps (s t : State) (h : s.pendingReset = some t) : Keeps s t := by
  unfold State.pendingReset at h
  split at h
  · rw [← Option.some.inj h]
    simp
  · split at h
    · split at h
      · rw [← Option.some.inj h]
        exact s.assertCompute_keeps
      · cases h
    · cases h
@[simp] theorem State.endStage_keeps (s : State) (n code detail : Nat) : Keeps s (s.endStage n code detail) := by
  unfold State.endStage
  extract_lets t boot u v
  have hu : Keeps s u := by simp [u, t]
  split
  · rename_i w hw
    exact hu.trans (u.pendingReset_keeps w hw)
  · exact hu.trans ((Keeps.ite u.assertCompute_keeps (Keeps.refl u)).trans (State.enterStage_keeps _ _))
@[simp] theorem State.readHistory_keeps (s : State) : Keeps s (s.readHistory).2.2 := by
  unfold State.readHistory
  split <;> simp
@[simp] theorem State.restoreEntry_keeps (s : State) (r : HistRec) : Keeps s (s.restoreEntry r) := by
  simp [State.restoreEntry]
@[simp] theorem State.rebuildLedger_keeps (s : State) : Keeps s s.rebuildLedger := by simp [State.rebuildLedger]
@[simp] theorem State.fuseEntry_keeps (s : State) (k : UnitKey) : Keeps s (s.fuseEntry k) := by
  fun_cases State.fuseEntry s k <;> simp
@[simp] theorem State.applyFuses_keeps (s : State) (new : Bool) : Keeps s (s.applyFuses new) := by
  simp [State.applyFuses]
@[simp] theorem State.syncLanes_keeps (s : State) (reopen : Bool) : Keeps s (s.syncLanes reopen) := by
  simp [State.syncLanes]
@[simp] theorem State.retestHist_keeps (s : State) (k : UnitKey) (st origin : Nat) (failed det : Bool) (ev created : Nat) :
    Keeps s (s.retestHist k st origin failed det ev created) := by
  simp [State.retestHist]
@[simp] theorem State.settleEntry_keeps (s : State) (i : Nat) (e : Entry) : Keeps s (s.settleEntry i e) := by
  simp [State.settleEntry]
@[simp] theorem State.settleNew_keeps (s : State) (k : UnitKey) : Keeps s (s.settleNew k) := by
  rw [State.settleNew]
  have h := s.roomFor_keeps
  generalize s.roomFor = p at h ⊢
  obtain ⟨o, u⟩ := p
  refine Keeps.trans h ?_
  cases o <;> simp
@[simp] theorem State.settle_keeps (s : State) (p : UnitKey → Bool) : Keeps s (s.settle p) := by simp [State.settle]
@[simp] theorem State.dispute_keeps (s : State) (f : Nat) : Keeps s (s.dispute f) := by
  rw [State.dispute]
  have h : Keeps s ((s.holdField f).put .fstReconcileDisputed f 1) := by simp
  refine h.trans ?_
  generalize (s.holdField f).put .fstReconcileDisputed f 1 = t
  dsimp only
  split
  · simp
  · have h := t.roomFor_keeps
    generalize t.roomFor = p at h ⊢
    obtain ⟨o, u⟩ := p
    refine Keeps.trans h ?_
    cases o <;> simp
@[simp] theorem State.settleOrphans_keeps (s : State) : Keeps s s.settleOrphans := by simp [State.settleOrphans]
@[simp] theorem State.clearReconcile_keeps (s : State) : Keeps s s.clearReconcile := ⟨rfl, rfl⟩
@[simp] theorem State.reconcile_keeps (s : State) : Keeps s (s.reconcile).2 := by simp [State.reconcile]
@[simp] theorem placeLogical_keeps (f : Nat) (p : Bool × State) (l : Nat) : Keeps p.2 (placeLogical f p l).2 := by
  rw [placeLogical]
  split <;> exact Keeps.refl _
@[simp] theorem State.setShort_keeps (s : State) (f : Nat) : Keeps s (s.setShort f) := by simp [State.setShort]
@[simp] theorem State.syncCollars_keeps (s : State) : Keeps s s.syncCollars := by simp [State.syncCollars]
@[simp] theorem State.buildMap_keeps (s : State) : Keeps s s.buildMap := by
  unfold State.buildMap
  extract_lets t
  have h := State.foldl_snd_keeps (f := fun (acc : List Nat × State) f =>
    let r := (acc.2.homelessIn f).foldl (placeLogical f) (false, acc.2)
    (if r.1 then acc.1 ++ [f] else acc.1, r.2)) (fun p f => State.foldl_snd_keeps (fun q l => placeLogical_keeps f q l) _ (false, p.2))
    ((List.range 32).filter (fun f => !t.fieldOut f)) ([], t)
  split
  rename_i short u e
  rw [e] at h
  exact Keeps.trans (t := t) ⟨rfl, rfl⟩ (h.trans (by simp))
@[simp] theorem State.undropField_keeps (s : State) (f : Nat) : Keeps s (s.undropField f) := by simp [State.undropField]
@[simp] theorem State.syncFields_keeps (s : State) : Keeps s s.syncFields := by simp [State.syncFields]
@[simp] theorem State.stage5Rest_keeps (s : State) : Keeps s s.stage5Rest := by simp [State.stage5Rest]
@[simp] theorem State.stage5_keeps (s : State) : Keeps s s.stage5 := by simp [State.stage5]
@[simp] theorem State.haltAnswered_keeps (s : State) : Keeps s s.haltAnswered := by
  rw [State.haltAnswered]
  refine Keeps.ite ?_ (Keeps.refl s)
  split
  · rename_i t ht
    exact s.pendingReset_keeps t ht
  · refine Keeps.ite ?_ (Keeps.refl s)
    exact (s.haltResume_keeps.trans (State.foldl_keeps (fun t f => t.settle_keeps _) _ _)).trans (State.stage5Rest_keeps _)
@[simp] theorem State.trainPort_keeps (s : State) (k lanes : Nat) : Keeps s (s.trainPort k lanes) := ⟨rfl, rfl⟩
@[simp] theorem State.portTrained_keeps (s : State) (k : Nat) : Keeps s (s.portTrained k) := by simp [State.portTrained]
@[simp] theorem State.helloAfter_keeps (s : State) : Keeps s s.helloAfter := by simp [State.helloAfter]
@[simp] theorem State.laneFail_keeps (s : State) (k l : Nat) : Keeps s (s.laneFail k l) := by simp [State.laneFail]
@[simp] theorem State.startRetrain_keeps (n n2 : Nat) (s : State) : Keeps s (State.startRetrain n n2 s) := by
  fun_induction State.startRetrain n n2 s <;> simp [*]
@[simp] theorem State.retrainTrigger_keeps (s : State) (k l : Nat) (lost : Bool) (replays : Nat) :
    Keeps s (s.retrainTrigger k l lost replays) := by
  simp [State.retrainTrigger]
@[simp] theorem State.retrainDone_keeps (s : State) (k : Nat) (passed : Bool) : Keeps s (s.retrainDone k passed) := by
  simp [State.retrainDone]

/-! ### Bringup -/

@[simp] theorem State.aoiOff_keeps (s : State) : Keeps s s.aoiOff := ⟨rfl, rfl⟩
@[simp] theorem State.holdStations_keeps (s : State) : Keeps s s.holdStations := by simp [State.holdStations]
@[simp] theorem State.powerUp_keeps (s : State) : Keeps s s.powerUp := by
  unfold State.powerUp
  dsimp only
  repeat' split <;> simp
@[simp] theorem State.powerFall_keeps (s : State) : Keeps s s.powerFall := by simp [State.powerFall]
@[simp] theorem State.powerBack_keeps (s : State) : Keeps s s.powerBack := by simp [State.powerBack]
@[simp] theorem State.stage0_keeps (s : State) (feed sa : Nat) : Keeps s (s.stage0 feed sa) := by
  unfold State.stage0
  split <;> simp
@[simp] theorem State.powerUnstable_keeps (s : State) (held : Nat) : Keeps s (s.powerUnstable held) := by
  simp [State.powerUnstable]
@[simp] theorem State.stage1_keeps (s : State) (readOk : Bool) : Keeps s (s.stage1 readOk) := by simp [State.stage1]
@[simp] theorem State.keeperAgain_keeps (s : State) (n : Nat) : Keeps s (s.keeperAgain n) := by simp [State.keeperAgain]
@[simp] theorem State.keeperFail_keeps (s : State) (detail : Nat) : Keeps s (s.keeperFail detail) := by
  simp [State.keeperFail]
@[simp] theorem State.coldMemories_keeps (s : State) : Keeps s s.coldMemories := ⟨rfl, rfl⟩
@[simp] theorem State.startKeeperCores_keeps (s : State) (slot : Nat) (v : FwImage) :
    Keeps s (s.startKeeperCores slot v) := by
  simp [State.startKeeperCores]
@[simp] theorem State.stage2_keeps (s : State) (passed : Bool) (failTest : Nat) : Keeps s (s.stage2 passed failTest) := by
  unfold State.stage2
  dsimp only
  repeat' split <;> simp
@[simp] theorem State.stationFails_keeps (s : State) (f : Nat) : Keeps s (s.stationFails f) := by
  simp [State.stationFails]
@[simp] theorem State.stationStarts_keeps (s : State) (f : Nat) : Keeps s (s.stationStarts f) := by
  simp [State.stationStarts]
@[simp] theorem State.countOwed_keeps (s : State) (f : Nat) : Keeps s (s.countOwed f) := by
  fun_cases State.countOwed s f <;> simp
@[simp] theorem State.stationReady_keeps (s : State) (f : Nat) : Keeps s (s.stationReady f) := by
  simp [State.stationReady]
@[simp] theorem State.stage3One_keeps (s : State) (f : Nat) (failed : Bool) : Keeps s (s.stage3One f failed) := by
  simp [State.stage3One]
@[simp] theorem State.stage3_keeps (s : State) (failed : Nat) : Keeps s (s.stage3 failed) := by simp [State.stage3]
@[simp] theorem State.fieldTested_keeps (s : State) (f : Nat) : Keeps s (s.fieldTested f) := ⟨rfl, rfl⟩
@[simp] theorem State.stage4_keeps (s : State) (fails laneFails : List UnitKey) : Keeps s (s.stage4 fails laneFails) := by
  simp [State.stage4]
@[simp] theorem State.stage6_keeps (s : State) (trained : List (Fin 16 × BitVec 32)) : Keeps s (s.stage6 trained) := by
  simp [State.stage6]
@[simp] theorem State.discovered_keeps (s : State) : Keeps s s.discovered := by simp [State.discovered]
@[simp] theorem State.recoveryStaged_keeps (s : State) : Keeps s s.recoveryStaged := by
  unfold State.recoveryStaged
  repeat' split <;> simp
@[simp] theorem State.stage7_keeps (s : State) : Keeps s s.stage7 := by
  unfold State.stage7
  extract_lets t
  have ht : Keeps s t := (s.stageReport_keeps 7 false 0 0).trans (State.puts_keeps _ _)
  refine ht.trans ?_
  split
  · rename_i v hv
    exact t.pendingReset_keeps v hv
  · simp +zetaDelta
@[simp] theorem State.stageAgain_keeps (s : State) (n : Nat) : Keeps s (s.stageAgain n) := by
  unfold State.stageAgain
  repeat' split <;> simp
@[simp] theorem State.stageLate_keeps (s : State) : Keeps s s.stageLate := by
  unfold State.stageLate
  repeat' split <;> simp
@[simp] theorem State.release_keeps (s : State) (d : Domain) : Keeps s (s.release d) := by
  fun_cases State.release s d <;> simp
@[simp] theorem State.tripRelease_keeps (s : State) : Keeps s s.tripRelease := by
  unfold State.tripRelease
  refine Keeps.ite ?_ (Keeps.refl s)
  extract_lets t u
  have ht : Keeps s t := s.put_keeps _ _ _
  have hu : Keeps s u := ht.trans (t.requestRecovery_keeps _ _ _ _)
  exact Keeps.ite (Keeps.ite (hu.trans u.restage_keeps) hu) (Keeps.ite (ht.trans (t.setDom_keeps _ _)) ht)

/-! ### Hangs -/

@[simp] theorem State.raiseHang_keeps (s : State) (h : HangInfo) : Keeps s (s.raiseHang h) := ⟨rfl, rfl⟩
@[simp] theorem State.stallLimit_keeps (s : State) (t : Nat) (i : StallInfo) : Keeps s (s.stallLimit t i) := by
  simp [State.stallLimit]
@[simp] theorem State.stallArrives_keeps (s : State) (t : Nat) (i : StallInfo) : Keeps s (s.stallArrives t i) := by
  fun_cases State.stallArrives s t i <;> simp
@[simp] theorem State.namingClose_keeps (s : State) : Keeps s s.namingClose := by
  unfold State.namingClose
  split <;> simp
@[simp] theorem State.timedOut_keeps (s : State) : Keeps s s.timedOut := by simp [State.timedOut]
@[simp] theorem State.stopVisit_keeps (s : State) (t : Nat) : Keeps s (s.stopVisit t) := by simp [State.stopVisit]
@[simp] theorem State.resetStuck_keeps (s : State) (d : Domain) : Keeps s (s.resetStuck d) := by simp [State.resetStuck]
@[simp] theorem State.stopCommand_keeps (s : State) (c : Taken) : Keeps s (s.stopCommand c) := by
  unfold State.stopCommand
  split <;> simp
@[simp] theorem State.rollbackLate_keeps (s : State) : Keeps s s.rollbackLate := by simp [State.rollbackLate]
@[simp] theorem State.commandTimeout_keeps (s : State) (w : TimedWork) : Keeps s (s.commandTimeout w) := by
  unfold State.commandTimeout
  repeat' split <;> simp

/-! ### MoltImage -/

@[simp] theorem State.freeWords_keeps (n : Nat) (s : State) : Keeps s (State.freeWords n s).2 := by
  induction n generalizing s with
  | zero => exact Keeps.refl s
  | succ n ih => exact s.free_keeps.trans (ih _)
@[simp] theorem State.tileSection_keeps (l : List Nat) (s : State) : Keeps s (State.tileSection l s).2 := by
  induction l generalizing s with
  | nil => exact Keeps.refl s
  | cons t l ih => exact s.free_keeps.trans (ih _)
@[simp] theorem State.moltSections_keeps (s : State) (r : MoltRun) : Keeps s (s.moltSections r).2 := by
  simp [State.moltSections, apply_ite Prod.snd]
@[simp] theorem State.writeMolt_keeps (s : State) (r : MoltRun) (isPartial : Bool) (secs : List (Nat × List Nat)) :
    Keeps s (s.writeMolt r isPartial secs) := by
  simp [State.writeMolt]
@[simp] theorem State.moltEnd_keeps (s : State) (atBound : Bool) : Keeps s (s.moltEnd atBound) := by
  unfold State.moltEnd
  split
  · exact Keeps.refl s
  · simp [apply_ite Prod.snd]
@[simp] theorem State.moltCopyDone_keeps (s : State) : Keeps s s.moltCopyDone := by
  fun_cases State.moltCopyDone s <;> simp

/-! ### View -/

@[simp] theorem State.readLedger_keeps (s : State) (a width : Nat) : Keeps s (s.readLedger a width).2 := by
  fun_cases State.readLedger s a width <;> simp
@[simp] theorem State.readStore_keeps (s : State) (off n : Nat) : Keeps s (s.readStore off n).2 := by
  unfold State.readStore
  split <;> simp
@[simp] theorem State.bar0Read_keeps (s : State) (a width : Nat) : Keeps s (s.bar0Read a width).2 := by
  fun_cases State.bar0Read s a width <;> simp

/-! ### Bar0 -/

@[simp] theorem State.tsnEnd_keeps (s : State) (i err : Nat) : Keeps s (s.tsnEnd i err) := ⟨rfl, rfl⟩
@[simp] theorem State.tsnStart_keeps (s : State) (i : Nat) : Keeps s (s.tsnStart i) := by
  unfold State.tsnStart
  dsimp only
  repeat' split <;> simp
@[simp] theorem State.writeRw_keeps (s : State) (F : RF) (i v : Nat) : Keeps s (s.writeRw F i v) := by
  unfold State.writeRw
  split <;> simp
@[simp] theorem State.writeAction_keeps (s : State) (F : RF) (i : Nat) : Keeps s (s.writeAction F i) := by
  simp [State.writeAction]
@[simp] theorem State.writeField_keeps (acts : Bool) (w : Nat) (s : State) (x : RF × Nat × Int) :
    Keeps s (State.writeField acts w s x) := by
  fun_cases State.writeField acts w s x <;> simp
@[simp] theorem State.resetReq_keeps (s : State) (w : Nat) : Keeps s (s.resetReq w) := by simp [State.resetReq]
@[simp] theorem State.recoverReq_keeps (s : State) (w : Nat) : Keeps s (s.recoverReq w) := by simp [State.recoverReq]
@[simp] theorem State.writeWord_keeps (s : State) (b : Blk) (u off w : Nat) : Keeps s (s.writeWord b u off w) := by
  simp [State.writeWord]
@[simp] theorem State.ksWrite_keeps (s : State) (a width v : Nat) : Keeps s (s.ksWrite a width v) := by
  simp [State.ksWrite]
@[simp] theorem State.msixWrite_keeps (s : State) (off width v : Nat) : Keeps s (s.msixWrite off width v) := by
  simp [State.msixWrite]
@[simp] theorem State.bar0Write_keeps (s : State) (a width v : Nat) : Keeps s (s.bar0Write a width v) := by
  unfold State.bar0Write
  repeat' split <;> simp
@[simp] theorem State.tsnMove_keeps (s : State) (i t : Nat) : Keeps s (s.tsnMove i t) := by simp [State.tsnMove]
@[simp] theorem State.tsnDone_keeps (s : State) (f n : Nat) (answered : Bool) : Keeps s (s.tsnDone f n answered) := by
  simp [State.tsnDone]
@[simp] theorem State.hostRead_keeps (s : State) (a width : Nat) : Keeps s (s.hostRead a width) := by
  simp [State.hostRead]
@[simp] theorem State.powered_keeps (s t : State) (h : Keeps s t) : Keeps s (s.powered t) := Keeps.ite h (Keeps.refl s)

/-! ### Commands -/

@[simp] theorem State.pingCommand_keeps (s : State) (cid : Nat) : Keeps s (s.pingCommand cid) := by
  simp [State.pingCommand]
@[simp] theorem State.statusCommand_keeps (s : State) (cid : Nat) : Keeps s (s.statusCommand cid) := by
  simp [State.statusCommand]
@[simp] theorem State.regReadCommand_keeps (s : State) (cid a width : Nat) : Keeps s (s.regReadCommand cid a width) := by
  simp [State.regReadCommand]
@[simp] theorem State.regWriteCommand_keeps (s : State) (cid a width v : Nat) :
    Keeps s (s.regWriteCommand cid a width v) := by
  simp [State.regWriteCommand]
@[simp] theorem State.switchCommand_keeps (s : State) (cid code index v : Nat) :
    Keeps s (s.switchCommand cid code index v) := by
  unfold State.switchCommand
  split <;> simp
@[simp] theorem State.semAddCommand_keeps (s : State) (cid c n : Nat) : Keeps s (s.semAddCommand cid c n) := by
  simp [State.semAddCommand]
@[simp] theorem State.semSubCommand_keeps (s : State) (cid c n : Nat) : Keeps s (s.semSubCommand cid c n) := by
  simp [State.semSubCommand]
@[simp] theorem State.semWaitCommand_keeps (s : State) (cid c n limit : Nat) (consume : Bool) :
    Keeps s (s.semWaitCommand cid c n limit consume) := by
  simp [State.semWaitCommand]
@[simp] theorem State.resetBody_keeps (s : State) (cid dom idx : Nat) : Keeps s (s.resetBody cid dom idx) := by
  refine Keeps.ite ?_ (Keeps.ite ?_ (Keeps.ite ?_ (Keeps.ite ?_ ?_)))
  · simp
  · exact s.resetCommand_keeps _ _ _ State.requestCompute_keeps
  · exact s.resetCommand_keeps _ _ _ (fun t => t.requestStation_keeps _ _)
  · exact s.resetCommand_keeps _ _ _ (fun t => t.requestPort_keeps _)
  · exact s.respond_keeps _ _ _ _ _
@[simp] theorem State.runDigestBody_keeps (s : State) (cid op v : Nat) : Keeps s (s.runDigestBody cid op v) := by
  simp [State.runDigestBody]
@[simp] theorem State.jobKeyBody_keeps (s : State) (cid op v : Nat) : Keeps s (s.jobKeyBody cid op v) := by
  simp [State.jobKeyBody]
@[simp] theorem State.applyBody_keeps (s : State) (op cid w : Nat) : Keeps s (s.applyBody op cid w) := by
  simp [State.applyBody]
@[simp] theorem State.markApplied_keeps (s : State) (c : Taken) : Keeps s (s.markApplied c) := ⟨rfl, rfl⟩
@[simp] theorem State.applyCommand_keeps (s : State) (c : Taken) : Keeps s (s.applyCommand c) := by
  unfold State.applyCommand
  split <;> simp
@[simp] theorem State.applyTaken_keeps (s : State) : Keeps s s.applyTaken := by simp [State.applyTaken]

/-! ### Operands -/

@[simp] theorem State.writeDesc_keeps (s : State) (c d : Nat) (v : BitVec 256) : Keeps s (s.writeDesc c d v) := by
  simp [State.writeDesc]
@[simp] theorem State.coreRead_keeps (s : State) (c : Nat) (p : CoreAddr) (width : Nat) :
    Keeps s (s.coreRead c p width).2 := by
  unfold State.coreRead
  split <;> simp
@[simp] theorem State.coreWrite_keeps (s : State) (c : Nat) (p : CoreAddr) (width v : Nat) :
    Keeps s (s.coreWrite c p width v) := by
  unfold State.coreWrite
  split <;> simp
@[simp] theorem State.load_keeps (s : State) (c rd a width : Nat) : Keeps s (s.load c rd a width) := by
  unfold State.load
  split <;> simp
@[simp] theorem State.loadDesc_keeps (s : State) (c d a : Nat) : Keeps s (s.loadDesc c d a) := by
  unfold State.loadDesc
  split <;> simp
@[simp] theorem State.store_keeps (s : State) (c a width v : Nat) : Keeps s (s.store c a width v) := by
  unfold State.store
  split <;> simp

/-! ### Flags -/

@[simp] theorem State.opEnd_keeps (s : State) (c : Nat) (rd : BitVec 5) (status flags value : Nat) :
    Keeps s (s.opEnd c rd status flags value) := by
  simp [State.opEnd]
@[simp] theorem State.opEndD_keeps (s : State) (c : Nat) (rd : BitVec 5) (d : Fin 8) (v : BitVec 256) (status value : Nat) :
    Keeps s (s.opEndD c rd d v status value) := by
  simp [State.opEndD]

/-! ### CoreAlu -/

@[simp] theorem State.alu_keeps (s : State) (c rd rs1 rs2 : Nat) (f : Word → Word → Word) :
    Keeps s (s.alu c rd rs1 rs2 f) := by
  simp [State.alu]
@[simp] theorem State.aluImm_keeps (s : State) (c rd rs1 : Nat) (f : Word → Word) : Keeps s (s.aluImm c rd rs1 f) := by
  simp [State.aluImm]

/-! ### CoreMem -/

@[simp] theorem State.jump_keeps (s : State) (c link target : Nat) : Keeps s (s.jump c link target) := by
  simp [State.jump]
@[simp] theorem State.branch_keeps (s : State) (c ra rb : Nat) (off : BitVec 16) (taken : Word → Word → Bool) :
    Keeps s (s.branch c ra rb off taken) := by
  simp [State.branch]

/-! ### CoreSys -/

@[simp] theorem State.kick_keeps (s : State) (c : Nat) : Keeps s (s.kick c) := by simp [State.kick]
@[simp] theorem State.safePoint_keeps (s : State) (c : Nat) : Keeps s (s.safePoint c) := by simp [State.safePoint]
@[simp] theorem State.evPop_keeps (s : State) (c rd d : Nat) : Keeps s (s.evPop c rd d) := by
  fun_cases State.evPop s c rd d <;> simp
@[simp] theorem State.eret_keeps (s : State) (c : Nat) : Keeps s (s.eret c) := by simp [State.eret]
@[simp] theorem State.sendMail_keeps (s : State) (c : Nat) (rd : BitVec 5) (target : Word) (d : BitVec 256) :
    Keeps s (s.sendMail c rd target d) := by
  simp [State.sendMail]
@[simp] theorem State.wakeOn_keeps (s : State) (c only : Nat) : Keeps s (s.wakeOn c only) := by
  fun_cases State.wakeOn s c only <;> simp
@[simp] theorem State.resetCoreDomain_keeps (s : State) (c : Nat) : Keeps s (s.resetCoreDomain c) := by
  simp [State.resetCoreDomain]
@[simp] theorem State.noteExpiry_keeps (s : State) (c : Nat) : Keeps s (s.noteExpiry c) := ⟨rfl, rfl⟩
@[simp] theorem State.watchdog_keeps (s : State) (c : Nat) : Keeps s (s.watchdog c) := by simp [State.watchdog]
@[simp] theorem State.unstall_keeps (s : State) (c : Nat) : Keeps s (s.unstall c) := ⟨rfl, rfl⟩
@[simp] theorem State.coldRestart_keeps (s : State) (c code : Nat) : Keeps s (s.coldRestart c code) := ⟨rfl, rfl⟩
@[simp] theorem State.safeRestart_keeps (s : State) (c code : Nat) : Keeps s (s.safeRestart c code) := by
  unfold State.safeRestart
  split <;> simp
@[simp] theorem State.reloadImem_keeps (s : State) (c : Nat) : Keeps s (s.reloadImem c) := ⟨rfl, rfl⟩
@[simp] theorem State.coreFault_keeps (s : State) (c : Nat) (restart : State → State) (h : ∀ t, Keeps t (restart t)) :
    Keeps s (s.coreFault c restart) := by
  rw [State.coreFault]
  refine Keeps.ite (by simp) (Keeps.trans ?_ (h _))
  simp
@[simp] theorem State.restartCore_keeps (s : State) (c : Nat) (cause : RestartCause) : Keeps s (s.restartCore c cause) := by
  refine Keeps.ite (Keeps.refl s) ?_
  cases cause with
  | watchdog => exact Keeps.ite (s.safeRestart_keeps _ _) (Keeps.refl s)
  | residue => exact Keeps.ite (s.coreFault_keeps _ _ (fun t => t.safeRestart_keeps _ _)) (Keeps.refl s)
  | imem => exact Keeps.ite (s.coreFault_keeps _ _ (fun t => (t.reloadImem_keeps _).trans (State.safeRestart_keeps _ _ _))) (Keeps.refl s)
  | dmem => exact Keeps.ite (s.coreFault_keeps _ _ (fun t => t.coldRestart_keeps _ _)) (Keeps.refl s)
@[simp] theorem State.completeAsync_keeps (s : State) (c i status value : Nat) :
    Keeps s (s.completeAsync c i status value) := by
  unfold State.completeAsync
  split <;> simp

/-! ### CoreOps -/

@[simp] theorem State.startAsync_keeps (s : State) (c : Nat) (rd : BitVec 5) (o : AsyncOp) :
    Keeps s (s.startAsync c rd o) := by
  simp [State.startAsync]
@[simp] theorem State.opArm_keeps (s : State) (c : Nat) (rd : BitVec 5) (v : Word) : Keeps s (s.opArm c rd v) := by
  simp [State.opArm]
@[simp] theorem State.opTest_keeps (s : State) (c : Nat) (rd : BitVec 5) (v : Word) (mode : Nat) :
    Keeps s (s.opTest c rd v mode) := by
  simp [State.opTest]
@[simp] theorem State.lodge_keeps (s : State) (c kind : Nat) (rd : BitVec 5) (d : Nat) (k : UnitKey) (arg : Nat) :
    Keeps s (s.lodge c kind rd d k arg) :=
  ⟨rfl, rfl⟩
@[simp] theorem State.opQuar_keeps (s : State) (c : Nat) (rd : BitVec 5) (v : Word) : Keeps s (s.opQuar c rd v) := by
  unfold State.opQuar
  split <;> simp
@[simp] theorem State.opRemap_keeps (s : State) (c : Nat) (rd : BitVec 5) (v : Word) (answer : State → Regrowth → State)
    (h : ∀ t r, Keeps t (answer t r)) : Keeps s (s.opRemap c rd v answer) := by
  rw [State.opRemap]
  refine Keeps.ite (s.opEnd_keeps _ _ _ _ _) (Keeps.ite (s.opEnd_keeps _ _ _ _ _) ?_)
  split
  · exact (h s _).trans (State.opEnd_keeps _ _ _ _ _ _)
  · exact s.opEnd_keeps _ _ _ _ _
@[simp] theorem State.opFill_keeps (s : State) (c : Nat) (rd : BitVec 5) (d : Fin 8) (v : Word) :
    Keeps s (s.opFill c rd d v) := by
  simp [State.opFill]
@[simp] theorem State.opSecure_keeps (s : State) (c : Nat) (rd : BitVec 5) (v : Word) (layers : Nat) :
    Keeps s (s.opSecure c rd v layers) := by
  simp [State.opSecure]
@[simp] theorem State.sourceBytes_keeps (s : State) (c a n : Nat) : Keeps s (s.sourceBytes c a n).2 := by
  simp [State.sourceBytes]
@[simp] theorem State.opDigest_keeps (s : State) (c : Nat) (rd : BitVec 5) (d : Fin 8) (kind : Nat) :
    Keeps s (s.opDigest c rd d kind) := by
  unfold State.opDigest
  repeat' split <;> simp
@[simp] theorem State.opLedger_keeps (s : State) (c kind : Nat) (rd : BitVec 5) (d : Fin 8) (v : Word) (arg : Nat) :
    Keeps s (s.opLedger c kind rd d v arg) := by
  unfold State.opLedger
  split <;> simp
@[simp] theorem State.firmwareUpdate_keeps (s : State) (k : UnitKey) (expect new : Nat) :
    Keeps s (s.firmwareUpdate k expect new).2 := by
  fun_cases State.firmwareUpdate s k expect new <;> simp
@[simp] theorem State.firmwareAdd_keeps (s : State) (k : UnitKey) (arg : Nat) : Keeps s (s.firmwareAdd k arg).2 := by
  fun_cases State.firmwareAdd s k arg <;> simp
@[simp] theorem State.ledgerEffect_keeps (s : State) (c : Nat) (o : LedgerOp) : Keeps s (s.ledgerEffect c o).2.2 := by
  rw [State.ledgerEffect]
  split
  · exact Keeps.refl s
  · split
    · exact s.firmwareUpdate_keeps _ _ _
    · split
      · exact s.firmwareAdd_keeps _ _
      · split
        · exact s.firmwareUpdate_keeps _ _ _
        · exact Keeps.refl s
@[simp] theorem State.firmwareWrite_keeps (s : State) (c : Nat) : Keeps s (s.firmwareWrite c) := by
  unfold State.firmwareWrite
  split <;> simp
@[simp] theorem State.firmwareAnswer_keeps (s : State) (c : Nat) : Keeps s (s.firmwareAnswer c) := by
  unfold State.firmwareAnswer
  repeat' split <;> simp
@[simp] theorem State.firmwareWrites_keeps (s : State) : Keeps s s.firmwareWrites := by simp [State.firmwareWrites]
@[simp] theorem State.firmwareAnswers_keeps (s : State) : Keeps s s.firmwareAnswers := by simp [State.firmwareAnswers]
@[simp] theorem State.opSemadd_keeps (s : State) (c : Nat) (rd : BitVec 5) (a n : Word) : Keeps s (s.opSemadd c rd a n) := by
  unfold State.opSemadd
  split <;> simp
@[simp] theorem State.opSemsub_keeps (s : State) (c : Nat) (rd : BitVec 5) (a n : Word) : Keeps s (s.opSemsub c rd a n) := by
  unfold State.opSemsub
  split <;> simp
@[simp] theorem State.opSemwait_keeps (s : State) (c : Nat) (rd : BitVec 5) (a n : Word) (consume async : Bool) :
    Keeps s (s.opSemwait c rd a n consume async) := by
  unfold State.opSemwait
  split <;> simp
@[simp] theorem State.opCroak_keeps (s : State) (c : Nat) (rd : BitVec 5) (arg buf : Word) (cls : Nat) :
    Keeps s (s.opCroak c rd arg buf cls) := by
  simp [State.opCroak]
@[simp] theorem State.opMolt_keeps (s : State) (c : Nat) (rd : BitVec 5) (v : Word) : Keeps s (s.opMolt c rd v) := by
  simp [State.opMolt]
@[simp] theorem State.opWtc_keeps (s : State) (c : Nat) (rd : BitVec 5) : Keeps s (s.opWtc c rd) := by
  simp [State.opWtc]
@[simp] theorem State.opWaitev_keeps (s : State) (c : Nat) (rd : BitVec 5) (v : Word) (poll : Bool) :
    Keeps s (s.opWaitev c rd v poll) := by
  simp [State.opWaitev]

/-! ### Board -/

@[simp] theorem State.i3cAnswer_keeps (s : State) (ack : Bool) (bytes : Nat) : Keeps s (s.i3cAnswer ack bytes) := by
  simp [State.i3cAnswer]
@[simp] theorem State.i3cFree_keeps (s : State) (w : Nat) : Keeps s (s.i3cFree w) := by simp [State.i3cFree]
@[simp] theorem State.i3cAssign_keeps (s : State) (a : Nat) : Keeps s (s.i3cAssign a) := by simp [State.i3cAssign]
@[simp] theorem State.tapRequest_keeps (s : State) (t : TapTarget) : Keeps s (s.tapRequest t) := by
  simp [State.tapRequest]
@[simp] theorem State.corrected_keeps (s : State) (m : MemWord) : Keeps s (s.corrected m) := by simp [State.corrected]
@[simp] theorem State.poisoned_keeps (s : State) (m : MemWord) : Keeps s (s.poisoned m) := by
  unfold State.poisoned
  split <;> simp
@[simp] theorem State.patrol_keeps (s : State) (m : MemWord) (e : SymbolErrors) : Keeps s (s.patrol m e) := by
  rw [State.patrol]
  have h := s.eccFind_keeps e
  generalize s.eccFind e = p at h ⊢
  obtain ⟨o, t⟩ := p
  refine Keeps.trans h ?_
  cases o <;> simp
@[simp] theorem State.relayDown_keeps (s : State) (f : Nat) : Keeps s (s.relayDown f) := by
  unfold State.relayDown
  split <;> simp
@[simp] theorem State.stationLost_keeps (s : State) (f : Nat) : Keeps s (s.stationLost f) := by simp [State.stationLost]
@[simp] theorem State.spineBeat_keeps (s : State) (f : Nat) (l : List SymbolErrors) (n : Nat) :
    Keeps s (s.spineBeat f l n) := by
  induction l generalizing s n with
  | nil => exact s.setField_keeps _ _
  | cons e l ih =>
    unfold State.spineBeat
    have h := s.eccFind_keeps e
    generalize s.eccFind e = p at h ⊢
    obtain ⟨o, t⟩ := p
    refine Keeps.trans h ?_
    cases o with
    | clean => exact t.setField_keeps _ _
    | correctable => exact (t.sample_keeps _ _ _).trans (State.setField_keeps _ _ _)
    | uncorrectable => exact Keeps.ite (t.stationLost_keeps f) (Keeps.trans (Keeps.refl t) (ih _ _))

/-! ### Tick -/

@[simp] theorem State.applyAct_keeps (s : State) (cls : Nat) (x : EvAct) : Keeps s (s.applyAct cls x) := by
  unfold State.applyAct
  split <;> simp
@[simp] theorem State.applyEv_keeps (s : State) (e : Ev) : Keeps s (s.applyEv e) := by simp [State.applyEv]
@[simp] theorem State.applyRaised_keeps (n : Nat) (s : State) : Keeps s (State.applyRaised n s) := by
  fun_induction State.applyRaised n s <;> simp [*]
@[simp] theorem State.applySampled_keeps (s : State) : Keeps s s.applySampled := by simp [State.applySampled]
@[simp] theorem State.readmit_keeps (s : State) : Keeps s s.readmit := by simp [State.readmit]
@[simp] theorem State.wtcTick_keeps (s : State) : Keeps s s.wtcTick := by simp [State.wtcTick]
@[simp] theorem State.cycleTick_keeps (s : State) : Keeps s s.cycleTick := by simp [State.cycleTick]
@[simp] theorem State.granted_keeps (s : State) (a : Ask) : Keeps s (s.granted a) := by
  unfold State.granted
  split <;> simp
@[simp] theorem State.grants_keeps (s : State) : Keeps s s.grants := by simp [State.grants]
@[simp] theorem State.powerTick_keeps (s : State) : Keeps s s.powerTick := by simp [State.powerTick]
@[simp] theorem State.tickWork_keeps (s : State) : Keeps s s.tickWork := by simp [State.tickWork]
@[simp] theorem State.runAnswers_keeps (s : State) : Keeps s s.runAnswers := by simp [State.runAnswers]
@[simp] theorem State.answers_keeps (s : State) : Keeps s s.answers := by simp [State.answers]
@[simp] theorem State.tick_keeps (s : State) : Keeps s s.tick := by simp [State.tick]

end Sys2Proof.Machine
end

section
/-! The queue and the fuses through every command, and O60. -/

namespace Sys2Proof.Machine

/-- Where the outcome is a next state, that state keeps the queue and the fuses of `s`. -/
def NextKeeps (s : State) (o : Host.Outcome State Fault Refusal) : Prop := ∀ t, o = .next t → Keeps s t

theorem NextKeeps.next {s t : State} (h : Keeps s t) : NextKeeps s (.next t) := fun _ hu => by cases hu; exact h

theorem State.onCore_keeps (s : State) (c : Fin 68) {f : State → Core → State} (h : ∀ t x, Keeps t (f t x)) :
    NextKeeps s (s.onCore c f) :=
  NextKeeps.next (Keeps.ite (h s _) (Keeps.refl s))

theorem onTile_keeps {s t : State} (k : Nat) (h : Keeps s t) : NextKeeps s (onTile k s t) := by
  unfold onTile
  split
  · exact NextKeeps.next h
  · exact fun _ hu => by cases hu

theorem execStage3Stations_keeps (only : Option (Fin 32)) (testFails marchFails : BitVec 32) (s : State) :
    NextKeeps s (execStage3Stations only testFails marchFails s) := by
  cases only with
  | some f => exact NextKeeps.next (s.stage3One_keeps _ _)
  | none => exact NextKeeps.next (Keeps.ite (s.stage3_keeps _) (Keeps.refl s))

theorem execPortTrainingRetry_keeps (k : Fin 16) (lanes : BitVec 32) (s : State) : NextKeeps s (execPortTrainingRetry k lanes s) := by
  have ht : Keeps s (s.trainPort k.val lanes.toNat) := s.trainPort_keeps _ _
  refine NextKeeps.next (Keeps.ite (Keeps.refl s) (Keeps.ite ?_ (Keeps.ite ?_ (Keeps.refl s))))
  · exact ((ht.trans (State.sendMsg_keeps _ _ _ _ _ _ _)).trans (State.portTrained_keeps _ _)).trans (State.helloAfter_keeps _)
  · exact Keeps.ite (ht.trans (State.helloAfter_keeps _)) ht

theorem execMoltDone_keeps (s : State) : NextKeeps s (execMoltDone s) := by
  refine NextKeeps.next ?_
  split
  · exact Keeps.ite (s.moltEnd_keeps _) (Keeps.refl s)
  · exact Keeps.refl s

theorem execMoltBoundReached_keeps (s : State) : NextKeeps s (execMoltBoundReached s) := by
  refine NextKeeps.next ?_
  split
  · exact Keeps.ite (s.moltEnd_keeps _) (Keeps.refl s)
  · exact Keeps.refl s

theorem execRefuseWaitExpiry_keeps (logical : Nat) (s : State) : NextKeeps s (execRefuseWaitExpiry logical s) := by
  refine NextKeeps.next ?_
  split
  · exact Keeps.ite (s.escalate_keeps _ _) (Keeps.refl s)
  · exact Keeps.refl s

theorem execRegrowthTimeout_keeps (logical : Nat) (s : State) : NextKeeps s (execRegrowthTimeout logical s) := by
  refine NextKeeps.next ?_
  split
  · exact Keeps.ite ((s.bump_keeps _ _ _ _ _).trans (State.escalate_keeps _ _ _)) (Keeps.refl s)
  · exact Keeps.refl s

theorem execRemapTableUe_keeps (f : Fin 32) (index : Nat) (copyOk : Bool) (s : State) :
    NextKeeps s (execRemapTableUe f index copyOk s) := by
  have h : ∀ l, Keeps s (State.sample { s with remapBad := l } 3 (locStation f.val) [.log]) := fun l => State.sample_keeps _ _ _ _
  exact NextKeeps.next (Keeps.ite (h _) ((h _).trans (State.mapLost_keeps _ _)))

theorem execTapStartDone_keeps (tile : Nat) (s : State) : NextKeeps s (execTapStartDone tile s) :=
  onTile_keeps _ (Keeps.ite (Keeps.ite
    (((s.setTile_keeps _ _).trans (State.put_keeps _ _ _ _)).trans (State.put_keeps _ _ _ _))
    ((s.setTile_keeps _ _).trans (State.put_keeps _ _ _ _))) (Keeps.refl s))

theorem execPackPush_keeps (cid : BitVec 32) (addr : BitVec 64) (length : BitVec 32) (readOk : Bool) (pack : List Byte) (s : State) :
    NextKeeps s (execPackPush cid addr length readOk pack s) :=
  NextKeeps.next (Keeps.ite (Keeps.ite (Keeps.refl s) (Keeps.ite (s.rejectBusy_keeps _ _ _) (s.setTaken_keeps _)))
    (s.asHost_keeps _ _ _ (fun t => t.packPush_keeps _ _ _ _)))

theorem execLd_keeps (core : Fin 68) (rd rs1 : BitVec 5) (imm : BitVec 16) (s : State) : NextKeeps s (execLd core rd rs1 imm s) :=
  s.onCore_keeps _ (fun t _ => t.load_keeps _ _ _ _)

theorem execLwu_keeps (core : Fin 68) (rd rs1 : BitVec 5) (imm : BitVec 16) (s : State) : NextKeeps s (execLwu core rd rs1 imm s) :=
  s.onCore_keeps _ (fun t _ => t.load_keeps _ _ _ _)

theorem execLbu_keeps (core : Fin 68) (rd rs1 : BitVec 5) (imm : BitVec 16) (s : State) : NextKeeps s (execLbu core rd rs1 imm s) :=
  s.onCore_keeps _ (fun t _ => t.load_keeps _ _ _ _)

theorem execDld_keeps (core : Fin 68) (d : Fin 8) (rs1 : BitVec 5) (imm : BitVec 16) (s : State) : NextKeeps s (execDld core d rs1 imm s) :=
  s.onCore_keeps _ (fun t _ => t.loadDesc_keeps _ _ _)

theorem execSd_keeps (core : Fin 68) (rs rs1 : BitVec 5) (imm : BitVec 16) (s : State) : NextKeeps s (execSd core rs rs1 imm s) :=
  s.onCore_keeps _ (fun t _ => t.store_keeps _ _ _ _)

theorem execSw_keeps (core : Fin 68) (rs rs1 : BitVec 5) (imm : BitVec 16) (s : State) : NextKeeps s (execSw core rs rs1 imm s) :=
  s.onCore_keeps _ (fun t _ => t.store_keeps _ _ _ _)

theorem execDst_keeps (core : Fin 68) (d : Fin 8) (rs1 : BitVec 5) (imm : BitVec 16) (s : State) : NextKeeps s (execDst core d rs1 imm s) :=
  s.onCore_keeps _ (fun t _ => t.store_keeps _ _ _ _)

theorem execDput_keeps (core : Fin 68) (d : Fin 8) (w : Fin 4) (rs1 : BitVec 5) (s : State) : NextKeeps s (execDput core d w rs1 s) :=
  s.onCore_keeps _ (fun t _ => t.writeDesc_keeps _ _ _)

theorem execCsrr_keeps (core : Fin 68) (rd csr : BitVec 5) (s : State) : NextKeeps s (execCsrr core rd csr s) :=
  s.onCore_keeps _ (fun t _ => Keeps.ite (t.writeReg_keeps _ _ _) (t.trap_keeps _ _ _))

theorem execArm_keeps (core : Fin 68) (rd rs1 : BitVec 5) (s : State) : NextKeeps s (execArm core rd rs1 s) :=
  s.onCore_keeps _ (fun t _ => t.opArm_keeps _ _ _)

theorem execRemapRetry_keeps (core : Fin 68) (rd rs1 : BitVec 5) (s : State) : NextKeeps s (execRemapRetry core rd rs1 s) :=
  s.onCore_keeps _ (fun t _ => t.opRemap_keeps _ _ _ _ (fun u r => u.regrowRetry_keeps r))

theorem execRemapEscalate_keeps (core : Fin 68) (rd rs1 : BitVec 5) (s : State) : NextKeeps s (execRemapEscalate core rd rs1 s) :=
  s.onCore_keeps _ (fun t _ => t.opRemap_keeps _ _ _ _ (fun u r => u.escalate_keeps r _))

theorem execFill_keeps (core : Fin 68) (rd rs1 : BitVec 5) (d : Fin 8) (s : State) : NextKeeps s (execFill core rd rs1 d s) :=
  s.onCore_keeps _ (fun t _ => t.opFill_keeps _ _ _ _)

theorem execSemsub_keeps (core : Fin 68) (rd rs1 rs2 : BitVec 5) (s : State) : NextKeeps s (execSemsub core rd rs1 rs2 s) :=
  s.onCore_keeps _ (fun t _ => t.opSemsub_keeps _ _ _ _)

theorem execCroak_keeps (core : Fin 68) (rd rs1 rs2 : BitVec 5) (cls : BitVec 3) (s : State) : NextKeeps s (execCroak core rd rs1 rs2 cls s) :=
  s.onCore_keeps _ (fun t _ => Keeps.ite (t.opCroak_keeps _ _ _ _ _) (t.trap_keeps _ _ _))

theorem execMolt_keeps (core : Fin 68) (rd rs1 : BitVec 5) (s : State) : NextKeeps s (execMolt core rd rs1 s) :=
  s.onCore_keeps _ (fun t _ => t.opMolt_keeps _ _ _)

/-- Every command but FUSE_BLOW keeps the queue and the fuses: one arm for each. -/
theorem exec_keeps (i : Instr) (s : State) (hi : ∀ k bad rv, i ≠ .fuseBlow k bad rv) : NextKeeps s (exec i s) := by
  cases i with
  | aoiTick => exact NextKeeps.next (s.powered_keeps _ s.tick_keeps)
  | watchdogExpiry _ => exact NextKeeps.next (s.watchdog_keeps _)
  | powerGoodLoss => exact NextKeeps.next s.powerFall_keeps
  | brdResetLow => exact NextKeeps.next s.powerFall_keeps
  | powerGoodReturn => exact NextKeeps.next s.powerBack_keeps
  | aoiPowerUp => exact NextKeeps.next s.powerUp_keeps
  | stage0Power _ _ => exact NextKeeps.next (s.stage0_keeps _ _)
  | powerUnstable _ => exact NextKeeps.next (s.powerUnstable_keeps _)
  | stage1Fuses _ => exact NextKeeps.next (Keeps.ite (s.stage1_keeps _) (Keeps.refl s))
  | stage2Keeper _ _ => exact NextKeeps.next (Keeps.ite (s.stage2_keeps _ _) (Keeps.refl s))
  | stage3Stations _ _ _ => exact execStage3Stations_keeps _ _ _ s
  | stage4Tiles _ _ => exact NextKeeps.next (Keeps.ite (s.stage4_keeps _ _) (Keeps.refl s))
  | stage5Ledger => exact NextKeeps.next (Keeps.ite s.stage5_keeps s.haltAnswered_keeps)
  | stage6Training _ => exact NextKeeps.next (Keeps.ite (s.stage6_keeps _) (Keeps.refl s))
  | discoveryEnd => exact NextKeeps.next s.discovered_keeps
  | stage7Ready => exact NextKeeps.next (Keeps.ite s.stage7_keeps (Keeps.refl s))
  | stageTimeout => exact NextKeeps.next s.stageLate_keeps
  | portTrainingRetry _ _ => exact execPortTrainingRetry_keeps _ _ s
  | moltDone => exact execMoltDone_keeps s
  | moltBoundReached => exact execMoltBoundReached_keeps s
  | domainRelease _ => exact NextKeeps.next (s.release_keeps _)
  | registerWrite _ _ _ => exact NextKeeps.next (s.powered_keeps _ (s.bar0Write_keeps _ _ _))
  | latchedLowWordRead _ => exact NextKeeps.next (s.powered_keeps _ (s.hostRead_keeps _ _))
  | ledgerLowHalfRead _ => exact NextKeeps.next (s.powered_keeps _ (s.hostRead_keeps _ _))
  | ledgerWindowWrite _ _ _ => exact NextKeeps.next (s.powered_keeps _ (s.bar0Write_keeps _ _ _))
  | keeperStoreWindowWrite _ _ _ => exact NextKeeps.next (s.powered_keeps _ (s.bar0Write_keeps _ _ _))
  | flightRecorderWindowWrite _ _ _ => exact NextKeeps.next (s.powered_keeps _ (s.bar0Write_keeps _ _ _))
  | registerAccessTimeout _ => exact NextKeeps.next (s.powered_keeps _ (State.put_keeps { s with out := _ } _ _ _))
  | enableWrite _ _ => exact NextKeeps.next (s.enableWrite_keeps _ _)
  | functionStartDone _ => exact NextKeeps.next (Keeps.ite (s.fnStartDone_keeps _) (Keeps.refl s))
  | functionDrainDone _ => exact NextKeeps.next (Keeps.ite (s.fnToOff_keeps _) (Keeps.refl s))
  | functionPendingStart _ => exact NextKeeps.next (Keeps.ite (s.fnStart_keeps _) (Keeps.refl s))
  | kprResetReqKeeper _ => exact NextKeeps.next (Keeps.ite (Keeps.ite (s.requestKeeper_keeps _) (Keeps.refl s)) s.accessErr_keeps)
  | kprResetReqCompute _ => exact NextKeeps.next (Keeps.ite (Keeps.ite s.requestCompute_keeps (Keeps.refl s)) s.accessErr_keeps)
  | kprResetReqPort _ _ => exact NextKeeps.next (Keeps.ite (Keeps.ite (s.requestPort_keeps _) (Keeps.refl s)) s.accessErr_keeps)
  | fstReset _ _ => exact NextKeeps.next (Keeps.ite (s.requestStation_keeps _ _) s.accessErr_keeps)
  | kprRecoverReq _ => exact NextKeeps.next (Keeps.ite (Keeps.ite (s.requestRecovery_keeps _ _ _ _) (Keeps.refl s)) s.accessErr_keeps)
  | kprScanEntry _ => exact NextKeeps.next (Keeps.ite (s.scanWrite_keeps _) (Keeps.refl s))
  | scanEntryTimeout => exact NextKeeps.next s.scanLate_keeps
  | kprFwCommit => exact NextKeeps.next (Keeps.ite s.fwCommit_keeps (Keeps.refl s))
  | firmwareSlotWrite => exact NextKeeps.next s.fwWrite_keeps
  | tsnTapInject _ => exact onTile_keeps _ (s.put_keeps _ _ _)
  | tsnEpArm _ => exact onTile_keeps _ (Keeps.ite ((s.put_keeps _ _ _).trans (State.commandArm_keeps _ _)) (s.put_keeps _ _ _))
  | tsnStRun _ => exact onTile_keeps _ (s.stRun_keeps _)
  | fstTsnGo _ _ => exact NextKeeps.next (Keeps.ite s.accessErr_keeps (s.tsnStart_keeps _))
  | sentinelAccessEnd _ _ _ => exact NextKeeps.next (s.tsnDone_keeps _ _ _)
  | kprEngineWrite _ => exact NextKeeps.next (s.engineWrite_keeps _)
  | identityRecordWrite => exact NextKeeps.next s.identWrite_keeps
  | kprAllowanceWrite _ _ => exact NextKeeps.next (s.put_keeps _ _ _)
  | rotPeriodWrite _ _ => exact NextKeeps.next (s.rotWrite_keeps _ _)
  | quotaReevaluate _ => exact NextKeeps.next (s.quotaReevaluate_keeps _)
  | hptRingHeadWrite _ => exact NextKeeps.next (Keeps.ite (s.ringHead_keeps _) (Keeps.refl s))
  | hostPortLinkReset _ => exact NextKeeps.next s.linkReset_keeps
  | apertureUnitWrite _ _ _ => exact NextKeeps.next (Keeps.ite (s.apWrite_keeps _ _ _) (Keeps.refl s))
  | commandTake => exact NextKeeps.next s.commandTake_keeps
  | rejectRange => exact NextKeeps.next s.rejectRange_keeps
  | apertureStuck => exact NextKeeps.next s.apStuck_keeps
  | overload => exact NextKeeps.next s.overload_keeps
  | overloadClear => exact NextKeeps.next s.overloadEnd_keeps
  | commandTimeout _ => exact NextKeeps.next (s.commandTimeout_keeps _)
  | eventRingWrite => exact NextKeeps.next s.ringWrite_keeps
  | msixHoldoffEnd => exact NextKeeps.next s.msixEnd_keeps
  | attach _ _ _ _ _ _ => exact NextKeeps.next (s.attachPlain_keeps _ _ _ _ _ _)
  | attachForce _ _ _ _ _ _ => exact NextKeeps.next (s.attachTakeover_keeps _ _ _ _ _ _)
  | detach _ => exact NextKeeps.next (s.asHost_keeps _ _ _ (fun t => State.detachCheck_keeps { t with host := _ }))
  | ping _ => exact NextKeeps.next (s.asHost_keeps _ _ _ (fun t => t.pingCommand_keeps _))
  | regRead _ _ _ => exact NextKeeps.next (s.asHost_keeps _ _ _ (fun t => t.regReadCommand_keeps _ _ _))
  | regWrite _ _ _ _ => exact NextKeeps.next (s.asHost_keeps _ _ _ (fun t => t.regWriteCommand_keeps _ _ _ _))
  | status _ => exact NextKeeps.next (s.asHost_keeps _ _ _ (fun t => t.statusCommand_keeps _))
  | ledgerQuery _ _ => exact NextKeeps.next (s.asHost_keeps _ _ _ (fun t => t.ledgerCommand_keeps _ _ _ _))
  | ledgerAdd _ _ _ => exact NextKeeps.next (s.asHost_keeps _ _ _ (fun t => t.ledgerCommand_keeps _ _ _ _))
  | ledgerFree _ _ => exact NextKeeps.next (s.asHost_keeps _ _ _ (fun t => t.ledgerCommand_keeps _ _ _ _))
  | ledgerAccept _ _ => exact NextKeeps.next (s.asHost_keeps _ _ _ (fun t => t.ledgerCommand_keeps _ _ _ _))
  | ledgerDrop _ _ => exact NextKeeps.next (s.asHost_keeps _ _ _ (fun t => t.ledgerCommand_keeps _ _ _ _))
  | jobKeyLoad _ _ => exact NextKeeps.next (s.asHost_keeps _ _ _ (fun t => t.keyLoad_keeps _ _))
  | jobKeyZeroise _ => exact NextKeeps.next (s.asHost_keeps _ _ _ (fun t => (t.zeroise_keeps _).trans (State.respond_keeps _ _ _ _ _ _)))
  | pair _ _ => exact NextKeeps.next (s.asHost_keeps _ _ _ (fun t => t.pairCommand_keeps _ _))
  | switch _ _ _ _ => exact NextKeeps.next (s.asHost_keeps _ _ _ (fun t => t.switchCommand_keeps _ _ _ _))
  | semAdd _ _ _ => exact NextKeeps.next (s.asHost_keeps _ _ _ (fun t => t.semAddCommand_keeps _ _ _))
  | semSub _ _ _ => exact NextKeeps.next (s.asHost_keeps _ _ _ (fun t => t.semSubCommand_keeps _ _ _))
  | semWait _ _ _ _ => exact NextKeeps.next (s.asHost_keeps _ _ _ (fun t => t.semWaitCommand_keeps _ _ _ _ _))
  | semWaitConsume _ _ _ _ => exact NextKeeps.next (s.asHost_keeps _ _ _ (fun t => t.semWaitCommand_keeps _ _ _ _ _))
  | test _ _ _ => exact NextKeeps.next (s.asHost_keeps _ _ _ (fun t => t.testCommand_keeps _ _ _))
  | packPush _ addr _ _ _ => exact execPackPush_keeps _ addr _ _ _ s
  | packFlashWrite => exact NextKeeps.next s.packWrite_keeps
  | launch _ _ _ => exact NextKeeps.next (s.asHost_keeps _ _ _ (fun t => t.launchCommand_keeps _ _ _))
  | rollback _ _ _ => exact NextKeeps.next (s.asHost_keeps _ _ _ (fun t => t.rollbackCommand_keeps _ _ _))
  | recover _ => exact NextKeeps.next (s.asHost_keeps _ _ _ (fun t => t.requestRecovery_keeps _ _ _ _))
  | resetKeeper _ => exact NextKeeps.next (s.asHost_keeps _ _ _ (fun t => State.resettingCheck_keeps { t with host := _ }))
  | resetCompute _ => exact NextKeeps.next (s.asHost_keeps _ _ _ (fun t => t.resetCommand_keeps _ _ _ State.requestCompute_keeps))
  | resetStation _ _ =>
    exact NextKeeps.next (s.asHost_keeps _ _ _ (fun t => t.resetCommand_keeps _ _ _ (fun u => u.requestStation_keeps _ _)))
  | resetPort _ _ =>
    exact NextKeeps.next (s.asHost_keeps _ _ _ (fun t => Keeps.ite (t.resetCommand_keeps _ _ _ (fun u => u.requestPort_keeps _)) (t.respond_keeps _ _ _ _ _)))
  | runDigestQuery _ => exact NextKeeps.next (s.asHost_keeps _ _ _ (fun t => t.ledgerCommand_keeps _ _ _ _))
  | runDigestSetWeights _ _ => exact NextKeeps.next (s.asHost_keeps _ _ _ (fun t => t.setWeights_keeps _ _))
  | runDigestSetInput _ _ => exact NextKeeps.next (s.asHost_keeps _ _ _ (fun t => t.setInput_keeps _ _))
  | runDigestRecompute => exact NextKeeps.next s.runRecompute_keeps
  | programLoad _ => exact NextKeeps.next (s.loadProgram_keeps _)
  | programChange _ => exact NextKeeps.next (s.changeProgram_keeps _)
  | helloSend => exact NextKeeps.next s.helloSend_keeps
  | helloReceive _ _ => exact NextKeeps.next (s.helloReceive_keeps _ _)
  | helloMissed _ => exact NextKeeps.next (s.helloMissed_keeps _)
  | pauseReceive _ _ => exact NextKeeps.next (s.pauseReceive_keeps _ _)
  | pausedTimeout _ => exact NextKeeps.next (s.pausedTimeout_keeps _)
  | holdLostTimeout => exact NextKeeps.next s.holdLostTimeout_keeps
  | voidReceive _ _ => exact NextKeeps.next (s.voidReceive_keeps _ _)
  | pairReqReceive _ _ => exact NextKeeps.next (s.pairReq_keeps _ _)
  | pairAckReceive _ _ => exact NextKeeps.next (s.pairAck_keeps _ _)
  | pairNakReceive _ _ => exact NextKeeps.next (s.pairNak_keeps _ _)
  | pairEndReceive _ _ => exact NextKeeps.next (s.pairEnd_keeps _ _)
  | chunkEgress _ _ _ _ => exact NextKeeps.next (s.chunkEgress_keeps _ _ _ _)
  | announcementReceive _ _ => exact NextKeeps.next (s.chorusArrive_keeps _ _)
  | chorusDataFlit _ _ _ _ _ _ => exact NextKeeps.next (s.chorusData_keeps _ _ _ _ _)
  | chorusCompare _ _ _ _ => exact NextKeeps.next (s.chorusCompare_keeps _ _)
  | chorusDeadline _ _ _ _ => exact NextKeeps.next (s.chorusDeadline_keeps _ _)
  | rollCallStart _ _ _ _ => exact NextKeeps.next (s.rollStart_keeps _ _)
  | rollCallReceive _ _ => exact NextKeeps.next (s.rollReceive_keeps _ _)
  | rollCallAnswerSend _ _ _ _ _ _ => exact NextKeeps.next (s.rollAnswerSend_keeps _ _ _ _ _ _)
  | rollCallAnswerReceive _ _ _ => exact NextKeeps.next (s.rollAnswer_keeps _ _ _)
  | rollCallDeadline _ _ _ _ => exact NextKeeps.next (s.rollDeadline_keeps _ _)
  | nameNoticeReceive _ _ => exact NextKeeps.next (s.nameNotice_keeps _ _)
  | remoteAddReceive _ _ => exact NextKeeps.next (s.remoteAdd_keeps _ _)
  | writeLanded _ _ => exact NextKeeps.next ((s.writeLanded_keeps _ _).trans (State.releaseAdds_keeps _ _ _))
  | parkedAddRelease _ _ => exact NextKeeps.next (s.releaseAdds_keeps _ _)
  | priorityIngressResume _ => exact NextKeeps.next (s.ingressResume_keeps _)
  | parkTimeout _ => exact NextKeeps.next (s.parkTimeout_keeps _)
  | readyDeadline => exact NextKeeps.next s.readyDeadline_keeps
  | readyMarkerReceive _ => exact NextKeeps.next (s.readyMarker_keeps _)
  | abortMarkerReceive _ => exact NextKeeps.next (s.abortMarker_keeps _)
  | readyCheck => exact NextKeeps.next s.readyCheck_keeps
  | launchRelease => exact NextKeeps.next s.launchRelease_keeps
  | wtcExchange _ _ _ => exact NextKeeps.next (s.wtcExchange_keeps _ _ _)
  | wtcSyncLoss => exact NextKeeps.next s.wtcLoss_keeps
  | tapBlockJudge _ _ => exact onTile_keeps _ (s.tapBlock_keeps _ _)
  | tapRecordArrival _ _ => exact NextKeeps.next (s.tapArrival_keeps _ _)
  | tapHoldEnd _ => exact onTile_keeps _ (s.tapHoldEnd_keeps _)
  | tapEnable _ => exact onTile_keeps _ (Keeps.ite (s.tapEnableEv_keeps _) (Keeps.refl s))
  | tapDisable _ => exact onTile_keeps _ (Keeps.ite (Keeps.refl s) (s.tapDisableEv_keeps _))
  | tapStartDone _ => exact execTapStartDone_keeps _ s
  | tapDrainDone _ => exact onTile_keeps _ (Keeps.ite ((s.setTile_keeps _ _).trans (State.put_keeps _ _ _ _)) (Keeps.refl s))
  | tapPendingStart _ => exact onTile_keeps _ (Keeps.ite (s.tapStart_keeps _) (Keeps.refl s))
  | tapWindowAdvance _ => exact NextKeeps.next (Keeps.ite (s.windowAdvance_keeps _) (Keeps.refl s))
  | tapAllocationRecompute => exact NextKeeps.next s.tapRecompute_keeps
  | replayShareShed => exact NextKeeps.next (State.shedReplay_keeps _ _)
  | armReportSend _ _ _ => exact onTile_keeps _ (s.armSend_keeps _ _ _)
  | armReport _ _ => exact onTile_keeps _ (s.armReport_keeps _ _)
  | episodeSlotOpen _ => exact NextKeeps.next (Keeps.ite (s.slotOpen_keeps _) (Keeps.refl s))
  | episodeStart _ _ => exact onTile_keeps _ (s.episodeStart_keeps _ _ _ _)
  | goWaitExpiry _ => exact onTile_keeps _ (s.goExpire_keeps _)
  | snapshotComplete _ => exact onTile_keeps _ (s.captureCycles_keeps _ _)
  | captureOverflow _ => exact onTile_keeps _ (s.captureCycles_keeps _ _)
  | recordRegionOverflow _ _ => exact onTile_keeps _ (s.captureCycles_keeps _ _)
  | replayRunDone _ => exact onTile_keeps _ (s.replayDone_keeps _)
  | episodeCompare _ _ _ _ => exact onTile_keeps _ ((s.captureCycles_keeps _ _).trans (State.episodeCompare_keeps _ _ _))
  | confirmReplayDone _ _ => exact onTile_keeps _ (s.confirmDone_keeps _ _)
  | confirmSpareTimeout _ => exact onTile_keeps _ (s.confirmTimeout_keeps _)
  | episodeDeadline _ => exact onTile_keeps _ (s.episodeDeadline_keeps _)
  | scrubPassStart _ => exact NextKeeps.next (s.passStart_keeps _)
  | scrubVisitStart _ _ _ => exact onTile_keeps _ (s.scrubStart_keeps _ _ _)
  | scrubVisitResume _ _ _ _ => exact onTile_keeps _ (Keeps.ite (State.scrubRun_keeps _ _ _ _) (Keeps.refl s))
  | scrubRecordArrival _ _ => exact NextKeeps.next (s.scrubArrival_keeps _ _)
  | visitSlot _ => exact NextKeeps.next (s.visitSlot_keeps _)
  | testWindowOpen _ _ => exact onTile_keeps _ (s.windowOpen_keeps _ _ _)
  | visitMoveDone _ => exact onTile_keeps _ (s.moveDone_keeps _)
  | visitSaveDone _ => exact onTile_keeps _ (s.saveDone_keeps _)
  | visitItemEnd _ _ => exact onTile_keeps _ (s.itemEnd_keeps _ _)
  | visitRestoreDone _ => exact onTile_keeps _ (s.restoreDone_keeps _)
  | visitClearDone _ => exact onTile_keeps _ (s.clearDone_keeps _)
  | visitRecordArrival _ _ => exact NextKeeps.next (s.visitArrival_keeps _ _)
  | visitLate _ => exact NextKeeps.next (s.visitLate_keeps _)
  | ceCounterClear _ => exact NextKeeps.next (s.ceClear_keeps _)
  | sramCeReport _ _ _ => exact onTile_keeps _ (s.sramCe_keeps _ _ _)
  | sramUeReport _ _ => exact onTile_keeps _ (s.sample_keeps _ _ _)
  | tileFrozen _ => exact onTile_keeps _ (s.freeze_keeps _)
  | slackCheckDone _ => exact NextKeeps.next (s.slackDone_keeps _)
  | transplantStart _ => exact NextKeeps.next (s.transplantStart_keeps _)
  | transplantVerified _ _ => exact NextKeeps.next (s.transplantVerified_keeps _ _ _)
  | transplantUeWord _ => exact NextKeeps.next (s.transplantUe_keeps _)
  | regrowthCommit _ => exact NextKeeps.next (s.regrowCommit_keeps _)
  | refuseWaitExpiry _ => exact execRefuseWaitExpiry_keeps _ s
  | regrowthTimeout _ => exact execRegrowthTimeout_keeps _ s
  | remapTableUe _ _ _ => exact execRemapTableUe_keeps _ _ _ s
  | epochDrainDone => exact NextKeeps.next (Keeps.ite (s.drainEnd_keeps _) (Keeps.refl s))
  | drainDeadline _ => exact NextKeeps.next (Keeps.ite ((s.countDiscards_keeps _).trans (State.drainEnd_keeps _ _)) (Keeps.refl s))
  | epochPendingAdvance => exact NextKeeps.next s.pendingAdvance_keeps
  | oldEpochFlitLanding _ _ _ => exact onTile_keeps _ (s.oldFlit_keeps _ _ _)
  | boundaryTake => exact NextKeeps.next s.boundaryTake_keeps
  | captureReadsDone => exact NextKeeps.next s.readsDone_keeps
  | holderClosingMessage _ _ _ _ => exact NextKeeps.next (s.closingMessage_keeps _ _ _ _)
  | copyCommit _ _ => exact NextKeeps.next (Keeps.ite (s.trickleCommit_keeps _) (s.copyCommit_keeps _))
  | copyValid _ => exact NextKeeps.next (s.copyValid_keeps _)
  | securingTimeout _ => exact NextKeeps.next (s.securingTimeout_keeps _)
  | driveFailure _ => exact NextKeeps.next (s.driveFailure_keeps _)
  | reloadComplete _ => exact NextKeeps.next ((s.reloadComplete_keeps _).trans (State.recoveryChecks_keeps _))
  | reloadLayerFail => exact NextKeeps.next s.reloadFail_keeps
  | rollbackRelease => exact NextKeeps.next s.rollbackRelease_keeps
  | tileSemOp _ _ _ _ => exact onTile_keeps _ (s.tileSem_keeps _ _ _ _)
  | semPoison _ => exact NextKeeps.next (s.semPoisonSet_keeps _)
  | memoryPatrol _ _ => exact NextKeeps.next (s.powered_keeps _ (s.patrol_keeps _ _))
  | spineBeatError _ _ => exact NextKeeps.next (s.powered_keeps _ (s.spineBeat_keeps _ _ _))
  | thermalSample _ _ _ => exact NextKeeps.next (s.thermalSample_keeps _ _ _)
  | overTempLine _ _ => exact NextKeeps.next (s.overTemp_keeps _ _)
  | tripHoldRelease => exact NextKeeps.next s.tripRelease_keeps
  | thermalHoldEnd => exact NextKeeps.next s.holdEnd_keeps
  | holdMaxExpiry => exact NextKeeps.next s.holdExpiry_keeps
  | droopLatchSample _ _ _ => exact NextKeeps.next (s.droopSample_keeps _ _ _)
  | ringOscillatorCount _ _ => exact NextKeeps.next (s.ringCount_keeps _ _)
  | powerSample _ _ => exact NextKeeps.next (s.addPower_keeps _ _)
  | powerSampleMissing _ => exact NextKeeps.next (s.powerMissing_keeps _)
  | powerCapEscalate => exact NextKeeps.next s.powerEscalate_keeps
  | oscDriftCheck => exact NextKeeps.next s.driftCheck_keeps
  | hazardCompute => exact NextKeeps.next s.hazardCompute_keeps
  | escapeAccountUpdate => exact NextKeeps.next s.escapeUpdate_keeps
  | ageCheck => exact NextKeeps.next (Keeps.ite s.ageCheck_keeps (Keeps.refl s))
  | timeAnchorWrite => exact NextKeeps.next s.anchorWrite_keeps
  | historyRecordWrite => exact NextKeeps.next s.histWrite_keeps
  | moltCopy => exact NextKeeps.next s.moltCopyDone_keeps
  | fuseBlow _ _ _ => exact (hi _ _ _ rfl).elim
  | testAccessPortRequest _ _ => exact NextKeeps.next (s.tapRequest_keeps _)
  | laneRetrainTrigger _ _ _ _ => exact NextKeeps.next (s.retrainTrigger_keeps _ _ _ _)
  | laneRetrainDone _ _ => exact NextKeeps.next (s.retrainDone_keeps _ _)
  | stallLimitReached _ _ => exact onTile_keeps _ (s.stallLimit_keeps _ _)
  | stallRecordArrival _ _ => exact onTile_keeps _ (s.stallArrives_keeps _ _)
  | namingWindowClose => exact NextKeeps.next s.namingClose_keeps
  | coreWake _ => exact NextKeeps.next (s.wakeOn_keeps _ _)
  | alarmDue _ => exact NextKeeps.next (s.wakeOn_keeps _ _)
  | asyncCompletion _ _ _ _ => exact NextKeeps.next (s.completeAsync_keeps _ _ _ _)
  | coreRestart _ _ => exact NextKeeps.next (s.restartCore_keeps _ _)
  | add _ _ _ _ => exact s.onCore_keeps _ (fun t _ => t.alu_keeps _ _ _ _ _)
  | sub _ _ _ _ => exact s.onCore_keeps _ (fun t _ => t.alu_keeps _ _ _ _ _)
  | and _ _ _ _ => exact s.onCore_keeps _ (fun t _ => t.alu_keeps _ _ _ _ _)
  | or _ _ _ _ => exact s.onCore_keeps _ (fun t _ => t.alu_keeps _ _ _ _ _)
  | xor _ _ _ _ => exact s.onCore_keeps _ (fun t _ => t.alu_keeps _ _ _ _ _)
  | sll _ _ _ _ => exact s.onCore_keeps _ (fun t _ => t.alu_keeps _ _ _ _ _)
  | srl _ _ _ _ => exact s.onCore_keeps _ (fun t _ => t.alu_keeps _ _ _ _ _)
  | sra _ _ _ _ => exact s.onCore_keeps _ (fun t _ => t.alu_keeps _ _ _ _ _)
  | slt _ _ _ _ => exact s.onCore_keeps _ (fun t _ => t.alu_keeps _ _ _ _ _)
  | sltu _ _ _ _ => exact s.onCore_keeps _ (fun t _ => t.alu_keeps _ _ _ _ _)
  | min _ _ _ _ => exact s.onCore_keeps _ (fun t _ => t.alu_keeps _ _ _ _ _)
  | max _ _ _ _ => exact s.onCore_keeps _ (fun t _ => t.alu_keeps _ _ _ _ _)
  | minu _ _ _ _ => exact s.onCore_keeps _ (fun t _ => t.alu_keeps _ _ _ _ _)
  | maxu _ _ _ _ => exact s.onCore_keeps _ (fun t _ => t.alu_keeps _ _ _ _ _)
  | mul _ _ _ _ => exact s.onCore_keeps _ (fun t _ => t.alu_keeps _ _ _ _ _)
  | mulhu _ _ _ _ => exact s.onCore_keeps _ (fun t _ => t.alu_keeps _ _ _ _ _)
  | divu _ _ _ _ => exact s.onCore_keeps _ (fun t _ => t.alu_keeps _ _ _ _ _)
  | remu _ _ _ _ => exact s.onCore_keeps _ (fun t _ => t.alu_keeps _ _ _ _ _)
  | addm61 _ _ _ _ => exact s.onCore_keeps _ (fun t _ => t.alu_keeps _ _ _ _ _)
  | mulm61 _ _ _ _ => exact s.onCore_keeps _ (fun t _ => t.alu_keeps _ _ _ _ _)
  | addi _ _ _ _ => exact s.onCore_keeps _ (fun t _ => t.aluImm_keeps _ _ _ _)
  | andi _ _ _ _ => exact s.onCore_keeps _ (fun t _ => t.aluImm_keeps _ _ _ _)
  | ori _ _ _ _ => exact s.onCore_keeps _ (fun t _ => t.aluImm_keeps _ _ _ _)
  | xori _ _ _ _ => exact s.onCore_keeps _ (fun t _ => t.aluImm_keeps _ _ _ _)
  | slti _ _ _ _ => exact s.onCore_keeps _ (fun t _ => t.aluImm_keeps _ _ _ _)
  | sltiu _ _ _ _ => exact s.onCore_keeps _ (fun t _ => t.aluImm_keeps _ _ _ _)
  | shiftiSll _ _ _ _ => exact s.onCore_keeps _ (fun t _ => t.aluImm_keeps _ _ _ _)
  | shiftiSrl _ _ _ _ => exact s.onCore_keeps _ (fun t _ => t.aluImm_keeps _ _ _ _)
  | shiftiSra _ _ _ _ => exact s.onCore_keeps _ (fun t _ => t.aluImm_keeps _ _ _ _)
  | lui _ _ _ => exact s.onCore_keeps _ (fun t _ => t.writeReg_keeps _ _ _)
  | orih _ _ _ _ => exact s.onCore_keeps _ (fun t _ => t.aluImm_keeps _ _ _ _)
  | ld _ _ _ _ => exact execLd_keeps _ _ _ _ s
  | lwu _ _ _ _ => exact execLwu_keeps _ _ _ _ s
  | lbu _ _ _ _ => exact execLbu_keeps _ _ _ _ s
  | dld _ _ _ _ => exact execDld_keeps _ _ _ _ s
  | sd _ _ _ _ => exact execSd_keeps _ _ _ _ s
  | sw _ _ _ _ => exact execSw_keeps _ _ _ _ s
  | sb _ _ _ _ => exact s.onCore_keeps _ (fun t _ => t.store_keeps _ _ _ _)
  | dst _ _ _ _ => exact execDst_keeps _ _ _ _ s
  | dget _ _ _ _ => exact s.onCore_keeps _ (fun t _ => t.writeReg_keeps _ _ _)
  | dput _ _ _ _ => exact execDput_keeps _ _ _ _ s
  | dzero _ _ => exact s.onCore_keeps _ (fun t _ => t.writeDesc_keeps _ _ _)
  | beq _ _ _ _ => exact s.onCore_keeps _ (fun t _ => t.branch_keeps _ _ _ _ _)
  | bne _ _ _ _ => exact s.onCore_keeps _ (fun t _ => t.branch_keeps _ _ _ _ _)
  | blt _ _ _ _ => exact s.onCore_keeps _ (fun t _ => t.branch_keeps _ _ _ _ _)
  | bge _ _ _ _ => exact s.onCore_keeps _ (fun t _ => t.branch_keeps _ _ _ _ _)
  | bltu _ _ _ _ => exact s.onCore_keeps _ (fun t _ => t.branch_keeps _ _ _ _ _)
  | bgeu _ _ _ _ => exact s.onCore_keeps _ (fun t _ => t.branch_keeps _ _ _ _ _)
  | jal _ _ _ => exact s.onCore_keeps _ (fun t _ => t.jump_keeps _ _ _)
  | jalr _ _ _ _ => exact s.onCore_keeps _ (fun t _ => Keeps.ite (t.trap_keeps _ _ _) (t.jump_keeps _ _ _))
  | kick _ => exact s.onCore_keeps _ (fun t _ => t.kick_keeps _)
  | safe _ => exact s.onCore_keeps _ (fun t _ => t.safePoint_keeps _)
  | evpop _ _ _ => exact s.onCore_keeps _ (fun t _ => t.evPop_keeps _ _ _)
  | eret _ => exact s.onCore_keeps _ (fun t _ => t.eret_keeps _)
  | csrr _ _ _ => exact execCsrr_keeps _ _ _ s
  | csrw _ _ _ => exact s.onCore_keeps _ (fun t _ => Keeps.ite ((t.setCore_keeps _ _).trans (State.goNext_keeps _ _)) (t.trap_keeps _ _ _))
  | send _ _ _ _ => exact s.onCore_keeps _ (fun t _ => t.sendMail_keeps _ _ _ _)
  | arm _ _ _ => exact execArm_keeps _ _ _ s
  | testOperation _ _ _ _ => exact s.onCore_keeps _ (fun t _ => Keeps.ite (t.trap_keeps _ _ _) (t.opTest_keeps _ _ _ _))
  | quar _ _ _ => exact s.onCore_keeps _ (fun t _ => t.opQuar_keeps _ _ _)
  | remapRetry _ _ _ => exact execRemapRetry_keeps _ _ _ s
  | remapEscalate _ _ _ => exact execRemapEscalate_keeps _ _ _ s
  | fill _ _ _ _ => exact execFill_keeps _ _ _ _ s
  | secure _ _ _ _ => exact s.onCore_keeps _ (fun t _ => t.opSecure_keeps _ _ _ _)
  | digestSha256 _ _ _ => exact s.onCore_keeps _ (fun t _ => t.opDigest_keeps _ _ _ _)
  | digestHmac _ _ _ => exact s.onCore_keeps _ (fun t _ => t.opDigest_keeps _ _ _ _)
  | digestPld61 _ _ _ => exact s.onCore_keeps _ (fun t _ => t.opDigest_keeps _ _ _ _)
  | ledgerQueryOp _ _ _ _ _ => exact s.onCore_keeps _ (fun t _ => t.opLedger_keeps _ _ _ _ _ _)
  | ledgerUpdateOp _ _ _ _ _ => exact s.onCore_keeps _ (fun t _ => t.opLedger_keeps _ _ _ _ _ _)
  | ledgerAddOp _ _ _ _ _ => exact s.onCore_keeps _ (fun t _ => t.opLedger_keeps _ _ _ _ _ _)
  | semadd _ _ _ _ => exact s.onCore_keeps _ (fun t _ => t.opSemadd_keeps _ _ _ _)
  | semsub _ _ _ _ => exact execSemsub_keeps _ _ _ _ s
  | semwait _ _ _ _ _ => exact s.onCore_keeps _ (fun t _ => t.opSemwait_keeps _ _ _ _ _ _)
  | semwaitConsume _ _ _ _ _ => exact s.onCore_keeps _ (fun t _ => t.opSemwait_keeps _ _ _ _ _ _)
  | fence _ _ => exact s.onCore_keeps _ (fun t _ => (t.setCore_keeps _ _).trans (State.opEnd_keeps _ _ _ _ _ _))
  | croak _ _ _ _ _ => exact execCroak_keeps _ _ _ _ _ s
  | molt _ _ _ => exact execMolt_keeps _ _ _ s
  | timeManager _ _ => exact s.onCore_keeps _ (fun t _ => t.writeReg_keeps _ _ _)
  | timeWtc _ _ => exact s.onCore_keeps _ (fun t _ => t.opWtc_keeps _ _)
  | waitev _ _ _ _ => exact s.onCore_keeps _ (fun t _ => t.opWaitev_keeps _ _ _ _)
  | i3cPrivateRead => exact NextKeeps.next (s.i3cAnswer_keeps _ _)
  | i3cPrivateWrite => exact NextKeeps.next (s.i3cAnswer_keeps _ _)
  | entdaa _ => exact NextKeeps.next (s.i3cAssign_keeps _)
  | setdasa _ => exact NextKeeps.next (s.i3cAssign_keeps _)
  | getpid => exact NextKeeps.next (s.i3cFree_keeps _)
  | getbcr => exact NextKeeps.next (s.i3cFree_keeps _)
  | getdcr => exact NextKeeps.next (s.i3cFree_keeps _)
  | getstatus => exact NextKeeps.next (s.i3cFree_keeps _)
  | aoiSupplyLoss => exact NextKeeps.next s.aoiOff_keeps
  | storagePortReady _ _ => exact NextKeeps.next (s.portReady_keeps _ _ _ _)
  | boundaryWaitExpiry => exact NextKeeps.next s.boundaryExpiry_keeps
  | scrubVisitEnd _ => exact onTile_keeps _ (s.scrubEnd_keeps _)
  | remoteAddSend _ _ _ _ => exact NextKeeps.next (s.remoteAddSend_keeps _ _ _ _)
  | fabricWriteSend _ _ => exact NextKeeps.next (s.fabricSend_keeps _ _)
  | illegalInstruction _ _ => exact s.onCore_keeps _ (fun t _ => Keeps.ite (t.trap_keeps _ _ _) (Keeps.refl t))
  | tileSramWrite _ _ _ => exact onTile_keeps _ (s.tileWrite_keeps _ _ _ _)

theorem State.blowFuse_pending (s : State) (k : UnitKey) (bad : Bool) (rv : Nat) : (s.blowFuse k bad rv).pending = s.pending := by
  unfold State.blowFuse
  split <;> rfl

/-- FUSE_BLOW adds a unit that exists and is not yet in the map, or takes a unit out of it. -/
theorem State.fuseMapOk_blowFuse {s : State} (k : UnitKey) (bad : Bool) (rv : Nat) (hs : s.fuseMapOk) :
    (s.blowFuse k bad rv).fuseMapOk := by
  obtain ⟨hnd, hok⟩ := hs
  unfold State.blowFuse
  split
  · rename_i hopen
    have hk : keyOk k = true := (Bool.and_eq_true_iff.mp hopen).2
    cases bad with
    | true =>
      by_cases hin : k ∈ s.fuses.bad
      · simpa [State.fuseMapOk, hin, hnd] using hok
      · simp only [State.fuseMapOk, List.contains_eq_mem, hin, if_true, decide_false, Bool.false_eq_true, if_false]
        refine ⟨List.nodup_append.mpr ⟨hnd, List.nodup_singleton k, ?_⟩, ?_⟩
        · rintro a ha b hb rfl
          exact hin (List.mem_singleton.mp hb ▸ ha)
        · intro x hx
          obtain hx | hx := List.mem_append.mp hx
          · exact hok x hx
          · exact List.mem_singleton.mp hx ▸ hk
    | false => exact ⟨hnd.filter _, fun x hx => hok x (List.mem_filter.mp hx).1⟩
  · exact ⟨hnd, hok⟩

/-- What a command does to the queue and the fuses: FUSE_BLOW keeps the queue, and every other keeps both. -/
theorem exec_next (i : Instr) (s t : State) (h : exec i s = .next t) :
    t.pending = s.pending ∧ (s.fuseMapOk → t.fuseMapOk) ∧ ((∀ k bad rv, i ≠ .fuseBlow k bad rv) → t.fuses = s.fuses) := by
  by_cases hi : ∀ k bad rv, i ≠ .fuseBlow k bad rv
  · obtain ⟨hp, hf⟩ := exec_keeps i s hi t h
    exact ⟨hp, fun hs => by rw [State.fuseMapOk, hf]; exact hs, fun _ => hf⟩
  · push Not at hi
    obtain ⟨k, bad, rv, rfl⟩ := hi
    obtain rfl : s.blowFuse k bad rv.toNat = t := Host.Outcome.next.inj h
    exact ⟨s.blowFuse_pending _ _ _, State.fuseMapOk_blowFuse _ _ _, fun hn => (hn k bad rv rfl).elim⟩

/-- Settles O60: `exec_next` tells what each command does to the queue and the fuses, and an empty queue changes nothing. -/
theorem everyStepKeepsTheFuseMap : Obligations.EveryStepKeepsTheFuseMap := by
  refine ⟨fun s t hs h => ?_, fun s t c rest hq h => ?_⟩
  · cases hq : s.pending with
    | nil =>
      rw [step, hq] at h
      exact Host.Outcome.next.inj h ▸ hs
    | cons c rest =>
      rw [step, hq] at h
      obtain ⟨-, hmap, -⟩ := exec_next c _ t h
      exact hmap hs
  · rw [step, hq] at h
    obtain ⟨hp, -, hf⟩ := exec_next c _ t h
    exact ⟨hp, hf⟩

end Sys2Proof.Machine
end

section
/-! Commands of a tile that R36 does not give. -/

namespace Sys2Proof.Machine

theorem onTile_noSuchTile {k : Nat} (hk : tileOk k = false) (s t : State) : onTile k s t = .fault .noSuchTile := by
  rw [onTile, hk]
  rfl

/-- Settles O59: each of the commands is an `onTile`. -/
theorem tileCommandsFaultOffTheWafer : Obligations.TileCommandsFaultOffTheWafer := by
  intro s tile a b x p w blk img flits cycles run ctx res bank q op ctr stall line data hk
  have fault := onTile_noSuchTile hk
  iterate 39 refine List.forall_mem_cons.mpr ⟨fault s _, ?_⟩
  exact List.forall_mem_nil _

end Sys2Proof.Machine
end

section
/-! What a manager operation of a core leaves (15_ixfold_isa.md R435 to R440): the result word, and the core that goes on with it. -/

namespace Sys2Proof.Machine

/-! ### Fields packed side by side -/

theorem two_pow_dvd_pack {n : Nat} (l : List (Nat × Nat × Nat)) (h : ∀ e ∈ l, n ≤ e.1) : 2 ^ n ∣ pack l := by
  induction l with
  | nil => exact Nat.dvd_zero _
  | cons e l ih =>
    obtain ⟨lo, w, v⟩ := e
    have hlo : n ≤ lo := h _ List.mem_cons_self
    obtain ⟨q, hq⟩ := ih (fun e he => h e (List.mem_cons_of_mem _ he))
    have e1 : (v % 2 ^ w) <<< lo = ((v % 2 ^ w) <<< (lo - n)) <<< n := by rw [← Nat.shiftLeft_add, Nat.sub_add_cancel hlo]
    have e2 : pack l = q <<< n := by rw [hq, Nat.shiftLeft_eq, Nat.mul_comm]
    rw [pack, e1, e2, ← Nat.shiftLeft_or_distrib, Nat.shiftLeft_eq]
    exact Nat.dvd_mul_left _ _

/-- A field below the others adds to them. -/
theorem pack_cons_add (lo w v : Nat) (l : List (Nat × Nat × Nat)) (h : ∀ e ∈ l, lo + w ≤ e.1) :
    pack ((lo, w, v) :: l) = v % 2 ^ w * 2 ^ lo + pack l := by
  obtain ⟨q, hq⟩ := two_pow_dvd_pack l h
  have hlt : (v % 2 ^ w) <<< lo < 2 ^ (lo + w) := by
    rw [Nat.shiftLeft_eq, Nat.pow_add, Nat.mul_comm]
    exact Nat.mul_lt_mul_of_pos_left (Nat.mod_lt _ (Nat.two_pow_pos w)) (Nat.two_pow_pos lo)
  rw [pack, hq, Nat.lor_comm, Nat.mul_comm, ← Nat.shiftLeft_eq q, ← Nat.shiftLeft_add_eq_or_of_lt hlt, Nat.shiftLeft_eq (v % 2 ^ w),
    Nat.add_comm]

theorem opResult_eq (status flags value : Nat) :
    opResult status flags value = resultWord (status % 256) (flags % 256) (value % 2 ^ 32) := by
  rw [opResult, resultWord, pack_cons_add _ _ _ _ (by simp), pack_cons_add _ _ _ _ (by simp), pack_cons_add _ _ _ _ (by simp), pack]
  congr 1
  omega

/-! ### The core that goes on -/

@[simp] theorem State.core_haltSeen (s : State) (c k : Nat) : (s.haltSeen c).core k = s.core k := by
  unfold State.haltSeen
  split <;> rfl

theorem State.haltCore_core_x (s : State) (c : Nat) : ((s.haltCore c).core c).x = (s.core c).x := by
  rw [State.haltCore, State.core_haltSeen, State.core_setCore_same]

theorem State.trapAt_core_x (s : State) (c epc cause tval : Nat) : ((s.trapAt c epc cause tval).core c).x = (s.core c).x := by
  rw [State.trapAt]
  split
  · exact s.haltCore_core_x c
  · split <;> simp [State.haltCore_core_x]

theorem State.goNext_core_x (s : State) (c : Nat) : ((s.goNext c).core c).x = (s.core c).x := by
  rw [State.goNext, State.goTo]
  split <;> simp [State.trapAt_core_x]

/-- Nothing but cores and registers differs. -/
def CoresAndRegs (s t : State) : Prop := t = { s with cores := t.cores, regs := t.regs }

theorem CoresAndRegs.trans {s t u : State} (h : CoresAndRegs s t) (h' : CoresAndRegs t u) : CoresAndRegs s u := by
  rw [CoresAndRegs, h', h]

theorem State.setCore_coresAndRegs (s : State) (c : Nat) (x : Core) : CoresAndRegs s (s.setCore c x) := rfl

theorem State.haltCore_coresAndRegs (s : State) (c : Nat) : CoresAndRegs s (s.haltCore c) := by
  rw [State.haltCore, State.haltSeen]
  split <;> rfl

theorem State.trapAt_coresAndRegs (s : State) (c epc cause tval : Nat) : CoresAndRegs s (s.trapAt c epc cause tval) := by
  rw [State.trapAt]
  split
  · exact s.haltCore_coresAndRegs c
  · split
    · rfl
    · exact (s.setCore_coresAndRegs c _).trans (State.haltCore_coresAndRegs _ c)

theorem State.goNext_coresAndRegs (s : State) (c : Nat) : CoresAndRegs s (s.goNext c) := by
  rw [State.goNext, State.goTo]
  split
  · rfl
  · exact (s.setCore_coresAndRegs c _).trans (State.trapAt_coresAndRegs _ c _ _ _)

theorem State.opEnd_coresAndRegs (s : State) (c : Nat) (rd : BitVec 5) (status flags value : Nat) :
    CoresAndRegs s (s.opEnd c rd status flags value) :=
  (s.setCore_coresAndRegs c _).trans (State.goNext_coresAndRegs _ c)

theorem CoresAndRegs.regrows {s t : State} (h : CoresAndRegs s t) : t.regrows = s.regrows := by
  unfold CoresAndRegs at h
  rw [h]

/-- An operation answers rd whatever becomes of the core's pc. -/
theorem State.opEnd_answers (s : State) (c : Fin 68) (rd : BitVec 5) (value : Nat) {status : Nat} (h : status < 256) :
    Answers c rd status (s.opEnd c.val rd status 0 value) := by
  intro hrd
  refine ⟨value, ?_⟩
  have hx : ((s.opEnd c.val rd status 0 value).core c.val).x = ((s.core c.val).setX rd.toNat (opResult status 0 value)).x := by
    rw [State.opEnd, State.writeReg, State.goNext_core_x, State.core_setCore_same]
  have hw := ((s.core c.val).setX_written rd (opResult status 0 value)).congr hx
  rw [hw.2 rd hrd, if_pos rfl, opResult_eq, Nat.mod_eq_of_lt h]

theorem State.opEnd_result (s : State) (c : Fin 68) (rd : BitVec 5) {status : Nat} (value : Nat) (h : (s.core c.val).pc + 4 < 65536)
    (hs : status < 256) : RegResult s c rd (resultWord status 0 (value % 2 ^ 32)) (s.opEnd c.val rd status 0 value) := by
  have e := opResult_eq status 0 value
  rw [Nat.mod_eq_of_lt hs, Nat.zero_mod] at e
  rw [← e]
  exact s.writeReg_result c rd _ h

/-- An operation that also writes a descriptor register: the two registers, the core that goes on, and nothing else. -/
theorem State.opEndD_result (s : State) (c : Fin 68) (rd : BitVec 5) (d : Fin 8) (v : BitVec 256) {status : Nat} (value : Nat)
    (h : (s.core c.val).pc + 4 < 65536) (hs : status < 256) :
    let t := s.opEndD c.val rd d v status value
    OnlyCore s t c.val ∧ XWritten (s.core c.val) (t.core c.val) rd (resultWord status 0 (value % 2 ^ 32)) ∧
      DWritten (s.core c.val) (t.core c.val) d.val v ∧ (t.core c.val).ledgerOp = (s.core c.val).ledgerOp := by
  intro t
  obtain ⟨ho, hx, hy⟩ := (s.setCore c.val ((s.core c.val).setD d.val v)).opEnd_result c rd value (by simpa [Core.setD] using h) hs
  simp only [State.core_setCore_same] at hx hy
  refine ⟨(OnlyCore.setCore s _ _).trans ho, ⟨hx.1, hx.2⟩, ((s.core c.val).setD_written d.val v).congr ?_, ?_⟩
  · exact (congrArg Core.d hy).trans rfl
  · exact (congrArg Core.ledgerOp hy).trans rfl

/-! ### Running an operation -/

/-- A command of a ready core answers what its operation leaves. -/
theorem Completes.of_onCore {i : Instr} {s : State} {c : Fin 68} {f : State → Core → State} {P : State → Prop}
    (hi : exec i s = s.onCore c f) (h : s.ready c) (hP : P (f s (s.core c.val))) : Completes (exec i s) P :=
  Completes.of_next (hi.trans (State.onCore_of_ready h f)) hP

theorem State.pc_of_ready {s : State} {c : Fin 68} (h : s.ready c) : (s.core c.val).pc + 4 < 65536 := by
  obtain ⟨-, -, -, -, -, hpc⟩ := h
  exact hpc

/-- An operation that ends with a status and no value. -/
theorem State.opEnd_status {s : State} {c : Fin 68} (h : s.ready c) (rd : BitVec 5) {status : Nat} (hs : status < 256) :
    RegResult s c rd (resultWord status 0 0) (s.opEnd c.val rd status 0 0) :=
  s.opEnd_result c rd 0 (State.pc_of_ready h) hs

theorem notHere_of_mayName {c : Fin 68} {f : Nat} (h : MayName c f) : notHere c.val f = false := by
  obtain h | h := h <;> simp [notHere, isKeeperCore, coreField, h]

/-! ### The commands of these operations -/

theorem exec_quar (s : State) (c : Fin 68) (rd rs1 : BitVec 5) :
    exec (.quar c rd rs1) s = s.onCore c (fun t x => t.opQuar c.val rd (x.getX rs1.toNat)) := rfl

theorem exec_remapRetry (s : State) (c : Fin 68) (rd rs1 : BitVec 5) :
    exec (.remapRetry c rd rs1) s = s.onCore c (fun t x => t.opRemap c.val rd (x.getX rs1.toNat) (fun u r => u.regrowRetry r)) := rfl

theorem exec_remapEscalate (s : State) (c : Fin 68) (rd rs1 : BitVec 5) :
    exec (.remapEscalate c rd rs1) s =
      s.onCore c (fun t x => t.opRemap c.val rd (x.getX rs1.toNat) (fun u r => u.escalate r (refusalReason r))) := rfl

theorem exec_fill (s : State) (c : Fin 68) (rd rs1 : BitVec 5) (d : Fin 8) :
    exec (.fill c rd rs1 d) s = s.onCore c (fun t x => t.opFill c.val rd d (x.getX rs1.toNat)) := rfl

theorem exec_secure (s : State) (c : Fin 68) (rd rs1 : BitVec 5) (layers : BitVec 3) :
    exec (.secure c rd rs1 layers) s = s.onCore c (fun t x => t.opSecure c.val rd (x.getX rs1.toNat) layers.toNat) := rfl

theorem exec_digestSha256 (s : State) (c : Fin 68) (rd : BitVec 5) (d : Fin 8) :
    exec (.digestSha256 c rd d) s = s.onCore c (fun t _ => t.opDigest c.val rd d 0) := rfl

theorem exec_digestHmac (s : State) (c : Fin 68) (rd : BitVec 5) (d : Fin 8) :
    exec (.digestHmac c rd d) s = s.onCore c (fun t _ => t.opDigest c.val rd d 1) := rfl

theorem exec_digestPld61 (s : State) (c : Fin 68) (rd : BitVec 5) (d : Fin 8) :
    exec (.digestPld61 c rd d) s = s.onCore c (fun t _ => t.opDigest c.val rd d 2) := rfl

theorem exec_ledgerQueryOp (s : State) (c : Fin 68) (rd rs1 rs2 : BitVec 5) (d : Fin 8) :
    exec (.ledgerQueryOp c rd rs1 rs2 d) s = s.onCore c (fun t x => t.opLedger c.val 0 rd d (x.getX rs1.toNat) 0) := rfl

theorem exec_ledgerUpdateOp (s : State) (c : Fin 68) (rd rs1 rs2 : BitVec 5) (d : Fin 8) :
    exec (.ledgerUpdateOp c rd rs1 rs2 d) s =
      s.onCore c (fun t x => t.opLedger c.val 1 rd d (x.getX rs1.toNat) (x.getX rs2.toNat).toNat) := rfl

theorem exec_ledgerAddOp (s : State) (c : Fin 68) (rd rs1 rs2 : BitVec 5) (d : Fin 8) :
    exec (.ledgerAddOp c rd rs1 rs2 d) s =
      s.onCore c (fun t x => t.opLedger c.val 2 rd d (x.getX rs1.toNat) (x.getX rs2.toNat).toNat) := rfl

theorem exec_fence (s : State) (c : Fin 68) (rd : BitVec 5) :
    exec (.fence c rd) s = s.onCore c (fun t x => (t.setCore c.val { x with posted := 0 }).opEnd c.val rd stOk 0 0) := rfl

theorem exec_timeManager (s : State) (c : Fin 68) (rd : BitVec 5) :
    exec (.timeManager c rd) s = s.onCore c (fun t _ => t.writeReg c.val rd.toNat (BitVec.ofNat 64 t.now)) := rfl

theorem exec_timeWtc (s : State) (c : Fin 68) (rd : BitVec 5) :
    exec (.timeWtc c rd) s = s.onCore c (fun t _ => t.opWtc c.val rd) := rfl

theorem exec_croak (s : State) (c : Fin 68) (rd rs1 rs2 : BitVec 5) (cls : BitVec 3) :
    exec (.croak c rd rs1 rs2 cls) s = s.onCore c (fun t x =>
      if cls = 2 ∨ cls = 5 then t.opCroak c.val rd (x.getX rs1.toNat) (x.getX rs2.toNat) cls.toNat
      else t.trap c.val 1 (wordM 0x2D rd.toNat rs1.toNat rs2.toNat 0 cls.toNat)) := rfl

theorem exec_molt (s : State) (c : Fin 68) (rd rs1 : BitVec 5) :
    exec (.molt c rd rs1) s = s.onCore c (fun t x => t.opMolt c.val rd (x.getX rs1.toNat)) := rfl

end Sys2Proof.Machine
end

section
/-! QUAR, REMAP, FILL, SECURE and DIGEST (15_ixfold_isa.md R440 to R445). -/

namespace Sys2Proof.Machine

/-! ### QUAR -/

/-- A QUAR or LEDGER operation with a good key stalls its core and changes nothing else. -/
theorem State.lodge_onlyCore (s : State) (c kind : Nat) (rd : BitVec 5) (d : Nat) (k : UnitKey) (arg : Nat) :
    OnlyCore s (s.lodge c kind rd d k arg) c ∧
      (s.lodge c kind rd d k arg).core c = { s.core c with ledgerOp := some ⟨kind, k, arg, rd.toNat, d, none⟩ } :=
  ⟨OnlyCore.setCore s c _, s.core_setCore_same c _⟩

/-- What telling of an event touches: registers, the events of the tick, the history and the host port. -/
def Reports (s t : State) : Prop :=
  t = { s with regs := t.regs, events := t.events, heldRecs := t.heldRecs, hist := t.hist, host := t.host }

theorem Reports.trans {s t u : State} (h : Reports s t) (h' : Reports t u) : Reports s u := by
  rw [Reports, h', h]

theorem Reports.ledger {s t : State} (h : Reports s t) : t.ledger = s.ledger := by
  unfold Reports at h
  rw [h]

theorem Reports.tiles {s t : State} (h : Reports s t) : t.tiles = s.tiles := by
  unfold Reports at h
  rw [h]

theorem Reports.regrows {s t : State} (h : Reports s t) : t.regrows = s.regrows := by
  unfold Reports at h
  rw [h]

theorem Reports.core {s t : State} (h : Reports s t) (c : Nat) : t.core c = s.core c := by
  unfold Reports at h
  rw [h]
  rfl

theorem State.sample_reports (s : State) (cls loc : Nat) (acts : List EvAct) : Reports s (s.sample cls loc acts) := by
  rw [State.sample]
  split
  · rfl
  · split
    · split <;> rfl
    · rfl

theorem State.sendMsg_reports (s : State) (cls code units cid status payload : Nat) :
    Reports s (s.sendMsg cls code units cid status payload) := by
  rw [State.sendMsg]
  split <;> rfl

theorem State.stage_reports (s : State) (r : HistRec) : Reports s (s.stage r) := by
  rw [State.stage]
  split
  · rfl
  · dsimp only
    split
    · rfl
    · exact Reports.trans (t := State.put { s with hist := _ } .kprLedgerStatusOverflow 0 1) rfl (State.sendMsg_reports _ _ _ _ _ _ _)

theorem State.writeHist_reports (s : State) (k : UnitKey) (st origin : Nat) (det : Bool) (ev created : Nat) :
    Reports s (s.writeHist k st origin det ev created) := s.stage_reports _

theorem State.entryNotice_reports (s : State) (e : Entry) (prev : Nat) : Reports s (s.entryNotice e prev) := s.sample_reports _ _ _

/-- A tile out of use stays as it is when its entry is QUARANTINED. -/
theorem State.withdraw_tile_out (s : State) {k : UnitKey} (hk : (keyTile k).isSome = true) (cause : Nat) : s.withdraw k cause true = s := by
  obtain ⟨t, ht⟩ := Option.isSome_iff_exists.mp hk
  simp [State.withdraw, ht]

/-- The firmware's update of a unit that was out before: its slot, and reports of it. -/
theorem State.firmwareQuarantine_reports (s : State) {i : Nat} {e : Entry} (hout : s.outBefore e.key = true)
    (ht : (keyTile e.key).isSome = true) : Reports (s.setSlot i (some { e with state := 1 })) (s.firmwareQuarantine i e) := by
  rw [State.firmwareQuarantine, hout]
  rw [State.withdraw_tile_out _ ht]
  exact (State.writeHist_reports _ _ _ _ _ _ _).trans (State.entryNotice_reports _ _ _)

/-! ### The tick's part of an operation that is lodged -/

theorem State.firmwareWrite_eq (s : State) {c : Nat} {o : LedgerOp} {st v : Nat} {t : State} (ho : (s.core c).ledgerOp = some o)
    (he : s.ledgerEffect c o = (st, v, t)) (ht : (t.core c).ledgerOp = some o) :
    s.firmwareWrite c = t.setCore c { t.core c with ledgerOp := some { o with done := some (st, v) } } := by
  simp [State.firmwareWrite, ho, he, ht]

/-- An operation that changes nothing but its own status. -/
theorem State.firmwareWrite_same (s : State) {c : Nat} {o : LedgerOp} {st v : Nat} (ho : (s.core c).ledgerOp = some o)
    (he : s.ledgerEffect c o = (st, v, s)) :
    OnlyCore s (s.firmwareWrite c) c ∧ ((s.firmwareWrite c).core c).ledgerOp = some { o with done := some (st, v) } := by
  rw [s.firmwareWrite_eq ho he ho]
  exact ⟨OnlyCore.setCore s c _, by rw [State.core_setCore_same]⟩

theorem State.firmwareUpdate_refused (s : State) (k : UnitKey) (expect new : Nat)
    (h : s.findEntry k = none ∨ ∃ j x, s.findEntry k = some (j, x) ∧ x.state ≠ 0) :
    s.firmwareUpdate k expect new = (stRefused, s) := by
  obtain h | ⟨j, x, h, hx⟩ := h <;> simp [State.firmwareUpdate, h]
  intro h0
  exact absurd h0 hx

theorem State.firmwareUpdate_suspect (s : State) {k : UnitKey} {i : Nat} {e : Entry} (h : s.findEntry k = some (i, e)) (he : e.state = 0) :
    s.firmwareUpdate k 0 1 = (stOk, s.firmwareQuarantine i e) := by
  simp [State.firmwareUpdate, h, he]

theorem State.ledgerEffect_quar (s : State) {c : Nat} {o : LedgerOp} (hk : o.kind = 3) (hn : keyNotHere c o.key = false) :
    s.ledgerEffect c o = ((s.firmwareUpdate o.key 0 1).1,
      (if (s.firmwareUpdate o.key 0 1).1 = stOk then (s.firmwareUpdate o.key 0 1).2.quarValue s o.key else 0),
      (s.firmwareUpdate o.key 0 1).2) := by
  simp [State.ledgerEffect, hn, hk]

/-- The answer of QUAR: rd, the core that goes on, and no operation lodged any more. -/
theorem State.firmwareAnswer_quar (s : State) (c : Fin 68) {o : LedgerOp} {rd : BitVec 5} {st v : Nat} (hk : o.kind = 3)
    (hr : o.rd = rd.toNat) (ho : (s.core c.val).ledgerOp = some { o with done := some (st, v) }) (hpc : (s.core c.val).pc + 4 < 65536) (hs : st < 256)
    (hv : v < 2 ^ 32) :
    let u := s.firmwareAnswer c.val
    OnlyCore s u c.val ∧ XWritten (s.core c.val) (u.core c.val) rd (resultWord st 0 v) ∧ (u.core c.val).ledgerOp = none ∧
      (u.core c.val).pc = (s.core c.val).pc + 4 := by
  have e : s.firmwareAnswer c.val = (s.setCore c.val { s.core c.val with ledgerOp := none }).opEnd c.val rd st 0 v := by
    simp [State.firmwareAnswer, ho, hk, hr]
  obtain ⟨h, hx, hy⟩ := (s.setCore c.val { s.core c.val with ledgerOp := none }).opEnd_result c rd v (by simpa using hpc) hs
  simp only [State.core_setCore_same, Nat.mod_eq_of_lt hv] at hx hy
  rw [e]
  exact ⟨(OnlyCore.setCore s _ _).trans h, ⟨hx.1, hx.2⟩, (congrArg Core.ledgerOp hy).trans rfl, (congrArg Core.pc hy).trans rfl⟩

theorem quar_settles (s : State) (c : Fin 68) (rd rs1 : BitVec 5) (k : UnitKey) (i : Nat) (e : Entry) :
     let o : LedgerOp := ⟨3, k, 0, rd.toNat, 0, none⟩
     (s.ready c → keyArg ((s.core c.val).getX rs1.toNat) = some k →
       Completes (exec (.quar c rd rs1) s) (fun t => OnlyCore s t c.val ∧ t.core c.val = { s.core c.val with ledgerOp := some o })) ∧
     (s.ready c → keyArg ((s.core c.val).getX rs1.toNat) = none →
       Completes (exec (.quar c rd rs1) s) (RegResult s c rd (resultWord 4 0 0))) ∧
     ((s.core c.val).ledgerOp = some o → keyNotHere c.val k = false →
       (s.findEntry k = some (i, e) → e.state = 0 → k = e.key → s.outBefore k = true → (keyTile k).isSome = true →
         let t := s.firmwareWrite c.val
         Tab.get (fun _ => none) t.ledger.slots i = some { e with state := 1 } ∧
           (∀ j, j ≠ i → Tab.get (fun _ => none) t.ledger.slots j = Tab.get (fun _ => none) s.ledger.slots j) ∧ t.tiles = s.tiles ∧
           ∃ v, (t.core c.val).ledgerOp = some { o with done := some (0, v) }) ∧
       (s.findEntry k = none ∨ (∃ j x, s.findEntry k = some (j, x) ∧ x.state ≠ 0) →
         OnlyCore s (s.firmwareWrite c.val) c.val ∧
           ((s.firmwareWrite c.val).core c.val).ledgerOp = some { o with done := some (3, 0) })) ∧
     (∀ st v, (s.core c.val).ledgerOp = some { o with done := some (st, v) } → (s.core c.val).pc + 4 < 65536 → st < 256 → v < 2 ^ 32 →
       let u := s.firmwareAnswer c.val
       OnlyCore s u c.val ∧ XWritten (s.core c.val) (u.core c.val) rd (resultWord st 0 v) ∧ (u.core c.val).ledgerOp = none ∧
         (u.core c.val).pc = (s.core c.val).pc + 4) := by
  intro o
  refine ⟨fun hr hk => ?_, fun hr hk => ?_, fun ho hn => ⟨fun hf he hke hout ht => ?_, fun hf => ?_⟩, fun st v ho hpc hs hv => ?_⟩
  · refine Completes.of_onCore (exec_quar ..) hr ?_
    rw [State.opQuar, hk]
    exact s.lodge_onlyCore c.val 3 rd 0 k 0
  · refine Completes.of_onCore (exec_quar ..) hr ?_
    rw [State.opQuar, hk]
    exact State.opEnd_status hr rd (by decide)
  · subst hke
    have hrep := s.firmwareQuarantine_reports (i := i) hout ht
    have hu := s.firmwareUpdate_suspect hf he
    have heff := s.ledgerEffect_quar (o := o) rfl hn
    rw [hu] at heff
    have hcore : ((s.firmwareQuarantine i e).core c.val).ledgerOp = some o := (congrArg Core.ledgerOp (hrep.core c.val)).trans ho
    intro t
    have et : t = _ := s.firmwareWrite_eq ho heff hcore
    refine ⟨?_, fun j hj => ?_, ?_, ?_⟩
    · rw [et, State.setCore_ledger, hrep.ledger]
      exact Tab.get_set_same _ _ _ _
    · rw [et, State.setCore_ledger, hrep.ledger]
      exact Tab.get_set_other _ _ _ _ _ hj
    · rw [et, State.setCore_tiles, hrep.tiles]
      rfl
    · rw [et, State.core_setCore_same]
      exact ⟨_, rfl⟩
  · have heff := s.ledgerEffect_quar (o := o) rfl hn
    rw [s.firmwareUpdate_refused k 0 1 hf] at heff
    exact s.firmwareWrite_same ho heff
  · exact s.firmwareAnswer_quar c rfl rfl ho hpc hs hv

/-! ### REMAP -/

/-- Nothing but registers and molts differs, and the number of the next molt is as `n` says. -/
def MoltsMoved (s t : State) (n : Nat) : Prop := t = { s with regs := t.regs, molts := t.molts } ∧ t.molts.seq = n

theorem MoltsMoved.regrows {s t : State} {n : Nat} (h : MoltsMoved s t n) : t.regrows = s.regrows := by
  rw [h.1]

theorem State.clearPlace_moltsMoved (s : State) (p : List Nat) :
    s.clearPlace p = { s with molts := (s.clearPlace p).molts } ∧ (s.clearPlace p).molts.seq = s.molts.seq := by
  refine List.foldlRecOn p _ (motive := fun (t : State) => t = { s with molts := t.molts } ∧ t.molts.seq = s.molts.seq) ⟨rfl, rfl⟩
    (fun t ht n _ => ?_)
  have slot : ∀ (u : State) (k : Nat), u = { s with molts := u.molts } ∧ u.molts.seq = s.molts.seq →
      u.setMoltSlot k none = { s with molts := (u.setMoltSlot k none).molts } ∧ (u.setMoltSlot k none).molts.seq = s.molts.seq :=
    fun u k hu => ⟨by rw [State.setMoltSlot, hu.1], hu.2⟩
  split
  · split
    · exact List.foldlRecOn (pairOf n) _ (motive := fun (u : State) => u = { s with molts := u.molts } ∧ u.molts.seq = s.molts.seq) ht
        (fun u hu k _ => slot u k hu)
    · exact slot t n ht
  · exact ht

theorem State.moltBegin_moltsMoved (s : State) (wafer : Bool) (cause field : Nat) (tilesAbsent : Bool) (dom : Domain) :
    MoltsMoved s (s.moltBegin wafer cause field tilesAbsent dom) (succ32 s.molts.seq) ∧
      SameRegs s (s.moltBegin wafer cause field tilesAbsent dom) [(.kprHangStatusMoltOverwrite, 0)] := by
  rw [State.moltBegin]
  split
  rename_i p ow _
  obtain ⟨hs, hseq⟩ := s.clearPlace_moltsMoved p
  have hregs : (s.clearPlace p).regs = s.regs := by rw [hs]
  split
  · refine ⟨⟨?_, congrArg succ32 hseq⟩, ?_⟩
    · rw [State.setMolts, State.put, hs]
    · exact (SameRegs.of_regs_eq _ hregs).put 1 (List.mem_singleton.mpr rfl)
  · refine ⟨⟨?_, congrArg succ32 hseq⟩, SameRegs.of_regs_eq _ hregs⟩
    rw [State.setMolts, hs]

theorem State.captureReset_compute_regrows (s : State) (wafer : Bool) (cause field : Nat) (tilesAbsent : Bool) :
    (s.captureReset .compute wafer cause field tilesAbsent).regrows = s.regrows := by
  rw [State.captureReset]
  split
  · exact (s.moltBegin_moltsMoved wafer cause field tilesAbsent .compute).1.regrows
  · rfl
  · rfl

theorem State.requestRecovery_regrows (s : State) (byHost : Bool) (cid : Option Nat) (cause : Nat) (trip : Bool) :
    (s.requestRecovery byHost cid cause trip).regrows = s.regrows := by
  rw [State.requestRecovery]
  split
  · rfl
  · split
    · exact (State.sendMsg_reports _ _ _ _ _ _ _).regrows
    · dsimp only
      split
      · rfl
      · split <;> exact State.captureReset_compute_regrows _ _ _ _ _

theorem State.regrowAt_phase {s : State} {l p : Nat} {r : Regrowth} (h : s.regrowAt l [p] = some r) : r.phase = p := by
  have := List.find?_some h
  simp at this
  exact this.2

/-- A regrowth in REFUSED holds no target to give up. -/
theorem State.escalate_refused_regrows (s : State) {r : Regrowth} (h : r.phase = rgRefused) (reason : Nat) :
    (s.escalate r reason).regrows = ((s.writeRegrow r 3 reason).endRegrow r).regrows := by
  have hrel : ∀ t : State, t.releaseTarget r = t := fun t => by
    unfold State.releaseTarget
    split <;> simp [h, rgRefused, rgCommit]
  rw [State.escalate, State.requestRecovery_regrows, hrel]

theorem State.opRemap_none (s : State) {c : Fin 68} (rd : BitVec 5) {v : Word} (answer : State → Regrowth → State)
    (hl : logicalOk v.toNat = true) (hf : MayName c (tileField v.toNat)) (hr : s.regrowAt v.toNat [rgRefused] = none) :
    s.opRemap c.val rd v answer = s.opEnd c.val rd stRefused 0 0 := by
  simp [State.opRemap, hl, notHere_of_mayName hf, hr]

theorem State.opRemap_some (s : State) {c : Fin 68} (rd : BitVec 5) {v : Word} (answer : State → Regrowth → State) {r : Regrowth}
    (hl : logicalOk v.toNat = true) (hf : MayName c (tileField v.toNat)) (hr : s.regrowAt v.toNat [rgRefused] = some r) :
    s.opRemap c.val rd v answer = (answer s r).opEnd c.val rd stOk 0 0 := by
  simp [State.opRemap, hl, notHere_of_mayName hf, hr]

theorem remap_answers (s : State) (c : Fin 68) (rd rs1 : BitVec 5) (l : Nat) (hr : s.ready c)
    (hl : ((s.core c.val).getX rs1.toNat).toNat = l) (hok : logicalOk l = true) (hf : MayName c (tileField l)) :
    (s.regrowAt l [rgRefused] = none →
       Completes (exec (.remapRetry c rd rs1) s) (RegResult s c rd (resultWord 3 0 0)) ∧
       Completes (exec (.remapEscalate c rd rs1) s) (RegResult s c rd (resultWord 3 0 0))) ∧
     (∀ r, s.regrowAt l [rgRefused] = some r →
       Completes (exec (.remapRetry c rd rs1) s) (fun t => Answers c rd 0 t ∧ t.regrows = (s.regrowRetry r).regrows) ∧
       Completes (exec (.remapEscalate c rd rs1) s) (fun t => Answers c rd 0 t ∧
         t.regrows = ((s.writeRegrow r 3 (if r.slackFailed then rsnSlack else rsnNoSpare)).endRegrow r).regrows)) := by
  subst hl
  refine ⟨fun h => ?_, fun r h => ?_⟩
  · refine ⟨Completes.of_onCore (exec_remapRetry ..) hr ?_, Completes.of_onCore (exec_remapEscalate ..) hr ?_⟩ <;>
    · rw [State.opRemap_none s rd _ hok hf h]
      exact State.opEnd_status hr rd (by decide)
  · refine ⟨Completes.of_onCore (exec_remapRetry ..) hr ?_, Completes.of_onCore (exec_remapEscalate ..) hr ?_⟩ <;>
      rw [State.opRemap_some s rd _ hok hf h]
    · exact ⟨State.opEnd_answers _ c rd 0 (by decide), (State.opEnd_coresAndRegs ..).regrows⟩
    · exact ⟨State.opEnd_answers _ c rd 0 (by decide), (State.opEnd_coresAndRegs ..).regrows.trans
        (s.escalate_refused_regrows (State.regrowAt_phase h) _)⟩

/-! ### FILL -/

theorem engineLane_eq (o : Option Regrowth) : engineLane o =
    match o with
    | some r => r.logical % 2 ^ 19 + 2 ^ 19 * (r.phase % 8) + 2 ^ 22 * (if r.copyFill then 1 else 0)
    | none => 0 := by
  cases o with
  | none => rfl
  | some r =>
    rw [engineLane, pack_cons_add _ _ _ _ (by simp), pack_cons_add _ _ _ _ (by simp), pack_cons_add _ _ _ _ (by simp), pack]
    simp only [bit]
    split <;> omega

theorem engineLane_lt (o : Option Regrowth) : engineLane o < 2 ^ 32 := by
  rw [engineLane_eq]
  split
  · split <;> omega
  · decide

theorem toNat_ofNat_bits (n : Nat) {lo w : Nat} (h : lo + w ≤ 256) : (BitVec.ofNat 256 n).toNat / 2 ^ lo % 2 ^ w = bits n lo w := by
  rw [BitVec.toNat_ofNat, ← bits_mod_two_pow n h, bits, Nat.shiftRight_eq_div_pow]

/-- The lanes of FILL's descriptor that R442 gives first. -/
theorem State.fillLanes_spec (s : State) (f : Nat) :
    (∀ n : Nat, n < 2 → (s.fillLanes f).toNat / 2 ^ (32 * n) % 2 ^ 32 = engineLane (s.engineUser f n) % 2 ^ 32) ∧
      (s.fillLanes f).toNat / 2 ^ 64 % 16 = (s.queuedRegrows f).length % 16 ∧
      (s.fillLanes f).toNat / 2 ^ 68 % 512 = s.freeSpares f % 512 := by
  have h0 : (s.fillLanes f).toNat / 2 ^ 0 % 2 ^ 32 = engineLane (s.engineUser f 0) % 2 ^ 32 := by
    rw [State.fillLanes, toNat_ofNat_bits _ (by decide)]
    exact bits_pack_field [] _ 0 32 _ (by simp; omega)
  have h1 : (s.fillLanes f).toNat / 2 ^ 32 % 2 ^ 32 = engineLane (s.engineUser f 1) % 2 ^ 32 := by
    rw [State.fillLanes, toNat_ofNat_bits _ (by decide)]
    exact bits_pack_field [_] _ 32 32 _ (by simp; omega)
  have h2 : (s.fillLanes f).toNat / 2 ^ 64 % 2 ^ 32 = pack [(0, 4, (s.queuedRegrows f).length), (4, 9, s.freeSpares f)] % 2 ^ 32 := by
    rw [State.fillLanes, toNat_ofNat_bits _ (by decide)]
    exact bits_pack_field [_, _] _ 64 32 _ (by simp)
  rw [pack_cons_add _ _ _ _ (by simp), pack_cons_add _ _ _ _ (by simp), pack] at h2
  refine ⟨fun n hn => ?_, ?_, ?_⟩
  · obtain rfl | rfl : n = 0 ∨ n = 1 := by omega
    · exact h0
    · exact h1
  · omega
  · omega

theorem fill_reads (s : State) (c : Fin 68) (rd rs1 : BitVec 5) (d : Fin 8) (f : Nat) (hr : s.ready c)
    (hf : ((s.core c.val).getX rs1.toNat).toNat = f) :
     (32 ≤ f → Completes (exec (.fill c rd rs1 d) s) (RegResult s c rd (resultWord 4 0 0))) ∧
     (f < 32 → MayName c f → Completes (exec (.fill c rd rs1 d) s) (fun t => OnlyCore s t c.val ∧
       XWritten (s.core c.val) (t.core c.val) rd (resultWord 0 0 ((s.queuedRegrows f).length % 2 ^ 32)) ∧
       ∃ v : BitVec 256, DWritten (s.core c.val) (t.core c.val) d.val v ∧
       (∀ n : Nat, n < 2 → v.toNat / 2 ^ (32 * n) % 2 ^ 32 =
         match s.engineUser f n with | some r => r.logical % 2 ^ 19 + 2 ^ 19 * (r.phase % 8) + 2 ^ 22 * (if r.copyFill then 1 else 0) | none => 0) ∧
       v.toNat / 2 ^ 64 % 16 = (s.queuedRegrows f).length % 16 ∧ v.toNat / 2 ^ 68 % 512 = s.freeSpares f % 512)) := by
  subst hf
  refine ⟨fun h => ?_, fun h hm => ?_⟩
  · refine Completes.of_onCore (exec_fill ..) hr ?_
    simp only [State.opFill, h, if_true]
    exact State.opEnd_status hr rd (by decide)
  · refine Completes.of_onCore (exec_fill ..) hr ?_
    have hlt : ((s.core c.val).getX rs1.toNat).toNat < 32 := h
    simp only [State.opFill, Nat.not_le.mpr hlt, if_false, notHere_of_mayName hm]
    obtain ⟨ho, hx, hd, -⟩ := s.opEndD_result c rd d (s.fillLanes ((s.core c.val).getX rs1.toNat).toNat)
      (s.queuedRegrows ((s.core c.val).getX rs1.toNat).toNat).length (State.pc_of_ready hr) (status := stOk) (by decide)
    obtain ⟨hlanes, hqueue, hfree⟩ := s.fillLanes_spec ((s.core c.val).getX rs1.toNat).toNat
    refine ⟨ho, hx, _, hd, fun n hn => ?_, hqueue, hfree⟩
    exact (hlanes n hn).trans ((Nat.mod_eq_of_lt (engineLane_lt _)).trans (engineLane_eq _))

/-! ### SECURE -/

theorem dedup_length_le (l : List Nat) : (dedup l).length ≤ l.length := by
  induction l with
  | nil => exact Nat.le_refl 0
  | cons a l ih =>
    rw [dedup]
    split
    · exact Nat.le_succ_of_le ih
    · exact Nat.succ_le_succ ih

theorem State.opSecure_fieldCore (s : State) {c : Nat} (rd : BitVec 5) (v : Word) (layers : Nat) (h : c < 64) :
    s.opSecure c rd v layers = s.opEnd c rd stNotHere 0 0 := by
  simp [State.opSecure, isKeeperCore, h]

theorem State.opSecure_refused (s : State) {c : Nat} (rd : BitVec 5) {v : Word} (layers : Nat) (h : 64 ≤ c)
    (hr : s.fnOn .securing = false ∨ s.rf .kprSecCtrlMapValid 0 = 0 ∨ (v.toNat ≠ 0 ∧ v.toNat ≤ s.rf .kprSecStepStep 0)) :
    s.opSecure c rd v layers = s.opEnd c rd stRefused 0 0 := by
  rw [State.opSecure, if_neg (by simp [isKeeperCore, h])]
  exact if_pos hr

/-- A boundary is named: one more entry, at its end, of fewer than four steps before. -/
theorem State.opSecure_named (s : State) {c : Nat} (rd : BitVec 5) {v : Word} (layers : Nat) (h : 64 ≤ c) (hon : s.fnOn .securing = true)
    (hmap : s.rf .kprSecCtrlMapValid 0 ≠ 0) (hv : v.toNat = 0 ∨ s.rf .kprSecStepStep 0 < v.toNat) (hlen : s.sec.named.length < 4) :
    s.opSecure c rd v layers =
      ({ s with sec := { s.sec with named := s.sec.named ++ [(v.toNat, if layers = 0 then 8 else layers)] } }).opEnd c rd stOk 0 0 := by
  have hsteps : ¬ 4 ≤ (dedup (s.sec.named.map (fun e => s.stepOf e.1))).length := by
    have := dedup_length_le (s.sec.named.map (fun e => s.stepOf e.1))
    rw [List.length_map] at this
    omega
  have hgo : ¬ (s.fnOn .securing = false ∨ s.rf .kprSecCtrlMapValid 0 = 0 ∨ (v.toNat ≠ 0 ∧ v.toNat ≤ s.rf .kprSecStepStep 0)) := by
    rintro (hf | hf | ⟨h0, hle⟩)
    · exact absurd (hon.symm.trans hf) (by decide)
    · exact hmap hf
    · omega
  rw [State.opSecure, if_neg (by simp [isKeeperCore, h])]
  refine (if_neg hgo).trans (if_neg ?_)
  exact fun h4 => hsteps h4.1

theorem secure_names (s : State) (c : Fin 68) (rd rs1 : BitVec 5) (layers : BitVec 3) (n : Nat) (hr : s.ready c)
    (hn : ((s.core c.val).getX rs1.toNat).toNat = n) :
     (c.val < 64 → Completes (exec (.secure c rd rs1 layers) s) (RegResult s c rd (resultWord 5 0 0))) ∧
     (64 ≤ c.val → s.fnOn .securing = false ∨ s.rf .kprSecCtrlMapValid 0 = 0 ∨ (n ≠ 0 ∧ n ≤ s.rf .kprSecStepStep 0) →
       Completes (exec (.secure c rd rs1 layers) s) (RegResult s c rd (resultWord 3 0 0))) ∧
     (64 ≤ c.val → s.fnOn .securing = true → s.rf .kprSecCtrlMapValid 0 ≠ 0 → (n = 0 ∨ s.rf .kprSecStepStep 0 < n) → s.sec.named.length < 4 →
       Completes (exec (.secure c rd rs1 layers) s) (fun t => ∃ u : State, u = { s with sec := u.sec } ∧
         (∃ m, u.sec = { s.sec with named := s.sec.named ++ [(n, m)] } ∧ (layers ≠ 0 → m = layers.toNat)) ∧
         RegResult u c rd (resultWord 0 0 0) t)) := by
  subst hn
  refine ⟨fun h => ?_, fun h hc => ?_, fun h hon hmap hv hlen => ?_⟩
  · refine Completes.of_onCore (exec_secure ..) hr ?_
    rw [s.opSecure_fieldCore _ _ _ h]
    exact State.opEnd_status hr rd (by decide)
  · refine Completes.of_onCore (exec_secure ..) hr ?_
    rw [s.opSecure_refused _ _ h hc]
    exact State.opEnd_status hr rd (by decide)
  · refine Completes.of_onCore (exec_secure ..) hr ?_
    rw [s.opSecure_named _ _ h hon hmap hv hlen]
    refine ⟨_, rfl, ⟨_, rfl, fun hl => if_neg ?_⟩, State.opEnd_result _ c rd 0 (State.pc_of_ready hr) (by decide)⟩
    exact fun h0 => hl (BitVec.eq_of_toNat_eq h0)

/-! ### DIGEST -/

/-- A source of DIGEST with no poisoned word is read as it stands, and its read changes nothing. -/
theorem State.sourceBytes_good (s : State) (c : Nat) {a n : Nat} (hn : 0 < n)
    (h : a + n ≤ 0x10000 ∨ 0x10000000 ≤ a ∧ a + n ≤ 0x16000000 ∧ s.ksPoisoned (a - 0x10000000) n = false) :
    s.sourceBytes c a n = (if a < 0x10000 then readBytes (s.core c).dmem a n else readBytes s.ks (a - 0x10000000) n, s) := by
  obtain h | ⟨hlo, hhi, hp⟩ := h
  · have ha : a < 0x10000 := by omega
    simp [State.sourceBytes, coreAddr, ha, State.coreRead]
  · have ha : ¬ a < 0x10000 := by omega
    have hc : coreAddr a 1 false = .store (a - 0x10000000) := by
      rw [coreAddr, if_neg ha]
      by_cases h1 : a < 0x11000000
      · exact if_pos ⟨hlo, h1⟩
      · rw [if_neg (fun h => h1 h.2)]
        by_cases h2 : a < 0x12000000
        · rw [if_pos ⟨by omega, h2⟩]
          exact if_neg Bool.false_ne_true
        · rw [if_neg (fun h => h2 h.2), if_pos ⟨by omega, by omega⟩, if_neg Bool.false_ne_true]
          exact congrArg CoreAddr.store (by omega)
    simp [State.sourceBytes, hc, State.coreRead, State.readStore, hp, ha]

theorem sourceOk_of {a n : Nat} (h : a + n ≤ 0x10000 ∨ 0x10000000 ≤ a ∧ a + n ≤ 0x16000000) : sourceOk a n = true := by
  simpa [sourceOk] using h

/-- The three words of a request. -/
theorem dWord_request {a n seed : Nat} (ha : a < 2 ^ 64) (hn : n < 2 ^ 64) (hs : seed < 2 ^ 64) :
    let v := BitVec.ofNat 256 (a + 2 ^ 64 * n + 2 ^ 128 * seed)
    (dWord v 0).toNat = a ∧ (dWord v 1).toNat = n ∧ (dWord v 2).toNat = seed ∧ dWord v 3 = 0 := by
  intro v
  have hw : ∀ w, (dWord v w).toNat = (a + 2 ^ 64 * n + 2 ^ 128 * seed) / 2 ^ (64 * w) % 2 ^ 64 := fun w => by
    have hlt : a + 2 ^ 64 * n + 2 ^ 128 * seed < 2 ^ 256 := by omega
    simp only [dWord, v, BitVec.toNat_setWidth, BitVec.toNat_ushiftRight, BitVec.toNat_ofNat, Nat.mod_eq_of_lt hlt,
      Nat.shiftRight_eq_div_pow]
  refine ⟨?_, ?_, ?_, BitVec.eq_of_toNat_eq ?_⟩ <;> rw [hw] <;> simp <;> omega

/-- What DIGEST writes over its request. -/
def State.digestOf (s : State) (kind seed src n : Nat) : Option (BitVec 256) :=
  if kind = 2 then some (BitVec.ofNat 256 (pldAt (if seed ≤ 1 then 2 else seed) 0 (wordView src n)))
  else if kind = 0 then some (BitVec.ofNat 256 (shaNat (bytesOf src 0 n)))
  else s.jobKey.map (fun key => BitVec.ofNat 256 (hmacNat key (bytesOf src 0 n)))

theorem State.opDigest_fieldCore (s : State) {c : Nat} (rd : BitVec 5) (d : Fin 8) (kind : Nat) (h : c < 64) :
    s.opDigest c rd d kind = s.opEnd c rd stNotHere 0 0 := by
  simp [State.opDigest, isKeeperCore, h]

/-- DIGEST of a good request by a keeper core. -/
theorem State.opDigest_good (s : State) {c : Nat} (rd : BitVec 5) {d : Fin 8} {kind a n seed : Nat} (hc : 64 ≤ c)
    (hd : (s.core c).getD d.val = BitVec.ofNat 256 (a + 2 ^ 64 * n + 2 ^ 128 * seed)) (ha : a < 2 ^ 64)
    (hs : seed < 2 ^ 61) (h0 : 0 < n) (hn : n ≤ 1048576)
    (hsrc : a + n ≤ 0x10000 ∨ 0x10000000 ≤ a ∧ a + n ≤ 0x16000000 ∧ s.ksPoisoned (a - 0x10000000) n = false)
    (hk : kind = 2 → n % 4 = 0) :
    s.opDigest c rd d kind =
      match s.digestOf kind seed (if a < 0x10000 then readBytes (s.core c).dmem a n else readBytes s.ks (a - 0x10000000) n) n with
      | some v => s.opEndD c rd d v stOk 0
      | none => s.opEnd c rd stRefused 0 0 := by
  obtain ⟨w0, w1, w2, w3⟩ := dWord_request ha (by omega : n < 2 ^ 64) (by omega : seed < 2 ^ 64)
  have hok : sourceOk a n = true := sourceOk_of (hsrc.imp_right (fun h => ⟨h.1, h.2.1⟩))
  have hgood : ¬ (n = 0 ∨ 1048576 < n ∨ sourceOk a n = false ∨ (0 : Word) ≠ 0 ∨ (kind = 2 ∧ (n % 4 ≠ 0 ∨ 2 ^ 61 ≤ seed))) := by
    rintro (h | h | h | h | ⟨hk2, h | h⟩)
    · omega
    · omega
    · exact absurd (hok.symm.trans h) (by decide)
    · exact h rfl
    · exact h (hk hk2)
    · omega
  rw [State.opDigest, hd]
  simp only [w0, w1, w2, w3]
  rw [if_neg (by simp [isKeeperCore, hc]), if_neg hgood, s.sourceBytes_good c h0 hsrc]
  unfold State.digestOf
  by_cases hk2 : kind = 2
  · simp [hk2]
  · by_cases hk0 : kind = 0
    · simp [hk0]
    · cases s.jobKey <;> simp [hk2, hk0]

theorem digest_of_source (s : State) (c : Fin 68) (rd : BitVec 5) (d : Fin 8) (a n seed : Nat) (hr : s.ready c)
    (hd : (s.core c.val).getD d.val = BitVec.ofNat 256 (a + 2 ^ 64 * n + 2 ^ 128 * seed)) (ha : a < 2 ^ 64)
    (hs : seed < 2 ^ 61) (h0 : 0 < n) (hn : n ≤ 1048576)
    (hsrc : a + n ≤ 0x10000 ∨ 0x10000000 ≤ a ∧ a + n ≤ 0x16000000 ∧ s.ksPoisoned (a - 0x10000000) n = false) :
     let src := if a < 0x10000 then readBytes (s.core c.val).dmem a n else readBytes s.ks (a - 0x10000000) n
     let Digest := fun (v : Nat) (t : State) => OnlyCore s t c.val ∧ XWritten (s.core c.val) (t.core c.val) rd (resultWord 0 0 0) ∧
       DWritten (s.core c.val) (t.core c.val) d.val (BitVec.ofNat 256 v)
     (64 ≤ c.val →
       Completes (exec (.digestSha256 c rd d) s) (Digest (shaNat (bytesOf src 0 n))) ∧
       (∀ key, s.jobKey = some key → Completes (exec (.digestHmac c rd d) s) (Digest (hmacNat key (bytesOf src 0 n)))) ∧
       (s.jobKey = none → Completes (exec (.digestHmac c rd d) s) (RegResult s c rd (resultWord 3 0 0))) ∧
       (n % 4 = 0 → Completes (exec (.digestPld61 c rd d) s) (Digest (pldAt (if seed ≤ 1 then 2 else seed) 0 (wordView src n))))) ∧
     (c.val < 64 → Completes (exec (.digestSha256 c rd d) s) (RegResult s c rd (resultWord 5 0 0)) ∧
       Completes (exec (.digestHmac c rd d) s) (RegResult s c rd (resultWord 5 0 0)) ∧
       Completes (exec (.digestPld61 c rd d) s) (RegResult s c rd (resultWord 5 0 0))) := by
  intro src Digest
  have digest : ∀ v : Nat, Digest v (s.opEndD c.val rd d (BitVec.ofNat 256 v) stOk 0) := fun v => by
    obtain ⟨ho, hx, hd, -⟩ := s.opEndD_result c rd d (BitVec.ofNat 256 v) 0 (State.pc_of_ready hr) (status := stOk) (by decide)
    exact ⟨ho, hx, hd⟩
  have good := fun hc kind => s.opDigest_good (c := c.val) (kind := kind) rd hc hd ha hs h0 hn hsrc
  refine ⟨fun hc => ⟨?_, fun key hj => ?_, fun hj => ?_, fun h4 => ?_⟩, fun hc => ?_⟩
  · refine Completes.of_onCore (exec_digestSha256 ..) hr ?_
    rw [good hc 0 (fun h => absurd h (by decide))]
    exact digest _
  · refine Completes.of_onCore (exec_digestHmac ..) hr ?_
    rw [good hc 1 (fun h => absurd h (by decide)), State.digestOf, hj]
    exact digest _
  · refine Completes.of_onCore (exec_digestHmac ..) hr ?_
    rw [good hc 1 (fun h => absurd h (by decide)), State.digestOf, hj]
    exact State.opEnd_status hr rd (by decide)
  · refine Completes.of_onCore (exec_digestPld61 ..) hr ?_
    rw [good hc 2 (fun _ => h4)]
    exact digest _
  · refine ⟨Completes.of_onCore (exec_digestSha256 ..) hr ?_, Completes.of_onCore (exec_digestHmac ..) hr ?_,
      Completes.of_onCore (exec_digestPld61 ..) hr ?_⟩ <;>
    · rw [s.opDigest_fieldCore _ _ _ hc]
      exact State.opEnd_status hr rd (by decide)

/-- Settles O8, one lemma for each operation. -/
theorem quarRemapFillSecureDigest : Obligations.QuarRemapFillSecureDigest :=
  ⟨quar_settles, remap_answers, fill_reads, secure_names, digest_of_source⟩

end Sys2Proof.Machine
end

section
/-! The LEDGER operations, FENCE, TIME, CROAK and MOLT (15_ixfold_isa.md R440 to R446). -/

namespace Sys2Proof.Machine

/-! ### LEDGER -/

theorem State.opLedger_good (s : State) (c kind : Nat) (rd : BitVec 5) (d : Fin 8) {v : Word} {k : UnitKey} (arg : Nat)
    (h : keyArg v = some k) :
    s.opLedger c kind rd d v arg = s.lodge c kind rd d.val k arg := by
  rw [State.opLedger, h]

theorem State.opLedger_bad (s : State) (c kind : Nat) (rd : BitVec 5) (d : Fin 8) {v : Word} (arg : Nat) (h : keyArg v = none) :
    s.opLedger c kind rd d v arg = s.opEndD c rd d 0 stBadArg 0 := by
  rw [State.opLedger, h]

/-- What issues a LEDGER operation of each kind. -/
theorem completes_ledgerOp {s : State} {c : Fin 68} {rd rs1 rs2 : BitVec 5} {d : Fin 8} {kind arg : Nat} {P : State → Prop} (hr : s.ready c)
    (hk : kind < 3) (ha : kind = 0 ∧ arg = 0 ∨ kind ≠ 0 ∧ arg = ((s.core c.val).getX rs2.toNat).toNat)
    (hP : P (s.opLedger c.val kind rd d ((s.core c.val).getX rs1.toNat) arg)) :
    Completes (exec (if kind = 0 then Instr.ledgerQueryOp c rd rs1 rs2 d else if kind = 1 then Instr.ledgerUpdateOp c rd rs1 rs2 d
       else Instr.ledgerAddOp c rd rs1 rs2 d) s) P := by
  obtain ⟨rfl, rfl⟩ | ⟨h0, rfl⟩ := ha
  · exact Completes.of_onCore (exec_ledgerQueryOp ..) hr hP
  · obtain rfl | rfl : kind = 1 ∨ kind = 2 := by omega
    · exact Completes.of_onCore (exec_ledgerUpdateOp ..) hr hP
    · exact Completes.of_onCore (exec_ledgerAddOp ..) hr hP

theorem State.ledgerEffect_query (s : State) {c : Nat} {o : LedgerOp} (hk : o.kind = 0) (hn : keyNotHere c o.key = false) :
    s.ledgerEffect c o = (stOk, 0, s) := by
  simp [State.ledgerEffect, hn, hk]

theorem State.ledgerEffect_update (s : State) {c : Nat} {o : LedgerOp} (hk : o.kind = 1) (hn : keyNotHere c o.key = false) :
    s.ledgerEffect c o = ((s.firmwareUpdate o.key (bits o.arg 0 3) (bits o.arg 3 3)).1, 0,
      (s.firmwareUpdate o.key (bits o.arg 0 3) (bits o.arg 3 3)).2) := by
  simp [State.ledgerEffect, hn, hk]

theorem State.ledgerEffect_add (s : State) {c : Nat} {o : LedgerOp} (hk : o.kind = 2) (hn : keyNotHere c o.key = false) :
    s.ledgerEffect c o = ((s.firmwareAdd o.key o.arg).1, 0, (s.firmwareAdd o.key o.arg).2) := by
  simp [State.ledgerEffect, hn, hk]

/-- The ledger, the history and the hazard take what the operation does to them, whatever becomes of its core. -/
theorem State.firmwareWrite_ledger (s : State) {c : Nat} {o : LedgerOp} {st v : Nat} {t : State} (ho : (s.core c).ledgerOp = some o)
    (he : s.ledgerEffect c o = (st, v, t)) :
    (s.firmwareWrite c).ledger = t.ledger ∧ (s.firmwareWrite c).hist = t.hist ∧ (s.firmwareWrite c).hz = t.hz := by
  simp only [State.firmwareWrite, ho, he]
  split <;> exact ⟨rfl, rfl, rfl⟩

theorem State.firmwareAdd_good (s : State) {k : UnitKey} {arg : Nat} (hc : causeKnown (arg % 4096) = true)
    (hx : addExcluded.contains (arg % 4096) = false) (hk : causeKind (arg % 4096) = k.kind) :
    s.firmwareAdd k arg = (stOk, s.applyDetect k (arg % 4096) 2) := by
  have hb : bits arg 0 12 = arg % 4096 := rfl
  simp only [State.firmwareAdd, hb, hc, hx, hk]
  simp

/-- The answer of QUERY, UPDATE and ADD: the descriptor, rd, and no operation lodged any more. -/
theorem State.firmwareAnswer_ledger (s : State) (c : Fin 68) {o : LedgerOp} {rd : BitVec 5} {d : Fin 8} {st v : Nat} (hk : o.kind < 3)
    (hr : o.rd = rd.toNat) (hd : o.d = d.val) (ho : (s.core c.val).ledgerOp = some { o with done := some (st, v) })
    (hpc : (s.core c.val).pc + 4 < 65536) (hs : st < 256) (hv : v < 2 ^ 32) :
    let u := s.firmwareAnswer c.val
    OnlyCore s u c.val ∧ XWritten (s.core c.val) (u.core c.val) rd (resultWord st 0 v) ∧
      DWritten (s.core c.val) (u.core c.val) d.val (s.ledgerWords o.key) ∧ (u.core c.val).ledgerOp = none := by
  have hk3 : o.kind ≠ 3 := by omega
  have e : s.firmwareAnswer c.val =
      (s.setCore c.val { s.core c.val with ledgerOp := none }).opEndD c.val rd d (s.ledgerWords o.key) st v := by
    have hd8 : (⟨o.d % 8, Nat.mod_lt _ (by decide)⟩ : Fin 8) = d := Fin.ext (by rw [hd]; exact Nat.mod_eq_of_lt d.isLt)
    have hrd : BitVec.ofNat 5 o.rd = rd := by simp [hr]
    simp only [State.firmwareAnswer, ho, hk3, if_false, hrd, hd8]
    rfl
  obtain ⟨h, hx, hdw, hop⟩ := (s.setCore c.val { s.core c.val with ledgerOp := none }).opEndD_result c rd d (s.ledgerWords o.key) v
    (by simpa using hpc) hs
  simp only [State.core_setCore_same, Nat.mod_eq_of_lt hv] at hx hdw hop
  rw [e]
  exact ⟨(OnlyCore.setCore s _ _).trans h, ⟨hx.1, hx.2⟩, hdw, hop⟩

theorem State.ledgerWords_none (s : State) {k : UnitKey} (he : s.findEntry k = none) (hh : s.histOf k = none) : s.ledgerWords k = 0 := by
  simp only [State.ledgerWords, State.entryOf, he, hh]
  rfl

theorem ledger_operations (s : State) (c : Fin 68) (rd rs1 rs2 : BitVec 5) (d : Fin 8) (k : UnitKey) (kind arg : Nat) :
     let o : LedgerOp := ⟨kind, k, arg, rd.toNat, d.val, none⟩
     let i := if kind = 0 then Instr.ledgerQueryOp c rd rs1 rs2 d else if kind = 1 then Instr.ledgerUpdateOp c rd rs1 rs2 d
       else Instr.ledgerAddOp c rd rs1 rs2 d
     (s.ready c → kind < 3 → (kind = 0 ∧ arg = 0 ∨ kind ≠ 0 ∧ arg = ((s.core c.val).getX rs2.toNat).toNat) →
       (keyArg ((s.core c.val).getX rs1.toNat) = some k →
         Completes (exec i s) (fun t => OnlyCore s t c.val ∧ t.core c.val = { s.core c.val with ledgerOp := some o })) ∧
       (keyArg ((s.core c.val).getX rs1.toNat) = none →
         Completes (exec i s) (fun t => OnlyCore s t c.val ∧ XWritten (s.core c.val) (t.core c.val) rd (resultWord 4 0 0) ∧
           DWritten (s.core c.val) (t.core c.val) d.val 0))) ∧
     ((s.core c.val).ledgerOp = some o → keyNotHere c.val k = false →
       let t := s.firmwareWrite c.val
       (kind = 0 → OnlyCore s t c.val ∧ (t.core c.val).ledgerOp = some { o with done := some (0, 0) }) ∧
       (kind = 1 → s.findEntry k = none → OnlyCore s t c.val ∧ (t.core c.val).ledgerOp = some { o with done := some (3, 0) }) ∧
       (∀ j e, kind = 1 → s.findEntry k = some (j, e) → e.state = 0 → arg % 64 = 8 → t.ledger = (s.firmwareQuarantine j e).ledger ∧
         t.hist = (s.firmwareQuarantine j e).hist) ∧
       (kind = 2 → causeKnown (arg % 4096) = true → addExcluded.contains (arg % 4096) = false → causeKind (arg % 4096) = k.kind →
         t.ledger = (s.applyDetect k (arg % 4096) 2).ledger ∧ t.hist = (s.applyDetect k (arg % 4096) 2).hist ∧
           t.hz = (s.applyDetect k (arg % 4096) 2).hz)) ∧
     (∀ st v, kind < 3 → (s.core c.val).ledgerOp = some { o with done := some (st, v) } → (s.core c.val).pc + 4 < 65536 → st < 256 →
       v < 2 ^ 32 →
       let u := s.firmwareAnswer c.val
       OnlyCore s u c.val ∧ XWritten (s.core c.val) (u.core c.val) rd (resultWord st 0 v) ∧
         DWritten (s.core c.val) (u.core c.val) d.val (s.ledgerWords k) ∧ (u.core c.val).ledgerOp = none) ∧
     (s.findEntry k = none → s.histOf k = none → s.ledgerWords k = 0) := by
  intro o i
  refine ⟨fun hr hk ha => ⟨fun hkey => ?_, fun hkey => ?_⟩, fun ho hn => ?_, fun st v hk ho hpc hs hv => ?_, s.ledgerWords_none⟩
  · refine completes_ledgerOp hr hk ha ?_
    rw [s.opLedger_good _ _ _ _ _ hkey]
    exact s.lodge_onlyCore c.val kind rd d.val k arg
  · refine completes_ledgerOp hr hk ha ?_
    rw [s.opLedger_bad _ _ _ _ _ hkey]
    obtain ⟨h, hx, hd, -⟩ := s.opEndD_result c rd d 0 0 (State.pc_of_ready hr) (status := stBadArg) (by decide)
    exact ⟨h, hx, hd⟩
  · intro t
    refine ⟨fun hk => s.firmwareWrite_same ho (s.ledgerEffect_query hk hn), fun hk hf => ?_, fun j e hk hf he ha => ?_,
      fun hk hc hx hkind => ?_⟩
    · have heff := s.ledgerEffect_update (o := o) hk hn
      rw [s.firmwareUpdate_refused k _ _ (.inl hf)] at heff
      exact s.firmwareWrite_same ho heff
    · have heff := s.ledgerEffect_update (o := o) hk hn
      have h0 : bits arg 0 3 = 0 := by simp only [bits, Nat.shiftRight_zero]; omega
      have h1 : bits arg 3 3 = 1 := by simp only [bits, Nat.shiftRight_eq_div_pow]; omega
      rw [h0, h1, s.firmwareUpdate_suspect hf he] at heff
      obtain ⟨hl, hh, -⟩ := s.firmwareWrite_ledger ho heff
      exact ⟨hl, hh⟩
    · have heff := s.ledgerEffect_add (o := o) hk hn
      rw [s.firmwareAdd_good hc hx hkind] at heff
      exact s.firmwareWrite_ledger ho heff
  · exact s.firmwareAnswer_ledger c hk rfl rfl ho hpc hs hv

/-! ### FENCE and TIME -/

theorem fence_completes (s : State) (c : Fin 68) (rd : BitVec 5) (hr : s.ready c) :
    Completes (exec (.fence c rd) s) (fun t => OnlyCore s t c.val ∧ XWritten (s.core c.val) (t.core c.val) rd (resultWord 0 0 0) ∧
      (t.core c.val).posted = 0) := by
  refine Completes.of_onCore (exec_fence ..) hr ?_
  obtain ⟨ho, hx, hy⟩ := (s.setCore c.val { s.core c.val with posted := 0 }).opEnd_result c rd 0 (by simpa using State.pc_of_ready hr)
    (status := stOk) (by decide)
  simp only [State.core_setCore_same] at hx hy
  exact ⟨(OnlyCore.setCore s _ _).trans ho, ⟨hx.1, hx.2⟩, (congrArg Core.posted hy).trans rfl⟩

theorem time_reads (s : State) (c : Fin 68) (rd : BitVec 5) (hr : s.ready c) :
    Completes (exec (.timeManager c rd) s) (RegResult s c rd (BitVec.ofNat 64 s.now)) ∧
     (64 ≤ c.val → Completes (exec (.timeWtc c rd) s) (RegResult s c rd (BitVec.ofNat 64 s.wtc))) ∧
     (c.val < 64 → Completes (exec (.timeWtc c rd) s) (fun t => ∃ u lag, u = { s with freeCtr := u.freeCtr } ∧ lag ≤ 200 ∧
       RegResult u c rd (BitVec.ofNat 64 (s.wtc - lag)) t)) := by
  refine ⟨Completes.of_onCore (exec_timeManager ..) hr (s.writeReg_result c rd _ (State.pc_of_ready hr)), fun hc => ?_, fun hc => ?_⟩
  · refine Completes.of_onCore (exec_timeWtc ..) hr ?_
    rw [State.opWtc, if_pos (by simp [isKeeperCore, hc])]
    exact s.writeReg_result c rd _ (State.pc_of_ready hr)
  · refine Completes.of_onCore (exec_timeWtc ..) hr ?_
    rw [State.opWtc, if_neg (by simp [isKeeperCore, hc])]
    exact ⟨s.free.2, s.free.1 % 201, rfl, by omega, s.free.2.writeReg_result c rd _ (State.pc_of_ready hr)⟩

/-! ### CROAK -/

/-- CROAK of one good unit in DMEM. -/
theorem State.opCroak_good (s : State) {c : Nat} (rd : BitVec 5) {arg buf : Word} {code : Nat} (ha : arg.toNat % 2 ^ 15 = code + 256)
    (hc : code < 256) (hb : buf.toNat % 64 = 0) (hr : buf.toNat + 64 ≤ 0x10000) (h1 : 1 ≤ code) (h23 : code ≤ 0x23)
    (h0c : code ≠ 0x0C) (h1d : code ≠ 0x1D) :
    s.opCroak c rd arg buf 2 = (s.opEnd c rd stOk 0 0).sendMsg 2 code 1 0 0 (readBytes (s.core c).dmem buf.toNat 64 / 2 ^ 128) := by
  have hcode : bits arg.toNat 0 8 = code := by simp only [bits, Nat.shiftRight_zero]; omega
  have hunits : bits arg.toNat 8 7 = 1 := by simp only [bits, Nat.shiftRight_eq_div_pow]; omega
  have hknown : croakUnits code 1 = true := by
    rw [croakUnits, if_neg (by omega)]
    split <;> rfl
  have hsrc := s.sourceBytes_good c (by decide : 0 < 64) (.inl hr)
  rw [if_pos (by omega)] at hsrc
  simp [State.opCroak, hcode, hunits, hknown, h1, h23, hb, sourceOk_of (.inl hr), hsrc]

/-- A message that finds room is the last of the queue, and changes no core. -/
theorem State.sendMsg_queued (s : State) {cls : Nat} (code units payload : Nat) (h : outRoom s.host.outQ cls = true) :
    ∃ m, Queued s (s.sendMsg cls code units 0 0 payload) m ∧ m.cls = cls ∧ m.code = code ∧ m.units = units ∧ m.payload = payload := by
  exact ⟨_, congrArg (fun t : State => t.host.outQ) (if_pos h), rfl, rfl, rfl, rfl⟩

theorem croak_queues (s : State) (c : Fin 68) (rd rs1 rs2 : BitVec 5) (hr : s.ready c) :
     (∀ code units buf, ((s.core c.val).getX rs1.toNat).toNat % 2 ^ 15 = code + 256 * units → code < 256 →
       ((s.core c.val).getX rs2.toNat).toNat = buf → buf % 64 = 0 → buf + 64 * units ≤ 0x10000 →
       1 ≤ code → code ≤ 0x23 → code ≠ 0x0C → code ≠ 0x1D → units = 1 → outRoom s.host.outQ 2 = true →
       Completes (exec (.croak c rd rs1 rs2 2) s) (fun t => SameCores s t c.val ∧
         XWritten (s.core c.val) (t.core c.val) rd (resultWord 0 0 0) ∧
         ∃ m : Msg, Queued s t m ∧ m.cls = 2 ∧ m.code = code ∧ m.units = 1 ∧
           m.payload = readBytes (s.core c.val).dmem buf 64 / 2 ^ 128)) ∧
     (∀ cls : BitVec 3, cls ≠ 2 → cls ≠ 5 → s.handles c → ∃ w, Completes (exec (.croak c rd rs1 rs2 cls) s) (TrapTaken s c 1 w)) := by
  refine ⟨?_, fun cls h2 h5 hh =>
    ⟨wordM 0x2D rd.toNat rs1.toNat rs2.toNat 0 cls.toNat, Completes.of_onCore (exec_croak ..) hr ?_⟩⟩
  · rintro code units buf ha hc rfl hb hrange h1 h23 h0c h1d rfl hroom
    refine Completes.of_onCore (exec_croak ..) hr ?_
    rw [if_pos (.inl rfl), show (2 : BitVec 3).toNat = 2 from rfl, s.opCroak_good rd ha hc hb hrange h1 h23 h0c h1d]
    obtain ⟨⟨hs, hcores⟩, hx, -⟩ := State.opEnd_status hr rd (status := stOk) (by decide)
    have hhost : (s.opEnd c.val rd stOk 0 0).host = s.host := by rw [hs]
    obtain ⟨m, hm, hcls, hcode, hunits, hpay⟩ := (s.opEnd c.val rd stOk 0 0).sendMsg_queued code 1
      (readBytes (s.core c.val).dmem ((s.core c.val).getX rs2.toNat).toNat 64 / 2 ^ 128) (hhost ▸ hroom)
    have hcore := (s.opEnd c.val rd stOk 0 0).sendMsg_reports 2 code 1 0 0
      (readBytes (s.core c.val).dmem ((s.core c.val).getX rs2.toNat).toNat 64 / 2 ^ 128)
    refine ⟨fun k hk => (hcore.core k).trans (hcores k hk), ?_, m, ?_, hcls, hcode, hunits, hpay⟩
    · exact hx.congr (congrArg Core.x (hcore.core c.val))
    · rw [Queued, hm, hhost]
  · rw [if_neg (fun h => h.elim h2 h5)]
    exact s.trap_taken c 1 _ hh

/-! ### MOLT -/

theorem State.captureReset_compute_up (s : State) (wafer : Bool) (cause field : Nat) (tilesAbsent : Bool) (h : s.domState .compute = 0) :
    s.captureReset .compute wafer cause field tilesAbsent = (s.moltBegin wafer cause field tilesAbsent .compute).setDom .compute 1 := by
  rw [State.captureReset, h]
  rfl

/-- A recovery that the manager asks for and that may begin at once begins with a molt of the whole wafer. -/
theorem State.requestRecovery_up (s : State) (cause : Nat) (h : s.recoverable) :
    s.requestRecovery false none cause false =
      ((State.setRec { s with recov := { s.recov with cids := s.recov.cids ++ [], byHost := false } } 1).moltBegin true cause 0 false
        .compute).setDom .compute 1 := by
  obtain ⟨hrec, hlimit, hup⟩ := h
  unfold State.requestRecovery
  refine (if_neg ?_).trans ((if_neg ?_).trans ((if_neg Bool.false_ne_true).trans ((if_pos ?_).trans
    (State.captureReset_compute_up _ _ _ _ _ ?_))))
  · rintro (h | ⟨-, -, h⟩)
    · exact h hrec
    · exact h hup
  · rintro ⟨-, h⟩
    exact absurd hlimit (Nat.not_lt.mpr h)
  · exact Nat.le_trans (Nat.le_of_eq hup) (Nat.zero_le 1)
  · exact (State.rf_put_field _ .kprHangStatusRecovery .aoiDomainsCompute 0 0 1 (by decide)).trans hup

/-- What a recovery that begins leaves: RECOVERY is 1, a molt takes the next number and compute is in CAPTURE. -/
theorem State.requestRecovery_begun (s : State) (cause : Nat) (h : s.recoverable) :
    let t := s.requestRecovery false none cause false
    RecoveryBegun s t ∧ t = { s with regs := t.regs, molts := t.molts, recov := t.recov } := by
  intro t
  have et : t = _ := s.requestRecovery_up cause h
  obtain ⟨⟨hm, hseq⟩, hregs⟩ :=
    (State.setRec { s with recov := { s.recov with cids := s.recov.cids ++ [], byHost := false } } 1).moltBegin_moltsMoved true cause 0 false
      .compute
  refine ⟨⟨?_, ?_, ?_⟩, ?_⟩
  · rw [et]
    refine (State.rf_put_field _ .aoiDomainsCompute .kprHangStatusRecovery 0 0 1 (by decide)).trans ((hregs _ _ (by decide)).trans ?_)
    exact State.rf_put_same _ _ _ _
  · rw [et]
    exact State.rf_put_same _ _ _ _
  · rw [et]
    exact hseq
  · rw [et, State.setDom, State.put, hm]
    rfl

theorem molt_asks (s : State) (c : Fin 68) (rd rs1 : BitVec 5) (hr : s.ready c) (hc : 64 ≤ c.val) (n : Nat)
    (hn : ((s.core c.val).getX rs1.toNat).toNat = n) (hlt : n < 4096) :
    (s.rf .semFlagsPoison n ≠ 1 → Completes (exec (.molt c rd rs1) s) (RegResult s c rd (resultWord 3 0 0))) ∧
       (s.rf .semFlagsPoison n = 1 → s.rf .kprHangStatusRecovery 0 = 0 → s.recRecent < s.rf .kprHangCtrlRecoveryLimit 0 →
         s.domState .compute = 0 →
         Completes (exec (.molt c rd rs1) s) (fun t => t.rf .kprHangStatusRecovery 0 = 1 ∧ t.poisonAsked = n :: s.poisonAsked ∧
           t.domState .compute = 1 ∧ Answers c rd 0 t ∧ t.molts.seq = (s.molts.seq + 1) % 2 ^ 32)) := by
  subst hn
  have hk : isKeeperCore c.val = true := by simp [isKeeperCore, hc]
  refine ⟨fun hp => ?_, fun hp hrec hlimit hup => ?_⟩
  · refine Completes.of_onCore (exec_molt ..) hr ?_
    simp only [State.opMolt, hk, Bool.true_eq_false, if_false, Nat.not_le.mpr hlt, semPoisoned, hp, decide_false, Bool.false_eq_true]
    exact State.opEnd_status hr rd (by decide)
  · refine Completes.of_onCore (exec_molt ..) hr ?_
    simp only [State.opMolt, hk, Bool.true_eq_false, if_false, Nat.not_le.mpr hlt, semPoisoned, hp, decide_true, if_true]
    set u : State := { s with poisonAsked := ((s.core c.val).getX rs1.toNat).toNat :: s.poisonAsked }
    have hres := u.opEnd_result c rd 0 (State.pc_of_ready hr) (status := stOk) (by decide)
    have hans := u.opEnd_answers c rd 0 (status := stOk) (by decide)
    generalize u.opEnd c.val rd stOk 0 0 = v at hres hans
    obtain ⟨⟨hv, -⟩, -⟩ := hres
    obtain ⟨⟨hr1, hr2, hr3⟩, hframe⟩ := v.requestRecovery_begun 7 (by rw [hv]; exact ⟨hrec, hlimit, hup⟩)
    refine ⟨hr1, ?_, hr2, ?_, ?_⟩
    · rw [hframe, hv]
    · intro hrd
      rw [hframe]
      exact hans hrd
    · rw [hr3, hv]

/-- Settles O9, one lemma for each group of operations. -/
theorem ledgerFenceTimeCroakMolt : Obligations.LedgerFenceTimeCroakMolt := by
  refine ⟨ledger_operations, fun s c rd rs1 rs2 hr => ?_⟩
  obtain ⟨hmgr, hkeeper, hfield⟩ := time_reads s c rd hr
  obtain ⟨hgood, hbad⟩ := croak_queues s c rd rs1 rs2 hr
  exact ⟨fence_completes s c rd hr, hmgr, hkeeper, hfield, hgood, hbad, fun hc n hn hlt => molt_asks s c rd rs1 hr hc n hn hlt⟩

end Sys2Proof.Machine
end

section
/-! Writing the ledger, its history, the anchors and the identity records to flash, and the hourly age check (03_hazard_ledger.md R48,
R61, R64; 09_ticks_order_sync.md R272, R273). -/

namespace Sys2Proof.Machine

/-! ### The two sectors of a log -/

theorem FlashLog.append_sec0 (l : FlashLog) (v : Nat) {n : Nat × Nat} (hn : l.newest = some n) (ha : l.active = 0) (hl : l.sec0.length < 128) :
    l.append v = { l with sec0 := l.sec0 ++ [(succ32 n.1, v)] } := by
  simp [FlashLog.append, hn, ha, hl]

theorem FlashLog.append_full (l : FlashLog) (v : Nat) {n : Nat × Nat} (hn : l.newest = some n) (ha : l.active = 0)
    (hl : 128 ≤ l.sec0.length) : l.append v = { l with sec1 := [(succ32 n.1, v)], active := 1 } := by
  simp [FlashLog.append, hn, ha, Nat.not_lt.mpr hl]

/-! ### The flash write window -/

theorem State.flash_closed (s : State) (h : s.flashOpen = false) :
    exec .historyRecordWrite s = .next s ∧ exec .timeAnchorWrite s = .next s ∧ exec .identityRecordWrite s = .next s := by
  refine ⟨congrArg _ (if_pos h), congrArg _ (if_neg ?_), congrArg _ (if_neg ?_)⟩ <;> simp [h]

/-- The oldest staged record goes to the active half. -/
theorem State.histWrite_record (s : State) {r : HistRec} {rest : List HistRec} (ho : s.flashOpen = true) (ha : s.anchorDue = false)
    (hf : s.activeFull = false) (hh : s.hist.headerDue = false) (hs : s.hist.staged = r :: rest) :
    s.histWrite = { s with hist := if s.hist.active = 0 then { s.hist with staged := rest, half0 := s.hist.half0 ++ [recBytes r] }
      else { s.hist with staged := rest, half1 := s.hist.half1 ++ [recBytes r] } } := by
  simp [State.histWrite, ho, ha, hf, hh, hs]

theorem State.anchorWrite_due (s : State) (ho : s.flashOpen = true) (hd : s.anchorDue = true) :
    s.anchorWrite = { s with anchors := s.anchors.append s.now } := if_pos (by rw [ho, hd]; rfl)

theorem State.identWrite_due (s : State) (ho : s.flashOpen = true) (hd : s.identDue = true) :
    s.identWrite = { s with idents := s.idents.append (s.rf .kprEngineEngine 0), identDue := false } := if_pos (by rw [ho, hd]; rfl)

/-! ### The age check -/

theorem State.entries_one (s : State) {i : Nat} {e : Entry} (h : s.ledger.slots = [(i, some e)]) : s.entries = [(i, e)] := by
  simp [State.entries, h]

/-- With room among the staged records, a new one touches nothing but the history. -/
theorem State.stage_room (s : State) (r : HistRec) (h : s.hist.staged.length < 16384) :
    ∃ x : History, s.stage r = { s with hist := x } ∧ x.ageAt = s.hist.ageAt := by
  refine ⟨_, if_pos h, rfl⟩

theorem State.writeHist_room (s : State) (k : UnitKey) (st origin : Nat) (det : Bool) (ev created : Nat) (h : s.hist.staged.length < 16384) :
    ∃ x : History, s.writeHist k st origin det ev created = { s with hist := x } ∧ x.ageAt = s.hist.ageAt := s.stage_room _ h

/-- What a notice of an entry's new state asks for. -/
def noticeActs (e : Entry) (prev : Nat) : List EvAct :=
  [evNotice 11 32 (if e.key.kind = kindLane then 0 else e.key.unit) 0x81 0 (entryBits e ||| prev <<< 128)]

theorem State.entryNotice_eq (s : State) (e : Entry) (prev : Nat) :
    s.entryNotice e prev = { s with events := s.events ++ [⟨10, 0, s.now, noticeActs e prev⟩] } := rfl

/-- An entry is freed: its slot is empty, and a record and a notice tell of it. -/
theorem State.freeSlotOf_room (s : State) (i : Nat) (e : Entry) (h : s.hist.staged.length < 16384) :
    ∃ x : History, x.ageAt = s.hist.ageAt ∧ s.freeSlotOf i e = { s with
        ledger := { s.ledger with slots := Tab.set (fun _ => none) s.ledger.slots i none }
        hist := x
        events := s.events ++ [⟨10, 0, s.now, noticeActs { e with state := 7 } e.state⟩] } := by
  obtain ⟨x, hx, hage⟩ := (s.setSlot i none).writeHist_room e.key 7 e.origin false (evidence e.key (s.realCause e)) 0 h
  refine ⟨x, hage, ?_⟩
  rw [State.freeSlotOf, hx, State.entryNotice_eq]
  rfl

/-- The check of a ledger of one entry. -/
theorem State.ageCheck_one (s : State) {i : Nat} {e : Entry} (h : s.ledger.slots = [(i, some e)]) :
    s.ageCheck = if e.state = 3 ∧ s.detections e.key = 0 then ({ s with hist := { s.hist with ageAt := s.now } } : State).freeSlotOf i e
      else { s with hist := { s.hist with ageAt := s.now } } := by
  rw [State.ageCheck, s.entries_one h]
  split
  · rename_i hc
    simp [hc]
  · rename_i hc
    simp only [hc, decide_false, List.filter_cons, Bool.false_eq_true, if_false, List.filter_nil, List.foldl_nil]

theorem exec_ageCheck_due (s : State) (h : s.hist.ageAt + 3600000000 ≤ s.now) : exec .ageCheck s = .next s.ageCheck :=
  congrArg Host.Outcome.next (if_pos h)

theorem Tab.set_default_singleton {α : Type} [DecidableEq α] (d : Nat → α) (k : Nat) (v : α) : Tab.set d [(k, v)] k (d k) = [] := by
  simp [Tab.set, Tab.above]

/-- Settles O31. -/
theorem ledgerFlashAndAging : Obligations.LedgerFlashAndAging := by
  intro s r rest n i e
  refine ⟨s.flash_closed, fun ho ha hf hh hs => congrArg _ (s.histWrite_record ho ha hf hh hs), fun ho hd hn ha hl => ?_,
    fun ho hd hn ha hl => ?_, fun ho hd hn ha hl => ?_, fun h => congrArg Host.Outcome.next (if_neg (Nat.not_le.mpr h)), fun hdue hs hroom =>
    ⟨fun he hdet => ?_, fun hne => ?_⟩⟩
  · exact congrArg Host.Outcome.next ((s.anchorWrite_due ho hd).trans (by rw [s.anchors.append_sec0 _ hn ha hl]))
  · exact congrArg Host.Outcome.next ((s.anchorWrite_due ho hd).trans (by rw [s.anchors.append_full _ hn ha hl]))
  · exact congrArg Host.Outcome.next ((s.identWrite_due ho hd).trans (by rw [s.idents.append_sec0 _ hn ha hl]))
  · refine Completes.of_next (exec_ageCheck_due s hdue) ?_
    rw [s.ageCheck_one hs, if_pos ⟨he, hdet⟩]
    obtain ⟨x, hage, ht⟩ := State.freeSlotOf_room { s with hist := { s.hist with ageAt := s.now } } i e hroom
    rw [ht]
    refine ⟨?_, hage, rfl, _, rfl⟩
    rw [hs]
    exact Tab.set_default_singleton (fun _ => none) i (some e)
  · rw [exec_ageCheck_due s hdue, s.ageCheck_one hs, if_neg (fun h => hne.elim (fun hn => hn h.1) (fun hn => hn h.2))]

end Sys2Proof.Machine
end

section
/-! The answers of the host port to a command (13_host_port.md R386 to R394). -/

namespace Sys2Proof.Machine

/-! ### One response -/

theorem State.attached_of_canAnswer {s : State} {opcode cid : Nat} (h : s.canAnswer opcode cid) : s.attached = true := by
  obtain ⟨ha, -, -⟩ := h
  simp [State.attached, ha]

/-- The list of commands taken moves the two credit registers. -/
theorem State.sameRegs_setTaken (s : State) (l : List Taken) : SameRegs s (s.setTaken l) creditRegs := by
  intro F i hn
  refine (State.rf_puts_other _ _ F i ?_).trans rfl
  simp only [creditRegs, List.mem_cons, List.not_mem_nil, or_false, not_or, Prod.mk.injEq, not_and_or] at hn
  intro e he
  simp only [List.mem_cons, List.not_mem_nil, or_false] at he
  obtain rfl | rfl := he
  · exact hn.1.imp Ne.symm Ne.symm
  · exact hn.2.imp Ne.symm Ne.symm

/-- A response that finds room enters the queue last and gives its command's credit back. -/
theorem State.respond_eq (s : State) (opcode cid status units payload : Nat) (ha : s.attached = true) (hq : s.host.outQ.length < 4096) :
    s.respond opcode cid status units payload =
      ({ s with host := { s.host with
        outQ := s.host.outQ ++ [⟨1, opcode, units, s.host.seqNext, cid, status, payload⟩], seqNext := succ32 s.host.seqNext } } : State).setTaken
        (s.host.taken.filter (fun x => decide (x.cid ≠ cid ∨ x.opcode ≠ opcode))) := by
  have hroom : outRoom s.host.outQ 1 = true := by simp [outRoom, hq]
  simp only [State.respond, ha, if_true, State.sendMsg, hroom]

/-- Nothing but the host port and registers differs. -/
def OnlyHost (s t : State) : Prop := t = { s with regs := t.regs, host := t.host }

theorem OnlyHost.ledger {s t : State} (h : OnlyHost s t) : t.ledger = s.ledger := by
  unfold OnlyHost at h
  rw [h]

theorem OnlyHost.hist {s t : State} (h : OnlyHost s t) : t.hist = s.hist := by
  unfold OnlyHost at h
  rw [h]

theorem OnlyHost.events {s t : State} (h : OnlyHost s t) : t.events = s.events := by
  unfold OnlyHost at h
  rw [h]

/-- A response touches the host port and the credit registers. -/
theorem State.respond_room (s : State) (opcode cid status units payload : Nat) (ha : s.attached = true) (hq : s.host.outQ.length < 4096) :
    let t := s.respond opcode cid status units payload
    RespondedWith s t opcode cid status (fun p => p = payload) ∧ SameRegs s t creditRegs ∧ OnlyHost s t := by
  intro t
  have et : t = _ := s.respond_eq opcode cid status units payload ha hq
  refine ⟨⟨⟨⟨1, opcode, units, s.host.seqNext, cid, status, payload⟩, ?_, rfl, rfl, rfl, rfl, rfl⟩, fun x hx hc ho => ?_⟩, ?_, ?_⟩
  · rw [et]
    rfl
  · rw [et] at hx
    have hf := (List.mem_filter.mp hx).2
    simp [hc, ho] at hf
  · rw [et]
    exact SameRegs.trans (SameRegs.of_regs_eq _ rfl) (State.sameRegs_setTaken _ _)
  · rw [et]
    rfl

theorem RespondedWith.responded {s t : State} {opcode cid status : Nat} {P : Nat → Prop} (h : RespondedWith s t opcode cid status P) :
    Responded s t opcode cid status := by
  obtain ⟨⟨m, hq, hc, ho, hid, hst, -⟩, ht⟩ := h
  exact ⟨⟨m, hq, hc, ho, hid, hst⟩, ht⟩

/-- What the host sees of a command depends on the queue before it only. -/
theorem Responded.of_host_eq {s u t : State} {opcode cid status : Nat} (h : Responded u t opcode cid status) (hu : u.host = s.host) :
    Responded s t opcode cid status := by
  obtain ⟨⟨m, hq, hm⟩, ht⟩ := h
  exact ⟨⟨m, by rw [hq, hu], hm⟩, ht⟩

/-! ### A ledger command of the host -/

/-- The host's ledger commands wait for the tick. -/
theorem State.asHost_lodges (s : State) (op cid arg1 arg2 : Nat) (h : s.canAnswer op cid) :
    let t := s.asHost op cid (fun u => u.ledgerCommand op cid arg1 arg2)
    t = { s with regs := t.regs, host := t.host, ledger := { s.ledger with cmds := s.ledger.cmds ++ [⟨op, cid, arg1, arg2⟩] } } ∧
      t.host.outQ = s.host.outQ ∧ SameRegs s t creditRegs ∧ ∃ x ∈ t.host.taken, x.cid = cid ∧ x.opcode = op ∧ x.applied = true := by
  have ha := State.attached_of_canAnswer h
  obtain ⟨-, -, hcredit⟩ := h
  intro t
  by_cases hany : s.host.taken.any (fun t => decide (t.cid = cid ∧ t.opcode = op) && !t.applied) = true
  · have et : t = _ := (if_neg (by rw [ha]; decide)).trans (if_pos hany)
    obtain ⟨x, hx, hp⟩ := List.any_eq_true.mp hany
    simp only [Bool.and_eq_true, decide_eq_true_eq, Bool.not_eq_true'] at hp
    obtain ⟨⟨hc, ho⟩, -⟩ := hp
    rw [et]
    refine ⟨rfl, rfl, SameRegs.of_regs_eq _ rfl, _, List.mem_map.mpr ⟨x, hx, rfl⟩, ?_⟩
    rw [if_pos ⟨hc, ho⟩]
    exact ⟨hc, ho, rfl⟩
  · have hlen : ¬ 256 ≤ s.host.taken.length := by
      obtain h | ⟨x, hx, hc, ho, hap⟩ := hcredit
      · omega
      · exact absurd (List.any_eq_true.mpr ⟨x, hx, by simp [hc, ho, hap]⟩) hany
    have et : t = _ := (if_neg (by rw [ha]; decide)).trans ((if_neg hany).trans (if_neg hlen))
    rw [et]
    refine ⟨rfl, rfl, SameRegs.trans (s.sameRegs_setTaken _) (SameRegs.of_regs_eq _ rfl), _, List.mem_append_right _ (List.mem_singleton.mpr rfl),
      rfl, rfl, rfl⟩

theorem State.respond_refusal (s : State) {op cid : Nat} (status payload : Nat) (h : s.canAnswer op cid) :
    let t := s.respond op cid status 1 payload
    Responded s t op cid status ∧ t.ledger = s.ledger ∧ t.hist = s.hist ∧ SameRegs s t creditRegs := by
  intro t
  obtain ⟨hresp, hregs, ht⟩ := s.respond_room op cid status 1 payload (State.attached_of_canAnswer h) h.2.1
  exact ⟨hresp.responded, ht.ledger, ht.hist, hregs⟩

/-- The response to a command whose work left the host port alone. -/
theorem State.respond_after {s u : State} {op cid : Nat} (status units payload : Nat) (h : s.canAnswer op cid) (hu : u.host = s.host)
    (ha : u.attached = true) :
    let t := u.respond op cid status units payload
    Responded s t op cid status ∧ SameRegs u t creditRegs ∧ OnlyHost u t := by
  intro t
  obtain ⟨-, hq, -⟩ := h
  obtain ⟨hresp, hregs, ht⟩ := u.respond_room op cid status units payload ha (by rw [hu]; exact hq)
  exact ⟨hresp.responded.of_host_eq hu, hregs, ht⟩

/-! ### LEDGER_QUERY -/

theorem pack_lt {n : Nat} (l : List (Nat × Nat × Nat)) (h : ∀ e ∈ l, e.1 + e.2.1 ≤ n) : pack l < 2 ^ n := by
  induction l with
  | nil => exact Nat.two_pow_pos n
  | cons e l ih =>
    obtain ⟨lo, w, v⟩ := e
    have hlo : lo + w ≤ n := h _ List.mem_cons_self
    refine Nat.or_lt_two_pow ?_ (ih (fun e he => h e (List.mem_cons_of_mem _ he)))
    calc (v % 2 ^ w) <<< lo < 2 ^ (lo + w) := by
          rw [Nat.shiftLeft_eq, Nat.pow_add, Nat.mul_comm]
          exact Nat.mul_lt_mul_of_pos_left (Nat.mod_lt _ (Nat.two_pow_pos w)) (Nat.two_pow_pos lo)
      _ ≤ 2 ^ n := Nat.pow_le_pow_right (by decide) hlo

theorem State.entryOf_lt (s : State) (k : UnitKey) : s.entryOf k < 2 ^ 128 := by
  unfold State.entryOf
  split
  · exact pack_lt _ (by simp)
  · decide

theorem or_shiftLeft_mod {a n : Nat} (b : Nat) (h : a < 2 ^ n) : (a ||| b <<< n) % 2 ^ n = a := by
  rw [Nat.or_mod_two_pow, Nat.mod_eq_of_lt h, Nat.shiftLeft_eq, Nat.mul_mod_left, Nat.or_zero]

theorem State.ledgerQuery_answers (s : State) (cid key : Nat) (h : s.canAnswer 0x20 cid) :
    (keyWordOk key = true → RespondedWith s (s.ledgerQuery cid key) 0x20 cid 0 (fun p => p % 2 ^ 128 = s.entryOf (wordKey key)) ∧
      (s.ledgerQuery cid key).ledger = s.ledger ∧ SameRegs s (s.ledgerQuery cid key) creditRegs) ∧
    (keyWordOk key = false → Responded s (s.ledgerQuery cid key) 0x20 cid 7 ∧ (s.ledgerQuery cid key).ledger = s.ledger ∧
      (s.ledgerQuery cid key).hist = s.hist ∧ SameRegs s (s.ledgerQuery cid key) creditRegs) := by
  refine ⟨fun hk => ?_, fun hk => ?_⟩
  · have e : s.ledgerQuery cid key = _ := if_neg (by rw [hk]; decide)
    obtain ⟨⟨⟨m, hq, hc, ho, hid, hst, hp⟩, ht⟩, hregs, hframe⟩ := s.respond_room 0x20 cid 0 3
      (s.entryOf (wordKey key) ||| (match s.histOf (wordKey key) with | some r => recBytes r | none => 0) <<< 128)
      (State.attached_of_canAnswer h) h.2.1
    rw [e]
    refine ⟨⟨⟨m, hq, hc, ho, hid, hst, ?_⟩, ht⟩, hframe.ledger, hregs⟩
    rw [hp]
    exact or_shiftLeft_mod _ (s.entryOf_lt _)
  · have e : s.ledgerQuery cid key = _ := if_pos hk
    rw [e]
    exact s.respond_refusal 7 0 h

/-! ### LEDGER_ADD and LEDGER_FREE -/

/-- A new SUSPECT entry of the operator withdraws nothing. -/
theorem State.operatorAdd_suspect (s : State) (i : Nat) (k : UnitKey) (h : s.hist.staged.length < 16384) :
    ∃ x : History, s.operatorAdd i k 0 = { s with
        ledger := { s.ledger with slots := Tab.set (fun _ => none) s.ledger.slots i (some ⟨k, 4, 0, 0, 0x070, s.now % 2 ^ 48⟩) }
        hist := x
        events := s.events ++ [⟨10, 0, s.now, noticeActs ⟨k, 4, 0, 0, 0x070, s.now % 2 ^ 48⟩ 7⟩] } := by
  obtain ⟨x, hx, -⟩ := (s.setSlot i (some ⟨k, 4, 0, 0, 0x070, s.now % 2 ^ 48⟩)).writeHist_room k 0 4 false (evidence k 0x070) s.now h
  refine ⟨x, ?_⟩
  rw [State.operatorAdd, hx, State.entryNotice_eq]
  exact if_neg (by decide)

theorem State.roomFor_free (s : State) {i : Nat} (h : s.freeEntry = some i) : s.roomFor = (some i, s) := by
  rw [State.roomFor, h]

theorem State.ledgerAdd_answers (s : State) (cid key : BitVec 32) (st : BitVec 3) (i : Nat) (h : s.canAnswer 0x21 cid.toNat)
    (hroom : s.hist.staged.length < 16384) :
    let k := wordKey key.toNat
    let add := s.ledgerAdd cid.toNat key.toNat st.toNat
    let Refuses := fun (status : Nat) => Responded s add 0x21 cid.toNat status ∧ add.ledger = s.ledger ∧ add.hist = s.hist ∧
      SameRegs s add creditRegs
    (keyWordOk key.toNat = false ∨ 1 < st.toNat → Refuses 7) ∧
    (keyWordOk key.toNat = true → st.toNat ≤ 1 → (s.findEntry k).isSome = true → Refuses 9) ∧
    (keyWordOk key.toNat = true → st = 0 → s.findEntry k = none → s.freeEntry = some i →
      Responded s add 0x21 cid.toNat 0 ∧ Tab.get (fun _ => none) add.ledger.slots i = some ⟨k, 4, 0, 0, 0x070, s.now % 2 ^ 48⟩ ∧
      (∀ j, j ≠ i → Tab.get (fun _ => none) add.ledger.slots j = Tab.get (fun _ => none) s.ledger.slots j) ∧ SameRegs s add creditRegs ∧
      ∃ acts, Raised s add 10 0 acts) := by
  intro k add Refuses
  refine ⟨fun hbad => ?_, fun hk hst hf => ?_, fun hk hst hf hi => ?_⟩
  · have e : add = _ := if_pos hbad
    simp only [Refuses, e]
    exact s.respond_refusal 7 0 h
  · have hgood : ¬ (keyWordOk key.toNat = false ∨ 1 < st.toNat) := by
      rintro (h | h)
      · exact absurd (hk.symm.trans h) (by decide)
      · omega
    have e : add = _ := (if_neg hgood).trans (if_pos hf)
    simp only [Refuses, e]
    exact s.respond_refusal 9 _ h
  · subst hst
    have e : add = (s.operatorAdd i k 0).respond 0x21 cid.toNat 0 1 ((s.operatorAdd i k 0).entryOf k) := by
      simp [add, State.ledgerAdd, hk, k, Option.isSome_eq_false_iff.mpr, hf, s.roomFor_free hi]
    obtain ⟨x, hu⟩ := s.operatorAdd_suspect i k hroom
    obtain ⟨hresp, hregs, hframe⟩ := State.respond_after (u := s.operatorAdd i k 0) 0 1 ((s.operatorAdd i k 0).entryOf k) h
      ((congrArg State.host hu).trans rfl) (by rw [hu]; exact State.attached_of_canAnswer h)
    rw [← e] at hresp hregs hframe
    have hledger : add.ledger = _ := hframe.ledger.trans (congrArg State.ledger hu)
    refine ⟨hresp, ?_, fun j hj => ?_, SameRegs.trans (SameRegs.of_regs_eq _ (by rw [hu])) hregs, _,
      hframe.events.trans (congrArg State.events hu)⟩
    · rw [hledger]
      exact Tab.get_set_same _ _ _ _
    · rw [hledger]
      exact Tab.get_set_other _ _ _ _ _ hj

/-- FREE of an operator entry that withdraws nothing. -/
theorem State.freeOperator_suspect (s : State) (i : Nat) {e : Entry} (he : e.state = 0) : s.freeOperator i e = s.freeSlotOf i e :=
  if_neg (by rw [he]; decide)

theorem State.ledgerFree_answers (s : State) (cid key : BitVec 32) (i : Nat) (e : Entry) (h : s.canAnswer 0x22 cid.toNat)
    (hk : keyWordOk key.toNat = true) (hroom : s.hist.staged.length < 16384) :
    let k := wordKey key.toNat
    let free := s.ledgerFree cid.toNat key.toNat
    let Refuses := Responded s free 0x22 cid.toNat 9 ∧ free.ledger = s.ledger ∧ free.hist = s.hist ∧ SameRegs s free creditRegs
    (s.findEntry k = some (i, e) → e.origin = 4 → e.state = 0 →
      Responded s free 0x22 cid.toNat 0 ∧ Tab.get (fun _ => none) free.ledger.slots i = none ∧
      (∀ j, j ≠ i → Tab.get (fun _ => none) free.ledger.slots j = Tab.get (fun _ => none) s.ledger.slots j) ∧ SameRegs s free creditRegs) ∧
    (s.findEntry k = some (i, e) → e.origin ≠ 4 ∨ e.state = 4 → Refuses) ∧
    (s.findEntry k = none → Refuses) := by
  intro k free Refuses
  refine ⟨fun hf ho he => ?_, fun hf hbad => ?_, fun hf => ?_⟩
  · have ef : free = (s.freeSlotOf i e).respond 0x22 cid.toNat 0 1 0 := by
      simp [free, State.ledgerFree, hk, k, hf, ho, he, s.freeOperator_suspect i he]
    obtain ⟨x, -, hu⟩ := s.freeSlotOf_room i e hroom
    obtain ⟨hresp, hregs, hframe⟩ := State.respond_after (u := s.freeSlotOf i e) 0 1 0 h
      ((congrArg State.host hu).trans rfl) (by rw [hu]; exact State.attached_of_canAnswer h)
    rw [← ef] at hresp hregs hframe
    have hledger : free.ledger = _ := hframe.ledger.trans (congrArg State.ledger hu)
    refine ⟨hresp, ?_, fun j hj => ?_, SameRegs.trans (SameRegs.of_regs_eq _ (by rw [hu])) hregs⟩
    · rw [hledger]
      exact Tab.get_set_same _ _ _ _
    · rw [hledger]
      exact Tab.get_set_other _ _ _ _ _ hj
  · have hne : ¬ (e.origin = 4 ∧ e.state ≠ 4) := fun hc => hbad.elim (fun h => h hc.1) hc.2
    have ef : free = s.respond 0x22 cid.toNat 9 1 (entryBits e) := by
      simp only [free, State.ledgerFree, hk, k, hf, hne, Bool.true_eq_false, if_false]
    simp only [Refuses, ef]
    exact s.respond_refusal 9 _ h
  · have ef : free = s.respond 0x22 cid.toNat 9 1 0 := by
      simp only [free, State.ledgerFree, hk, k, hf, Bool.true_eq_false, if_false]
    simp only [Refuses, ef]
    exact s.respond_refusal 9 _ h

/-! ### LEDGER_ACCEPT -/

theorem State.sameRegs_endDispute (s : State) (f : Nat) : SameRegs s (s.endDispute f) [(.kprLedgerDisputedFields, 0)] :=
  s.sameRegs_put _ (List.mem_singleton.mpr rfl)

theorem State.endDispute_disputed (s : State) {f : Nat} (hf : f < 32) : (s.endDispute f).disputed f = false := by
  have hrf : (s.endDispute f).rf .kprLedgerDisputedFields 0 = (s.rf .kprLedgerDisputedFields 0 &&& (0xFFFFFFFF ^^^ 1 <<< f)) % 2 ^ 32 :=
    State.rf_put_same _ _ _ _
  have hones : (0xFFFFFFFF : Nat).testBit f = true := by
    rw [show (0xFFFFFFFF : Nat) = 2 ^ 32 - 1 from rfl, Nat.testBit_two_pow_sub_one]
    exact decide_eq_true hf
  rw [State.disputed, hrf, Nat.testBit_mod_two_pow, Nat.testBit_and, Nat.testBit_xor, hones, Nat.one_shiftLeft, Nat.testBit_two_pow_self]
  simp

theorem State.attached_of_sameRegs {s t : State} {l : List (RF × Nat)} (h : SameRegs s t l) (hl : (RF.hptStatusAttached, 0) ∉ l) :
    t.attached = s.attached := by
  rw [State.attached, h _ _ hl]
  rfl

/-- The host has accepted a field: its hold is given up, and it is noted. -/
def State.acceptField (s : State) (f : Nat) : State :=
  { s.endDispute f with ledger := { (s.endDispute f).ledger with accepted := f :: (s.endDispute f).ledger.accepted } }

theorem State.ledgerAccept_held (s : State) (cid : Nat) {f i : Nat} {e : Entry} (hf : s.findEntry (stationKey f) = some (i, e))
    (he : e.state = 4) : s.ledgerAccept cid f = ((s.freeSlotOf i e).acceptField f).respond 0x23 cid 0 1 0 := by
  unfold State.ledgerAccept
  rw [hf]
  exact if_pos he

theorem State.ledgerAccept_answers (s : State) (cid : BitVec 32) (f : BitVec 5) (i : Nat) (e : Entry) (h : s.canAnswer 0x23 cid.toNat)
    (hroom : s.hist.staged.length < 16384) :
    let accept := s.ledgerAccept cid.toNat f.toNat
    (s.findEntry (stationKey f.toNat) = some (i, e) → e.state = 4 →
      Responded s accept 0x23 cid.toNat 0 ∧ Tab.get (fun _ => none) accept.ledger.slots i = none ∧
      (∀ j, j ≠ i → Tab.get (fun _ => none) accept.ledger.slots j = Tab.get (fun _ => none) s.ledger.slots j) ∧
      f.toNat ∈ accept.ledger.accepted ∧ accept.disputed f.toNat = false ∧
      SameRegs s accept ((.kprLedgerDisputedFields, 0) :: creditRegs)) ∧
    (s.findEntry (stationKey f.toNat) = none → s.disputed f.toNat = false →
      Responded s accept 0x23 cid.toNat 9 ∧ accept.ledger = s.ledger ∧ accept.hist = s.hist ∧ SameRegs s accept creditRegs) := by
  intro accept
  refine ⟨fun hf he => ?_, fun hf hd => ?_⟩
  · obtain ⟨x, -, hu⟩ := s.freeSlotOf_room i e hroom
    have ef : accept = ((s.freeSlotOf i e).acceptField f.toNat).respond 0x23 cid.toNat 0 1 0 := s.ledgerAccept_held cid.toNat hf he
    have hregs0 : SameRegs s (s.freeSlotOf i e) [(.kprLedgerDisputedFields, 0)] := SameRegs.of_regs_eq _ (by rw [hu])
    have hregs : SameRegs s ((s.freeSlotOf i e).acceptField f.toNat) [(.kprLedgerDisputedFields, 0)] :=
      hregs0.trans (State.sameRegs_endDispute _ _)
    have hslots : ((s.freeSlotOf i e).acceptField f.toNat).ledger.slots = Tab.set (fun _ => none) s.ledger.slots i none :=
      (congrArg (fun t : State => t.ledger.slots) hu).trans rfl
    obtain ⟨hresp, hcredit, hframe⟩ := State.respond_after (u := (s.freeSlotOf i e).acceptField f.toNat) 0 1 0 h
      ((congrArg State.host hu).trans rfl)
      ((State.attached_of_sameRegs hregs (by decide)).trans (State.attached_of_canAnswer h))
    rw [← ef] at hresp hcredit hframe
    refine ⟨hresp, ?_, fun j hj => ?_, ?_, ?_, ?_⟩
    · rw [hframe.ledger, hslots]
      exact Tab.get_set_same _ _ _ _
    · rw [hframe.ledger, hslots]
      exact Tab.get_set_other _ _ _ _ _ hj
    · rw [hframe.ledger]
      exact List.mem_cons_self
    · rw [State.disputed, hcredit _ _ (by decide)]
      exact State.endDispute_disputed _ f.isLt
    · exact (hregs.mono (by simp)).trans (hcredit.mono (fun _ hx => List.mem_cons_of_mem _ hx))
  · have ef : accept = s.respond 0x23 cid.toNat 9 1 0 := by
      simp only [accept, State.ledgerAccept, hf, hd, Bool.false_eq_true, if_false]
    rw [ef]
    exact s.respond_refusal 9 0 h

/-! ### LEDGER_DROP -/

/-- A dropped key of a table leaves every entry that was listed under another key. -/
theorem Tab.get_drop_of_ne {α : Type} (d : Nat → α) (p : Nat → Bool) (t : Tab α) {k : Nat} {v : α} (hp : p k = false)
    (h : Tab.get d t k = v) (hv : v ≠ d k) : Tab.get d (Tab.drop p t) k = v := by
  induction t with
  | nil => exact absurd h.symm hv
  | cons e t ih =>
    obtain ⟨k', w⟩ := e
    rw [Tab.get] at h
    by_cases h1 : k < k'
    · rw [if_pos h1] at h
      exact absurd h.symm hv
    · by_cases h2 : k = k'
      · subst h2
        rw [if_neg h1, if_pos rfl] at h
        rw [Tab.drop, List.filter_cons_of_pos (by simp [hp]), Tab.get, if_neg h1, if_pos rfl]
        exact h
      · rw [if_neg h1, if_neg h2] at h
        rw [Tab.drop]
        by_cases hk : p k' = true
        · rw [List.filter_cons_of_neg (by simp [hk])]
          exact ih h
        · rw [List.filter_cons_of_pos (by simp [hk]), Tab.get, if_neg h1, if_neg h2]
          exact ih h

/-- What the drop of a quiet field leaves alone: the host port and the ledger; a host that is attached stays so. -/
def HostKept (s t : State) : Prop := t.host = s.host ∧ t.ledger = s.ledger ∧ (s.attached = true → t.attached = true)

theorem HostKept.trans {s t u : State} (h : HostKept s t) (h' : HostKept t u) : HostKept s u :=
  ⟨h'.1.trans h.1, h'.2.1.trans h.2.1, fun ha => h'.2.2 (h.2.2 ha)⟩

theorem HostKept.of_regs_eq {s t : State} (hh : t.host = s.host) (hl : t.ledger = s.ledger) (hr : t.regs = s.regs) : HostKept s t :=
  ⟨hh, hl, fun ha => by rw [State.attached, State.rf, hr]; exact ha⟩

theorem State.put_hostKept (s : State) {F : RF} (i v : Nat) (h : F ≠ .hptStatusAttached) : HostKept s (s.put F i v) :=
  ⟨rfl, rfl, fun ha => by rw [State.attached, s.rf_put_field F _ i 0 v h]; exact ha⟩

theorem State.resetRegs_hostKept (s : State) (p : RF → Nat → Bool) (h : p .hptStatusAttached 0 = false) : HostKept s (s.resetRegs p) := by
  refine ⟨rfl, rfl, fun ha => ?_⟩
  have h1 : Tab.get regDefault s.regs (regKey .hptStatusAttached 0) = 1 := of_decide_eq_true ha
  exact decide_eq_true (Tab.get_drop_of_ne regDefault (fun k => p (RF.ofNat (k % 512)) (k / 512)) s.regs h h1 (by decide))

theorem fnRegs_ne_attached (f : Func) : (fnRegs f).2.1 ≠ .hptStatusAttached ∧ (fnRegs f).2.2.1 ≠ .hptStatusAttached := by
  cases f <;> exact ⟨nofun, nofun⟩

theorem State.resetFns_hostKept (s : State) (d : Domain) : HostKept s (s.resetFns d) := by
  refine List.foldlRecOn _ _ (motive := fun (t : State) => HostKept s t) (HostKept.of_regs_eq rfl rfl rfl) (fun t ht f _ => ht.trans ?_)
  obtain ⟨h1, h2⟩ := fnRegs_ne_attached f
  exact ((HostKept.of_regs_eq (t := t.setFn f { offAt := t.now }) rfl rfl rfl).trans (State.put_hostKept _ _ _ h1)).trans
    (State.put_hostKept _ _ _ h2)

theorem State.stopWhere_none (s : State) (p : Episode → Bool) (verdict reason : Nat) (he : s.episodes = []) :
    ∃ l, s.stopWhere p verdict reason = { s with ending := l } := by
  have h : s.episodes.filter p = [] := by rw [he, List.filter_nil]
  rw [State.stopWhere, h, List.foldl_nil]
  exact ⟨_, rfl⟩

theorem State.clearFills_none (s : State) (f : Nat) (hr : s.regrows = []) : s.clearFills f = s := by
  rw [State.clearFills, hr]
  rfl

theorem State.dropWaits_none (s : State) (p : SemWait → Bool) (status : Nat) (hw : s.waits = []) : HostKept s (s.dropWaits p status) := by
  rw [State.dropWaits, hw]
  exact HostKept.of_regs_eq rfl rfl rfl

/-- With no episode, regrowth or wait, a station that is cleared touches its own state. -/
theorem State.stationClear_hostKept (s : State) (f : Nat) (he : s.episodes = []) (hr : s.regrows = []) (hw : s.waits = []) :
    HostKept s (s.stationClear f) := by
  obtain ⟨l, hl⟩ := s.stopWhere_none (fun e => decide (tileField e.tile = f)) 3 10 he
  have h1 : (s.stopWhere (fun e => decide (tileField e.tile = f)) 3 10).clearFills f = { s with ending := l } := by
    rw [hl]
    exact State.clearFills_none _ f hr
  unfold State.stationClear
  rw [h1]
  extract_lets s1 st s2 s3 s4 x s5 s6 pw s7
  have h3 : HostKept s s3 := (HostKept.of_regs_eq (t := s2) rfl rfl rfl).trans (s2.dropWaits_none _ _ hw)
  clear_value s3
  have h5 : HostKept s s5 := h3.trans (HostKept.of_regs_eq (s := s3) rfl rfl rfl)
  clear_value s5
  have h7 : HostKept s s7 := (h5.trans (s5.resetRegs_hostKept _ rfl)).trans (HostKept.of_regs_eq (s := s6) rfl rfl rfl)
  clear_value s7
  exact h7.trans (s7.resetFns_hostKept _)

theorem State.tilesClear_hostKept (s : State) (p : Nat → Bool) : HostKept s (s.tilesClear p) := by
  rw [State.tilesClear]
  refine List.foldlRecOn _ _ (motive := fun (t : State) => HostKept s t) ?_ (fun t ht x _ => ht.trans (HostKept.of_regs_eq rfl rfl rfl))
  exact HostKept.trans (t := s.resetRegs (fun F i => decide (F.spec.blk = .sentinel) && p i)) (s.resetRegs_hostKept _ rfl)
    (HostKept.of_regs_eq rfl rfl rfl)

/-- A quiet field is dropped: the host port and the ledger stand, its bit of FIELDS_DROPPED is set and its station is ABSENT. -/
theorem State.dropField_quiet (s : State) {f : Nat} (hf : f < 32) (hd : s.dropped f = false) (he : s.episodes = []) (hr : s.regrows = [])
    (hw : s.waits = []) :
    HostKept s (s.dropField f) ∧ (s.dropField f).dropped f = true ∧ (s.dropField f).domState (.station (toFin32 f)) = 2 := by
  unfold State.dropField
  rw [hd, if_neg Bool.false_ne_true]
  extract_lets mine s1 s2 s3
  have hmine : mine = [] := by simp [mine, hr]
  have h1 : s1 = s := by simp [s1, hmine, State.escalateAll]
  have h2 : HostKept s s2 := by
    simp only [s2, h1]
    exact HostKept.of_regs_eq rfl rfl rfl
  have hclear : HostKept s2 (s2.stationClear f) :=
    s2.stationClear_hostKept f (by rw [← he, ← h1]) (by simp only [s2, h1, hr, List.filter_nil]) (by rw [← hw, ← h1])
  have htiles := (s2.stationClear f).tilesClear_hostKept (fun t => decide (tileField t = f))
  have hput := ((s2.stationClear f).tilesClear (fun t => decide (tileField t = f))).put_hostKept (F := .fstResetStatusState)
    (toFin32 f).val 2 (by decide)
  have h3 : HostKept s s3 := ((h2.trans hclear).trans htiles).trans hput
  have hdom : s3.rf .fstResetStatusState (toFin32 f).val = 2 := State.rf_put_same _ .fstResetStatusState _ 2
  clear_value s3
  have hdrop : (s3.put .kprFieldsDroppedDropped 0 (s3.rf .kprFieldsDroppedDropped 0 ||| 1 <<< f)).rf .kprFieldsDroppedDropped 0 =
      (s3.rf .kprFieldsDroppedDropped 0 ||| 1 <<< f) % 2 ^ 32 := State.rf_put_same _ _ _ _
  refine ⟨((h3.trans (State.put_hostKept _ _ _ (by decide))).trans (State.put_hostKept _ _ _ (by decide))).trans
    (HostKept.of_regs_eq rfl rfl rfl), ?_, ?_⟩
  · have hrf := (State.rf_put_field _ .fstIdDropped .kprFieldsDroppedDropped f 0 1 (by decide)).trans hdrop
    refine (congrArg (fun x : Nat => x.testBit f) hrf).trans ?_
    rw [Nat.testBit_mod_two_pow, Nat.testBit_or, Nat.one_shiftLeft, Nat.testBit_two_pow_self, decide_eq_true hf]
    simp
  · exact (State.rf_put_field _ .fstIdDropped .fstResetStatusState f _ 1 (by decide)).trans
      ((State.rf_put_field _ .kprFieldsDroppedDropped .fstResetStatusState 0 _ _ (by decide)).trans hdom)

theorem State.ledgerDrop_held (s : State) (cid : Nat) {f i : Nat} {e : Entry} (hf : s.findEntry (stationKey f) = some (i, e))
    (he : e.state = 4) (hroom : s.hist.staged.length < 16384) :
    ∃ x : History, s.ledgerDrop cid f = ((State.endDispute { s with
        ledger := { s.ledger with slots := Tab.set (fun _ => none) s.ledger.slots i (some { e with state := 2, origin := 4 }) }
        hist := x
        events := s.events ++ [⟨10, 0, s.now, noticeActs { e with state := 2, origin := 4 } 4⟩] } f).dropField f).respond 0x24 cid 0 1 0 := by
  obtain ⟨x, hx, -⟩ := (s.setSlot i (some { e with state := 2, origin := 4 })).writeHist_room e.key 2 4 false
    (evidence e.key (s.realCause e)) (s.createdOf e.key) hroom
  refine ⟨x, ?_⟩
  simp only [State.ledgerDrop, hf, he, if_true, hx, State.entryNotice_eq]
  rfl

theorem State.ledgerDrop_answers (s : State) (cid : BitVec 32) (f : BitVec 5) (i : Nat) (e : Entry) (h : s.canAnswer 0x24 cid.toNat)
    (hroom : s.hist.staged.length < 16384) :
    let drop := s.ledgerDrop cid.toNat f.toNat
    (s.findEntry (stationKey f.toNat) = some (i, e) → e.state = 4 → s.dropped f.toNat = false → s.regrows = [] → s.episodes = [] →
      s.waits = [] →
      Responded s drop 0x24 cid.toNat 0 ∧ Tab.get (fun _ => none) drop.ledger.slots i = some { e with state := 2, origin := 4 } ∧
      (∀ j, j ≠ i → Tab.get (fun _ => none) drop.ledger.slots j = Tab.get (fun _ => none) s.ledger.slots j) ∧
      drop.dropped f.toNat = true ∧ drop.domState (.station (toFin32 f.toNat)) = 2) ∧
    (s.findEntry (stationKey f.toNat) = none → s.disputed f.toNat = false →
      Responded s drop 0x24 cid.toNat 9 ∧ drop.ledger = s.ledger ∧ drop.hist = s.hist ∧ SameRegs s drop creditRegs) := by
  intro drop
  refine ⟨fun hf he hd hr hep hw => ?_, fun hf hd => ?_⟩
  · obtain ⟨x, ed⟩ := s.ledgerDrop_held cid.toNat hf he hroom
    generalize hu : ({ s with
        ledger := { s.ledger with slots := Tab.set (fun _ => none) s.ledger.slots i (some { e with state := 2, origin := 4 }) }
        hist := x
        events := s.events ++ [⟨10, 0, s.now, noticeActs { e with state := 2, origin := 4 } 4⟩] } : State) = u at ed
    have hregs : SameRegs s (u.endDispute f.toNat) [(.kprLedgerDisputedFields, 0)] :=
      SameRegs.trans (SameRegs.of_regs_eq _ (by rw [← hu])) (u.sameRegs_endDispute _)
    have hdrop : (u.endDispute f.toNat).dropped f.toNat = false := by
      rw [State.dropped, hregs _ _ (by decide)]
      exact hd
    obtain ⟨⟨hhost, hledger, hatt⟩, hdropped, hdom⟩ := (u.endDispute f.toNat).dropField_quiet f.isLt hdrop
      (by rw [← hu]; exact hep) (by rw [← hu]; exact hr) (by rw [← hu]; exact hw)
    obtain ⟨hresp, hcredit, hframe⟩ := State.respond_after (u := (u.endDispute f.toNat).dropField f.toNat) 0 1 0 h
      (hhost.trans (by rw [← hu]; rfl)) (hatt ((State.attached_of_sameRegs hregs (by decide)).trans (State.attached_of_canAnswer h)))
    have ed' : drop = ((u.endDispute f.toNat).dropField f.toNat).respond 0x24 cid.toNat 0 1 0 := ed
    rw [← ed'] at hresp hcredit hframe
    have hslots : drop.ledger.slots = Tab.set (fun _ => none) s.ledger.slots i (some { e with state := 2, origin := 4 }) := by
      rw [hframe.ledger, hledger, ← hu]
      rfl
    refine ⟨hresp, ?_, fun j hj => ?_, ?_, ?_⟩
    · rw [hslots]
      exact Tab.get_set_same _ _ _ _
    · rw [hslots]
      exact Tab.get_set_other _ _ _ _ _ hj
    · rw [State.dropped, hcredit _ _ (by decide)]
      exact hdropped
    · exact (hcredit .fstResetStatusState _ (by simp [creditRegs])).trans hdom
  · have ed : drop = s.respond 0x24 cid.toNat 9 1 0 := by
      simp only [drop, State.ledgerDrop, hf, hd, Bool.false_eq_true, if_false]
    rw [ed]
    exact s.respond_refusal 9 0 h

/-- Settles O30, one lemma for each command. -/
theorem hostLedgerCommandsAnswer : Obligations.HostLedgerCommandsAnswer := by
  intro s cid key st f i e hroom
  refine ⟨fun h => ?_, fun h => ?_, fun h => ?_, fun h => ?_, fun h => ?_, fun h => s.ledgerQuery_answers _ _ h,
    fun h => s.ledgerAdd_answers cid key st i h hroom, fun h hk => s.ledgerFree_answers cid key i e h hk hroom,
    fun h => s.ledgerAccept_answers cid f i e h hroom, fun h => s.ledgerDrop_answers cid f i e h hroom⟩ <;>
  exact Completes.of_next rfl (s.asHost_lodges _ _ _ _ h)

end Sys2Proof.Machine
end

section
/-! The late stages of bring-up (10_bringup.md R317 to R336). -/

namespace Sys2Proof.Machine

/-! ### What the report of a stage and its end leave alone -/

theorem State.sendMsg_onlyHost (s : State) (cls code units cid status payload : Nat) :
    OnlyHost s (s.sendMsg cls code units cid status payload) := by
  rw [State.sendMsg]
  split <;> rfl

theorem State.sameRegs_sendMsg (s : State) (cls code units cid status payload : Nat) :
    SameRegs s (s.sendMsg cls code units cid status payload) [(.kprHangStatusCroakDrop, 0)] := by
  rw [State.sendMsg]
  split
  · exact .of_regs_eq _ rfl
  · exact (SameRegs.of_regs_eq _ rfl).trans (State.sameRegs_put _ _ List.mem_cons_self)

/-- Nothing but the registers, the account of bring-up and the host port differs. -/
def Staged (s t : State) : Prop := t = { s with regs := t.regs, boot := t.boot, host := t.host }

theorem Staged.trans {s t u : State} (h : Staged s t) (h' : Staged t u) : Staged s u := by
  rw [Staged, h', h]

theorem OnlyHost.staged {s t : State} (h : OnlyHost s t) : Staged s t := by
  rw [Staged, h]

theorem Staged.kept {s t : State} (h : Staged s t) : t.ledger = s.ledger ∧ t.remap = s.remap ∧ t.redirect = s.redirect := by
  unfold Staged at h
  rw [h]
  exact ⟨rfl, rfl, rfl⟩

theorem State.setDom_staged (s : State) (d : Domain) (v : Nat) : Staged s (s.setDom d v) := by
  cases d <;> rfl

theorem State.beginStage_staged (s : State) (n : Nat) : Staged s (s.beginStage n) := rfl

/-- The registers that the report of stage `n` writes. -/
def reportRegs (n : Nat) : List (RF × Nat) := [(.kprBringupStatusCode, 0), (.kprStageTimeTicks, n), (.kprHangStatusCroakDrop, 0)]

theorem State.stageReport_staged (s : State) (n : Nat) (halted : Bool) (code detail : Nat) : Staged s (s.stageReport n halted code detail) :=
  Staged.trans (t := { s.puts [(.kprBringupStatusCode, 0, code), (.kprStageTimeTicks, n, s.stageTicks)] with boot := _ }) rfl
    (State.sendMsg_onlyHost _ _ _ _ _ _ _).staged

theorem State.sameRegs_stageReport (s : State) (n : Nat) (halted : Bool) (code detail : Nat) :
    SameRegs s (s.stageReport n halted code detail) (reportRegs n) := by
  have hcode : SameRegs s (s.put .kprBringupStatusCode 0 code) (reportRegs n) := s.sameRegs_put _ (by simp [reportRegs])
  have hboth := hcode.put (F := .kprStageTimeTicks) (i := n) s.stageTicks (by simp [reportRegs])
  exact (hboth.trans (.of_regs_eq _ rfl)).trans ((State.sameRegs_sendMsg _ _ _ _ _ _ _).mono (by simp [reportRegs]))

theorem State.stageReport_code (s : State) (n : Nat) (halted : Bool) (code detail : Nat) (h : code < 2 ^ 16) :
    (s.stageReport n halted code detail).rf .kprBringupStatusCode 0 = code := by
  refine (State.sameRegs_sendMsg _ _ _ _ _ _ _ _ _ (by simp)).trans ?_
  refine (State.rf_puts_other [(.kprStageTimeTicks, n, s.stageTicks)] (s.put .kprBringupStatusCode 0 code) _ _ (by simp)).trans ?_
  exact (s.rf_put_same _ _ _).trans (Nat.mod_eq_of_lt h)

/-! ### The end of a stage, and the begin of the next -/

/-- Bring-up stands at its stage `n`, which runs. -/
def State.AtStage (t : State) (n : Nat) : Prop :=
  t.rf .kprBringupStatusStage 0 = n ∧ t.rf .kprBringupStatusBusy 0 = 1 ∧ t.rf .kprBringupStatusHalted 0 = 0

theorem State.beginStage_atStage (s : State) (n : Nat) (h : n < 2 ^ 4) : (s.beginStage n).AtStage n := by
  refine ⟨?_, ?_, ?_⟩
  · simpa [State.beginStage, RF.spec] using h
  · simp [State.beginStage, RF.spec]
  · simp [State.beginStage, RF.spec]

theorem State.AtStage.setDom {s : State} {n : Nat} (h : s.AtStage n) (d : Domain) (v : Nat) : (s.setDom d v).AtStage n := by
  cases d <;> simpa [State.AtStage, State.setDom] using h

/-- From stage 5 on a stage begins with no more than the ports it lets train. -/
theorem State.enterStage_late (s : State) (n : Nat) (h : n = 5 ∨ n = 6 ∨ n = 7) :
    (s.enterStage n).AtStage n ∧ Staged s (s.enterStage n) := by
  have hat := s.beginStage_atStage n (by omega)
  have hst := s.beginStage_staged n
  rcases h with rfl | rfl | rfl
  · exact ⟨hat, hst⟩
  · simp only [State.enterStage]
    split
    · exact ⟨hat, rfl⟩
    · exact List.foldlRecOn _ _ (motive := fun (t : State) => t.AtStage 6 ∧ Staged s t) ⟨hat, hst⟩
        (fun t ht _ _ => ⟨ht.1.setDom _ _, ht.2.trans (t.setDom_staged _ _)⟩)
  · exact ⟨hat, hst⟩

/-- No domain reset waits for the stage to end. -/
def State.NoResetWaits (s : State) : Prop := s.domPending .keeper ≠ 1 ∧ s.domPending .compute ≠ 1

theorem State.NoResetWaits.pendingReset {s : State} (h : s.NoResetWaits) : s.pendingReset = none := by
  obtain ⟨hk, hc⟩ := h
  simp [State.pendingReset, hk, hc]

theorem State.NoResetWaits.of_sameRegs {s t : State} {l : List (RF × Nat)} (h : s.NoResetWaits) (hr : SameRegs s t l)
    (hk : (RF.aoiDomainsKeeperPending, 0) ∉ l) (hc : (RF.aoiDomainsComputePending, 0) ∉ l) : t.NoResetWaits :=
  ⟨fun e => h.1 ((hr _ _ hk).symm.trans e), fun e => h.2 ((hr _ _ hc).symm.trans e)⟩

/-- With no reset waiting, the end of a stage reports it and begins the next one. -/
theorem State.endStage_noReset (s : State) (n code detail : Nat) (h : s.NoResetWaits) :
    ∃ v : State, s.endStage n code detail = v.enterStage (s.nextStage n) ∧ Staged s v := by
  unfold State.endStage
  extract_lets s1 b s2 s3
  have hr : SameRegs s s2 ((.kprBringupStatusBusy, 0) :: reportRegs n) :=
    ((s.sameRegs_stageReport n false code detail).mono (fun _ hx => List.mem_cons_of_mem _ hx)).put 0 List.mem_cons_self
  have hq : s2.NoResetWaits := h.of_sameRegs hr (by simp [reportRegs]) (by simp [reportRegs])
  have hrun : s2.stageRun = s.stageRun := hr .kprBringupStatusRun 0 (by simp [reportRegs])
  have hst : Staged s s2 := (s.stageReport_staged n false code detail).trans rfl
  clear_value s2
  refine ⟨s2, ?_, hst⟩
  simp only [s3, hq.pendingReset, hq.2, and_false, if_false, State.nextStage, hrun]

theorem State.endStage_late (s : State) (n code detail : Nat) (h : s.NoResetWaits) (hn : n = 4 ∨ n = 5 ∨ n = 6) :
    (s.endStage n code detail).AtStage (s.nextStage n) ∧ Staged s (s.endStage n code detail) := by
  obtain ⟨v, hv, hst⟩ := s.endStage_noReset n code detail h
  have hnext : s.nextStage n = 5 ∨ s.nextStage n = 6 ∨ s.nextStage n = 7 := by
    unfold State.nextStage
    split <;> omega
  obtain ⟨hat, hst'⟩ := v.enterStage_late (s.nextStage n) hnext
  rw [hv]
  exact ⟨hat, hst.trans hst'⟩

/-! ### The halt of a stage -/

/-- Bring-up is halted with this code. -/
def State.HaltedWith (t : State) (code : Nat) : Prop :=
  t.rf .kprBringupStatusHalted 0 = 1 ∧ t.rf .kprBringupStatusBusy 0 = 0 ∧ t.rf .kprBringupStatusCode 0 = code

theorem State.HaltedWith.setRec {s : State} {code : Nat} (h : s.HaltedWith code) (v : Nat) : (s.setRec v).HaltedWith code := by
  simpa [State.HaltedWith, State.setRec] using h

theorem State.stageHalt_halted (s : State) (n code detail : Nat) (h : code < 2 ^ 16) :
    (s.stageHalt n code detail).HaltedWith code ∧
      (s.stageHalt n code detail).rf .kprBringupStatusStage 0 = s.rf .kprBringupStatusStage 0 := by
  unfold State.stageHalt
  extract_lets s1 b s2
  have hcode : s2.rf .kprBringupStatusCode 0 = code :=
    (State.rf_puts_other _ _ _ _ (by simp)).trans (s.stageReport_code n true code detail h)
  have hstage : s2.rf .kprBringupStatusStage 0 = s.rf .kprBringupStatusStage 0 :=
    (State.rf_puts_other _ _ _ _ (by simp)).trans (s.sameRegs_stageReport n true code detail _ _ (by simp [reportRegs]))
  have hhalt : s2.rf .kprBringupStatusHalted 0 = 1 := (State.rf_put_field _ _ _ _ _ _ (by decide)).trans (State.rf_put_same _ _ _ _)
  have hbusy : s2.rf .kprBringupStatusBusy 0 = 0 := State.rf_put_same _ _ _ _
  have hall : s2.HaltedWith code := ⟨hhalt, hbusy, hcode⟩
  split
  · exact ⟨hall.setRec 7, (s2.rf_put_field _ _ _ _ _ (by decide)).trans hstage⟩
  · exact ⟨hall, hstage⟩

/-! ### Stage 4 -/

theorem State.fieldTested_fold (s : State) (l : List Nat) :
    (l.foldl State.fieldTested s).ledger = s.ledger ∧ (l.foldl State.fieldTested s).regs = s.regs :=
  List.foldlRecOn l _ (motive := fun (t : State) => t.ledger = s.ledger ∧ t.regs = s.regs) ⟨rfl, rfl⟩ (fun _ ht _ _ => ht)

theorem State.stage4_ends (s : State) (fails lanes : List UnitKey) (h : s.NoResetWaits) :
    (s.stage4 fails lanes).AtStage 5 ∧
      (s.stage4 fails lanes).ledger.fails = s.ledger.fails ++ fails.filter (fun k => decide (k.kind = kindTile ∨ k.kind = kindBank ∨
        k.kind = kindRouter) && !s.dropped (tileField k.unit)) ++ lanes.filter (fun k => decide (k.kind = kindLane)) ∧
      (s.stage4 fails lanes).ledger.prevFails = (s.stage4 fails lanes).ledger.fails := by
  unfold State.stage4
  extract_lets ok live all s1
  have hregs : s1.regs = s.regs := (s.fieldTested_fold live).2
  clear_value s1
  generalize hu : ({ s1 with ledger := _ } : State) = u
  have hq : u.NoResetWaits := h.of_sameRegs (.of_regs_eq [] (hu ▸ hregs)) (by simp) (by simp)
  obtain ⟨hat, hst⟩ := u.endStage_late 4 0 0 hq (.inl rfl)
  have hnext : u.nextStage 4 = 5 := if_neg (by simp)
  rw [hnext] at hat
  have hall : all = s.ledger.fails ++ fails.filter (fun k => decide (k.kind = kindTile ∨ k.kind = kindBank ∨
      k.kind = kindRouter) && !s.dropped (tileField k.unit)) ++ lanes.filter (fun k => decide (k.kind = kindLane)) := by
    simp only [all, ok, Bool.decide_or, Bool.or_assoc]
  rw [hst.kept.1, ← hu, ← hall]
  exact ⟨hu ▸ hat, rfl, rfl⟩

/-! ### Stage 5 -/

theorem State.stage5_disputed (s : State) (h : s.reconcile.1 ≠ []) : s.stage5.HaltedWith 0x60 := by
  have he : s.reconcile.1.isEmpty = false := by simpa using h
  simp only [State.stage5, he, Bool.false_eq_true, if_false]
  exact (State.stageHalt_halted _ _ _ _ (by decide)).1

theorem State.stage5_settled (s : State) (h : s.reconcile.1 = []) : s.stage5 = s.reconcile.2.stage5Rest := by
  simp [State.stage5, h]

theorem State.stage5Rest_full (s : State) (h : 31744 < s.ageCheck.entriesNeeded) : s.stage5Rest.HaltedWith 0x61 := by
  simp only [State.stage5Rest, h, if_true]
  exact (State.stageHalt_halted _ _ _ _ (by decide)).1

/-- What stage 5 makes of the ledger once its entries are settled: the fields, the map and the lanes that it withdraws. -/
def State.stage5Mapped (s : State) : State := s.ageCheck.syncFields.buildMap.syncLanes true

theorem State.stage5Rest_ends (s : State) (h : s.ageCheck.entriesNeeded ≤ 31744) (hm : s.stage5Mapped.entriesNeeded ≤ 31744)
    (hd : s.stage5Mapped.rf .kprFieldsDroppedDropped 0 ≠ 0xFFFFFFFF) (hq : s.stage5Mapped.NoResetWaits) :
    s.stage5Rest.AtStage (if s.stage5Mapped.rf .kprBringupStatusRun 0 = 2 then 7 else 6) ∧ s.stage5Rest.ledger.fails = [] ∧
      s.stage5Rest.ledger.prevFails = s.stage5Mapped.ledger.prevFails ∧ s.stage5Rest.remap = s.stage5Mapped.remap ∧
      s.stage5Rest.redirect = s.stage5Mapped.redirect := by
  unfold State.stage5Rest
  extract_lets s' w dropped lanes l s2
  have hw : s.stage5Mapped = w := rfl
  rw [hw] at hm hd hq ⊢
  clear_value w
  have hq2 : s2.NoResetWaits := hq.of_sameRegs (.of_regs_eq [] rfl) (by simp) (by simp)
  have hrun : s2.stageRun = w.rf .kprBringupStatusRun 0 := rfl
  have hends : ∀ code detail, (s2.endStage 5 code detail).AtStage (if w.rf .kprBringupStatusRun 0 = 2 then 7 else 6) ∧
      Staged s2 (s2.endStage 5 code detail) := by
    intro code detail
    obtain ⟨hat, hst⟩ := s2.endStage_late 5 code detail hq2 (.inr (.inl rfl))
    have hnext : s2.nextStage 5 = if w.rf .kprBringupStatusRun 0 = 2 then 7 else 6 := by
      simp only [State.nextStage, hrun, and_true]
    exact ⟨hnext ▸ hat, hst⟩
  rw [if_neg (Nat.not_lt.mpr h), if_neg (Nat.not_lt.mpr hm), if_neg hd]
  split
  all_goals
    obtain ⟨hat, hst⟩ := hends _ _
    obtain ⟨hl, hr, hrd⟩ := hst.kept
    exact ⟨hat, (congrArg Ledger.fails hl).trans rfl, (congrArg Ledger.prevFails hl).trans rfl, hr, hrd⟩

theorem State.haltAnswered_unhalted (s : State) (h : s.rf .kprBringupStatusHalted 0 ≠ 1) : s.haltAnswered = s := if_neg h

/-! ### Stage 6 -/

theorem State.sendHello_kept (s : State) : s.sendHello.boot = s.boot ∧ s.sendHello.now = s.now := by
  unfold State.sendHello
  extract_lets x s1
  have h : s1.boot = s.boot ∧ s1.now = s.now := ⟨rfl, rfl⟩
  split
  · split <;> exact h
  · exact h

theorem State.helloAfter_kept (s : State) : s.helloAfter.boot = s.boot ∧ s.helloAfter.now = s.now := by
  unfold State.helloAfter
  split
  · exact s.sendHello_kept
  · exact ⟨rfl, rfl⟩

theorem State.stage6_trained (s : State) (trained : List (Fin 16 × BitVec 32)) :
    let t := s.stage6 trained
    t.boot.trained = true ∧ t.boot.trainEnd = t.now ∧ t.boot.lastPeer = t.now := by
  unfold State.stage6
  extract_lets lanes s1 b t
  clear_value s1
  obtain ⟨hb, hn⟩ : t.boot = { s1.boot with trained := true, trainEnd := s1.now, lastPeer := s1.now } ∧ t.now = s1.now :=
    State.helloAfter_kept _
  rw [hb, hn]
  exact ⟨rfl, rfl, rfl⟩

theorem State.discovered_silent (s : State) (h : s.stageOn 6 = true) (ht : s.boot.trained = true) (hq : s.NoResetWaits)
    (hp : s.boot.lastPeer + 200000 ≤ s.now) : s.discovered.AtStage 7 := by
  unfold State.discovered
  rw [if_pos (by simp [h, ht, hp])]
  have hnext : s.nextStage 6 = 7 := if_neg (by simp)
  exact hnext ▸ (s.endStage_late 6 _ 0 hq (.inr (.inr rfl))).1

theorem State.discovered_untrained (s : State) (h : s.boot.trained = false) : s.discovered = s := if_neg (by simp [h])

/-! ### Stage 7: the domains come up -/

/-- The registers that the rise of the Keeper or of tile compute writes, beside the domain's own state. -/
def riseRegs : List (RF × Nat) :=
  (.kprHangStatusCroakDrop, 0) :: (.kprSecCtrlState, 0) :: (.kprSecCtrlEnablePending, 0) :: creditRegs

theorem State.respond_kept (s : State) (opcode cid status units payload : Nat) :
    SameRegs s (s.respond opcode cid status units payload) riseRegs ∧ (s.respond opcode cid status units payload).boot = s.boot := by
  unfold State.respond
  split
  · extract_lets s1
    have hregs : SameRegs s s1 riseRegs := (s.sameRegs_sendMsg 1 opcode units cid status payload).mono (by simp [riseRegs])
    have hboot : s1.boot = s.boot := (congrArg State.boot (s.sendMsg_onlyHost 1 opcode units cid status payload)).trans rfl
    exact ⟨hregs.trans ((s1.sameRegs_setTaken _).mono (by simp [riseRegs, creditRegs])), hboot⟩
  · exact ⟨.refl _ _, rfl⟩

theorem State.respond_fold_kept (s : State) (l : List Nat) :
    SameRegs s (l.foldl (fun t c => t.respond 0x63 c 0 1 0) s) riseRegs ∧ (l.foldl (fun t c => t.respond 0x63 c 0 1 0) s).boot = s.boot :=
  List.foldlRecOn l _ (motive := fun (t : State) => SameRegs s t riseRegs ∧ t.boot = s.boot) ⟨.refl _ _, rfl⟩
    (fun t ht _ _ => ⟨ht.1.trans (t.respond_kept _ _ _ _ _).1, (t.respond_kept _ _ _ _ _).2.trans ht.2⟩)

theorem State.fnEnable_securing_kept (s : State) :
    SameRegs s (s.fnEnable .securing) riseRegs ∧ (s.fnEnable .securing).boot = s.boot := by
  have hstate : (RF.kprSecCtrlState, 0) ∈ riseRegs := by simp [riseRegs]
  have hpending : (RF.kprSecCtrlEnablePending, 0) ∈ riseRegs := by simp [riseRegs]
  unfold State.fnEnable
  split
  · split
    · exact ⟨((SameRegs.of_regs_eq _ rfl).trans (State.sameRegs_put (s.setFn .securing _) 1 hstate)).put 0 hpending, rfl⟩
    · exact ⟨s.sameRegs_put 1 hpending, rfl⟩
  · exact ⟨.of_regs_eq _ rfl, rfl⟩
  · exact ⟨.refl _ _, rfl⟩
  · exact ⟨s.sameRegs_put 1 hpending, rfl⟩

theorem State.fnRestart_securing_kept (s : State) :
    SameRegs s (s.fnRestart .securing) riseRegs ∧ (s.fnRestart .securing).boot = s.boot := by
  unfold State.fnRestart
  extract_lets s1
  have h : SameRegs s s1 riseRegs ∧ s1.boot = s.boot :=
    ⟨((SameRegs.of_regs_eq _ rfl).trans (State.sameRegs_put (s.setFn .securing _) 0 (by simp [fnRegs, riseRegs]))).put 0
      (by simp [fnRegs, riseRegs]), rfl⟩
  clear_value s1
  split
  · exact ⟨h.1.trans s1.fnEnable_securing_kept.1, s1.fnEnable_securing_kept.2.trans h.2⟩
  · exact h

/-- A domain that comes up: its state, the securing engine of the Keeper, and the answers to the resets that waited. -/
theorem State.domUp_keeper (s : State) :
    SameRegs s (s.domUp .keeper) ((.aoiDomainsKeeper, 0) :: riseRegs) ∧ (s.domUp .keeper).boot = s.boot ∧
      (s.domUp .keeper).rf .aoiDomainsKeeper 0 = 0 := by
  unfold State.domUp
  extract_lets i s1
  let u := (s.setDom .keeper 0).setDomInfo .keeper { i with cids := [] }
  have hu : SameRegs s u [(.aoiDomainsKeeper, 0)] := s.sameRegs_put 0 List.mem_cons_self
  have hzero : u.rf .aoiDomainsKeeper 0 = 0 := s.rf_put_same _ _ _
  obtain ⟨hr, hb⟩ := u.fnRestart_securing_kept
  obtain ⟨hr', hb'⟩ := s1.respond_fold_kept i.cids
  have hrise := hr.trans hr'
  exact ⟨(hu.mono (by simp)).trans (hrise.mono (fun _ hx => List.mem_cons_of_mem _ hx)), hb'.trans hb,
    (hrise _ _ (by simp [riseRegs, creditRegs])).trans hzero⟩

theorem State.domUp_compute (s : State) :
    SameRegs s (s.domUp .compute) ((.aoiDomainsCompute, 0) :: riseRegs) ∧ (s.domUp .compute).boot = s.boot ∧
      (s.domUp .compute).rf .aoiDomainsCompute 0 = 0 := by
  unfold State.domUp
  extract_lets i s1
  have hu : SameRegs s s1 [(.aoiDomainsCompute, 0)] := s.sameRegs_put 0 List.mem_cons_self
  have hzero : s1.rf .aoiDomainsCompute 0 = 0 := s.rf_put_same _ _ _
  obtain ⟨hr, hb⟩ := s1.respond_fold_kept i.cids
  exact ⟨(hu.mono (by simp)).trans (hr.mono (fun _ hx => List.mem_cons_of_mem _ hx)), hb,
    (hr _ _ (by simp [riseRegs, creditRegs])).trans hzero⟩

theorem State.tellMolts_kept (s : State) (p : MoltSlot → Bool) :
    SameRegs s (s.tellMolts p) [(.kprHangStatusCroakDrop, 0)] ∧ (s.tellMolts p).boot = s.boot := by
  unfold State.tellMolts
  refine List.foldlRecOn _ _ (motive := fun (t : State) => SameRegs s t [(.kprHangStatusCroakDrop, 0)] ∧ t.boot = s.boot)
    ⟨.refl _ _, rfl⟩ (fun t ht n _ => ?_)
  dsimp only
  split
  · split
    · exact ⟨(ht.1.trans (.of_regs_eq _ rfl)).trans (State.sameRegs_sendMsg _ _ _ _ _ _ _),
        ((congrArg State.boot (State.sendMsg_onlyHost _ _ _ _ _ _ _)).trans rfl).trans ht.2⟩
    · exact ht
  · exact ⟨ht.1.trans (.of_regs_eq _ rfl), ht.2⟩

theorem State.recoveryStaged_none (s : State) (h : s.rf .kprHangStatusRecovery 0 = 0) : s.recoveryStaged = s := by
  simp [State.recoveryStaged, State.recState, h]

theorem State.keeperRises (s : State) :
    let t := if s.domState .keeper = 3 then s.domUp .keeper else s
    SameRegs s t ((.aoiDomainsKeeper, 0) :: riseRegs) ∧ t.boot = s.boot ∧
      t.rf .aoiDomainsKeeper 0 = if s.rf .aoiDomainsKeeper 0 = 3 then 0 else s.rf .aoiDomainsKeeper 0 := by
  by_cases h : s.domState .keeper = 3
  · have h' : s.rf .aoiDomainsKeeper 0 = 3 := h
    simpa only [h, h', if_true] using s.domUp_keeper
  · have h' : s.rf .aoiDomainsKeeper 0 ≠ 3 := h
    simp only [h, h', if_false, and_true]
    exact .refl _ _

theorem State.computeRises (s : State) (hp : s.domPending .compute ≠ 1) :
    let t := if s.domState .compute = 3 then (if s.domPending .compute = 1 then s.assertCompute else s.domUp .compute) else s
    SameRegs s t ((.aoiDomainsCompute, 0) :: riseRegs) ∧ t.boot = s.boot ∧
      t.rf .aoiDomainsCompute 0 = if s.rf .aoiDomainsCompute 0 = 3 then 0 else s.rf .aoiDomainsCompute 0 := by
  rw [if_neg hp]
  by_cases h : s.domState .compute = 3
  · have h' : s.rf .aoiDomainsCompute 0 = 3 := h
    simpa only [h, h', if_true] using s.domUp_compute
  · have h' : s.rf .aoiDomainsCompute 0 ≠ 3 := h
    simp only [h, h', if_false, and_true]
    exact .refl _ _

/-- The last part of stage 7: the Keeper and tile compute come up, with the notices of molts that wait. -/
def State.domainsRise (s : State) : State :=
  let s3 := if s.domState .keeper = 3 then s.domUp .keeper else s
  let s4 := if s3.domState .compute = 3 then (if s3.domPending .compute = 1 then s3.assertCompute else s3.domUp .compute) else s3
  (s4.tellMolts (fun m => decide (m.scope = 0))).recoveryStaged

/-- With no recovery under way no other register of bring-up moves. -/
theorem State.domainsRise_kept (s : State) (hp : s.domPending .compute ≠ 1) (hrec : s.rf .kprHangStatusRecovery 0 = 0) :
    SameRegs s s.domainsRise ((.aoiDomainsKeeper, 0) :: (.aoiDomainsCompute, 0) :: riseRegs) ∧ s.domainsRise.boot = s.boot ∧
      s.domainsRise.rf .aoiDomainsKeeper 0 = (if s.rf .aoiDomainsKeeper 0 = 3 then 0 else s.rf .aoiDomainsKeeper 0) ∧
      s.domainsRise.rf .aoiDomainsCompute 0 = if s.rf .aoiDomainsCompute 0 = 3 then 0 else s.rf .aoiDomainsCompute 0 := by
  unfold State.domainsRise
  extract_lets s3 s4
  obtain ⟨h3, hboot3, hkeeper⟩ : SameRegs s s3 _ ∧ _ := s.keeperRises
  have hp3 : s3.domPending .compute ≠ 1 := fun e => hp ((h3 _ _ (by simp [riseRegs, creditRegs])).symm.trans e)
  obtain ⟨h4, hboot4, hcompute⟩ : SameRegs s3 s4 _ ∧ _ := s3.computeRises hp3
  obtain ⟨h5, hboot5⟩ := s4.tellMolts_kept (fun m => decide (m.scope = 0))
  have hsame : SameRegs s (s4.tellMolts _) ((.aoiDomainsKeeper, 0) :: (.aoiDomainsCompute, 0) :: riseRegs) :=
    ((h3.mono (by simp +contextual)).trans (h4.mono (by simp +contextual))).trans (h5.mono (by simp [riseRegs]))
  have hcompute3 : s3.rf .aoiDomainsCompute 0 = s.rf .aoiDomainsCompute 0 := h3 _ _ (by simp [riseRegs, creditRegs])
  rw [hcompute3] at hcompute
  rw [State.recoveryStaged_none _ ((hsame _ _ (by simp [riseRegs, creditRegs])).trans hrec)]
  exact ⟨hsame, hboot5.trans (hboot4.trans hboot3),
    ((h5 _ _ (by simp)).trans (h4 _ _ (by simp [riseRegs, creditRegs]))).trans hkeeper, (h5 _ _ (by simp)).trans hcompute⟩

/-- With no reset waiting, stage 7 reports and sets READY before the domains come up. -/
theorem State.stage7_noReset (s : State) (hq : s.NoResetWaits) :
    ∃ u : State, s.stage7 = u.domainsRise ∧ u.rf .kprBringupStatusReady 0 = 1 ∧ u.rf .kprBringupStatusBusy 0 = 0 ∧ u.boot.full = false ∧
      SameRegs s u ((.kprBringupStatusReady, 0) :: (.kprBringupStatusBusy, 0) :: reportRegs 7) := by
  unfold State.stage7
  extract_lets s1
  have h1 : SameRegs s s1 ((.kprBringupStatusBusy, 0) :: reportRegs 7) :=
    (((s.sameRegs_stageReport 7 false 0 0).mono (fun _ hx => List.mem_cons_of_mem _ hx)).put 0 List.mem_cons_self).put _
      (by simp [reportRegs])
  have hq1 : s1.NoResetWaits := hq.of_sameRegs h1 (by simp [reportRegs]) (by simp [reportRegs])
  have hbusy : s1.rf .kprBringupStatusBusy 0 = 0 := (State.rf_put_field _ _ _ _ _ _ (by decide)).trans (State.rf_put_same _ _ _ _)
  rw [hq1.pendingReset]
  exact ⟨({ s1 with boot := { s1.boot with full := false } } : State).put .kprBringupStatusReady 0 1, rfl, State.rf_put_same _ _ _ _, (State.rf_put_field _ _ _ _ _ _ (by decide)).trans hbusy, rfl,
    ((h1.trans (.of_regs_eq _ rfl)).mono (fun _ hx => List.mem_cons_of_mem _ hx)).put 1 List.mem_cons_self⟩

theorem State.stage7_ready (s : State) (hq : s.NoResetWaits) (hrec : s.rf .kprHangStatusRecovery 0 = 0) :
    s.stage7.rf .kprBringupStatusReady 0 = 1 ∧ s.stage7.rf .kprBringupStatusBusy 0 = 0 ∧ s.stage7.boot.full = false ∧
      s.stage7.rf .aoiDomainsKeeper 0 = (if s.rf .aoiDomainsKeeper 0 = 3 then 0 else s.rf .aoiDomainsKeeper 0) ∧
      s.stage7.rf .aoiDomainsCompute 0 = if s.rf .aoiDomainsCompute 0 = 3 then 0 else s.rf .aoiDomainsCompute 0 := by
  obtain ⟨u, hu, hready, hbusy, hfull, hsame⟩ := s.stage7_noReset hq
  have hkeeper0 : u.rf .aoiDomainsKeeper 0 = s.rf .aoiDomainsKeeper 0 := hsame _ _ (by simp [reportRegs])
  have hcompute0 : u.rf .aoiDomainsCompute 0 = s.rf .aoiDomainsCompute 0 := hsame _ _ (by simp [reportRegs])
  have hqu : u.NoResetWaits := hq.of_sameRegs hsame (by simp [reportRegs]) (by simp [reportRegs])
  obtain ⟨h, hboot, hkeeper, hcompute⟩ := u.domainsRise_kept hqu.2 ((hsame _ _ (by simp [reportRegs])).trans hrec)
  rw [hkeeper0] at hkeeper
  rw [hcompute0] at hcompute
  rw [hu]
  exact ⟨(h _ _ (by simp [riseRegs, creditRegs])).trans hready, (h _ _ (by simp [riseRegs, creditRegs])).trans hbusy,
    (congrArg Boot.full hboot).trans hfull, hkeeper, hcompute⟩

/-! ### The overrun of a stage -/

/-- Every stage with a bound is one of the first six. -/
theorem State.stageBound_le (s : State) {n b : Nat} (h : s.stageBound n = some b) : n ≤ 6 := by
  unfold State.stageBound at h
  split at h
  case h_7 => exact absurd h (by simp)
  all_goals omega

/-- The begin of the stage anew leaves it running, its overrun noted. -/
theorem State.stageAgain_runs (s : State) {n : Nat} (h : n ≤ 6) : (s.stageAgain n).AtStage n ∧ (s.stageAgain n).boot.overran = true :=
  ⟨State.beginStage_atStage _ n (by omega), rfl⟩

theorem State.stageLate_inTime (s : State) {b : Nat} (hb : s.stageBound (s.rf .kprBringupStatusStage 0) = some b) (h : s.stageTicks < 2 * b) :
    s.stageLate = s := by
  unfold State.stageLate
  extract_lets n
  rw [show s.stageBound n = some b from hb]
  cases s.stageOn n
  · rfl
  · exact if_neg (Nat.not_le.mpr h)

theorem State.stageLate_unbounded (s : State) (h : s.stageBound (s.rf .kprBringupStatusStage 0) = none) : s.stageLate = s := by
  unfold State.stageLate
  extract_lets n
  rw [show s.stageBound n = none from h]
  cases s.stageOn n <;> rfl

theorem State.stageLate_halts (s : State) {n b : Nat} (hn : s.rf .kprBringupStatusStage 0 = n) (hon : s.stageOn n = true)
    (hb : s.stageBound n = some b) (h : 2 * b ≤ s.stageTicks) (ho : s.boot.overran = true) :
    s.stageLate.HaltedWith 0x70 ∧ s.stageLate.rf .kprBringupStatusStage 0 = n := by
  have he : s.stageLate = s.stageHalt n 0x70 b := by
    simp only [State.stageLate, hn, hon, hb, h, ho, if_true]
  rw [he, ← hn]
  exact s.stageHalt_halted _ _ _ (by decide)

theorem State.stageLate_begins (s : State) {n b : Nat} (hn : s.rf .kprBringupStatusStage 0 = n) (hon : s.stageOn n = true)
    (hb : s.stageBound n = some b) (h : 2 * b ≤ s.stageTicks) (ho : s.boot.overran = false) :
    s.stageLate.AtStage n ∧ s.stageLate.boot.overran = true := by
  unfold State.stageLate
  extract_lets n'
  rw [show n' = n from hn, hon, hb]
  simp only [h, if_true, ho, Bool.false_eq_true, if_false]
  exact State.stageAgain_runs _ (s.stageBound_le hb)

/-- Settles O52: the end of a stage is its report and the begin of the next, and a halt or the begin anew writes the status registers last. -/
theorem lateStagesOfBringUp : Obligations.LateStagesOfBringUp := by
  unfold Obligations.LateStagesOfBringUp
  intro s fails lanes trained b _ _ _ u w n
  refine ⟨fun hon hq => ?_, fun hon hd => ?_, fun hon hd hfull => ?_, fun hon hd hroom hroomw hdrop hk hc => ?_, fun hon hh => ?_,
    fun hon ht => ?_, fun hon ht hq hp => ?_, fun ht => ?_, fun hon hq hrec => ?_, fun hon => ?_, fun hon => ?_, fun hon => ?_,
    fun hon hb => ⟨fun h => ?_, fun h ho => ?_, fun h ho => ?_⟩, fun hb => ?_⟩
  · exact .of_next (congrArg Host.Outcome.next (if_pos hon)) (s.stage4_ends fails lanes hq)
  · exact .of_next (congrArg Host.Outcome.next (if_pos hon)) (s.stage5_disputed hd)
  · refine .of_next (congrArg Host.Outcome.next (if_pos hon)) ?_
    rw [s.stage5_settled hd]
    exact State.stage5Rest_full _ hfull
  · refine .of_next (congrArg Host.Outcome.next (if_pos hon)) ?_
    rw [s.stage5_settled hd]
    exact State.stage5Rest_ends _ hroom hroomw hdrop ⟨hk, hc⟩
  · exact congrArg Host.Outcome.next ((if_neg (by simp [hon])).trans (s.haltAnswered_unhalted hh))
  · exact .of_next (congrArg Host.Outcome.next (if_pos (by simp [hon, ht]))) (s.stage6_trained trained)
  · exact .of_next rfl (s.discovered_silent hon ht hq hp)
  · exact congrArg Host.Outcome.next (s.discovered_untrained ht)
  · exact .of_next (congrArg Host.Outcome.next (if_pos hon)) (s.stage7_ready hq hrec)
  · exact congrArg Host.Outcome.next (if_neg (by simp [hon]))
  · exact congrArg Host.Outcome.next (if_neg (by simp [hon]))
  · exact congrArg Host.Outcome.next (if_neg (by simp [hon]))
  · exact congrArg Host.Outcome.next (s.stageLate_inTime hb h)
  · exact .of_next rfl (s.stageLate_halts rfl hon hb h ho)
  · exact .of_next rfl (s.stageLate_begins rfl hon hb h ho)
  · exact congrArg Host.Outcome.next (s.stageLate_unbounded hb)

end Sys2Proof.Machine
end

section
/-! Records with a CRC-16 (R12, R82), events with room in their slice (R264), and what commands of one tile or one field leave alone. -/

namespace Sys2Proof.Machine

/-! ### Packed records and their check -/

theorem bits_pack_skip {lo w lo' w' : Nat} (v : Nat) (l : List (Nat × Nat × Nat)) (h : lo' + w' ≤ lo ∨ lo + w ≤ lo') :
    bits (pack ((lo', w', v) :: l)) lo w = bits (pack l) lo w := by
  rw [pack, bits_or, bits_field_apart v h, Nat.zero_or]

theorem bits_pack_head (lo w v : Nat) (l : List (Nat × Nat × Nat)) (h : ∀ e ∈ l, e.1 + e.2.1 ≤ lo ∨ lo + w ≤ e.1) :
    bits (pack ((lo, w, v) :: l)) lo w = v % 2 ^ w := bits_pack_field [] l lo w v h

theorem pack_lt_two_pow {n : Nat} (l : List (Nat × Nat × Nat)) (h : ∀ e ∈ l, e.1 + e.2.1 ≤ n) : pack l < 2 ^ n := by
  induction l with
  | nil => exact Nat.two_pow_pos n
  | cons e l ih =>
    obtain ⟨lo, w, v⟩ := e
    have hle : lo + w ≤ n := h _ List.mem_cons_self
    have hhead : (v % 2 ^ w) <<< lo < 2 ^ (w + lo) := Nat.shiftLeft_lt (Nat.mod_lt _ (Nat.two_pow_pos w))
    exact Nat.or_lt_two_pow (hhead.trans_le (Nat.pow_le_pow_right (by omega) (by omega)))
      (ih fun e he => h e (List.mem_cons_of_mem _ he))

theorem crc16Bit_lt (n : Nat) {c : Nat} (h : c < 2 ^ 16) : crc16Bit n c < 2 ^ 16 := by
  induction n generalizing c with
  | zero => exact h
  | succ n ih =>
    refine ih ?_
    split <;> exact Nat.mod_lt _ (by decide)

/-- A step of eight bits cuts to 16 bits whatever went in. -/
theorem crc16Bit_succ_lt (n c : Nat) : crc16Bit (n + 1) c < 2 ^ 16 := by
  refine crc16Bit_lt n ?_
  split <;> exact Nat.mod_lt _ (by decide)

theorem crc16_lt (bs : List Nat) : crc16 bs < 2 ^ 16 := by
  obtain rfl | ⟨l, b, rfl⟩ := bs.eq_nil_or_concat
  · decide
  · rw [crc16, List.concat_eq_append, List.foldl_append]
    exact crc16Bit_succ_lt 7 _

theorem bytesOf_withCrc16 (n v : Nat) : bytesOf (withCrc16 n v) 0 n = bytesOf v 0 n := by
  refine List.ext_getElem (by rw [bytesOf_length, bytesOf_length]) fun k hk hk' => ?_
  rw [bytesOf_get, bytesOf_get]
  rw [bytesOf_length] at hk
  exact bits_withCrc16 n v (by omega)

theorem bits_withCrc16_check {n v : Nat} (h : v < 2 ^ (8 * n)) : bits (withCrc16 n v) (8 * n) 16 = crc16 (bytesOf v 0 n) := by
  have hv : bits v (8 * n) 16 = 0 := by rw [bits, Nat.shiftRight_eq_div_pow, Nat.div_eq_of_lt h, Nat.zero_mod]
  have hc := bits_field_same (crc16 (bytesOf v 0 n)) (8 * n) 16
  rw [Nat.mod_eq_of_lt (crc16_lt _)] at hc
  rw [withCrc16, bits_or, hv, hc, Nat.zero_or]

/-- A record of VERSION 1 with its check formed is good. -/
theorem recordOk_withCrc16 {n v : Nat} (hn : 0 < n) (h : v < 2 ^ (8 * n)) (hver : bits v 0 4 = 1) : recordOk (withCrc16 n v) n = true := by
  have hcrc : crc16 (bytesOf (withCrc16 n v) 0 n) = bits (withCrc16 n v) (8 * n) 16 := by rw [bytesOf_withCrc16, bits_withCrc16_check h]
  have hversion : bits (withCrc16 n v) 0 4 = 1 := (bits_withCrc16 n v (by omega)).trans hver
  rw [recordOk, hcrc, hversion]
  simp

/-! ### Counters and events -/

theorem State.bump_eq_put {s : State} {F : RF} {i : Nat} (G : RF) (j m : Nat) (h : s.rf F i + 1 < 2 ^ F.spec.width) :
    s.bump F i G j m = s.put F i (s.rf F i + 1) := if_pos h

/-- A counter and its gecko bit are all that a count can change. -/
theorem State.bump_onlyRegs (s : State) (F : RF) (i : Nat) (G : RF) (j m : Nat) : OnlyRegs s (s.bump F i G j m) [(F, i), (G, j)] := by
  rw [State.bump, State.bumpBy]
  split
  · exact ⟨rfl, s.sameRegs_put _ (by simp)⟩
  · exact ⟨rfl, (s.sameRegs_put _ (by simp)).put _ (by simp)⟩

/-- The count itself, short of saturation. -/
theorem State.bump_counts {s : State} {F : RF} {i : Nat} (G : RF) (j m : Nat) (h : s.rf F i + 1 < 2 ^ F.spec.width) :
    (s.bump F i G j m).rf F i = s.rf F i + 1 := by
  rw [State.bump_eq_put G j m h, State.rf_put_same, Nat.mod_eq_of_lt h]

theorem locField_locTile (t : Nat) : locField (locTile t) = some (tileField t) := by
  have hne : locTile t ≠ 0 := by unfold locTile; omega
  have hdiv : locTile t / 2 ^ 20 = tileField t := by unfold locTile; omega
  rw [locField, if_neg hne, hdiv]

/-- A slice that this event does not fill takes it, and nothing else changes. -/
theorem State.sample_of_room {s : State} {loc f : Nat} (hf : locField loc = some f) (hroom : s.sliceDepth f < 511) (cls : Nat)
    (acts : List EvAct) : s.sample cls loc acts = { s with events := s.events ++ [⟨cls, loc, s.now, acts⟩] } := by
  unfold State.sample
  rw [hf]
  simp only [if_pos (show s.sliceDepth f < 512 by omega), if_neg (show s.sliceDepth f + 1 ≠ 512 by omega)]

/-! ### One tile, one field -/

theorem State.sameTiles_setTile (s : State) (k : Nat) (x : Tile) : SameTiles s (s.setTile k x) k :=
  fun j hj => s.tile_setTile_other k j x hj

theorem State.sameFields_setField (s : State) (f : Nat) (x : FieldSt) : SameFields s (s.setField f x) f :=
  fun j hj => s.field_setField_other f j x hj

theorem onTile_next {k : Nat} (hk : tileOk k = true) (s t : State) : onTile k s t = .next t := if_pos hk

theorem lt_of_tileOk {k : Nat} (hk : tileOk k = true) : k < 2 ^ 19 := by
  simp only [tileOk, Bool.and_eq_true, decide_eq_true_eq] at hk
  obtain ⟨⟨hlt, -⟩, -⟩ := hk
  exact hlt

/-- A command of a valid tile completes with what holds of the state that it leaves. -/
theorem Completes.of_onTile {i : Instr} {s t : State} {k : Nat} {P : State → Prop} (hk : tileOk k = true) (hi : exec i s = onTile k s t)
    (hP : P t) : Completes (exec i s) P := .of_next (hi.trans (onTile_next hk s t)) hP

/-- One field written with a value that it holds whole. -/
theorem State.put_sets (s : State) (F : RF) (i : Nat) {v : Nat} (h : v < 2 ^ F.spec.width) :
    OnlyRegs s (s.put F i v) [(F, i)] ∧ (s.put F i v).rf F i = v :=
  ⟨s.onlyRegs_put F i v, (s.rf_put_same F i v).trans (Nat.mod_eq_of_lt h)⟩

end Sys2Proof.Machine
end

section
/-! The taps of tiles and the windows of fields (03_checksum_taps.md R83, R88 to R95). -/

namespace Sys2Proof.Machine

/-! ### The transition table of R88 -/

/-- Tap `k` has entered STARTING: the row of R88 from OFF. -/
def TapStarted (s t : State) (k : Nat) : Prop :=
  t = { s with tiles := t.tiles, regs := t.regs } ∧ SameTiles s t k ∧
    SameRegs s t [(.tsnTapCtrlState, k), (.tsnTapCtrlEnablePending, k)] ∧ t.rf .tsnTapCtrlState k = 1 ∧
    t.rf .tsnTapCtrlEnablePending k = 0 ∧ (t.tile k).tapStartAt = s.now ∧
    ((s.tile k).lfsr = 0 → (t.tile k).lfsr = lfsrStart k (s.rf .kprTapSeedActiveSeed 0))

/-- A tile's record changed and then one of its registers, as the rows of R88 do. -/
theorem State.setTile_put_sets (s : State) (k : Nat) (x : Tile) (F : RF) {v : Nat} (h : v < 2 ^ F.spec.width) :
    let t := (s.setTile k x).put F k v
    t = { s with tiles := t.tiles, regs := t.regs } ∧ SameTiles s t k ∧ SameRegs s t [(F, k)] ∧ t.rf F k = v ∧ t.tile k = x := by
  obtain ⟨⟨-, hregs⟩, hval⟩ := (s.setTile k x).put_sets F k h
  exact ⟨rfl, s.sameTiles_setTile k x, hregs, hval, s.tile_setTile_same k x⟩

/-- The same with a second register, a bit that is cleared. -/
theorem State.setTile_put_clears (s : State) (k : Nat) (x : Tile) (F G : RF) {v : Nat} (h : v < 2 ^ F.spec.width) (hFG : F ≠ G) :
    let t := ((s.setTile k x).put F k v).put G k 0
    t = { s with tiles := t.tiles, regs := t.regs } ∧ SameTiles s t k ∧ SameRegs s t [(F, k), (G, k)] ∧ t.rf F k = v ∧ t.rf G k = 0 ∧
      t.tile k = x := by
  obtain ⟨-, htiles, hregs, hval, htile⟩ := s.setTile_put_sets k x F h
  refine ⟨rfl, htiles, (hregs.mono (by simp)).put 0 (by simp), ?_, ?_, htile⟩
  · exact (State.rf_put_field _ G F k k 0 hFG.symm).trans hval
  · exact (State.rf_put_same _ G k 0).trans (Nat.zero_mod _)

theorem State.tapStart_started (s : State) (k : Nat) : TapStarted s (s.tapStart k) k := by
  obtain ⟨heq, htiles, hregs, hstate, hpend, htile⟩ := s.setTile_put_clears k
    { s.tile k with
      lfsr := if (s.tile k).lfsr = 0 then lfsrStart k (s.rf .kprTapSeedActiveSeed 0) else (s.tile k).lfsr
      tapStartAt := s.now, drained := false, tapNever := false }
    .tsnTapCtrlState .tsnTapCtrlEnablePending (v := 1) (by decide) (by decide)
  exact ⟨heq, htiles, hregs, hstate, hpend, congrArg Tile.tapStartAt htile, fun h => (congrArg Tile.lfsr htile).trans (if_pos h)⟩

theorem State.tapEnableEv_off {s : State} {k : Nat} (h : s.rf .tsnTapCtrlState k = 0) (hn : (s.tile k).tapOffAt + 1 ≤ s.now) :
    s.tapEnableEv k = s.tapStart k := by
  simp only [State.tapEnableEv, h]
  exact if_pos (show 1 ≤ s.now - (s.tile k).tapOffAt by omega)

theorem State.tapEnableEv_tooSoon {s : State} {k : Nat} (h : s.rf .tsnTapCtrlState k = 0) (hn : s.now < (s.tile k).tapOffAt + 1) :
    s.tapEnableEv k = s.put .tsnTapCtrlEnablePending k 1 := by
  simp only [State.tapEnableEv, h]
  exact if_neg (show ¬ 1 ≤ s.now - (s.tile k).tapOffAt by omega)

/-- TAP_ENABLE of a tap that is requested on and may start is an Enable event. -/
theorem exec_tapEnable_event {s : State} {k : Nat} (hk : tileOk k = true) (hw : s.tapWanted k = true) (hm : s.tapMayStart k = true) :
    exec (.tapEnable k) s = .next (s.tapEnableEv k) := by
  change onTile k s (if s.tapWanted k && s.tapMayStart k then s.tapEnableEv k else s) = _
  rw [onTile_next hk, hw, hm]
  rfl

theorem exec_tapEnable_waits {s : State} {k : Nat} (hk : tileOk k = true) (hm : s.tapMayStart k = false) :
    exec (.tapEnable k) s = .next s := by
  change onTile k s (if s.tapWanted k && s.tapMayStart k then s.tapEnableEv k else s) = _
  rw [onTile_next hk, hm, Bool.and_false]
  rfl

/-- TAP_DISABLE of a tap that is requested off is a Disable event. -/
theorem exec_tapDisable_event {s : State} {k : Nat} (hk : tileOk k = true) (hw : s.tapWanted k = false) :
    exec (.tapDisable k) s = .next (s.tapDisableEv k) := by
  change onTile k s (if s.tapWanted k then s else s.tapDisableEv k) = _
  rw [onTile_next hk, hw]
  rfl

/-- A row of R88 that writes one register of the tap. -/
theorem Completes.of_put {o : Host.Outcome State Fault Refusal} {s t : State} {F : RF} {i v : Nat} (ho : o = .next t) (ht : t = s.put F i v)
    (hv : v < 2 ^ F.spec.width) : Completes o (fun u => OnlyRegs s u [(F, i)] ∧ u.rf F i = v) :=
  .of_next ho (ht ▸ s.put_sets F i hv)

theorem tapEnable_rows {s : State} {k : Nat} (hk : tileOk k = true) (hw : s.tapWanted k = true) (hm : s.tapMayStart k = true) :
    (s.rf .tsnTapCtrlState k = 0 → (s.tile k).tapOffAt + 1 ≤ s.now → Completes (exec (.tapEnable k) s) (TapStarted s · k)) ∧
    (s.rf .tsnTapCtrlState k = 0 → s.now < (s.tile k).tapOffAt + 1 → Completes (exec (.tapEnable k) s) (fun t =>
      OnlyRegs s t [(.tsnTapCtrlEnablePending, k)] ∧ t.rf .tsnTapCtrlEnablePending k = 1)) ∧
    (s.rf .tsnTapCtrlState k = 1 → Completes (exec (.tapEnable k) s) (fun t =>
      OnlyRegs s t [(.tsnTapCtrlDisablePending, k)] ∧ t.rf .tsnTapCtrlDisablePending k = 0)) ∧
    (s.rf .tsnTapCtrlState k = 2 → exec (.tapEnable k) s = .next s) ∧
    (s.rf .tsnTapCtrlState k = 3 → Completes (exec (.tapEnable k) s) (fun t =>
      OnlyRegs s t [(.tsnTapCtrlEnablePending, k)] ∧ t.rf .tsnTapCtrlEnablePending k = 1)) := by
  have hev := exec_tapEnable_event hk hw hm
  refine ⟨fun h hn => ?off, fun h hn => ?tooSoon, fun h => ?starting, fun h => ?on, fun h => ?draining⟩
  case off => exact .of_next (hev.trans (congrArg _ (State.tapEnableEv_off h hn))) (s.tapStart_started k)
  case tooSoon => exact .of_put hev (State.tapEnableEv_tooSoon h hn) (by decide)
  case starting => exact .of_put hev (by simp only [State.tapEnableEv, h]) (by decide)
  case on => exact hev.trans (by simp only [State.tapEnableEv, h])
  case draining => exact .of_put hev (by simp only [State.tapEnableEv, h]) (by decide)

theorem tapDisable_rows {s : State} {k : Nat} (hk : tileOk k = true) (hw : s.tapWanted k = false) :
    (s.rf .tsnTapCtrlState k = 0 → Completes (exec (.tapDisable k) s) (fun t =>
      OnlyRegs s t [(.tsnTapCtrlEnablePending, k)] ∧ t.rf .tsnTapCtrlEnablePending k = 0)) ∧
    (s.rf .tsnTapCtrlState k = 1 → Completes (exec (.tapDisable k) s) (fun t =>
      OnlyRegs s t [(.tsnTapCtrlDisablePending, k)] ∧ t.rf .tsnTapCtrlDisablePending k = 1)) ∧
    (s.rf .tsnTapCtrlState k = 2 → Completes (exec (.tapDisable k) s) (fun t =>
      OnlyRegs s t [(.tsnTapCtrlState, k)] ∧ t.rf .tsnTapCtrlState k = 3)) ∧
    (s.rf .tsnTapCtrlState k = 3 → Completes (exec (.tapDisable k) s) (fun t =>
      OnlyRegs s t [(.tsnTapCtrlEnablePending, k)] ∧ t.rf .tsnTapCtrlEnablePending k = 0)) := by
  have hev := exec_tapDisable_event hk hw
  refine ⟨fun h => ?off, fun h => ?starting, fun h => ?on, fun h => ?draining⟩
  all_goals exact .of_put hev (by simp only [State.tapDisableEv, h]) (by decide)

theorem State.cyclesPassed_eq_true {s : State} {since cycles : Nat} (h : cycles ≤ (s.now + 1 - since) * s.clock) :
    s.cyclesPassed since cycles = true := decide_eq_true h

theorem tapStartDone_on {s : State} {k : Nat} (hk : tileOk k = true) (h : s.rf .tsnTapCtrlState k = 1)
    (hc : 128 ≤ (s.now + 1 - (s.tile k).tapStartAt) * s.clock) (hd : s.rf .tsnTapCtrlDisablePending k ≠ 1) :
    exec (.tapStartDone k) s =
      .next ((s.setTile k { s.tile k with tapSeq := 0, drained := false }).put .tsnTapCtrlState k 2) :=
  (onTile_next hk s _).trans (congrArg _ ((if_pos ⟨h, State.cyclesPassed_eq_true hc⟩).trans (if_neg hd)))

theorem tapStartDone_draining {s : State} {k : Nat} (hk : tileOk k = true) (h : s.rf .tsnTapCtrlState k = 1)
    (hc : 128 ≤ (s.now + 1 - (s.tile k).tapStartAt) * s.clock) (hd : s.rf .tsnTapCtrlDisablePending k = 1) :
    exec (.tapStartDone k) s =
      .next (((s.setTile k { s.tile k with tapNever := true }).put .tsnTapCtrlState k 3).put .tsnTapCtrlDisablePending k 0) :=
  (onTile_next hk s _).trans (congrArg _ ((if_pos ⟨h, State.cyclesPassed_eq_true hc⟩).trans (if_pos hd)))

/-! ### The end of a hold period (R83) -/

/-- A TYPE 2 record: its type, its COUNT and its check. -/
theorem bits_tapRecordAs_type (rec ty cnt : Nat) : bits (tapRecordAs rec ty cnt) 4 4 = ty % 2 ^ 4 := by
  rw [tapRecordAs, bits_withCrc16 _ _ (by decide), bits_pack_skip _ _ (by decide), bits_pack_head _ _ _ _ (by simp)]

theorem bits_tapRecordAs_count (rec ty cnt : Nat) : bits (tapRecordAs rec ty cnt) 224 16 = cnt % 2 ^ 16 := by
  rw [tapRecordAs, bits_withCrc16 _ _ (by decide), bits_pack_skip _ _ (by decide), bits_pack_skip _ _ (by decide),
    bits_pack_skip _ _ (by decide), bits_pack_head _ _ _ _ (by simp)]

theorem recordOk_tapRecordAs (rec ty cnt : Nat) : recordOk (tapRecordAs rec ty cnt) 30 = true :=
  recordOk_withCrc16 (by decide) (pack_lt_two_pow _ (by simp)) (bits_pack_head 0 4 1 _ (by simp))

theorem State.tapHoldEnd_quiet {s : State} {k h : Nat} (hh : (s.tile k).holdFrom = some h) (hc : 65536 ≤ (s.now + 1 - h) * s.clock)
    (hn : (s.tile k).held = 0) : s.tapHoldEnd k = s.setTile k { s.tile k with holdFrom := none, heldInfo := 0 } := by
  simp only [State.tapHoldEnd, hh, State.cyclesPassed_eq_true hc, hn, if_true, Nat.lt_irrefl, if_false]

theorem State.tapHoldEnd_reports {s : State} {k h : Nat} (hh : (s.tile k).holdFrom = some h) (hc : 65536 ≤ (s.now + 1 - h) * s.clock)
    (hn : 0 < (s.tile k).held) : s.tapHoldEnd k =
      (s.setTile k { s.tile k with holdFrom := some s.now, held := 0 }).sendRecord k (tapRecordAs (s.tile k).heldInfo 2 (s.tile k).held) := by
  simp only [State.tapHoldEnd, hh, State.cyclesPassed_eq_true hc, hn, if_true]

theorem State.tapHoldEnd_sends {s : State} {k h : Nat} (hh : (s.tile k).holdFrom = some h) (hc : 65536 ≤ (s.now + 1 - h) * s.clock)
    (hn : 0 < (s.tile k).held) :
    SameTiles s (s.tapHoldEnd k) k ∧ ((s.tapHoldEnd k).tile k).held = 0 ∧ ((s.tapHoldEnd k).tile k).holdFrom = some s.now ∧
      SameRegs s (s.tapHoldEnd k) [] ∧ ∃ r, (s.tapHoldEnd k).out = .record k r :: s.out ∧ bits r 4 4 = 2 ∧
        bits r 224 16 = (s.tile k).held % 2 ^ 16 ∧ recordOk r 30 = true := by
  rw [State.tapHoldEnd_reports hh hc hn]
  have htile := s.tile_setTile_same k { s.tile k with holdFrom := some s.now, held := 0 }
  exact ⟨s.sameTiles_setTile k _, congrArg Tile.held htile, congrArg Tile.holdFrom htile, .of_regs_eq _ rfl, _, rfl,
    bits_tapRecordAs_type _ _ _, bits_tapRecordAs_count _ _ _, recordOk_tapRecordAs _ _ _⟩

/-! ### The rotation window (R90, R95) -/

/-- An advance of the window of a field with tiles in service. -/
theorem State.windowAdvance_advances (s : State) {f : Nat} (h : 0 < s.inService f) :
    let t := s.windowAdvance f
    t = { s with fields := t.fields, regs := t.regs } ∧ SameFields s t f ∧ SameRegs s t [(.fstTapStatusWindowStart, f)] ∧
      t.rf .fstTapStatusWindowStart f =
        (s.rf .fstTapStatusWindowStart f + (s.field f).tapN) % s.inService f % 2 ^ RF.fstTapStatusWindowStart.spec.width ∧
      t.field f = { s.field f with tapAdvAt := s.now, tapWas := (s.rf .fstTapStatusWindowStart f, (s.field f).tapN) } := by
  refine ⟨rfl, State.sameFields_setField _ f _, s.sameRegs_put _ (List.mem_singleton.mpr rfl), ?_, State.field_setField_same _ f _⟩
  rw [State.windowAdvance, State.setField_rf, State.rf_put_same, if_neg (by omega)]

theorem State.windowAdvance_rotNow (s : State) (f : Nat) : ((s.windowAdvance f).field f).rotNow = (s.field f).rotNow := by
  rw [State.windowAdvance, State.field_setField_same]

/-- After the tick that follows a write, the period in force is the one written. -/
theorem State.rotTick_rotNow (s : State) (f : Nat) : ((s.rotTick f).field f).rotNow = s.rotPeriod f := by
  rw [State.rotTick]
  split
  · assumption
  · have hset := congrArg FieldSt.rotNow (s.field_setField_same f { s.field f with rotNow := s.rotPeriod f })
    dsimp only
    split
    · rw [State.windowAdvance_rotNow, hset]
    · exact hset

/-! ### The allocation of taps (R89 to R91) -/

/-- Nothing but fields and registers differs. -/
def FieldsAndRegs (s t : State) : Prop := t = { s with fields := t.fields, regs := t.regs }

theorem FieldsAndRegs.trans {s t u : State} (h : FieldsAndRegs s t) (h' : FieldsAndRegs t u) : FieldsAndRegs s u := by
  rw [FieldsAndRegs, h', h]

theorem FieldsAndRegs.put {s t : State} (h : FieldsAndRegs s t) (F : RF) (i v : Nat) : FieldsAndRegs s (t.put F i v) := h.trans rfl

theorem State.setTapN_fieldsAndRegs (s : State) (n : Nat) : FieldsAndRegs s (s.setTapN n) := by
  induction n with
  | zero => rfl
  | succ n ih => exact ih.trans rfl

theorem State.setTapN_regs (s : State) (n : Nat) : (s.setTapN n).regs = s.regs := by
  induction n with
  | zero => rfl
  | succ n ih => exact ih

/-- Fields not yet reached stand as before. -/
theorem State.setTapN_field_above (s : State) {n g : Nat} (h : n ≤ g) : (s.setTapN n).field g = s.field g := by
  induction n with
  | zero => rfl
  | succ n ih => rw [State.setTapN, State.field_setField_other _ _ _ _ (by omega), ih (by omega)]

theorem State.setTapN_tapN (s : State) {n g : Nat} (h : g < n) : ((s.setTapN n).field g).tapN = s.nField g := by
  induction n with
  | zero => omega
  | succ n ih =>
    rw [State.setTapN]
    obtain rfl | hg := eq_or_ne g n
    · rw [State.field_setField_same]
    · rw [State.field_setField_other _ _ _ _ hg, ih (by omega)]

theorem State.nField_of_service {s : State} (h : 0 < s.nService) (g : Nat) :
    s.nField g = Nat.min s.nService ((s.allowanceUw - s.rsfUw) / 1500) * s.inService g / s.nService := if_neg (by omega)

/-- The registers of the coverage (R91). -/
def coverRegs : List (RF × Nat) := [(.kprTapCoverOn, 0), (.kprTapCoverFraction, 0), (.kprAllowanceRotating, 0)]

theorem State.tapRecompute_fieldsAndRegs (s : State) : FieldsAndRegs s s.tapRecompute :=
  (((s.setTapN_fieldsAndRegs 32).put _ _ _).put _ _ _).put _ _ _

theorem State.sameRegs_tapRecompute (s : State) : SameRegs s s.tapRecompute coverRegs :=
  (((SameRegs.of_regs_eq coverRegs (s.setTapN_regs 32)).put _ (by simp [coverRegs])).put _ (by simp [coverRegs])).put _
    (by simp [coverRegs])

theorem State.tapRecompute_field (s : State) (g : Nat) : s.tapRecompute.field g = (s.setTapN 32).field g := by
  rw [State.tapRecompute]
  exact (State.put_field _ _ _ _ g).trans ((State.put_field _ _ _ _ g).trans (State.put_field _ _ _ _ g))

/-! ### The settlement -/

/-- The rows of R88, each as its event. -/
theorem tapTransitions {s : State} {k : Nat} (hk : tileOk k = true) :
    (s.rf .tsnTapCtrlState k = 1 → 128 ≤ (s.now + 1 - (s.tile k).tapStartAt) * s.clock →
      (s.rf .tsnTapCtrlDisablePending k ≠ 1 → Completes (exec (.tapStartDone k) s) (fun t =>
        t = { s with tiles := t.tiles, regs := t.regs } ∧ SameTiles s t k ∧ SameRegs s t [(.tsnTapCtrlState, k)] ∧
        t.rf .tsnTapCtrlState k = 2 ∧ (t.tile k).tapSeq = 0)) ∧
      (s.rf .tsnTapCtrlDisablePending k = 1 → Completes (exec (.tapStartDone k) s) (fun t =>
        t = { s with tiles := t.tiles, regs := t.regs } ∧ SameTiles s t k ∧
        SameRegs s t [(.tsnTapCtrlState, k), (.tsnTapCtrlDisablePending, k)] ∧ t.rf .tsnTapCtrlState k = 3 ∧
        t.rf .tsnTapCtrlDisablePending k = 0 ∧ (t.tile k).tapNever = true))) ∧
    (s.rf .tsnTapCtrlState k = 3 → Completes (exec (.tapDrainDone k) s) (fun t =>
      t = { s with tiles := t.tiles, regs := t.regs } ∧ SameTiles s t k ∧ SameRegs s t [(.tsnTapCtrlState, k)] ∧
      t.rf .tsnTapCtrlState k = 0 ∧ (t.tile k).tapOffAt = s.now)) ∧
    (s.rf .tsnTapCtrlState k = 0 → s.rf .tsnTapCtrlEnablePending k = 1 → (s.tile k).tapOffAt + 1 ≤ s.now →
      Completes (exec (.tapPendingStart k) s) (TapStarted s · k)) := by
  refine ⟨fun h hc => ⟨fun hd => ?startDone, fun hd => ?disabled⟩, fun h => ?drainDone, fun h hp hn => ?pending⟩
  case startDone =>
    obtain ⟨heq, htiles, hregs, hstate, htile⟩ :=
      s.setTile_put_sets k { s.tile k with tapSeq := 0, drained := false } .tsnTapCtrlState (v := 2) (by decide)
    exact .of_next (tapStartDone_on hk h hc hd) ⟨heq, htiles, hregs, hstate, congrArg Tile.tapSeq htile⟩
  case disabled =>
    obtain ⟨heq, htiles, hregs, hstate, hpend, htile⟩ := s.setTile_put_clears k { s.tile k with tapNever := true }
      .tsnTapCtrlState .tsnTapCtrlDisablePending (v := 3) (by decide) (by decide)
    exact .of_next (tapStartDone_draining hk h hc hd) ⟨heq, htiles, hregs, hstate, hpend, congrArg Tile.tapNever htile⟩
  case drainDone =>
    obtain ⟨heq, htiles, hregs, hstate, htile⟩ :=
      s.setTile_put_sets k { s.tile k with tapOffAt := s.now, drained := false } .tsnTapCtrlState (v := 0) (by decide)
    exact .of_next ((onTile_next hk s _).trans (congrArg _ (if_pos h))) ⟨heq, htiles, hregs, hstate, congrArg Tile.tapOffAt htile⟩
  case pending => exact .of_next ((onTile_next hk s _).trans (congrArg _ (if_pos ⟨h, hp, hn⟩))) (s.tapStart_started k)

/-- Settles O11: the rows of R88 by event, then the hold period, the window and the allocation. -/
theorem tapTransitionsAndHolds : Obligations.TapTransitionsAndHolds := by
  unfold Obligations.TapTransitionsAndHolds
  refine ⟨fun s k hk => ?transitions, fun s k f h period hk => ?holds⟩
  case transitions =>
    exact ⟨fun _ hm => exec_tapEnable_waits hk hm, tapEnable_rows hk, tapDisable_rows hk, tapTransitions hk⟩
  case holds =>
    refine ⟨fun hh hc => ⟨fun hn => ?quiet, fun hn => ?reports⟩, fun hdue hon hS => ?advance, fun hall => ?still, ?write, ?inForce, ?inject,
      fun hN => ?allocation⟩
    case quiet =>
      refine .of_onTile hk rfl ?_
      rw [State.tapHoldEnd_quiet hh hc hn]
      exact ⟨rfl, s.sameTiles_setTile k _, congrArg Tile.holdFrom (s.tile_setTile_same k _)⟩
    case reports => exact .of_onTile hk rfl (State.tapHoldEnd_sends hh hc hn)
    case advance =>
      obtain ⟨heq, hfields, hregs, hstart, hfield⟩ := s.windowAdvance_advances hS
      exact .of_next (congrArg Host.Outcome.next (if_pos (decide_eq_true ⟨hdue, hon⟩)))
        ⟨heq, hfields, hregs, hstart, by rw [hfield], by rw [hfield], by rw [hfield]⟩
    case still =>
      have hnot : s.windowDue f.val = false := decide_eq_false (by omega)
      exact congrArg Host.Outcome.next (if_neg (by simp [hnot]))
    case write => exact .of_put rfl rfl period.isLt
    case inForce => exact s.rotTick_rotNow f.val
    case inject => exact .of_put (onTile_next hk s _) rfl (by decide)
    case allocation =>
      refine .of_next rfl ⟨s.tapRecompute_fieldsAndRegs, s.sameRegs_tapRecompute, fun g hg => ?_, fun g hg => ?_⟩
      · rw [s.tapRecompute_field, s.setTapN_tapN hg, State.nField_of_service hN]
      · rw [s.tapRecompute_field, s.setTapN_field_above hg]

end Sys2Proof.Machine
end

section
/-! The blocks that a tap judges and the records that it sends (03_checksum_taps.md R79 to R88). -/

namespace Sys2Proof.Machine

/-! ### Which blocks a tap judges (R79, R88) -/

theorem State.tapJudges_on {s : State} {k : Nat} (h : s.rf .tsnTapCtrlState k = 2) (b : TapBlock) : s.tapJudges k b = true := by
  simp [State.tapJudges, h]

theorem State.tapJudges_off {s : State} {k : Nat} (h : s.rf .tsnTapCtrlState k = 0 ∨ s.rf .tsnTapCtrlState k = 1) (b : TapBlock) :
    s.tapJudges k b = false := by
  obtain h | h := h <;> simp [State.tapJudges, h]

theorem State.tapJudges_draining {s : State} {k : Nat} {b : TapBlock} (h : s.rf .tsnTapCtrlState k = 3)
    (hb : (s.tile k).drained = true ∨ (s.tile k).tapNever = true ∨ b.afterOn = true) : s.tapJudges k b = false := by
  obtain hb | hb | hb := hb <;> simp [State.tapJudges, h, hb]

theorem exec_tapBlockJudge_unjudged {s : State} {k : Nat} {b : TapBlock} (hk : tileOk k = true) (h : s.tapJudges k b = false) :
    exec (.tapBlockJudge k b) s = .next s :=
  (onTile_next hk s _).trans (congrArg _ (if_neg (by simp [h])))

/-! ### A block that reaches a tap that is ON -/

/-- The tile of a tap that is ON once a block has reached it: its weights are drawn and its BLOCK_SEQ has moved on. -/
def Tile.drew (x : Tile) : Tile :=
  { x with lfsr := (lfsrWords 64 x.lfsr).getD 63 0, tapSeq := succ32 x.tapSeq, drained := false }

theorem Tile.drew_holdFrom (x : Tile) : x.drew.holdFrom = x.holdFrom := by simp only [Tile.drew]

theorem State.tapBlock_unchecked {s : State} {k : Nat} {b : TapBlock} (h : s.rf .tsnTapCtrlState k = 2) (hb : blkCase b = .unchecked) :
    s.tapBlock k b = (s.setTile k (s.tile k).drew).bump .tsnTapUncheckedUnchecked k .tsnTapCtrlUncheckedSat k 1 := by
  simp only [State.tapBlock, State.tapJudges_on h, if_true, hb, h]
  rfl

theorem State.tapBlock_special {s : State} {k : Nat} {b : TapBlock} (h : s.rf .tsnTapCtrlState k = 2) (hb : blkCase b = .special) :
    s.tapBlock k b = (s.setTile k (s.tile k).drew).tapJudged k b ⟨true, true, 0xFFFFFFFF⟩ true (s.tile k).tapSeq := by
  simp only [State.tapBlock, State.tapJudges_on h, if_true, hb, h]
  rfl

/-- The two counts of blocks judged, of the tile and of its field (R94, R96). -/
def State.countBlock (s : State) (k : Nat) : State :=
  (s.put .tsnTapBlocksBlocks k (s.rf .tsnTapBlocksBlocks k + 1)).put .fstTapBlocksBlocks (tileField k)
    (s.rf .fstTapBlocksBlocks (tileField k) + 1)

theorem State.countBlock_rf (s : State) (k i : Nat) {F : RF} (hT : .tsnTapBlocksBlocks ≠ F) (hF : .fstTapBlocksBlocks ≠ F) :
    (s.countBlock k).rf F i = s.rf F i := by
  rw [State.countBlock, State.rf_put_field _ _ _ _ _ _ hF, State.rf_put_field _ _ _ _ _ _ hT]

theorem State.countBlock_counts (s : State) (k : Nat) :
    (s.countBlock k).rf .tsnTapBlocksBlocks k = (s.rf .tsnTapBlocksBlocks k + 1) % 2 ^ RF.tsnTapBlocksBlocks.spec.width := by
  rw [State.countBlock, State.rf_put_field _ _ _ _ _ _ (by decide), State.rf_put_same]

theorem State.sameRegs_countBlock (s : State) (k : Nat) :
    SameRegs s (s.countBlock k) [(.tsnTapBlocksBlocks, k), (.fstTapBlocksBlocks, tileField k)] :=
  (s.sameRegs_put _ (by simp)).put _ (by simp)

/-- A mismatch with no error put in is counted as a block and as a mismatch, with a TYPE 1 record (R83, R92). -/
theorem State.tapJudged_mismatch {s : State} {k : Nat} (b : TapBlock) {v : TapVerdict} (special : Bool) (seq : Nat)
    (hinj : s.rf .tsnTapCtrlInject k = 0) (hv : v.unw = true) :
    s.tapJudged k b v special seq = (s.countBlock k).tapMismatch k (tapRecord (s.countBlock k) 1 k b v special seq 1) := by
  have hnot : (s.countBlock k).tapInjects k = false := by
    simp [State.tapInjects, s.countBlock_rf k k (F := .tsnTapCtrlInject) (by decide) (by decide), hinj]
  refine (if_neg (?_ : ¬ (s.countBlock k).tapInjects k = true)).trans (if_pos (?_ : (v.unw || v.wtd) = true))
  · simp [hnot]
  · simp [hv]

/-- A mismatch outside a hold period is counted, and its record sent; a hold period begins (R83). -/
theorem State.tapMismatch_sends {s : State} {k : Nat} (rec : Nat) (hh : (s.tile k).holdFrom = none)
    (hroom : s.rf .tsnTapMismatchesMismatches k + 1 < 2 ^ RF.tsnTapMismatchesMismatches.spec.width) :
    s.tapMismatch k rec = ((s.put .tsnTapMismatchesMismatches k (s.rf .tsnTapMismatchesMismatches k + 1)).setTile k
      { s.tile k with holdFrom := some s.now, held := 0, heldInfo := rec }).sendRecord k rec := by
  simp only [State.tapMismatch, State.bump_eq_put .tsnTapCtrlMismatchSat k 1 hroom, State.put_tile, hh]

/-- What that leaves: the count, the tile in its hold period, and the record on the warden channel. -/
theorem State.tapMismatch_leaves {s : State} {k : Nat} (rec : Nat) (hh : (s.tile k).holdFrom = none)
    (hroom : s.rf .tsnTapMismatchesMismatches k + 1 < 2 ^ RF.tsnTapMismatchesMismatches.spec.width) :
    let t := s.tapMismatch k rec
    SameTiles s t k ∧ SameRegs s t [(.tsnTapMismatchesMismatches, k)] ∧
      t.rf .tsnTapMismatchesMismatches k = s.rf .tsnTapMismatchesMismatches k + 1 ∧
      t.tile k = { s.tile k with holdFrom := some s.now, held := 0, heldInfo := rec } ∧ t.out = .record k rec :: s.out := by
  intro t
  have heq : t = _ := State.tapMismatch_sends rec hh hroom
  rw [heq]
  obtain ⟨⟨-, hregs⟩, hcount⟩ := s.put_sets .tsnTapMismatchesMismatches k hroom
  exact ⟨State.sameTiles_setTile _ k _, hregs, hcount, State.tile_setTile_same _ k _, rfl⟩

/-! ### The record of a block (R82) -/

theorem bits_tapRecord (s : State) (ty k : Nat) (b : TapBlock) (v : TapVerdict) (special : Bool) (seq cnt : Nat) :
    let r := tapRecord s ty k b v special seq cnt
    bits r 0 4 = 1 ∧ bits r 4 4 = ty % 2 ^ 4 ∧ bits r 28 1 = bit special % 2 ^ 1 ∧ bits r 32 19 = k % 2 ^ 19 := by
  refine ⟨?version, ?type, ?special, ?tile⟩ <;> refine (bits_withCrc16 30 _ (by decide)).trans ?_
  case version => exact bits_pack_head _ _ _ _ (by simp)
  case type => rw [bits_pack_skip _ _ (by decide), bits_pack_head _ _ _ _ (by simp)]
  case special =>
    iterate 8 rw [bits_pack_skip _ _ (by decide)]
    exact bits_pack_head _ _ _ _ (by simp)
  case tile =>
    iterate 9 rw [bits_pack_skip _ _ (by decide)]
    exact bits_pack_head _ _ _ _ (by simp)

theorem recordOk_tapRecord (s : State) (ty k : Nat) (b : TapBlock) (v : TapVerdict) (special : Bool) (seq cnt : Nat) :
    recordOk (tapRecord s ty k b v special seq cnt) 30 = true :=
  recordOk_withCrc16 (by decide) (pack_lt_two_pow _ (by simp)) (bits_pack_head 0 4 1 _ (by simp))

/-! ### A block that cannot be checked, and one with a special result -/

theorem State.tapBlock_counts_unchecked {s : State} {k : Nat} {b : TapBlock} (h : s.rf .tsnTapCtrlState k = 2)
    (hb : blkCase b = .unchecked) (hroom : s.rf .tsnTapUncheckedUnchecked k + 1 < 2 ^ RF.tsnTapUncheckedUnchecked.spec.width) :
    let t := s.tapBlock k b
    SameTiles s t k ∧ OnlyRegs { s with tiles := t.tiles } t [(.tsnTapUncheckedUnchecked, k)] ∧
      t.rf .tsnTapUncheckedUnchecked k = s.rf .tsnTapUncheckedUnchecked k + 1 ∧ (t.tile k).tapSeq = ((s.tile k).tapSeq + 1) % 2 ^ 32 := by
  intro t
  have heq : t = (s.setTile k (s.tile k).drew).put .tsnTapUncheckedUnchecked k (s.rf .tsnTapUncheckedUnchecked k + 1) :=
    (State.tapBlock_unchecked h hb).trans (State.bump_eq_put _ _ _ hroom)
  rw [heq]
  obtain ⟨hregs, hcount⟩ := (s.setTile k (s.tile k).drew).put_sets .tsnTapUncheckedUnchecked k hroom
  exact ⟨s.sameTiles_setTile k _, hregs, hcount, congrArg Tile.tapSeq (s.tile_setTile_same k _)⟩

/-- The registers that a mismatch counts in. -/
def mismatchRegs (k : Nat) : List (RF × Nat) :=
  [(.tsnTapBlocksBlocks, k), (.fstTapBlocksBlocks, tileField k), (.tsnTapMismatchesMismatches, k)]

theorem State.tapBlock_sends_special {s : State} {k : Nat} {b : TapBlock} (hk : tileOk k = true) (h : s.rf .tsnTapCtrlState k = 2)
    (hb : blkCase b = .special) (hinj : s.rf .tsnTapCtrlInject k = 0) (hh : (s.tile k).holdFrom = none)
    (hroom : s.rf .tsnTapMismatchesMismatches k + 1 < 2 ^ RF.tsnTapMismatchesMismatches.spec.width) :
    let t := s.tapBlock k b
    SameTiles s t k ∧ SameRegs s t (mismatchRegs k) ∧
      t.rf .tsnTapMismatchesMismatches k = s.rf .tsnTapMismatchesMismatches k + 1 ∧
      t.rf .tsnTapBlocksBlocks k = (s.rf .tsnTapBlocksBlocks k + 1) % 2 ^ RF.tsnTapBlocksBlocks.spec.width ∧
      (t.tile k).tapSeq = ((s.tile k).tapSeq + 1) % 2 ^ 32 ∧ (t.tile k).holdFrom = some s.now ∧
      ∃ r, t.out = .record k r :: s.out ∧ bits r 0 4 = 1 ∧ bits r 4 4 = 1 ∧ bits r 28 1 = 1 ∧ bits r 32 19 = k ∧
        recordOk r 30 = true := by
  intro t
  let u := (s.setTile k (s.tile k).drew).countBlock k
  have htile : u.tile k = (s.tile k).drew := s.tile_setTile_same k _
  have hquiet : (u.tile k).holdFrom = none := (congrArg Tile.holdFrom htile).trans ((Tile.drew_holdFrom _).trans hh)
  have hmis : u.rf .tsnTapMismatchesMismatches k = s.rf .tsnTapMismatchesMismatches k :=
    State.countBlock_rf _ k k (by decide) (by decide)
  have hcounted : SameRegs s u [(.tsnTapBlocksBlocks, k), (.fstTapBlocksBlocks, tileField k)] := State.sameRegs_countBlock _ k
  have heq : t = u.tapMismatch k (tapRecord u 1 k b ⟨true, true, 0xFFFFFFFF⟩ true (s.tile k).tapSeq 1) :=
    (State.tapBlock_special h hb).trans (State.tapJudged_mismatch b true _ hinj rfl)
  obtain ⟨htiles, hregs, hcount, hnew, hout⟩ := State.tapMismatch_leaves (s := u) (k := k)
    (tapRecord u 1 k b ⟨true, true, 0xFFFFFFFF⟩ true (s.tile k).tapSeq 1) hquiet (by rwa [hmis])
  obtain ⟨hversion, htype, hspecial, hid⟩ := bits_tapRecord u 1 k b ⟨true, true, 0xFFFFFFFF⟩ true (s.tile k).tapSeq 1
  rw [heq]
  refine ⟨fun j hj => ?others, ?regs, hcount.trans (congrArg (· + 1) hmis), ?blocks, ?seq, congrArg Tile.holdFrom hnew, _, hout, hversion,
    htype, hspecial, hid.trans (Nat.mod_eq_of_lt (lt_of_tileOk hk)), recordOk_tapRecord _ _ _ _ _ _ _ _⟩
  case others => exact (htiles j hj).trans (s.tile_setTile_other k j _ hj)
  case regs => exact (hcounted.mono (by simp [mismatchRegs])).trans (hregs.mono (by simp [mismatchRegs]))
  case blocks => exact (hregs .tsnTapBlocksBlocks k (by simp)).trans (State.countBlock_counts _ k)
  case seq => exact (congrArg Tile.tapSeq hnew).trans (congrArg Tile.tapSeq htile)

/-! ### The arrival of a record (R81, R82, R84) -/

theorem State.tapArrival_bad {s : State} {rec : Nat} (f : Nat) (h : recordOk rec 30 = false) :
    s.tapArrival f rec = s.put .fstTapFlagsRecordCrc f 1 := if_neg (by simp [h])

/-- A good record, counted and kept. -/
def State.keepRecord (s : State) (f rec : Nat) : State :=
  (s.bump .fstTapRecordsCount f .fstTapFlagsRecordSat f 1).put .fstTapLastRecord f rec

/-- The class of the event that a record brings, and what it does: that of TYPE 1 or 2 is a detection of its tile (R84). -/
def recordCls (rec : Nat) : Nat := if bits rec 4 4 = 1 ∨ bits rec 4 4 = 2 then 5 else 10

def State.recordActs (s : State) (f rec : Nat) : List EvAct :=
  if bits rec 4 4 = 1 ∨ bits rec 4 4 = 2 then
    [.detect (tileKey (bits rec 32 19)) (if bits rec 8 4 = 0 then 0x002 else 0x001) 2, .void (s.wtc + 1 - s.validDelay),
      .post 1 f (bits rec 32 19) 32 rec false]
  else [.post 1 f (bits rec 32 19) 32 rec false]

theorem State.tapArrival_good {s : State} {rec : Nat} (f : Nat) (h : recordOk rec 30 = true) :
    s.tapArrival f rec = (s.keepRecord f rec).sample (recordCls rec) (locTile (bits rec 32 19)) (s.recordActs f rec) := by
  rw [State.tapArrival, if_pos h, recordCls, State.recordActs]
  by_cases hty : bits rec 4 4 = 1 ∨ bits rec 4 4 = 2
  · simp only [if_pos hty, State.keepRecord]
  · simp only [if_neg hty, State.keepRecord]

theorem State.keepRecord_onlyRegs (s : State) (f rec : Nat) :
    OnlyRegs s (s.keepRecord f rec) [(.fstTapRecordsCount, f), (.fstTapFlagsRecordSat, f), (.fstTapLastRecord, f)] := by
  obtain ⟨honly, hregs⟩ := s.bump_onlyRegs .fstTapRecordsCount f .fstTapFlagsRecordSat f 1
  exact ⟨congrArg (fun u : State => { u with regs := (s.keepRecord f rec).regs }) honly, (hregs.mono (by simp)).put rec (by simp)⟩

theorem State.keepRecord_last (s : State) (f : Nat) {rec : Nat} (h : rec < 2 ^ 256) : (s.keepRecord f rec).rf .fstTapLastRecord f = rec :=
  (State.rf_put_same _ _ f rec).trans (Nat.mod_eq_of_lt h)

theorem State.keepRecord_count {s : State} {f : Nat} (rec : Nat)
    (h : s.rf .fstTapRecordsCount f + 1 < 2 ^ RF.fstTapRecordsCount.spec.width) :
    (s.keepRecord f rec).rf .fstTapRecordsCount f = s.rf .fstTapRecordsCount f + 1 :=
  (State.rf_put_field _ .fstTapLastRecord .fstTapRecordsCount f f rec (by decide)).trans (State.bump_counts _ _ _ h)

/-- What a good record does, where the slice of its field has room. -/
theorem State.tapArrival_keeps_and_raises {s : State} {rec : Nat} (f : Nat) (h : recordOk rec 30 = true) (hlt : rec < 2 ^ 256)
    (hroom : s.sliceDepth (tileField (bits rec 32 19)) < 511) :
    let t := s.tapArrival f rec
    SameRegs s t [(.fstTapRecordsCount, f), (.fstTapFlagsRecordSat, f), (.fstTapLastRecord, f)] ∧
      t.rf .fstTapLastRecord f = rec ∧
      (s.rf .fstTapRecordsCount f + 1 < 2 ^ RF.fstTapRecordsCount.spec.width →
        t.rf .fstTapRecordsCount f = s.rf .fstTapRecordsCount f + 1) ∧
      Raised s t (recordCls rec) (locTile (bits rec 32 19)) (s.recordActs f rec) := by
  intro t
  obtain ⟨honly, hregs⟩ := s.keepRecord_onlyRegs f rec
  have hevents : (s.keepRecord f rec).events = s.events := by rw [honly]
  have hnow : (s.keepRecord f rec).now = s.now := by rw [honly]
  have hdepth : (s.keepRecord f rec).sliceDepth (tileField (bits rec 32 19)) < 511 := by
    rw [State.sliceDepth, hevents]
    exact hroom
  have heq := (State.tapArrival_good f h).trans (State.sample_of_room (locField_locTile _) hdepth _ _)
  change t = _ at heq
  rw [heq]
  refine ⟨hregs.trans (.of_regs_eq _ rfl), s.keepRecord_last f hlt, s.keepRecord_count rec, ?_⟩
  rw [Raised, hevents, hnow]

theorem State.post_mem_recordActs (s : State) (f rec : Nat) : .post 1 f (bits rec 32 19) 32 rec false ∈ s.recordActs f rec := by
  unfold State.recordActs
  split <;> simp

theorem State.detect_mem_recordActs (s : State) (f : Nat) {rec : Nat} (h : bits rec 4 4 = 1 ∨ bits rec 4 4 = 2) :
    .detect (tileKey (bits rec 32 19)) (if bits rec 8 4 = 0 then 0x002 else 0x001) 2 ∈ s.recordActs f rec := by
  rw [State.recordActs, if_pos h]
  exact List.mem_cons_self

/-! ### The settlement -/

/-- Settles O12: the four fates of a block, then a bad and a good record. -/
theorem tapBlocksAndRecords : Obligations.TapBlocksAndRecords := by
  unfold Obligations.TapBlocksAndRecords
  refine ⟨fun s k b hk => ⟨fun h => ?idle, fun h hb => ?drained, fun h hb hroom => ?unchecked, fun h hb hinj hh hroom => ?special⟩,
    fun s f r => ⟨fun h => ?bad, fun h _ hroom => ?good⟩⟩
  case idle => exact exec_tapBlockJudge_unjudged hk (State.tapJudges_off h b)
  case drained => exact exec_tapBlockJudge_unjudged hk (State.tapJudges_draining h hb)
  case unchecked => exact .of_onTile hk rfl (State.tapBlock_counts_unchecked h hb hroom)
  case special => exact .of_onTile hk rfl (State.tapBlock_sends_special hk h hb hinj hh hroom)
  case bad => exact .of_put rfl (State.tapArrival_bad f.val h) (by decide)
  case good =>
    obtain ⟨hregs, hlast, hcount, hraised⟩ := State.tapArrival_keeps_and_raises f.val h r.isLt hroom
    exact .of_next rfl ⟨hregs, hlast, hcount, _, hraised, State.post_mem_recordActs _ _ _, State.detect_mem_recordActs _ _⟩

end Sys2Proof.Machine
end

section
/-! Armed queues, and the instructions ARM and TEST (04_shadow_replay.md R117, R118; 15_ixfold_isa.md R438, R440). -/

namespace Sys2Proof.Machine

/-! ### Entries of an armed queue -/

/-- A report or a command of one tile leaves the entries of the others. -/
theorem mem_armIn_of_ne {q : List Armed} {t : Nat} {a : Armed} (h : a.tile ≠ t) (commanded : Bool) (now : Nat) :
    a ∈ armIn q t commanded now ↔ a ∈ q := by
  cases commanded
  case true =>
    rw [armIn, if_pos rfl]
    split
    · exact Iff.rfl
    · have hne : a ≠ ⟨t, true, now, false⟩ := fun e => h (congrArg Armed.tile e)
      cases hc : a.commanded <;> simp [h, hne, hc]
  case false =>
    rw [armIn, if_neg (by decide)]
    split
    · simp only [List.mem_map]
      refine ⟨fun ⟨b, hb, e⟩ => ?_, fun ha => ⟨a, ha, if_neg h⟩⟩
      split at e
      · rename_i hbt
        exact absurd (e ▸ hbt) h
      · exact e ▸ hb
    · have hne : a ≠ ⟨t, false, now, false⟩ := fun e => h (congrArg Armed.tile e)
      simp [hne]

/-- A command leaves an entry of its tile that is commanded (R118). -/
theorem exists_commanded_armIn (q : List Armed) (t now : Nat) : ∃ a ∈ armIn q t true now, a.tile = t ∧ a.commanded = true := by
  rw [armIn, if_pos rfl]
  split
  case isTrue h => simpa using h
  case isFalse => exact ⟨⟨t, true, now, false⟩, by simp, rfl, rfl⟩

/-- A report leaves an entry of its tile that it has just made fresh (R117). -/
theorem exists_reported_armIn (q : List Armed) (t now : Nat) : ∃ a ∈ armIn q t false now, a.tile = t ∧ a.at_ = now := by
  rw [armIn, if_neg (by decide)]
  split
  case isTrue h =>
    obtain ⟨a, ha, hat⟩ := List.any_eq_true.mp h
    have hat : a.tile = t := of_decide_eq_true hat
    exact ⟨{ a with at_ := now, stale := false }, List.mem_map.mpr ⟨a, ha, if_pos hat⟩, hat, rfl⟩
  case isFalse => exact ⟨⟨t, false, now, false⟩, by simp, rfl, rfl⟩

/-- The first report of a tile enters it last. -/
theorem armIn_report_new {q : List Armed} {t : Nat} (h : ∀ a ∈ q, a.tile ≠ t) (now : Nat) :
    armIn q t false now = q ++ [⟨t, false, now, false⟩] := by
  rw [armIn, if_neg (by decide), if_neg (by simpa using h)]

/-! ### The queue of a field -/

theorem State.setArmed_field (s : State) (f : Nat) (q : List Armed) : (s.setArmed f q).field f = { s.field f with armed := q } :=
  s.field_setField_same f _

theorem State.sameFields_setArmed (s : State) (f : Nat) (q : List Armed) : SameFields s (s.setArmed f q) f := s.sameFields_setField f _

/-- The armed queue of a tile's field once the tile is armed by a command (R118). -/
theorem State.commandArm_armed (s : State) (t : Nat) :
    ((s.commandArm t).field (tileField t)).armed = armIn (s.field (tileField t)).armed t true s.now :=
  congrArg FieldSt.armed (s.setArmed_field _ _)

/-- A commanded arming (R118): its own queue alone, the tile's entry in it commanded, and those of other tiles as they were. -/
theorem State.commandArm_leaves (s : State) (t : Nat) :
    let u := s.commandArm t
    u = { s with fields := u.fields } ∧ SameFields s u (tileField t) ∧
      u.field (tileField t) = { s.field (tileField t) with armed := (u.field (tileField t)).armed } ∧
      (∀ a : Armed, a.tile ≠ t → (a ∈ (u.field (tileField t)).armed ↔ a ∈ (s.field (tileField t)).armed)) ∧
      ∃ a ∈ (u.field (tileField t)).armed, a.tile = t ∧ a.commanded = true := by
  intro u
  have hq := s.commandArm_armed t
  refine ⟨rfl, s.sameFields_setArmed _ _, ?_, ?_⟩
  · rw [hq]
    exact s.setArmed_field _ _
  · rw [hq]
    exact ⟨fun a ha => mem_armIn_of_ne ha _ _, exists_commanded_armIn _ _ _⟩

/-! ### ARM and TEST (R440) -/

theorem exec_arm (s : State) (c : Fin 68) (rd rs1 : BitVec 5) :
    exec (.arm c rd rs1) s = s.onCore c (fun t x => t.opArm c.val rd (x.getX rs1.toNat)) := rfl

theorem exec_testOperation (s : State) (c : Fin 68) (rd rs1 : BitVec 5) (mode : BitVec 2) :
    exec (.testOperation c rd rs1 mode) s = s.onCore c (fun t x =>
      if mode = 3 then t.trap c.val 1 (wordM 0x22 rd.toNat rs1.toNat 0 0 3)
      else t.opTest c.val rd (x.getX rs1.toNat) mode.toNat) := rfl

theorem notHere_of_not_mayName {c : Fin 68} {f : Nat} (h : ¬ MayName c f) : notHere c.val f = true := by
  obtain ⟨hk, hf⟩ := not_or.mp h
  simp [notHere, isKeeperCore, coreField, hf, Nat.lt_of_not_le hk]

/-- An asynchronous operation is accepted: PENDING in rd, one more operation outstanding, and the core goes on (R436). -/
theorem State.startAsync_leaves {s : State} {c : Fin 68} (h : s.ready c) (rd : BitVec 5) (o : AsyncOp) :
    let u := s.startAsync c.val rd o
    OnlyCore s u c.val ∧ XWritten (s.core c.val) (u.core c.val) rd (resultWord 1 0 0) ∧
      (u.core c.val).async = (s.core c.val).async ++ [o] ∧ (u.core c.val).pc = (s.core c.val).pc + 4 := by
  intro u
  obtain ⟨ho, hx, hy⟩ := (s.setCore c.val { s.core c.val with async := (s.core c.val).async ++ [o] }).opEnd_result c rd 0
    (status := stPending) (by simpa using State.pc_of_ready h) (by decide)
  simp only [State.core_setCore_same] at hx hy
  exact ⟨(OnlyCore.setCore s _ _).trans ho, ⟨hx.1, hx.2⟩, congrArg Core.async hy, congrArg Core.pc hy⟩

section
variable {s : State} {c : Fin 68} {rd : BitVec 5} {v : Word} (rd)

theorem State.opArm_badArg (h : tileOk v.toNat = false) : s.opArm c.val rd v = s.opEnd c.val rd stBadArg 0 0 := if_pos h

theorem State.opArm_notHere (h : tileOk v.toNat = true) (hm : ¬ MayName c (tileField v.toNat)) :
    s.opArm c.val rd v = s.opEnd c.val rd stNotHere 0 0 := by
  simp [State.opArm, h, notHere_of_not_mayName hm]

theorem State.opArm_armed (h : tileOk v.toNat = true) (hm : MayName c (tileField v.toNat)) (ha : s.armable v.toNat = true) :
    s.opArm c.val rd v =
      (s.commandArm v.toNat).opEnd c.val rd stOk 0 ((s.commandArm v.toNat).field (tileField v.toNat)).armed.length := by
  simp [State.opArm, h, notHere_of_mayName hm, ha]

theorem State.opArm_refused (h : tileOk v.toNat = true) (hm : MayName c (tileField v.toNat)) (ha : s.armable v.toNat = false) :
    s.opArm c.val rd v = s.opEnd c.val rd stRefused 0 (s.field (tileField v.toNat)).armed.length := by
  simp [State.opArm, h, notHere_of_mayName hm, ha]

variable {mode : Nat} (mode)

theorem State.opTest_busy (h : tileOk v.toNat = true) (hm : MayName c (tileField v.toNat)) (hf : 4 ≤ (s.core c.val).async.length) :
    s.opTest c.val rd v mode = s.opEnd c.val rd stBusy 0 0 := by
  simp [State.opTest, h, notHere_of_mayName hm, asyncRoom, Nat.not_lt.mpr hf]

theorem State.opTest_ordered (h : tileOk v.toNat = true) (hm : MayName c (tileField v.toNat)) (hf : (s.core c.val).async.length < 4)
    (hon : s.fnOn (.fieldSelfTest (toFin32 (tileField v.toNat))) = true) (ho : s.orderable v.toNat = true) :
    s.opTest c.val rd v mode = (s.startAsync c.val rd ⟨0x22, 13, v.toNat⟩).orderVisit v.toNat mode (.core c.val) := by
  simp [State.opTest, h, notHere_of_mayName hm, asyncRoom, hf, hon, ho]

theorem State.opTest_refused (h : tileOk v.toNat = true) (hm : MayName c (tileField v.toNat)) (hf : (s.core c.val).async.length < 4)
    (ho : (s.fnOn (.fieldSelfTest (toFin32 (tileField v.toNat))) && s.orderable v.toNat) = false) :
    s.opTest c.val rd v mode = s.opEnd c.val rd stRefused 0 0 := by
  simp only [State.opTest, h, notHere_of_mayName hm, asyncRoom, hf, ho]
  simp

end

/-- A TEST that is no reserved encoding is its operation. -/
theorem Completes.of_test {s : State} {c : Fin 68} {rd rs1 : BitVec 5} {mode : BitVec 2} {P : State → Prop} (h : s.ready c) (hm : mode ≠ 3)
    (hP : P (s.opTest c.val rd ((s.core c.val).getX rs1.toNat) mode.toNat)) : Completes (exec (.testOperation c rd rs1 mode) s) P :=
  .of_onCore (exec_testOperation s c rd rs1 mode) h (by rwa [if_neg hm])

/-- Settles O7: the four answers of ARM, then those of TEST. -/
theorem armAndTestInstructions : Obligations.ArmAndTestInstructions := by
  unfold Obligations.ArmAndTestInstructions
  refine ⟨fun s c rd rs1 k hr hv => ?arm, fun s c rd rs1 mode k hr hv hk hm => ?test⟩
  case arm =>
    subst hv
    refine ⟨fun hk => ?badArg, fun hk hm => ?notHere, fun hk hm ha => ?armed, fun hk hm ha => ?refused⟩ <;>
      refine .of_onCore (exec_arm s c rd rs1) hr ?_
    case badArg => exact State.opArm_badArg rd hk ▸ State.opEnd_status hr rd (by decide)
    case notHere => exact State.opArm_notHere rd hk hm ▸ State.opEnd_status hr rd (by decide)
    case armed =>
      obtain ⟨hu, hfields, hfield, hothers, harmed⟩ := s.commandArm_leaves ((s.core c.val).getX rs1.toNat).toNat
      rw [State.opArm_armed rd hk hm ha]
      exact ⟨_, hu, hfields, hfield, hothers, harmed, State.opEnd_result _ c rd _ (State.pc_of_ready hr) (by decide)⟩
    case refused => exact State.opArm_refused rd hk hm ha ▸ s.opEnd_result c rd _ (State.pc_of_ready hr) (by decide)
  case test =>
    subst hv
    refine ⟨fun hmode hf => ?busy, fun hmode hf hon ho => ?ordered, fun hmode hf ho => ?refused, fun hmode hh => ?reserved⟩
    case busy => exact .of_test hr hmode (State.opTest_busy rd _ hk hm hf ▸ State.opEnd_status hr rd (by decide))
    case ordered =>
      obtain ⟨hcore, hx, hasync, hpc⟩ := State.startAsync_leaves hr rd ⟨0x22, 13, ((s.core c.val).getX rs1.toNat).toNat⟩
      exact .of_test hr hmode ⟨_, hcore, hx, hasync, hpc, State.opTest_ordered rd _ hk hm hf hon ho⟩
    case refused => exact .of_test hr hmode (State.opTest_refused rd _ hk hm hf ho ▸ State.opEnd_status hr rd (by decide))
    case reserved =>
      exact ⟨_, .of_onCore (exec_testOperation s c rd rs1 mode) hr (by rw [if_pos hmode]; exact s.trap_taken c 1 _ hh)⟩

end Sys2Proof.Machine
end

section
/-! Arm reports, the ARM bit and the quota (04_shadow_replay.md R116 to R118, R129). -/

namespace Sys2Proof.Machine

/-! ### Arm reports (R116, R117) -/

/-- Exposure and what of it was checked decide, with the quota that the Sentinels last evaluated (R116). -/
theorem State.armedNow_of_exposure (s : State) (k : Nat) {v : Nat} (h : v < 2 ^ RF.tsnExposureExposure.spec.width) :
    (s.put .tsnExposureExposure k v).armedNow k =
      decide (2 ^ (s.field (tileField k)).quotaSeen ≤ v - s.rf .tsnExposureCheckedChecked k) := by
  rw [State.armedNow, State.put_field, State.rf_put_same, Nat.mod_eq_of_lt h, State.rf_put_field _ _ _ _ _ _ (by decide)]

theorem State.armedNow_of_quota (s : State) {f k : Nat} (n : Nat) (h : tileField k = f) :
    (s.setField f { s.field f with quotaSeen := n }).armedNow k =
      decide (2 ^ n ≤ s.rf .tsnExposureExposure k - s.rf .tsnExposureCheckedChecked k) := by
  rw [State.armedNow, h, State.field_setField_same]
  rfl

/-- A Sentinel reads ARMED or not, counts active cycles anew, and sends a record. -/
def State.armReported (s : State) (k : Nat) (armed : Bool) (rec : Nat) : State :=
  ((s.setTile k { s.tile k with sinceArm := 0 }).put .tsnEpCtrlArmed k (bit armed)).sendRecord k rec

theorem State.armReported_leaves (s : State) (k : Nat) (armed : Bool) (rec : Nat) :
    let t := s.armReported k armed rec
    t = { s with regs := t.regs, out := t.out, tiles := t.tiles } ∧ SameRegs s t [(.tsnEpCtrlArmed, k)] ∧ SameTiles s t k ∧
      (t.tile k).sinceArm = 0 ∧ t.rf .tsnEpCtrlArmed k = bit armed ∧ t.out = .record k rec :: s.out := by
  intro t
  obtain ⟨-, htiles, hregs, hval, htile⟩ := s.setTile_put_sets k { s.tile k with sinceArm := 0 } .tsnEpCtrlArmed (v := bit armed)
    (by cases armed <;> decide)
  exact ⟨rfl, hregs, htiles, congrArg Tile.sinceArm htile, hval, rfl⟩

/-- A tile that crosses its quota reads ARMED and reports it (R116, R117). -/
theorem State.armSend_of_crossing {s : State} {k active : Nat} (idle : Nat) (hhold : s.rf .kprMonStatusHold 0 ≠ 1)
    (hup : s.computeUp = true) (hwas : s.armedNow k = false)
    (his : (s.put .tsnExposureExposure k (s.rf .tsnExposureExposure k + active)).armedNow k = true) :
    s.armSend k active idle = (s.put .tsnExposureExposure k (s.rf .tsnExposureExposure k + active)).armReported k true
      (pack [(0, 4, 1), (32, 19, k)]) := by
  have hruns : ¬ (s.rf .kprMonStatusHold 0 = 1 ∨ s.computeUp = false) := by simp [hhold, hup]
  rw [State.armSend, if_neg hruns]
  simp [hwas, his, State.armReported]

/-- The record of a report: disarm in bit 31, the tile's ID from bit 32. -/
theorem bits_armRecord {k : Nat} (h : k < 2 ^ 19) :
    bits (pack [(0, 4, 1), (32, 19, k)]) 32 19 = k ∧ bits (pack [(0, 4, 1), (32, 19, k)]) 31 1 = 0 := by
  constructor
  · rw [bits_pack_skip _ _ (by decide), bits_pack_head _ _ _ _ (by simp), Nat.mod_eq_of_lt h]
  · exact bits_pack_apart _ (by simp)

theorem bits_quotaRecord (k : Nat) (was : Bool) :
    let r := pack [(0, 4, 1), (31, 1, bit was), (32, 19, k)]
    bits r 0 4 = 1 ∧ bits r 31 1 = (if was then 1 else 0) ∧ bits r 32 19 = k % 2 ^ 19 := by
  refine ⟨?version, ?disarm, ?tile⟩
  case version => exact bits_pack_head _ _ _ _ (by simp)
  case disarm =>
    rw [bits_pack_skip _ _ (by decide), bits_pack_head _ _ _ _ (by simp)]
    cases was <;> rfl
  case tile => rw [bits_pack_skip _ _ (by decide), bits_pack_skip _ _ (by decide), bits_pack_head _ _ _ _ (by simp)]

/-! ### The quota as written (R129) -/

theorem tileField_of_mem_exposedTiles {s : State} {f k : Nat} (h : k ∈ s.exposedTiles f) : tileField k = f := by
  obtain ⟨e, he, rfl⟩ := List.mem_map.mp h
  have hp := (List.mem_filter.mp he).2
  exact (of_decide_eq_true hp).2

theorem State.quotaTile_of_change {s : State} {k : Nat} {was : Bool} (hreg : s.rf .tsnEpCtrlArmed k = if was then 1 else 0)
    (his : s.armedNow k = !was) : s.quotaTile k = s.armReported k (!was) (pack [(0, 4, 1), (31, 1, bit was), (32, 19, k)]) := by
  have hwas : decide (s.rf .tsnEpCtrlArmed k = 1) = was := by rw [hreg]; cases was <;> rfl
  simp only [State.quotaTile, his, hwas]
  rw [if_neg (by cases was <;> decide)]
  rfl

/-! ### The clauses -/

/-- R117: a report enters its tile, and a disarm report takes out what the tile's exposure put there. -/
theorem armReports_reach_queue (s : State) {k : Nat} (hk : tileOk k = true) :
    let q := fun t : State => (t.field (tileField k)).armed
    Completes (exec (.armReport k false) s) (fun t => t = { s with fields := t.fields } ∧ SameFields s t (tileField k) ∧
      (∃ a ∈ q t, a.tile = k ∧ (∀ b ∈ q s, b.tile = k → b.commanded = false) → a.at_ = s.now) ∧
      (∀ a : Armed, a.tile ≠ k → (a ∈ q t ↔ a ∈ q s)) ∧ ((∀ b ∈ q s, b.tile ≠ k) → q t = q s ++ [⟨k, false, s.now, false⟩])) ∧
    Completes (exec (.armReport k true) s) (fun t => t = { s with fields := t.fields } ∧ SameFields s t (tileField k) ∧
      q t = (q s).filter (fun a => decide (a.tile ≠ k) || a.commanded)) := by
  intro q
  have hq : q (s.armReport k false) = armIn (q s) k false s.now := congrArg FieldSt.armed (s.setArmed_field _ _)
  refine ⟨.of_onTile hk rfl ⟨rfl, s.sameFields_setArmed _ _, ?fresh, fun a ha => ?others, fun h => ?new⟩,
    .of_onTile hk rfl ⟨rfl, s.sameFields_setArmed _ _, congrArg FieldSt.armed (s.setArmed_field _ _)⟩⟩
  case fresh =>
    obtain ⟨a, ha, -, hat⟩ := exists_reported_armIn (q s) k s.now
    exact ⟨a, hq ▸ ha, fun _ => hat⟩
  case others => exact hq ▸ mem_armIn_of_ne ha false s.now
  case new => exact hq.trans (armIn_report_new h s.now)

/-- R118: the ARM bit of a tile that can be armed, and of one that cannot. -/
theorem armBit_arms (s : State) {k : Nat} (hk : tileOk k = true) :
    let q := fun t : State => (t.field (tileField k)).armed
    (s.armable k = true → Completes (exec (.tsnEpArm k) s) (fun t => SameFields s t (tileField k) ∧ SameRegs s t [(.tsnEpCtrlArm, k)] ∧
      (∃ a ∈ q t, a.tile = k ∧ a.commanded = true) ∧ ∀ a : Armed, a.tile ≠ k → (a ∈ q t ↔ a ∈ q s))) ∧
    (s.armable k = false → Completes (exec (.tsnEpArm k) s) (fun t => OnlyRegs s t [(.tsnEpCtrlArm, k)])) := by
  refine ⟨fun h => ?armed, fun h => ?not⟩
  case armed =>
    obtain ⟨-, hfields, -, hothers, harmed⟩ := (s.put .tsnEpCtrlArm k 0).commandArm_leaves k
    exact .of_onTile (t := (s.put .tsnEpCtrlArm k 0).commandArm k) hk (congrArg (onTile k s) (if_pos h))
      ⟨hfields, s.sameRegs_put 0 (by simp), harmed, hothers⟩
  case not =>
    exact .of_onTile (t := s.put .tsnEpCtrlArm k 0) hk (congrArg (onTile k s) (if_neg (by simp [h]))) (s.onlyRegs_put _ _ _)

/-- R116, R117: the exposure that crosses the quota, and its report. -/
theorem crossing_sends_report {s : State} {k active : Nat} (idle : Nat) (hk : tileOk k = true) (hhold : s.rf .kprMonStatusHold 0 ≠ 1)
    (hup : s.computeUp = true) (hwas : s.armedNow k = false)
    (hroom : s.rf .tsnExposureExposure k + active < 2 ^ RF.tsnExposureExposure.spec.width)
    (his : 2 ^ (s.field (tileField k)).quotaSeen ≤ s.rf .tsnExposureExposure k + active - s.rf .tsnExposureCheckedChecked k) :
    Completes (exec (.armReportSend k active idle) s) (fun t => SameTiles s t k ∧
      SameRegs s t [(.tsnExposureExposure, k), (.tsnEpCtrlArmed, k)] ∧ t.rf .tsnExposureExposure k = s.rf .tsnExposureExposure k + active ∧
      t.rf .tsnEpCtrlArmed k = 1 ∧ (t.tile k).sinceArm = 0 ∧ ∃ r, t.out = .record k r :: s.out ∧ bits r 32 19 = k ∧ bits r 31 1 = 0) := by
  let u := s.put .tsnExposureExposure k (s.rf .tsnExposureExposure k + active)
  have hnow : u.armedNow k = true := (s.armedNow_of_exposure k hroom).trans (decide_eq_true his)
  have hexec : exec (.armReportSend k active idle) s = onTile k s (u.armReported k true (pack [(0, 4, 1), (32, 19, k)])) :=
    congrArg (onTile k s) (State.armSend_of_crossing idle hhold hup hwas hnow)
  obtain ⟨⟨-, hput⟩, hcount⟩ := s.put_sets .tsnExposureExposure k hroom
  obtain ⟨-, hregs, htiles, hsince, harmed, hout⟩ := u.armReported_leaves k true (pack [(0, 4, 1), (32, 19, k)])
  exact .of_onTile hk hexec ⟨htiles, (hput.mono (by simp)).trans (hregs.mono (by simp)), (hregs _ _ (by simp)).trans hcount, harmed, hsince,
    _, hout, bits_armRecord (lt_of_tileOk hk)⟩

/-- R129: one tile alone listed, whose comparison with the quota as written comes out anew. -/
theorem quotaReevaluate_reports {s : State} {f : Fin 32} {k : Nat} {was : Bool} (hone : s.exposedTiles f.val = [k])
    (hreg : s.rf .tsnEpCtrlArmed k = if was then 1 else 0)
    (his : decide (2 ^ s.quotaLog2 f.val ≤ s.rf .tsnExposureExposure k - s.rf .tsnExposureCheckedChecked k) = !was) :
    Completes (exec (.quotaReevaluate f) s) (fun t =>
      t = { s with regs := t.regs, out := t.out, fields := t.fields, tiles := t.tiles } ∧ SameRegs s t [(.tsnEpCtrlArmed, k)] ∧
      SameTiles s t k ∧ SameFields s t f.val ∧ (t.field f.val).quotaSeen = s.quotaLog2 f.val ∧ (t.tile k).sinceArm = 0 ∧
      t.rf .tsnEpCtrlArmed k = (if was then 0 else 1) ∧
      ∃ r, t.out = .record k r :: s.out ∧ bits r 0 4 = 1 ∧ bits r 31 1 = (if was then 1 else 0) ∧ bits r 32 19 = k % 2 ^ 19) := by
  let u := s.setField f.val { s.field f.val with quotaSeen := s.quotaLog2 f.val }
  have hf : tileField k = f.val := tileField_of_mem_exposedTiles (s := s) (by simp [hone])
  let r := pack [(0, 4, 1), (31, 1, bit was), (32, 19, k)]
  have hrun : s.quotaReevaluate f.val = u.armReported k (!was) r := by
    rw [State.quotaReevaluate, hone]
    exact State.quotaTile_of_change (s := u) hreg ((s.armedNow_of_quota _ hf).trans his)
  have hexec : exec (.quotaReevaluate f) s = .next (u.armReported k (!was) r) := congrArg Host.Outcome.next hrun
  obtain ⟨honly, hregs, htiles, hsince, harmed, hout⟩ := u.armReported_leaves k (!was) r
  have hfields : SameFields s u f.val := s.sameFields_setField f.val _
  have hquota : (u.field f.val).quotaSeen = s.quotaLog2 f.val := congrArg FieldSt.quotaSeen (s.field_setField_same f.val _)
  refine .of_next hexec ⟨honly, hregs, htiles, hfields, hquota, hsince, ?_, r, hout, bits_quotaRecord k was⟩
  rw [harmed]
  cases was <;> rfl

end Sys2Proof.Machine
end

section
/-! How episodes end: what they let go of, and the conditions that stop them (04_shadow_replay.md R112, R113, R124). -/

namespace Sys2Proof.Machine

/-! ### The replay flag of a spare -/

theorem State.setReplay_eq (s : State) (t : Nat) (b : Bool) : s.setReplay t b = { s with tiles := (s.setReplay t b).tiles } := by
  unfold State.setReplay
  split <;> rfl

theorem State.setReplay_zero (s : State) (b : Bool) : s.setReplay 0 b = s := if_pos rfl

theorem State.setReplay_tile_same (s : State) {t : Nat} (h : t ≠ 0) (b : Bool) :
    (s.setReplay t b).tile t = { s.tile t with replaying := b } := by
  rw [State.setReplay, if_neg h, State.tile_setTile_same]

/-! ### What an episode releases (R124) -/

/-- Nothing but episodes, transfers, tiles and registers is released. -/
theorem State.releaseEpisode_eq (s : State) (e : Episode) :
    s.releaseEpisode e = { s with
      episodes := s.episodes.filter (fun x => decide (x.tile ≠ e.tile))
      transfers := s.transfers.filter (fun x => !(decide (x.owner = e.tile) && x.what.port))
      tiles := (s.releaseEpisode e).tiles, regs := (s.releaseEpisode e).regs } := by
  rw [State.releaseEpisode, State.setReplay_eq _ e.spare2, State.setReplay_eq _ e.spare]
  rfl

theorem State.releaseEpisode_capturing (s : State) (e : Episode) (k : Nat) :
    (s.releaseEpisode e).rf .tsnEpCtrlCapturing k = if k = e.tile then 0 else s.rf .tsnEpCtrlCapturing k := by
  rw [State.releaseEpisode, State.rf_put]
  by_cases h : k = e.tile
  · simp [h]
  · rw [if_neg (by simpa using Ne.symm h), if_neg h, State.rf_put_field _ _ _ _ _ _ (by decide), State.setReplay_eq _ e.spare2,
      State.setReplay_eq _ e.spare]
    rfl

theorem State.endEpisode_eq (s : State) (e : Episode) (verdict reason confirm : Nat) (spares : List Nat) :
    s.endEpisode e verdict reason confirm spares =
      { s.releaseEpisode e with ending := s.ending ++ [⟨e, verdict, reason, confirm, spares⟩] } := by
  have h : (s.releaseEpisode e).ending = s.ending := by rw [State.releaseEpisode_eq]
  rw [State.endEpisode, h]

section
variable (s : State) (e : Episode) (verdict reason confirm : Nat) (spares : List Nat)

theorem State.endEpisode_ending :
    (s.endEpisode e verdict reason confirm spares).ending = s.ending ++ [⟨e, verdict, reason, confirm, spares⟩] := by
  rw [State.endEpisode_eq]

theorem State.endEpisode_episodes :
    (s.endEpisode e verdict reason confirm spares).episodes = s.episodes.filter (fun x => decide (x.tile ≠ e.tile)) := by
  rw [State.endEpisode_eq, State.releaseEpisode_eq]

theorem State.endEpisode_transfers : (s.endEpisode e verdict reason confirm spares).transfers =
    s.transfers.filter (fun x => !(decide (x.owner = e.tile) && x.what.port)) := by
  rw [State.endEpisode_eq, State.releaseEpisode_eq]

theorem State.endEpisode_events : (s.endEpisode e verdict reason confirm spares).events = s.events := by
  rw [State.endEpisode_eq, State.releaseEpisode_eq]

theorem State.endEpisode_capturing (k : Nat) : (s.endEpisode e verdict reason confirm spares).rf .tsnEpCtrlCapturing k =
    if k = e.tile then 0 else s.rf .tsnEpCtrlCapturing k := s.releaseEpisode_capturing e k

/-- An episode with one spare lets go of it. -/
theorem State.endEpisode_replaying (hs : e.spare ≠ 0) (h2 : e.spare2 = 0) :
    ((s.endEpisode e verdict reason confirm spares).tile e.spare).replaying = false := by
  change ((s.releaseEpisode e).tile e.spare).replaying = false
  rw [State.releaseEpisode, h2, State.setReplay_zero, State.put_tile, State.put_tile, State.setReplay_tile_same _ hs]

end

/-- The episode of tile `k` has ended with a verdict to be given: it is gone with what it held, and no event is raised yet (R113, R124). -/
def EpisodeEnds (s t : State) (k verdict reason confirm : Nat) (spares : List Nat) : Prop :=
  (∀ x ∈ t.episodes, x.tile ≠ k) ∧ t.rf .tsnEpCtrlCapturing k = 0 ∧ t.events = s.events ∧
    (∀ x ∈ t.transfers, x.owner = k → x.what.port = false) ∧
    ∃ x, t.ending = [x] ∧ x.ep.tile = k ∧ x.verdict = verdict ∧ x.reason = reason ∧ x.confirm = confirm ∧ x.spares = spares

theorem State.endEpisode_ends {s : State} {e : Episode} {k : Nat} (hk : e.tile = k) (h : s.ending = []) (verdict reason confirm : Nat)
    (spares : List Nat) : EpisodeEnds s (s.endEpisode e verdict reason confirm spares) k verdict reason confirm spares := by
  subst hk
  refine ⟨?episodes, ?capturing, s.endEpisode_events _ _ _ _ _, ?transfers, _, (s.endEpisode_ending _ _ _ _ _).trans (by rw [h]; rfl),
    rfl, rfl, rfl, rfl, rfl⟩
  case episodes => simp [State.endEpisode_episodes]
  case capturing => rw [State.endEpisode_capturing, if_pos rfl]
  case transfers =>
    rw [State.endEpisode_transfers]
    intro x hx ho
    simpa [ho] using (List.mem_filter.mp hx).2

/-! ### A condition that stops episodes (R112, R113) -/

/-- A condition met by one episode alone, with none ending yet. -/
theorem State.stopWhere_one {s : State} {p : Episode → Bool} {e : Episode} (hp : s.episodes.filter p = [e]) (hstarted : e.phase ≠ 0)
    (h : s.ending = []) (verdict reason : Nat) : s.stopWhere p verdict reason = s.endEpisode e verdict reason 0 [] := by
  have hend : (s.endEpisode e verdict reason 0 []).ending = [⟨e, verdict, reason, 0, []⟩] := by rw [State.endEpisode_ending, h]; rfl
  rw [State.stopWhere, hp, List.foldl_cons, List.foldl_nil, if_neg hstarted]
  simp only [hend, List.map_cons, List.map_nil, Nat.lt_irrefl, decide_false, Bool.and_false, Bool.false_eq_true, if_false]
  rw [← hend]

/-- Episodes that have begun, ended in turn. -/
theorem State.foldl_endEpisode_leaves (verdict reason : Nat) (l : List Episode) (s : State) :
    let t := l.foldl (fun u e => u.endEpisode e verdict reason 0 []) s
    (∀ x, x ∈ t.episodes ↔ x ∈ s.episodes ∧ ∀ e ∈ l, x.tile ≠ e.tile) ∧ t.ending = s.ending ++ l.map (⟨·, verdict, reason, 0, []⟩) ∧
      ∀ k, (∃ e ∈ l, e.tile = k) ∨ s.rf .tsnEpCtrlCapturing k = 0 → t.rf .tsnEpCtrlCapturing k = 0 := by
  induction l generalizing s with
  | nil => simp
  | cons e l ih =>
    obtain ⟨hepisodes, hending, hcapturing⟩ := ih (s.endEpisode e verdict reason 0 [])
    refine ⟨fun x => ?_, ?_, fun k hk => hcapturing k ?_⟩
    · simp [hepisodes, State.endEpisode_episodes, and_assoc]
    · simp [hending, State.endEpisode_ending]
    · rw [State.endEpisode_capturing]
      obtain ⟨y, hy, rfl⟩ | hk := hk
      · obtain rfl | hy := List.mem_cons.mp hy
        · simp
        · exact .inl ⟨y, hy, rfl⟩
      · simp [hk]

/-- A condition met by episodes that have begun. -/
theorem State.stopWhere_leaves {s : State} {p : Episode → Bool} (hstarted : ∀ e ∈ s.episodes, p e = true → e.phase ≠ 0)
    (verdict reason : Nat) :
    let t := s.stopWhere p verdict reason
    (∀ x ∈ t.episodes, ∀ e ∈ s.episodes, p e = true → x.tile ≠ e.tile) ∧
      (∀ e ∈ s.episodes, p e = true → ⟨e, verdict, reason, 0, []⟩ ∈ t.ending ∧ t.rf .tsnEpCtrlCapturing e.tile = 0) := by
  have hfold : (s.episodes.filter p).foldl
      (fun u e => if e.phase = 0 then u.releaseEpisode e else u.endEpisode e verdict reason 0 []) s =
        (s.episodes.filter p).foldl (fun u e => u.endEpisode e verdict reason 0 []) s :=
    List.foldl_ext _ _ _ fun u e he => if_neg (hstarted e (List.mem_filter.mp he).1 (List.mem_filter.mp he).2)
  obtain ⟨hepisodes, hending, hcapturing⟩ := State.foldl_endEpisode_leaves verdict reason (s.episodes.filter p) s
  intro t
  have ht : t = s.stopWhere p verdict reason := rfl
  rw [State.stopWhere, hfold] at ht
  rw [ht]
  refine ⟨fun x hx e he hp => ?_, fun e he hp => ⟨?_, ?_⟩⟩
  · exact ((hepisodes x).mp hx).2 e (List.mem_filter.mpr ⟨he, hp⟩)
  · refine List.mem_map.mpr ⟨⟨e, verdict, reason, 0, []⟩, ?_, by simp⟩
    rw [hending]
    exact List.mem_append_right _ (List.mem_map.mpr ⟨e, List.mem_filter.mpr ⟨he, hp⟩, rfl⟩)
  · exact hcapturing _ (.inl ⟨e, List.mem_filter.mpr ⟨he, hp⟩, rfl⟩)

/-! ### The episode of a tile -/

theorem State.mem_of_episodeOf {s : State} {k : Nat} {e : Episode} (h : s.episodeOf k = some e) : e ∈ s.episodes :=
  List.mem_of_find?_eq_some h

theorem State.mem_setEpisode {s : State} {e x : Episode} (h : e ∈ s.episodes) (hk : e.tile = x.tile) : x ∈ (s.setEpisode x).episodes :=
  List.mem_map.mpr ⟨e, h, if_pos hk⟩

/-! ### The image that a replay leaves in its spare -/

theorem State.foldl_setSram_eq (k : Nat) (l : List (Nat × Nat)) (s : State) : l.foldl (fun u e => u.setSram k e.1 e.2) s =
    { s with sram := (l.foldl (fun u e => u.setSram k e.1 e.2) s).sram } := by
  induction l generalizing s with
  | nil => rfl
  | cons e l ih =>
    rw [List.foldl_cons, ih]
    rfl

theorem State.leaveImage_eq (s : State) (k : Nat) (r : SpareRun) :
    s.leaveImage k r = { s with sram := (s.leaveImage k r).sram, sealed := (s.leaveImage k r).sealed } := by
  rw [State.leaveImage, State.fillSram, State.foldl_setSram_eq]

end Sys2Proof.Machine
end

section
/-! The replay share (04_shadow_replay.md R113), and the settlement of O13. -/

namespace Sys2Proof.Machine

/-! ### The replay share (R113) -/

theorem State.shedReplay_fits {s : State} (h : s.replayCount ≤ s.replayLimit) (n : Nat) : State.shedReplay n s = s := by
  cases n with
  | zero => rfl
  | succ n => exact if_pos h

theorem State.shedReplay_none {s : State} (h : s.episodes = []) (n : Nat) : State.shedReplay n s = s := by
  cases n with
  | zero => rfl
  | succ n =>
    rw [State.shedReplay, h]
    exact ite_self s

/-- The one episode of the wafer, begun and over the share, is abandoned. -/
theorem State.shedReplay_one {s : State} {e : Episode} (he : s.episodes = [e]) (hstarted : e.phase ≠ 0) (hend : s.ending = [])
    (hover : s.replayLimit < s.replayCount) (n : Nat) : State.shedReplay (n + 1) s = s.endEpisode e 3 11 0 [] := by
  have hlatest : latestEpisode s.episodes = some e := by simp [he, latestEpisode, hstarted]
  have hstop : s.stopEpisode e.tile 3 11 = s.endEpisode e 3 11 0 [] := State.stopWhere_one (by simp [he]) hstarted hend 3 11
  have hgone : (s.endEpisode e 3 11 0 []).episodes = [] := by simp [State.endEpisode_episodes, he]
  rw [State.shedReplay, if_neg (Nat.not_le.mpr hover), hlatest]
  simp only [hstop]
  exact State.shedReplay_none hgone n

/-- Settles O13: reports and the ARM bit, the quota crossed and the quota as written, and the replay share. -/
theorem armingQuotaAndReplayShare : Obligations.ArmingQuotaAndReplayShare := by
  unfold Obligations.ArmingQuotaAndReplayShare
  refine ⟨fun s k active idle hk => ?arming, fun s f k was hone hreg his => quotaReevaluate_reports hone hreg his,
    fun s => ⟨fun h => ?fits, fun e he hp _ hs h2 hover hend => ?shed⟩⟩
  case arming =>
    obtain ⟨hreport, hdisarm⟩ := armReports_reach_queue s hk
    obtain ⟨harm, hnot⟩ := armBit_arms s hk
    exact ⟨hreport, hdisarm, harm, hnot, fun hhold hup hwas hroom his => crossing_sends_report idle hk hhold hup hwas hroom his⟩
  case fits => exact congrArg Host.Outcome.next (State.shedReplay_fits h 192)
  case shed =>
    have hexec : exec .replayShareShed s = .next (s.endEpisode e 3 11 0 []) :=
      congrArg Host.Outcome.next (State.shedReplay_one he (by simp [hp]) hend hover 191)
    refine .of_next hexec ⟨?_, s.endEpisode_replaying e 3 11 0 [] hs h2, _, (s.endEpisode_ending e 3 11 0 []).trans (by rw [hend]; rfl),
      rfl, rfl, rfl⟩
    simp [State.endEpisode_episodes, he]

end Sys2Proof.Machine
end

section
/-! Comparisons and verdicts of episodes (04_shadow_replay.md R109 to R115). -/

namespace Sys2Proof.Machine

/-! ### The comparison (R109) -/

/-- An episode's end is told of the state it began from, whatever line of SRAM a replay has left in its spare. -/
theorem State.leaveImage_endEpisode_ends {s : State} {e : Episode} {k : Nat} (hk : e.tile = k) (h : s.ending = []) (spare : Nat)
    (r : SpareRun) (verdict reason confirm : Nat) (spares : List Nat) :
    EpisodeEnds s ((s.leaveImage spare r).endEpisode e verdict reason confirm spares) k verdict reason confirm spares := by
  rw [State.leaveImage_eq]
  exact State.endEpisode_ends (s := { s with sram := (s.leaveImage spare r).sram, sealed := (s.leaveImage spare r).sealed }) hk h verdict
    reason confirm spares

section
variable {s : State} {k : Nat} {e : Episode} {a b : RunResult} {r : SpareRun}

/-- Past its snapshot an episode has no cycles of its capture to wait for. -/
theorem exec_episodeCompare (hk : tileOk k = true) (he : s.episodeOf k = some e) (hp : e.phase = 3) :
    exec (.episodeCompare k [] r.emitted r.image) s = .next (s.episodeCompare k r) := by
  have hnone : s.captureCycles k [] = s := by simp [State.captureCycles, State.snapshotCheck, he, hp]
  change onTile k s ((s.captureCycles k []).episodeCompare k r) = _
  rw [hnone, onTile_next hk]

/-- Equal runs: MATCH. -/
theorem episodeCompare_matches (hk : tileOk k = true) (he : s.episodeOf k = some e) (hek : e.tile = k) (hend : s.ending = [])
    (hp : e.phase = 3) (ha : e.tileRun = some a) (hread : s.readDone e = true) (hb : s.replayResult e r = a) :
    Completes (exec (.episodeCompare k [] r.emitted r.image) s) (EpisodeEnds s · k 0 0 0 []) := by
  refine .of_next (exec_episodeCompare hk he hp) ?_
  simp only [State.episodeCompare, he, ha, hp, hread, hb, and_self, if_true]
  refine State.leaveImage_endEpisode_ends ?_ hend _ _ _ _ _ _
  exact hek

/-- Runs that differ: a second spare is looked for. -/
theorem episodeCompare_differs (hk : tileOk k = true) (he : s.episodeOf k = some e) (hek : e.tile = k) (hend : s.ending = [])
    (hp : e.phase = 3) (ha : e.tileRun = some a) (hread : s.readDone e = true) (hb : s.replayResult e r = b) (hab : a ≠ b) :
    Completes (exec (.episodeCompare k [] r.emitted r.image) s) (fun t => t.events = s.events ∧ t.ending = [] ∧
      ∃ x ∈ t.episodes, x.tile = k ∧ x.phase = 4 ∧ x.spareRun = some b ∧ x.confirmAt = s.now ∧ x.loadAt = none ∧ x.readAt = none ∧
        x.sigDiff = decide (a.signature ≠ b.signature) ∧ x.sramDiff = decide (a.digest ≠ b.digest)) := by
  refine .of_next (exec_episodeCompare hk he hp) ?_
  simp only [State.episodeCompare, he, ha, hp, hread, hb, hab, and_self, if_true, if_false]
  rw [State.setReplay_eq, State.leaveImage_eq]
  exact ⟨rfl, hend, _, State.mem_setEpisode (State.mem_of_episodeOf he) rfl, hek, rfl, rfl, rfl, rfl, rfl, rfl, rfl⟩

/-- The second spare has run (R109). -/
theorem exec_confirmReplayDone (hk : tileOk k = true) (he : s.episodeOf k = some e) (hp : e.phase = 4) (h2 : e.spare2 ≠ 0)
    (hread : s.readDone e = true) (ha : e.tileRun = some a) (hb : e.spareRun = some b) :
    exec (.confirmReplayDone k r) s = .next (
      if s.replayResult e r = b then (s.leaveImage e.spare2 r).endEpisode e 1 0 1 []
      else if s.replayResult e r = a then (s.leaveImage e.spare2 r).endEpisode e 2 1 2 [e.spare]
      else (s.leaveImage e.spare2 r).endEpisode e 1 0 3 [e.spare, e.spare2]) := by
  refine (onTile_next hk s _).trans ?_
  simp only [State.confirmDone, he, hp, h2, hread, ha, hb, Option.some.injEq, ne_eq, not_false_eq_true, and_self, if_true]

theorem confirmReplayDone_verdicts (hk : tileOk k = true) (he : s.episodeOf k = some e) (hek : e.tile = k) (hend : s.ending = [])
    (hp : e.phase = 4) (h2 : e.spare2 ≠ 0) (hread : s.readDone e = true) (ha : e.tileRun = some a) (hb : e.spareRun = some b)
    (hab : a ≠ b) :
    (s.replayResult e r = b → Completes (exec (.confirmReplayDone k r) s) (EpisodeEnds s · k 1 0 1 [])) ∧
    (s.replayResult e r = a → Completes (exec (.confirmReplayDone k r) s) (EpisodeEnds s · k 2 1 2 [e.spare])) ∧
    (s.replayResult e r ≠ a → s.replayResult e r ≠ b →
      Completes (exec (.confirmReplayDone k r) s) (EpisodeEnds s · k 1 0 3 [e.spare, e.spare2])) := by
  refine ⟨fun h => ?agrees, fun h => ?tileAgrees, fun hna hnb => ?third⟩ <;>
    refine .of_next (exec_confirmReplayDone hk he hp h2 hread ha hb) ?_
  case agrees => rw [if_pos h]; exact State.leaveImage_endEpisode_ends hek hend _ _ _ _ _ _
  case tileAgrees => rw [if_neg (h ▸ hab), if_pos h]; exact State.leaveImage_endEpisode_ends hek hend _ _ _ _ _ _
  case third => rw [if_neg hnb, if_neg hna]; exact State.leaveImage_endEpisode_ends hek hend _ _ _ _ _ _

theorem confirmSpareTimeout_mismatch (hk : tileOk k = true) (he : s.episodeOf k = some e) (hek : e.tile = k) (hend : s.ending = [])
    (hp : e.phase = 4) (h2 : e.spare2 = 0) (hlate : e.confirmAt + 1000 ≤ s.now) :
    Completes (exec (.confirmSpareTimeout k) s) (EpisodeEnds s · k 1 0 0 [e.spare]) := by
  refine .of_onTile hk rfl ?_
  simp only [State.confirmTimeout, he, hp, h2, hlate, and_self, if_true]
  exact State.endEpisode_ends hek hend _ _ _ _

theorem episodeDeadline_abandons (hk : tileOk k = true) (he : s.episodeOf k = some e) (hek : e.tile = k) (hp : 1 ≤ e.phase)
    (hold : e.t0 + 10000 ≤ s.now) : Completes (exec (.episodeDeadline k) s) (fun t => (∀ x ∈ t.episodes, x.tile ≠ k) ∧
      t.rf .tsnEpCtrlCapturing k = 0 ∧ ∃ x ∈ t.ending, x.ep = e ∧ x.verdict = 3 ∧ x.reason = 12) := by
  have hmem := State.mem_of_episodeOf he
  have hpick : decide (e.tile = k ∧ 1 ≤ e.phase ∧ e.t0 + 10000 ≤ s.now) = true := decide_eq_true ⟨hek, hp, hold⟩
  obtain ⟨hgone, hends⟩ := State.stopWhere_leaves (s := s)
    (p := fun e => decide (e.tile = k ∧ 1 ≤ e.phase ∧ e.t0 + 10000 ≤ s.now))
    (fun x _ hx => Nat.pos_iff_ne_zero.mp (of_decide_eq_true hx).2.1) 3 12
  obtain ⟨hending, hcapturing⟩ := hends e hmem hpick
  exact .of_onTile hk rfl ⟨fun x hx => hek ▸ hgone x hx e hmem hpick, hek ▸ hcapturing, _, hending, rfl, rfl, rfl⟩

end

/-! ### The verdict (R110, R111, R114, R115) -/

/-- What MATCH and MISMATCH leave at the checked tile: the exposure saved is taken as checked, and the field has a verdict of this tick. -/
def State.takeChecked (s : State) (e : Episode) : State :=
  let u := s.put .tsnExposureCheckedChecked e.tile e.saved
  let w := (u.put .tsnEpCtrlArmed e.tile (bit (u.armedNow e.tile))).dropDisarmed e.tile
  w.setField (tileField e.tile) { w.field (tileField e.tile) with verdictsAt := some w.now }

theorem State.dropDisarmed_eq (s : State) (k : Nat) : s.dropDisarmed k = { s with fields := (s.dropDisarmed k).fields } := by
  unfold State.dropDisarmed
  split <;> rfl

theorem State.takeChecked_eq (s : State) (e : Episode) :
    s.takeChecked e = { s with regs := (s.takeChecked e).regs, fields := (s.takeChecked e).fields } := by
  rw [State.takeChecked, State.dropDisarmed_eq]
  rfl

theorem State.takeChecked_leaves (s : State) (e : Episode) :
    let t := s.takeChecked e
    SameRegs s t [(.tsnExposureCheckedChecked, e.tile), (.tsnEpCtrlArmed, e.tile)] ∧
      t.rf .tsnExposureCheckedChecked e.tile = e.saved % 2 ^ RF.tsnExposureCheckedChecked.spec.width ∧
      (t.field (tileField e.tile)).verdictsAt = some s.now := by
  rw [State.takeChecked, State.dropDisarmed_eq]
  refine ⟨?regs, ?checked, ?verdict⟩
  case regs => exact (s.sameRegs_put _ (by simp)).put _ (by simp)
  case checked => exact (State.rf_put_field _ .tsnEpCtrlArmed _ _ _ _ (by decide)).trans (s.rf_put_same _ _ _)
  case verdict => exact congrArg FieldSt.verdictsAt (State.field_setField_same _ _ _)

/-- The verdict record of an ending, and the detections of its spares (R109, R114). -/
def Ending.record (x : Ending) : Nat := verdictRecord x.ep x.verdict x.reason x.confirm

def Ending.spareActs (x : Ending) : List EvAct := x.spares.map (fun k => EvAct.detect (tileKey k) 0x005 2)

/-- The post of the record, and all that a MISMATCH does (R111). -/
def Ending.post (x : Ending) : EvAct := .post 2 (tileField x.ep.tile) x.ep.tile 48 x.record false

def Ending.mismatchActs (x : Ending) : List EvAct :=
  .detect (tileKey x.ep.tile) (if x.ep.sigDiff then 0x003 else 0x004) 2 :: x.spareActs ++ [.void x.ep.startWtc, x.post]

/-- The count of an ending, and the record kept of every verdict but MATCH. -/
def State.countVerdict (s : State) (x : Ending) : State :=
  s.bump (verdictCounter x.verdict).1 (tileField x.ep.tile) .fstEpFlagsSat (tileField x.ep.tile) (verdictCounter x.verdict).2

def State.keepVerdict (s : State) (x : Ending) : State := (s.countVerdict x).put .fstEpLastRecord (tileField x.ep.tile) x.record

/-- A verdict by its parts: what its station takes down, what it leaves at the checked tile, and its event. -/
theorem State.giveVerdict_eq (s : State) (x : Ending) : s.giveVerdict x =
    let f := tileField x.ep.tile
    let u :=
      if s.stationUp (toFin32 f) then if x.verdict = 0 then s.countVerdict x else s.keepVerdict x
      else s.setField f { s.field f with owed := (s.field f).owed ++ [x.record] }
    let w := if x.verdict ≤ 1 then u.takeChecked x.ep else u
    if x.verdict = 0 then w
    else if x.verdict = 1 then w.sample 5 (locStation f) x.mismatchActs
    else w.sample 10 (locStation f) (x.spareActs ++ [x.post]) := rfl

section
variable {s : State} {x : Ending} (hup : s.stationUp (toFin32 (tileField x.ep.tile)) = true)
include hup

theorem State.giveVerdict_match (hv : x.verdict = 0) : s.giveVerdict x = (s.countVerdict x).takeChecked x.ep := by
  simp only [State.giveVerdict_eq, hup, hv, if_true, Nat.zero_le]

theorem State.giveVerdict_mismatch (hv : x.verdict = 1) :
    s.giveVerdict x = ((s.keepVerdict x).takeChecked x.ep).sample 5 (locStation (tileField x.ep.tile)) x.mismatchActs := by
  simp only [State.giveVerdict_eq, hup, hv, if_true, if_false, Nat.one_ne_zero, Nat.le_refl]

theorem State.giveVerdict_neither (hv : 2 ≤ x.verdict) :
    s.giveVerdict x = (s.keepVerdict x).sample 10 (locStation (tileField x.ep.tile)) (x.spareActs ++ [x.post]) := by
  simp only [State.giveVerdict_eq, hup, if_true, if_neg (show ¬ x.verdict = 0 by omega), if_neg (show ¬ x.verdict = 1 by omega),
    if_neg (show ¬ x.verdict ≤ 1 by omega)]

end

theorem State.countVerdict_onlyRegs (s : State) (x : Ending) : OnlyRegs s (s.countVerdict x)
    [((verdictCounter x.verdict).1, tileField x.ep.tile), (.fstEpFlagsSat, tileField x.ep.tile)] := s.bump_onlyRegs _ _ _ _ _

theorem State.keepVerdict_eq (s : State) (x : Ending) : s.keepVerdict x = { s with regs := (s.keepVerdict x).regs } := by
  obtain ⟨honly, -⟩ := s.countVerdict_onlyRegs x
  rw [State.keepVerdict, honly]
  rfl

/-- The count, and the record as LAST_RECORD holds it. -/
theorem State.keepVerdict_leaves {s : State} {x : Ending} {F : RF} (hF : (verdictCounter x.verdict).1 = F) (hne : .fstEpLastRecord ≠ F)
    (hroom : s.rf F (tileField x.ep.tile) + 1 < 2 ^ F.spec.width) :
    (s.keepVerdict x).rf F (tileField x.ep.tile) = s.rf F (tileField x.ep.tile) + 1 ∧
      (s.keepVerdict x).rf .fstEpLastRecord (tileField x.ep.tile) = x.record % 2 ^ RF.fstEpLastRecord.spec.width := by
  subst hF
  exact ⟨(State.rf_put_field _ _ _ _ _ _ hne).trans (State.bump_counts _ _ _ hroom), State.rf_put_same _ _ _ _⟩

/-- Verdict, reason and CONFIRM as LAST_RECORD tells them (R114). -/
theorem Ending.bits_record (x : Ending) :
    let r := x.record % 2 ^ RF.fstEpLastRecord.spec.width
    bits r 4 4 = x.verdict % 16 ∧ bits r 8 4 = x.reason % 16 ∧ bits r 29 2 = x.confirm % 4 := by
  refine ⟨?verdict, ?reason, ?confirm⟩ <;>
    refine (bits_mod_two_pow _ (by decide)).trans ((bits_withCrc16 46 _ (by decide)).trans ?_)
  case verdict =>
    rw [bits_pack_skip _ _ (by decide)]
    exact bits_pack_head _ _ _ _ (by simp)
  case reason =>
    iterate 2 rw [bits_pack_skip _ _ (by decide)]
    exact bits_pack_head _ _ _ _ (by simp)
  case confirm =>
    iterate 7 rw [bits_pack_skip _ _ (by decide)]
    exact bits_pack_head _ _ _ _ (by simp)

theorem locField_locStation (f : Nat) : locField (locStation f) = some f := by
  have hne : locStation f ≠ 0 := by unfold locStation; omega
  have hdiv : locStation f / 2 ^ 20 = f := by unfold locStation; omega
  rw [locField, if_neg hne, hdiv]

/-- A station's event, of a state whose events are as before. -/
theorem State.sample_raised {s u : State} {f : Nat} (hevents : u.events = s.events) (hnow : u.now = s.now) (hroom : s.sliceDepth f < 511)
    (cls : Nat) (acts : List EvAct) :
    u.sample cls (locStation f) acts = { u with events := s.events ++ [⟨cls, locStation f, s.now, acts⟩] } := by
  rw [← hevents, ← hnow]
  exact State.sample_of_room (locField_locStation f) (by rwa [State.sliceDepth, hevents]) cls acts

section
variable {s : State} {x : Ending} (hup : s.stationUp (toFin32 (tileField x.ep.tile)) = true)
include hup

/-- MATCH: counted, the exposure taken as checked, and no event (R110). -/
theorem State.giveVerdict_match_leaves (hv : x.verdict = 0) :
    let t := s.giveVerdict x
    t.episodes = s.episodes ∧ t.ending = s.ending ∧ t.events = s.events ∧
      t.rf .tsnExposureCheckedChecked x.ep.tile = x.ep.saved % 2 ^ RF.tsnExposureCheckedChecked.spec.width ∧
      (t.field (tileField x.ep.tile)).verdictsAt = some s.now ∧
      (s.rf .fstEpMatchCount (tileField x.ep.tile) + 1 < 2 ^ RF.fstEpMatchCount.spec.width →
        t.rf .fstEpMatchCount (tileField x.ep.tile) = s.rf .fstEpMatchCount (tileField x.ep.tile) + 1) := by
  rw [State.giveVerdict_match hup hv]
  obtain ⟨honly, -⟩ := s.countVerdict_onlyRegs x
  obtain ⟨hregs, hchecked, hat⟩ := (s.countVerdict x).takeChecked_leaves x.ep
  have hnow : (s.countVerdict x).now = s.now := by rw [honly]
  refine ⟨?episodes, ?ending, ?events, hchecked, hat.trans (congrArg some hnow), fun hroom => (hregs _ _ (by simp)).trans ?count⟩
  case count =>
    rw [State.countVerdict, hv]
    exact State.bump_counts _ _ _ hroom
  all_goals rw [State.takeChecked_eq, honly]

variable (hroom : s.sliceDepth (tileField x.ep.tile) < 511)
include hroom

/-- MISMATCH: what its station keeps, the exposure taken as checked, and its event (R111). -/
theorem State.giveVerdict_mismatch_leaves (hv : x.verdict = 1) :
    let t := s.giveVerdict x
    t.episodes = s.episodes ∧ t.ending = s.ending ∧ Raised s t 5 (locStation (tileField x.ep.tile)) x.mismatchActs ∧
      SameRegs (s.keepVerdict x) t [(.tsnExposureCheckedChecked, x.ep.tile), (.tsnEpCtrlArmed, x.ep.tile)] := by
  have hsame : ((s.keepVerdict x).takeChecked x.ep).episodes = s.episodes ∧ ((s.keepVerdict x).takeChecked x.ep).ending = s.ending ∧
      ((s.keepVerdict x).takeChecked x.ep).events = s.events ∧ ((s.keepVerdict x).takeChecked x.ep).now = s.now := by
    refine ⟨?_, ?_, ?_, ?_⟩ <;> rw [State.takeChecked_eq, State.keepVerdict_eq]
  obtain ⟨hregs, -⟩ := (s.keepVerdict x).takeChecked_leaves x.ep
  rw [State.giveVerdict_mismatch hup hv]
  generalize (s.keepVerdict x).takeChecked x.ep = w at hsame hregs ⊢
  obtain ⟨hepisodes, hending, hevents, hnow⟩ := hsame
  rw [State.sample_raised hevents hnow hroom]
  exact ⟨hepisodes, hending, rfl, hregs.trans (.of_regs_eq _ rfl)⟩

/-- INCONCLUSIVE and ABANDONED: what the station keeps, and an event (R114). -/
theorem State.giveVerdict_neither_leaves (hv : 2 ≤ x.verdict) :
    let t := s.giveVerdict x
    t.episodes = s.episodes ∧ t.ending = s.ending ∧
      Raised s t 10 (locStation (tileField x.ep.tile)) (x.spareActs ++ [x.post]) ∧ t.regs = (s.keepVerdict x).regs := by
  have hevents : (s.keepVerdict x).events = s.events := by rw [State.keepVerdict_eq]
  have hnow : (s.keepVerdict x).now = s.now := by rw [State.keepVerdict_eq]
  rw [State.giveVerdict_neither hup hv, State.sample_raised hevents hnow hroom]
  refine ⟨?episodes, ?ending, rfl, rfl⟩
  all_goals rw [State.keepVerdict_eq]

end

theorem State.giveVerdicts_one {s : State} {x : Ending} (h : s.ending = [x]) :
    s.giveVerdicts = State.giveVerdict { s with ending := [] } x := by
  rw [State.giveVerdicts, h]
  rfl

theorem Ending.detect_spare_mem {x : Ending} {k : Nat} (h : k ∈ x.spares) : .detect (tileKey k) 0x005 2 ∈ x.spareActs :=
  List.mem_map.mpr ⟨k, h, rfl⟩

theorem Ending.mem_mismatchActs (x : Ending) :
    .detect (tileKey x.ep.tile) (if x.ep.sigDiff then 0x003 else 0x004) 2 ∈ x.mismatchActs ∧
      (∀ k ∈ x.spares, .detect (tileKey k) 0x005 2 ∈ x.mismatchActs) ∧ .void x.ep.startWtc ∈ x.mismatchActs := by
  refine ⟨by simp [Ending.mismatchActs], fun k hk => ?_, by simp [Ending.mismatchActs]⟩
  exact List.mem_append_left _ (List.mem_cons_of_mem _ (Ending.detect_spare_mem hk))

section
variable {s : State} {x : Ending} (hup : s.stationUp (toFin32 (tileField x.ep.tile)) = true)
  (hroom : s.sliceDepth (tileField x.ep.tile) < 511)
include hup hroom

/-- Whatever the verdict, no episode begins or ends by it. -/
theorem State.giveVerdict_keeps_episodes : (s.giveVerdict x).episodes = s.episodes ∧ (s.giveVerdict x).ending = s.ending := by
  obtain hv | hv | hv : x.verdict = 0 ∨ x.verdict = 1 ∨ 2 ≤ x.verdict := by omega
  · obtain ⟨hepisodes, hending, -⟩ := State.giveVerdict_match_leaves hup hv
    exact ⟨hepisodes, hending⟩
  · obtain ⟨hepisodes, hending, -⟩ := State.giveVerdict_mismatch_leaves hup hroom hv
    exact ⟨hepisodes, hending⟩
  · obtain ⟨hepisodes, hending, -⟩ := State.giveVerdict_neither_leaves hup hroom hv
    exact ⟨hepisodes, hending⟩

/-- A MISMATCH as its counter, LAST_RECORD and its event tell it. -/
theorem State.giveVerdict_tells_mismatch (hv : x.verdict = 1)
    (hcount : s.rf .fstEpMismatchCount (tileField x.ep.tile) + 1 < 2 ^ RF.fstEpMismatchCount.spec.width) :
    let f := tileField x.ep.tile
    let t := s.giveVerdict x
    t.rf .fstEpMismatchCount f = s.rf .fstEpMismatchCount f + 1 ∧ bits (t.rf .fstEpLastRecord f) 4 4 = 1 ∧
      bits (t.rf .fstEpLastRecord f) 29 2 = x.confirm % 4 ∧
      ∃ acts, Raised s t 5 (locStation f) acts ∧ .detect ⟨1, x.ep.tile, 0⟩ (if x.ep.sigDiff then 0x003 else 0x004) 2 ∈ acts ∧
        (∀ k ∈ x.spares, .detect ⟨1, k, 0⟩ 0x005 2 ∈ acts) ∧ .void x.ep.startWtc ∈ acts := by
  obtain ⟨-, -, hraised, hregs⟩ := State.giveVerdict_mismatch_leaves hup hroom hv
  obtain ⟨hcounted, hlast⟩ := State.keepVerdict_leaves (s := s) (x := x) (by rw [hv]; rfl) (by decide) hcount
  obtain ⟨hverdict, -, hconfirm⟩ := x.bits_record
  rw [hv] at hverdict
  have hlast' := (hregs .fstEpLastRecord (tileField x.ep.tile) (by simp)).trans hlast
  exact ⟨(hregs _ _ (by simp)).trans hcounted, hlast' ▸ hverdict, hlast' ▸ hconfirm, _, hraised, x.mem_mismatchActs⟩

/-- INCONCLUSIVE and ABANDONED, each by its counter. -/
theorem State.giveVerdict_tells_neither (hv : 2 ≤ x.verdict) (hv16 : x.verdict < 16) {F : RF} (hF : (verdictCounter x.verdict).1 = F)
    (hne : .fstEpLastRecord ≠ F) (hcount : s.rf F (tileField x.ep.tile) + 1 < 2 ^ F.spec.width) :
    let f := tileField x.ep.tile
    let t := s.giveVerdict x
    t.rf F f = s.rf F f + 1 ∧ bits (t.rf .fstEpLastRecord f) 4 4 = x.verdict ∧ bits (t.rf .fstEpLastRecord f) 8 4 = x.reason % 16 ∧
      ∃ acts, Raised s t 10 (locStation f) acts ∧ ∀ k ∈ x.spares, .detect ⟨1, k, 0⟩ 0x005 2 ∈ acts := by
  obtain ⟨-, -, hraised, hregs⟩ := State.giveVerdict_neither_leaves hup hroom hv
  obtain ⟨hcounted, hlast⟩ := State.keepVerdict_leaves hF hne hcount
  obtain ⟨hverdict, hreason, -⟩ := x.bits_record
  rw [Nat.mod_eq_of_lt hv16] at hverdict
  have hsame : SameRegs (s.keepVerdict x) (s.giveVerdict x) [] := .of_regs_eq _ hregs
  have hlast' := (hsame .fstEpLastRecord (tileField x.ep.tile) (by simp)).trans hlast
  exact ⟨(hsame _ _ (by simp)).trans hcounted, hlast' ▸ hverdict, hlast' ▸ hreason, _, hraised,
    fun k hk => List.mem_append_left _ (Ending.detect_spare_mem hk)⟩

end

/-- Settles O15: how a comparison comes out, then what each verdict leaves. -/
theorem episodeVerdictsAreReached : Obligations.EpisodeVerdictsAreReached := by
  unfold Obligations.EpisodeVerdictsAreReached
  refine ⟨fun s k e a b r hk he hek hend => ⟨fun hp ha hread hb => ?equal, fun hp ha hread hb hab => ?differ,
    fun hp h2 hread ha hb hab => ?confirmed, fun hp h2 hlate => ?unconfirmed, fun hp hold => ?late⟩, fun s x h _ hup hroom => ?verdicts⟩
  case equal => exact episodeCompare_matches hk he hek hend hp ha hread hb
  case differ => exact episodeCompare_differs hk he hek hend hp ha hread hb hab
  case confirmed => exact confirmReplayDone_verdicts hk he hek hend hp h2 hread ha hb hab
  case unconfirmed => exact confirmSpareTimeout_mismatch hk he hek hend hp h2 hlate
  case late => exact episodeDeadline_abandons hk he hek hp hold
  case verdicts =>
    rw [State.giveVerdicts_one h]
    obtain ⟨hepisodes, hending⟩ := State.giveVerdict_keeps_episodes (s := { s with ending := [] }) hup hroom
    refine ⟨hending, hepisodes, fun hv hcount => ?matched, fun hv hcount => ?mismatch, fun hv hcount => ?inconclusive,
      fun hv hcount => ?abandoned⟩
    case matched =>
      obtain ⟨-, -, hevents, hchecked, hat, hcounted⟩ := State.giveVerdict_match_leaves (s := { s with ending := [] }) hup hv
      exact ⟨hevents, hcounted hcount, hchecked, hat⟩
    case mismatch => exact State.giveVerdict_tells_mismatch (s := { s with ending := [] }) hup hroom hv hcount
    case inconclusive =>
      have htold := State.giveVerdict_tells_neither (s := { s with ending := [] }) hup hroom (by omega) (by omega)
        (F := .fstEpInconclusiveCount) (by rw [hv]; rfl) (by decide) hcount
      rwa [hv] at htold
    case abandoned =>
      obtain ⟨hcounted, hverdict, hreason, acts, hraised, -⟩ := State.giveVerdict_tells_neither (s := { s with ending := [] }) hup hroom
        (by omega) (by omega) (F := .fstEpAbandonedCount) (by rw [hv]; rfl) (by decide) hcount
      exact ⟨hcounted, hverdict.trans hv, hreason, acts, hraised⟩

end Sys2Proof.Machine
end

section
/-! The slot that gives a GO (04_shadow_replay.md R119, R120): a state outside what the commands reach, since each of them puts a
tile in the queue of its own field alone, at which the frame of O14 fails. -/

namespace Sys2Proof.Machine

/-- A commanded entry of tile 16,389, which lies in field 1. -/
def armedOfField1 : Armed := ⟨tileId 1 0 5, true, 0, false⟩

/-- Fields 0 and 1 both list that tile, and a slot of field 0 is due, with its function ON and room under the share. -/
def tileInTwoQueues : State :=
  ({ State.reset with
      now := 2000000, mapBuilt := true
      fields := [(0, { armed := [armedOfField1] }), (1, { armed := [armedOfField1] })] } : State).puts
    [(.fstEpCtrlState, 0, 2), (.kprAllowanceInForce, 0, 20)]

/-- The slot is due and its field's function ON; the entry is the one to pick, with a spare, a slot of the buffer and room under the share;
and what the pick makes stale stands in the queue of field 1. -/
theorem tileInTwoQueues_slotOpen :
    let s := tileInTwoQueues
    let u := s.setField 0 { s.field 0 with slotAt := s.now }
    (0 < s.epRate 0 ∧ (s.field 0).slotAt + slotTicks (s.epRate 0) ≤ s.now) ∧
      u.fnOn (.fieldEpisode 0) = true ∧ (u.fieldEpisodes 0).length < u.maxInflight 0 ∧
      (u.field 0).armed.find? (fun a => a.commanded && u.checkable a.tile) = some armedOfField1 ∧
      u.pickSpare armedOfField1.tile = some (tileId 1 1 29) ∧ u.freeEpSlot 0 = some 0 ∧ u.replayHeld < u.replayLimit ∧
      (s.slotOpen 0).field 1 ≠ s.field 1 := by
  decide +kernel

/-- Refutes O14, at its frame of the slot that gives a GO: the entry that the slot picks is made stale in the queue of its own tile's field
(R118), and a state that the statement admits lists the tile in the queues of two fields. -/
theorem not_episodesStartAndRun : ¬ Obligations.EpisodesStartAndRun := by
  unfold Obligations.EpisodesStartAndRun
  rintro ⟨hslots, -⟩
  obtain ⟨hdue, hon, hroom, hpick, hspare, hfree, hshare, hchanged⟩ := tileInTwoQueues_slotOpen
  obtain ⟨-, hgives⟩ := hslots tileInTwoQueues 0 armedOfField1 (tileId 1 1 29) 0 hdue.1 hdue.2
  obtain ⟨t, ht, hfields, -⟩ := hgives hon hroom hpick hspare hfree hshare
  have hrun : exec (.episodeSlotOpen 0) tileInTwoQueues = .next (tileInTwoQueues.slotOpen 0) := congrArg Host.Outcome.next (if_pos hdue)
  rw [hrun] at ht
  cases ht
  exact hchanged (hfields 1 (by decide))

end Sys2Proof.Machine
end

section
/-! What a command of the host may read while it is applied (13_host_port.md R388, R389), and what orders a visit (06_self_test.md R187): the
credit registers and the host port have no part in it. -/

namespace Sys2Proof.Machine

/-! ### A command applied and answered -/

theorem OnlyHost.trans {s t u : State} (h : OnlyHost s t) (h' : OnlyHost t u) : OnlyHost s u := by
  rw [OnlyHost, h', h]

theorem OnlyHost.st {s t : State} (h : OnlyHost s t) : t.st = s.st := by
  unfold OnlyHost at h
  rw [h]

theorem OnlyHost.sec {s t : State} (h : OnlyHost s t) : t.sec = s.sec := by
  unfold OnlyHost at h
  rw [h]

theorem OnlyHost.jobKey {s t : State} (h : OnlyHost s t) : t.jobKey = s.jobKey := by
  unfold OnlyHost at h
  rw [h]

theorem OnlyHost.launch {s t : State} (h : OnlyHost s t) : t.launch = s.launch := by
  unfold OnlyHost at h
  rw [h]

theorem OnlyHost.run {s t : State} (h : OnlyHost s t) : t.run = s.run := by
  unfold OnlyHost at h
  rw [h]

/-- A state in which a command of the host is applied: its credit taken, and nothing answered yet. -/
def Taking (s u : State) : Prop := OnlyHost s u ∧ u.host.outQ = s.host.outQ ∧ SameRegs s u creditRegs

theorem Taking.attached {s u : State} (h : Taking s u) : u.attached = s.attached := by
  obtain ⟨-, -, hregs⟩ := h
  rw [State.attached, State.attached, hregs .hptStatusAttached 0 (by decide)]

/-- A command that can be answered is applied to the state that has taken it. -/
theorem State.asHost_applies {s : State} {op cid : Nat} (h : s.canAnswer op cid) (f : State → State) :
    ∃ u, s.asHost op cid f = f u ∧ Taking s u := by
  have ha := State.attached_of_canAnswer h
  obtain ⟨-, -, hcredit⟩ := h
  by_cases hany : s.host.taken.any (fun t => decide (t.cid = cid ∧ t.opcode = op) && !t.applied) = true
  · exact ⟨_, (if_neg (by rw [ha]; decide)).trans (if_pos hany), rfl, rfl, .of_regs_eq _ rfl⟩
  · have hlen : ¬ 256 ≤ s.host.taken.length := by
      obtain h | ⟨x, hx, hc, ho, hap⟩ := hcredit
      · omega
      · exact absurd (List.any_eq_true.mpr ⟨x, hx, by simp [hc, ho, hap]⟩) hany
    exact ⟨_, (if_neg (by rw [ha]; decide)).trans ((if_neg hany).trans (if_neg hlen)), rfl, rfl, s.sameRegs_setTaken _⟩

/-- The response to a command, once its work has left the outbound queue as it was. -/
theorem State.respond_applied {s v : State} {op cid : Nat} (status units payload : Nat) (h : s.canAnswer op cid)
    (hq : v.host.outQ = s.host.outQ) (ha : v.attached = s.attached) :
    let t := v.respond op cid status units payload
    RespondedWith s t op cid status (fun p => p = payload) ∧ SameRegs v t creditRegs ∧ OnlyHost v t := by
  intro t
  have hatt := ha.trans (State.attached_of_canAnswer h)
  obtain ⟨-, hroom, -⟩ := h
  obtain ⟨⟨⟨m, hm, hrest⟩, htaken⟩, hregs, hframe⟩ := v.respond_room op cid status units payload hatt (by rwa [hq])
  exact ⟨⟨⟨m, by rw [hm, hq], hrest⟩, htaken⟩, hregs, hframe⟩

/-- What a command's work leaves, its response given: the registers it wrote and the credit registers apart, nothing else moves. -/
theorem State.respond_after_work {s u v : State} {op cid : Nat} (status units payload : Nat) {l : List (RF × Nat)} (h : s.canAnswer op cid)
    (hu : Taking s u) (hhost : v.host = u.host) (hregs : SameRegs u v l) (hl : (.hptStatusAttached, 0) ∉ l) :
    let t := v.respond op cid status units payload
    RespondedWith s t op cid status (fun p => p = payload) ∧ SameRegs s t (l ++ creditRegs) ∧ OnlyHost v t ∧ SameRegs v t creditRegs := by
  intro t
  have hatt : v.attached = u.attached := by rw [State.attached, State.attached, hregs .hptStatusAttached 0 hl]
  obtain ⟨hresp, hcredit, hframe⟩ := v.respond_applied (s := s) status units payload h (by rw [hhost, hu.2.1]) (hatt.trans hu.attached)
  obtain ⟨-, -, htaken⟩ := hu
  exact ⟨hresp, (htaken.mono fun _ => List.mem_append_right l).trans
    ((hregs.mono fun _ => List.mem_append_left _).trans (hcredit.mono fun _ => List.mem_append_right l)), hframe, hcredit⟩

/-- A command that is refused: the response, the credit registers, and nothing more. -/
def RefusedAlone (s t : State) (op cid status : Nat) : Prop :=
  Responded s t op cid status ∧ SameRegs s t creditRegs ∧ t.st = s.st ∧ t.sec = s.sec ∧ t.jobKey = s.jobKey

theorem State.respond_refuses {s u : State} {op cid : Nat} (status payload : Nat) (h : s.canAnswer op cid) (hu : Taking s u) :
    RefusedAlone s (u.respond op cid status 1 payload) op cid status := by
  obtain ⟨hresp, hregs, hframe⟩ := u.respond_applied (s := s) status 1 payload h hu.2.1 hu.attached
  obtain ⟨honly, -, hcredit⟩ := hu
  have hall := honly.trans hframe
  exact ⟨hresp.responded, hcredit.trans hregs, hall.st, hall.sec, hall.jobKey⟩

/-! ### Orders of a visit (R187) -/

theorem SameRegs.dropped {s u : State} (hr : SameRegs s u creditRegs) (f : Nat) : u.dropped f = s.dropped f := by
  rw [State.dropped, State.dropped, hr .kprFieldsDroppedDropped 0 (by decide)]

section
variable {s u : State} (hu : OnlyHost s u) (hr : SameRegs s u creditRegs)
include hu hr

theorem OnlyHost.fieldOut (f : Nat) : u.fieldOut f = s.fieldOut f := by
  have hunit : u.unitOut (stationKey f) = s.unitOut (stationKey f) := by
    unfold OnlyHost at hu
    rw [hu]
    rfl
  rw [State.fieldOut, State.fieldOut, hr.dropped, State.disputed, State.disputed, hr .kprLedgerDisputedFields 0 (by decide), hunit]

theorem OnlyHost.logicalOf (k : Nat) : u.logicalOf k = s.logicalOf k := by
  have hfield := hu.fieldOut hr
  rw [State.logicalOf, State.logicalOf, hfield]
  unfold OnlyHost at hu
  rw [hu]
  rfl

theorem OnlyHost.slackCheck (l k : Nat) : u.slackCheck l k = s.slackCheck l k := by
  have hvalid : u.rstValid = s.rstValid := by rw [State.rstValid, State.rstValid, hr .kprRstCtrlValid 0 (by decide)]
  rw [State.slackCheck, State.slackCheck, hvalid]
  unfold OnlyHost at hu
  rw [hu]
  rfl

theorem OnlyHost.rotationSpare (k : Nat) : u.rotationSpare k = s.rotationSpare k := by
  have hserves := hu.logicalOf hr k
  rw [State.rotationSpare, State.rotationSpare, State.spareBusy, State.spareBusy, hserves]
  unfold OnlyHost at hu
  rw [hu]
  rfl

theorem OnlyHost.rotationTarget (l : Nat) : u.rotationTarget l = s.rotationTarget l := by
  simp only [State.rotationTarget, hu.rotationSpare hr, hu.slackCheck hr]

theorem OnlyHost.visitBlocked (k : Nat) : u.visitBlocked k = s.visitBlocked k := by
  have hfield := hr.dropped (tileField k)
  have hup : u.computeUp = s.computeUp := by
    rw [State.computeUp, State.computeUp, State.domState, State.domState, hr .aoiDomainsCompute 0 (by decide)]
  rw [State.visitBlocked, State.visitBlocked, hfield, hup]
  unfold OnlyHost at hu
  rw [hu]
  rfl

/-- Whether R187 allows a test of a tile. -/
theorem OnlyHost.orderable (k : Nat) : u.orderable k = s.orderable k := by
  have hblocked := hu.visitBlocked hr k
  have hserves := hu.logicalOf hr k
  have htarget := hu.rotationTarget hr
  have hout : u.tileOut k = s.tileOut k := by
    unfold OnlyHost at hu
    rw [hu]
    rfl
  simp only [State.orderable, hblocked, hserves, htarget, hout, hu.st]

end

end Sys2Proof.Machine
end

section
/-! TEST, JOB_KEY, PAIR and RUN_DIGEST of the host (05_digests.md R153, R154; 08_securing_and_rollback.md R247; 13_reproducibility.md R373,
R376; 14_host_port_ndoquel.md R407). -/

namespace Sys2Proof.Machine

/-! ### TEST -/

theorem State.testCommand_badArg {u : State} (cid : Nat) {k m : Nat} (h : tileOk k = false ∨ m = 3) :
    u.testCommand cid k m = u.respond 0x50 cid 7 1 0 := if_pos h

theorem State.testCommand_orders {u : State} (cid : Nat) {k m : Nat} (hk : tileOk k = true) (hm : m ≠ 3) :
    u.testCommand cid k m = if u.orderable k then u.orderVisit k m (.host cid) else u.respond 0x50 cid 9 1 0 :=
  if_neg (by simp [hk, hm])

/-! ### JOB_KEY -/

/-- The key store emptied outside a launch (R153). -/
def State.keysCleared (s : State) : State :=
  ({ s with jobKey := none, sec := { s.sec with sessionKey := none, clientKey := none } } : State).puts
    [(.kprDigKeyLoaded, 0, 0), (.kprDigKeyTagsActive, 0, 0), (.kprDigKeyZeroisePending, 0, 0)]

theorem State.zeroise_idle (s : State) : s.zeroise false = s.keysCleared := by
  simp [State.zeroise, State.keysCleared]

theorem State.sameRegs_keysCleared (s : State) :
    SameRegs s s.keysCleared [(.kprDigKeyLoaded, 0), (.kprDigKeyTagsActive, 0), (.kprDigKeyZeroisePending, 0)] :=
  (((SameRegs.of_regs_eq _ rfl).put 0 (by simp)).put 0 (by simp)).put 0 (by simp)

theorem State.keysCleared_loaded (s : State) : s.keysCleared.rf .kprDigKeyLoaded 0 = 0 := by
  simp [State.keysCleared]

/-- A key other than zero stored outside a launch. -/
def State.keyStored (s : State) (key : Nat) : State := ({ s with jobKey := some key } : State).put .kprDigKeyLoaded 0 1

theorem State.keyLoad_stores {u : State} (cid : Nat) {key : Nat} (hidle : u.launch.running = false) (hkey : key ≠ 0) :
    u.keyLoad cid key = (u.keyStored key).respond 0x30 cid 0 1 0 := by
  simp [State.keyLoad, State.keyStored, hidle, hkey]

/-! ### PAIR -/

/-- The engine that the host names as its holder; 0x7FFF names none (R407). -/
def State.naming (s : State) (e : Nat) : State :=
  { s with sec := { s.sec with hostNamed := if e = 0x7FFF then none else some e } }

theorem State.pairCommand_reserved {u : State} (cid : Nat) {e : Nat} (hr : 20480 ≤ e) (he : e ≠ 0x7FFF) :
    u.pairCommand cid e = u.respond 0x31 cid 7 1 0 := if_pos ⟨by simp [engineReserved, hr], he⟩

/-- A naming that begins no search for a holder: one is held, or none is named. -/
theorem State.pairCommand_names {u : State} (cid : Nat) {e : Nat} (h : e < 20480 ∧ u.rf .kprSecPairHolderValid 0 = 1 ∨ e = 0x7FFF) :
    u.pairCommand cid e = (u.naming e).respond 0x31 cid 0 1 u.holder := by
  have hok : ¬ (engineReserved e = true ∧ e ≠ 0x7FFF) := by
    rintro ⟨hr, he⟩
    have hr : 20480 ≤ e := of_decide_eq_true hr
    omega
  have hstays : ¬ (e ≠ 0x7FFF ∧ (u.naming e).launch.running = true ∧ (u.naming e).rf .kprSecPairHolderValid 0 = 0) := by
    rintro ⟨he, -, hnone⟩
    obtain ⟨-, hheld⟩ | hnames := h
    · exact absurd (hheld.symm.trans hnone) (by decide)
    · exact he hnames
  refine (if_neg hok).trans ?_
  exact congrArg (fun v : State => v.respond 0x31 cid 0 1 v.holder) (if_neg hstays)

/-! ### RUN_DIGEST -/

theorem State.runRecompute_fresh {s : State} (h : s.run.stale = false) : s.runRecompute = s := if_neg (by simp [h])

theorem State.runRecompute_stale {s : State} (h : s.run.stale = true) :
    s.runRecompute = ({ s with run := { s.run with stale := false } } : State).put .kprRunDigestDigest 0 s.runDigest := if_pos h

/-- A digest that the host supplies (R373): the run takes it, its bit of RUN_STATUS is set, and the Run Digest is to be formed anew. -/
def State.supplied (s : State) (r : RunSt) (F : RF) : State := ({ s with run := { r with stale := true } } : State).put F 0 1

theorem State.sameRegs_supplied (s : State) (r : RunSt) (F : RF) : SameRegs s (s.supplied r F) [(F, 0)] :=
  (SameRegs.of_regs_eq _ rfl).put 1 (List.mem_singleton.mpr rfl)

theorem State.setWeights_eq (s : State) (cid v : Nat) :
    s.setWeights cid v = (s.supplied { s.run with weights := v } .kprRunStatusWeightsSet).respond 0x70 cid 0 1 0 := rfl

theorem State.setInput_eq (s : State) (cid v : Nat) :
    s.setInput cid v = (s.supplied { s.run with input := v } .kprRunStatusInputSet).respond 0x70 cid 0 1 0 := rfl

/-! ### The settlement -/

theorem testCommand_answers {s : State} {cid : BitVec 32} (unit : BitVec 19) (mode : BitVec 2) (h : s.canAnswer 0x50 cid.toNat) :
    (tileOk unit.toNat = false ∨ mode = 3 → Completes (exec (.test cid unit mode) s) (fun t => RefusedAlone s t 0x50 cid.toNat 7)) ∧
    (tileOk unit.toNat = true → mode ≠ 3 → s.orderable unit.toNat = false →
      Completes (exec (.test cid unit mode) s) (fun t => RefusedAlone s t 0x50 cid.toNat 9)) ∧
    (tileOk unit.toNat = true → mode ≠ 3 → s.orderable unit.toNat = true → Completes (exec (.test cid unit mode) s) (fun t =>
      ∃ u, u = { s with host := u.host, regs := u.regs } ∧ SameRegs s u creditRegs ∧
        t = u.orderVisit unit.toNat mode.toNat (.host cid.toNat))) := by
  obtain ⟨u, happly, hu⟩ := s.asHost_applies h (fun t => t.testCommand cid.toNat unit.toNat mode.toNat)
  have hexec : exec (.test cid unit mode) s = .next (u.testCommand cid.toNat unit.toNat mode.toNat) := congrArg Host.Outcome.next happly
  have hmode : mode = 3 ↔ mode.toNat = 3 := BitVec.toNat_inj.symm
  have ⟨honly, _, hregs⟩ := hu
  have hsame := honly.orderable hregs unit.toNat
  refine ⟨fun hbad => .of_next hexec ?badArg, fun hk hm hno => .of_next hexec ?refused, fun hk hm hyes => .of_next hexec ?ordered⟩
  case badArg => exact State.testCommand_badArg cid.toNat (hbad.imp_right hmode.mp) ▸ State.respond_refuses 7 0 h hu
  case refused =>
    rw [State.testCommand_orders cid.toNat hk (mt hmode.mpr hm), hsame, hno]
    exact State.respond_refuses 9 0 h hu
  case ordered =>
    rw [State.testCommand_orders cid.toNat hk (mt hmode.mpr hm), hsame, hyes]
    exact ⟨u, honly, hregs, rfl⟩

theorem jobKeyLoad_answers {s : State} {cid : BitVec 32} (key : BitVec 256) (h : s.canAnswer 0x30 cid.toNat) :
    (s.launch.running = true → Completes (exec (.jobKeyLoad cid key) s) (fun t => RefusedAlone s t 0x30 cid.toNat 9)) ∧
    (s.launch.running = false → key = 0 → Completes (exec (.jobKeyLoad cid key) s) (fun t => RefusedAlone s t 0x30 cid.toNat 7)) ∧
    (s.launch.running = false → key ≠ 0 → Completes (exec (.jobKeyLoad cid key) s) (fun t => Responded s t 0x30 cid.toNat 0 ∧
      t.jobKey = some key.toNat ∧ t.rf .kprDigKeyLoaded 0 = 1 ∧ SameRegs s t ((.kprDigKeyLoaded, 0) :: creditRegs))) := by
  obtain ⟨u, happly, hu⟩ := s.asHost_applies h (fun t => t.keyLoad cid.toNat key.toNat)
  have hexec : exec (.jobKeyLoad cid key) s = .next (u.keyLoad cid.toNat key.toNat) := congrArg Host.Outcome.next happly
  have hrun : u.launch = s.launch := hu.1.launch
  refine ⟨fun hr => .of_next hexec ?running, fun hr hz => .of_next hexec ?zero, fun hr hz => .of_next hexec ?stored⟩
  case running =>
    rw [State.keyLoad, hrun, hr]
    exact State.respond_refuses 9 0 h hu
  case zero =>
    rw [State.keyLoad, hrun, hr, hz]
    exact State.respond_refuses 7 0 h hu
  case stored =>
    have hkey : key.toNat ≠ 0 := fun e => hz (BitVec.eq_of_toNat_eq e)
    rw [State.keyLoad_stores cid.toNat (by rw [hrun, hr]) hkey]
    obtain ⟨hresp, hregs, hframe, hafter⟩ := State.respond_after_work (v := u.keyStored key.toNat) (l := [(.kprDigKeyLoaded, 0)]) 0 1 0 h hu rfl
      ((SameRegs.of_regs_eq _ rfl).put 1 (by simp)) (by decide)
    exact ⟨hresp.responded, hframe.jobKey, (hafter .kprDigKeyLoaded 0 (by decide)).trans (State.rf_put_same _ _ _ _), hregs⟩

theorem jobKeyZeroise_answers {s : State} {cid : BitVec 32} (h : s.canAnswer 0x30 cid.toNat) (hidle : s.launch.running = false) :
    Completes (exec (.jobKeyZeroise cid) s) (fun t => Responded s t 0x30 cid.toNat 0 ∧ t.jobKey = none ∧
      t.sec.sessionKey = none ∧ t.rf .kprDigKeyLoaded 0 = 0 ∧
      SameRegs s t ((.kprDigKeyLoaded, 0) :: (.kprDigKeyTagsActive, 0) :: (.kprDigKeyZeroisePending, 0) :: creditRegs)) := by
  obtain ⟨u, happly, hu⟩ := s.asHost_applies h (fun t => (t.zeroise t.launch.running).respond 0x30 cid.toNat 0 1 0)
  have hclears : u.zeroise u.launch.running = u.keysCleared := by rw [hu.1.launch, hidle, State.zeroise_idle]
  have hexec : exec (.jobKeyZeroise cid) s = .next (u.keysCleared.respond 0x30 cid.toNat 0 1 0) :=
    (congrArg Host.Outcome.next happly).trans (by rw [hclears])
  obtain ⟨hresp, hregs, hframe, hafter⟩ := State.respond_after_work (v := u.keysCleared) 0 1 0 h hu rfl u.sameRegs_keysCleared (by decide)
  exact .of_next hexec ⟨hresp.responded, hframe.jobKey, congrArg (·.sessionKey) hframe.sec,
    (hafter .kprDigKeyLoaded 0 (by decide)).trans u.keysCleared_loaded, hregs⟩

theorem pair_answers {s : State} {cid : BitVec 32} (e : BitVec 15) (h : s.canAnswer 0x31 cid.toNat) :
    (20480 ≤ e.toNat → e.toNat ≠ 0x7FFF → Completes (exec (.pair cid e) s) (fun t => RefusedAlone s t 0x31 cid.toNat 7)) ∧
    (e.toNat < 20480 → s.rf .kprSecPairHolderValid 0 = 1 → Completes (exec (.pair cid e) s) (fun t =>
      RespondedWith s t 0x31 cid.toNat 0 (fun p => p = s.rf .kprSecPairHolder 0) ∧ t.sec = { s.sec with hostNamed := some e.toNat } ∧
        SameRegs s t creditRegs)) ∧
    (e.toNat = 0x7FFF → Completes (exec (.pair cid e) s) (fun t => Responded s t 0x31 cid.toNat 0 ∧
      t.sec = { s.sec with hostNamed := none })) := by
  obtain ⟨u, happly, hu⟩ := s.asHost_applies h (fun t => t.pairCommand cid.toNat e.toNat)
  have hexec : exec (.pair cid e) s = .next (u.pairCommand cid.toNat e.toNat) := congrArg Host.Outcome.next happly
  have ⟨honly, _, htaken⟩ := hu
  have hnamed := State.respond_after_work (v := u.naming e.toNat) (l := []) 0 1 u.holder h hu rfl (.of_regs_eq _ rfl) (by decide)
  obtain ⟨hresp, hregs, hframe, -⟩ := hnamed
  refine ⟨fun hr he => .of_next hexec ?reserved, fun hlt hv => .of_next hexec ?held, fun he => .of_next hexec ?none⟩
  case reserved => exact State.pairCommand_reserved cid.toNat hr he ▸ State.respond_refuses 7 0 h hu
  case held =>
    have hvalid : u.rf .kprSecPairHolderValid 0 = 1 := (htaken .kprSecPairHolderValid 0 (by decide)).trans hv
    have hholder : u.holder = s.rf .kprSecPairHolder 0 := (if_pos hvalid).trans (htaken .kprSecPairHolder 0 (by decide))
    rw [State.pairCommand_names cid.toNat (.inl ⟨hlt, hvalid⟩)]
    refine ⟨hholder ▸ hresp, ?_, hregs⟩
    rw [hframe.sec, State.naming, if_neg (by omega), honly.sec]
  case none =>
    rw [State.pairCommand_names cid.toNat (.inr he)]
    refine ⟨hresp.responded, ?_⟩
    rw [hframe.sec, State.naming, if_pos he, honly.sec]

theorem State.supplied_answers {s u : State} {cid : Nat} (r : RunSt) (F : RF) (h : s.canAnswer 0x70 cid) (hu : Taking s u)
    (hF : (RF.hptStatusAttached, 0) ∉ [(F, 0)]) (hc : (F, 0) ∉ creditRegs) (hw : 1 % 2 ^ F.spec.width = 1) :
    let t := (u.supplied r F).respond 0x70 cid 0 1 0
    Responded s t 0x70 cid 0 ∧ t.run = { r with stale := true } ∧ SameRegs s t ((F, 0) :: creditRegs) ∧ t.rf F 0 = 1 := by
  intro t
  obtain ⟨hresp, hregs, hframe, hafter⟩ := State.respond_after_work (v := u.supplied r F) 0 1 0 h hu rfl (u.sameRegs_supplied r F) hF
  exact ⟨hresp.responded, hframe.run, hregs, (hafter F 0 hc).trans ((State.rf_put_same _ _ _ _).trans hw)⟩

theorem runDigest_answers {s : State} {cid : BitVec 32} (digest : BitVec 256) (h : s.canAnswer 0x70 cid.toNat) :
    Completes (exec (.runDigestQuery cid) s) (fun t =>
      t = { s with regs := t.regs, host := t.host, ledger := { s.ledger with cmds := s.ledger.cmds ++ [⟨0x70, cid.toNat, 0, 0⟩] } } ∧
      t.host.outQ = s.host.outQ ∧ SameRegs s t creditRegs) ∧
    (s.run.stale = false → RespondedWith s (s.runQuery cid.toNat) 0x70 cid.toNat 0 (fun p => p = s.runRecord) ∧
      (s.runQuery cid.toNat).run = s.run ∧ SameRegs s (s.runQuery cid.toNat) creditRegs) ∧
    Completes (exec (.runDigestSetWeights cid digest) s) (fun t => Responded s t 0x70 cid.toNat 0 ∧
      t.run = { s.run with weights := digest.toNat, stale := true } ∧ SameRegs s t ((.kprRunStatusWeightsSet, 0) :: creditRegs) ∧
      t.rf .kprRunStatusWeightsSet 0 = 1) ∧
    Completes (exec (.runDigestSetInput cid digest) s) (fun t => Responded s t 0x70 cid.toNat 0 ∧
      t.run = { s.run with input := digest.toNat, stale := true } ∧ SameRegs s t ((.kprRunStatusInputSet, 0) :: creditRegs) ∧
      t.rf .kprRunStatusInputSet 0 = 1) := by
  refine ⟨.of_next rfl ?lodged, fun hfresh => ?answered, ?weights, ?input⟩
  case lodged =>
    obtain ⟨hlodged, hq, hregs, -⟩ := s.asHost_lodges 0x70 cid.toNat 0 0 h
    exact ⟨hlodged, hq, hregs⟩
  case answered =>
    rw [State.runQuery, State.runRecompute_fresh hfresh]
    obtain ⟨hresp, hregs, hframe⟩ := s.respond_applied (s := s) 0 2 s.runRecord h rfl rfl
    exact ⟨hresp, hframe.run, hregs⟩
  case weights =>
    obtain ⟨u, happly, hu⟩ := s.asHost_applies h (fun t => t.setWeights cid.toNat digest.toNat)
    rw [u.setWeights_eq, hu.1.run] at happly
    exact .of_next (congrArg Host.Outcome.next happly)
      (State.supplied_answers { s.run with weights := digest.toNat } .kprRunStatusWeightsSet h hu (by decide) (by decide) (by decide))
  case input =>
    obtain ⟨u, happly, hu⟩ := s.asHost_applies h (fun t => t.setInput cid.toNat digest.toNat)
    rw [u.setInput_eq, hu.1.run] at happly
    exact .of_next (congrArg Host.Outcome.next happly)
      (State.supplied_answers { s.run with input := digest.toNat } .kprRunStatusInputSet h hu (by decide) (by decide) (by decide))

/-- Settles O34, one lemma for each command. -/
theorem hostKeysTestsAndDigests : Obligations.HostKeysTestsAndDigests := by
  unfold Obligations.HostKeysTestsAndDigests
  intro s cid unit mode key e
  refine ⟨testCommand_answers unit mode, fun h => ?keys, pair_answers e, runDigest_answers key, fun hstale => .of_next rfl ?formed,
    fun hfresh => congrArg Host.Outcome.next (State.runRecompute_fresh hfresh)⟩
  case keys =>
    obtain ⟨hrunning, hzero, hstored⟩ := jobKeyLoad_answers key h
    exact ⟨hrunning, hzero, hstored, jobKeyZeroise_answers h⟩
  case formed =>
    rw [State.runRecompute_stale hstale]
    exact ⟨rfl, (SameRegs.of_regs_eq _ rfl).put _ (by simp), State.rf_put_same _ _ _ _⟩

end Sys2Proof.Machine
end

section
/-! Records field by field (R2), the lines and seals of a tile's SRAM (R99, R158), and what the resident scrub does with them
(05_digests.md R157 to R162). -/

namespace Sys2Proof.Machine

/-! ### A field of a record by its place in the list -/

/-- A field that stands apart from the others reads its value. -/
theorem bits_pack_at {l : List (Nat × Nat × Nat)} {lo w v x : Nat} (i : Nat) (hi : l[i]? = some (lo, w, v)) (hv : v % 2 ^ w = x)
    (h : (l.eraseIdx i).all (fun e => decide (e.1 + e.2.1 ≤ lo ∨ lo + w ≤ e.1)) = true) : bits (pack l) lo w = x := by
  obtain ⟨hlt, hget⟩ := List.getElem?_eq_some_iff.mp hi
  rw [List.eraseIdx_eq_take_drop_succ] at h
  rw [← List.take_append_drop i l, List.drop_eq_getElem_cons hlt, hget, ← hv]
  exact bits_pack_field _ _ _ _ _ fun e he => of_decide_eq_true (List.all_eq_true.mp h e he)

/-- The same of a record with its check. -/
theorem bits_withCrc16_pack_at {l : List (Nat × Nat × Nat)} {n lo w v x : Nat} (i : Nat) (hi : l[i]? = some (lo, w, v)) (hv : v % 2 ^ w = x)
    (h : (l.eraseIdx i).all (fun e => decide (e.1 + e.2.1 ≤ lo ∨ lo + w ≤ e.1)) = true) (hn : lo + w ≤ 8 * n) :
    bits (withCrc16 n (pack l)) lo w = x :=
  (bits_withCrc16 n _ hn).trans (bits_pack_at i hi hv h)

/-- Bits of a number exchanged at a place. -/
theorem bits_exchange {lo w d : Nat} (old : Nat) (hd : d < 2 ^ w) : bits (old ^^^ (bits old lo w ^^^ d) <<< lo) lo w = d :=
  Nat.eq_of_testBit_eq fun i => by
    rw [testBit_bits, Nat.testBit_xor, Nat.testBit_shiftLeft, Nat.testBit_xor, Nat.add_sub_cancel_left, testBit_bits]
    by_cases hi : i < w
    · simp [hi]
    · simp [hi, Nat.testBit_lt_two_pow (hd.trans_le (Nat.pow_le_pow_right (by decide) (not_lt.mp hi)))]

/-! ### Lines and seals -/

@[simp] theorem State.isSealed_setSealed_same (s : State) (k b : Nat) (v : Bool) : (s.setSealed k b v).isSealed k b = v :=
  Tab.get_set_same _ _ _ _

theorem State.isSealed_setSealed_other (s : State) {k b j c : Nat} (v : Bool) (hb : b < 384) (hc : c < 384) (h : (j, c) ≠ (k, b)) :
    (s.setSealed k b v).isSealed j c = s.isSealed j c :=
  Tab.get_set_other _ _ _ _ _ fun e => h (by rw [Prod.mk.injEq]; omega)

/-- The place of an entry's digest: eight bytes within one line of the tile (R157). -/
def digestPlace (tb : ResidentTable) (e : Nat) : Nat := tb.base + 144 + 16 * e

theorem State.blockDigest_lt (s : State) (k seed b : Nat) : s.blockDigest k seed b < 2 ^ 64 :=
  (Nat.mod_lt _ (by decide)).trans (show p61 < 2 ^ 64 by decide)

section
variable {tb : ResidentTable} {e : Nat} (halign : tb.base % 16 = 0) (hfits : tb.base + 144 + 16 * e + 8 ≤ 98304)
include hfits

/-- The line that holds an entry's digest, with the digest exchanged. -/
theorem State.writeDigest_eq (s : State) (k d : Nat) :
    s.writeDigest k tb e d = s.setSram k (digestPlace tb e / 128) (s.sramLine k (digestPlace tb e / 128) ^^^
      (bits (s.sramLine k (digestPlace tb e / 128)) (8 * (digestPlace tb e % 128)) 64 ^^^ d) <<< (8 * (digestPlace tb e % 128))) :=
  if_pos (show digestPlace tb e / 128 < 768 by rw [digestPlace]; omega)

theorem State.sramLine_writeDigest_other (s : State) (k d : Nat) {n : Nat} (hn : n ≠ digestPlace tb e / 128) :
    (s.writeDigest k tb e d).sramLine k n = s.sramLine k n := by
  rw [s.writeDigest_eq hfits]
  exact s.sramLine_setSram_other _ _ _ _ _ (by rw [digestPlace]; omega) (by simpa using hn)

theorem State.writeDigest_frame (s : State) (k d : Nat) :
    s.writeDigest k tb e d = { s with sram := (s.writeDigest k tb e d).sram } := by
  rw [s.writeDigest_eq hfits]
  rfl

include halign

theorem State.storedDigest_writeDigest (s : State) (k : Nat) {d : Nat} (hd : d < 2 ^ 64) :
    (s.writeDigest k tb e d).storedDigest k tb e = d := by
  have hline : digestPlace tb e / 128 < 768 := by rw [digestPlace]; omega
  have hplace : 8 * (digestPlace tb e % 128) + 64 ≤ 1024 := by rw [digestPlace]; omega
  change bits ((s.writeDigest k tb e d).sramLine k (digestPlace tb e / 128)) (8 * (digestPlace tb e % 128)) 64 = d
  rw [s.writeDigest_eq hfits, s.sramLine_setSram _ _ _ hline, bits_mod_two_pow _ hplace, bits_exchange _ hd]

end

/-! ### The scrub record (R161) -/

theorem bits_scrubRecord {k block stored d : Nat} (q : Nat) (frozen : Bool) (hk : k < 2 ^ 19) (hb : block < 2 ^ 9) (hs : stored < 2 ^ 64)
    (hd : d < 2 ^ 64) :
    let r := scrubRecord k block q stored d frozen
    bits r 4 4 = 1 ∧ bits r 8 1 = bit frozen ∧ bits r 16 9 = block ∧ bits r 32 19 = k ∧ bits r 64 64 = stored ∧ bits r 128 64 = d := by
  dsimp only [scrubRecord]
  exact ⟨bits_withCrc16_pack_at 1 rfl rfl rfl (by decide),
    bits_withCrc16_pack_at 2 rfl (by cases frozen <;> rfl) rfl (by decide),
    bits_withCrc16_pack_at 3 rfl (Nat.mod_eq_of_lt hb) rfl (by decide),
    bits_withCrc16_pack_at 4 rfl (Nat.mod_eq_of_lt hk) rfl (by decide),
    bits_withCrc16_pack_at 5 rfl (Nat.mod_eq_of_lt hs) rfl (by decide),
    bits_withCrc16_pack_at 6 rfl (Nat.mod_eq_of_lt hd) rfl (by decide)⟩

theorem recordOk_scrubRecord (k block q stored d : Nat) (frozen : Bool) : recordOk (scrubRecord k block q stored d frozen) 30 = true :=
  by
  unfold scrubRecord
  exact recordOk_withCrc16 (by decide) (pack_lt_two_pow _ (by simp)) (bits_pack_at 0 rfl rfl rfl)

/-! ### One entry of a visit (R159) -/

section
variable {k q e blk win : Nat} {tb : ResidentTable} (he : tb.entries[e]? = some (blk, win))
include he

theorem State.scrubEntry_open (s : State) (ho : blockOpen tb (blk, win) q = true) : s.scrubEntry k q tb e = s := by
  simp [State.scrubEntry, he, ho]

variable (ho : blockOpen tb (blk, win) q = false)
include ho

theorem State.scrubEntry_dirty (s : State) (hw : win ≠ 15) (hs : s.isSealed k blk = false) :
    s.scrubEntry k q tb e = (s.writeDigest k tb e (s.blockDigest k tb.seed blk)).setSealed k blk true := by
  simp [State.scrubEntry, he, ho, isFrozen, hw, hs]

theorem State.scrubEntry_checked (s : State) (hw : win = 15 ∨ s.isSealed k blk = true) :
    s.scrubEntry k q tb e = if s.storedDigest k tb e = s.blockDigest k tb.seed blk then s else
      s.sendRecord k (scrubRecord k blk q (s.storedDigest k tb e) (s.blockDigest k tb.seed blk) (isFrozen (blk, win))) := by
  have hchecked : (!isFrozen (blk, win) && !s.isSealed k blk) = false := by
    obtain rfl | hs := hw
    · rfl
    · rw [hs, Bool.not_true, Bool.and_false]
  simp [State.scrubEntry, he, ho, hchecked]

end

/-! ### Visits (R159, R160) -/

theorem State.scrubRun_held {s : State} {k : Nat} (h : s.portHeld k = true) (n q : Nat) : State.scrubRun n s k q = s := by
  cases n with
  | zero => rfl
  | succ n => exact if_pos h

/-- One entry taken by the only visit there is. -/
theorem State.scrubRun_one {s : State} {k e : Nat} {rest : List Nat} {tb : ResidentTable} (hp : s.portHeld k = false)
    (hv : s.scrubs = [⟨k, e :: rest⟩]) (ht : s.residentTable k = some tb) (q : Nat) :
    State.scrubRun 1 s k q = State.scrubEntry { s with scrubs := [⟨k, rest⟩] } k q tb e := by
  simp [State.scrubRun, hp, hv, ht]

theorem exec_scrubVisitResume {s : State} {k e : Nat} {rest : List Nat} (hk : tileOk k = true) (hv : s.scrubs = [⟨k, e :: rest⟩])
    (x n : Nat) (pos : BitVec 32) :
    exec (.scrubVisitResume k x n pos) s = .next (if e = x then State.scrubRun n s k pos.toNat else s) := by
  refine (onTile_next hk s _).trans ?_
  simp [hv]

/-! ### Passes (R160) -/

theorem toFin32_val (f : Fin 32) : toFin32 f.val = f := Fin.ext (Nat.mod_eq_of_lt f.isLt)

theorem State.passStart_due {s : State} {f : Fin 32} (hon : s.fnOn (.fieldScrub f) = true) (hup : s.stationUp f = true)
    (hdue : (s.field f.val).scrubAt + 1000000 * clamp 1 3600 (s.rf .fstScrubCtrlPeriodS f.val) ≤ s.now) :
    s.passStart f.val =
      let s1 := if s.scrubUw < 4000 then s.put .fstScrubStatusScrubLate f.val 1 else s
      if (s1.field f.val).scrubOn then s1.put .fstScrubStatusScrubLate f.val 1 else (s1.beginPass f.val).passEnd f.val :=
  if_pos (by simp [toFin32_val, hon, hup, State.scrubPeriod, hdue])

/-- A pass with a tile left to visit goes on. -/
theorem State.passEnd_waits {s : State} {f : Nat} (h : (s.scrubNextOf f).isSome = true) : s.passEnd f = s :=
  if_neg fun ⟨_, hnone, _⟩ => by simp [hnone] at h

theorem State.passEnd_off {s : State} {f : Nat} (h : (s.field f).scrubOn = false) : s.passEnd f = s :=
  if_neg fun ⟨hon, _⟩ => by simp [hon] at h

theorem State.passStart_begins {s : State} {f : Fin 32} (hon : s.fnOn (.fieldScrub f) = true) (hup : s.stationUp f = true)
    (hdue : (s.field f.val).scrubAt + 1000000 * clamp 1 3600 (s.rf .fstScrubCtrlPeriodS f.val) ≤ s.now) (hfed : 4000 ≤ s.scrubUw)
    (hoff : (s.field f.val).scrubOn = false) (hnext : ((s.beginPass f.val).scrubNextOf f.val).isSome = true) :
    s.passStart f.val = s.beginPass f.val := by
  rw [State.passStart_due hon hup hdue]
  simp only [if_neg (Nat.not_lt.mpr hfed), hoff, Bool.false_eq_true, if_false]
  exact State.passEnd_waits hnext

/-- A pass that is due while the one before it runs is late. -/
theorem State.passStart_late {s : State} {f : Fin 32} (hon : s.fnOn (.fieldScrub f) = true) (hup : s.stationUp f = true)
    (hdue : (s.field f.val).scrubAt + 1000000 * clamp 1 3600 (s.rf .fstScrubCtrlPeriodS f.val) ≤ s.now)
    (hrun : (s.field f.val).scrubOn = true) :
    OnlyRegs s (s.passStart f.val) [(.fstScrubStatusScrubLate, f.val)] ∧ (s.passStart f.val).rf .fstScrubStatusScrubLate f.val = 1 := by
  rw [State.passStart_due hon hup hdue]
  by_cases hpoor : s.scrubUw < 4000
  · simp only [if_pos hpoor, show ((s.put .fstScrubStatusScrubLate f.val 1).field f.val).scrubOn = true from hrun, if_true]
    exact ⟨⟨rfl, (s.sameRegs_put 1 (by simp)).put 1 (by simp)⟩, State.rf_put_same _ _ _ _⟩
  · simp only [if_neg hpoor, hrun, if_true]
    exact s.put_sets _ _ (by decide)

/-! ### The visit of a turn (R159, R160) -/

section
variable {s : State} {k : Nat} (hturn : s.scrubTurn = some (tileField k)) (hnext : (s.scrubNextOf (tileField k)).map s.serving = some k)
  (hshare : s.scrubs.length < s.scrubUw / 4000) {tb : ResidentTable} (ht : s.residentTable k = some tb)
include hturn hnext hshare ht

/-- A visit that begins and takes no entry yet. -/
theorem State.scrubStart_begins (hw : s.wtc < 2 ^ 64) (q : Nat) :
    let t := s.scrubStart k 0 q
    SameTiles s t k ∧ SameFields s t (tileField k) ∧ SameRegs s t [(.tsnScrubLastWtcWtc, k), (.fstScrubStatusActive, tileField k)] ∧
      t.rf .tsnScrubLastWtcWtc k = s.wtc ∧ (t.tile k).scrubPrev = s.rf .tsnScrubLastWtcWtc k ∧ t.scrubNext = (tileField k + 1) % 32 ∧
      t.tables = s.tables ∧ t.sram = s.sram ∧
      ∃ v, t.scrubs = s.scrubs ++ [v] ∧ v.tile = k ∧ v.left = List.range tb.entries.length := by
  intro t
  have heq : t = _ := if_pos ⟨hturn, hnext, hshare⟩
  simp only [State.scrubRun, ht] at heq
  rw [heq]
  refine ⟨s.sameTiles_setTile k _, s.sameFields_setField (tileField k) _, ?regs, ?wtc, ?prev, rfl, rfl, rfl, _, rfl, rfl, rfl⟩
  case regs => exact (s.sameRegs_put s.wtc (by simp)).trans ((SameRegs.of_regs_eq _ rfl).put _ (by simp))
  case wtc =>
    refine (State.rf_put_field _ .fstScrubStatusActive .tsnScrubLastWtcWtc _ _ _ (by decide)).trans ?_
    exact (s.rf_put_same .tsnScrubLastWtcWtc k s.wtc).trans (Nat.mod_eq_of_lt hw)
  case prev => exact congrArg Tile.scrubPrev (s.tile_setTile_same k _)

end

/-- A visit is over while no pass runs. -/
theorem State.scrubEnd_done {s : State} {k : Nat} (hv : ∃ v ∈ s.scrubs, v.tile = k ∧ v.left = [])
    (hoff : (s.field (tileField k)).scrubOn = false) :
    s.scrubEnd k = ({ s with scrubs := s.scrubs.filter (fun v => decide (v.tile ≠ k)) } : State).showScrub (tileField k) := by
  rw [State.scrubEnd, if_pos (by simpa using hv)]
  exact State.passEnd_off hoff

theorem State.scrubEnd_waits {s : State} {k : Nat} (hv : ∀ v ∈ s.scrubs, v.tile = k → v.left ≠ []) : s.scrubEnd k = s :=
  if_neg (by simpa using hv)

/-! ### Writes of a tile (R158) -/

theorem State.captureWrite_none {s : State} {k : Nat} (h : s.episodeOf k = none) (line data : Nat) : s.captureWrite k line data = s := by
  rw [State.captureWrite, h]

/-- A write to a block inside its window. -/
theorem State.tileWrite_open {s : State} {k line q win : Nat} {tb : ResidentTable} (ht : s.residentTable k = some tb)
    (hm : (line / 2, win) ∈ tb.entries) (ho : blockOpen tb (line / 2, win) q = true) (he : s.episodeOf k = none) (data : Nat) :
    s.tileWrite k line data q = (s.setSealed k (line / 2) false).setSram k line data := by
  have hany : tb.entries.any (fun e => decide (e.1 = line / 2) && blockOpen tb e q) = true :=
    List.any_eq_true.mpr ⟨_, hm, by simp [ho]⟩
  have he' : (s.setSealed k (line / 2) false).episodeOf k = none := he
  simp only [State.tileWrite, ht, hany, if_true, State.captureWrite_none he']

/-! ### Records (R161) -/

theorem State.scrubArrival_bad {s : State} {rec : Nat} (f : Nat) (h : recordOk rec 30 = false) :
    s.scrubArrival f rec = s.put .fstScrubStatusRecordCrc f 1 := if_neg (by simp [h])

/-- A good record, counted, in a slice with room. -/
theorem State.scrubArrival_good {s : State} {f rec : Nat} (h : recordOk rec 30 = true) (hroom : s.sliceDepth (tileField (bits rec 32 19)) < 511)
    (hc : s.rf .fstScrubMismatchMismatches f + 1 < 2 ^ RF.fstScrubMismatchMismatches.spec.width) :
    s.scrubArrival f rec = { s.put .fstScrubMismatchMismatches f (s.rf .fstScrubMismatchMismatches f + 1) with
      events := s.events ++ [⟨5, locTile (bits rec 32 19), s.now, [.detect (tileKey (bits rec 32 19)) 0x006 2,
        .void (s.tile (bits rec 32 19)).scrubPrev, .post 3 f (bits rec 32 19) 32 rec false]⟩] } := by
  rw [State.scrubArrival, if_pos h, State.bump_eq_put _ _ _ hc]
  exact State.sample_of_room (locField_locTile _) (by exact hroom) _ _

/-! ### The settlement -/

theorem scrubPasses (s : State) (f : Fin 32) (k : Nat) (tb : ResidentTable) (pos : BitVec 32) :
    (s.fnOn (.fieldScrub f) = true → s.stationUp f = true →
      (s.field f.val).scrubAt + 1000000 * clamp 1 3600 (s.rf .fstScrubCtrlPeriodS f.val) ≤ s.now → 4000 ≤ s.scrubUw →
      (s.field f.val).scrubOn = false →
      (∀ u : State, u = s.setField f.val { s.field f.val with scrubOn := true, scrubPos := 0, scrubAt := s.now } →
        (u.scrubNextOf f.val).isSome = true) →
      Completes (exec (.scrubPassStart f) s) (fun t => t = { s with fields := t.fields } ∧ SameFields s t f.val ∧
        t.field f.val = { s.field f.val with scrubOn := true, scrubPos := 0, scrubAt := s.now })) ∧
    (s.fnOn (.fieldScrub f) = true → s.stationUp f = true →
      (s.field f.val).scrubAt + 1000000 * clamp 1 3600 (s.rf .fstScrubCtrlPeriodS f.val) ≤ s.now →
      (s.field f.val).scrubOn = true → Completes (exec (.scrubPassStart f) s) (fun t => t.rf .fstScrubStatusScrubLate f.val = 1 ∧
        (t.field f.val).scrubAt = (s.field f.val).scrubAt ∧ SameRegs s t [(.fstScrubStatusScrubLate, f.val)])) ∧
    (tileOk k = true → s.scrubTurn = some (tileField k) → (s.scrubNextOf (tileField k)).map s.serving = some k →
      s.scrubs.length < s.scrubUw / 4000 → s.residentTable k = some tb → s.wtc < 2 ^ 64 →
      Completes (exec (.scrubVisitStart k 0 pos) s) (fun t => SameTiles s t k ∧ SameFields s t (tileField k) ∧
        SameRegs s t [(.tsnScrubLastWtcWtc, k), (.fstScrubStatusActive, tileField k)] ∧ t.rf .tsnScrubLastWtcWtc k = s.wtc ∧
        (t.tile k).scrubPrev = s.rf .tsnScrubLastWtcWtc k ∧ t.scrubNext = (tileField k + 1) % 32 ∧
        t.tables = s.tables ∧ t.sram = s.sram ∧ ∃ v, t.scrubs = s.scrubs ++ [v] ∧ v.tile = k ∧ v.left = List.range tb.entries.length)) ∧
    (tileOk k = true → (∃ v ∈ s.scrubs, v.tile = k ∧ v.left = []) → (s.field (tileField k)).scrubOn = false →
      Completes (exec (.scrubVisitEnd k) s) (fun t => t.scrubs = s.scrubs.filter (fun v => decide (v.tile ≠ k)) ∧
        SameRegs s t [(.fstScrubStatusActive, tileField k)] ∧ t.tables = s.tables ∧ t.fields = s.fields)) ∧
    (tileOk k = true → (∀ v ∈ s.scrubs, v.tile = k → v.left ≠ []) → exec (.scrubVisitEnd k) s = .next s) := by
  refine ⟨fun hon hup hdue hfed hoff hnext => .of_next (congrArg Host.Outcome.next (State.passStart_begins hon hup hdue hfed hoff (hnext _ rfl)))
      ⟨rfl, s.sameFields_setField f.val _, s.field_setField_same f.val _⟩,
    fun hon hup hdue hrun => .of_next rfl ?late,
    fun hk hturn hnext hshare ht hw => .of_onTile hk rfl (State.scrubStart_begins hturn hnext hshare ht hw pos.toNat),
    fun hk hv hoff => .of_onTile hk rfl ?ends, fun hk hv => (onTile_next hk s _).trans (congrArg Host.Outcome.next (State.scrubEnd_waits hv))⟩
  case late =>
    obtain ⟨⟨hframe, hregs⟩, hlate⟩ := State.passStart_late hon hup hdue hrun
    have hfields : (s.passStart f.val).fields = s.fields := by rw [hframe]
    exact ⟨hlate, by rw [State.field, hfields, ← State.field], hregs⟩
  case ends =>
    rw [State.scrubEnd_done hv hoff]
    exact ⟨rfl, (SameRegs.of_regs_eq _ rfl).put _ (by simp), rfl, rfl⟩

theorem scrubVisits (s : State) (k e blk win : Nat) (rest : List Nat) (tb : ResidentTable) (pos : BitVec 32) (hk : tileOk k = true)
    (hv : s.scrubs = [⟨k, e :: rest⟩]) (ht : s.residentTable k = some tb) (he : tb.entries[e]? = some (blk, win)) (hb : blk < 384)
    (halign : tb.base % 16 = 0) (hfits : tb.base + 144 + 16 * e + 8 ≤ 98304) :
    let next := { s with scrubs := [⟨k, rest⟩] }
    let d := s.blockDigest k tb.seed blk
    (∀ x, x ≠ e → exec (.scrubVisitResume k x 1 pos) s = .next s) ∧
    (s.portHeld k = true → exec (.scrubVisitResume k e 1 pos) s = .next s) ∧
    (s.portHeld k = false → blockOpen tb (blk, win) pos.toNat = true → exec (.scrubVisitResume k e 1 pos) s = .next next) ∧
    (s.portHeld k = false → blockOpen tb (blk, win) pos.toNat = false →
      (win ≠ 15 → s.isSealed k blk = false → Completes (exec (.scrubVisitResume k e 1 pos) s) (fun t =>
        t = { next with sram := t.sram, sealed := t.sealed } ∧ t.isSealed k blk = true ∧ t.storedDigest k tb e = d ∧
        (∀ b, b ≠ blk → b < 384 → t.isSealed k b = s.isSealed k b) ∧
        ∀ n, n ≠ (tb.base + 144 + 16 * e) / 128 → t.sramLine k n = s.sramLine k n)) ∧
      (win = 15 ∨ s.isSealed k blk = true → s.storedDigest k tb e = d → exec (.scrubVisitResume k e 1 pos) s = .next next) ∧
      (win = 15 ∨ s.isSealed k blk = true → s.storedDigest k tb e ≠ d → Completes (exec (.scrubVisitResume k e 1 pos) s) (fun t =>
        t = { next with out := t.out } ∧ ∃ r, t.out = .record k r :: s.out ∧ bits r 4 4 = 1 ∧ bits r 8 1 = (if win = 15 then 1 else 0) ∧
          bits r 16 9 = blk ∧ bits r 32 19 = k ∧ bits r 64 64 = s.storedDigest k tb e ∧ bits r 128 64 = d ∧ recordOk r 30 = true))) := by
  intro next d
  have hexec : exec (.scrubVisitResume k e 1 pos) s = .next (State.scrubRun 1 s k pos.toNat) :=
    (exec_scrubVisitResume hk hv e 1 pos).trans (congrArg Host.Outcome.next (if_pos rfl))
  have hone : s.portHeld k = false → exec (.scrubVisitResume k e 1 pos) s = .next (next.scrubEntry k pos.toNat tb e) :=
    fun hp => hexec.trans (congrArg Host.Outcome.next (State.scrubRun_one hp hv ht pos.toNat))
  refine ⟨fun x hx => ?other, fun hp => ?held, fun hp ho => ?inWindow, fun hp ho =>
    ⟨fun hw hs => ?dirty, fun hw hd => ?agrees, fun hw hd => ?differs⟩⟩
  case other => rw [exec_scrubVisitResume hk hv, if_neg (Ne.symm hx)]
  case held => rw [hexec, State.scrubRun_held hp]
  case inWindow => rw [hone hp, next.scrubEntry_open he ho]
  case dirty =>
    refine .of_next (hone hp) ?_
    rw [next.scrubEntry_dirty he ho hw hs]
    refine ⟨?frame, State.isSealed_setSealed_same _ _ _ _,
      next.storedDigest_writeDigest halign hfits k (s.blockDigest_lt k tb.seed blk), fun b hne hlt => ?seals,
      fun n hn => next.sramLine_writeDigest_other hfits k d hn⟩
    case frame =>
      rw [next.writeDigest_frame hfits]
      rfl
    case seals =>
      rw [State.isSealed_setSealed_other _ true hb hlt (by simpa using hne), next.writeDigest_frame hfits]
      rfl
  case agrees =>
    rw [hone hp, next.scrubEntry_checked he ho hw]
    exact congrArg Host.Outcome.next (if_pos hd)
  case differs =>
    refine .of_next ((hone hp).trans ((congrArg Host.Outcome.next (next.scrubEntry_checked he ho hw)).trans
      (congrArg Host.Outcome.next (if_neg hd)))) ⟨rfl, _, rfl, ?_⟩
    obtain ⟨htype, hfrozen, hblock, htile, hstored, hcomputed⟩ := bits_scrubRecord pos.toNat (isFrozen (blk, win)) (lt_of_tileOk hk)
      (hb.trans (by decide)) (show s.storedDigest k tb e < 2 ^ 64 from Nat.mod_lt _ (by decide)) (s.blockDigest_lt k tb.seed blk)
    exact ⟨htype, hfrozen.trans (by simp [isFrozen, bit]), hblock, htile, hstored, hcomputed, recordOk_scrubRecord _ _ _ _ _ _⟩

/-- Settles O20: passes and visits, the entry that a visit takes, writes inside a window, and records. -/
theorem scrubPassesAndVisits : Obligations.ScrubPassesAndVisits := by
  unfold Obligations.ScrubPassesAndVisits
  refine ⟨scrubPasses, scrubVisits, fun s k line data pos tb win hk ht hm ho he => ?written,
    fun s f r => ⟨fun hbad => ?bad, fun hok _ hroom hc => ?good⟩⟩
  case written =>
    refine .of_onTile hk rfl ?_
    have hblock : line.val / 2 < 384 := by omega
    rw [State.tileWrite_open ht hm ho he]
    refine ⟨rfl, s.isSealed_setSealed_same k _ false, fun j b hne hb => s.isSealed_setSealed_other false hblock hb hne, ?line,
      fun j n hne => State.sramLine_setSram_other _ _ _ _ _ _ line.isLt hne⟩
    case line => rw [State.sramLine_setSram _ _ _ _ line.isLt, BitVec.toNat_mod_cancel]
  case bad => exact .of_put rfl (State.scrubArrival_bad f.val hbad) (by decide)
  case good =>
    refine .of_next (congrArg Host.Outcome.next (State.scrubArrival_good hok hroom hc))
      ⟨(s.sameRegs_put _ (by simp)).trans (.of_regs_eq _ rfl), ?_, rfl⟩
    exact (s.rf_put_same .fstScrubMismatchMismatches f.val _).trans (Nat.mod_eq_of_lt hc)

end Sys2Proof.Machine
end

section
/-! Announcements and the chorus table of a Warden (05_digests.md R143 to R146, R152): what leaves a Warden, what the table holds, and what an
event of the chorus leaves behind. -/

namespace Sys2Proof.Machine

/-! ### Announcements (R143) -/

/-- The check of a record does not see what is appended to it. -/
theorem recordOk_or_above {a n k : Nat} (b : Nat) (hn : 0 < n) (h : 8 * n + 16 ≤ k) : recordOk (a ||| b <<< k) n = recordOk a n := by
  have hbits : ∀ {lo w : Nat}, lo + w ≤ k → bits (a ||| b <<< k) lo w = bits a lo w :=
    fun hle => by rw [bits_or, bits_shiftLeft_above b hle, Nat.or_zero]
  have hbytes : bytesOf (a ||| b <<< k) 0 n = bytesOf a 0 n := by
    refine List.ext_getElem (by rw [bytesOf_length, bytesOf_length]) fun i hi hi' => ?_
    rw [bytesOf_length] at hi
    rw [bytesOf_get, bytesOf_get]
    exact hbits (by omega)
  rw [recordOk, recordOk, hbytes, hbits h, hbits (by omega)]

/-- An announcement without its tag: the fields of R143 and their check. -/
def annBody (ty mode coll inst chunk port engine len digest dest seq : Nat) (tag stale : Bool) : Nat :=
  withCrc16 30 (pack [(0, 4, 1), (4, 4, ty), (8, 2, mode), (10, 1, bit tag), (11, 1, bit stale), (16, 16, coll),
    (32, 32, inst), (64, 12, chunk), (76, 4, port), (80, 15, engine), (96, 21, len - 1), (128, 64, digest), (192, 15, dest), (208, 32, seq)])

theorem annBody_fields (ty mode coll inst chunk port engine len digest dest seq : Nat) (tag stale : Bool) :
    let b := annBody ty mode coll inst chunk port engine len digest dest seq tag stale
    recordOk b 30 = true ∧ bits b 4 4 = ty % 2 ^ 4 ∧ bits b 11 1 = bit stale ∧ bits b 16 16 = coll % 2 ^ 16 ∧
      bits b 128 64 = digest % 2 ^ 64 := by
  dsimp only [annBody]
  exact ⟨recordOk_withCrc16 (by decide) (pack_lt_two_pow _ (by simp)) (bits_pack_at 0 rfl rfl rfl),
    bits_withCrc16_pack_at 1 rfl rfl rfl (by decide),
    bits_withCrc16_pack_at 4 rfl (by cases stale <;> rfl) rfl (by decide),
    bits_withCrc16_pack_at 5 rfl rfl rfl (by decide),
    bits_withCrc16_pack_at 11 rfl rfl rfl (by decide)⟩

/-- An announcement as it leaves: with the tag, when tags are in force and a key is held, behind its first 32 bytes. -/
def State.annBytes (s : State) (k ty mode coll inst chunk port len digest dest : Nat) (stale : Bool) : Nat :=
  let tag := s.tagsOn && s.jobKey.isSome
  let body := annBody ty mode coll inst chunk port s.engine len digest dest (s.warden k).annSeq tag stale
  if tag then body ||| hmacNat (s.jobKey.getD 0) (bytesOf body 0 32) <<< 256 else body

/-- The tag stands behind the fields. -/
theorem State.annBytes_fields (s : State) (k ty mode coll inst chunk port len digest dest : Nat) (stale : Bool) :
    let b := s.annBytes k ty mode coll inst chunk port len digest dest stale
    recordOk b 30 = true ∧ bits b 4 4 = ty % 2 ^ 4 ∧ bits b 11 1 = bit stale ∧ bits b 16 16 = coll % 2 ^ 16 ∧
      bits b 128 64 = digest % 2 ^ 64 := by
  obtain ⟨hok, hty, hstale, hcoll, hdigest⟩ := annBody_fields ty mode coll inst chunk port s.engine len digest dest (s.warden k).annSeq
    (s.tagsOn && s.jobKey.isSome) stale
  unfold State.annBytes
  dsimp only
  split
  · have hbits : ∀ {a lo w : Nat} (h : Nat), lo + w ≤ 256 → bits (a ||| h <<< 256) lo w = bits a lo w :=
      fun h hle => by rw [bits_or, bits_shiftLeft_above h hle, Nat.or_zero]
    rw [recordOk_or_above _ (by decide) (by decide), hbits _ (by decide), hbits _ (by decide), hbits _ (by decide), hbits _ (by decide)]
    exact ⟨hok, hty, hstale, hcoll, hdigest⟩
  · exact ⟨hok, hty, hstale, hcoll, hdigest⟩

theorem State.sendAnn_eq (s : State) (k ty mode coll inst chunk port len digest dest : Nat) (stale : Bool) :
    s.sendAnn k ty mode coll inst chunk port len digest dest stale =
      { s.setWarden k { s.warden k with annSeq := succ32 (s.warden k).annSeq } with
        out := .digest k dest (s.annBytes k ty mode coll inst chunk port len digest dest stale) :: s.out } := rfl

/-- An announcement leaves by the Warden's port, and the Warden counts it in its sequence. -/
theorem State.sendAnn_sends (s : State) (k ty mode coll inst chunk port len digest dest : Nat) (stale : Bool) :
    let t := s.sendAnn k ty mode coll inst chunk port len digest dest stale
    t = { s with wardens := t.wardens, out := t.out } ∧ SameWardens s t k ∧
      t.warden k = { s.warden k with annSeq := succ32 (s.warden k).annSeq } ∧
      ∃ b, t.out = .digest k dest b :: s.out ∧ recordOk b 30 = true ∧ bits b 4 4 = ty % 2 ^ 4 ∧ bits b 11 1 = bit stale ∧
        bits b 16 16 = coll % 2 ^ 16 ∧ bits b 128 64 = digest % 2 ^ 64 := by
  rw [State.sendAnn_eq]
  exact ⟨rfl, fun j hj => s.warden_setWarden_other k j _ hj, s.warden_setWarden_same k _, _, rfl, s.annBytes_fields _ _ _ _ _ _ _ _ _ _ _⟩

/-! ### The table (R145) -/

theorem chorusKey_of_chorusOf {s : State} {k : Nat} {key : Nat × Nat × Nat} {c : Chorus} (h : s.chorusOf k key = some c) :
    chorusKey c = key := by simpa using List.find?_some h

/-- The table of a Warden that is as it was. -/
theorem State.chorusOf_of_warden {s t : State} {k : Nat} (h : (t.warden k).chorus = (s.warden k).chorus) (key : Nat × Nat × Nat) :
    t.chorusOf k key = s.chorusOf k key := by rw [State.chorusOf, State.chorusOf, h]

theorem find?_replace_chorus {l : List Chorus} {x c : Chorus} (h : l.find? (fun y => decide (chorusKey y = chorusKey c)) = some x) :
    (l.map (fun y => if chorusKey y = chorusKey c then c else y)).find? (fun y => decide (chorusKey y = chorusKey c)) = some c := by
  have hkey : chorusKey x = chorusKey c := by simpa using List.find?_some h
  have hsame : (fun y => decide (chorusKey y = chorusKey c)) ∘ (fun y => if chorusKey y = chorusKey c then c else y) =
      fun y => decide (chorusKey y = chorusKey c) := by
    funext y
    by_cases hy : chorusKey y = chorusKey c <;> simp [hy]
  rw [List.find?_map, hsame, h, Option.map_some, if_pos hkey]

/-- An entry that is there takes its new contents; the Warden is otherwise as it was. -/
theorem State.setChorus_leaves {s : State} {k : Nat} {key : Nat × Nat × Nat} {c x : Chorus} (hkey : chorusKey c = key)
    (h : s.chorusOf k key = some x) :
    let t := s.setChorus k c
    t = { s with wardens := t.wardens } ∧ SameWardens s t k ∧ t.chorusOf k key = some c := by
  intro t
  subst hkey
  refine ⟨rfl, fun j hj => s.warden_setWarden_other k j _ hj, ?_⟩
  change ((s.setWarden k _).warden k).chorus.find? _ = some c
  rw [State.warden_setWarden_same]
  exact find?_replace_chorus h

/-! ### LWD_DIG_STATUS -/

/-- The fields of LWD_DIG_STATUS that follow the table. -/
def shownRegs (k : Nat) : List (RF × Nat) := [(.lwdDigStatusOpen, k), (.lwdDigStatusRollcall, k), (.lwdDigStatusBackpressure, k)]

theorem State.onlyRegs_showChorus (s : State) (k : Nat) : OnlyRegs s (s.showChorus k) (shownRegs k) :=
  ⟨rfl, ((s.sameRegs_put _ (by simp [shownRegs])).put _ (by simp [shownRegs])).put _ (by simp [shownRegs])⟩

theorem State.showChorus_rollcall (s : State) (k : Nat) :
    (s.showChorus k).rf .lwdDigStatusRollcall k = bit ((s.warden k).chorus.any (fun c => decide (c.phase = 3))) := by
  refine (State.rf_put_field _ .lwdDigStatusBackpressure .lwdDigStatusRollcall k k _ (by decide)).trans ((State.rf_put_same _ _ _ _).trans ?_)
  cases (s.warden k).chorus.any (fun c => decide (c.phase = 3)) <;> rfl

/-! ### Records (R152) -/

theorem locField_locWarden (k : Nat) : locField (locWarden k) = some (wardenField k) := by
  have hne : locWarden k ≠ 0 := by unfold locWarden; omega
  have hdiv : locWarden k / 2 ^ 20 = wardenField k := by unfold locWarden; omega
  rw [locField, if_neg hne, hdiv]

/-- VERDICT, CULPRIT and ROLE as LWD_CHORUS_LAST tells them. -/
theorem bits_chorusRecord (verdict mode culprit role coll inst chunk port engine count expected result sum openWtc stale : Nat) :
    let r := chorusRecord verdict mode culprit role coll inst chunk port engine count expected result sum openWtc stale %
      2 ^ RF.lwdChorusLastRecord.spec.width
    bits r 4 4 = verdict % 2 ^ 4 ∧ bits r 10 2 = culprit % 2 ^ 2 ∧ bits r 12 1 = role % 2 ^ 1 := by
  dsimp only [chorusRecord]
  exact ⟨(bits_mod_two_pow _ (by decide)).trans (bits_withCrc16_pack_at 1 rfl rfl rfl (by decide)),
    (bits_mod_two_pow _ (by decide)).trans (bits_withCrc16_pack_at 3 rfl rfl rfl (by decide)),
    (bits_mod_two_pow _ (by decide)).trans (bits_withCrc16_pack_at 4 rfl rfl rfl (by decide))⟩

/-- A Warden's event in a slice with room, of a state whose events are as before. -/
theorem State.sample_raised_warden {s u : State} {k : Nat} (hevents : u.events = s.events) (hnow : u.now = s.now)
    (hroom : s.sliceDepth (wardenField k) < 511) (cls : Nat) (acts : List EvAct) :
    u.sample cls (locWarden k) acts = { u with events := s.events ++ [⟨cls, locWarden k, s.now, acts⟩] } := by
  rw [← hevents, ← hnow]
  exact State.sample_of_room (locField_locWarden k) (by rwa [State.sliceDepth, hevents]) cls acts

/-- A record in a slice with room: LWD_CHORUS_LAST, and one event that posts it. -/
theorem State.chorusPost_raised {s u : State} {k : Nat} (hevents : u.events = s.events) (hnow : u.now = s.now)
    (hroom : s.sliceDepth (wardenField k) < 511) (cls r : Nat) (acts : List EvAct) :
    u.chorusPost k cls r acts = { u.put .lwdChorusLastRecord k r with
      events := s.events ++ [⟨cls, locWarden k, s.now, acts ++ [.post 7 32 0 48 r false]⟩] } :=
  State.sample_raised_warden (u := u.put .lwdChorusLastRecord k r) hevents hnow hroom cls _

/-- What telling of an event leaves of the events told before and of the registers, whatever room there is. -/
theorem State.sample_adds (s : State) (cls loc : Nat) (acts : List EvAct) :
    s.events ⊆ (s.sample cls loc acts).events ∧ ∀ F i, F ≠ .fstEvtStatusSliceFull → (s.sample cls loc acts).rf F i = s.rf F i := by
  have hput : ∀ (u : State) f F i, F ≠ .fstEvtStatusSliceFull → (u.put .fstEvtStatusSliceFull f 1).rf F i = u.rf F i :=
    fun u f F i hF => u.rf_put_field _ _ _ _ _ (Ne.symm hF)
  rw [State.sample]
  split
  · exact ⟨List.subset_append_left _ _, fun _ _ _ => rfl⟩
  next f _ =>
    split
    · dsimp only
      split
      · exact ⟨List.subset_append_left _ _, fun F i hF => hput { s with events := s.events ++ [⟨cls, loc, s.now, acts⟩] } f F i hF⟩
      · exact ⟨List.subset_append_left _ _, fun _ _ _ => rfl⟩
    · exact ⟨List.Subset.refl _, fun F i hF => hput { s with heldRecs := s.heldRecs ++ [⟨cls, loc, s.now, acts⟩] } f F i hF⟩

theorem Reports.warden {s t : State} (h : Reports s t) (k : Nat) : t.warden k = s.warden k := by
  unfold Reports at h
  rw [h]
  rfl

/-- A record posted, whatever room there is. -/
theorem State.chorusPost_leaves (s : State) (k cls r : Nat) (acts : List EvAct) :
    let t := s.chorusPost k cls r acts
    (∀ j, t.warden j = s.warden j) ∧ s.events ⊆ t.events ∧
      (∀ F i, F ≠ .lwdChorusLastRecord → F ≠ .fstEvtStatusSliceFull → t.rf F i = s.rf F i) ∧
      t.rf .lwdChorusLastRecord k = r % 2 ^ RF.lwdChorusLastRecord.spec.width := by
  intro t
  obtain ⟨hevents, hregs⟩ := (s.put .lwdChorusLastRecord k r).sample_adds cls (locWarden k) (acts ++ [.post 7 32 0 48 r false])
  exact ⟨fun j => (State.sample_reports _ _ _ _).warden j, hevents,
    fun F i hlast hfull => (hregs F i hfull).trans (s.rf_put_field _ _ _ _ _ (Ne.symm hlast)),
    (hregs _ _ (by decide)).trans (s.rf_put_same _ _ _)⟩

end Sys2Proof.Machine
end

section
/-! The verdicts of the chorus (05_digests.md R146, R147, R150 to R152, R164): a chorus closes, is counted, and is told of. -/

namespace Sys2Proof.Machine

/-! ### A chorus closes -/

/-- The Warden once the chorus has left its table. -/
def Warden.closeChorus (w : Warden) (c : Chorus) : Warden :=
  { w with chorus := w.chorus.filter (fun x => decide (chorusKey x ≠ chorusKey c)), closed := chorusKey c :: w.closed }

/-- With no piece held at ingress, none enters. -/
theorem State.chorusClose_eq {s : State} {k : Nat} (hp : (s.warden k).pieces = []) (c : Chorus) :
    s.chorusClose k c = (s.setWarden k ((s.warden k).closeChorus c)).showChorus k := by
  change (State.chorusAdmit (s.warden k).pieces.length (s.setWarden k ((s.warden k).closeChorus c)) k).showChorus k = _
  rw [hp]
  rfl

theorem State.chorusClose_leaves {s : State} {k : Nat} (hp : (s.warden k).pieces = []) (c : Chorus) :
    let t := s.chorusClose k c
    t = { s with wardens := t.wardens, regs := t.regs } ∧ SameWardens s t k ∧ SameRegs s t (shownRegs k) ∧
      t.warden k = (s.warden k).closeChorus c := by
  rw [State.chorusClose_eq hp]
  obtain ⟨-, hregs⟩ := (s.setWarden k ((s.warden k).closeChorus c)).onlyRegs_showChorus k
  exact ⟨rfl, fun j hj => s.warden_setWarden_other k j _ hj, (SameRegs.of_regs_eq _ rfl).trans hregs, s.warden_setWarden_same k _⟩

theorem State.chorusOf_closed {t : State} {k : Nat} {w : Warden} {c : Chorus} (h : t.warden k = w.closeChorus c) :
    t.chorusOf k (chorusKey c) = none := by
  rw [State.chorusOf, h]
  simp [Warden.closeChorus]

theorem chorusCounter_not_shown (verdict k : Nat) : (chorusCounter verdict, k) ∉ shownRegs k := by
  unfold chorusCounter
  split <;> simp [shownRegs]

theorem chorusCounter_width (verdict : Nat) : (chorusCounter verdict).spec.width = 32 := by
  unfold chorusCounter
  split <;> rfl

/-- A chorus closed and counted under its verdict. -/
def State.chorusCounted (s : State) (k : Nat) (c : Chorus) (verdict : Nat) : State :=
  (s.chorusClose k c).bump (chorusCounter verdict) k .lwdDigFlagsSat k (2 ^ verdict)

theorem State.chorusCounted_leaves {s : State} {k verdict : Nat} (hp : (s.warden k).pieces = [])
    (hc : s.rf (chorusCounter verdict) k + 1 < 2 ^ 32) (c : Chorus) :
    let t := s.chorusCounted k c verdict
    t = { s with wardens := t.wardens, regs := t.regs } ∧ SameWardens s t k ∧
      SameRegs s t ((chorusCounter verdict, k) :: shownRegs k) ∧ t.rf (chorusCounter verdict) k = s.rf (chorusCounter verdict) k + 1 ∧
      t.warden k = (s.warden k).closeChorus c := by
  obtain ⟨hframe, hwardens, hregs, hwarden⟩ := State.chorusClose_leaves hp c
  have hsame := hregs _ _ (chorusCounter_not_shown verdict k)
  have hfits : (s.chorusClose k c).rf (chorusCounter verdict) k + 1 < 2 ^ (chorusCounter verdict).spec.width := by
    rw [hsame, chorusCounter_width]
    exact hc
  unfold State.chorusCounted
  refine ⟨?frame, ?wardens, ?regs, (State.bump_counts _ _ _ hfits).trans (by rw [hsame]), ?warden⟩ <;> rw [State.bump_eq_put _ _ _ hfits]
  case frame => exact congrArg (fun u : State => u.put (chorusCounter verdict) k ((s.chorusClose k c).rf (chorusCounter verdict) k + 1)) hframe
  case wardens => exact hwardens
  case regs => exact (hregs.mono fun _ => List.mem_cons_of_mem _).put _ List.mem_cons_self
  case warden => exact hwarden

/-! ### A chorus that fails (R147, R150) -/

/-- The record of a failed chorus. -/
def failRecord (k : Nat) (l : Collective) (c : Chorus) (culprit stale engine count : Nat) : Nat :=
  chorusRecord 1 (modeCode l) culprit 0 c.coll c.inst c.chunk k engine count l.contributors.length c.digest (expectedSum c) c.openWtc stale

/-- Each engine that is named is told of it. -/
def State.nameNotices (s : State) (k : Nat) (l : Collective) (c : Chorus) (named : List Nat) : State :=
  named.foldl (fun t e => t.sendAnn k 4 (modeCode l) c.coll c.inst c.chunk
    (((c.anns.find? (fun a => decide (a.1 = e))).map (fun a => a.2.2)).getD 0) l.chunkLen 0 e false) s

theorem State.chorusEnd_fail (s : State) (k : Nat) (l : Collective) (c : Chorus) (named : List Nat) (culprit stale : Nat) :
    s.chorusEnd k l c 1 named culprit stale =
      named.tail.foldl (fun t e => t.chorusPost k 5 (failRecord k l c culprit stale e named.length) [])
        (((s.chorusCounted k c 1).nameNotices k l c named).chorusPost k 5
          (failRecord k l c culprit stale (named.headD 0x7FFF) named.length) [.void c.openWtc, .rollback c.openWtc]) := rfl

/-- Notices leave the table, the registers and the events as they are. -/
theorem State.nameNotices_leaves (s : State) (k : Nat) (l : Collective) (c : Chorus) (named : List Nat) :
    let t := s.nameNotices k l c named
    (t.warden k).chorus = (s.warden k).chorus ∧ t.regs = s.regs ∧ t.events = s.events ∧ t.now = s.now := by
  refine List.foldlRecOn named _ (motive := fun t : State => (t.warden k).chorus = (s.warden k).chorus ∧ t.regs = s.regs ∧
    t.events = s.events ∧ t.now = s.now) ⟨rfl, rfl, rfl, rfl⟩ fun t ht e _ => ?_
  obtain ⟨htable, hrest⟩ := ht
  rw [State.sendAnn_eq]
  exact ⟨(congrArg Warden.chorus (t.warden_setWarden_same k _)).trans htable, hrest⟩

/-- A chorus that has failed, as it is told: gone from the table, counted, its culprit in LWD_CHORUS_LAST, and, where there was room, an event
that voids the copies since OPEN_WTC and asks for a rollback. -/
def FailTold (s : State) (k : Nat) (c : Chorus) (culprit : Nat) (t : State) : Prop :=
  t.chorusOf k (chorusKey c) = none ∧ t.rf .lwdChorusFailCount k = s.rf .lwdChorusFailCount k + 1 ∧
    bits (t.rf .lwdChorusLastRecord k) 4 4 = 1 ∧ bits (t.rf .lwdChorusLastRecord k) 10 2 = culprit % 2 ^ 2 ∧
    (s.sliceDepth (wardenField k) < 511 →
      ∃ acts, ⟨5, locWarden k, s.now, acts⟩ ∈ t.events ∧ .void c.openWtc ∈ acts ∧ .rollback c.openWtc ∈ acts)

/-- Further records of the same verdict change none of that. -/
theorem FailTold.chorusPost {s t : State} {k : Nat} {c : Chorus} {culprit : Nat} (h : FailTold s k c culprit t) (l : Collective)
    (stale engine count : Nat) : FailTold s k c culprit (t.chorusPost k 5 (failRecord k l c culprit stale engine count) []) := by
  obtain ⟨hgone, hcount, -, -, htold⟩ := h
  obtain ⟨hwardens, hevents, hregs, hlast⟩ := t.chorusPost_leaves k 5 (failRecord k l c culprit stale engine count) []
  obtain ⟨hverdict, hculprit, -⟩ := bits_chorusRecord 1 (modeCode l) culprit 0 c.coll c.inst c.chunk k engine count l.contributors.length
    c.digest (expectedSum c) c.openWtc stale
  refine ⟨(State.chorusOf_of_warden (congrArg Warden.chorus (hwardens k)) _).trans hgone, (hregs _ _ (by decide) (by decide)).trans hcount,
    (congrArg (bits · 4 4) hlast).trans hverdict, (congrArg (bits · 10 2) hlast).trans hculprit, fun hroom => ?_⟩
  obtain ⟨acts, hmem, hacts⟩ := htold hroom
  exact ⟨acts, hevents hmem, hacts⟩

/-- A chorus that ends FAIL is told of, with the first record's event if there is room. -/
theorem State.chorusEnd_fail_told {s : State} {k : Nat} (hp : (s.warden k).pieces = []) (hc : s.rf .lwdChorusFailCount k + 1 < 2 ^ 32)
    (l : Collective) (c : Chorus) (named : List Nat) (culprit stale : Nat) :
    FailTold s k c culprit (s.chorusEnd k l c 1 named culprit stale) := by
  rw [State.chorusEnd_fail]
  refine List.foldlRecOn _ _ ?_ fun t ht e _ => ht.chorusPost l stale e named.length
  obtain ⟨hframe, -, -, hcount, hwarden⟩ := State.chorusCounted_leaves (verdict := 1) hp hc c
  obtain ⟨htable, hsent, hevents, hnow⟩ := (s.chorusCounted k c 1).nameNotices_leaves k l c named
  have hevents' : ((s.chorusCounted k c 1).nameNotices k l c named).events = s.events := hevents.trans (by rw [hframe])
  have hnow' : ((s.chorusCounted k c 1).nameNotices k l c named).now = s.now := hnow.trans (by rw [hframe])
  generalize (s.chorusCounted k c 1).nameNotices k l c named = u at *
  obtain ⟨hwardens, -, hregs, hlast⟩ := u.chorusPost_leaves k 5 (failRecord k l c culprit stale (named.headD 0x7FFF) named.length)
    [.void c.openWtc, .rollback c.openWtc]
  obtain ⟨hverdict, hculprit, -⟩ := bits_chorusRecord 1 (modeCode l) culprit 0 c.coll c.inst c.chunk k (named.headD 0x7FFF) named.length
    l.contributors.length c.digest (expectedSum c) c.openWtc stale
  refine ⟨?gone, ?counted, (congrArg (bits · 4 4) hlast).trans hverdict, (congrArg (bits · 10 2) hlast).trans hculprit, fun hroom => ?told⟩
  case gone =>
    rw [State.chorusOf_of_warden (congrArg Warden.chorus (hwardens k)), State.chorusOf_of_warden htable]
    exact State.chorusOf_closed hwarden
  case counted =>
    refine (hregs _ _ (by decide) (by decide)).trans ?_
    rw [State.rf, hsent]
    exact hcount
  case told =>
    rw [State.chorusPost_raised hevents' hnow' hroom]
    exact ⟨_, List.mem_append_right _ (List.mem_singleton.mpr rfl), by simp, by simp⟩

/-! ### A chorus that passes, and one that is late (R146, R147) -/

theorem State.chorusEnd_pass (s : State) (k : Nat) (l : Collective) (c : Chorus) (named : List Nat) (culprit stale : Nat) :
    s.chorusEnd k l c 0 named culprit stale = (s.chorusCounted k c 0).sample 10 (locWarden k) [.log] := by
  unfold State.chorusEnd
  simp only [State.chorusCounted]

/-- The contributors of which no announcement came. -/
def missingOf (l : Collective) (c : Chorus) : List Nat := l.contributors.filter (fun e => !c.anns.any (fun a => decide (a.1 = e)))

/-- The record of a chorus that is not complete by its deadline. -/
def lateRecord (k : Nat) (l : Collective) (c : Chorus) (verdict : Nat) : Nat :=
  chorusRecord verdict (modeCode l) 3 0 c.coll c.inst c.chunk k ((missingOf l c).headD 0x7FFF) (missingOf l c).length l.contributors.length
    c.digest (expectedSum c) c.openWtc 0

/-- INCOMPLETE and TAG: one record of class 10. -/
theorem State.chorusEnd_late (s : State) (k : Nat) (l : Collective) (c : Chorus) {verdict : Nat} (hv : verdict = 2 ∨ verdict = 3) :
    s.chorusEnd k l c verdict [] 3 0 = (s.chorusCounted k c verdict).chorusPost k 10 (lateRecord k l c verdict) [] := by
  unfold State.chorusEnd
  obtain rfl | rfl := hv <;> simp only [State.chorusCounted, lateRecord, missingOf]

/-! ### The commands -/

section
variable {s : State} {k : Nat} {key : Nat × Nat × Nat} {c : Chorus} {l : Collective} (hc : s.chorusOf k key = some c)
  (hl : s.collective k key.1 = some l)
include hc hl

theorem State.chorusCompare_full (hphase : c.phase = 1) :
    s.chorusCompare k key = if c.digest = expectedSum c then s.chorusEnd k l c 0 [] 3 0
      else if l.exactMode then (s.setChorus k { c with phase := 2 }).showChorus k
      else s.chorusEnd k l c 1 (c.anns.map (fun a => a.1)) 0 0 := by
  simp only [State.chorusCompare, hc, hl, hphase, if_true]

theorem State.chorusDeadline_eq (hphase : c.phase = 0) :
    s.chorusDeadline k key = if c.openAt + 1000 * clamp 1 1000 (s.rf .lwdDigCtrlDeadlineMs k) ≤ s.now then
      s.chorusEnd k l c (if c.tagFail then 3 else 2) [] 3 0 else s := by
  simp only [State.chorusDeadline, hc, hl, hphase, true_and]

end

/-- PASS: one event of class 10. -/
theorem State.chorusEnd_pass_leaves {s : State} {k : Nat} (hp : (s.warden k).pieces = []) (hc : s.rf .lwdChorusPassCount k + 1 < 2 ^ 32)
    (hroom : s.sliceDepth (wardenField k) < 511) (l : Collective) (c : Chorus) :
    let t := s.chorusEnd k l c 0 [] 3 0
    t = { s with wardens := t.wardens, regs := t.regs, events := s.events ++ [⟨10, locWarden k, s.now, [.log]⟩] } ∧
      SameWardens s t k ∧ t.chorusOf k (chorusKey c) = none ∧ chorusKey c ∈ (t.warden k).closed ∧
      SameRegs s t ((.lwdChorusPassCount, k) :: shownRegs k) ∧ t.rf .lwdChorusPassCount k = s.rf .lwdChorusPassCount k + 1 := by
  obtain ⟨hframe, hwardens, hregs, hcount, hwarden⟩ := State.chorusCounted_leaves (verdict := 0) hp hc c
  have hevents : (s.chorusCounted k c 0).events = s.events := by rw [hframe]
  have hnow : (s.chorusCounted k c 0).now = s.now := by rw [hframe]
  rw [State.chorusEnd_pass, State.sample_raised_warden hevents hnow hroom]
  generalize s.chorusCounted k c 0 = u at *
  have hclosed : chorusKey c ∈ (u.warden k).closed := by
    rw [hwarden]
    exact List.mem_cons_self
  refine ⟨?_, hwardens, State.chorusOf_closed hwarden, hclosed, hregs.trans (.of_regs_eq _ rfl), hcount⟩
  exact congrArg (fun v : State => { v with events := s.events ++ [(⟨10, locWarden k, s.now, [.log]⟩ : Ev)] }) hframe

/-- INCOMPLETE and TAG: one record and one event of class 10. -/
theorem State.chorusEnd_late_leaves {s : State} {k verdict : Nat} (hv : verdict = 2 ∨ verdict = 3) (hp : (s.warden k).pieces = [])
    (hc : s.rf (chorusCounter verdict) k + 1 < 2 ^ 32) (hroom : s.sliceDepth (wardenField k) < 511) (l : Collective) (c : Chorus) :
    let t := s.chorusEnd k l c verdict [] 3 0
    t.chorusOf k (chorusKey c) = none ∧ t.rf (chorusCounter verdict) k = s.rf (chorusCounter verdict) k + 1 ∧
      bits (t.rf .lwdChorusLastRecord k) 4 4 = verdict ∧
      SameRegs s t ((chorusCounter verdict, k) :: (.lwdChorusLastRecord, k) :: shownRegs k) ∧ ∃ acts, Raised s t 10 (locWarden k) acts := by
  obtain ⟨hframe, -, hregs, hcount, hwarden⟩ := State.chorusCounted_leaves hp hc c
  have hevents : (s.chorusCounted k c verdict).events = s.events := by rw [hframe]
  have hnow : (s.chorusCounted k c verdict).now = s.now := by rw [hframe]
  have hother : chorusCounter verdict ≠ .lwdChorusLastRecord := by
    obtain rfl | rfl := hv <;> decide
  have hverdict : bits (lateRecord k l c verdict % 2 ^ RF.lwdChorusLastRecord.spec.width) 4 4 = verdict := by
    obtain ⟨hbits, -, -⟩ := bits_chorusRecord verdict (modeCode l) 3 0 c.coll c.inst c.chunk k ((missingOf l c).headD 0x7FFF)
      (missingOf l c).length l.contributors.length c.digest (expectedSum c) c.openWtc 0
    exact hbits.trans (Nat.mod_eq_of_lt (by omega))
  rw [s.chorusEnd_late k l c hv, State.chorusPost_raised hevents hnow hroom]
  generalize s.chorusCounted k c verdict = u at *
  refine ⟨State.chorusOf_closed hwarden, ?counted,
    (congrArg (bits · 4 4) (u.rf_put_same .lwdChorusLastRecord k _)).trans hverdict, ?regs, _, rfl⟩
  case counted => exact (u.rf_put_field _ _ _ _ _ (Ne.symm hother)).trans hcount
  case regs =>
    refine (hregs.mono fun x hx => ?_).trans ((SameRegs.refl _ _).put (lateRecord k l c verdict) (by simp))
    rcases List.mem_cons.mp hx with rfl | hx
    · exact List.mem_cons_self
    · exact List.mem_cons_of_mem _ (List.mem_cons_of_mem _ hx)

/-- Settles O27: the three ends of a comparison, then a deadline met and one not met. -/
theorem chorusVerdictsAreReached : Obligations.ChorusVerdictsAreReached := by
  unfold Obligations.ChorusVerdictsAreReached
  intro s k coll inst chunk c l key Shown Counted hp hc hl hroom
  have hkey : chorusKey c = key := chorusKey_of_chorusOf hc
  refine ⟨fun hphase hd hcount => .of_next rfl ?pass, fun hphase hd hx => .of_next rfl ?waits, fun hphase hd hx hcount => .of_next rfl ?fail,
    fun hphase hlate => ?late, fun hphase hearly => ?early⟩
  case pass =>
    rw [State.chorusCompare_full hc hl hphase, if_pos hd, ← hkey]
    exact State.chorusEnd_pass_leaves hp hcount hroom l c
  case waits =>
    rw [State.chorusCompare_full hc hl hphase, if_neg hd, hx, if_pos rfl]
    obtain ⟨-, hwardens, hentry⟩ := State.setChorus_leaves (c := { c with phase := 2 }) hkey hc
    obtain ⟨-, hregs⟩ := (s.setChorus k.val { c with phase := 2 }).onlyRegs_showChorus k.val
    exact ⟨rfl, hwardens, hentry, (SameRegs.of_regs_eq _ rfl).trans hregs⟩
  case fail =>
    rw [State.chorusCompare_full hc hl hphase, if_neg hd, hx, if_neg Bool.false_ne_true, ← hkey]
    obtain ⟨hgone, hcounted, hverdict, -, htold⟩ := State.chorusEnd_fail_told hp hcount l c (c.anns.map (fun a => a.1)) 0 0
    exact ⟨hgone, hcounted, hverdict, htold hroom⟩
  case late =>
    intro F hcount
    have hF : F = chorusCounter (if c.tagFail then 3 else 2) := by cases h : c.tagFail <;> simp [F, h, chorusCounter]
    have hverdict : (if c.tagFail then 3 else 2) = 2 ∨ (if c.tagFail then 3 else 2) = 3 := by cases c.tagFail <;> simp
    refine .of_next rfl ?_
    rw [State.chorusDeadline_eq hc hl hphase, if_pos hlate, ← hkey, hF]
    exact State.chorusEnd_late_leaves hverdict hp (hF ▸ hcount) hroom l c
  case early => exact congrArg Host.Outcome.next ((State.chorusDeadline_eq hc hl hphase).trans (if_neg (Nat.not_le.mpr hearly)))

end Sys2Proof.Machine
end

section
/-! Roll calls and name notices (05_digests.md R148 to R150, R164): the calls, their answers, and the culprit. -/

namespace Sys2Proof.Machine

/-! ### The call (R148) -/

section
variable {s : State} {k e : Nat} {key : Nat × Nat × Nat} {c : Chorus} {l : Collective} (hw : (s.warden k).chorus = [c])
  (hphase : c.phase = 2) (hkey : chorusKey c = key) (hl : s.collective k key.1 = some l) (hone : l.contributors = [e])
include hw hphase hkey hl hone

/-- A roll call of the only chorus of the table, whose collective has one contributor. -/
theorem State.rollStart_calls : s.rollStart k key =
    ((s.setChorus k { c with phase := 3, rollAt := s.now }).sendAnn k 2 (modeCode l) c.coll c.inst c.chunk k l.chunkLen 0 e false).showChorus k := by
  simp [State.rollStart, hw, hphase, hkey, hl, hone]

theorem State.rollStart_leaves :
    let t := s.rollStart k key
    t.chorusOf k key = some { c with phase := 3, rollAt := s.now } ∧ t.rf .lwdDigStatusRollcall k = 1 ∧ SameWardens s t k ∧
      ∃ b, t.out = .digest k e b :: s.out ∧ bits b 4 4 = 2 ∧ recordOk b 30 = true := by
  have hfound : s.chorusOf k key = some c := by simp [State.chorusOf, hw, hkey]
  obtain ⟨hframe, hothers, hentry⟩ := State.setChorus_leaves (c := { c with phase := 3, rollAt := s.now }) hkey hfound
  have hout : (s.setChorus k { c with phase := 3, rollAt := s.now }).out = s.out := by rw [hframe]
  rw [State.rollStart_calls hw hphase hkey hl hone]
  generalize s.setChorus k { c with phase := 3, rollAt := s.now } = u at *
  obtain ⟨-, hsent, hwarden, b, hb, hok, hty, -⟩ := u.sendAnn_sends k 2 (modeCode l) c.coll c.inst c.chunk k l.chunkLen 0 e false
  generalize u.sendAnn k 2 (modeCode l) c.coll c.inst c.chunk k l.chunkLen 0 e false = v at *
  have hcalled : v.chorusOf k key = some { c with phase := 3, rollAt := s.now } :=
    (State.chorusOf_of_warden (by rw [hwarden]) _).trans hentry
  have hany : (v.warden k).chorus.any (fun x => decide (x.phase = 3)) = true :=
    List.any_eq_true.mpr ⟨_, List.mem_of_find?_eq_some hcalled, rfl⟩
  exact ⟨hcalled, (v.showChorus_rollcall k).trans (by rw [hany]; rfl), fun j hj => (hsent j hj).trans (hothers j hj), b, hout ▸ hb, hty, hok⟩

end

/-! ### A Warden called (R148) -/

section
variable {s : State} {ann : Announcement} {k : Nat} (hgood : annGood ann.toNat 2 = true) (htag : s.tagPasses ann.toNat = true)
  (hdest : bits ann.toNat 192 15 = s.engine) (hsrc : engineReserved (bits ann.toNat 80 15) = false)
include hgood htag hdest hsrc

/-- The chunk is in the log: it waits for the link share. -/
theorem State.rollReceive_logged {g : LoggedAnn} (hlog : (s.warden k).annLog = [g])
    (hkey : (g.coll, g.inst, g.chunk) = (bits ann.toNat 16 16, bits ann.toNat 32 32, bits ann.toNat 64 12)) :
    s.rollReceive k ann =
      s.setWarden k { s.warden k with reissues := (s.warden k).reissues ++ [⟨g, bits ann.toNat 80 15, false⟩] } := by
  simp only [Prod.mk.injEq] at hkey
  simp [State.rollReceive, hgood, htag, hdest, hsrc, hlog, hkey]

/-- It is not: the answer is STALE. -/
theorem State.rollReceive_stale (hlog : (s.warden k).annLog = []) :
    s.rollReceive k ann = s.sendAnn k 3 (bits ann.toNat 8 2) (bits ann.toNat 16 16) (bits ann.toNat 32 32) (bits ann.toNat 64 12) k
      (bits ann.toNat 96 21 + 1) 0 (bits ann.toNat 80 15) true := by
  simp [State.rollReceive, hgood, htag, hdest, hsrc, hlog]

end

/-- A chunk for which the link share has not been granted is not answered yet. -/
theorem State.rollAnswerSend_waits {s : State} {k rcv : Nat} {g : LoggedAnn} (hr : (s.warden k).reissues = [⟨g, rcv, false⟩])
    (coll inst chunk : Nat) (words : List (BitVec 32)) : s.rollAnswerSend k coll inst chunk rcv words = s := by
  simp [State.rollAnswerSend, hr]

/-- A chunk sent again is answered with the digest of what was sent, STALE if it is not the logged one. -/
theorem State.rollAnswerSend_granted {s : State} {k rcv coll inst chunk : Nat} {g : LoggedAnn} {l : Collective}
    (hr : (s.warden k).reissues = [⟨g, rcv, true⟩]) (hkey : (g.coll, g.inst, g.chunk) = (coll, inst, chunk))
    (hl : s.collective k coll = some l) (words : List (BitVec 32)) :
    let d := pldAt (s.chunkSeed coll inst chunk) 0 (egressView true words)
    s.rollAnswerSend k coll inst chunk rcv words =
      (s.setWarden k { s.warden k with reissues := [] }).sendAnn k 3 (modeCode l) coll inst chunk k l.chunkLen d rcv (decide (d ≠ g.digest)) := by
  simp only [Prod.mk.injEq] at hkey
  simp [State.rollAnswerSend, hr, hkey, hl]

/-! ### Answers (R149) -/

/-- An answer as the chorus keeps it: its engine, STALE, and the digest of the data sent again. -/
def State.answerOf (s : State) (a : Nat) (data : Option (List (BitVec 32))) : RollAnswer :=
  ⟨bits a 80 15, decide (bits a 11 1 = 1),
    data.map (fun x => pldAt (s.chunkSeed (bits a 16 16) (bits a 32 32) (bits a 64 12)) 0 (egressView true x))⟩

/-- An answer takes the place of an earlier one of its engine. -/
def Chorus.answered (c : Chorus) (x : RollAnswer) : Chorus :=
  { c with answers := c.answers.filter (fun y => decide (y.engine ≠ x.engine)) ++ [x] }

/-- A first answer, with others still to come. -/
theorem State.rollAnswer_enters {s : State} {k : Nat} {ann : Announcement} {c : Chorus} {l : Collective} {data : Option (List (BitVec 32))}
    (hc : s.chorusOf k (bits ann.toNat 16 16, bits ann.toNat 32 32, bits ann.toNat 64 12) = some c)
    (hl : s.collective k (bits ann.toNat 16 16) = some l) (hphase : c.phase = 3) (hgood : annGood ann.toNat 3 = true)
    (htag : s.tagPasses ann.toNat = true) (hdest : bits ann.toNat 192 15 = s.engine)
    (hsrc : l.contributors.contains (bits ann.toNat 80 15) = true) (hnone : c.answers = [])
    (hopen : rollDone l { c with answers := [s.answerOf ann.toNat data] } = false) :
    s.rollAnswer k ann data = s.setChorus k { c with answers := [s.answerOf ann.toNat data] } := by
  have henters : c.answered (s.answerOf ann.toNat data) = { c with answers := [s.answerOf ann.toNat data] } := by
    rw [Chorus.answered, hnone]
    rfl
  have hfirst : c.answers.any (fun y => decide (y.engine = bits ann.toNat 80 15) && (y.stale || y.data.isSome)) = false := by rw [hnone]; rfl
  have hcheck : (annGood ann.toNat 3 && s.tagPasses ann.toNat && decide (bits ann.toNat 192 15 = s.engine) &&
      l.contributors.contains (bits ann.toNat 80 15) && decide (c.phase = 3) &&
      !c.answers.any (fun y => decide (y.engine = bits ann.toNat 80 15) && (y.stale || y.data.isSome))) = true := by
    rw [hgood, htag, hsrc, hfirst, decide_eq_true hdest, decide_eq_true hphase]
    rfl
  unfold State.rollAnswer
  simp only [hc, hl]
  rw [if_pos hcheck]
  change (if rollDone l (c.answered (s.answerOf ann.toNat data)) = true then _ else s.setChorus k (c.answered (s.answerOf ann.toNat data))) = _
  rw [henters]
  exact if_neg (Bool.eq_false_iff.mp hopen)

theorem State.rollAnswer_discards {s : State} {k : Nat} {ann : Announcement} (data : Option (List (BitVec 32)))
    (hbad : annGood ann.toNat 3 = false) : s.rollAnswer k ann data = s.annDiscard k := by
  unfold State.rollAnswer
  dsimp only
  split
  · exact if_neg (by simp [hbad])
  · rfl

/-! ### The culprit (R149, R150) -/

/-- CULPRIT of a roll call: 0 with an engine named, 2 with none named and one unresolved, 1 with all clear. -/
def culpritOf (l : Collective) (c : Chorus) : Nat :=
  if l.contributors.any (fun e => decide (judgeAnswer c e = 1)) then 0
  else if l.contributors.any (fun e => decide (judgeAnswer c e = 2)) then 2 else 1

theorem State.rollEnd_eq (s : State) (k : Nat) (l : Collective) (c : Chorus) :
    s.rollEnd k l c = s.chorusEnd k l c 1 (l.contributors.filter (fun e => decide (judgeAnswer c e = 1))) (culpritOf l c)
      (l.contributors.filter (fun e => decide (judgeAnswer c e = 2))).length := by
  have hany : ∀ v, l.contributors.any (fun e => decide (judgeAnswer c e = v)) = true ↔
      l.contributors.filter (fun e => decide (judgeAnswer c e = v)) ≠ [] := fun v => by simp [List.filter_eq_nil_iff]
  have hculprit : culpritOf l c = if l.contributors.filter (fun e => decide (judgeAnswer c e = 1)) ≠ [] then 0
      else if (l.contributors.filter (fun e => decide (judgeAnswer c e = 2))).length = 0 then 1 else 2 := by
    simp only [culpritOf, hany, List.length_eq_zero_iff, ne_eq, ite_not]
  rw [hculprit]
  rfl

theorem culpritOf_lt (l : Collective) (c : Chorus) : culpritOf l c < 2 ^ 2 := by
  unfold culpritOf
  split
  · decide
  · split <;> decide

theorem State.rollDeadline_due {s : State} {k : Nat} {key : Nat × Nat × Nat} {c : Chorus} {l : Collective} (hc : s.chorusOf k key = some c)
    (hl : s.collective k key.1 = some l) (hphase : c.phase = 3)
    (hdue : c.rollAt + 1000 * clamp 10 1000 (s.rf .lwdDigCtrlRollcallMs k) ≤ s.now) : s.rollDeadline k key = s.rollEnd k l c := by
  simp only [State.rollDeadline, hc, hl, hphase, hdue, and_self, if_true]

/-! ### Name notices (R150, R152) -/

/-- The contributors that the wafer's own list gives of a collective. -/
def State.contributorCount (s : State) (k coll : Nat) : Nat :=
  match s.collective k coll with
  | some l => l.contributors.length
  | none => 0

/-- The record with ROLE set, with free values where the spec says nothing. -/
def State.noticeRecord (s : State) (k a : Nat) : Nat :=
  chorusRecord 1 (bits a 8 2) 0 1 (bits a 16 16) (bits a 32 32) (bits a 64 12) (bits a 76 4) s.engine 1
    (s.contributorCount k (bits a 16 16)) s.free.1 s.free.2.free.1 s.free.2.free.2.free.1 0

theorem State.nameNotice_good {s : State} {k : Nat} {ann : Announcement} (hgood : annGood ann.toNat 4 = true)
    (htag : s.tagPasses ann.toNat = true) (hdest : bits ann.toNat 192 15 = s.engine) (hsrc : engineReserved (bits ann.toNat 80 15) = false) :
    s.nameNotice k ann = s.free.2.free.2.free.2.chorusPost k 5 (s.noticeRecord k ann.toNat)
      [.detect (laneKey (bits ann.toNat 76 4) 127) 0x007 2] :=
  if_pos (by simp [hgood, htag, hdest, hsrc])

/-- A notice that is good: one detection of the port it names, and the record in LWD_CHORUS_LAST. -/
theorem State.nameNotice_leaves {s : State} {k : Nat} {ann : Announcement} (hgood : annGood ann.toNat 4 = true)
    (htag : s.tagPasses ann.toNat = true) (hdest : bits ann.toNat 192 15 = s.engine) (hsrc : engineReserved (bits ann.toNat 80 15) = false)
    (hroom : s.sliceDepth (wardenField k) < 511) :
    let t := s.nameNotice k ann
    t = { s with regs := t.regs, events := t.events, freeCtr := t.freeCtr } ∧ SameRegs s t [(.lwdChorusLastRecord, k)] ∧
      bits (t.rf .lwdChorusLastRecord k) 12 1 = 1 ∧
      ∃ acts, Raised s t 5 (locWarden k) acts ∧ .detect (laneKey (bits ann.toNat 76 4) 127) 0x007 2 ∈ acts := by
  rw [State.nameNotice_good hgood htag hdest hsrc, State.chorusPost_raised (s := s) (u := s.free.2.free.2.free.2) rfl rfl hroom]
  obtain ⟨-, -, hrole⟩ := bits_chorusRecord 1 (bits ann.toNat 8 2) 0 1 (bits ann.toNat 16 16) (bits ann.toNat 32 32) (bits ann.toNat 64 12)
    (bits ann.toNat 76 4) s.engine 1 (s.contributorCount k (bits ann.toNat 16 16))
    s.free.1 s.free.2.free.1 s.free.2.free.2.free.1 0
  exact ⟨rfl, (SameRegs.of_regs_eq _ rfl).put _ (List.mem_singleton.mpr rfl),
    (congrArg (bits · 12 1) (s.free.2.free.2.free.2.rf_put_same .lwdChorusLastRecord k _)).trans hrole, _, rfl, List.mem_cons_self⟩

/-! ### The settlement -/

/-- Settles O28: the call, the Warden called, what it sends again, the answers and their deadline, and a name notice. -/
theorem rollCallsNameTheirCulprit : Obligations.RollCallsNameTheirCulprit := by
  unfold Obligations.RollCallsNameTheirCulprit
  intro s k coll inst chunk c l e rcv words ann g data a w key src
  refine ⟨fun hw hphase hkey hl hone => .of_next rfl ?call,
    fun hgood htag hdest hsrc hcoll hinst hchunk => ⟨fun hlog hkey => .of_next rfl ?logged, fun hlog => .of_next rfl ?stale⟩,
    fun hr => congrArg Host.Outcome.next (State.rollAnswerSend_waits hr _ _ _ words),
    fun hr hkey hl => .of_next rfl ?sent,
    fun hc hl hphase =>
      ⟨fun hgood htag hdest hsrc hnone hcoll hinst hchunk hopen => .of_next rfl ?kept, fun hdue hp hcount => .of_next rfl ?ended⟩,
    fun hbad hcount => .of_next rfl ?discarded, fun hgood htag hdest hsrc hroom => .of_next rfl ?named⟩
  case call => exact State.rollStart_leaves hw hphase hkey hl hone
  case logged =>
    rw [State.rollReceive_logged hgood htag hdest hsrc hlog (by rw [hkey, hcoll, hinst, hchunk])]
    exact ⟨rfl, fun j hj => s.warden_setWarden_other k j _ hj, congrArg Warden.reissues (s.warden_setWarden_same k _)⟩
  case stale =>
    rw [State.rollReceive_stale hgood htag hdest hsrc hlog]
    obtain ⟨hframe, hothers, -, b, hb, hok, hty, hstale, hbcoll, -⟩ := s.sendAnn_sends k 3 (bits a 8 2) (bits a 16 16) (bits a 32 32)
      (bits a 64 12) k (bits a 96 21 + 1) 0 src true
    exact ⟨hothers, by rw [hframe], b, hb, hty, hstale, hbcoll.trans (by rw [hcoll, Nat.mod_eq_of_lt coll.isLt]), hok⟩
  case sent =>
    rw [State.rollAnswerSend_granted hr hkey hl words]
    obtain ⟨hframe, hothers, hwarden, b, hb, hok, hty, hstale, -, hd⟩ := (s.setWarden k { s.warden k with reissues := [] }).sendAnn_sends k 3
      (modeCode l) coll.toNat inst.toNat chunk.toNat k l.chunkLen (pldAt (s.chunkSeed coll.toNat inst.toNat chunk.toNat) 0 (egressView true words))
      rcv.toNat (decide (pldAt (s.chunkSeed coll.toNat inst.toNat chunk.toNat) 0 (egressView true words) ≠ g.digest))
    exact ⟨by rw [hwarden, State.warden_setWarden_same], fun j hj => (hothers j hj).trans (s.warden_setWarden_other k j _ hj),
      by rw [hframe]; rfl, b, hb, hty, hd, hstale.trans (by simp [bit])⟩
  case kept =>
    have hx : s.answerOf a data = ⟨src, decide (bits a 11 1 = 1),
        data.map (fun x => pldAt (s.chunkSeed coll.toNat inst.toNat chunk.toNat) 0 (egressView true x))⟩ := by
      rw [State.answerOf, hcoll, hinst, hchunk]
    have hbits : (bits a 16 16, bits a 32 32, bits a 64 12) = key := by rw [hcoll, hinst, hchunk]
    rw [State.rollAnswer_enters (by rw [hbits]; exact hc) (by rw [hcoll]; exact hl) hphase hgood htag hdest hsrc hnone (by rw [hx]; exact hopen), hx]
    have hkey : chorusKey c = key := chorusKey_of_chorusOf hc
    exact State.setChorus_leaves (c := { c with answers := [_] }) hkey hc
  case ended =>
    rw [State.rollDeadline_due hc hl hphase hdue, State.rollEnd_eq]
    obtain ⟨hgone, hcounted, -, hculprit, -⟩ := State.chorusEnd_fail_told hp hcount l c
      (l.contributors.filter (fun e => decide (judgeAnswer c e = 1)))
      (culpritOf l c) (l.contributors.filter (fun e => decide (judgeAnswer c e = 2))).length
    rw [chorusKey_of_chorusOf hc] at hgone
    exact ⟨hgone, hcounted, hculprit.trans (Nat.mod_eq_of_lt (culpritOf_lt l c))⟩
  case discarded =>
    rw [State.rollAnswer_discards data hbad, State.annDiscard, State.bump_eq_put _ _ _ hcount]
    exact s.put_sets _ _ hcount
  case named => exact State.nameNotice_leaves hgood htag hdest hsrc hroom

end Sys2Proof.Machine
end

section
/-! The slot of the self-test function (06_self_test.md R176, R186): a state outside what the commands reach, since each of them puts a
tile of the table's own field in a Remap Table (R223), at which the frame of O21 fails. -/

namespace Sys2Proof.Machine

/-- With no visit completed yet all units of a field are equally old, and the first of a list of them is the one to visit. -/
theorem State.oldestUnit_first {s : State} (hdone : s.st.done = []) (f u : Nat) (l : List Nat) : s.oldestUnit f (u :: l) = some u := by
  have hstamp : ∀ x, s.visitStampOf f x = s.visitStampOf f u := fun x => by rw [State.visitStampOf, State.visitStampOf, hdone]; rfl
  rw [State.oldestUnit, List.foldl_cons]
  induction l with
  | nil => rfl
  | cons x l ih =>
    rw [List.foldl_cons]
    simp only [hstamp x, Nat.lt_irrefl, if_false]
    exact ih

/-- The first unit of a field whose first logical tile is served. -/
theorem State.units_first {s : State} {f : Nat} (h : s.served (tileId f 0 0) = true) : ∃ rest, s.units f = tileId f 0 0 :: rest := by
  rw [State.units, List.range_succ_eq_map, List.map_cons, List.filter_cons_of_pos h]
  exact ⟨_, rfl⟩

/-- The slot of a field is noted. -/
def State.slotNoted (s : State) (f : Nat) : State := s.setField f { s.field f with visitSlotAt := s.now }

/-- The state in which the slot looks for a unit: the free bits of its tiles are drawn. -/
def State.slotDrawn (s : State) (f : Nat) : State := { s.slotNoted f with freeCtr := (s.slotNoted f).freeCtr + 2 ^ 19 }

/-- The unit has no visit of its own yet, and no window of its tile holds it back (R176). -/
def State.slotTakes (s : State) (f u : Nat) : Bool :=
  let t := (s.slotDrawn f).unitTile u
  ((s.slotDrawn f).visitOf t).isNone &&
    ((Tab.get (fun _ => none) (s.slotDrawn f).winTabs t).isNone || (s.slotDrawn f).unitOverdue f u ||
      (s.slotDrawn f).st.parked.any (fun v => decide (v.tile = t) && routersLeft v) ||
      (Config.freeWord ((s.slotNoted f).freeCtr + t)).getLsbD 0)

theorem State.visitSlot_due {s : State} {f : Nat} (hon : s.fnOn (.fieldSelfTest (toFin32 f)) = true)
    (hup : s.stationUp (toFin32 f) = true) (hunits : 0 < s.unitCount f)
    (hdue : (s.field f).visitSlotAt + s.visitPeriod f / s.unitCount f ≤ s.now) :
    s.visitSlot f = ((s.slotDrawn f).oldestUnit f (((s.slotDrawn f).units f).filter (s.slotTakes f))).elim (s.slotDrawn f)
      (fun u => ((s.slotDrawn f).startVisit ((s.slotDrawn f).unitTile u) 0 .function).getD (s.slotDrawn f)) := by
  rw [State.visitSlot, if_pos (by simp [hon, hup, hunits, hdue])]
  generalize ho : (s.slotDrawn f).oldestUnit f (((s.slotDrawn f).units f).filter (s.slotTakes f)) = o
  simp only
  split
  next u hu =>
    obtain rfl : some u = o := hu.symm.trans ho
    rfl
  next hu =>
    obtain rfl : none = o := hu.symm.trans ho
    rfl

/-- A pack of two descriptors, stored and active. -/
def packOfTwoSlices : Pack := ⟨0, 0, 0, 0, 0, [(1, 1, 0, 0), (2, 1, 0, 0)], true, true, none, 0, []⟩

/-- An entry of the Remap Table of field 0 whose column lies beyond the row: it names a spare of field 1. -/
def remapIntoField1 : Remap := ⟨0, tileId 1 0 29, 1, false, false, 0⟩

/-- That entry stands for logical tile 0 while a launch runs, field 1 takes one pack slice a visit, and a slot of field 0 is due. -/
def tileOfField1Serves : State :=
  ({ State.reset with
      now := 10 ^ 13, mapBuilt := true, launch := { State.reset.launch with running := true }
      remap := [(0, some remapIntoField1)], st := { State.reset.st with packs := [packOfTwoSlices] } } : State).puts
    [(.fstStCtrlState, 0, 2), (.fstStCtrlPackPerVisit, 1, 1), (.kprAllowanceInForce, 0, 20), (.aoiDomainsCompute, 0, 0)]

/-- The slot is due and its field's function ON, the first logical tile is served, and the visit of its tile moves the pointer of field 1. -/
theorem tileOfField1Serves_slot :
    let s := tileOfField1Serves
    let u := s.slotDrawn 0
    (s.fnOn (.fieldSelfTest 0) = true ∧ s.stationUp 0 = true ∧ 0 < s.inService 0 + s.freeSpares 0 ∧
      (s.field 0).visitSlotAt + s.visitPeriod 0 / (s.inService 0 + s.freeSpares 0) ≤ s.now) ∧
      u.served (tileId 0 0 0) = true ∧ s.slotTakes 0 (tileId 0 0 0) = true ∧
      ((u.startVisit (u.unitTile (tileId 0 0 0)) 0 .function).getD u).field 1 ≠ s.field 1 := by
  decide +kernel

/-- Refutes O21, at its frame of a slot that is due: the visit takes the pack slices of the field in which its tile lies (R186), and a state
that the statement admits has a tile of another field serve a logical tile of the slot's. -/
theorem not_selfTestVisits : ¬ Obligations.SelfTestVisits := by
  unfold Obligations.SelfTestVisits
  rintro ⟨hvisits, -⟩
  obtain ⟨⟨hon, hup, hunits, hdue⟩, hserved, htakes, hchanged⟩ := tileOfField1Serves_slot
  obtain ⟨-, -, hslot⟩ := hvisits tileOfField1Serves 0 0 (by decide)
  obtain ⟨t, ht, hfields, -⟩ := hslot hon hup hunits hdue
  obtain ⟨rest, hrest⟩ := State.units_first hserved
  have hrun : exec (.visitSlot 0) tileOfField1Serves = .next (tileOfField1Serves.visitSlot 0) := rfl
  rw [hrun, State.visitSlot_due hon hup hunits hdue, hrest, List.filter_cons_of_pos htakes, State.oldestUnit_first rfl] at ht
  cases ht
  exact hchanged (hfields 1 (by decide))

end Sys2Proof.Machine
end

section
/-! What a self-test visit rests on while it runs (06_self_test.md R171, R175, R178, R180): the tile's memory, the tile's place in the table
of visits, room under the limit, and the next item. -/

namespace Sys2Proof.Machine

/-! ### Tables -/

/-- A key that a table does not list reads as its default. -/
theorem Tab.get_of_unlisted {α : Type} (d : Nat → α) (t : Tab α) (k : Nat) (h : ∀ e ∈ t, e.1 ≠ k) : Tab.get d t k = d k := by
  induction t with
  | nil => rfl
  | cons e t ih =>
    obtain ⟨hne, ht⟩ := List.forall_mem_cons.mp h
    rw [Tab.get, if_neg (Ne.symm hne), ih ht, ite_self]

/-- A dropped key reads as its default. -/
theorem Tab.get_drop_of_picked {α : Type} (d : Nat → α) (p : Nat → Bool) (t : Tab α) {k : Nat} (hp : p k = true) :
    Tab.get d (Tab.drop p t) k = d k :=
  Tab.get_of_unlisted d _ k fun e he hk => by
    have hkept := (List.mem_filter.mp he).2
    rw [hk, hp] at hkept
    exact absurd hkept (by decide)

theorem Tab.above_sublist {α : Type} (k : Nat) (t : Tab α) : (Tab.above k t).Sublist t := by
  induction t with
  | nil => exact List.Sublist.slnil
  | cons e t ih =>
    rw [Tab.above]
    split
    · exact ih.cons e
    · exact List.Sublist.refl _

/-- A write of a key that a predicate leaves out adds no entry to those that it picks. -/
theorem Tab.filter_set_sublist {α : Type} [DecidableEq α] (d : Nat → α) (p : Nat × α → Bool) (t : Tab α) (k : Nat) (v : α)
    (hk : ∀ x, p (k, x) = false) : ((Tab.set d t k v).filter p).Sublist (t.filter p) := by
  induction t with
  | nil =>
    rw [Tab.set]
    split
    · exact List.Sublist.refl _
    · simp [hk]
  | cons e t ih =>
    obtain ⟨k', w⟩ := e
    rw [Tab.set]
    split_ifs with hlt hd heq hd
    · exact List.Sublist.refl _
    · rw [List.filter_cons_of_neg (by simp [hk])]
    · exact ((Tab.above_sublist k t).cons _).filter p
    · subst heq
      rw [List.filter_cons_of_neg (by simp [hk]), List.filter_cons_of_neg (by simp [hk])]
    · rw [List.filter_cons, List.filter_cons]
      split
      · exact ih.cons_cons _
      · exact ih

/-! ### The memory of a tile -/

/-- A tile that has been cleared reads zero. -/
theorem State.sramLine_clearSram (s : State) (k n : Nat) : (s.clearSram k).sramLine k n = 0 := by
  by_cases hn : n < 768
  · rw [State.sramLine, if_pos hn]
    exact Tab.get_drop_of_picked (fun _ => 0) (fun key => decide (key / 768 = k)) s.sram (decide_eq_true (by omega))
  · exact State.sramLine_outside _ k n (by omega)

/-! ### Room under the limit of R178 -/

theorem State.tapsUw_put_le (s : State) {F : RF} (i v : Nat) (hF : F ≠ .tsnTapCtrlState) : (s.put F i v).tapsUw ≤ s.tapsUw := by
  have hkey : ∀ x : Nat, (decide (regKey F i % 512 = RF.ctorIdx .tsnTapCtrlState ∧ x ≠ 0) &&
      !(s.tile (regKey F i / 512)).replaying) = false := fun x => by
    have hmod : regKey F i % 512 = F.ctorIdx := by
      have := F.ctorIdx_lt
      unfold regKey
      omega
    rw [hmod, decide_eq_false (fun h => hF (RF.ctorIdx_inj h.1)), Bool.false_and]
  exact Nat.mul_le_mul_left _ ((Tab.filter_set_sublist regDefault _ s.regs _ _ hkey).map _).length_le

/-- A field that is neither a tap's state nor the allowance takes no room from self-test. -/
theorem State.testLimit_le_put (s : State) {F : RF} (i v : Nat) (hF : F ≠ .tsnTapCtrlState) (hA : F ≠ .kprAllowanceInForce) :
    s.testLimit ≤ (s.put F i v).testLimit := by
  have hallow : (s.put F i v).rf .kprAllowanceInForce 0 = s.rf .kprAllowanceInForce 0 := s.rf_put_field _ _ _ _ _ hA
  have hleft : s.leftUw ≤ (s.put F i v).leftUw := by
    rw [State.leftUw, State.leftUw, State.allowanceUw, State.allowanceUw, hallow]
    exact Nat.sub_le_sub_left (s.tapsUw_put_le i v hF) _
  rw [State.testLimit, State.testLimit, State.shareUw, State.shareUw, hallow]
  by_cases hshed : s.mon.shedAt.isSome = true
  · rw [if_pos hshed]
    exact Nat.zero_le _
  · rw [if_neg hshed, if_neg (show ¬ (s.put F i v).mon.shedAt.isSome = true from hshed)]
    by_cases hrun : s.launch.running = true
    · rw [if_pos hrun, if_pos (show (s.put F i v).launch.running = true from hrun)]
      exact Nat.div_le_div_right (min_le_min (Nat.sub_le_sub_right hleft _) (Nat.le_refl _))
    · rw [if_neg hrun, if_neg (show ¬ (s.put F i v).launch.running = true from hrun)]
      exact Nat.le_refl _

/-! ### The table of visits -/

theorem State.visitOf_setVisit {s : State} {k : Nat} {x v : Visit} (h : s.visitOf k = some x) (hv : v.tile = k) :
    (s.setVisit v).visitOf k = some v := by
  subst hv
  have hsame : (fun y => decide (Visit.tile y = v.tile)) ∘ (fun y => if y.tile = v.tile then v else y) =
      fun y => decide (y.tile = v.tile) := by
    funext y
    by_cases hy : y.tile = v.tile <;> simp [hy]
  have htile : x.tile = v.tile := by simpa using List.find?_some h
  rw [State.visitOf] at h ⊢
  rw [State.setVisit, List.find?_map, hsame, h, Option.map_some, if_pos htile]

/-! ### The next item (R171) -/

/-- Where the items below `j`, and no others, have run, `j` is the next if the visit may run it. -/
theorem State.nextItem_eq {s : State} {v : Visit} {j : Nat} (hj : j < 33) (hran : v.ran = 2 ^ j - 1) (hok : s.itemOk v j = true)
    (hfits : v.path ≠ 2 ∨ s.itemCycles v j ≤ v.window) : s.nextItem v = some j := by
  have hbit : ∀ i, v.ran.testBit i = decide (i < j) := fun i => by rw [hran, Nat.testBit_two_pow_sub_one]
  refine List.find?_range_eq_some.mpr ⟨?_, List.mem_range.mpr (by omega), fun i hi => by simp [hbit, hi]⟩
  simpa [hbit, hok] using hfits

/-! ### The step of a visit (R175, R178, R180) -/

/-- With its station up, its function letting it go on, an item left and room, a visit begins its next item. -/
theorem State.nextStep_begins {s : State} {v : Visit} {j : Nat} (hup : s.stationUp (toFin32 (tileField v.tile)) = true)
    (hgo : s.visitGoes v = true) (hnext : s.nextItem v = some j) (hroom : s.testCount ≤ s.testLimit) :
    s.nextStep v = s.setVisit { v with item := j, paused := false } := by
  simp [State.nextStep, hup, hgo, hnext, hroom]

/-- Off the window path an item left begins, or waits for room. -/
theorem State.nextStep_begins_or_waits {s : State} {v : Visit} {j : Nat} (hup : s.stationUp (toFin32 (tileField v.tile)) = true)
    (hgo : s.visitGoes v = true) (hnext : s.nextItem v = some j) (hpath : v.path ≠ 2) :
    ∃ p, s.nextStep v = s.setVisit { v with item := j, paused := p } := by
  by_cases hroom : s.testCount ≤ s.testLimit
  · exact ⟨false, State.nextStep_begins hup hgo hnext hroom⟩
  · exact ⟨true, by simp [State.nextStep, hup, hgo, hnext, hroom, hpath]⟩

theorem SameRegs.stationUp {s t : State} {l : List (RF × Nat)} (h : SameRegs s t l) (f : Fin 32)
    (hstate : (.fstResetStatusState, f.val) ∉ l) (hdropped : (.kprFieldsDroppedDropped, 0) ∉ l) : t.stationUp f = s.stationUp f := by
  rw [State.stationUp, State.stationUp, State.domState, State.domState, State.dropped, State.dropped, h _ _ hstate, h _ _ hdropped]

theorem SameRegs.visitGoes {s t : State} {l : List (RF × Nat)} (h : SameRegs s t l) (v : Visit)
    (hstate : (.fstStCtrlState, (toFin32 (tileField v.tile)).val) ∉ l) : t.visitGoes v = s.visitGoes v := by
  have hfn : t.fnState (.fieldSelfTest (toFin32 (tileField v.tile))) = s.fnState (.fieldSelfTest (toFin32 (tileField v.tile))) := h _ _ hstate
  rw [State.visitGoes, State.visitGoes, State.fnOn, State.fnOn, hfn]

theorem State.nextItem_of_packs {s t : State} (h : t.st.packs = s.st.packs) (v : Visit) : t.nextItem v = s.nextItem v := by
  have hpack : ∀ j, t.packItem v j = s.packItem v j := fun j => by
    rw [State.packItem, State.packItem, sortedPacks, sortedPacks, h]
  have hok : ∀ j, t.itemOk v j = s.itemOk v j := fun j => by rw [State.itemOk, State.itemOk, hpack]
  have hcycles : ∀ j, t.itemCycles v j = s.itemCycles v j := fun j => by rw [State.itemCycles, State.itemCycles, hpack]
  simp only [State.nextItem, hok, hcycles]

end Sys2Proof.Machine
end

section
/-! The items of a visit and the move that brings it to its test (06_self_test.md R168, R170, R175). -/

namespace Sys2Proof.Machine

/-! ### The state after an item -/

/-- The result of an item on tile `k` leaves what the next step of its visit looks at: the table of visits, the tiles, the registers but
FAILED and MISR, and room under the limit. -/
def ItemNoted (s t : State) (k : Nat) : Prop :=
  t.st = s.st ∧ t.tiles = s.tiles ∧ SameRegs s t [(.tsnStCtrlFailed, k), (.tsnStMisrMisr, k)] ∧ s.testLimit ≤ t.testLimit

theorem State.clearSram_itemNoted (s : State) (k : Nat) : ItemNoted s (s.clearSram k) k := ⟨rfl, rfl, .of_regs_eq _ rfl, Nat.le_refl _⟩

theorem ItemNoted.put {s t : State} {k : Nat} (h : ItemNoted s t k) {F : RF} (v : Nat) (hF : F = .tsnStCtrlFailed ∨ F = .tsnStMisrMisr) :
    ItemNoted s (t.put F k v) k := by
  obtain ⟨hst, htiles, hregs, hlimit⟩ := h
  refine ⟨hst, htiles, hregs.put v ?_, hlimit.trans (t.testLimit_le_put k v ?_ ?_)⟩
  all_goals obtain rfl | rfl := hF <;> simp

theorem ItemNoted.refl (s : State) (k : Nat) : ItemNoted s s k := ⟨rfl, rfl, .refl s _, Nat.le_refl _⟩

/-- The step after an item: the next one begins. -/
theorem ItemNoted.nextStep {s t : State} {k : Nat} (h : ItemNoted s t k) {v : Visit} {j : Nat}
    (hup : s.stationUp (toFin32 (tileField v.tile)) = true) (hgo : s.visitGoes v = true) (hroom : s.testCount ≤ s.testLimit)
    (hnext : s.nextItem v = some j) : t.nextStep v = t.setVisit { v with item := j, paused := false } := by
  obtain ⟨hst, htiles, hregs, hlimit⟩ := h
  refine State.nextStep_begins ((hregs.stationUp _ (by simp) (by simp)).trans hup) ((hregs.visitGoes v (by simp)).trans hgo)
    ((State.nextItem_of_packs (by rw [hst]) v).trans hnext) ?_
  rw [State.testCount, htiles]
  exact hroom.trans hlimit

/-- The result of the item that runs is recorded, and the visit takes its next step. -/
theorem State.itemEnd_runs {s : State} {k : Nat} {v : Visit} {r : ItemResult} (hv : s.visitOf k = some v) (hstate : s.rf .tsnStCtrlState k = 3)
    (hpaused : v.paused = false) (hheld : v.held = false) (hfits : resultFits v.item r = true) :
    s.itemEnd k r = (s.recordItem v r).2.nextStep (s.recordItem v r).1 := by
  simp only [State.itemEnd, hv]
  exact if_pos ⟨hstate, hpaused, hheld, hfits⟩

/-- The tile cycles that a visit has taken decide neither whether it goes on nor its next item. -/
theorem State.visit_cycles (s : State) (v : Visit) (n : Nat) :
    s.visitGoes { v with cycles := n } = s.visitGoes v ∧ s.nextItem { v with cycles := n } = s.nextItem v := ⟨rfl, rfl⟩

/-- A tile takes a state of R175. -/
theorem State.setStState_leaves (s : State) (k : Nat) {x : Nat} (hx : x < 8) :
    (s.setStState k x).rf .tsnStCtrlState k = x ∧ (s.setStState k x).tile k = { s.tile k with underTest := decide (x ≠ 0) } ∧
      SameRegs s (s.setStState k x) [(.tsnStCtrlState, k)] :=
  ⟨(State.rf_put_same _ .tsnStCtrlState k x).trans (Nat.mod_eq_of_lt hx), s.tile_setTile_same k _,
    (SameRegs.of_regs_eq _ rfl).put x (List.mem_singleton.mpr rfl)⟩

/-- A rotation's home tile once its move has drained: its collar closed on both sides, and let run. -/
def State.isolated (s : State) (k : Nat) (r : Regrowth) : State :=
  ((s.dropRegrow r).closeCollar k).setTile k
    { (s.dropRegrow r).tile k with collarOut := true, collarIn := true, stall := false, frozen := false }

theorem State.isolated_collarOut (s : State) (k : Nat) (r : Regrowth) : ((s.isolated k r).tile k).collarOut = true := by
  rw [State.isolated, State.tile_setTile_same]

theorem State.setStState_isolated_st (s : State) (k : Nat) (r : Regrowth) (x : Nat) : ((s.isolated k r).setStState k x).st = s.st := by
  rw [State.setStState, State.put_st, State.setTile_st, State.isolated, State.setTile_st, State.closeCollar, State.setTile_st]
  rfl

/-- The tile after its march: zero, and FAILED where a bank failed. -/
def State.marched (s : State) (k : Nat) (banks : BitVec 12) : State :=
  if banks ≠ 0 then (s.clearSram k).put .tsnStCtrlFailed k 1 else s.clearSram k

theorem State.marched_itemNoted (s : State) (k : Nat) (b : BitVec 12) : ItemNoted s (s.marched k b) k := by
  unfold State.marched
  split
  · exact (s.clearSram_itemNoted k).put 1 (.inl rfl)
  · exact s.clearSram_itemNoted k

/-- A visit off the window path whose first item, the march, has run. -/
def Visit.marched (v : Visit) (banks : BitVec 12) : Visit :=
  { v with ran := 1, banks := v.banks ||| banks.toNat, cycles := v.cycles + 135168, window := v.window - 135168 }

/-- The tile after a slice whose signature differs. -/
def State.sliceFailed (s : State) (k : Nat) (misr : BitVec 64) : State := (s.put .tsnStCtrlFailed k 1).put .tsnStMisrMisr k misr.toNat

theorem State.sliceFailed_itemNoted (s : State) (k : Nat) (m : BitVec 64) : ItemNoted s (s.sliceFailed k m) k :=
  ((ItemNoted.refl s k).put 1 (.inl rfl)).put m.toNat (.inr rfl)

/-- A visit whose first slice has failed, after its march. -/
def Visit.sliceFailed (v : Visit) : Visit :=
  { v with ran := 3, slices := v.slices ||| 1, patterns := v.patterns + 1024, cycles := v.cycles + 132000, window := v.window - 132000 }

section
variable {s : State} {k : Nat} {v : Visit} (hv : s.visitOf k = some v) (htile : v.tile = k)
  (hup : s.stationUp (toFin32 (tileField k)) = true) (hgo : s.visitGoes v = true)
include hv htile hup hgo

section
variable (hroom : s.testCount ≤ s.testLimit) (hheld : v.held = false) (hpath : v.path = 3) (hstate : s.rf .tsnStCtrlState k = 3)
  (hpaused : v.paused = false) (hmode : v.mode = 0) (honly : v.routersOnly = false)
include hroom hheld hpath hstate hpaused hmode honly

/-! ### The march (R168, R170) -/

theorem State.itemEnd_march (hitem : v.item = 0) (hran : v.ran = 0) (b : BitVec 12) :
    s.itemEnd k (.march b) = (s.marched k b).setVisit { v.marched b with item := 1 } := by
  subst htile
  have hrecord : s.recordItem v (.march b) = (v.marched b, s.marched v.tile b) := by
    simp [State.recordItem, State.itemCycles, hitem, hran, hpath, State.marched, Visit.marched]
  have hnext : s.nextItem (v.marched b) = some 1 :=
    State.nextItem_eq (by decide) rfl (by simp [State.itemOk, Visit.marched, hmode, honly]) (.inl (by simp [Visit.marched, hpath]))
  rw [State.itemEnd_runs hv hstate hpaused hheld (by rw [hitem]; rfl), hrecord]
  refine ((s.marched_itemNoted v.tile b).nextStep (v := v.marched b) hup hgo hroom hnext).trans ?_
  simp only [Visit.marched, hpaused]

theorem itemEnd_march_leaves (hk : tileOk k = true) (hitem : v.item = 0) (hran : v.ran = 0) (b : BitVec 12) :
    Completes (exec (.visitItemEnd k (.march b)) s) (fun t => SameRegs s t [(.tsnStCtrlFailed, k)] ∧ (∀ n, t.sramLine k n = 0) ∧
      (b ≠ 0 → t.rf .tsnStCtrlFailed k = 1) ∧ (b = 0 → t.rf .tsnStCtrlFailed k = s.rf .tsnStCtrlFailed k) ∧
      t.visitOf k = some { v with
        ran := 1, banks := v.banks ||| b.toNat, cycles := v.cycles + 135168, window := v.window - 135168, item := 1 }) := by
  refine .of_onTile hk rfl ?_
  rw [State.itemEnd_march hv htile hup hgo hroom hheld hpath hstate hpaused hmode honly hitem hran]
  have hvisit : (s.marched k b).visitOf k = some v := by
    rw [State.marched, apply_ite (fun u : State => u.visitOf k)]
    exact (ite_self _).trans hv
  refine ⟨?regs, ?zero, ?fails, ?passes, State.visitOf_setVisit hvisit htile⟩
  all_goals unfold State.marched
  case regs =>
    split
    · exact (s.clearSram k).sameRegs_put 1 (by simp)
    · exact .of_regs_eq _ rfl
  case zero =>
    intro n
    split <;> exact s.sramLine_clearSram k n
  case fails =>
    intro hb
    rw [if_pos hb]
    exact (s.clearSram k).rf_put_same .tsnStCtrlFailed k 1
  case passes =>
    intro hb
    rw [if_neg (not_not.mpr hb)]
    rfl

/-! ### A slice (R168) -/

theorem itemEnd_slice_leaves (hk : tileOk k = true) (hitem : v.item = 1) (hran : v.ran = 1) {m g : BitVec 64} (hmg : m ≠ g) :
    Completes (exec (.visitItemEnd k (.slice m g)) s) (fun t => t.rf .tsnStCtrlFailed k = 1 ∧ t.rf .tsnStMisrMisr k = m.toNat ∧
      ∃ x, t.visitOf k = some x ∧ x.slices = v.slices ||| 1 ∧ x.patterns = v.patterns + 1024 ∧ x.item = 2) := by
  subst htile
  have hrecord : s.recordItem v (.slice m g) = (v.sliceFailed, s.sliceFailed v.tile m) := by
    simp [State.recordItem, State.itemCycles, hitem, hran, hmg, State.sliceFailed, Visit.sliceFailed]
  have hnext : s.nextItem v.sliceFailed = some 2 :=
    State.nextItem_eq (by decide) rfl (by simp [State.itemOk, Visit.sliceFailed, hmode, honly])
      (.inl (by simp [Visit.sliceFailed, hpath]))
  refine .of_onTile hk rfl ?_
  rw [State.itemEnd_runs hv hstate hpaused hheld (by rw [hitem]; rfl), hrecord,
    show (s.sliceFailed v.tile m).nextStep v.sliceFailed = _ from (s.sliceFailed_itemNoted v.tile m).nextStep (v := v.sliceFailed) hup hgo hroom hnext]
  refine ⟨?_, ?_, _, State.visitOf_setVisit hv rfl, rfl, rfl, rfl⟩
  · exact ((s.put .tsnStCtrlFailed v.tile 1).rf_put_field _ _ _ _ _ (by decide)).trans (s.rf_put_same .tsnStCtrlFailed v.tile 1)
  · exact ((s.put .tsnStCtrlFailed v.tile 1).rf_put_same .tsnStMisrMisr v.tile m.toNat).trans (Nat.mod_eq_of_lt m.isLt)

end

/-! ### The move of a rotation (R172, R175) -/

omit hup hgo in
/-- The drained move is struck off, and the visit that it was for goes on in TESTING. -/
theorem State.moveDone_tests {r : Regrowth} (hr : s.regrows = [r]) (hlogical : some r.logical = v.logical) (hrot : r.rot = 1)
    (hphase : r.phase = rgDone) (hstate : s.rf .tsnStCtrlState k = 1) (haborted : v.aborted = false) :
    s.moveDone k = ((s.isolated k r).setStState k 3).nextStep { v with cycles := v.cycles + s.moveCycles r } := by
  subst htile
  have hfind : s.regrows.find? (fun r => decide (some r.logical = v.logical ∧ r.rot ≠ 0 ∧ r.phase = rgDone)) = some r := by
    rw [hr]
    simp [hlogical, hrot, hphase]
  simp only [State.moveDone, hv, hfind]
  refine (if_pos ⟨hstate, hrot⟩).trans ?_
  rw [haborted]
  rfl

theorem visitMoveDone_tests (hk : tileOk k = true) {r : Regrowth} (hr : s.regrows = [r]) (hlogical : some r.logical = v.logical)
    (hrot : r.rot = 1) (hphase : r.phase = rgDone) (hstate : s.rf .tsnStCtrlState k = 1) (haborted : v.aborted = false)
    (hpath : v.path = 1) (hitem : (s.nextItem v).isSome = true) :
    Completes (exec (.visitMoveDone k) s) (fun t => t.regrows = [] ∧ t.rf .tsnStCtrlState k = 3 ∧ (t.tile k).collarOut = true ∧
      (t.tile k).underTest = true ∧ SameRegs s t [(.tsnStCtrlState, k)]) := by
  have hmove := State.moveDone_tests hv htile hr hlogical hrot hphase hstate haborted
  subst htile
  obtain ⟨j, hj⟩ := Option.isSome_iff_exists.mp hitem
  obtain ⟨hthree, htest, hregs⟩ := (s.isolated v.tile r).setStState_leaves v.tile (x := 3) (by decide)
  have hgoes : ((s.isolated v.tile r).setStState v.tile 3).visitGoes v = true := (hregs.visitGoes v (by simp)).trans hgo
  have hnext : ((s.isolated v.tile r).setStState v.tile 3).nextItem v = some j :=
    (State.nextItem_of_packs (congrArg SelfTest.packs (s.setStState_isolated_st v.tile r 3)) v).trans hj
  obtain ⟨hgoes', hnext'⟩ := ((s.isolated v.tile r).setStState v.tile 3).visit_cycles v (v.cycles + s.moveCycles r)
  obtain ⟨p, hp⟩ := State.nextStep_begins_or_waits (v := { v with cycles := v.cycles + s.moveCycles r })
    ((hregs.stationUp _ (by simp) (by simp)).trans hup) (hgoes'.trans hgoes) (hnext'.trans hnext) (by simp [hpath])
  refine .of_onTile hk rfl ?_
  rw [hmove, hp]
  refine ⟨?_, hthree, (congrArg Tile.collarOut htest).trans (s.isolated_collarOut v.tile r), congrArg Tile.underTest htest, hregs⟩
  change s.regrows.filter _ = []
  rw [hr]
  simp

end

end Sys2Proof.Machine
end

section
/-! Records of visits at their station, lateness, and errors of a tile's memories (06_self_test.md R176, R177, R182, R183;
02_units_and_ledger.md R44), and the settlement of O22. -/

namespace Sys2Proof.Machine

/-- A tile's event, of a state whose events are as before. -/
theorem State.sample_raised_tile {s u : State} {k : Nat} (hevents : u.events = s.events) (hnow : u.now = s.now)
    (hroom : s.sliceDepth (tileField k) < 511) (cls : Nat) (acts : List EvAct) :
    u.sample cls (locTile k) acts = { u with events := s.events ++ [⟨cls, locTile k, s.now, acts⟩] } := by
  rw [← hevents, ← hnow]
  exact State.sample_of_room (locField_locTile k) (by rwa [State.sliceDepth, hevents]) cls acts

/-! ### Records (R183) -/

theorem State.visitArrival_bad {s : State} {rec : Nat} (f : Nat) (h : recordOk rec 30 = false) :
    s.visitArrival f rec = s.put .fstStStatusRecordCrc f 1 := if_neg (by simp [h])

/-- The unit that a record's tile stands for (R176). -/
def State.recordUnit (s : State) (k : Nat) : Nat :=
  match s.logicalOf k with
  | some l => l
  | none => spareUnit k

theorem State.recordUnit_eq (s : State) (k : Nat) : s.recordUnit k = (s.logicalOf k).getD (2 ^ 19 + k) := by
  unfold State.recordUnit
  cases s.logicalOf k <;> rfl

/-- The record of a tile is no longer on its way. -/
def SelfTest.recordCame (x : SelfTest) (k : Nat) : SelfTest := { x with diag := x.diag.filter (fun y => decide (y ≠ k)) }

/-- A unit's last completed visit is stamped, and it is no longer late. -/
def SelfTest.stamped (x : SelfTest) (u now : Nat) : SelfTest :=
  { x with done := Tab.set (fun _ => 0) x.done u now, late := x.late.filter (fun y => decide (y ≠ u)) }

/-- The marks of a good record: a whole visit that was not diagnostic stamps its unit and is counted. -/
def State.unitStamped (s : State) (f rec : Nat) : State :=
  if bits rec 4 4 = 1 ∧ s.st.diag.contains (bits rec 64 19) = false then
    ({ s with st := (s.st.recordCame (bits rec 64 19)).stamped (s.recordUnit (bits rec 64 19)) s.now } : State).bump
      .fstStVisitsVisits f .fstStStatusCountSat f 1
  else { s with st := s.st.recordCame (bits rec 64 19) }

/-- The counts of failures and aborts, and the last record kept. -/
def State.recordCounted (s : State) (f rec : Nat) : State :=
  let s1 := if (visitDetects rec).isEmpty then s else s.bump .fstStFailsFails f .fstStStatusCountSat f 1
  let s2 := if bits rec 4 4 = 2 then s1.bump .fstStAbortsAborts f .fstStStatusCountSat f 1 else s1
  if bits rec 4 4 = 2 ∨ !(visitDetects rec).isEmpty then s2.put .fstStLastRecord f rec else s2

def visitActs (f rec : Nat) : List EvAct := visitDetects rec ++ [.post 4 f (bits rec 64 19) 32 rec false]

theorem State.visitArrival_good {s : State} {rec : Nat} (f : Nat) (h : recordOk rec 30 = true) :
    s.visitArrival f rec = ((s.unitStamped f rec).recordCounted f rec).sample 10 (locTile (bits rec 64 19)) (visitActs f rec) := by
  rw [State.visitArrival, if_pos h]
  rfl

theorem State.bump_tells (s : State) (F : RF) (i : Nat) (G : RF) (j m : Nat) :
    (s.bump F i G j m).events = s.events ∧ (s.bump F i G j m).now = s.now := by
  rw [(s.bump_onlyRegs F i G j m).1]
  exact ⟨rfl, rfl⟩

theorem State.unitStamped_tells (s : State) (f rec : Nat) : (s.unitStamped f rec).events = s.events ∧ (s.unitStamped f rec).now = s.now := by
  unfold State.unitStamped
  split_ifs
  · exact State.bump_tells _ _ _ _ _ _
  · exact ⟨rfl, rfl⟩

theorem State.recordCounted_tells (s : State) (f rec : Nat) :
    (s.recordCounted f rec).events = s.events ∧ (s.recordCounted f rec).now = s.now := by
  unfold State.recordCounted
  split_ifs <;> simp [State.bump_tells]

/-- A good record is told of at its station, whatever it counts there. -/
theorem State.visitArrival_raised {s : State} {rec : Nat} (f : Nat) (h : recordOk rec 30 = true)
    (hroom : s.sliceDepth (tileField (bits rec 64 19)) < 511) :
    Raised s (s.visitArrival f rec) 10 (locTile (bits rec 64 19)) (visitActs f rec) := by
  obtain ⟨hevents, hnow⟩ := s.unitStamped_tells f rec
  obtain ⟨hevents', hnow'⟩ := (s.unitStamped f rec).recordCounted_tells f rec
  rw [State.visitArrival_good f h, State.sample_raised_tile (hevents'.trans hevents) (hnow'.trans hnow) hroom, Raised]

/-- A whole visit with nothing failing: its unit stamped, one visit counted, and the record posted. -/
theorem State.visitArrival_whole {s : State} {rec : Nat} (f : Nat) (h : recordOk rec 30 = true) (hty : bits rec 4 4 = 1)
    (hdiag : s.st.diag = []) (hds : visitDetects rec = []) (hc : s.rf .fstStVisitsVisits f + 1 < 2 ^ RF.fstStVisitsVisits.spec.width)
    (hroom : s.sliceDepth (tileField (bits rec 64 19)) < 511) :
    let t := s.visitArrival f rec
    SameRegs s t [(.fstStVisitsVisits, f)] ∧ t.rf .fstStVisitsVisits f = s.rf .fstStVisitsVisits f + 1 ∧
      Tab.get (fun _ => 0) t.st.done (s.recordUnit (bits rec 64 19)) = s.now := by
  intro t
  have hcounted : ∀ u : State, u.recordCounted f rec = u := fun u => by simp [State.recordCounted, hds, hty]
  have hstamped : s.unitStamped f rec =
      State.put { s with st := (s.st.recordCame (bits rec 64 19)).stamped (s.recordUnit (bits rec 64 19)) s.now }
        .fstStVisitsVisits f (s.rf .fstStVisitsVisits f + 1) := by
    rw [State.unitStamped, if_pos ⟨hty, by rw [hdiag]; rfl⟩]
    exact State.bump_eq_put _ _ _ hc
  have ht : t = _ := State.visitArrival_good f h
  obtain ⟨hevents, hnow⟩ := s.unitStamped_tells f rec
  rw [hcounted, State.sample_raised_tile hevents hnow hroom, hstamped] at ht
  rw [ht]
  refine ⟨(SameRegs.of_regs_eq _ rfl).put _ (List.mem_singleton.mpr rfl), ?_, Tab.get_set_same _ _ _ _⟩
  exact (State.rf_put_same _ .fstStVisitsVisits f _).trans (Nat.mod_eq_of_lt hc)

/-! ### What a record tells of (R181, R183) -/

theorem detect_pack_mem {rec : Nat} (f : Nat) (h : bits rec 96 16 ≠ 0) : .detect (tileKey (bits rec 64 19)) 0x022 3 ∈ visitActs f rec := by
  simp [visitActs, visitDetects, h]

theorem detect_slice_mem {rec : Nat} (f : Nat) (hp : bits rec 96 16 = 0) (h : bits rec 32 28 ≠ 0) :
    .detect (tileKey (bits rec 64 19)) 0x020 2 ∈ visitActs f rec := by
  have hslices : bits rec 32 32 % 2 ^ 28 = bits rec 32 28 := Nat.mod_mod_of_dvd _ (by decide)
  refine List.mem_append_left _ (List.mem_append_left _ (List.mem_append_left _ ?_))
  rw [if_neg (not_not.mpr hp), if_pos (by rw [hslices]; exact h)]
  exact List.mem_singleton.mpr rfl

theorem detect_router_mem {rec p : Nat} (f : Nat) (hp : p < 4) (h : rec.testBit (60 + p) = true) :
    .detect ⟨kindRouter, bits rec 64 19, p⟩ 0x023 2 ∈ visitActs f rec := by
  have hbit : (bits rec 32 32).testBit (28 + p) = true := by
    rw [testBit_bits, show 32 + (28 + p) = 60 + p by omega, h, decide_eq_true (by omega : 28 + p < 32), Bool.and_self]
  refine List.mem_append_left _ (List.mem_append_left _ (List.mem_append_right _ (List.mem_map.mpr ⟨p, ?_, rfl⟩)))
  exact List.mem_filter.mpr ⟨List.mem_range.mpr hp, hbit⟩

theorem detect_bank_mem {rec b : Nat} (f : Nat) (hb : b < 12) (h : rec.testBit (16 + b) = true) :
    .detect (bankKey (bits rec 64 19) b) 0x021 2 ∈ visitActs f rec := by
  have hbit : (bits rec 16 12).testBit b = true := by rw [testBit_bits, h, decide_eq_true hb, Bool.and_self]
  refine List.mem_append_left _ (List.mem_append_right _ (List.mem_map.mpr ⟨b, ?_, rfl⟩))
  exact List.mem_filter.mpr ⟨List.mem_range.mpr hb, hbit⟩

/-- A record with no failing part names none. -/
theorem visitDetects_clean {rec : Nat} (hs : bits rec 32 32 = 0) (hp : bits rec 96 16 = 0) (hb : bits rec 16 12 = 0) :
    visitDetects rec = [] := by
  simp [visitDetects, hs, hp, hb]

theorem visitRecords (s : State) (f : Fin 32) (r : BitVec 256) :
    let t0 := bits r.toNat 64 19
    (recordOk r.toNat 30 = false → Completes (exec (.visitRecordArrival f r) s) (fun t => OnlyRegs s t [(.fstStStatusRecordCrc, f.val)] ∧
      t.rf .fstStStatusRecordCrc f.val = 1)) ∧
    (recordOk r.toNat 30 = true → bits r.toNat 4 4 = 1 → s.st.diag = [] → tileOk t0 = true →
      bits r.toNat 32 32 = 0 → bits r.toNat 96 16 = 0 → bits r.toNat 16 12 = 0 →
      s.rf .fstStVisitsVisits f.val + 1 < 2 ^ RF.fstStVisitsVisits.spec.width → s.sliceDepth (tileField t0) < 511 →
      Completes (exec (.visitRecordArrival f r) s) (fun t => SameRegs s t [(.fstStVisitsVisits, f.val)] ∧
        t.rf .fstStVisitsVisits f.val = s.rf .fstStVisitsVisits f.val + 1 ∧
        Tab.get (fun _ => 0) t.st.done ((s.logicalOf t0).getD (2 ^ 19 + t0)) = s.now ∧
        Raised s t 10 (locTile t0) [.post 4 f.val t0 32 r.toNat false])) ∧
    (recordOk r.toNat 30 = true → tileOk t0 = true → s.sliceDepth (tileField t0) < 511 →
      Completes (exec (.visitRecordArrival f r) s) (fun t => ∃ acts, Raised s t 10 (locTile t0) acts ∧
        (bits r.toNat 96 16 = 0 → bits r.toNat 32 28 ≠ 0 → .detect ⟨1, t0, 0⟩ 0x020 2 ∈ acts) ∧
        (bits r.toNat 96 16 ≠ 0 → .detect ⟨1, t0, 0⟩ 0x022 3 ∈ acts) ∧
        (∀ p, p < 4 → r.toNat.testBit (60 + p) = true → .detect ⟨3, t0, p⟩ 0x023 2 ∈ acts) ∧
        (∀ b, b < 12 → r.toNat.testBit (16 + b) = true → .detect ⟨2, t0, b⟩ 0x021 2 ∈ acts))) := by
  intro t0
  refine ⟨fun hbad => .of_next rfl ?bad, fun hgood hty hdiag _ hs hp hb hc hroom => .of_next rfl ?whole,
    fun hgood _ hroom => .of_next rfl ⟨_, State.visitArrival_raised f.val hgood hroom, detect_slice_mem f.val, detect_pack_mem f.val,
      fun p => detect_router_mem f.val, fun b => detect_bank_mem f.val⟩⟩
  case bad =>
    rw [State.visitArrival_bad _ hbad]
    exact s.put_sets _ _ (by decide)
  case whole =>
    have hclean := visitDetects_clean hs hp hb
    obtain ⟨hregs, hcount, hdone⟩ := State.visitArrival_whole f.val hgood hty hdiag hclean hc hroom
    have hraised := State.visitArrival_raised f.val hgood hroom
    rw [visitActs, hclean] at hraised
    exact ⟨hregs, hcount, by rw [← s.recordUnit_eq]; exact hdone, hraised⟩

/-! ### Lateness (R177) -/

/-- A unit's lateness is noted. -/
def State.lateNoted (s : State) (u : Nat) : State :=
  ({ s with st := { s.st with late := u :: s.st.late } } : State).put .fstStStatusVisitLate (tileField u) 1

theorem State.visitLate_first {s : State} {u : Nat} (hu : u < 2 ^ 19) (hserved : s.served u = true)
    (hage : 2 * s.visitPeriod (tileField u) < s.visitAge (tileField u) u) (hnew : u ∉ s.st.late) :
    s.visitLate u = (s.lateNoted u).sample 10 (locStation (tileField u))
      [evNotice 4 (tileField u) (s.unitTile u) 0x08 0 (s.unitTile u)] := by
  have hguard : (decide (u < 2 ^ 20) && (if u < 2 ^ 19 then s.served u else !s.spareBusy (u - 2 ^ 19) && isSpare (u - 2 ^ 19)) &&
      decide (2 * s.visitPeriod (tileField u) < s.visitAge (tileField u) u) && !s.st.late.contains u) = true := by
    rw [if_pos hu, hserved, decide_eq_true hage, decide_eq_true (by omega : u < 2 ^ 20)]
    simpa using hnew
  unfold State.visitLate
  rw [Nat.mod_eq_of_lt hu]
  exact if_pos hguard

/-- A unit whose lateness has been told of is passed over. -/
theorem State.visitLate_told {s : State} {u : Nat} (h : u ∈ s.st.late) : s.visitLate u = s := if_neg (by simp [h])

theorem visitLate_rows (s : State) (u : Nat) :
    (u < 2 ^ 19 → s.served u = true → 2 * s.visitPeriod (tileField u) < s.visitAge (tileField u) u → u ∉ s.st.late →
      s.sliceDepth (tileField u) < 511 → tileField u < 32 →
      Completes (exec (.visitLate u) s) (fun t => SameRegs s t [(.fstStStatusVisitLate, tileField u)] ∧
        t.rf .fstStStatusVisitLate (tileField u) = 1 ∧ t.st.late = u :: s.st.late ∧
        ∃ acts, Raised s t 10 (locStation (tileField u)) acts)) ∧
    (u ∈ s.st.late → exec (.visitLate u) s = .next s) := by
  refine ⟨fun hu hserved hage hnew hroom _ => .of_next rfl ?_, fun h => congrArg Host.Outcome.next (State.visitLate_told h)⟩
  rw [State.visitLate_first hu hserved hage hnew, State.sample_raised (s := s) (u := s.lateNoted u) rfl rfl hroom]
  exact ⟨(SameRegs.of_regs_eq _ rfl).put 1 (List.mem_singleton.mpr rfl), State.rf_put_same _ .fstStStatusVisitLate _ 1, rfl, _, rfl⟩

/-! ### Errors of a tile's memories (R44, R182) -/

/-- A bank's counter after `n` more errors: they are counted, up to 31, and the mark of its detection stands beside the count. -/
def State.ceCount (s : State) (k n c : Nat) : Nat :=
  Nat.min 31 (c + n) + (if 32 ≤ c ∨ s.ceLimit (tileField k) < Nat.min 31 (c + n) then 32 else 0)

/-- The errors of a bank are counted. -/
def State.ceCounted (s : State) (k b n c : Nat) : State :=
  { s with ceCounts := Tab.set (fun _ => 0) s.ceCounts (12 * k + b) (s.ceCount k n c) }

/-- What a report of correctable errors tells of: the count that passes CE_LIMIT gives a detection. -/
def State.ceActs (s : State) (k b v : Nat) : List EvAct :=
  .hazard 0 :: if s.ceLimit (tileField k) < v then [.detect (bankKey k b) 0x011 2] else []

theorem State.sramCe_below {s : State} {k b c : Nat} (hc : Tab.get (fun _ => 0) s.ceCounts (12 * k + b) = c) (hlow : c < 32) (n : Nat) :
    s.sramCe k b n = (s.ceCounted k b n c).sample 8 (locTile k) (s.ceActs k b (Nat.min 31 (c + n))) := by
  unfold State.sramCe
  simp only [hc, Nat.mod_eq_of_lt hlow, State.ceActs, State.ceCounted, State.ceCount, decide_eq_true_eq, hlow, true_and]

theorem State.sramCe_leaves {s : State} {k b c : Nat} (hc : Tab.get (fun _ => 0) s.ceCounts (12 * k + b) = c) (hlow : c < 32)
    (hroom : s.sliceDepth (tileField k) < 511) (n : Nat) :
    let t := s.sramCe k b n
    t = { s with ceCounts := t.ceCounts, events := t.events } ∧ Tab.get (fun _ => 0) t.ceCounts (12 * k + b) % 32 = Nat.min 31 (c + n) ∧
      (∀ j, j ≠ 12 * k + b → Tab.get (fun _ => 0) t.ceCounts j = Tab.get (fun _ => 0) s.ceCounts j) ∧
      Raised s t 8 (locTile k) (s.ceActs k b (Nat.min 31 (c + n))) := by
  intro t
  have ht : t = _ := State.sramCe_below hc hlow n
  rw [State.sample_raised_tile (s := s) (u := s.ceCounted k b n c) rfl rfl hroom] at ht
  rw [ht]
  refine ⟨rfl, ?_, fun j hj => Tab.get_set_other _ _ _ _ _ hj, rfl⟩
  have hle : Nat.min 31 (c + n) < 32 := Nat.lt_succ_of_le (Nat.min_le_left 31 (c + n))
  change Tab.get (fun _ => 0) (Tab.set (fun _ => 0) s.ceCounts (12 * k + b) (s.ceCount k n c)) (12 * k + b) % 32 = _
  rw [Tab.get_set_same, State.ceCount]
  split <;> omega

/-- An hour after the last clearing the counters of the field go back (R182). -/
theorem State.ceClear_due {s : State} {f : Fin 32} (hup : s.stationUp f = true) (hdue : (s.field f.val).ceClearAt + 3600000000 ≤ s.now) :
    s.ceClear f.val = { s.setField f.val { s.field f.val with ceClearAt := s.now } with
      ceCounts := Tab.drop (fun k => decide (tileField (k / 12) = f.val)) s.ceCounts } :=
  if_pos ⟨by rwa [toFin32_val], hdue⟩

theorem State.ceClear_waits {s : State} {f : Fin 32} (h : s.stationUp f = false ∨ s.now < (s.field f.val).ceClearAt + 3600000000) :
    s.ceClear f.val = s := by
  refine if_neg fun ⟨hup, hdue⟩ => ?_
  rw [toFin32_val] at hup
  obtain hdown | hearly := h
  · simp [hup] at hdown
  · omega

theorem tileErrors (s : State) (k n : Nat) (bank : Fin 12) (f : Fin 32) (hk : tileOk k = true) (hroom : s.sliceDepth (tileField k) < 511) :
    (exec (.sramUeReport k bank) s =
      .next { s with events := s.events ++ [⟨5, locTile k, s.now, [.detect ⟨2, k, bank.val⟩ 0x010 2]⟩] }) ∧
    (∀ c, Tab.get (fun _ => 0) s.ceCounts (12 * k + bank.val) = c → c < 32 →
      Completes (exec (.sramCeReport k bank n) s) (fun t => t = { s with ceCounts := t.ceCounts, events := t.events } ∧
        Tab.get (fun _ => 0) t.ceCounts (12 * k + bank.val) % 32 = Nat.min 31 (c + n) ∧
        (∀ j, j ≠ 12 * k + bank.val → Tab.get (fun _ => 0) t.ceCounts j = Tab.get (fun _ => 0) s.ceCounts j) ∧
        Raised s t 8 (locTile k) (.hazard 0 :: if Nat.max 1 (s.rf .fstStCtrlCeLimit (tileField k)) < Nat.min 31 (c + n) then
          [.detect ⟨2, k, bank.val⟩ 0x011 2] else []))) ∧
    (s.stationUp f = true → (s.field f.val).ceClearAt + 3600000000 ≤ s.now →
      Completes (exec (.ceCounterClear f) s) (fun t => t = { s with fields := t.fields, ceCounts := t.ceCounts } ∧
        SameFields s t f.val ∧ (t.field f.val).ceClearAt = s.now ∧ ∀ e ∈ t.ceCounts, tileField (e.1 / 12) ≠ f.val)) ∧
    (s.stationUp f = false ∨ s.now < (s.field f.val).ceClearAt + 3600000000 → exec (.ceCounterClear f) s = .next s) := by
  refine ⟨?uncorrectable, fun c hc hlow => .of_onTile hk rfl (State.sramCe_leaves hc hlow hroom n), fun hup hdue => .of_next rfl ?cleared,
    fun h => congrArg Host.Outcome.next (State.ceClear_waits h)⟩
  case uncorrectable =>
    refine (onTile_next hk s _).trans (congrArg Host.Outcome.next ?_)
    exact State.sample_raised_tile rfl rfl hroom 5 _
  case cleared =>
    rw [State.ceClear_due hup hdue]
    refine ⟨rfl, s.sameFields_setField _ _, congrArg FieldSt.ceClearAt (s.field_setField_same _ _), fun e he => ?_⟩
    simpa using (List.mem_filter.mp he).2

/-- Settles O22: the items of a visit and its move, the records at their station and lateness, and the errors of a tile's memories. -/
theorem selfTestItemsAndTileErrors : Obligations.SelfTestItemsAndTileErrors := by
  unfold Obligations.SelfTestItemsAndTileErrors
  refine ⟨fun s k v b m g r hk hv htile hup hgo hroom hheld => ⟨?march, ?slice, ?move⟩, fun s f r u => ?records,
    fun s k n bank f hk hroom => tileErrors s k n bank f hk hroom⟩
  case march =>
    intro hpath hstate hpaused hitem hmode hran honly
    exact itemEnd_march_leaves hv htile hup hgo hroom hheld hpath hstate hpaused hmode honly hk hitem hran b
  case slice =>
    intro hpath hstate hpaused hitem hmode hran honly hmg
    exact itemEnd_slice_leaves hv htile hup hgo hroom hheld hpath hstate hpaused hmode honly hk hitem hran hmg
  case move =>
    intro hr hlogical hrot hphase hstate haborted hpath hitem
    exact visitMoveDone_tests hv htile hup hgo hk hr hlogical hrot hphase hstate haborted hpath hitem
  case records =>
    obtain ⟨hbad, hwhole, htells⟩ := visitRecords s f r
    obtain ⟨hlate, htold⟩ := visitLate_rows s u
    exact ⟨hbad, hwhole, htells, hlate, htold⟩

end Sys2Proof.Machine
end

section
/-! The loss of partners under a scan entry (06_self_test.md R188, 08_securing_and_rollback.md R249): a scanned port goes down and the peers
behind it are lost. What that leaves of the entry, stated once as a relation between the states before and after, and kept by every operation
on the way. -/

namespace Sys2Proof.Machine

/-- The register fields that a scan entry sets. -/
def RF.ofScan : RF → Bool
  | .kprStStatusScanned | .kprStStatusScanTarget | .lwdPortStatusPortUp | .lwdLaneUpUp => true
  | _ => false

/-- The place in the entry sequence, the job key and the registers of the entry stand. -/
structure KeepsScan (s t : State) : Prop where
  step : t.st.scanStep = s.st.scanStep
  key  : t.jobKey = s.jobKey
  regs : ∀ F, F.ofScan = true → ∀ i, t.rf F i = s.rf F i

theorem KeepsScan.trans {s t u : State} (h : KeepsScan s t) (h' : KeepsScan t u) : KeepsScan s u where
  step := h'.step.trans h.step
  key := h'.key.trans h.key
  regs := fun F hF i => (h'.regs F hF i).trans (h.regs F hF i)

/-- The registers, the place in the entry sequence and the job key. -/
def State.scanParts (s : State) := (s.regs, s.st.scanStep, s.jobKey)

/-- What leaves them alone. -/
theorem KeepsScan.of_same {s t : State} (h : t.scanParts = s.scanParts) : KeepsScan s t := by
  simp only [State.scanParts, Prod.mk.injEq] at h
  obtain ⟨hregs, hst, hkey⟩ := h
  exact ⟨hst, hkey, fun F _ i => by rw [State.rf, State.rf, hregs]⟩

theorem KeepsScan.refl (s : State) : KeepsScan s s := .of_same rfl

/-- A step behind that leaves them alone. -/
theorem KeepsScan.then_same {s t u : State} (h : KeepsScan s t) (hu : u.scanParts = t.scanParts) : KeepsScan s u :=
  h.trans (.of_same hu)

/-- A write of any other field. -/
theorem KeepsScan.put {s t : State} (h : KeepsScan s t) (F : RF) (i v : Nat) (hF : F.ofScan = false) : KeepsScan s (t.put F i v) :=
  h.trans ⟨rfl, rfl, fun G hG j => t.rf_put_field F G i j v (fun e => by simp [e, hG] at hF)⟩

theorem KeepsScan.ite {s t u : State} {c : Prop} [Decidable c] (ht : KeepsScan s t) (hu : KeepsScan s u) : KeepsScan s (if c then t else u) := by
  split
  · exact ht
  · exact hu

theorem KeepsScan.foldl {α : Type} {f : State → α → State} (h : ∀ t a, KeepsScan t (f t a)) (l : List α) (s : State) :
    KeepsScan s (l.foldl f s) := by
  induction l generalizing s with
  | nil => exact .refl s
  | cons a l ih => exact (h s a).trans (ih _)

theorem KeepsScan.bump {s t : State} (h : KeepsScan s t) (F : RF) (i : Nat) (G : RF) (j m : Nat) (hF : F.ofScan = false)
    (hG : G.ofScan = false) : KeepsScan s (t.bump F i G j m) :=
  .ite (h.put F i _ hF) ((h.put F i _ hF).put G j _ hG)

theorem State.keepsScan_sample (s : State) (cls loc : Nat) (acts : List EvAct) : KeepsScan s (s.sample cls loc acts) := by
  unfold State.sample
  split
  · exact .of_same rfl
  · exact .ite (.ite (.put (.of_same (by rfl)) _ _ _ (by rfl)) (.of_same (by rfl))) (.put (.of_same (by rfl)) _ _ _ (by rfl))

/-! ### Messages, and waits that end -/

theorem State.keepsScan_setTaken (s : State) (l : List Taken) : KeepsScan s (s.setTaken l) :=
  .put (.put (.of_same (by rfl)) .hptCreditsOutstanding 0 _ rfl) .hptCreditsHigh 0 _ rfl

theorem State.keepsScan_sendMsg (s : State) (cls code units cid status payload : Nat) : KeepsScan s (s.sendMsg cls code units cid status payload) :=
  .ite (.of_same (by rfl)) (.put (.of_same (by rfl)) _ _ _ (by rfl))

theorem State.keepsScan_croak (s : State) (code units payload : Nat) : KeepsScan s (s.croak code units payload) :=
  s.keepsScan_sendMsg 2 code units 0 0 payload

theorem State.keepsScan_respond (s : State) (op cid status units payload : Nat) : KeepsScan s (s.respond op cid status units payload) :=
  .ite ((s.keepsScan_sendMsg _ _ _ _ _ _).trans (State.keepsScan_setTaken _ _)) (.refl s)

theorem State.keepsScan_haltCore (s : State) (c : Nat) : KeepsScan s (s.haltCore c) :=
  .ite (.put (.of_same (by rfl)) _ _ _ (by rfl)) (.put (.of_same (by rfl)) _ _ _ (by rfl))

theorem State.keepsScan_trapAt (s : State) (c epc cause tval : Nat) : KeepsScan s (s.trapAt c epc cause tval) :=
  .ite (s.keepsScan_haltCore c) (.ite (.of_same (by rfl)) (.trans (.of_same (by rfl)) (State.keepsScan_haltCore _ c)))

theorem State.keepsScan_writeReg (s : State) (c rd : Nat) (v : Word) : KeepsScan s (s.writeReg c rd v) :=
  .ite (.of_same (by rfl)) (.trans (.of_same (by rfl)) (State.keepsScan_trapAt _ _ _ _ _))

theorem State.keepsScan_endWait (s : State) (w : SemWait) (status value : Nat) : KeepsScan s (s.endWait w status value) := by
  unfold State.endWait
  split
  · exact .of_same rfl
  · exact .trans (.of_same (by rfl)) (State.keepsScan_writeReg _ _ _ _)
  · exact s.keepsScan_respond _ _ _ _ _
  · exact .refl s

theorem State.keepsScan_resolve (s : State) (c : Nat) : KeepsScan s (s.resolve c) := by
  unfold State.resolve State.endWaits
  generalize resolveWaits c (sortBy (fun w => waitLoc w.owner) s.waits) (s.rf .semCountCount c) = r
  exact (KeepsScan.put (.of_same (by rfl)) _ _ _ (by rfl)).trans (.foldl (fun t (w : SemWait × Nat) => t.keepsScan_endWait w.1 0 w.2) _ _)

/-- An add to a counter, up to the resolution of its waits. -/
def State.semAdded (s : State) (c n : Nat) : State :=
  let s1 := s.put .semCountCount c (Nat.min (s.rf .semCountCount c + n) 0xFFFFFFFF)
  let s2 := if 0xFFFFFFFF < s.rf .semCountCount c + n then (s1.put .semFlagsAddSat c 1).satEvent else s1
  if s2.mapHere ∧ c = s2.boundarySem then
    { s2 with sec := { s2.sec with adds := s2.sec.adds ++ List.replicate (Nat.min n 4096) s2.wtc } } else s2

theorem State.semAdd_eq (s : State) (c n : Nat) : s.semAdd c n = (s.semAdded c n).resolve c := rfl

theorem State.keepsScan_semAdded (s : State) (c n : Nat) : KeepsScan s (s.semAdded c n) := by
  have hcount : KeepsScan s (s.put .semCountCount c (Nat.min (s.rf .semCountCount c + n) 0xFFFFFFFF)) := .put (.refl s) _ _ _ (by rfl)
  unfold State.semAdded
  dsimp only
  generalize hs2 : (if 0xFFFFFFFF < s.rf .semCountCount c + n then
      ((s.put .semCountCount c (Nat.min (s.rf .semCountCount c + n) 0xFFFFFFFF)).put .semFlagsAddSat c 1).satEvent
      else s.put .semCountCount c (Nat.min (s.rf .semCountCount c + n) 0xFFFFFFFF)) = s2
  have hsat : KeepsScan s s2 := hs2 ▸ .ite ((hcount.put .semFlagsAddSat c 1 rfl).trans (State.keepsScan_sample _ _ _ _)) hcount
  exact .ite (hsat.then_same (by rfl)) hsat

theorem State.keepsScan_semAdd (s : State) (c n : Nat) : KeepsScan s (s.semAdd c n) := by
  rw [State.semAdd_eq]
  exact (s.keepsScan_semAdded c n).trans (State.keepsScan_resolve _ c)

/-! ### Captures, generations and records -/

theorem State.keepsScan_dropHold (s : State) : KeepsScan s s.dropHold := by
  unfold State.dropHold
  split
  · exact .ite (.refl s) (.trans (.of_same (by rfl)) (.ite (.refl _) (State.keepsScan_semAdd _ _ _)))
  · exact .refl s

theorem State.keepsScan_captureWithout (s : State) (layer : Nat) : KeepsScan s (s.captureWithout layer) := by
  unfold State.captureWithout
  split
  · exact .ite (.ite (s.keepsScan_dropHold.then_same (by rfl)) (.of_same (by rfl))) (.refl s)
  · exact .refl s

theorem State.keepsScan_secRecord (s : State) (ty reason layer : Nat) (coFed : Bool) (dur step wtc hold : Nat) :
    KeepsScan s (s.secRecord ty reason layer coFed dur step wtc hold) :=
  (KeepsScan.put (.refl s) .kprSecLastRecord 0 _ rfl).trans (State.keepsScan_sample _ 10 locKeeper _)

theorem State.keepsScan_fallback (s : State) (layer step wtc : Nat) (coFed : Bool) : KeepsScan s (s.fallback layer step wtc coFed) :=
  (((KeepsScan.refl s).bump .kprSecFallbacksCount 0 .kprSecStatusCountSat 0 1 rfl rfl).put .kprSecStatusFallbackSeen 0 1 rfl).trans
    (State.keepsScan_secRecord _ 3 0 layer coFed 0 step wtc 0)

theorem State.keepsScan_beginCapture (s : State) (c : Capture) : KeepsScan s (s.beginCapture c) :=
  .trans (.of_same (by rfl)) (.foldl (fun _ _ => (.of_same (by rfl))) _ _)

theorem State.keepsScan_loseDst (n : Nat) (s : State) (t : Trickle) : KeepsScan s (s.loseDst n t) := by
  unfold State.loseDst
  split
  · exact .trans (.of_same (by rfl)) (State.keepsScan_secRecord _ _ _ _ _ _ _ _ _)
  · exact .refl s

theorem State.keepsScan_markLost (s : State) (n : Nat) (g : Gen) : KeepsScan s (s.markLost n g) :=
  (KeepsScan.trans (.of_same (by rfl)) (State.keepsScan_secRecord _ _ _ _ _ _ _ _ _)).then_same (by rfl)

theorem State.keepsScan_loseGen (s : State) (n : Nat) : KeepsScan s (s.loseGen n) := by
  cases hg : s.gen n with
  | none => rw [State.loseGen, hg]; exact .refl s
  | some g =>
    by_cases hst : g.state = 4 ∨ g.state = 3
    · simp only [State.loseGen, hg, if_pos hst]
      exact .refl s
    · rw [s.loseGen_eq hg hst]
      exact (s.keepsScan_markLost n g).trans (.foldl (State.keepsScan_loseDst n) _ _)

theorem State.keepsScan_loseLayer (s : State) (layer : Nat) : KeepsScan s (s.loseLayer layer) :=
  .foldl (fun t (g : Nat × Gen) => t.keepsScan_loseGen g.1) _ s

/-! ### Regrowths that escalate, and the recovery they ask for -/

/-- A regrowth record that is kept and posted. -/
def State.regrowPosted (s : State) (r : Regrowth) (rec_ : Nat) : State :=
  (s.put .fstRegrowLastRecord (tileField r.failed) rec_).sample 10 (locStation (tileField r.failed))
    [.post 5 (tileField r.failed) r.failed 32 rec_ false]

/-- A regrowth counted in its run. -/
def State.regrowRun (s : State) : State := { s with run := { s.run with regrowths := Nat.min 0xFFFFFFFF (s.run.regrowths + 1) } }

theorem State.keepsScan_regrowRun (s : State) : KeepsScan s s.regrowRun := .of_same rfl

theorem State.writeRegrow_eq (s : State) (r : Regrowth) (outcome reason : Nat) :
    let f := tileField r.failed
    let rec_ := s.regrowRecord r outcome reason
    let s1 := s.regrowPosted r rec_
    s.writeRegrow r outcome reason =
      if outcome = 1 ∨ outcome = 2 then s1.regrowRun.bump .fstRegrowDoneDone f .fstRegrowFlagsDoneSat f 1
      else if outcome = 3 then (s1.bump .fstRegrowEscalatedEscalated f .fstRegrowFlagsEscSat f 1).croak 0x02 1 rec_ else s1 := rfl

theorem State.keepsScan_writeRegrow (s : State) (r : Regrowth) (outcome reason : Nat) : KeepsScan s (s.writeRegrow r outcome reason) := by
  have hposted : KeepsScan s (s.regrowPosted r (s.regrowRecord r outcome reason)) :=
    (KeepsScan.put (.refl s) .fstRegrowLastRecord _ _ rfl).trans (State.keepsScan_sample _ 10 _ _)
  have hcounted := (hposted.trans (State.keepsScan_regrowRun _)).bump .fstRegrowDoneDone (tileField r.failed) .fstRegrowFlagsDoneSat
    (tileField r.failed) 1 rfl rfl
  have hescalated := hposted.bump .fstRegrowEscalatedEscalated (tileField r.failed) .fstRegrowFlagsEscSat (tileField r.failed) 1 rfl rfl
  rw [State.writeRegrow_eq]
  exact hcounted.ite ((hescalated.trans (State.keepsScan_croak _ _ _ _)).ite hposted)

theorem State.keepsScan_releaseTarget (s : State) (r : Regrowth) : KeepsScan s (s.releaseTarget r) := by
  unfold State.releaseTarget
  split
  · exact .ite (.of_same (by rfl)) (.refl s)
  · exact .refl s

theorem State.keepsScan_clearPlace (s : State) (p : List Nat) : KeepsScan s (s.clearPlace p) := by
  refine .foldl (fun t n => ?_) p s
  split
  · exact .ite (.foldl (fun _ _ => (.of_same (by rfl))) _ t) (.of_same (by rfl))
  · exact .refl t

theorem State.keepsScan_moltBegin (s : State) (wafer : Bool) (cause field : Nat) (tilesAbsent : Bool) (dom : Domain) :
    KeepsScan s (s.moltBegin wafer cause field tilesAbsent dom) :=
  ((s.keepsScan_clearPlace _).trans (.ite (.put (.refl _) .kprHangStatusMoltOverwrite 0 1 rfl) (.refl _))).then_same (by rfl)

theorem State.keepsScan_captureReset (s : State) (wafer : Bool) (cause field : Nat) (tilesAbsent : Bool) :
    KeepsScan s (s.captureReset .compute wafer cause field tilesAbsent) := by
  unfold State.captureReset
  split
  · exact (s.keepsScan_moltBegin _ _ _ _ _).put .aoiDomainsCompute 0 1 rfl
  · exact .put (.refl s) .aoiDomainsComputePending 0 1 rfl
  · exact .refl s

theorem State.keepsScan_requestRecovery (s : State) (byHost : Bool) (cid : Option Nat) (cause : Nat) (trip : Bool) :
    KeepsScan s (s.requestRecovery byHost cid cause trip) := by
  have hset : ∀ t : State, ∀ v, KeepsScan t (t.setRec v) := fun t v => .put (.refl t) .kprHangStatusRecovery 0 v rfl
  refine .ite (.of_same (by rfl)) (.ite ?_ (.trans (.of_same (by rfl)) (.ite (hset _ 3) ?_)))
  · exact (KeepsScan.put (.of_same (by rfl)) _ _ _ (by rfl)).trans (State.keepsScan_croak _ _ _ _)
  · exact .ite ((hset _ 1).trans (State.keepsScan_captureReset _ _ _ _ _)) ((hset _ 2).trans (State.keepsScan_captureReset _ _ _ _ _))

theorem State.keepsScan_escalateAll (s : State) (l : List Regrowth) (reason : Nat) : KeepsScan s (s.escalateAll l reason) := by
  refine .ite (.refl s) (.trans (.foldl (fun t r => ?_) l s) (State.keepsScan_requestRecovery _ _ _ _ _))
  exact ((t.keepsScan_writeRegrow r 3 reason).trans (State.keepsScan_releaseTarget _ r)).then_same (by rfl)

theorem State.keepsScan_noSource (s : State) : KeepsScan s s.noSource := .ite (s.keepsScan_escalateAll _ _) (.refl s)

/-! ### Reloads from the partner's copy -/

theorem State.keepsScan_answerRollback (s : State) (status code detail : Nat) : KeepsScan s (s.answerRollback status code detail) := by
  unfold State.answerRollback
  split
  · dsimp only
    split
    · exact .trans (.of_same (by rfl)) (State.keepsScan_respond _ _ _ _ _ _)
    · exact .of_same rfl
  · exact .refl s

theorem State.keepsScan_reloadNext (s : State) : KeepsScan s s.reloadNext := by
  unfold State.reloadNext
  split
  · split
    · exact .ite (.put (.of_same (by rfl)) _ _ _ (by rfl)) (.of_same (by rfl))
    · have hanswered : KeepsScan s (({ s with sec := { s.sec with needed := true } } : State).answerRollback 10 0 0).noSource :=
        (KeepsScan.trans (.of_same (by rfl)) (State.keepsScan_answerRollback _ _ _ _)).trans (State.keepsScan_noSource _)
      exact .ite (hanswered.put .kprHangStatusRecovery 0 4 rfl) hanswered
  · exact .refl s

theorem State.keepsScan_reloadFail (s : State) : KeepsScan s s.reloadFail := by
  unfold State.reloadFail
  split
  · refine .ite ?_ (.refl s)
    split
    · have hlost : ∀ n (g : Gen), KeepsScan s ((s.loseGen n).fallback g.layer g.step g.wtc g.coFed) :=
        fun n g => (s.keepsScan_loseGen n).trans (State.keepsScan_fallback _ _ _ _ _)
      exact ((hlost _ _).trans (.ite (.foldl (fun t _ => t.keepsScan_writeRegrow _ _ _) _ _) (.refl _))).trans (State.keepsScan_reloadNext _)
    · exact s.keepsScan_reloadNext
  · exact .refl s

theorem State.keepsScan_partnerCopyLost (s : State) : KeepsScan s s.partnerCopyLost :=
  (KeepsScan.trans (.ite s.keepsScan_reloadFail (.refl s)) (State.keepsScan_loseLayer _ 1)).trans (State.keepsScan_noSource _)

/-! ### Partners -/

/-- The capture as it stands from here on. -/
def State.setSecCapture (s : State) (c : Option Capture) : State := { s with sec := { s.sec with capture := c } }

theorem State.keepsScan_setSecCapture (s : State) (c : Option Capture) : KeepsScan s (s.setSecCapture c) := .of_same rfl

theorem State.captureFallback_of_capture {s : State} {c : Capture} (h : s.sec.capture = some c) :
    s.captureFallback =
      if c.layers.contains 1 then
        let rest := c.layers.filter (fun l => decide (l ≠ 1))
        if rest.contains 2 then (s.setSecCapture (some { c with layers := rest, flashToo := true })).fallback 1 c.step c.wtc s.secCofed
        else if s.flashOk ∧ c.released = false then
          (s.beginCapture { c with layers := [2], flashToo := true }).fallback 1 c.step c.wtc s.secCofed
        else (s.fallback 1 c.step c.wtc s.secCofed).captureWithout 1
      else s := by
  rw [State.captureFallback, h]
  rfl

theorem State.keepsScan_captureFallback (s : State) : KeepsScan s s.captureFallback := by
  cases h : s.sec.capture with
  | none =>
    rw [State.captureFallback, h]
    exact .refl s
  | some c =>
    rw [State.captureFallback_of_capture h]
    refine .ite (.ite ?_ (.ite ?_ ?_)) (.refl s)
    · exact (s.keepsScan_setSecCapture _).trans (State.keepsScan_fallback _ _ _ _ _)
    · exact (s.keepsScan_beginCapture _).trans (State.keepsScan_fallback _ _ _ _ _)
    · exact (s.keepsScan_fallback _ _ _ _).trans (State.keepsScan_captureWithout _ 1)

theorem State.keepsScan_setRole (s : State) (e role : Nat) : KeepsScan s (s.setRole e role) := by
  unfold State.setRole
  split
  · exact .of_same rfl
  · exact .refl s

theorem State.keepsScan_askHolder (s : State) : KeepsScan s s.askHolder := by
  unfold State.askHolder
  split
  · exact .of_same rfl
  · exact (KeepsScan.put (.of_same (by rfl)) _ _ _ (by rfl)).trans (State.keepsScan_croak _ _ _ _)

theorem State.keepsScan_chooseHolder (s : State) : KeepsScan s s.chooseHolder :=
  .ite (.trans (.of_same (by rfl)) (State.keepsScan_askHolder _)) (.put (.refl s) _ _ _ (by rfl))

/-- The copy at the holder, its role and its pairing are gone. -/
def State.holderCleared (s : State) : State :=
  ((s.captureFallback.partnerCopyLost.setRole (s.rf .kprSecPairHolder 0) 0).put .kprSecPairHolderValid 0 0).put .kprSecStatusCofed 0 0

/-- A renewal is due, and the session key is gone. -/
def State.renewalDue (s : State) : State := { s with sec := { s.sec with renewal := true, sessionKey := none } }

/-- The loss of the holder counts for the hazard index. -/
def State.holderLossSeen (s : State) : State := { s with hz := { s.hz with partnerAt := some s.now } }

theorem State.keepsScan_renewalDue (s : State) : KeepsScan s s.renewalDue := .of_same rfl
theorem State.keepsScan_holderLossSeen (s : State) : KeepsScan s s.holderLossSeen := .of_same rfl
theorem State.keepsScan_setPeer (s : State) (n : Nat) (p : Option Peer) : KeepsScan s (s.setPeer n p) := .of_same rfl
theorem State.keepsScan_clientLost (s : State) : KeepsScan s s.clientLost := .of_same rfl

theorem State.holderGone_eq (s : State) : s.holderGone = (s.holderCleared.renewalDue.secRecord 8 0 0 false 0 0 0 0).chooseHolder := rfl

theorem State.keepsScan_holderGone (s : State) : KeepsScan s s.holderGone := by
  have hlost : KeepsScan s (s.captureFallback.partnerCopyLost.setRole (s.rf .kprSecPairHolder 0) 0) :=
    (s.keepsScan_captureFallback.trans (State.keepsScan_partnerCopyLost _)).trans (State.keepsScan_setRole _ _ _)
  have hcleared : KeepsScan s s.holderCleared := (hlost.put .kprSecPairHolderValid 0 0 rfl).put .kprSecStatusCofed 0 0 rfl
  rw [State.holderGone_eq]
  exact ((hcleared.trans (State.keepsScan_renewalDue _)).trans (State.keepsScan_secRecord _ 8 0 0 false 0 0 0 0)).trans
    (State.keepsScan_chooseHolder _)

theorem State.holderLost_eq (s : State) (port : Nat) :
    s.holderLost port = (s.holderLossSeen.partnerNotice port (s.rf .kprSecPairHolder 0)).holderGone := rfl

theorem State.keepsScan_holderLost (s : State) (port : Nat) : KeepsScan s (s.holderLost port) := by
  rw [State.holderLost_eq]
  exact (s.keepsScan_holderLossSeen.trans (State.keepsScan_sample _ 6 locKeeper _)).trans (State.keepsScan_holderGone _)

theorem State.peerLost_eq (s : State) (n : Nat) (p : Peer) :
    s.peerLost n p =
      let s1 := s.setPeer n (some { p with state := 3, role := 0, mark := s.now })
      if p.role = 1 then s1.holderLost p.port else if p.role = 2 then s1.clientLost else s1 := rfl

theorem State.keepsScan_peerLost (s : State) (n : Nat) (p : Peer) : KeepsScan s (s.peerLost n p) := by
  have hpeer := s.keepsScan_setPeer n (some { p with state := 3, role := 0, mark := s.now })
  rw [State.peerLost_eq]
  exact .ite (hpeer.trans (State.keepsScan_holderLost _ _)) (.ite (hpeer.trans (State.keepsScan_clientLost _)) hpeer)

/-- A link port that goes down leaves the scan entry as it is. -/
theorem State.keepsScan_linkDown (s : State) (k : Nat) : KeepsScan s (s.linkDown k) :=
  .foldl (fun t (p : Nat × Peer) => t.keepsScan_peerLost p.1 p.2) _ s

end Sys2Proof.Machine
end

section
/-! The scan entry (06_self_test.md R188): its writes, its refusals and what an accepted sequence leaves. -/

namespace Sys2Proof.Machine

/-- A sequence that is not begun, or whose time is not up, is let go on. -/
theorem State.scanLate_early {s : State} (h : s.st.scanStep = 0 ∨ s.now < s.st.scanAt + 1000) : s.scanLate = s := if_neg (by omega)

theorem State.scanLate_late {s : State} (h : s.st.scanStep ≠ 0) (hlate : s.st.scanAt + 1000 ≤ s.now) : s.scanLate = s.scanReset true :=
  if_pos ⟨Nat.one_le_iff_ne_zero.mpr h, hlate⟩

/-! ### Writes of the entry register -/

theorem exec_kprScanEntry {s : State} (hawake : s.keeperAwake = true) (v : BitVec 32) :
    exec (.kprScanEntry v) s = .next (s.scanWrite v.toNat) := by
  show execKprScanEntry v s = _
  rw [execKprScanEntry, if_pos hawake]

section
variable {s : State} (hearly : s.st.scanStep = 0 ∨ s.now < s.st.scanAt + 1000)
include hearly

theorem State.scanWrite_first (hstep : s.st.scanStep = 0) :
    s.scanWrite 0x5CA1 = { s with st := { s.st with scanStep := 1, scanAt := s.now } } := by
  rw [State.scanWrite, State.scanLate_early hearly]
  exact if_pos ⟨hstep, rfl⟩

theorem State.scanWrite_second (hstep : s.st.scanStep = 1) : s.scanWrite 0xA15C = { s with st := { s.st with scanStep := 2 } } := by
  rw [State.scanWrite, State.scanLate_early hearly]
  exact (if_neg (by omega)).trans (if_pos ⟨hstep, rfl⟩)

theorem State.scanWrite_mask {v : Nat} (hstep : s.st.scanStep = 2) (hfree : s.scanBlocked = false) : s.scanWrite v = s.scanOpen (v % 2 ^ 17) := by
  rw [State.scanWrite, State.scanLate_early hearly]
  exact (if_neg (by omega)).trans ((if_neg (by omega)).trans (if_pos ⟨hstep, hfree⟩))

/-- A write that is not the next of the sequence, or that comes while the sequence may not be accepted, begins it afresh. -/
theorem State.scanWrite_wrong {v : Nat} (hfirst : s.st.scanStep = 0 → v ≠ 0x5CA1) (hsecond : s.st.scanStep = 1 → v ≠ 0xA15C)
    (hblocked : s.st.scanStep = 2 → s.scanBlocked = true) : s.scanWrite v = s.scanReset true := by
  rw [State.scanWrite, State.scanLate_early hearly]
  exact (if_neg fun h => hfirst h.1 h.2).trans ((if_neg fun h => hsecond h.1 h.2).trans
    (if_neg fun h => by simp [hblocked h.1] at h))

end

/-- A sequence refused: ENTRY_ERR, and the sequence from its beginning. -/
def ScanRefused (s t : State) : Prop :=
  t = { s with st := { s.st with scanStep := 0 }, regs := t.regs } ∧ SameRegs s t [(.kprStStatusEntryErr, 0)] ∧ t.rf .kprStStatusEntryErr 0 = 1

theorem State.scanReset_refused (s : State) : ScanRefused s (s.scanReset true) :=
  ⟨rfl, (SameRegs.of_regs_eq _ rfl).put 1 (List.mem_singleton.mpr rfl), State.rf_put_same _ .kprStStatusEntryErr 0 1⟩

/-! ### An accepted sequence -/

/-- The key store is zeroised and the targets stand in SCAN_TARGET; the scanned ports are still up. -/
def State.scanGranted (s : State) (mask : Nat) : State :=
  ((s.keysCleared.scanReset false).put .kprStStatusScanned 0 1).put .kprStStatusScanTarget 0 (s.rf .kprStStatusScanTarget 0 ||| mask)

/-- A scanned port goes down with its lanes. -/
def State.scanPort (t : State) (k : Nat) : State := ((t.linkDown k).put .lwdPortStatusPortUp k 0).put .lwdLaneUpUp k 0

theorem State.scanOpen_eq (s : State) (mask : Nat) :
    s.scanOpen mask = ((List.range 16).filter (fun k => mask.testBit (k + 1))).foldl State.scanPort (s.scanGranted mask) := by
  rw [State.scanOpen, State.zeroise_idle]
  rfl

/-- What stands of an accepted sequence while its ports go down. -/
structure ScanStands (s t : State) : Prop where
  step   : t.st.scanStep = s.st.scanStep
  key    : t.jobKey = s.jobKey
  seen   : t.rf .kprStStatusScanned 0 = s.rf .kprStStatusScanned 0
  target : t.rf .kprStStatusScanTarget 0 = s.rf .kprStStatusScanTarget 0

theorem State.scanPort_stands (t : State) (k : Nat) : ScanStands t (t.scanPort k) := by
  obtain ⟨hstep, hkey, hregs⟩ := t.keepsScan_linkDown k
  refine ⟨hstep, hkey, ?_, ?_⟩
  · rw [State.scanPort, State.rf_put_field _ _ _ _ _ _ (by decide), State.rf_put_field _ _ _ _ _ _ (by decide), hregs _ rfl]
  · rw [State.scanPort, State.rf_put_field _ _ _ _ _ _ (by decide), State.rf_put_field _ _ _ _ _ _ (by decide), hregs _ rfl]

theorem State.scanPort_portUp (t : State) (k j : Nat) :
    (t.scanPort k).rf .lwdPortStatusPortUp j = if k = j then 0 else t.rf .lwdPortStatusPortUp j := by
  rw [State.scanPort, State.rf_put_field _ _ _ _ _ _ (by decide), State.rf_put, (t.keepsScan_linkDown k).regs _ rfl]
  simp

theorem State.scanPort_laneUp (t : State) (k j : Nat) : (t.scanPort k).rf .lwdLaneUpUp j = if k = j then 0 else t.rf .lwdLaneUpUp j := by
  rw [State.scanPort, State.rf_put, State.rf_put_field _ _ _ _ _ _ (by decide), (t.keepsScan_linkDown k).regs _ rfl]
  simp

theorem State.foldl_scanPort_stands (l : List Nat) (s : State) : ScanStands s (l.foldl State.scanPort s) := by
  induction l generalizing s with
  | nil => exact ⟨rfl, rfl, rfl, rfl⟩
  | cons k l ih =>
    obtain ⟨h1, h2, h3, h4⟩ := s.scanPort_stands k
    obtain ⟨g1, g2, g3, g4⟩ := ih (s.scanPort k)
    exact ⟨g1.trans h1, g2.trans h2, g3.trans h3, g4.trans h4⟩

/-- A port listed, or down before, is down when all have been gone through. -/
theorem State.foldl_scanPort_down (l : List Nat) (s : State) {j : Nat}
    (h : j ∈ l ∨ s.rf .lwdPortStatusPortUp j = 0 ∧ s.rf .lwdLaneUpUp j = 0) :
    (l.foldl State.scanPort s).rf .lwdPortStatusPortUp j = 0 ∧ (l.foldl State.scanPort s).rf .lwdLaneUpUp j = 0 := by
  induction l generalizing s with
  | nil => simpa using h
  | cons k l ih =>
    refine ih (s.scanPort k) ?_
    rw [State.scanPort_portUp, State.scanPort_laneUp]
    by_cases hk : k = j
    · simp [hk]
    · simpa [hk, Ne.symm hk] using h

theorem State.scanOpen_opens (s : State) (v : Nat) :
    let t := s.scanOpen (v % 2 ^ 17)
    t.st.scanStep = 0 ∧ t.jobKey = none ∧ t.rf .kprStStatusScanned 0 = 1 ∧
      t.rf .kprStStatusScanTarget 0 = (s.rf .kprStStatusScanTarget 0 ||| v % 2 ^ 17) % 2 ^ RF.kprStStatusScanTarget.spec.width ∧
      ∀ k : Fin 16, v.testBit (k.val + 1) = true → t.rf .lwdPortStatusPortUp k.val = 0 ∧ t.rf .lwdLaneUpUp k.val = 0 := by
  intro t
  have ht : t = _ := s.scanOpen_eq (v % 2 ^ 17)
  rw [ht]
  obtain ⟨hstep, hkey, hseen, htarget⟩ := State.foldl_scanPort_stands ((List.range 16).filter fun k => (v % 2 ^ 17).testBit (k + 1))
    (s.scanGranted (v % 2 ^ 17))
  refine ⟨hstep.trans rfl, hkey.trans rfl, hseen.trans ?_, htarget.trans (State.rf_put_same _ _ _ _), fun k hk => ?_⟩
  · rw [State.scanGranted, State.rf_put_field _ _ _ _ _ _ (by decide)]
    exact State.rf_put_same _ .kprStStatusScanned 0 1
  · refine State.foldl_scanPort_down _ _ (Or.inl (List.mem_filter.mpr ⟨List.mem_range.mpr k.isLt, ?_⟩))
    rw [Nat.testBit_mod_two_pow, hk]
    simp [show k.val + 1 < 17 by omega]

/-- The scan entry, whole. -/
theorem scanEntry_rows (s : State) (v : BitVec 32) :
    let early := s.st.scanStep = 0 ∨ s.now < s.st.scanAt + 1000
    (s.keeperAwake = true →
      (s.st.scanStep = 0 → exec (.kprScanEntry 0x5CA1) s = .next { s with st := { s.st with scanStep := 1, scanAt := s.now } }) ∧
      (s.st.scanStep = 1 → early → exec (.kprScanEntry 0xA15C) s = .next { s with st := { s.st with scanStep := 2 } }) ∧
      (s.st.scanStep = 2 → early → s.scanBlocked = false → Completes (exec (.kprScanEntry v) s) (fun t =>
        t.st.scanStep = 0 ∧ t.jobKey = none ∧ t.rf .kprStStatusScanned 0 = 1 ∧
        t.rf .kprStStatusScanTarget 0 = (s.rf .kprStStatusScanTarget 0 ||| v.toNat % 2 ^ 17) % 2 ^ RF.kprStStatusScanTarget.spec.width ∧
        ∀ k : Fin 16, v.toNat.testBit (k.val + 1) = true → t.rf .lwdPortStatusPortUp k.val = 0 ∧ t.rf .lwdLaneUpUp k.val = 0)) ∧
      (s.st.scanStep = 0 → v ≠ 0x5CA1 → Completes (exec (.kprScanEntry v) s) (ScanRefused s)) ∧
      (s.st.scanStep = 1 → early → v ≠ 0xA15C → Completes (exec (.kprScanEntry v) s) (ScanRefused s)) ∧
      (s.st.scanStep = 2 → early → s.scanBlocked = true → Completes (exec (.kprScanEntry v) s) (ScanRefused s))) ∧
    (s.st.scanStep ≠ 0 → s.st.scanAt + 1000 ≤ s.now → Completes (exec .scanEntryTimeout s) (ScanRefused s)) ∧
    (early → exec .scanEntryTimeout s = .next s) := by
  intro early
  refine ⟨fun hawake => ?_, fun hstep hlate => .of_next (congrArg Host.Outcome.next (State.scanLate_late hstep hlate)) s.scanReset_refused,
    fun h => congrArg Host.Outcome.next (State.scanLate_early h)⟩
  have hrefused : ∀ (_ : early), (s.st.scanStep = 0 → v.toNat ≠ 0x5CA1) → (s.st.scanStep = 1 → v.toNat ≠ 0xA15C) →
      (s.st.scanStep = 2 → s.scanBlocked = true) → Completes (exec (.kprScanEntry v) s) (ScanRefused s) :=
    fun hearly h0 h1 h2 => .of_next ((exec_kprScanEntry hawake v).trans (congrArg Host.Outcome.next (State.scanWrite_wrong hearly h0 h1 h2)))
      s.scanReset_refused
  have hword : ∀ {a b : BitVec 32}, a ≠ b → a.toNat ≠ b.toNat := fun h e => h (BitVec.eq_of_toNat_eq e)
  refine ⟨fun h0 => ?_, fun h1 hearly => ?_, fun h2 hearly hfree => ?_, fun h0 hv => ?_, fun h1 hearly hv => ?_, fun h2 hearly hb => ?_⟩
  · exact (exec_kprScanEntry hawake _).trans (congrArg Host.Outcome.next (State.scanWrite_first (Or.inl h0) h0))
  · exact (exec_kprScanEntry hawake _).trans (congrArg Host.Outcome.next (State.scanWrite_second hearly h1))
  · refine .of_next (exec_kprScanEntry hawake v) ?_
    rw [State.scanWrite_mask hearly h2 hfree]
    exact s.scanOpen_opens v.toNat
  · exact hrefused (Or.inl h0) (fun _ => hword hv) (fun h => by omega) (fun h => by omega)
  · exact hrefused hearly (fun h => by omega) (fun _ => hword hv) (fun h => by omega)
  · exact hrefused hearly (fun h => by omega) (fun h => by omega) (fun _ => hb)

end Sys2Proof.Machine
end

section
/-! Firmware commits (06_self_test.md R185, R188; 15_ixfold_isa.md R449): the RESULT of an image that is refused, one taken with no effect, and
the write of one that is staged. -/

namespace Sys2Proof.Machine

theorem exec_kprFwCommit {s : State} (hawake : s.keeperAwake = true) : exec .kprFwCommit s = .next s.fwCommit := by
  show execKprFwCommit s = _
  rw [execKprFwCommit, if_pos hawake]

theorem exec_kprFwCommit_held {s : State} (hheld : s.keeperAwake = false) : exec .kprFwCommit s = .next s := by
  show execKprFwCommit s = _
  rw [execKprFwCommit, if_neg (by simp [hheld])]

/-- The image in the staging area. -/
def State.fwImage (s : State) : List Byte :=
  (List.range (s.rf .kprFwLengthLength 0)).map (fun i => Tab.get (fun _ => (0 : Byte)) s.ks (0x1A00000 + i))

/-- The slot of the running image. -/
def State.fwRunning (s : State) : Option FwImage := if s.rf .kprFwStatusActiveSlot 0 = 0 then s.fw.slotA else s.fw.slotB

/-- The first condition that the staged image fails, a poisoned word failing as the signature does. -/
def State.fwVerdict (s : State) : Option Nat :=
  if s.ksPoisoned 0x1A00000 (s.rf .kprFwLengthLength 0) then some 4 else s.fwFault s.fwImage

/-- An image that waits for its write. -/
def State.fwStaged (s : State) (l : List Byte) : State :=
  (({ s with fw := { s.fw with staged := some ⟨l, true⟩ } }).put .kprFwCtrlCommit 0 1).put .kprFwStatusBusy 0 1

/-- What becomes of an image that meets every condition, by its revision. -/
def State.fwAccept (s : State) : State :=
  match s.fwRunning with
  | some v =>
    if v.valid && decide (fwRevision s.fwImage < fwRevision v.bytes) then s.put .kprFwStatusResult 0 6
    else if v.valid && decide (fwRevision s.fwImage = fwRevision v.bytes) then s.put .kprFwStatusResult 0 1
    else s.fwStaged s.fwImage
  | none => s.fwStaged s.fwImage

section
variable {s : State} (hidle : s.rf .kprFwStatusBusy 0 ≠ 1)
include hidle

theorem State.fwCommit_long (hlong : 0x100000 < s.rf .kprFwLengthLength 0) : s.fwCommit = s.put .kprFwStatusResult 0 2 :=
  (if_neg hidle).trans (if_pos hlong)

theorem State.fwCommit_fits (hfits : s.rf .kprFwLengthLength 0 ≤ 0x100000) :
    s.fwCommit = match s.fwVerdict with
      | some r => s.put .kprFwStatusResult 0 r
      | none => s.fwAccept := by
  refine (if_neg hidle).trans ((if_neg (by omega)).trans ?_)
  dsimp only
  change (match s.fwVerdict, s.fwRunning with
    | some r, _ => _
    | none, some v => _
    | none, none => _) = _
  rw [State.fwAccept]
  cases s.fwVerdict <;> cases s.fwRunning <;> rfl

end

/-- RESULT holds every condition's code. -/
theorem State.fwFault_lt {s : State} {l : List Byte} {r : Nat} (h : s.fwFault l = some r) : r < 16 := by
  unfold State.fwFault at h
  split_ifs at h <;> cases h <;> decide

theorem State.fwStaged_waits (s : State) (l : List Byte) :
    let t := s.fwStaged l
    t = { s with fw := t.fw, regs := t.regs } ∧ t.fw = { s.fw with staged := some ⟨l, true⟩ } ∧ t.rf .kprFwStatusBusy 0 = 1 ∧
      t.rf .kprFwCtrlCommit 0 = 1 ∧ SameRegs s t [(.kprFwStatusBusy, 0), (.kprFwCtrlCommit, 0)] := by
  refine ⟨rfl, rfl, State.rf_put_same _ .kprFwStatusBusy 0 1, ?_, ((SameRegs.of_regs_eq _ rfl).put 1 (by decide)).put 1 (by decide)⟩
  rw [State.fwStaged, State.rf_put_field _ _ _ _ _ _ (by decide)]
  exact State.rf_put_same _ .kprFwCtrlCommit 0 1

/-- The image written to the slot that does not hold the running one. -/
def State.fwSlots (s : State) (v : FwImage) : Firmware :=
  if s.rf .kprFwStatusActiveSlot 0 = 0 then { s.fw with slotB := some v, staged := none } else { s.fw with slotA := some v, staged := none }

def State.fwWritten (s : State) (v : FwImage) : State :=
  ((({ s with fw := s.fwSlots v }).put .kprFwStatusResult 0 1).put .kprFwStatusBusy 0 0).put .kprFwCtrlCommit 0 0

theorem State.fwWrite_staged {s : State} {v : FwImage} (hopen : s.flashOpen = true) (hv : s.fw.staged = some v) : s.fwWrite = s.fwWritten v := by
  rw [State.fwWrite, hopen, hv]
  rfl

theorem State.fwWrite_waits {s : State} (h : s.flashOpen = false ∨ s.fw.staged = none) : s.fwWrite = s := by
  unfold State.fwWrite
  obtain h | h := h <;> rw [h]
  cases s.flashOpen <;> rfl

theorem State.fwWritten_ends (s : State) (v : FwImage) :
    let t := s.fwWritten v
    t = { s with fw := t.fw, regs := t.regs } ∧ t.fw = s.fwSlots v ∧ t.rf .kprFwStatusResult 0 = 1 ∧ t.rf .kprFwStatusBusy 0 = 0 ∧
      t.rf .kprFwCtrlCommit 0 = 0 ∧ SameRegs s t [(.kprFwStatusResult, 0), (.kprFwStatusBusy, 0), (.kprFwCtrlCommit, 0)] := by
  refine ⟨rfl, rfl, ?_, ?_, State.rf_put_same _ .kprFwCtrlCommit 0 0,
    (((SameRegs.of_regs_eq _ rfl).put 1 (by decide)).put 0 (by decide)).put 0 (by decide)⟩
  · rw [State.fwWritten, State.rf_put_field _ _ _ _ _ _ (by decide), State.rf_put_field _ _ _ _ _ _ (by decide)]
    exact State.rf_put_same _ .kprFwStatusResult 0 1
  · rw [State.fwWritten, State.rf_put_field _ _ _ _ _ _ (by decide)]
    exact State.rf_put_same _ .kprFwStatusBusy 0 0

/-- A commit that leaves its RESULT and nothing else. -/
def FwEnds (s : State) (result : Nat) : Prop :=
  Completes (exec .kprFwCommit s) (fun t => OnlyRegs s t [(.kprFwStatusResult, 0)] ∧ t.rf .kprFwStatusResult 0 = result)

/-- A commit whose image waits for its write. -/
def FwStages (s : State) : Prop :=
  Completes (exec .kprFwCommit s) (fun t => t = { s with fw := t.fw, regs := t.regs } ∧
    t.fw = { s.fw with staged := some ⟨s.fwImage, true⟩ } ∧ t.rf .kprFwStatusBusy 0 = 1 ∧ t.rf .kprFwCtrlCommit 0 = 1 ∧
    SameRegs s t [(.kprFwStatusBusy, 0), (.kprFwCtrlCommit, 0)])

section
variable {s : State} (hawake : s.keeperAwake = true)
include hawake

theorem fwEnds_of_put {r : Nat} (h : s.fwCommit = s.put .kprFwStatusResult 0 r) (hr : r < 16) : FwEnds s r :=
  .of_put (exec_kprFwCommit hawake) h hr

theorem fwStages_of_eq (h : s.fwCommit = s.fwStaged s.fwImage) : FwStages s :=
  .of_next ((exec_kprFwCommit hawake).trans (congrArg Host.Outcome.next h)) (s.fwStaged_waits s.fwImage)

/-- A commit that begins: every image's RESULT, or its wait for the write. -/
theorem fwCommit_begun (hidle : s.rf .kprFwStatusBusy 0 ≠ 1) (r : Nat) (v : FwImage) :
    let n := s.rf .kprFwLengthLength 0
    let img := s.fwImage
    (0x100000 < n → FwEnds s 2) ∧
    (n ≤ 0x100000 → s.ksPoisoned 0x1A00000 n = true → FwEnds s 4) ∧
    (n ≤ 0x100000 → s.ksPoisoned 0x1A00000 n = false → s.fwFault img = some r → FwEnds s r) ∧
    (n ≤ 0x100000 → s.ksPoisoned 0x1A00000 n = false → s.fwFault img = none → s.fwRunning = some v → v.valid = true →
      fwRevision img < fwRevision v.bytes → FwEnds s 6) ∧
    (n ≤ 0x100000 → s.ksPoisoned 0x1A00000 n = false → s.fwFault img = none → s.fwRunning = some v → v.valid = true →
      fwRevision img = fwRevision v.bytes → FwEnds s 1) ∧
    (n ≤ 0x100000 → s.ksPoisoned 0x1A00000 n = false → s.fwFault img = none → s.fwRunning = some v →
      v.valid = false ∨ fwRevision v.bytes < fwRevision img → FwStages s) ∧
    (n ≤ 0x100000 → s.ksPoisoned 0x1A00000 n = false → s.fwFault img = none → s.fwRunning = none → FwStages s) := by
  intro n img
  have hverdict : s.ksPoisoned 0x1A00000 n = false → s.fwVerdict = s.fwFault img := fun h => if_neg (by simp [n, h])
  have haccept : n ≤ 0x100000 → s.ksPoisoned 0x1A00000 n = false → s.fwFault img = none → s.fwCommit = s.fwAccept := fun hn hp hf => by
    rw [State.fwCommit_fits hidle hn, hverdict hp, hf]
  refine ⟨fun hn => fwEnds_of_put hawake (State.fwCommit_long hidle hn) (by decide), fun hn hp => fwEnds_of_put hawake ?poisoned (by decide),
    fun hn hp hf => fwEnds_of_put hawake ?fault (State.fwFault_lt hf), fun hn hp hf hrun hv hrev => fwEnds_of_put hawake ?lower (by decide),
    fun hn hp hf hrun hv hrev => fwEnds_of_put hawake ?equal (by decide), fun hn hp hf hrun hnew => fwStages_of_eq hawake ?newer,
    fun hn hp hf hrun => fwStages_of_eq hawake ?first⟩
  case poisoned => rw [State.fwCommit_fits hidle hn, show s.fwVerdict = some 4 from if_pos hp]
  case fault => rw [State.fwCommit_fits hidle hn, hverdict hp, hf]
  case lower =>
    rw [haccept hn hp hf, State.fwAccept, hrun]
    exact if_pos (by simpa [hv] using hrev)
  case equal =>
    rw [haccept hn hp hf, State.fwAccept, hrun]
    exact (if_neg (by simpa [hv] using hrev.ge)).trans (if_pos (by simpa [hv] using hrev))
  case newer =>
    rw [haccept hn hp hf, State.fwAccept, hrun]
    obtain hinvalid | hnew := hnew
    · simp [hinvalid]
    · exact (if_neg (by simpa using fun _ => hnew.le)).trans (if_neg (by simpa using fun _ => hnew.ne'))
  case first => rw [haccept hn hp hf, State.fwAccept, hrun]

end

/-- The firmware slots, whole. -/
theorem fwSlot_rows (s : State) (v : FwImage) :
    (s.flashOpen = true → s.fw.staged = some v → Completes (exec .firmwareSlotWrite s) (fun t => t = { s with fw := t.fw, regs := t.regs } ∧
      t.fw = s.fwSlots v ∧ t.rf .kprFwStatusResult 0 = 1 ∧ t.rf .kprFwStatusBusy 0 = 0 ∧ t.rf .kprFwCtrlCommit 0 = 0 ∧
      SameRegs s t [(.kprFwStatusResult, 0), (.kprFwStatusBusy, 0), (.kprFwCtrlCommit, 0)])) ∧
    (s.flashOpen = false ∨ s.fw.staged = none → exec .firmwareSlotWrite s = .next s) :=
  ⟨fun hopen hv => .of_next (congrArg Host.Outcome.next (State.fwWrite_staged hopen hv)) (s.fwWritten_ends v),
    fun h => congrArg Host.Outcome.next (State.fwWrite_waits h)⟩

end Sys2Proof.Machine
end

section
/-! Pattern packs (06_self_test.md R184, R185; 14_host_port_ndoquel.md R381, R407): what PACK_PUSH answers, what waits for its write, and the
write; and the settlement of O40. -/

namespace Sys2Proof.Machine

/-! ### What a command of the host leaves of the conditions -/

theorem OnlyHost.fuses {s t : State} (h : OnlyHost s t) : t.fuses = s.fuses := by
  unfold OnlyHost at h
  rw [h]

theorem OnlyHost.keyFused {s t : State} (h : OnlyHost s t) (slot : Nat) (key : List Nat) : t.keyFused slot key = s.keyFused slot key := by
  rw [State.keyFused, State.keyFused, State.keyHash, State.keyHash, h.fuses]

theorem OnlyHost.steppingOk {s t : State} (h : OnlyHost s t) (v : Nat) : t.steppingOk v = s.steppingOk v := by
  rw [State.steppingOk, State.steppingOk, h.fuses]

theorem OnlyHost.packFault {s t : State} (h : OnlyHost s t) (l : List Byte) : t.packFault l = s.packFault l := by
  rw [State.packFault, State.packFault, h.keyFused, h.steppingOk]

theorem OnlyHost.packSlotFor {s t : State} (h : OnlyHost s t) (id : Nat) : t.packSlotFor id = s.packSlotFor id := by
  simp only [State.packSlotFor, h.st]

/-! ### A push -/

/-- PACK_ID and PACK_REV of a pack's bytes. -/
def packId (l : List Byte) : Nat := imgField l 4 4
def packRev (l : List Byte) : Nat := imgField l 8 4

/-- A pack that waits for its write into a slot. -/
def State.packWaiting (u : State) (cid n : Nat) (l : List Byte) : Pack :=
  ⟨n, packId l, packRev l, imgField l 14 2, imgField l 16 2, packDescs l, false, false, some cid, u.now, l⟩

def State.packEnters (u : State) (p : Pack) : State := { u with st := { u.st with packs := u.st.packs ++ [p] } }

/-- What becomes of a pack that meets every condition, by its PACK_ID and revision. -/
def State.packAccept (u : State) (cid : Nat) (l : List Byte) : State :=
  let same := u.st.packs.filter (fun p => decide (p.id = packId l))
  match same.find? (fun p => decide (p.revision = packRev l)) with
  | some p => u.respond 0x51 cid 0 1 p.slot
  | none =>
    if same.any (fun p => decide (packRev l < p.revision)) then u.respond 0x51 cid 0x24 1 0
    else match u.packSlotFor (packId l) with
      | some n => u.packEnters (u.packWaiting cid n l)
      | none => u.respond 0x51 cid 0x25 1 0

section
variable {u : State} {cid len : Nat} {readOk : Bool} {l : List Byte}

theorem State.packPush_badLength (h : len < 288 ∨ 2097152 < len) : u.packPush cid len readOk l = u.respond 0x51 cid 7 1 0 := if_pos h

theorem State.packPush_unread (hlen : ¬ (len < 288 ∨ 2097152 < len)) (h : readOk = false ∨ l.length ≠ len) :
    u.packPush cid len readOk l = u.respond 0x51 cid 0x26 1 0 := (if_neg hlen).trans (if_pos h)

theorem State.packPush_read (hlen : ¬ (len < 288 ∨ 2097152 < len)) (h : ¬ (readOk = false ∨ l.length ≠ len)) :
    u.packPush cid len readOk l = match u.packFault l with
      | some v => u.respond 0x51 cid v 1 0
      | none => u.packAccept cid l := (if_neg hlen).trans (if_neg h)

/-- A pack whose revision is stored already answers its slot. -/
theorem State.packAccept_stored (h : ∃ q ∈ u.st.packs, q.id = packId l ∧ q.revision = packRev l) :
    ∃ slot, u.packAccept cid l = u.respond 0x51 cid 0 1 slot := by
  obtain ⟨q, hq, hid, hrev⟩ := h
  cases hf : (u.st.packs.filter (fun p => decide (p.id = packId l))).find? (fun p => decide (p.revision = packRev l)) with
  | some p => exact ⟨p.slot, by rw [State.packAccept, hf]⟩
  | none => exact absurd (decide_eq_true hrev) (List.find?_eq_none.mp hf q (List.mem_filter.mpr ⟨hq, decide_eq_true hid⟩))

section
variable (hnew : ∀ q ∈ u.st.packs, q.id = packId l → q.revision ≠ packRev l)
include hnew

/-- No revision equals that of the pack. -/
theorem State.packAccept_new :
    u.packAccept cid l = if (u.st.packs.filter (fun p => decide (p.id = packId l))).any (fun p => decide (packRev l < p.revision)) then
        u.respond 0x51 cid 0x24 1 0
      else match u.packSlotFor (packId l) with
        | some n => u.packEnters (u.packWaiting cid n l)
        | none => u.respond 0x51 cid 0x25 1 0 := by
  have hf : (u.st.packs.filter (fun p => decide (p.id = packId l))).find? (fun p => decide (p.revision = packRev l)) = none := by
    refine List.find?_eq_none.mpr fun q hq => ?_
    obtain ⟨hq, hid⟩ := List.mem_filter.mp hq
    simpa using hnew q hq (of_decide_eq_true hid)
  rw [State.packAccept, hf]

theorem State.packAccept_lower (h : ∃ q ∈ u.st.packs, q.id = packId l ∧ packRev l < q.revision) :
    u.packAccept cid l = u.respond 0x51 cid 0x24 1 0 := by
  obtain ⟨q, hq, hid, hrev⟩ := h
  rw [State.packAccept_new hnew]
  exact if_pos (List.any_eq_true.mpr ⟨q, List.mem_filter.mpr ⟨hq, decide_eq_true hid⟩, decide_eq_true hrev⟩)

end

/-- A pack newer than every one of its PACK_ID goes to its slot. -/
theorem State.packAccept_newest (h : ∀ q ∈ u.st.packs, q.id = packId l → q.revision < packRev l) :
    u.packAccept cid l = match u.packSlotFor (packId l) with
      | some n => u.packEnters (u.packWaiting cid n l)
      | none => u.respond 0x51 cid 0x25 1 0 := by
  rw [State.packAccept_new fun q hq hid => (h q hq hid).ne]
  refine if_neg fun hany => ?_
  obtain ⟨q, hq, hrev⟩ := List.any_eq_true.mp hany
  obtain ⟨hq, hid⟩ := List.mem_filter.mp hq
  exact absurd (of_decide_eq_true hrev) (h q hq (of_decide_eq_true hid)).asymm

end

/-- A push of an attached host whose port may read host memory. -/
theorem exec_packPush {s : State} (cid : BitVec 32) (addr : BitVec 64) (len : BitVec 32) (readOk : Bool) (pack : List Byte)
    (hmaster : s.host.busMaster = true) (hpower : s.host.d3hot = false) :
    exec (.packPush cid addr len readOk pack) s =
      .next (s.asHost 0x51 cid.toNat (fun t => t.packPush cid.toNat len.toNat readOk pack)) := by
  show execPackPush cid addr len readOk pack s = _
  rw [execPackPush, if_neg (by simp [hmaster, hpower])]

/-- A push that is answered and leaves the packs as they are. -/
def PushEnds (s : State) (cid : BitVec 32) (addr : BitVec 64) (len : BitVec 32) (readOk : Bool) (pack : List Byte) (status : Nat) : Prop :=
  Completes (exec (.packPush cid addr len readOk pack) s) (fun t => Responded s t 0x51 cid.toNat status ∧ t.st = s.st ∧ SameRegs s t creditRegs)

/-- A pack that waits for its write, its push not answered yet. -/
def PushWaits (s t : State) (cid n : Nat) (pack : List Byte) : Prop :=
  t.host.outQ = s.host.outQ ∧ SameRegs s t creditRegs ∧ t.st = { s.st with packs := t.st.packs } ∧
    ∃ q, t.st.packs = s.st.packs ++ [q] ∧ q.slot = n ∧ q.id = packId pack ∧ q.revision = packRev pack ∧ q.stored = false ∧ q.cid = some cid

theorem Taking.packEnters {s u : State} (hu : Taking s u) (cid n : Nat) (pack : List Byte) :
    PushWaits s (u.packEnters (u.packWaiting cid n pack)) cid n pack := by
  obtain ⟨honly, hout, hregs⟩ := hu
  have hst : (u.packEnters (u.packWaiting cid n pack)).st = { s.st with packs := s.st.packs ++ [u.packWaiting cid n pack] } := by
    rw [State.packEnters, honly.st]
  rw [PushWaits, hst]
  exact ⟨hout, hregs, rfl, _, rfl, rfl, rfl, rfl, rfl, rfl⟩

/-- A push, whole. -/
theorem packPush_rows {s : State} {cid : BitVec 32} (addr : BitVec 64) (len : BitVec 32) (readOk : Bool) (pack : List Byte) (v n : Nat)
    (h : s.canAnswer 0x51 cid.toNat) (hmaster : s.host.busMaster = true) (hpower : s.host.d3hot = false) :
    let id := packId pack
    let rv := packRev pack
    let Ends := PushEnds s cid addr len readOk pack
    let read := readOk = true ∧ pack.length = len.toNat ∧ 288 ≤ len.toNat ∧ len.toNat ≤ 2097152
    (len.toNat < 288 ∨ 2097152 < len.toNat → Ends 7) ∧
    (288 ≤ len.toNat → len.toNat ≤ 2097152 → readOk = false ∨ pack.length ≠ len.toNat → Ends 0x26) ∧
    (read → s.packFault pack = some v → Ends v) ∧
    (read → s.packFault pack = none → (∃ q ∈ s.st.packs, q.id = id ∧ q.revision = rv) → Ends 0) ∧
    (read → s.packFault pack = none → (∀ q ∈ s.st.packs, q.id = id → q.revision ≠ rv) → (∃ q ∈ s.st.packs, q.id = id ∧ rv < q.revision) →
      Ends 0x24) ∧
    (read → s.packFault pack = none → (∀ q ∈ s.st.packs, q.id = id → q.revision < rv) → s.packSlotFor id = none → Ends 0x25) ∧
    (read → s.packFault pack = none → (∀ q ∈ s.st.packs, q.id = id → q.revision < rv) → s.packSlotFor id = some n →
      Completes (exec (.packPush cid addr len readOk pack) s) (fun t => PushWaits s t cid.toNat n pack)) := by
  intro id rv Ends read
  obtain ⟨u, happly, hu⟩ := s.asHost_applies h (fun t => t.packPush cid.toNat len.toNat readOk pack)
  have ⟨honly, _, _⟩ := hu
  have hexec : exec (.packPush cid addr len readOk pack) s = .next (u.packPush cid.toNat len.toNat readOk pack) :=
    (exec_packPush cid addr len readOk pack hmaster hpower).trans (congrArg Host.Outcome.next happly)
  have hends : ∀ {status payload : Nat}, u.packPush cid.toNat len.toNat readOk pack = u.respond 0x51 cid.toNat status 1 payload → Ends status := by
    intro status payload he
    obtain ⟨hresp, hregs, hst, -⟩ := State.respond_refuses status payload h hu
    exact .of_next (hexec.trans (congrArg Host.Outcome.next he)) ⟨hresp, hst, hregs⟩
  have hread : read → u.packPush cid.toNat len.toNat readOk pack = match s.packFault pack with
      | some v => u.respond 0x51 cid.toNat v 1 0
      | none => u.packAccept cid.toNat pack := by
    rintro ⟨hok, hlen, hlow, hhigh⟩
    rw [State.packPush_read (by omega) (by simp [hok, hlen]), honly.packFault]
  have haccept : read → s.packFault pack = none → u.packPush cid.toNat len.toNat readOk pack = u.packAccept cid.toNat pack :=
    fun hr hf => by rw [hread hr, hf]
  have hst := honly.st
  refine ⟨fun hlen => hends (State.packPush_badLength hlen), fun hlow hhigh hbad => hends (State.packPush_unread (by omega) hbad),
    fun hr hf => hends (payload := 0) (by rw [hread hr, hf]), fun hr hf hq => ?stored, fun hr hf hne hq => ?lower, fun hr hf hlt hno => ?full,
    fun hr hf hlt hslot => .of_next (hexec.trans (congrArg Host.Outcome.next ?waits)) (hu.packEnters cid.toNat n pack)⟩
  case stored =>
    obtain ⟨slot, hslot⟩ := State.packAccept_stored (u := u) (cid := cid.toNat) (hst ▸ hq)
    exact hends ((haccept hr hf).trans hslot)
  case lower => exact hends ((haccept hr hf).trans (State.packAccept_lower (hst ▸ hne) (hst ▸ hq)))
  case full =>
    refine hends (payload := 0) ((haccept hr hf).trans ?_)
    rw [State.packAccept_newest (hst ▸ hlt), honly.packSlotFor, hno]
  case waits =>
    refine (haccept hr hf).trans ?_
    rw [State.packAccept_newest (hst ▸ hlt), honly.packSlotFor, hslot]

/-! ### The write of a pack -/

/-- The packs once the oldest that waited is written: it replaces the one in its slot and becomes active. -/
def State.packWritten (s : State) (p : Pack) : State :=
  { s with st := { s.st with
    packs := (s.st.packs.filter (fun q => decide (q ≠ p))).filter (fun q => !q.stored || decide (q.slot ≠ p.slot)) ++
      [{ p with stored := true, active := true, cid := none }]
    ran := Tab.drop (fun k => decide (k / 2 ^ 14 % 16 = p.slot)) s.st.ran } }

theorem State.packWrite_answers {s : State} {p : Pack} {c : Nat} (hopen : s.flashOpen = true)
    (hp : s.st.packs.find? (fun q => !q.stored) = some p) (hc : p.cid = some c) :
    s.packWrite = (s.packWritten p).respond 0x51 c 0 1 p.slot := by
  unfold State.packWrite
  rw [hopen, hp]
  dsimp only
  rw [hc]
  rfl

theorem State.packWrite_shut {s : State} (h : s.flashOpen = false) : s.packWrite = s := by
  unfold State.packWrite
  rw [h]

theorem packWrite_rows (s : State) (cid : BitVec 32) (p : Pack) :
    (s.flashOpen = true → s.st.packs.find? (fun q => !q.stored) = some p → p.cid = some cid.toNat → s.rf .hptStatusAttached 0 = 1 →
      s.host.outQ.length < 4096 → Completes (exec .packFlashWrite s) (fun t =>
        RespondedWith s t 0x51 cid.toNat 0 (fun x => x = p.slot) ∧ SameRegs s t creditRegs ∧
        { p with stored := true, active := true, cid := none } ∈ t.st.packs)) ∧
    (s.flashOpen = false → exec .packFlashWrite s = .next s) := by
  refine ⟨fun hopen hp hc hatt hroom => ?_, fun hshut => congrArg Host.Outcome.next (State.packWrite_shut hshut)⟩
  obtain ⟨hresp, hregs, honly⟩ := (s.packWritten p).respond_room 0x51 cid.toNat 0 1 p.slot (decide_eq_true hatt) hroom
  refine .of_next (congrArg Host.Outcome.next (State.packWrite_answers hopen hp hc)) ⟨hresp, hregs, ?_⟩
  rw [honly.st]
  exact List.mem_append_right _ (List.mem_singleton.mpr rfl)

/-- Settles O40: the scan entry, the commits of firmware and the pattern packs, each by its own rows. -/
theorem scanEntryAndSignedImages : Obligations.ScanEntryAndSignedImages := by
  unfold Obligations.ScanEntryAndSignedImages
  refine ⟨scanEntry_rows, fun s r v => ?firmware, fun s cid addr len readOk pack v n p => ?packs⟩
  case firmware =>
    obtain ⟨hwrite, hwaits⟩ := fwSlot_rows s v
    exact ⟨exec_kprFwCommit_held, fun hawake hbusy => .of_next ((exec_kprFwCommit hawake).trans (congrArg Host.Outcome.next (if_pos hbusy)))
      s.onlyRegs_accessErr, fun hawake hidle => fwCommit_begun hawake hidle r v, hwrite, hwaits⟩
  case packs =>
    obtain ⟨hwrite, hshut⟩ := packWrite_rows s cid p
    exact ⟨fun h hmaster hpower => packPush_rows addr len readOk pack v n h hmaster hpower, hwrite, hshut⟩

end Sys2Proof.Machine
end

section
/-! Requests of a recovery, and the records of regrowths that the escalations and ends of regrowths rest on
(07_quarantine_and_regrowth.md R209, R217, R222; 12_hangs_and_molts.md R355, R356): what each changes, and what it leaves alone. -/

namespace Sys2Proof.Machine

/-! ### Requests of a recovery (R355) -/

/-- The registers that a request of a recovery can write. -/
def recoveryRegs : List (RF × Nat) :=
  [(.kprHangStatusRecovery, 0), (.kprHangStatusRecoveryLoop, 0), (.kprHangStatusCroakDrop, 0), (.kprHangStatusMoltOverwrite, 0),
    (.aoiDomainsCompute, 0), (.aoiDomainsComputePending, 0)]

theorem State.captureReset_compute_leaves (s : State) (wafer : Bool) (cause field : Nat) (tilesAbsent : Bool) :
    let t := s.captureReset .compute wafer cause field tilesAbsent
    t = { s with regs := t.regs, molts := t.molts } ∧ SameRegs s t recoveryRegs := by
  intro t
  obtain ⟨⟨hmoved, -⟩, hregs⟩ := s.moltBegin_moltsMoved wafer cause field tilesAbsent .compute
  have hmolt : SameRegs s (s.moltBegin wafer cause field tilesAbsent .compute) recoveryRegs := hregs.mono (by decide)
  have ht : t = s.captureReset .compute wafer cause field tilesAbsent := rfl
  clear_value t
  unfold State.captureReset at ht
  split at ht
  · subst ht
    refine ⟨?_, hmolt.put 1 (by decide)⟩
    dsimp only
    rw [State.setDom, State.put, hmoved]
  · exact ht ▸ ⟨rfl, s.sameRegs_put 1 (by decide)⟩
  · subst ht
    exact ⟨rfl, .refl _ _⟩

/-- A request touches the molts, the host port, and of the recoveries who asked: naming windows and stall records stand. -/
theorem State.requestRecovery_leaves (s : State) (byHost : Bool) (cid : Option Nat) (cause : Nat) (trip : Bool) :
    let t := s.requestRecovery byHost cid cause trip
    t = { s with
      regs := t.regs, molts := t.molts, host := t.host
      recov := { s.recov with cids := t.recov.cids, byHost := t.recov.byHost } } ∧ SameRegs s t recoveryRegs := by
  intro t
  have ht : t = s.requestRecovery byHost cid cause trip := rfl
  clear_value t
  have hset : ∀ (u : State) (v : Nat), SameRegs u (u.setRec v) recoveryRegs := fun u v => u.sameRegs_put v (by decide)
  unfold State.requestRecovery at ht
  dsimp only at ht
  split at ht
  · exact ht ▸ ⟨rfl, .of_regs_eq _ rfl⟩
  · split at ht
    · subst ht
      refine ⟨?_, (SameRegs.of_regs_eq _ rfl).trans ((State.sameRegs_put _ 1 (by decide)).trans
        ((State.sameRegs_sendMsg _ _ _ _ _ _ _).mono (by decide)))⟩
      dsimp only
      rw [State.croak, State.sendMsg_onlyHost]
      rfl
    · split at ht
      · exact ht ▸ ⟨rfl, (SameRegs.of_regs_eq _ rfl).trans (hset _ 3)⟩
      · split at ht
        all_goals
          subst ht
          obtain ⟨hframe, hregs⟩ := State.captureReset_compute_leaves (State.setRec _ _) true cause 0 false
          refine ⟨?_, (SameRegs.of_regs_eq _ rfl).trans ((hset _ _).trans hregs)⟩
          rw [hframe]
          rfl

/-- A reset of tile compute that is UP takes a molt. -/
theorem State.captureReset_begun {s : State} (cause : Nat) (hup : s.rf .aoiDomainsCompute 0 = 0) :
    RecoveryBegun s ((s.setRec 1).captureReset .compute true cause 0 false) := by
  obtain ⟨⟨-, hseq⟩, hregs⟩ := (s.setRec 1).moltBegin_moltsMoved true cause 0 false .compute
  have hstate : (s.setRec 1).domState .compute = 0 :=
    (State.rf_put_field _ .kprHangStatusRecovery .aoiDomainsCompute 0 0 1 (by decide)).trans hup
  rw [State.captureReset_compute_up _ _ _ _ _ hstate]
  refine ⟨?_, State.rf_put_same _ _ _ _, hseq⟩
  refine (State.rf_put_field _ .aoiDomainsCompute .kprHangStatusRecovery 0 0 1 (by decide)).trans ((hregs _ _ (by decide)).trans ?_)
  exact State.rf_put_same _ _ _ _

/-- A recovery that the host asks for, or the write of KPR_RECOVER_REQ, begins whatever the limit says (R358). -/
theorem State.requestRecovery_byHost {s : State} (cause : Nat) (hidle : s.rf .kprHangStatusRecovery 0 = 0)
    (hup : s.rf .aoiDomainsCompute 0 = 0) :
    let t := s.requestRecovery true none cause false
    RecoveryBegun s t ∧ t.recov.byHost = true := by
  let u : State := { s with recov := { s.recov with cids := s.recov.cids ++ [], byHost := true } }
  have heq : s.requestRecovery true none cause false = (u.setRec 1).captureReset .compute true cause 0 false := by
    unfold State.requestRecovery
    refine (if_neg ?_).trans ((if_neg (fun h => Bool.noConfusion h.1)).trans ((if_neg Bool.false_ne_true).trans
      (if_pos (Nat.le_trans (Nat.le_of_eq hup) (Nat.zero_le 1)))))
    rintro (h | ⟨-, -, h⟩)
    · exact h hidle
    · exact h hup
  obtain ⟨hframe, -⟩ := (u.setRec 1).captureReset_compute_leaves true cause 0 false
  intro t
  refine ⟨?_, ?_⟩
  · exact (show t = _ from heq) ▸ State.captureReset_begun (s := u) cause hup
  · rw [show t = _ from heq, hframe]
    rfl

/-- Whether a recovery may begin is a matter of four registers, the recoveries counted and the time. -/
theorem State.recoverable.of_same {s t : State} {l : List (RF × Nat)} (h : s.recoverable) (hregs : SameRegs s t l)
    (hl : ∀ F ∈ [RF.kprHangStatusRecovery, .kprHangCtrlRecoveryLimit, .aoiDomainsCompute], (F, 0) ∉ l) (hrecov : t.recov = s.recov)
    (hnow : t.now = s.now) : t.recoverable := by
  obtain ⟨hidle, hlimit, hup⟩ := h
  have hrecent : t.recRecent = s.recRecent := by rw [State.recRecent, State.recRecent, hrecov, hnow]
  exact ⟨(hregs _ _ (hl _ (by simp))).trans hidle, by rw [hrecent, hregs _ _ (hl _ (by simp))]; exact hlimit,
    (hregs _ _ (hl _ (by simp))).trans hup⟩

/-! ### Events, and the record of a regrowth (R222) -/

/-- A sampled event touches its list, the records held back and the mark of a full slice. -/
theorem State.sample_frame (s : State) (cls loc : Nat) (acts : List EvAct) :
    let t := s.sample cls loc acts
    t = { s with regs := t.regs, events := t.events, heldRecs := t.heldRecs } := by
  intro t
  have ht : t = s.sample cls loc acts := rfl
  clear_value t
  unfold State.sample at ht
  split at ht
  · exact ht ▸ rfl
  · split at ht
    · dsimp only at ht
      split at ht <;> exact ht ▸ rfl
    · exact ht ▸ rfl

theorem State.sameRegs_sample_station (s : State) (cls f : Nat) (acts : List EvAct) :
    SameRegs s (s.sample cls (locStation f) acts) [(.fstEvtStatusSliceFull, f)] := by
  have hput : ∀ u : State, u.regs = s.regs → SameRegs s (u.put .fstEvtStatusSliceFull f 1) [(.fstEvtStatusSliceFull, f)] :=
    fun u hu => (SameRegs.of_regs_eq _ hu).put 1 (List.mem_singleton_self _)
  have hloc := locField_locStation f
  generalize locStation f = loc at *
  rw [State.sample]
  split
  · exact .of_regs_eq _ rfl
  next g hg =>
    obtain rfl : g = f := Option.some.inj (hg.symm.trans hloc)
    split
    · dsimp only
      split
      · exact hput { s with events := s.events ++ [⟨cls, loc, s.now, acts⟩] } rfl
      · exact .of_regs_eq _ rfl
    · exact hput { s with heldRecs := s.heldRecs ++ [⟨cls, loc, s.now, acts⟩] } rfl

/-- OUTCOME and REASON of the record. -/
theorem State.bits_regrowRecord (s : State) (r : Regrowth) (outcome reason : Nat) :
    bits (s.regrowRecord r outcome reason) 4 4 = outcome % 2 ^ 4 ∧ bits (s.regrowRecord r outcome reason) 8 4 = reason % 2 ^ 4 :=
  ⟨bits_withCrc16_pack_at 1 rfl rfl rfl (by decide), bits_withCrc16_pack_at 2 rfl rfl rfl (by decide)⟩

/-- OUTCOME and REASON as FST_REGROW_LAST holds them. -/
theorem State.bits_regrowLast (s : State) (r : Regrowth) (outcome reason : Nat) :
    bits (s.regrowRecord r outcome reason % 2 ^ RF.fstRegrowLastRecord.spec.width) 4 4 = outcome % 2 ^ 4 ∧
      bits (s.regrowRecord r outcome reason % 2 ^ RF.fstRegrowLastRecord.spec.width) 8 4 = reason % 2 ^ 4 := by
  rw [bits_mod_two_pow _ (by decide), bits_mod_two_pow _ (by decide)]
  exact s.bits_regrowRecord r outcome reason

/-- The registers that a regrowth's record and the counts beside it can write. -/
def regrowRegs (f : Nat) : List (RF × Nat) :=
  [(.fstEvtStatusSliceFull, f), (.fstRegrowDoneDone, f), (.fstRegrowFlagsDoneSat, f), (.fstRegrowEscalatedEscalated, f),
    (.fstRegrowFlagsEscSat, f), (.kprHangStatusCroakDrop, 0)]

theorem State.regrowPosted_frame (s : State) (r : Regrowth) (v : Nat) :
    let t := s.regrowPosted r v
    t = { s with regs := t.regs, events := t.events, heldRecs := t.heldRecs } :=
  (State.sample_frame _ _ _ _).trans rfl

/-- The record is kept: the fields beside FST_REGROW_LAST move from the state that holds it. -/
theorem State.sameRegs_regrowPosted (s : State) (r : Regrowth) (v : Nat) :
    SameRegs (s.put .fstRegrowLastRecord (tileField r.failed) v) (s.regrowPosted r v) (regrowRegs (tileField r.failed)) :=
  (State.sameRegs_sample_station _ _ _ _).mono (by simp [regrowRegs])

theorem State.withRegrowths_run (s : State) (n : Nat) :
    let t : State := { s with run := { s.run with regrowths := n } }
    t = { s with run := t.run } ∧ t.regs = s.regs ∧ t.run.regrowths = n := ⟨rfl, rfl, rfl⟩

/-- One more regrowth in the run, and nothing else. -/
theorem State.regrowRun_frame (s : State) :
    s.regrowRun = { s with run := s.regrowRun.run } ∧ s.regrowRun.regs = s.regs ∧
      s.regrowRun.run.regrowths = Nat.min 0xFFFFFFFF (s.run.regrowths + 1) := s.withRegrowths_run _

/-- Nothing but the registers, the events and the records held back differs. -/
def OnlyTold (s t : State) : Prop := t = { s with regs := t.regs, events := t.events, heldRecs := t.heldRecs }

section
variable {s p u : State} {l : List (RF × Nat)} (hp : OnlyTold s p)
include hp

/-- A regrowth counted in its run, and then in its field's register. -/
theorem OnlyTold.counted {q : State} (hq : q = { p with run := q.run }) (hu : OnlyRegs q u l) :
    u = { s with regs := u.regs, events := u.events, heldRecs := u.heldRecs, run := u.run } ∧ u.run = q.run := by
  obtain ⟨hu, -⟩ := hu
  unfold OnlyTold at hp
  exact ⟨by rw [hu, hq, hp], by rw [hu]⟩

/-- A count, and then a croak. -/
theorem OnlyTold.croaked (hu : OnlyRegs p u l) {t : State} (ht : OnlyHost u t) :
    t = { s with regs := t.regs, events := t.events, heldRecs := t.heldRecs, host := t.host } ∧ u.host = s.host ∧ t.events = p.events := by
  obtain ⟨hu, -⟩ := hu
  unfold OnlyTold at hp
  refine ⟨?_, ?_, ?_⟩
  · unfold OnlyHost at ht
    rw [ht, hu, hp]
  · rw [hu, hp]
  · rw [ht.events, hu]

end

theorem State.writeRegrow_done_eq (s : State) (r : Regrowth) :
    s.writeRegrow r 1 0 = (s.regrowPosted r (s.regrowRecord r 1 0)).regrowRun.bump .fstRegrowDoneDone (tileField r.failed)
      .fstRegrowFlagsDoneSat (tileField r.failed) 1 :=
  (s.writeRegrow_eq r 1 0).trans (if_pos (Or.inl rfl))

theorem State.writeRegrow_escalated_eq (s : State) (r : Regrowth) (reason : Nat) :
    s.writeRegrow r 3 reason = ((s.regrowPosted r (s.regrowRecord r 3 reason)).bump .fstRegrowEscalatedEscalated (tileField r.failed)
      .fstRegrowFlagsEscSat (tileField r.failed) 1).croak 0x02 1 (s.regrowRecord r 3 reason) :=
  (s.writeRegrow_eq r 3 reason).trans ((if_neg (by decide)).trans (if_pos rfl))

/-- A regrowth that ends DONE: the record is kept, told and counted. -/
theorem State.writeRegrow_done {s t : State} {r : Regrowth} (ht : s.writeRegrow r 1 0 = t) :
    t = { s with regs := t.regs, events := t.events, heldRecs := t.heldRecs, run := t.run } ∧
      t.run.regrowths = Nat.min 0xFFFFFFFF (s.run.regrowths + 1) ∧
      SameRegs (s.put .fstRegrowLastRecord (tileField r.failed) (s.regrowRecord r 1 0)) t (regrowRegs (tileField r.failed)) := by
  have hp : OnlyTold s (s.regrowPosted r (s.regrowRecord r 1 0)) := s.regrowPosted_frame r _
  have hposted := s.sameRegs_regrowPosted r (s.regrowRecord r 1 0)
  have hbump := (s.regrowPosted r (s.regrowRecord r 1 0)).regrowRun.bump_onlyRegs .fstRegrowDoneDone (tileField r.failed)
    .fstRegrowFlagsDoneSat (tileField r.failed) 1
  rw [← s.writeRegrow_done_eq r, ht] at hbump
  obtain ⟨hrun, hrunRegs, hcount⟩ := (s.regrowPosted r (s.regrowRecord r 1 0)).regrowRun_frame
  obtain ⟨hframe, htrun⟩ := hp.counted hrun hbump
  have hprun : (s.regrowPosted r (s.regrowRecord r 1 0)).run = s.run := by
    generalize s.regrowPosted r (s.regrowRecord r 1 0) = p at hp
    unfold OnlyTold at hp
    rw [hp]
  obtain ⟨-, hregs⟩ := hbump
  exact ⟨hframe, by rw [htrun, hcount, hprun],
    hposted.trans ((SameRegs.of_regs_eq _ hrunRegs).trans (hregs.mono (by simp [regrowRegs])))⟩

/-- A regrowth that escalates: the record is kept, told and counted, and CAPACITY_LOSS is croaked. -/
theorem State.writeRegrow_escalated {s t : State} {r : Regrowth} {reason : Nat} (ht : s.writeRegrow r 3 reason = t) :
    t = { s with regs := t.regs, events := t.events, heldRecs := t.heldRecs, host := t.host } ∧
      SameRegs (s.put .fstRegrowLastRecord (tileField r.failed) (s.regrowRecord r 3 reason)) t (regrowRegs (tileField r.failed)) ∧
      (outRoom s.host.outQ 2 = true → ∃ m, Queued s t m ∧ m.cls = 2 ∧ m.code = 0x02) ∧
      t.events = (s.regrowPosted r (s.regrowRecord r 3 reason)).events := by
  rw [s.writeRegrow_escalated_eq r] at ht
  have hp : OnlyTold s (s.regrowPosted r (s.regrowRecord r 3 reason)) := s.regrowPosted_frame r _
  have hposted := s.sameRegs_regrowPosted r (s.regrowRecord r 3 reason)
  have hbump := (s.regrowPosted r (s.regrowRecord r 3 reason)).bump_onlyRegs .fstRegrowEscalatedEscalated (tileField r.failed)
    .fstRegrowFlagsEscSat (tileField r.failed) 1
  generalize (s.regrowPosted r (s.regrowRecord r 3 reason)).bump .fstRegrowEscalatedEscalated (tileField r.failed)
    .fstRegrowFlagsEscSat (tileField r.failed) 1 = u at ht hbump
  rw [State.croak] at ht
  have hsent := u.sendMsg_onlyHost 2 0x02 1 0 0 (s.regrowRecord r 3 reason)
  have hsentRegs := u.sameRegs_sendMsg 2 0x02 1 0 0 (s.regrowRecord r 3 reason)
  obtain ⟨hframe, hhost, hevents⟩ := hp.croaked hbump (show OnlyHost u t from ht ▸ hsent)
  obtain ⟨-, hregs⟩ := hbump
  refine ⟨hframe, ?_, fun hroom => ?_, hevents⟩
  · exact (hposted.trans (hregs.mono (by simp [regrowRegs]))).trans
      ((show SameRegs u t [(.kprHangStatusCroakDrop, 0)] from ht ▸ hsentRegs).mono (by simp [regrowRegs]))
  · obtain ⟨m, hq, hcls, hcode, -⟩ := u.sendMsg_queued (cls := 2) 0x02 1 (s.regrowRecord r 3 reason) (hhost ▸ hroom)
    exact ⟨m, by rw [Queued, ← ht, hq, hhost], hcls, hcode⟩

end Sys2Proof.Machine
end

section
/-! Stall records, the naming window and the requests of a recovery (12_hangs_and_molts.md R342 to R346, R355, R360). -/

namespace Sys2Proof.Machine

/-! ### Several fields written -/

theorem State.sameRegs_puts {l : List (RF × Nat)} (w : List (RF × Nat × Nat)) (s : State) (h : ∀ e ∈ w, (e.1, e.2.1) ∈ l) :
    SameRegs s (s.puts w) l := by
  induction w generalizing s with
  | nil => exact .refl s l
  | cons e w ih =>
    exact (s.sameRegs_put e.2.2 (h e List.mem_cons_self)).trans (ih (s.put e.1 e.2.1 e.2.2) fun x hx => h x (List.mem_cons_of_mem _ hx))

/-- A field that several writes name once holds what they write. -/
theorem State.rf_puts_same {F : RF} {i v : Nat} (w : List (RF × Nat × Nat)) (s : State) (hmem : (F, i, v) ∈ w)
    (honce : (w.map (fun e => (e.1, e.2.1))).Nodup) : (s.puts w).rf F i = v % 2 ^ F.spec.width := by
  induction w generalizing s with
  | nil => cases hmem
  | cons e w ih =>
    obtain ⟨hnot, honce⟩ := List.nodup_cons.mp honce
    rcases List.mem_cons.mp hmem with rfl | hmem
    · refine (State.rf_puts_other w (s.put F i v) F i fun x hx => ?_).trans (s.rf_put_same F i v)
      by_contra hc
      push Not at hc
      exact hnot (List.mem_map.mpr ⟨x, hx, Prod.ext hc.1 hc.2⟩)
    · exact ih (s.put e.1 e.2.1 e.2.2) hmem honce

/-! ### Stall records (R194, R342 to R344) -/

/-- The registers in which a tile holds what it waits for. -/
def stallWaits (t : Nat) (i : StallInfo) : List (RF × Nat × Nat) :=
  [(.tsnStreamPosition, t, i.streamPos.toNat), (.tsnStallStalled, t, i.stalled.toNat),
    (.tsnWaitSemaphore, t, i.semaphore.toNat), (.tsnWaitWait, t, i.wait.toNat), (.tsnWaitPort, t, i.port.toNat),
    (.tsnWaitSemValid, t, bit i.semValid), (.tsnBundleBundle, t, i.bundle.toNat)]

theorem stallWaits_once (t : Nat) (i : StallInfo) : ((stallWaits t i).map (fun e => (e.1, e.2.1))).Nodup := by
  simp [stallWaits]

theorem State.stallLimit_exempt {s : State} {t : Nat} {i : StallInfo} (h : s.stallExempt t i = true) : s.stallLimit t i = s := by
  simp [State.stallLimit, h]

/-- A stall of the limit or longer that is not exempt, and the first at its position that is as long. -/
theorem State.stallLimit_sends {s : State} {t : Nat} {i : StallInfo} (hrun : s.launch.running = true) (hexempt : s.stallExempt t i = false)
    (hlong : s.rf .kprStallLimitLimit 0 ≤ i.stalled.toNat) (hnew : s.rf .tsnStallStalled t < s.rf .kprStallLimitLimit 0) :
    s.stallLimit t i = State.puts { s.free.2 with out := .record t s.free.1 :: s.out } (stallWaits t i) := by
  have hsent : decide (s.rf .kprStallLimitLimit 0 ≤ s.rf .tsnStallStalled t) = false := decide_eq_false (Nat.not_le.mpr hnew)
  unfold State.stallLimit
  simp only [hsent, hexempt, hrun, decide_eq_true hlong, Bool.false_and, Bool.not_false, Bool.true_and, if_true]
  rfl

theorem State.stallExempt_of {s : State} {t : Nat} {i : StallInfo}
    (h : (s.tile t).stall = true ∨ (s.tile t).underTest = true ∨ (s.tile t).inWindow = true ∨ s.rf .kprMonStatusHold 0 = 1 ∨
      s.logicalOf t = none ∨ (∃ r ∈ s.regrows, r.rot = 0) ∨ s.sec.rollback.isSome = true) : s.stallExempt t i = true := by
  simp only [State.stallExempt, State.rollbackHeld, Bool.or_eq_true, List.any_eq_true, decide_eq_true_eq, Option.isNone_iff_eq_none]
  rcases h with h | h | h | h | h | h | h <;> simp only [h, true_or, or_true]

/-- What R342 says of one tile's stall: not reported, or one record and the registers that hold what it waits for. -/
theorem stallLimit_rows {s : State} {tile : Nat} (i : StallInfo) (hk : tileOk tile = true) (hrun : s.launch.running = true)
    (hexempt : s.stallExempt tile i = false) (hlong : s.rf .kprStallLimitLimit 0 ≤ i.stalled.toNat)
    (hnew : s.rf .tsnStallStalled tile < s.rf .kprStallLimitLimit 0) :
    Completes (exec (.stallLimitReached tile i) s) (fun t =>
      SameRegs s t [(.tsnStreamPosition, tile), (.tsnStallStalled, tile), (.tsnWaitSemaphore, tile), (.tsnWaitWait, tile), (.tsnWaitPort, tile),
        (.tsnWaitSemValid, tile), (.tsnBundleBundle, tile)] ∧
      t.rf .tsnStallStalled tile = i.stalled.toNat ∧ t.rf .tsnWaitSemaphore tile = i.semaphore.toNat ∧ t.rf .tsnStreamPosition tile = i.streamPos.toNat ∧
      ∃ r, t.out = .record tile r :: s.out) := by
  refine Completes.of_onTile hk rfl ?_
  rw [State.stallLimit_sends hrun hexempt hlong hnew]
  have hheld : ∀ F v, (F, tile, v) ∈ stallWaits tile i → v < 2 ^ F.spec.width →
      (State.puts { s.free.2 with out := .record tile s.free.1 :: s.out } (stallWaits tile i)).rf F tile = v :=
    fun F v hm hv => (State.rf_puts_same _ _ hm (stallWaits_once tile i)).trans (Nat.mod_eq_of_lt hv)
  refine ⟨?_, hheld .tsnStallStalled _ (by simp [stallWaits]) i.stalled.isLt, hheld .tsnWaitSemaphore _ (by simp [stallWaits]) i.semaphore.isLt,
    hheld .tsnStreamPosition _ (by simp [stallWaits]) i.streamPos.isLt, s.free.1, ?_⟩
  · exact (SameRegs.of_regs_eq _ rfl).trans (State.sameRegs_puts _ _ (by simp [stallWaits]))
  · exact State.puts_frame (fun u => u.out) (fun _ _ _ _ => rfl) _ _

theorem State.stallArrives_opens {s : State} {t : Nat} {i : StallInfo} (hrun : s.launch.running = true) (hopen : s.recov.closed = false)
    (hnone : s.recov.naming = none) : s.stallArrives t i = { s with recov := { s.recov with naming := some s.now, stalls := [⟨t, i⟩] } } := by
  unfold State.stallArrives
  rw [if_neg (by simp [hrun, hopen]), hnone]

theorem State.stallArrives_joins {s : State} {t t0 : Nat} {i : StallInfo} (hrun : s.launch.running = true) (hopen : s.recov.closed = false)
    (hsome : s.recov.naming = some t0) (hearly : s.now < t0 + 100) :
    s.stallArrives t i = { s with recov := { s.recov with stalls := s.recov.stalls ++ [⟨t, i⟩] } } := by
  unfold State.stallArrives
  rw [if_neg (by simp [hrun, hopen]), hsome]
  exact if_pos hearly

/-! ### The record that names the fault (R344) -/

theorem namedStall_mem {l : List StallRec} {b : StallRec} (h : namedStall l = some b) : b ∈ l := by
  induction l generalizing b with
  | nil => exact absurd h (by simp [namedStall])
  | cons r l ih =>
    unfold namedStall at h
    split at h
    · exact Option.some.inj h ▸ List.mem_cons_self
    · next c hc =>
      dsimp only at h
      split at h
      · exact Option.some.inj h ▸ List.mem_cons_self
      · exact Option.some.inj h ▸ List.mem_cons_of_mem _ (ih hc)

theorem namedStall_earliest {r : StallRec} {l : List StallRec} (h : ∀ x ∈ l, r.info.startWtc.toNat < x.info.startWtc.toNat) :
    namedStall (r :: l) = some r := by
  unfold namedStall
  split
  · rfl
  · next b hb => exact if_pos (Or.inl (h b (namedStall_mem hb)))

/-! ### The hang record (R345) -/

theorem withCrc16_lt {n m v : Nat} (hm : 8 * n + 16 ≤ m) (h : v < 2 ^ (8 * n)) : withCrc16 n v < 2 ^ m :=
  Nat.or_lt_two_pow (h.trans_le (Nat.pow_le_pow_right (by decide) (by omega)))
    ((Nat.shiftLeft_lt (crc16_lt _)).trans_le (Nat.pow_le_pow_right (by decide) (by omega)))

theorem State.hangRecord_lt (s : State) (h : HangInfo) : s.hangRecord h < 2 ^ RF.kprHangLastRecord.spec.width :=
  withCrc16_lt (n := 62) (by decide) (pack_lt_two_pow _ (by simp))

theorem State.recordOk_hangRecord (s : State) (h : HangInfo) : recordOk (s.hangRecord h) 62 = true :=
  recordOk_withCrc16 (by decide) (pack_lt_two_pow _ (by simp)) (bits_pack_at 0 rfl rfl rfl)

theorem State.bits_hangRecord (s : State) (h : HangInfo) :
    bits (s.hangRecord h) 4 4 = h.kind % 2 ^ 4 ∧ bits (s.hangRecord h) 8 4 = h.wait % 2 ^ 4 ∧ bits (s.hangRecord h) 32 19 = h.tile % 2 ^ 19 ∧
      bits (s.hangRecord h) 256 64 = h.wtc % 2 ^ 64 ∧ bits (s.hangRecord h) 320 32 = h.tiles % 2 ^ 32 :=
  ⟨bits_withCrc16_pack_at 1 rfl rfl rfl (by decide), bits_withCrc16_pack_at 2 rfl rfl rfl (by decide),
    bits_withCrc16_pack_at 6 rfl rfl rfl (by decide), bits_withCrc16_pack_at 15 rfl rfl rfl (by decide),
    bits_withCrc16_pack_at 16 rfl rfl rfl (by decide)⟩

/-- A hang that is raised: the record in KPR_HANG_LAST, one event, and the mark of a launch that stalled. -/
theorem State.raiseHang_leaves {s t : State} {h : HangInfo} (ht : s.raiseHang h = t) :
    t = { s with regs := t.regs, events := t.events } ∧
      SameRegs s t [(.kprHangLastRecord, 0), (.kprHangStatusStalled, 0)] ∧ t.rf .kprHangLastRecord 0 = s.hangRecord h ∧
      ∃ acts, Raised s t 4 0 acts ∧ .croak 0x1D 2 (s.hangRecord h) ∈ acts := by
  have hlt := s.hangRecord_lt h
  unfold State.raiseHang at ht
  generalize s.hangRecord h = b at ht hlt ⊢
  generalize Nat.max (s.rf .kprHangStatusStalled 0) (bit s.launch.running) = m at ht
  subst ht
  refine ⟨rfl, ?_, ?_, _, rfl, by simp⟩
  · exact (State.sameRegs_puts [(.kprHangLastRecord, 0, b), (.kprHangStatusStalled, 0, m)] s (by simp)).trans (.of_regs_eq _ rfl)
  · exact (State.rf_puts_same (F := .kprHangLastRecord) (v := b) [(.kprHangLastRecord, 0, b), (.kprHangStatusStalled, 0, m)] s (by simp)
      (by simp)).trans (Nat.mod_eq_of_lt hlt)

/-! ### The naming window closes (R344 to R346) -/

/-- The naming window closed: no stall record stands. -/
def State.namingClosed (s : State) : State := { s with recov := { s.recov with naming := none, stalls := [], closed := true } }

/-- What follows the hang record: a recovery where AUTO_RECOVER is set (R346). -/
def State.autoRecover (s : State) : State := if s.rf .kprHangCtrlAutoRecover 0 = 1 then s.requestRecovery false none 1 false else s

theorem State.namingClose_names {s : State} {t0 : Nat} {r : StallRec} {l : List StallRec} (hopen : s.recov.naming = some t0)
    (hdue : t0 + 100 ≤ s.now) (hstalls : s.recov.stalls = r :: l) (hfirst : ∀ x ∈ l, r.info.startWtc.toNat < x.info.startWtc.toNat)
    (hwait : r.info.wait.toNat ≠ 1) :
    ∃ h : HangInfo, h.kind = 1 ∧ h.wait = r.info.wait.toNat ∧ h.tile = r.tile ∧ h.wtc = r.info.startWtc.toNat ∧ h.tiles = l.length + 1 ∧
      s.namingClose = (s.namingClosed.raiseHang h).autoRecover := by
  unfold State.namingClose
  rw [hopen, hstalls, namedStall_earliest hfirst]
  exact ⟨_, rfl, if_neg (fun h => hwait h.1), rfl, rfl, rfl, if_pos hdue⟩

/-- AUTO_RECOVER leaves the hang record, the events and the naming window alone. -/
theorem State.autoRecover_leaves (s : State) : s.autoRecover.recov.naming = s.recov.naming ∧ s.autoRecover.recov.closed = s.recov.closed ∧
    s.autoRecover.recov.stalls = s.recov.stalls ∧ s.autoRecover.events = s.events ∧ SameRegs s s.autoRecover recoveryRegs := by
  unfold State.autoRecover
  split
  · obtain ⟨hframe, hregs⟩ := s.requestRecovery_leaves false none 1 false
    generalize s.requestRecovery false none 1 false = t at *
    refine ⟨?_, ?_, ?_, ?_, hregs⟩ <;> rw [hframe]
  · exact ⟨rfl, rfl, rfl, rfl, .refl _ _⟩

/-- R346: a recovery that may begin begins. -/
theorem State.autoRecover_begun {s t : State} (hset : s.rf .kprHangCtrlAutoRecover 0 = 1) (hrec : s.recoverable)
    (hregs : SameRegs s t [(.kprHangLastRecord, 0), (.kprHangStatusStalled, 0)]) (hseq : t.molts = s.molts)
    (hdone : t.recRecent = s.recRecent) : RecoveryBegun s t.autoRecover := by
  obtain ⟨hidle, hlimit, hup⟩ := hrec
  have hmay : t.recoverable := ⟨(hregs _ _ (by simp)).trans hidle, by rw [hdone, hregs _ _ (by simp)]; exact hlimit,
    (hregs _ _ (by simp)).trans hup⟩
  obtain ⟨⟨hrecovery, hcompute, hmolts⟩, -⟩ := t.requestRecovery_begun 1 hmay
  have hauto : t.autoRecover = _ := if_pos ((hregs _ _ (by simp)).trans hset)
  rw [hauto]
  exact ⟨hrecovery, hcompute, by rw [hmolts, hseq]⟩

/-- R344 to R346: the window closes with its hang record. -/
theorem namingClose_rows {s : State} {t0 : Nat} {r : StallRec} {l : List StallRec} (hopen : s.recov.naming = some t0)
    (hdue : t0 + 100 ≤ s.now) (hstalls : s.recov.stalls = r :: l) (hfirst : ∀ x ∈ l, r.info.startWtc.toNat < x.info.startWtc.toNat)
    (hwait : r.info.wait.toNat ≠ 1) (hk : tileOk r.tile = true) :
    Completes (exec .namingWindowClose s) (fun t => t.recov.naming = none ∧ t.recov.closed = true ∧ t.recov.stalls = [] ∧
      bits (t.rf .kprHangLastRecord 0) 4 4 = 1 ∧ bits (t.rf .kprHangLastRecord 0) 8 4 = r.info.wait.toNat ∧
      bits (t.rf .kprHangLastRecord 0) 32 19 = r.tile ∧ bits (t.rf .kprHangLastRecord 0) 256 64 = r.info.startWtc.toNat ∧
      bits (t.rf .kprHangLastRecord 0) 320 32 = (l.length + 1) % 2 ^ 32 ∧ recordOk (t.rf .kprHangLastRecord 0) 62 = true ∧
      (∃ acts, Raised s t 4 0 acts ∧ .croak 0x1D 2 (t.rf .kprHangLastRecord 0) ∈ acts) ∧
      (s.rf .kprHangCtrlAutoRecover 0 = 1 → s.recoverable → RecoveryBegun s t)) := by
  obtain ⟨h, hkind, hhwait, htile, hwtc, htiles, hclose⟩ := State.namingClose_names hopen hdue hstalls hfirst hwait
  refine .of_next (t := s.namingClose) rfl ?_
  rw [hclose]
  generalize hu : s.namingClosed.raiseHang h = u
  obtain ⟨hframe, hregs, hlast, acts, hraised, hcroak⟩ := State.raiseHang_leaves hu
  obtain ⟨hnaming, hclosed, hnone, hevents, hauto⟩ := u.autoRecover_leaves
  have hrecov : u.recov = s.namingClosed.recov := by rw [hframe]
  have hrecord : u.autoRecover.rf .kprHangLastRecord 0 = s.namingClosed.hangRecord h := (hauto _ _ (by decide)).trans hlast
  obtain ⟨bkind, bwait, btile, bwtc, btiles⟩ := s.namingClosed.bits_hangRecord h
  rw [hrecord]
  refine ⟨by rw [hnaming, hrecov]; rfl, by rw [hclosed, hrecov]; rfl, by rw [hnone, hrecov]; rfl, ?_, ?_, ?_, ?_, ?_,
    State.recordOk_hangRecord _ h, ⟨acts, hevents.trans hraised, hcroak⟩, fun hset hrec => ?_⟩
  · rw [bkind, hkind, Nat.mod_eq_of_lt (by decide)]
  · rw [bwait, hhwait, Nat.mod_eq_of_lt r.info.wait.isLt]
  · rw [btile, htile, Nat.mod_eq_of_lt (lt_of_tileOk hk)]
  · rw [bwtc, hwtc, Nat.mod_eq_of_lt r.info.startWtc.isLt]
  · rw [btiles, htiles]
  · have hmolts : u.molts = s.molts := by rw [hframe]; rfl
    have hrecent : u.recRecent = s.recRecent := by rw [hframe]; rfl
    exact State.autoRecover_begun hset hrec ((SameRegs.of_regs_eq _ rfl).trans hregs) hmolts hrecent

/-! ### KPR_RECOVER_REQ (R355, R360) -/

theorem kprRecoverReq_otherKey {s : State} {key : BitVec 8} (h : key ≠ 0x5A) :
    Completes (exec (.kprRecoverReq key) s) (fun t => OnlyRegs s t [(.hptStatusAccessErr, 0)] ∧ t.rf .hptStatusAccessErr 0 = 1) :=
  .of_next (congrArg Host.Outcome.next (if_neg h)) s.onlyRegs_accessErr

theorem kprRecoverReq_asks {s : State} {key : BitVec 8} (h : key = 0x5A) (hawake : s.rf .aoiDomainsKeeper 0 ≠ 2)
    (hidle : s.rf .kprHangStatusRecovery 0 = 0) (hup : s.rf .aoiDomainsCompute 0 = 0) :
    Completes (exec (.kprRecoverReq key) s) (fun t => RecoveryBegun s t ∧ t.recov.byHost = true ∧ t.ledger = s.ledger ∧ t.waits = s.waits) := by
  have hanswers : s.keeperAwake = true := decide_eq_true hawake
  refine .of_next (congrArg Host.Outcome.next ((if_pos h).trans (if_pos hanswers))) ?_
  obtain ⟨hbegun, hhost⟩ := State.requestRecovery_byHost 8 hidle hup
  obtain ⟨hframe, -⟩ := s.requestRecovery_leaves true none 8 false
  generalize s.requestRecovery true none 8 false = t at *
  exact ⟨hbegun, hhost, by rw [hframe], by rw [hframe]⟩

/-- Settles O16: a stall's record, the two ways a record arrives, the end of the naming window, and KPR_RECOVER_REQ. -/
theorem stallsAndRecoverRequests : Obligations.StallsAndRecoverRequests := by
  refine ⟨fun s tile i hk hrun => ⟨fun hexempt => ?_, fun hexempt hlong hnew => stallLimit_rows i hk hrun hexempt hlong hnew,
      fun hopen hnone => ?_, fun t0 hopen hsome hearly => ?_⟩,
    fun s t0 r l hopen hdue hstalls hfirst _ hwait hk => namingClose_rows hopen hdue hstalls hfirst hwait hk,
    fun s key => ⟨kprRecoverReq_otherKey, kprRecoverReq_asks⟩⟩
  · exact (onTile_next hk s _).trans (congrArg _ (State.stallLimit_exempt (State.stallExempt_of hexempt)))
  · exact (onTile_next hk s _).trans (congrArg _ (State.stallArrives_opens hrun hopen hnone))
  · exact (onTile_next hk s _).trans (congrArg _ (State.stallArrives_joins hrun hopen hsome hearly))

end Sys2Proof.Machine
end

section
/-! A regrowth up to its fill: the freeze, the slack check and the claim of a spare (07_quarantine_and_regrowth.md R192, R195 to R201,
R209, R216). -/

namespace Sys2Proof.Machine

/-! ### Phases, and a regrowth that is alone -/

/-- Besides the phase, a change of phase touches the account of the timeout alone (R209). -/
theorem Regrowth.toPhase_eq (r : Regrowth) (now p : Nat) :
    ∃ used runFrom, r.toPhase now p = { r with phase := p, used := used, runFrom := runFrom } := by
  unfold Regrowth.toPhase
  split <;> split <;> exact ⟨_, _, rfl⟩

@[simp] theorem Regrowth.toPhase_keeps (r : Regrowth) (now p : Nat) :
    (r.toPhase now p).phase = p ∧ (r.toPhase now p).failed = r.failed ∧ (r.toPhase now p).rot = r.rot ∧
      (r.toPhase now p).logical = r.logical ∧ (r.toPhase now p).engine = r.engine ∧ (r.toPhase now p).cause = r.cause ∧
      (r.toPhase now p).target = r.target ∧ (r.toPhase now p).tried = r.tried ∧ (r.toPhase now p).slackFailed = r.slackFailed ∧
      (r.toPhase now p).candidate = r.candidate := by
  obtain ⟨_, _, h⟩ := r.toPhase_eq now p
  simp [h]

theorem State.setRegrow_single {s : State} {r x : Regrowth} (h : s.regrows = [r]) (hfailed : x.failed = r.failed) (hrot : x.rot = r.rot) :
    s.setRegrow x = { s with regrows := [x] } := by
  rw [State.setRegrow, h, List.map_cons, List.map_nil, if_pos ⟨hfailed.symm, hrot.symm⟩]

theorem State.regrowAt_single {s : State} {r : Regrowth} {l : Nat} {phases : List Nat} (h : s.regrows = [r]) (hl : r.logical = l)
    (hphase : r.phase ∈ phases) : s.regrowAt l phases = some r := by
  rw [State.regrowAt, h]
  exact List.find?_cons_of_pos (by simp [hl, hphase])

/-! ### The next candidate, or none (R195, R209) -/

/-- REFUSED: the time is noted, and an event tells it (R209). -/
theorem State.refuse_ends {s : State} {r x : Regrowth} (h : s.regrows = [r]) (hfailed : x.failed = r.failed) (hrot : x.rot = r.rot)
    (hroom : s.sliceDepth (tileField x.failed) < 511) :
    ∃ y, (s.refuse x).regrows = [y] ∧ y.slackFailed = x.slackFailed ∧ y.target = x.target ∧ y.phase = rgRefused ∧
      y.candidate = x.candidate ∧ y.refusedAt = s.now ∧ ∃ acts, Raised s (s.refuse x) 10 (locStation (tileField x.failed)) acts := by
  have heq : ∃ acts, s.refuse x = { s with
      regrows := [{ x.toPhase s.now rgRefused with refusedAt := s.now }]
      events := s.events ++ [⟨10, locStation (tileField x.failed), s.now, acts⟩] } := by
    unfold State.refuse
    dsimp only
    rw [State.setRegrow_single h (by simp [hfailed]) (by simp [hrot])]
    exact ⟨_, State.sample_raised (s := s) (u := { s with regrows := [{ x.toPhase s.now rgRefused with refusedAt := s.now }] }) rfl rfl
      hroom _ _⟩
  obtain ⟨acts, heq⟩ := heq
  rw [heq]
  exact ⟨_, rfl, by simp, by simp, by simp, by simp, rfl, acts, rfl⟩

/-- CLAIM ends in CHECK with a candidate not yet tried, or in REFUSED with an event. -/
theorem State.claimNext_ends {s : State} {r : Regrowth} (h : s.regrows = [r]) (hroom : s.sliceDepth (tileField r.failed) < 511) :
    ∃ x, (s.claimNext r).regrows = [x] ∧ x.slackFailed = r.slackFailed ∧ x.target = r.target ∧
      (x.phase = rgCheck ∧ (∃ c, x.candidate = some c ∧ r.tried.contains c = false) ∧ (s.claimNext r).events = s.events ∨
        x.phase = rgRefused ∧ x.candidate = none ∧ x.refusedAt = s.now ∧
          ∃ acts, Raised s (s.claimNext r) 10 (locStation (tileField r.failed)) acts) := by
  unfold State.claimNext
  split
  · next c hc =>
    have huntried := List.find?_some hc
    simp only [Bool.and_eq_true, Bool.not_eq_true'] at huntried
    rw [State.setRegrow_single h (by simp) (by simp)]
    exact ⟨_, rfl, by simp, by simp, Or.inl ⟨by simp, ⟨c, rfl, huntried.2⟩, rfl⟩⟩
  · obtain ⟨y, hy, hslack, htarget, hrefused⟩ := State.refuse_ends (x := { r with candidate := none }) h rfl rfl hroom
    exact ⟨y, hy, hslack, htarget, Or.inr hrefused⟩

/-! ### The slack check (R201) -/

section
variable {s : State} {l cand : Nat} {r : Regrowth} (h : s.regrows = [r]) (hl : r.logical = l) (hphase : r.phase = rgCheck)
  (hcand : r.candidate = some cand) (hpassed : r.passed = false) (hclaim : s.claimable cand = true)
include h hl hphase hcand hpassed hclaim

theorem State.slackDone_passes (hslack : s.slackCheck l cand = none) : s.slackDone l = { s with regrows := [{ r with passed := true }] } := by
  unfold State.slackDone
  rw [State.regrowAt_single h hl (by simp [hphase])]
  dsimp only
  rw [hcand]
  dsimp only
  rw [hpassed, if_neg (by decide), if_neg (by simp [hclaim]), hslack]
  exact State.setRegrow_single h rfl rfl

/-- The regrowth as a failed check leaves it in CLAIM: the worst failing queue is noted (R201). -/
theorem State.slackDone_fails {w : SlackFail} (hslack : s.slackCheck l cand = some w) :
    ∃ x : Regrowth, x.failed = r.failed ∧ x.slackFailed = true ∧ x.target = none ∧ x.tried = r.tried ∧
      s.slackDone l = State.claimNext { s with regrows := [x] } x := by
  unfold State.slackDone
  rw [State.regrowAt_single h hl (by simp [hphase])]
  dsimp only
  rw [hcand]
  dsimp only
  rw [hpassed, if_neg (by decide), if_neg (by simp [hclaim]), hslack]
  dsimp only
  split <;>
  · rw [State.setRegrow_single h (by simp) (by simp)]
    exact ⟨_, by simp, rfl, rfl, by simp, rfl⟩

end

/-! ### The claim of a spare (R196, R216) -/

/-- The regrowth once it has its spare, in FILL. -/
def Regrowth.claimed (r : Regrowth) (now t : Nat) : Regrowth :=
  { r.toPhase now rgFill with
    target := some t, candidate := none, passed := false, asked := false, filling := false, retried := false, clearFrom := none }

theorem State.spareClaimed_quiet {s : State} (t : Nat) (he : s.episodes = []) : ∃ l, s.spareClaimed t = { s with ending := l } := by
  obtain ⟨l, hstop⟩ := s.stopWhere_none (fun e => decide (e.spare = t)) 3 8 he
  refine ⟨l, ?_⟩
  rw [State.spareClaimed, hstop, State.secondLost]
  dsimp only
  rw [he]
  rfl

theorem State.abortVisitsOn_none {s : State} (t : Nat) (hv : s.st.visits = []) : s.abortVisitsOn t = s := by
  have hrot : s.rotationOnto t = none := by rw [State.rotationOnto, hv, List.find?_nil]
  have hvisit : s.visitOf t = none := by rw [State.visitOf, hv, List.find?_nil]
  rw [State.abortVisitsOn, hrot]
  dsimp only
  rw [State.abortVisit, hvisit]

/-- A spare that no episode and no visit holds is claimed at once. -/
theorem State.claimSpare_free {s : State} {r : Regrowth} (t : Nat) (h : s.regrows = [r]) (he : s.episodes = []) (hv : s.st.visits = []) :
    ∃ l, s.claimSpare r t = { s with ending := l, regrows := [r.claimed s.now t] } := by
  obtain ⟨l, hclaimed⟩ := State.spareClaimed_quiet t he
  refine ⟨l, ?_⟩
  unfold State.claimSpare
  rw [hclaimed, State.abortVisitsOn_none (s := { s with ending := l }) t hv]
  exact State.setRegrow_single h (by simp) (by simp)

/-- A fill that is bound for a copy and waits for nothing goes on to COMMIT with COPY_FILL; another stays where it is (R207). -/
theorem State.copyToCommit_single {s : State} {r : Regrowth} (h : s.regrows = [r]) :
    s.copyToCommit r = s ∨ copyCause r.cause = true ∧
      ∃ sram sealed, s.copyToCommit r = { s with
        sram := sram, sealed := sealed, regrows := [{ r.toPhase s.now rgCommit with copyFill := true }] } := by
  unfold State.copyToCommit
  split
  · next hc =>
    obtain ⟨-, -, hcopy, -⟩ := hc
    exact Or.inr ⟨hcopy, _, _, State.setRegrow_single (s := s.clearSram (r.target.getD 0)) h (by simp) (by simp)⟩
  · exact Or.inl rfl

/-- The regrowth whose check passed takes the spare it checked. -/
theorem State.takeSpare_free {s : State} {r : Regrowth} (c : Nat) (h : s.regrows = [r]) (he : s.episodes = []) (hv : s.st.visits = []) :
    let t := s.takeSpare r c
    t.tiles = s.tiles ∧ t.regs = s.regs ∧ t.remap = s.remap ∧
      ∃ x, t.regrows = [x] ∧ x.logical = r.logical ∧ x.failed = r.failed ∧ x.target = some c ∧ x.candidate = none ∧ x.engine = r.engine ∧
        (x.phase = rgFill ∨ x.phase = rgCommit ∧ x.copyFill = true ∧ copyCause r.cause = true) := by
  obtain ⟨l, hclaim⟩ := State.claimSpare_free c h he hv
  have hat : ((s.claimSpare r c).rotate (rotSpare c) (2 * tileField r.failed + r.engine)).regrowAt r.logical [rgFill] =
      some (r.claimed s.now c) := by
    rw [hclaim]
    exact State.regrowAt_single rfl (by simp [Regrowth.claimed]) (by simp [Regrowth.claimed])
  intro t
  have ht : t = ((s.claimSpare r c).rotate (rotSpare c) (2 * tileField r.failed + r.engine)).copyToCommit (r.claimed s.now c) := by
    rw [show t = s.takeSpare r c from rfl]
    unfold State.takeSpare
    dsimp only
    rw [hat]
  clear_value t
  subst ht
  rw [hclaim, State.rotate]
  dsimp only
  generalize Tab.set (fun _ => 0) s.rotors (rotSpare c) (2 * tileField r.failed + r.engine + 1) = rot
  rcases State.copyToCommit_single
    (s := { s with ending := l, regrows := [r.claimed s.now c], rotors := rot }) (r := r.claimed s.now c) rfl with hsame | ⟨hcopy, sram, sealed, hcommit⟩
  · rw [hsame]
    exact ⟨rfl, rfl, rfl, _, rfl, by simp [Regrowth.claimed], by simp [Regrowth.claimed], rfl, rfl, by simp [Regrowth.claimed],
      Or.inl (by simp [Regrowth.claimed])⟩
  · rw [hcommit]
    refine ⟨rfl, rfl, rfl, _, rfl, by simp [Regrowth.claimed], by simp [Regrowth.claimed], by simp [Regrowth.claimed],
      by simp [Regrowth.claimed], by simp [Regrowth.claimed], Or.inr ⟨by simp, rfl, ?_⟩⟩
    simpa [Regrowth.claimed] using hcopy

theorem arbitrate_single {α : Type} (cls idx : α → Nat) (ptr : Nat) (a : α) : arbitrate cls idx ptr [a] = some a := by
  simp [arbitrate, leastBy]

/-- One regrowth, its check passed: the claims of the tick give it the spare. -/
theorem State.claimSpares_single {s : State} {r : Regrowth} {c : Nat} (h : s.regrows = [r]) (hphase : r.phase = rgCheck)
    (hcand : r.candidate = some c) (hpassed : r.passed = true) (hclaim : s.claimable c = true) : s.claimSpares = s.takeSpare r c := by
  have hwanted : s.regrows.filterMap (fun r => if r.passed then r.candidate else none) = [c] := by simp [h, hpassed, hcand]
  have hasks : s.spareAsks c = [r] := by simp [State.spareAsks, h, hphase, hcand, hpassed]
  unfold State.claimSpares
  rw [hwanted, show dedup [c] = [c] by simp [dedup], List.foldl_cons, List.foldl_nil]
  dsimp only
  rw [hasks, arbitrate_single]
  dsimp only
  rw [if_pos (by simp [hclaim])]
  simp

/-! ### The freeze (R192) -/

theorem State.freeze_stalled {s : State} {t : Nat} (hstall : (s.tile t).stall = true) (hup : s.computeUp = true) :
    s.freeze t = s.setTile t { s.tile t with frozen := true } := if_pos ⟨hstall, hup⟩

theorem State.freeze_running {s : State} {t : Nat} (hstall : (s.tile t).stall = false) : s.freeze t = s :=
  if_neg fun h => Bool.noConfusion (hstall.symm.trans h.1)

/-- Settles O17: the freeze, a check that passes and the claim after it, and a check that fails. -/
theorem regrowthFreezesAndChecks : Obligations.RegrowthFreezesAndChecks := by
  refine ⟨fun s tile hk => ⟨fun hstall hup => ?_, fun hstall => ?_⟩,
    fun s l cand r h hl hphase _ hcand hclaim => ⟨fun hpassed hslack => ?_, fun hpassed he hv => ?_⟩,
    fun s l cand r w h hl hphase _ hcand hpassed hclaim hslack htried hroom => ?_⟩
  · exact (onTile_next hk s _).trans (congrArg _ (State.freeze_stalled hstall hup))
  · exact (onTile_next hk s _).trans (congrArg _ (State.freeze_running hstall))
  · exact congrArg _ (State.slackDone_passes h hl hphase hcand hpassed hclaim hslack)
  · obtain ⟨htiles, hregs, hremap, x, hx, hlogical, hrest⟩ := State.takeSpare_free cand h he hv
    rw [State.claimSpares_single h hphase hcand hpassed hclaim]
    exact ⟨htiles, .of_regs_eq _ hregs, hremap, x, hx, hlogical.trans hl, hrest⟩
  · obtain ⟨x, hfailed, hslackFailed, htarget, hxtried, hdone⟩ := State.slackDone_fails h hl hphase hcand hpassed hclaim hslack
    refine .of_next (congrArg Host.Outcome.next hdone) ?_
    obtain ⟨y, hy, hyslack, hytarget, hends⟩ := State.claimNext_ends (s := { s with regrows := [x] }) (r := x) rfl (hfailed ▸ hroom)
    refine ⟨y, hy, hyslack.trans hslackFailed, hytarget.trans htarget, ?_⟩
    rw [hfailed] at hends
    refine hends.imp_left fun ⟨hcheck, ⟨c, hc, hnew⟩, hevents⟩ => ⟨hcheck, ⟨c, hc, ?_⟩, hevents⟩
    rintro rfl
    rw [hxtried, htried] at hnew
    exact Bool.noConfusion hnew

end Sys2Proof.Machine
end

section
/-! A regrowth's fill and commit: the row bus, the transplant and its digests, the clear, and the commit of the remap entry
(07_quarantine_and_regrowth.md R206, R209, R211, R212, R223). -/

namespace Sys2Proof.Machine

/-! ### A tile's SRAM as a fill carries it -/

theorem Tab.lt_of_wfFrom {α : Type} [DecidableEq α] {d : Nat → α} {t : Tab α} {b : Nat} (hw : Tab.wfFrom d (some b) t = true) :
    ∀ e ∈ t, b < e.1 := by
  induction t generalizing b with
  | nil => exact fun e he => absurd he (by simp)
  | cons x t ih =>
    obtain ⟨k, v⟩ := x
    simp only [Tab.wfFrom, Bool.and_eq_true, decide_eq_true_eq] at hw
    obtain ⟨⟨hb, -⟩, ht⟩ := hw
    exact List.forall_mem_cons.mpr ⟨hb, fun e he => hb.trans (ih ht e he)⟩

/-- What a table in canonical form lists is what it reads. -/
theorem Tab.get_of_mem {α : Type} [DecidableEq α] {d : Nat → α} {t : Tab α} (hw : Tab.wf d t = true) {k : Nat} {v : α} (h : (k, v) ∈ t) :
    Tab.get d t k = v := by
  induction t with
  | nil => cases h
  | cons x t ih =>
    obtain ⟨k', v'⟩ := x
    simp only [Tab.wf, Tab.wfFrom, Bool.and_eq_true, decide_eq_true_eq] at hw
    obtain ⟨-, ht⟩ := hw
    rcases List.mem_cons.mp h with heq | hmem
    · obtain ⟨rfl, rfl⟩ := Prod.mk.inj heq
      simp [Tab.get]
    · have hlt : k' < k := Tab.lt_of_wfFrom ht _ hmem
      rw [Tab.get, if_neg (by omega), if_neg (by omega)]
      exact ih (Tab.wfFrom_none d t k' ht) hmem

theorem State.mem_sramOf {s : State} {k : Nat} {e : Nat × Nat} (he : e ∈ s.sramOf k) : (768 * k + e.1, e.2) ∈ s.sram ∧ e.1 < 768 := by
  simp only [State.sramOf, List.mem_map, List.mem_filter, decide_eq_true_eq] at he
  obtain ⟨x, ⟨hx, hdiv⟩, rfl⟩ := he
  refine ⟨?_, Nat.mod_lt _ (by decide)⟩
  have hkey : 768 * k + x.1 % 768 = x.1 := by omega
  rw [hkey]
  exact hx

/-- The lines listed of a tile are the tile's. -/
theorem State.sramOf_line {s : State} (hw : Tab.wf (fun _ => 0) s.sram = true) {k : Nat} {e : Nat × Nat} (he : e ∈ s.sramOf k) :
    e.2 = s.sramLine k e.1 := by
  obtain ⟨hmem, hlt⟩ := State.mem_sramOf he
  rw [State.sramLine, if_pos hlt, Tab.get_of_mem hw hmem]

/-- A line that is not listed is zero. -/
theorem State.sramLine_unlisted {s : State} {k n : Nat} (h : ∀ e ∈ s.sramOf k, e.1 ≠ n) : s.sramLine k n = 0 := by
  by_cases hn : n < 768
  · rw [State.sramLine, if_pos hn]
    refine Tab.get_of_unlisted _ _ _ fun e he hk => ?_
    have hlisted : (e.1 % 768, e.2) ∈ s.sramOf k := by
      simp only [State.sramOf, List.mem_map, List.mem_filter, decide_eq_true_eq]
      exact ⟨e, ⟨he, by omega⟩, rfl⟩
    exact h _ hlisted (by simp only; omega)
  · exact State.sramLine_outside _ k n (by omega)

/-- Lines written in turn, each with the value that `g` gives its number. -/
theorem State.sramLine_foldl {g : Nat → Nat} (k : Nat) {n : Nat} (l : List (Nat × Nat)) (u : State)
    (hl : ∀ e ∈ l, e.1 < 768 ∧ e.2 % 2 ^ 1024 = g e.1) (hn : (∃ e ∈ l, e.1 = n) ∨ u.sramLine k n = g n) :
    (l.foldl (fun u e => u.setSram k e.1 e.2) u).sramLine k n = g n := by
  induction l generalizing u with
  | nil => exact hn.resolve_left fun ⟨e, he, _⟩ => by cases he
  | cons e l ih =>
    obtain ⟨⟨hlt, hval⟩, hrest⟩ := List.forall_mem_cons.mp hl
    refine ih (u.setSram k e.1 e.2) hrest ?_
    by_cases he : e.1 = n
    · subst he
      exact Or.inr ((u.sramLine_setSram k e.1 e.2 hlt).trans hval)
    · rcases hn with ⟨x, hx, hxn⟩ | hline
      · rcases List.mem_cons.mp hx with rfl | hx
        · exact absurd hxn he
        · exact Or.inl ⟨x, hx, hxn⟩
      · exact Or.inr ((u.sramLine_setSram_other k e.1 e.2 k n hlt (fun h => he (Prod.mk.inj h).2.symm)).trans hline)

/-- A tile filled with what another tile's SRAM lists holds the other's lines. -/
theorem State.sramLine_fillSram_sramOf {s : State} (hw : Tab.wf (fun _ => 0) s.sram = true) (tgt k n : Nat) :
    (s.fillSram tgt (s.sramOf k)).sramLine tgt n = s.sramLine k n % 2 ^ 1024 := by
  unfold State.fillSram
  refine State.sramLine_foldl (g := fun n => s.sramLine k n % 2 ^ 1024) tgt (s.sramOf k) _ (fun e he => ?_) ?_
  · exact ⟨(State.mem_sramOf he).2, by rw [State.sramOf_line hw he]⟩
  · by_cases h : ∃ e ∈ s.sramOf k, e.1 = n
    · exact Or.inl h
    · push Not at h
      rw [State.sramLine_unlisted h, Nat.zero_mod]
      exact Or.inr (s.sramLine_clearSram tgt n)

theorem State.fillSram_frame (s : State) (k : Nat) (l : List (Nat × Nat)) :
    s.fillSram k l = { s with sram := (s.fillSram k l).sram, sealed := (s.fillSram k l).sealed } := by
  unfold State.fillSram
  rw [State.foldl_setSram_eq]

/-! ### The row bus, and the transplant's end (R206, R209) -/

/-- The SRAM lines among beats. -/
def sramBeats (b : List (Nat × Nat)) : List (Nat × Nat) :=
  (b.filter (fun e => decide (ctxLines ≤ e.1 ∧ e.1 < allLines))).map (fun e => (e.1 - ctxLines, e.2))

/-- Beats of which none changed bring the source's lines. -/
theorem State.sramBeats_unchanged (s : State) (k : Nat) (sent : List (Fin 792 × BitVec 1024)) :
    sramBeats (beatsArrived (s.beatsSent k sent) []) = s.sramOf k := by
  have harrived : ∀ l, beatsArrived l [] = l := fun l => by simp [beatsArrived]
  have hcontext : (((sent.filter (fun e => decide (e.1.val < ctxLines ∨ allLines ≤ e.1.val))).map (fun e => (e.1.val, e.2.toNat))).filter
      (fun e : Nat × Nat => decide (ctxLines ≤ e.1 ∧ e.1 < allLines))) = [] := by
    simp only [List.filter_eq_nil_iff, List.mem_map, List.mem_filter, decide_eq_true_eq]
    rintro e ⟨x, ⟨-, hx⟩, rfl⟩
    simp only
    omega
  have hsram : ((s.sramOf k).map (fun e => (ctxLines + e.1, e.2))).filter (fun e : Nat × Nat => decide (ctxLines ≤ e.1 ∧ e.1 < allLines)) =
      (s.sramOf k).map (fun e => (ctxLines + e.1, e.2)) := by
    simp only [List.filter_eq_self, List.mem_map, decide_eq_true_eq]
    rintro e ⟨x, hx, rfl⟩
    have hlt := (State.mem_sramOf hx).2
    simp only [ctxLines, allLines]
    omega
  rw [harrived, sramBeats, State.beatsSent, List.filter_append, hcontext, List.nil_append, hsram]
  simp [Function.comp_def]

section
variable {s : State} {l tgt : Nat} {r : Regrowth} (h : s.regrows = [r]) (hl : r.logical = l) (hphase : r.phase = rgFill)
  (htarget : r.target = some tgt)
include h hl hphase htarget

theorem State.transplantStart_asks (hrot : r.rot = 0) (hcause : copyCause r.cause = false) (hidle : r.filling = false)
    (hfrozen : (s.tile r.failed).frozen = true) (hready : s.claimReady tgt = true) :
    s.transplantStart l = { s with regrows := [{ r with asked := true }] } := by
  have hfill : s.fillReady r = true := by rw [State.fillReady, if_pos hrot, htarget]; exact hready
  unfold State.transplantStart
  rw [State.regrowAt_single h hl (by simp [hphase])]
  dsimp only
  rw [if_neg (by simp [hcause]), if_pos ⟨hidle, hfrozen, hfill⟩]
  exact State.setRegrow_single h rfl rfl

omit hl in
theorem State.fillGranted_runs (hasked : r.asked = true) : s.fillGranted r.failed = { s with
    regrows := [{ r with filling := true, asked := false, fillAt := s.now }], out := .fill r.failed tgt r.save :: s.out } := by
  have hfind : s.regrows.find? (fun x => decide (x.failed = r.failed ∧ x.phase = rgFill) && x.asked) = some r := by
    rw [h]
    exact List.find?_cons_of_pos (by simp [hphase, hasked])
  unfold State.fillGranted
  rw [hfind]
  dsimp only
  rw [State.setRegrow_single (x := { r with filling := true, asked := false, fillAt := s.now }) h rfl rfl, htarget]
  rfl

end

/-- The state in which a transplant's end is judged: the beats stand in the target. -/
def State.beatsLanded (s : State) (tgt k : Nat) (sent changed : List (Fin 792 × BitVec 1024)) : State :=
  s.fillSram tgt (sramBeats (beatsArrived (s.beatsSent k sent) changed))

/-- Digests that agree (R206). -/
abbrev State.beatsAgree (s : State) (k : Nat) (sent changed : List (Fin 792 × BitVec 1024)) : Prop :=
  beatDigest (s.rf .kprTapSeedActiveSeed 0) (s.beatsSent k sent) =
    beatDigest (s.rf .kprTapSeedActiveSeed 0) (beatsArrived (s.beatsSent k sent) changed)

/-- From one timed phase to another the account of the timeout stands (R209). -/
theorem Regrowth.toPhase_timed {r : Regrowth} {p : Nat} (now : Nat) (hr : timedPhase r.phase = true) (hp : timedPhase p = true) :
    r.toPhase now p = { r with phase := p } := (if_pos hr).trans (if_pos hp)

theorem State.beatsLanded_frame (s : State) (tgt k : Nat) (sent changed : List (Fin 792 × BitVec 1024)) :
    ∃ sram sealed, s.beatsLanded tgt k sent changed = { s with sram := sram, sealed := sealed } := ⟨_, _, s.fillSram_frame _ _⟩

theorem State.beatsLanded_unchanged {s : State} (hw : Tab.wf (fun _ => 0) s.sram = true) (tgt k n : Nat)
    (sent : List (Fin 792 × BitVec 1024)) : (s.beatsLanded tgt k sent []).sramLine tgt n = s.sramLine k n % 2 ^ 1024 := by
  rw [State.beatsLanded, State.sramBeats_unchanged]
  exact State.sramLine_fillSram_sramOf hw tgt k n

section
variable {s : State} {l tgt : Nat} {r : Regrowth} (h : s.regrows = [r]) (hl : r.logical = l) (hphase : r.phase = rgFill)
  (htarget : r.target = some tgt) (hfilling : r.filling = true)
include h hl hphase htarget hfilling

/-- The three ends of a transplant. -/
theorem State.transplantVerified_ends (hcycles : 900 ≤ (s.now + 1 - r.fillAt) * s.clock) (sent changed : List (Fin 792 × BitVec 1024)) :
    let u := s.beatsLanded tgt r.failed sent changed
    s.transplantVerified l sent changed =
      if s.beatsAgree r.failed sent changed then { u with regrows := [{ r with phase := rgCommit, filling := false }] }
      else if r.retried = false then { u with regrows := [{ r with retried := true, fillAt := s.now }] }
      else State.sample { u with regrows := [{ r with filling := false }] } 10 (locStation (tileField tgt)) [.detect (tileKey tgt) 0x024 2] := by
  have hlanded : (s.beatsLanded tgt r.failed sent changed).regrows = [r] := by
    obtain ⟨_, _, hframe⟩ := s.beatsLanded_frame tgt r.failed sent changed
    rw [hframe]
    exact h
  unfold State.transplantVerified
  rw [State.regrowAt_single h hl (by simp [hphase])]
  dsimp only
  rw [if_pos ⟨hfilling, State.cyclesPassed_eq_true hcycles⟩, show r.target.getD 0 = tgt by rw [htarget]; rfl,
    Regrowth.toPhase_timed s.now (by rw [hphase]; rfl) rfl]
  refine if_congr Iff.rfl ?_ (if_congr Iff.rfl ?_ ?_)
  · exact State.setRegrow_single (x := { r with phase := rgCommit, filling := false }) hlanded rfl rfl
  · exact State.setRegrow_single (x := { r with retried := true, fillAt := s.now }) hlanded rfl rfl
  · split
    · next t ht =>
      obtain rfl := Option.some.inj (htarget.symm.trans ht)
      exact congrArg (fun t => State.sample t 10 (locStation (tileField tgt)) [.detect (tileKey tgt) 0x024 2])
        (State.setRegrow_single (x := { r with filling := false }) hlanded rfl rfl)
    · next ht => exact absurd (htarget.symm.trans ht) (Option.some_ne_none _)

/-- A word that cannot be read: the tadpole is cleared, and the commit to come is that of a copy (R206). -/
theorem State.transplantUe_turns (hrot : r.rot = 0) : s.transplantUe l = { s.clearSram tgt with
    regrows := [{ r with phase := rgCommit, filling := false, copyFill := true, clearFrom := some s.now }] } := by
  unfold State.transplantUe
  rw [State.regrowAt_single h hl (by simp [hphase])]
  dsimp only
  rw [if_neg (by simp [hfilling]), if_pos hrot, show r.target.getD 0 = tgt by rw [htarget]; rfl, Regrowth.toPhase_timed s.now (by rw [hphase]; rfl) rfl]
  exact State.setRegrow_single (s := s.clearSram tgt)
    (x := { r with phase := rgCommit, filling := false, copyFill := true, clearFrom := some s.now }) h rfl rfl

end

end Sys2Proof.Machine
end

section
/-! Advances of the configuration epoch and commits of regrowths (07_quarantine_and_regrowth.md R209, R211, R212, R223). -/

namespace Sys2Proof.Machine

/-! ### An advance of the epoch (R212) -/

/-- An advance that meets no episode: the next epoch, draining from now, and nothing else. -/
theorem State.advanceEpoch_quiet {s t : State} {program : Bool} (he : s.episodes = []) (ht : s.advanceEpoch program = t) :
    t = { s with regs := t.regs, ending := t.ending, epochFn := t.epochFn } ∧
      SameRegs s t [(.kprEpochCurrent, 0), (.kprEpochDraining, 0)] ∧
      t.rf .kprEpochCurrent 0 = (s.rf .kprEpochCurrent 0 + 1) % 4 ∧ t.rf .kprEpochDraining 0 = 1 ∧
      t.epochFn = { s.epochFn with drainAt := s.now, drainWtc := s.wtc, program := program, batch := 0, discards := [] } := by
  obtain ⟨l, hstop⟩ := s.stopWhere_none (fun e => decide (1 ≤ e.phase) && s.inEpWindow e) 2 3 he
  unfold State.advanceEpoch at ht
  rw [hstop] at ht
  dsimp only at ht
  rw [show (State.rf { s with ending := l } .kprEpochCurrent 0) = s.rf .kprEpochCurrent 0 from rfl] at ht
  have hlt : (s.rf .kprEpochCurrent 0 + 1) % 4 < 2 ^ RF.kprEpochCurrent.spec.width := Nat.mod_lt _ (by decide)
  generalize (s.rf .kprEpochCurrent 0 + 1) % 4 = e at ht hlt ⊢
  subst ht
  refine ⟨rfl, ?_, ?_, ?_, rfl⟩
  · exact ((SameRegs.of_regs_eq _ rfl).trans (State.sameRegs_puts (l := [(.kprEpochCurrent, 0), (.kprEpochDraining, 0)])
      [(.kprEpochCurrent, 0, e), (.kprEpochDraining, 0, 1)] { s with ending := l } (by simp))).trans (.of_regs_eq _ rfl)
  · exact (State.rf_puts_same (F := .kprEpochCurrent) (v := e) [(.kprEpochCurrent, 0, e), (.kprEpochDraining, 0, 1)] { s with ending := l }
      (by simp) (by simp)).trans (Nat.mod_eq_of_lt hlt)
  · exact State.rf_puts_same (F := .kprEpochDraining) (v := 1) [(.kprEpochCurrent, 0, e), (.kprEpochDraining, 0, 1)] { s with ending := l }
      (by simp) (by simp)

theorem State.draining_eq_false {s : State} (h : s.rf .kprEpochDraining 0 = 0) : s.draining = false := decide_eq_false (by omega)

theorem State.draining_eq_true {s : State} (h : s.rf .kprEpochDraining 0 = 1) : s.draining = true := decide_eq_true h

/-! ### The map (R223) -/

/-- A table whose listed values are mapped, where nothing maps to nothing. -/
theorem Tab.get_map_none {α β : Type} (g : Nat → Option α → Option β) (hg : ∀ k, g k none = none) (t : Tab (Option α)) (k : Nat) :
    Tab.get (fun _ => none) (t.map (fun x => (x.1, g x.1 x.2))) k = g k (Tab.get (fun _ => none) t k) := by
  induction t with
  | nil => exact (hg k).symm
  | cons x t ih =>
    obtain ⟨k', v⟩ := x
    rw [List.map_cons, Tab.get, Tab.get, ih]
    split
    · exact (hg k).symm
    · split
      · next hk => rw [hk]
      · rfl

theorem State.remapIndex_lt (s : State) (f l : Nat) : s.remapIndex f l < 1024 := by
  unfold State.remapIndex
  split
  · next e he =>
    have hmem := List.mem_of_find?_eq_some he
    simp only [State.remaps, List.mem_filterMap] at hmem
    obtain ⟨x, -, hx⟩ := hmem
    split at hx
    · obtain ⟨m, -, rfl⟩ := Option.map_eq_some_iff.mp hx
      exact Nat.mod_lt _ (by decide)
    · cases hx
  · cases hfind : (List.range 1024).find? (fun i => (Tab.get (fun _ => none) s.remap (1024 * f + i)).isNone) with
    | none => simp
    | some i => exact List.mem_range.mp (List.mem_of_find?_eq_some hfind)

/-- What joining a batch makes of an entry of the map: the regrowth's own takes the epoch (R212). -/
def joinEntry (f l e k : Nat) (v : Option Remap) : Option Remap :=
  if k / 1024 = f then v.map (fun m => if m.logical = l then { m with epoch := e } else m) else v

theorem State.joinBatch_remap (s : State) (r : Regrowth) (k : Nat) :
    Tab.get (fun _ => none) (s.joinBatch r).remap k =
      joinEntry (tileField r.failed) r.logical (s.rf .kprEpochCurrent 0) k (Tab.get (fun _ => none) s.remap k) := by
  have hmap : (s.joinBatch r).remap =
      s.remap.map (fun x => (x.1, joinEntry (tileField r.failed) r.logical (s.rf .kprEpochCurrent 0) x.1 x.2)) := by
    refine List.map_congr_left fun x _ => ?_
    unfold joinEntry
    split <;> rfl
  rw [hmap]
  refine Tab.get_map_none (joinEntry (tileField r.failed) r.logical (s.rf .kprEpochCurrent 0)) (fun k => ?_) s.remap k
  unfold joinEntry
  split <;> rfl

/-- The one regrowth joins the batch: the batch counts it, and the map moves. -/
theorem State.joinBatch_single {s : State} {r : Regrowth} (h : s.regrows = [r]) :
    s.joinBatch r = { s with
      regrows := [{ r with inBatch := true, epoch := s.rf .kprEpochCurrent 0 }]
      epochFn := { s.epochFn with batch := s.epochFn.batch + 1 }
      remap := (s.joinBatch r).remap } := by
  have hset := State.setRegrow_single (x := { r with inBatch := true, epoch := s.rf .kprEpochCurrent 0 }) h rfl rfl
  unfold State.joinBatch
  dsimp only
  rw [hset]

/-! ### A commit (R209, R223) -/

theorem State.reserveLost_frame (s : State) : ∃ sec out, s.reserveLost = { s with sec := sec, out := out } := by
  unfold State.reserveLost
  split
  · split <;> exact ⟨_, _, rfl⟩
  · exact ⟨_, _, rfl⟩

/-- The entry that a commit writes: its logical tile at the target's column. -/
theorem State.writeRemap_entry {s : State} {r : Regrowth} {tgt : Nat} (hrot : r.rot = 0) (htarget : r.target = some tgt) :
    ∃ i, i < 1024 ∧ s.writeRemap r = { s with remap := (s.writeRemap r).remap } ∧
      Tab.get (fun _ => none) (s.writeRemap r).remap (1024 * tileField r.failed + i) =
        some ⟨r.logical, tileCol tgt, 1, true, r.copyFill, s.rf .kprEpochCurrent 0⟩ := by
  have heq : s.writeRemap r = s.setRemap (tileField r.failed) (s.remapIndex (tileField r.failed) r.logical)
      (some ⟨r.logical, tileCol tgt, 1, true, r.copyFill, s.rf .kprEpochCurrent 0⟩) := by
    unfold State.writeRemap
    dsimp only
    rw [if_neg (by simp [hrot]), if_neg (by simp [hrot]), htarget]
    rfl
  refine ⟨s.remapIndex (tileField r.failed) r.logical, s.remapIndex_lt _ _, ?_, ?_⟩
  · rw [heq]
    rfl
  · rw [heq]
    exact Tab.get_set_same _ _ _ _

/-- The state before the advance of a commit: a copy's reserve data is told as lost, and the regrowth is in DRAIN. -/
def State.commitDrains (s : State) (x : Regrowth) : State :=
  { (if x.copyFill then s.reserveLost else s) with regrows := [x] }

section
variable {s : State} {l tgt : Nat} {r : Regrowth} (h : s.regrows = [r]) (hl : r.logical = l) (hphase : r.phase = rgCommit)
  (hclear : r.clearFrom = none) (hsteady : s.rf .kprEpochDraining 0 = 0)
include h hl hphase hclear hsteady

/-- A commit with the epoch STEADY: the entry, the advance, the batch, the redirect state. -/
theorem State.regrowCommit_steady : s.regrowCommit l =
    (((((s.commitDrains { r with phase := rgDrain, clearFrom := none }).writeRemap { r with phase := rgDrain, clearFrom := none }).advanceEpoch
      false).joinBatch { r with phase := rgDrain, clearFrom := none })).loadRedirect := by
  have hnone : s.regrowAt l [rgFill] = none := by
    rw [State.regrowAt, h]
    simp [hphase, rgCommit, rgFill]
  unfold State.regrowCommit
  rw [hnone]
  dsimp only
  rw [State.regrowAt_single h hl (by simp [hphase])]
  dsimp only
  rw [if_pos (by rw [hclear]; rfl), Regrowth.toPhase_timed s.now (by rw [hphase]; rfl) rfl, if_pos (State.draining_eq_false hsteady)]
  dsimp only
  have hlost : (if r.copyFill = true then s.reserveLost else s).regrows = [r] := by
    split
    · obtain ⟨_, _, hframe⟩ := s.reserveLost_frame
      rw [hframe]
      exact h
    · exact h
  rw [State.setRegrow_single (x := { r with phase := rgDrain, clearFrom := none }) hlost rfl rfl]
  rfl

end

theorem State.commitDrains_frame (s : State) (x : Regrowth) : ∃ sec out, s.commitDrains x = { s with sec := sec, out := out, regrows := [x] } := by
  unfold State.commitDrains
  split
  · obtain ⟨sec, out, hframe⟩ := s.reserveLost_frame
    rw [hframe]
    exact ⟨sec, out, rfl⟩
  · exact ⟨_, _, rfl⟩

theorem joinEntry_own {f l e i : Nat} {m : Remap} (hi : i < 1024) (hm : m.logical = l) :
    joinEntry f l e (1024 * f + i) (some m) = some { m with epoch := e } := by
  rw [joinEntry, if_pos (by omega), Option.map_some, if_pos hm]

/-- R209, R211, R212, R223: a commit that finds the epoch STEADY. -/
theorem regrowthCommit_rows {s : State} {l tgt : Nat} {r : Regrowth} (h : s.regrows = [r]) (hl : r.logical = l) (hphase : r.phase = rgCommit)
    (hrot : r.rot = 0) (htarget : r.target = some tgt) (hclear : r.clearFrom = none) (hsteady : s.rf .kprEpochDraining 0 = 0)
    (he : s.episodes = []) :
    Completes (exec (.regrowthCommit l) s) (fun t => SameRegs s t [(.kprEpochCurrent, 0), (.kprEpochDraining, 0)] ∧
      t.rf .kprEpochCurrent 0 = (s.rf .kprEpochCurrent 0 + 1) % 4 ∧ t.rf .kprEpochDraining 0 = 1 ∧ t.epochFn.batch = 1 ∧
      t.epochFn.drainAt = s.now ∧ t.epochFn.program = false ∧ t.tiles = s.tiles ∧
      (∃ x, t.regrows = [x] ∧ x.phase = rgDrain ∧ x.inBatch = true ∧ x.target = some tgt) ∧
      t.redirect = t.remap ∧ (∃ i, Tab.get (fun _ => none) t.remap (1024 * tileField r.failed + i) =
        some ⟨l, tileCol tgt, 1, true, r.copyFill, (s.rf .kprEpochCurrent 0 + 1) % 4⟩)) := by
  refine .of_next (congrArg Host.Outcome.next (State.regrowCommit_steady h hl hphase hclear hsteady)) ?_
  generalize hx : ({ r with phase := rgDrain, clearFrom := none } : Regrowth) = x
  have hxrot : x.rot = 0 := hx ▸ hrot
  have hxtarget : x.target = some tgt := hx ▸ htarget
  have hxphase : x.phase = rgDrain := hx ▸ rfl
  have hxlogical : x.logical = l := hx ▸ hl
  have hxfailed : x.failed = r.failed := hx ▸ rfl
  have hxcopy : x.copyFill = r.copyFill := hx ▸ rfl
  clear hx
  obtain ⟨sec, out, hdrains⟩ := s.commitDrains_frame x
  rw [hdrains]
  obtain ⟨i, hi, hwrite, hentry⟩ := State.writeRemap_entry (s := { s with sec := sec, out := out, regrows := [x] }) hxrot hxtarget
  generalize State.writeRemap { s with sec := sec, out := out, regrows := [x] } x = u1 at hwrite hentry ⊢
  generalize hu2 : u1.advanceEpoch false = u2
  obtain ⟨hadvance, hregs, hcurrent, hdraining, hfn⟩ := State.advanceEpoch_quiet (by rw [hwrite]; exact he) hu2
  have hone : u2.regrows = [x] := by rw [hadvance, hwrite]
  have hjoin := State.joinBatch_single hone
  have hmap := u2.joinBatch_remap x (1024 * tileField r.failed + i)
  generalize u2.joinBatch x = u3 at hjoin hmap ⊢
  have hregs1 : SameRegs s u1 [] := .of_regs_eq _ (by rw [hwrite])
  have hregs3 : SameRegs u2 u3.loadRedirect [] := .of_regs_eq _ ((show u3.loadRedirect.regs = u3.regs from rfl).trans (by rw [hjoin]))
  have hcur : u1.rf .kprEpochCurrent 0 = s.rf .kprEpochCurrent 0 := hregs1 _ _ (by simp)
  have hu2remap : u2.remap = u1.remap := by rw [hadvance]
  have hfn3 : u3.loadRedirect.epochFn = { u2.epochFn with batch := u2.epochFn.batch + 1 } :=
    (show u3.loadRedirect.epochFn = u3.epochFn from rfl).trans (by rw [hjoin])
  refine ⟨?_, ?_, ?_, ?_, ?_, ?_, ?_, ⟨{ x with inBatch := true, epoch := u2.rf .kprEpochCurrent 0 }, ?_, hxphase, rfl, hxtarget⟩, rfl, i, ?_⟩
  · exact ((hregs1.mono (by simp)).trans hregs).trans (hregs3.mono (by simp))
  · rw [hregs3 _ _ (by simp), hcurrent, hcur]
  · rw [hregs3 _ _ (by simp), hdraining]
  · rw [hfn3, hfn]
  · rw [hfn3, hfn, hwrite]
  · rw [hfn3, hfn]
  · refine (show u3.loadRedirect.tiles = u3.tiles from rfl).trans ?_
    rw [hjoin, hadvance, hwrite]
  · exact (show u3.loadRedirect.regrows = u3.regrows from rfl).trans (by rw [hjoin])
  · refine hmap.trans ?_
    rw [hu2remap, ← hxfailed, hentry]
    refine (joinEntry_own hi rfl).trans ?_
    rw [hcurrent, hcur, hxlogical, hxcopy]

/-! ### The obligation -/

section
variable {s : State} {l tgt : Nat} {r : Regrowth} (sent changed : List (Fin 792 × BitVec 1024)) (h : s.regrows = [r]) (hl : r.logical = l)
  (hphase : r.phase = rgFill) (htarget : r.target = some tgt) (hfilling : r.filling = true) (hcycles : 900 ≤ (s.now + 1 - r.fillAt) * s.clock)
include h hl hphase htarget hfilling hcycles

theorem transplantVerified_agrees (hagree : s.beatsAgree r.failed sent changed) :
    Completes (exec (.transplantVerified l ⟨sent, changed⟩) s) (fun t => t.regrows = [{ r with phase := rgCommit, filling := false }] ∧
      t.events = s.events ∧ SameRegs s t [] ∧ (changed = [] → Tab.wf (fun _ => 0) s.sram = true → ∀ n, n < 768 →
        t.sramLine tgt n = s.sramLine r.failed n % 2 ^ 1024)) := by
  have hend := State.transplantVerified_ends h hl hphase htarget hfilling hcycles sent changed
  dsimp only at hend
  rw [if_pos hagree] at hend
  refine .of_next (congrArg Host.Outcome.next hend) ⟨rfl, ?_, ?_, fun hnone hw n _ => ?_⟩
  · obtain ⟨_, _, hframe⟩ := s.beatsLanded_frame tgt r.failed sent changed
    rw [hframe]
  · obtain ⟨_, _, hframe⟩ := s.beatsLanded_frame tgt r.failed sent changed
    rw [hframe]
    exact .of_regs_eq _ rfl
  · subst hnone
    exact State.beatsLanded_unchanged hw tgt r.failed n sent

theorem transplantVerified_differs (hdiffer : ¬ s.beatsAgree r.failed sent changed) (hfirst : r.retried = false) :
    Completes (exec (.transplantVerified l ⟨sent, changed⟩) s) (fun t => t.regrows = [{ r with retried := true, fillAt := s.now }] ∧
      t.events = s.events) := by
  have hend := State.transplantVerified_ends h hl hphase htarget hfilling hcycles sent changed
  dsimp only at hend
  rw [if_neg hdiffer, if_pos hfirst] at hend
  refine .of_next (congrArg Host.Outcome.next hend) ⟨rfl, ?_⟩
  obtain ⟨_, _, hframe⟩ := s.beatsLanded_frame tgt r.failed sent changed
  rw [hframe]

theorem transplantVerified_fails (hdiffer : ¬ s.beatsAgree r.failed sent changed) (hagain : r.retried = true)
    (hroom : s.sliceDepth (tileField tgt) < 511) :
    Completes (exec (.transplantVerified l ⟨sent, changed⟩) s) (fun t => t.regrows = [{ r with filling := false }] ∧
      Raised s t 10 (locStation (tileField tgt)) [.detect ⟨1, tgt, 0⟩ 0x024 2]) := by
  have hend := State.transplantVerified_ends h hl hphase htarget hfilling hcycles sent changed
  dsimp only at hend
  obtain ⟨sram, sealed, hframe⟩ := s.beatsLanded_frame tgt r.failed sent changed
  rw [if_neg hdiffer, if_neg (by simp [hagain]), hframe] at hend
  have hraised := State.sample_raised (s := s) (u := { s with sram := sram, sealed := sealed, regrows := [{ r with filling := false }] }) rfl rfl hroom
    10 [.detect (tileKey tgt) 0x024 2]
  exact .of_next (congrArg Host.Outcome.next (hend.trans hraised)) ⟨rfl, rfl⟩

end

/-- Settles O18: the clauses on a transplant, and the commit. -/
theorem regrowthTransplantsAndCommits : Obligations.RegrowthTransplantsAndCommits := by
  refine ⟨fun s l tgt r sent changed h hl hphase hrot htarget hcause => ⟨fun hidle hfrozen hready => ?_, fun hasked => ?_,
      fun hfilling hcycles => transplantVerified_agrees sent changed h hl hphase htarget hfilling hcycles,
      fun hfilling hcycles => transplantVerified_differs sent changed h hl hphase htarget hfilling hcycles,
      fun hfilling hcycles => transplantVerified_fails sent changed h hl hphase htarget hfilling hcycles, fun hfilling => ?_⟩,
    fun s l tgt r h hl hphase hrot htarget hclear hsteady he => regrowthCommit_rows h hl hphase hrot htarget hclear hsteady he⟩
  · exact congrArg Host.Outcome.next (State.transplantStart_asks h hl hphase htarget hrot hcause hidle hfrozen hready)
  · exact State.fillGranted_runs h hphase htarget hasked
  · exact .of_next (congrArg Host.Outcome.next (State.transplantUe_turns h hl hphase htarget hfilling hrot))
      ⟨fun n _ => s.sramLine_clearSram tgt n, .of_regs_eq _ rfl, rfl⟩

end Sys2Proof.Machine
end

section
/-! Drains of the configuration epoch and the regrowths that end with them (07_quarantine_and_regrowth.md R209, R212 to R215, R222). -/

namespace Sys2Proof.Machine

/-! ### The end of a drain (R212, R215) -/

/-- A Warden's held flits enter the mesh. -/
def State.releaseAt (t : State) (k : Nat) : State :=
  { t.setWarden k { t.warden k with heldFlits := [] } with
    out := ((t.warden k).heldFlits.map (fun x => Out.flit k (t.rf .kprEpochCurrent 0) x.1 x.2.1 x.2.2)).reverse ++ t.out }

theorem State.releaseAt_frame (l : List Nat) (s : State) : ∃ wardens out, l.foldl State.releaseAt s = { s with wardens := wardens, out := out } := by
  induction l generalizing s with
  | nil => exact ⟨_, _, rfl⟩
  | cons k l ih =>
    obtain ⟨wardens, out, h⟩ := ih (s.releaseAt k)
    exact ⟨wardens, out, h⟩

theorem State.releaseFlits_frame (s : State) : ∃ wardens out, s.releaseFlits = { s with wardens := wardens, out := out } :=
  State.releaseAt_frame (List.range 16) s

/-- The epoch function STEADY again: the drain counted, and the flits that were held let in. -/
def State.drainOver (s : State) : State :=
  State.releaseFlits { s.put .kprEpochDraining 0 0 with epochFn := { s.epochFn with drains := s.epochFn.drains + 1, discards := [] } }

theorem State.drainOver_leaves {s t : State} (ht : s.drainOver = t) :
    t = { s with
      regs := t.regs, wardens := t.wardens, out := t.out
      epochFn := { s.epochFn with drains := s.epochFn.drains + 1, discards := [] } } ∧
      SameRegs s t [(.kprEpochDraining, 0)] ∧ t.rf .kprEpochDraining 0 = 0 := by
  obtain ⟨wardens, out, hframe⟩ := State.releaseFlits_frame
    { s.put .kprEpochDraining 0 0 with epochFn := { s.epochFn with drains := s.epochFn.drains + 1, discards := [] } }
  rw [State.drainOver, hframe] at ht
  subst ht
  exact ⟨rfl, s.sameRegs_put 0 (by simp), s.rf_put_same .kprEpochDraining 0 0⟩

/-- The regrowths of the batch end with the drain (R209, R214). -/
def State.batchEnds (s : State) (discarded : Bool) : State :=
  ((s.regrows.filter (fun r => decide (r.phase = rgDrain) && r.inBatch)).foldl (fun t r => t.regrowDrainEnd discarded r) s).noSource

theorem State.batchEnds_none {s : State} (h : s.regrows = []) (discarded : Bool) : s.batchEnds discarded = s := by
  rw [State.batchEnds, h, List.filter_nil, List.foldl_nil, State.noSource_no_regrows s h]

/-- A drain for commits ends: reports of what was discarded, STEADY, the batch. -/
theorem State.drainEnd_commits {s s1 : State} {l : List LeftFlits}
    (hs1 : State.drainReports ((sortBy leftKey l).length + 1) s (sortBy leftKey l) 0 (sumCounts (sortBy leftKey l)) (sortBy leftKey l).length = s1)
    (hprogram : s1.epochFn.program = false) : s.drainEnd l = s1.drainOver.batchEnds (decide (0 < sumCounts (sortBy leftKey l))) := by
  have hover : s1.drainOver.epochFn.program = false := by
    generalize hu : s1.drainOver = u
    obtain ⟨hframe, -⟩ := State.drainOver_leaves hu
    rw [hframe]
    exact hprogram
  have hcommits : ¬ s1.drainOver.epochFn.program = true := by simp [hover]
  unfold State.drainEnd
  dsimp only
  rw [hs1]
  exact if_neg hcommits

theorem State.drainEnd_empty {s : State} (hprogram : s.epochFn.program = false) : s.drainEnd [] = s.drainOver.batchEnds false :=
  State.drainEnd_commits (l := []) rfl hprogram

/-- One queue left: one report of one entry. -/
theorem State.drainEnd_one {s : State} (x : LeftFlits) (hprogram : s.epochFn.program = false) :
    ∃ b, s.drainEnd [x] =
      State.batchEnds (State.drainOver { s with events := s.events ++ [⟨10, 0, s.now, [.post 6 32 0 48 b false]⟩] }) (decide (0 < sumCounts [x])) :=
  ⟨_, State.drainEnd_commits (l := [x]) (s1 := { s with events := s.events ++ [⟨10, 0, s.now, [.post 6 32 0 48 _ false]⟩] }) rfl hprogram⟩

section
variable {s : State} (hdraining : s.rf .kprEpochDraining 0 = 1) (hnone : s.regrows = []) (hprogram : s.epochFn.program = false)
include hdraining hnone hprogram

theorem epochDrainDone_counts (hleft : s.epochFn.discards = []) :
    Completes (exec .epochDrainDone s) (fun t => SameRegs s t [(.kprEpochDraining, 0)] ∧
      t.rf .kprEpochDraining 0 = 0 ∧ t.epochFn.drains = s.epochFn.drains + 1 ∧ t.events = s.events) := by
  have hend : (if s.draining then s.drainEnd s.epochFn.discards else s) = s.drainOver := by
    rw [if_pos (State.draining_eq_true hdraining), hleft, State.drainEnd_empty hprogram]
    refine State.batchEnds_none ?_ _
    generalize hu : s.drainOver = u
    obtain ⟨hframe, -⟩ := State.drainOver_leaves hu
    rw [hframe]
    exact hnone
  refine .of_next (congrArg Host.Outcome.next hend) ?_
  generalize hu : s.drainOver = u
  obtain ⟨hframe, hregs, hsteady⟩ := State.drainOver_leaves hu
  exact ⟨hregs, hsteady, by rw [hframe], by rw [hframe]⟩

theorem drainDeadline_counts {q : QueueId} {h : BitVec 64} (hdue : s.epochFn.drainAt + clamp 10 1000 (s.rf .kprRegrowCtrlDrainUs 0) ≤ s.now)
    (hleft : s.epochFn.discards = []) (hroom : s.rf .kprDrainDiscardsDiscards 0 + 1 < 2 ^ RF.kprDrainDiscardsDiscards.spec.width) :
    Completes (exec (.drainDeadline [⟨q, 1, h⟩]) s) (fun t => t.rf .kprEpochDraining 0 = 0 ∧
      t.rf .kprDrainDiscardsDiscards 0 = s.rf .kprDrainDiscardsDiscards 0 + 1 ∧ ∃ b, Raised s t 10 0 [.post 6 32 0 48 b false]) := by
  have hcount : s.countDiscards (sumCounts [⟨q, 1, h⟩]) = s.put .kprDrainDiscardsDiscards 0 (s.rf .kprDrainDiscardsDiscards 0 + 1) :=
    State.bump_eq_put _ _ _ hroom
  obtain ⟨⟨hcframe, -⟩, hcounted⟩ := s.put_sets .kprDrainDiscardsDiscards 0 hroom
  generalize hc : s.put .kprDrainDiscardsDiscards 0 (s.rf .kprDrainDiscardsDiscards 0 + 1) = c at hcount hcframe hcounted
  obtain ⟨b, hend⟩ := State.drainEnd_one (s := c) ⟨q, 1, h⟩ (by rw [hcframe]; exact hprogram)
  have hover : ∀ u, State.drainOver { c with events := c.events ++ [⟨10, 0, c.now, [.post 6 32 0 48 b false]⟩] } = u →
      u.regrows = [] ∧ u.rf .kprEpochDraining 0 = 0 ∧ u.rf .kprDrainDiscardsDiscards 0 = s.rf .kprDrainDiscardsDiscards 0 + 1 ∧
        Raised s u 10 0 [.post 6 32 0 48 b false] := by
    intro u hu
    obtain ⟨hframe, hregs, hsteady⟩ := State.drainOver_leaves hu
    refine ⟨?_, hsteady, (hregs _ _ (by simp)).trans hcounted, ?_⟩
    · rw [hframe, hcframe]
      exact hnone
    · rw [Raised, hframe, hcframe]
  refine .of_next (t := State.drainOver { c with events := c.events ++ [⟨10, 0, c.now, [.post 6 32 0 48 b false]⟩] })
    (congrArg Host.Outcome.next ?_) ?_
  · refine (if_pos ⟨State.draining_eq_true hdraining, hdue⟩).trans ?_
    rw [hcount, hleft]
    refine hend.trans (State.batchEnds_none ?_ _)
    obtain ⟨hregrows, -⟩ := hover _ rfl
    exact hregrows
  · obtain ⟨-, hsteady, hcounts, hraised⟩ := hover _ rfl
    exact ⟨hsteady, hcounts, b, hraised⟩

end

/-! ### STEADY (R212) -/

theorem epochPendingAdvance_begins {s : State} (hsteady : s.rf .kprEpochDraining 0 = 0) (hprogram : s.rf .kprEpochProgramPending 0 = 0)
    (hpending : s.rf .kprEpochPending 0 = 1) (he : s.episodes = []) (hnone : s.regrows = []) :
    Completes (exec .epochPendingAdvance s) (fun t => SameRegs s t [(.kprEpochPending, 0), (.kprEpochCurrent, 0), (.kprEpochDraining, 0)] ∧
      t.rf .kprEpochPending 0 = 0 ∧ t.rf .kprEpochDraining 0 = 1 ∧ t.rf .kprEpochCurrent 0 = (s.rf .kprEpochCurrent 0 + 1) % 4) := by
  have heq : s.pendingAdvance = ((s.put .kprEpochPending 0 0).advanceEpoch false).loadRedirect := by
    have hbatch : (s.put .kprEpochPending 0 0).regrows.filter (fun r => decide (r.phase = rgDrain ∧ r.inBatch = false)) = [] := by
      rw [show (s.put .kprEpochPending 0 0).regrows = s.regrows from rfl, hnone, List.filter_nil]
    unfold State.pendingAdvance
    rw [if_neg (by rw [State.draining_eq_false hsteady]; decide), if_neg (by omega), if_pos hpending, hbatch, List.foldl_nil]
  refine .of_next (congrArg Host.Outcome.next heq) ?_
  obtain ⟨⟨-, hput⟩, hcleared⟩ := s.put_sets .kprEpochPending 0 (v := 0) (by decide)
  generalize hu : (s.put .kprEpochPending 0 0).advanceEpoch false = u
  obtain ⟨-, hregs, hcurrent, hdraining, -⟩ := State.advanceEpoch_quiet (s := s.put .kprEpochPending 0 0) he hu
  have hload : ∀ F i, u.loadRedirect.rf F i = u.rf F i := fun _ _ => rfl
  refine ⟨fun F i hn => ?_, ?_, (hload _ _).trans hdraining, ?_⟩
  · exact (hload F i).trans (((hput.mono (by simp)).trans (hregs.mono (by simp))) F i hn)
  · exact (hload _ _).trans ((hregs _ _ (by simp)).trans hcleared)
  · exact (hload _ _).trans (hcurrent.trans (by rw [hput _ _ (by simp)]))

/-! ### Flits of the old epoch (R213) -/

section
variable {s : State} {tile tgt : Nat} {r : Regrowth} (q : QueueId) (h : BitVec 64) (hk : tileOk tile = true)
  (hdraining : s.rf .kprEpochDraining 0 = 1)
  (hfind : s.regrows.find? (fun r => decide (r.failed = tile ∧ r.phase = rgDrain) && r.inBatch) = some r)
include hk hdraining hfind

theorem oldEpochFlit_discarded (hleft : s.epochFn.discards = []) (hcopy : r.copyFill = true)
    (hroom : s.rf .kprDrainDiscardsDiscards 0 + 1 < 2 ^ RF.kprDrainDiscardsDiscards.spec.width) :
    Completes (exec (.oldEpochFlitLanding tile q h) s) (fun t =>
      t = { s with regs := t.regs, epochFn := { s.epochFn with discards := [⟨q, 1, h⟩] } } ∧ SameRegs s t [(.kprDrainDiscardsDiscards, 0)] ∧
      t.rf .kprDrainDiscardsDiscards 0 = s.rf .kprDrainDiscardsDiscards 0 + 1) := by
  let u : State := { s with epochFn := { s.epochFn with discards := [⟨q, 1, h⟩] } }
  have heq : s.oldFlit tile q h.toNat = u.put .kprDrainDiscardsDiscards 0 (s.rf .kprDrainDiscardsDiscards 0 + 1) := by
    unfold State.oldFlit
    rw [if_pos (State.draining_eq_true hdraining), hfind]
    dsimp only
    rw [if_pos hcopy, hleft, BitVec.ofNat_toNat, BitVec.setWidth_eq]
    exact State.bump_eq_put (s := u) _ _ _ hroom
  obtain ⟨⟨hframe, hregs⟩, hcount⟩ := u.put_sets .kprDrainDiscardsDiscards 0 hroom
  exact .of_onTile hk (congrArg (onTile tile s) heq) ⟨hframe, hregs, hcount⟩

theorem oldEpochFlit_forwarded (htarget : r.target = some tgt) (hcopy : r.copyFill = false) :
    exec (.oldEpochFlitLanding tile q h) s = .next { s with out := .forward tile tgt q.port h.toNat :: s.out } := by
  refine (onTile_next hk s _).trans (congrArg _ ?_)
  unfold State.oldFlit
  rw [if_pos (State.draining_eq_true hdraining), hfind]
  dsimp only
  rw [if_neg (by simp [hcopy]), htarget]
  rfl

end

end Sys2Proof.Machine
end

section
/-! The ends of regrowths: DONE with its drain, escalation, and an uncorrectable word of the Remap Table
(07_quarantine_and_regrowth.md R209, R214, R217, R218, R222). -/

namespace Sys2Proof.Machine

/-! ### A regrowth leaves its engine (R209) -/

theorem State.dropRegrow_single {s : State} {r : Regrowth} (h : s.regrows = [r]) : s.dropRegrow r = { s with regrows := [] } := by
  rw [State.dropRegrow, h]
  simp

theorem State.dequeue_none {s : State} (h : s.regrows = []) (f : Nat) : s.dequeue f = s := by
  have honto : ∀ e, s.dequeueOnto f e = s := fun e => by
    rw [State.dequeueOnto, State.queuedRegrows, h]
    rfl
  rw [State.dequeue, honto, honto]

/-- The last regrowth ends: no queue waits for its engine. -/
theorem State.endRegrow_single {s : State} {r : Regrowth} (h : s.regrows = [r]) : s.endRegrow r = { s with regrows := [] } := by
  unfold State.endRegrow
  rw [State.dropRegrow_single h]
  split
  · exact State.dequeue_none rfl _
  · rfl

/-! ### DONE (R209, R214, R222) -/

/-- The entry of a regrowth that is done is no tadpole's any more. -/
def State.tadpoleGone (s : State) (f i : Nat) (m : Remap) : State := s.setRemap f i (some { m with tadpole := false })

/-- The collars of a regrowth that is done: the failed tile's closed, the target's open. -/
def State.collarsSwapped (s : State) (failed tgt : Nat) : State :=
  let s1 := s.setTile failed { s.tile failed with stall := false, frozen := false, collarOut := true, collarIn := true }
  s1.setTile tgt { s1.tile tgt with stall := false, frozen := false, collarOut := false, collarIn := false }

theorem State.collarsSwapped_leaves (s : State) {failed tgt : Nat} (hne : tgt ≠ failed) :
    let t := s.collarsSwapped failed tgt
    t = { s with tiles := t.tiles } ∧ (t.tile failed).collarOut = true ∧ (t.tile failed).collarIn = true ∧ (t.tile failed).stall = false ∧
      (t.tile tgt).collarOut = false ∧ (t.tile tgt).frozen = false := by
  intro t
  have hfailed : t.tile failed = { s.tile failed with stall := false, frozen := false, collarOut := true, collarIn := true } :=
    (State.tile_setTile_other _ _ _ _ hne.symm).trans (s.tile_setTile_same _ _)
  have htarget : ∃ x : Tile, t.tile tgt = { x with stall := false, frozen := false, collarOut := false, collarIn := false } :=
    ⟨_, State.tile_setTile_same _ _ _⟩
  obtain ⟨x, htarget⟩ := htarget
  rw [hfailed, htarget]
  exact ⟨rfl, rfl, rfl, rfl, rfl, rfl⟩

section
variable {s : State} {r : Regrowth} {tgt i : Nat} {m : Remap} (h : s.regrows = [r]) (hrot : r.rot = 0) (hcopy : r.copyFill = false)
  (htarget : r.target = some tgt) (hne : tgt ≠ r.failed) (hi : s.remapIndex (tileField r.failed) r.logical = i)
  (hm : Tab.get (fun _ => none) s.remap (1024 * tileField r.failed + i) = some m)
include h hrot hcopy htarget hne hi hm

/-- A transplant with nothing discarded: the entry, the collars, the record, and the engine. -/
theorem State.regrowDrainEnd_done : s.regrowDrainEnd false r =
    (((s.tadpoleGone (tileField r.failed) i m).collarsSwapped r.failed tgt).writeRegrow r 1 0).endRegrow r := by
  have hopen : ∀ u : State, u.regrows = [r] →
      u.openTarget tgt = u.setTile tgt { u.tile tgt with stall := false, frozen := false, collarOut := false, collarIn := false } := by
    intro u hu
    refine if_neg ?_
    rw [hu]
    simp [Ne.symm hne]
  unfold State.regrowDrainEnd
  dsimp only
  rw [if_neg (by simp [hrot]), if_neg (by simp [hcopy]), hi, hm, htarget]
  exact congrArg (fun u : State => (u.writeRegrow r 1 0).endRegrow r) (hopen _ h)

end

/-- The record of a regrowth that is done, and its engine left. -/
theorem State.writeRegrow_endRegrow {s w : State} {r : Regrowth} (h : s.regrows = [r]) (hw : s.writeRegrow r 1 0 = w) :
    (w.endRegrow r).regrows = [] ∧ (w.endRegrow r).tiles = s.tiles ∧ (w.endRegrow r).remap = s.remap ∧
      bits ((w.endRegrow r).rf .fstRegrowLastRecord (tileField r.failed)) 4 4 = 1 ∧
      (w.endRegrow r).run.regrowths = Nat.min 0xFFFFFFFF (s.run.regrowths + 1) := by
  obtain ⟨hframe, hcount, hregs⟩ := State.writeRegrow_done hw
  have hrecord : w.rf .fstRegrowLastRecord (tileField r.failed) = s.regrowRecord r 1 0 % 2 ^ RF.fstRegrowLastRecord.spec.width :=
    (hregs _ _ (by simp [regrowRegs])).trans (s.rf_put_same _ _ _)
  rw [State.endRegrow_single (by rw [hframe]; exact h)]
  refine ⟨rfl, ?_, ?_, ?_, hcount⟩
  · rw [hframe]
  · rw [hframe]
  · exact (congrArg (bits · 4 4) hrecord).trans (s.bits_regrowLast r 1 0).1

section
variable {s : State} {r : Regrowth} {tgt i : Nat} {m : Remap} (h : s.regrows = [r]) (hrot : r.rot = 0) (hcopy : r.copyFill = false)
  (htarget : r.target = some tgt) (hne : tgt ≠ r.failed) (hi : s.remapIndex (tileField r.failed) r.logical = i)
  (hm : Tab.get (fun _ => none) s.remap (1024 * tileField r.failed + i) = some m)
include h hrot hcopy htarget hne hi hm

theorem State.regrowDrainEnd_leaves {t : State} (ht : s.regrowDrainEnd false r = t) : t.regrows = [] ∧
    (t.tile r.failed).collarOut = true ∧ (t.tile r.failed).collarIn = true ∧ (t.tile r.failed).stall = false ∧
    (t.tile tgt).collarOut = false ∧ (t.tile tgt).frozen = false ∧
    Tab.get (fun _ => none) t.remap (1024 * tileField r.failed + i) = some { m with tadpole := false } ∧
    bits (t.rf .fstRegrowLastRecord (tileField r.failed)) 4 4 = 1 ∧ t.run.regrowths = Nat.min 0xFFFFFFFF (s.run.regrowths + 1) := by
  rw [State.regrowDrainEnd_done h hrot hcopy htarget hne hi hm] at ht
  obtain ⟨hcframe, hout, hin, hstall, htout, htfrozen⟩ := (s.tadpoleGone (tileField r.failed) i m).collarsSwapped_leaves hne
  have hentry : Tab.get (fun _ => none) (s.tadpoleGone (tileField r.failed) i m).remap (1024 * tileField r.failed + i) =
      some { m with tadpole := false } := Tab.get_set_same _ _ _ _
  generalize (s.tadpoleGone (tileField r.failed) i m).collarsSwapped r.failed tgt = c at *
  have hcremap : c.remap = (s.tadpoleGone (tileField r.failed) i m).remap := by rw [hcframe]
  have hcrun : c.run = s.run := by rw [hcframe]; rfl
  obtain ⟨hregrows, htiles, hremap, hrecord, hcount⟩ := State.writeRegrow_endRegrow (s := c) (r := r) (by rw [hcframe]; exact h) rfl
  rw [ht] at hregrows htiles hremap hrecord hcount
  have htile : ∀ k, t.tile k = c.tile k := fun k => by rw [State.tile, State.tile, htiles]
  rw [htile, htile]
  exact ⟨hregrows, hout, hin, hstall, htout, htfrozen, by rw [hremap, hcremap, hentry], hrecord, by rw [hcount, hcrun]⟩

end

/-- R209, R214, R222: the drain ends with nothing discarded, and the regrowth of its batch is done. -/
theorem epochDrainDone_ends {s : State} {tgt : Nat} {r : Regrowth} {m : Remap} {i : Nat} (hdraining : s.rf .kprEpochDraining 0 = 1)
    (hprogram : s.epochFn.program = false) (hleft : s.epochFn.discards = []) (h : s.regrows = [r]) (hphase : r.phase = rgDrain)
    (hbatch : r.inBatch = true) (hrot : r.rot = 0) (hcopy : r.copyFill = false) (htarget : r.target = some tgt) (hne : tgt ≠ r.failed)
    (hi : s.remapIndex (tileField r.failed) r.logical = i) (hm : Tab.get (fun _ => none) s.remap (1024 * tileField r.failed + i) = some m) :
    Completes (exec .epochDrainDone s) (fun t => t.regrows = [] ∧ (t.tile r.failed).collarOut = true ∧ (t.tile r.failed).collarIn = true ∧
      (t.tile r.failed).stall = false ∧ (t.tile tgt).collarOut = false ∧ (t.tile tgt).frozen = false ∧
      Tab.get (fun _ => none) t.remap (1024 * tileField r.failed + i) = some { m with tadpole := false } ∧
      bits (t.rf .fstRegrowLastRecord (tileField r.failed)) 4 4 = 1 ∧ t.run.regrowths = Nat.min 0xFFFFFFFF (s.run.regrowths + 1)) := by
  generalize hu : s.drainOver = u
  obtain ⟨hframe, -⟩ := State.drainOver_leaves hu
  have huregrows : u.regrows = [r] := by rw [hframe]; exact h
  have huindex : u.remapIndex (tileField r.failed) r.logical = i := by rw [hframe]; exact hi
  have huremap : u.remap = s.remap := by rw [hframe]
  have hurun : u.run = s.run := by rw [hframe]
  have hends := State.regrowDrainEnd_leaves huregrows hrot hcopy htarget hne huindex (huremap ▸ hm) rfl
  rw [hurun] at hends
  refine .of_next (t := u.regrowDrainEnd false r) (congrArg Host.Outcome.next ?_) hends
  have hone : u.regrows.filter (fun r => decide (r.phase = rgDrain) && r.inBatch) = [r] := by rw [huregrows]; simp [hphase, hbatch]
  rw [if_pos (State.draining_eq_true hdraining), hleft, State.drainEnd_empty hprogram, hu, State.batchEnds, hone, List.foldl_cons,
    List.foldl_nil]
  exact State.noSource_no_regrows _ hends.1

/-! ### Escalation (R209, R217, R222) -/

/-- The registers that an escalation can write beside FST_REGROW_LAST. -/
def escalateRegs (f : Nat) : List (RF × Nat) := regrowRegs f ++ recoveryRegs

/-- What a regrowth's record of OUTCOME 3 and the recovery after it leave, whatever is released between them. -/
structure Escalated (s t : State) (f reason : Nat) : Prop where
  begun : RecoveryBegun s t
  outcome : bits (t.rf .fstRegrowLastRecord f) 4 4 = 3
  told : bits (t.rf .fstRegrowLastRecord f) 8 4 = reason
  regs : SameRegs s t ((.fstRegrowLastRecord, f) :: escalateRegs f)

/-- The record of OUTCOME 3, then a recovery that begins. -/
theorem State.escalated_of_record {s w x : State} {r : Regrowth} {reason : Nat} (hreason : reason < 2 ^ 4) (hrec : s.recoverable)
    (hw : s.writeRegrow r 3 reason = w) (hx : x = { w with
      regrows := x.regrows, sram := x.sram, sealed := x.sealed, clears := x.clears }) :
    Escalated s (x.requestRecovery false none 5 false) (tileField r.failed) reason ∧
      x.requestRecovery false none 5 false = { x with
        regs := (x.requestRecovery false none 5 false).regs, molts := (x.requestRecovery false none 5 false).molts
        recov := (x.requestRecovery false none 5 false).recov } := by
  obtain ⟨hwframe, hwregs, -, -⟩ := State.writeRegrow_escalated hw
  have hxregs : SameRegs w x [] := .of_regs_eq _ (by rw [hx])
  have hput : SameRegs s (s.put .fstRegrowLastRecord (tileField r.failed) (s.regrowRecord r 3 reason))
      [(.fstRegrowLastRecord, tileField r.failed)] := s.sameRegs_put _ (by simp)
  have hsx : SameRegs s x ((.fstRegrowLastRecord, tileField r.failed) :: escalateRegs (tileField r.failed)) :=
    ((hput.mono (by simp)).trans (hwregs.mono (by simp [escalateRegs, regrowRegs]))).trans (hxregs.mono (by simp))
  have hmay : x.recoverable := by
    refine State.recoverable.of_same (l := (.fstRegrowLastRecord, tileField r.failed) :: regrowRegs (tileField r.failed)) hrec
      (((hput.mono (by simp)).trans (hwregs.mono (by simp [regrowRegs]))).trans (hxregs.mono (by simp))) (by simp [regrowRegs]) ?_ ?_
    · rw [hx, hwframe]
    · rw [hx, hwframe]
  have hmolts : x.molts = s.molts := by rw [hx, hwframe]
  obtain ⟨⟨hrecovery, hcompute, hseq⟩, hframe⟩ := x.requestRecovery_begun 5 hmay
  obtain ⟨-, hregs⟩ := x.requestRecovery_leaves false none 5 false
  have hrecord : (x.requestRecovery false none 5 false).rf .fstRegrowLastRecord (tileField r.failed) =
      s.regrowRecord r 3 reason % 2 ^ RF.fstRegrowLastRecord.spec.width :=
    (hregs _ _ (by simp [recoveryRegs])).trans ((hxregs _ _ (by simp)).trans ((hwregs _ _ (by simp [regrowRegs])).trans (s.rf_put_same _ _ _)))
  obtain ⟨houtcome, htold⟩ := s.bits_regrowLast r 3 reason
  exact ⟨⟨⟨hrecovery, hcompute, by rw [hseq, hmolts]⟩, by rw [hrecord, houtcome, Nat.mod_eq_of_lt (by decide)],
    by rw [hrecord, htold, Nat.mod_eq_of_lt hreason], hsx.trans (hregs.mono (by simp [escalateRegs, recoveryRegs]))⟩, hframe⟩

theorem State.releaseTarget_frame (s : State) (r : Regrowth) :
    ∃ sram sealed clears, s.releaseTarget r = { s with sram := sram, sealed := sealed, clears := clears } := by
  unfold State.releaseTarget
  split
  · split <;> exact ⟨_, _, _, rfl⟩
  · exact ⟨_, _, _, rfl⟩

theorem State.escalate_eq (s : State) (r : Regrowth) (reason : Nat) : s.escalate r reason =
    (((s.writeRegrow r 3 reason).releaseTarget r).endRegrow r).requestRecovery false none 5 false := rfl

/-- The one regrowth's escalation, by the state that holds its record. -/
theorem State.escalate_single {s w : State} {r : Regrowth} {reason : Nat} (h : s.regrows = [r]) (hw : s.writeRegrow r 3 reason = w) :
    ∃ sram sealed clears, s.escalate r reason =
      State.requestRecovery { w with sram := sram, sealed := sealed, clears := clears, regrows := [] } false none 5 false := by
  obtain ⟨hwframe, -⟩ := State.writeRegrow_escalated hw
  obtain ⟨sram, sealed, clears, hrelease⟩ := w.releaseTarget_frame r
  refine ⟨sram, sealed, clears, ?_⟩
  rw [s.escalate_eq, hw, hrelease,
    State.endRegrow_single (s := { w with sram := sram, sealed := sealed, clears := clears }) (by rw [hwframe]; exact h)]

/-- R217: the one regrowth escalates. -/
theorem State.escalate_leaves {s w t : State} {r : Regrowth} {reason : Nat} (h : s.regrows = [r]) (hreason : reason < 2 ^ 4)
    (hrec : s.recoverable) (hroom : outRoom s.host.outQ 2 = true) (hw : s.writeRegrow r 3 reason = w) (ht : s.escalate r reason = t) :
    t.regrows = [] ∧ t.tiles = s.tiles ∧ Escalated s t (tileField r.failed) reason ∧ ∃ m : Msg, Queued s t m ∧ m.cls = 2 ∧ m.code = 0x02 := by
  obtain ⟨hwframe, -, hcroak, -⟩ := State.writeRegrow_escalated hw
  obtain ⟨sram, sealed, clears, heq⟩ := State.escalate_single h hw
  obtain ⟨hescalated, hframe⟩ := State.escalated_of_record
    (x := { w with sram := sram, sealed := sealed, clears := clears, regrows := [] }) hreason hrec hw rfl
  rw [← heq, ht] at hescalated hframe
  obtain ⟨m, hq, hcls, hcode⟩ := hcroak hroom
  exact ⟨by rw [hframe], by rw [hframe, hwframe], hescalated, m, by rw [Queued, hframe]; exact hq, hcls, hcode⟩

theorem Escalated.after {s u t : State} {f reason : Nat} (h : Escalated u t f reason) (hmolts : u.molts = s.molts) : RecoveryBegun s t := by
  obtain ⟨⟨hrecovery, hcompute, hseq⟩, -, -, -⟩ := h
  exact ⟨hrecovery, hcompute, by rw [hseq, hmolts]⟩

/-- What an escalation of the one regrowth leaves (R217, R222). -/
def RegrowthEscalated (s : State) (r : Regrowth) (reason : Nat) (t : State) : Prop :=
  t.regrows = [] ∧ RecoveryBegun s t ∧ t.tiles = s.tiles ∧ bits (t.rf .fstRegrowLastRecord (tileField r.failed)) 4 4 = 3 ∧
    bits (t.rf .fstRegrowLastRecord (tileField r.failed)) 8 4 = reason ∧ ∃ m : Msg, Queued s t m ∧ m.cls = 2 ∧ m.code = 0x02

section
variable {s : State} {l : Nat} {r : Regrowth} (h : s.regrows = [r]) (hl : r.logical = l) (hrec : s.recoverable)
  (hroom : outRoom s.host.outQ 2 = true)
include h hl hrec hroom

theorem refuseWaitExpiry_escalates (hphase : r.phase = rgRefused)
    (hdue : r.refusedAt + 1000 * Nat.max 1 (s.rf .kprRegrowCtrlRefuseWaitMs 0) ≤ s.now) :
    Completes (exec (.refuseWaitExpiry l) s) (RegrowthEscalated s r (if r.slackFailed then 2 else 1)) := by
  have hreason : refusalReason r < 2 ^ 4 := by
    unfold refusalReason
    split <;> decide
  obtain ⟨hnone, htiles, ⟨hbegun, houtcome, htold, -⟩, hqueued⟩ := State.escalate_leaves h hreason hrec hroom rfl rfl
  refine .of_next (t := s.escalate r (refusalReason r)) (congrArg Host.Outcome.next ?_) ⟨hnone, hbegun, htiles, houtcome, htold, hqueued⟩
  rw [State.regrowAt_single h hl (by simp [hphase])]
  exact if_pos hdue

theorem regrowthTimeout_escalates (hrot : r.rot = 0) (hfirst : 1 ≤ r.phase) (hlast : r.phase ≤ 5)
    (hlong : 50000 ≤ r.used + (s.now - r.runFrom)) (hhold : s.rf .kprMonStatusHold 0 = 0)
    (hcount : s.rf .kprCmdTimeoutsCount 0 + 1 < 2 ^ RF.kprCmdTimeoutsCount.spec.width) :
    Completes (exec (.regrowthTimeout l) s) (fun t => RegrowthEscalated s r 5 t ∧
      t.rf .kprCmdTimeoutsCount 0 = s.rf .kprCmdTimeoutsCount 0 + 1) := by
  obtain ⟨⟨hframe, hregs⟩, hcounted⟩ := s.put_sets .kprCmdTimeoutsCount 0 hcount
  have hbump := State.bump_eq_put .kprHangStatusCountSat 0 1 hcount
  have hphase : r.phase ∈ [rgClaim, rgCheck, rgFill, rgCommit, rgDrain] := by
    simp only [rgClaim, rgCheck, rgFill, rgCommit, rgDrain, List.mem_cons, List.not_mem_nil, or_false]
    omega
  have helapsed : 50000 ≤ r.elapsed s.now := by
    rw [Regrowth.elapsed, if_pos (show timedPhase r.phase = true from decide_eq_true ⟨hfirst, hlast⟩)]
    exact hlong
  have hexec : exec (.regrowthTimeout l) s =
      .next ((s.put .kprCmdTimeoutsCount 0 (s.rf .kprCmdTimeoutsCount 0 + 1)).escalate r rsnTimeout) := by
    refine congrArg Host.Outcome.next ?_
    rw [State.regrowAt_single h hl hphase]
    refine (if_pos ⟨hrot, helapsed, hhold⟩).trans ?_
    rw [hbump]
  generalize s.put .kprCmdTimeoutsCount 0 (s.rf .kprCmdTimeoutsCount 0 + 1) = u at *
  have humay : u.recoverable := hrec.of_same hregs (by simp) (by rw [hframe]) (by rw [hframe])
  obtain ⟨hnone, htiles, hescalated, m, hqueued, hm⟩ := State.escalate_leaves (s := u) (r := r) (reason := rsnTimeout)
    (by rw [hframe]; exact h) (by decide) humay (by rw [hframe]; exact hroom) rfl rfl
  have hbegun := hescalated.after (s := s) (by rw [hframe])
  obtain ⟨-, houtcome, htold, htregs⟩ := hescalated
  refine .of_next hexec ⟨⟨hnone, hbegun, ?_, houtcome, htold, m, ?_, hm⟩, ?_⟩
  · rw [htiles, hframe]
  · rw [Queued, hqueued, hframe]
  · exact (htregs _ _ (by simp [escalateRegs, regrowRegs, recoveryRegs])).trans hcounted

end

/-! ### The Remap Table (R218) -/

theorem tileField_shift {f : Nat} (h : f < 32) : tileField (f * 2 ^ 14) = f := by
  unfold tileField bits
  omega

/-- An event in a slice that is not full is told. -/
theorem State.sample_events {s : State} {loc f : Nat} (hf : locField loc = some f) (hroom : s.sliceDepth f < 512) (cls : Nat)
    (acts : List EvAct) : (s.sample cls loc acts).events = s.events ++ [⟨cls, loc, s.now, acts⟩] := by
  unfold State.sample
  rw [hf]
  dsimp only
  rw [if_pos hroom]
  split <;> rfl

theorem State.regrowPosted_events {s : State} {r : Regrowth} (hroom : s.sliceDepth (tileField r.failed) < 512) (v : Nat) :
    (s.regrowPosted r v).events.length = s.events.length + 1 := by
  rw [State.regrowPosted, State.sample_events (s := s.put .fstRegrowLastRecord (tileField r.failed) v) (locField_locStation _) hroom,
    List.length_append]
  rfl

theorem remapTableUe_rewritten {s : State} {f : Fin 32} {i : Nat} (hi : i < 1024) (hroom : s.sliceDepth f.val < 511) :
    exec (.remapTableUe f i true) s = .next { s with
      remapBad := s.remapBad.filter (fun k => decide (k ≠ 1024 * f.val + i))
      events := s.events ++ [⟨3, locStation f.val, s.now, [.log]⟩] } := by
  refine congrArg Host.Outcome.next ?_
  rw [Nat.mod_eq_of_lt hi, if_pos rfl]
  exact State.sample_raised (s := s) (u := { s with remapBad := s.remapBad.filter (fun k => decide (k ≠ 1024 * f.val + i)) }) rfl rfl hroom 3 [.log]

/-- The state once an uncorrectable word has been told. -/
def State.wordLost (s : State) (f i : Nat) : State :=
  { s with remapBad := (1024 * f + i) :: s.remapBad, events := s.events ++ [⟨3, locStation f, s.now, [.log]⟩] }

theorem State.wordLost_depth (s : State) (f i : Nat) : (s.wordLost f i).sliceDepth f = s.sliceDepth f + 1 := by
  simp [State.wordLost, State.sliceDepth, locField_locStation]

/-- No regrowth is left to name: the record is the field's. -/
def lostRegrow (s : State) (f : Nat) : Regrowth := { logical := 0, failed := f * 2 ^ 14, cause := 0, since := s.now }

theorem State.mapLost_none {s : State} (h : s.regrows = []) (f : Nat) :
    s.mapLost f = (s.writeRegrow (lostRegrow s f) 3 rsnMapLost).requestRecovery false none 5 false := by
  unfold State.mapLost
  rw [h]
  exact if_pos rfl

theorem State.mapLost_leaves {s w t : State} {f : Nat} (hf : f < 32) (h : s.regrows = []) (hrec : s.recoverable) (hroom : s.sliceDepth f < 512)
    (hw : s.writeRegrow (lostRegrow s f) 3 rsnMapLost = w) (ht : s.mapLost f = t) :
    RecoveryBegun s t ∧ t.remapBad = s.remapBad ∧ t.remap = s.remap ∧ t.events.length = s.events.length + 1 := by
  obtain ⟨hwframe, -, -, hevents⟩ := State.writeRegrow_escalated hw
  obtain ⟨⟨hbegun, -, -, -⟩, hframe⟩ := State.escalated_of_record (x := w) (reason := rsnMapLost) (by decide) hrec hw rfl
  rw [State.mapLost_none h, hw] at ht
  rw [ht] at hbegun hframe
  refine ⟨hbegun, ?_, ?_, ?_⟩
  · rw [hframe, hwframe]
  · rw [hframe, hwframe]
  · rw [hframe]
    refine (congrArg List.length hevents).trans (State.regrowPosted_events ?_ _)
    rw [lostRegrow, tileField_shift hf]
    exact hroom

theorem remapTableUe_lost {s : State} {f : Fin 32} {i : Nat} (hi : i < 1024) (hroom : s.sliceDepth f.val < 511) (h : s.regrows = [])
    (hrec : s.recoverable) :
    Completes (exec (.remapTableUe f i false) s) (fun t => 1024 * f.val + i ∈ t.remapBad ∧
      RecoveryBegun s t ∧ t.remap = s.remap ∧ t.events.length = s.events.length + 2) := by
  have hexec : exec (.remapTableUe f i false) s = .next ((s.wordLost f.val i).mapLost f.val) := by
    refine congrArg Host.Outcome.next ?_
    rw [Nat.mod_eq_of_lt hi, if_neg Bool.false_ne_true]
    exact congrArg (fun u : State => u.mapLost f.val)
      (State.sample_raised (s := s) (u := { s with remapBad := (1024 * f.val + i) :: s.remapBad }) rfl rfl hroom 3 [.log])
  obtain ⟨hbegun, hbad, hremap, hevents⟩ := State.mapLost_leaves (s := s.wordLost f.val i) f.isLt h hrec
    (by rw [State.wordLost_depth]; omega) rfl rfl
  refine .of_next hexec ⟨hbad ▸ List.mem_cons_self, hbegun, hremap, hevents.trans ?_⟩
  simp [State.wordLost]

/-- Settles O19: drains, waiting advances and late flits; the regrowth that ends with its drain; the two escalations; the Remap Table. -/
theorem regrowthEndsOrEscalates : Obligations.RegrowthEndsOrEscalates := by
  refine ⟨fun s left tile q h => ⟨fun hdraining hnone hprogram _ => ⟨epochDrainDone_counts hdraining hnone hprogram,
      fun hdue hleft hone hroom => hone ▸ drainDeadline_counts hdraining hnone hprogram hdue hleft hroom⟩,
      epochPendingAdvance_begins, fun hsteady => ⟨?_, ?_⟩,
      fun hk hdraining hleft hroom r tgt hfind htarget => ⟨fun hcopy => oldEpochFlit_discarded q h hk hdraining hfind hleft hcopy hroom,
        oldEpochFlit_forwarded q h hk hdraining hfind htarget⟩⟩,
    fun s tgt r m i hdraining hprogram hleft h hphase hbatch hrot hcopy htarget hne _ hi hm =>
      epochDrainDone_ends hdraining hprogram hleft h hphase hbatch hrot hcopy htarget hne hi hm,
    fun s l r h hl hrot _ hrec hroom _ => ⟨refuseWaitExpiry_escalates h hl hrec hroom, regrowthTimeout_escalates h hl hrec hroom hrot⟩,
    fun s f i hi hroom => ⟨remapTableUe_rewritten hi hroom, remapTableUe_lost hi hroom⟩⟩
  · exact congrArg Host.Outcome.next (if_neg (by rw [State.draining_eq_false hsteady]; decide))
  · exact congrArg Host.Outcome.next (if_neg (by rw [State.draining_eq_false hsteady]; exact fun h => Bool.noConfusion h.1))

end Sys2Proof.Machine
end

section
/-! What the end of a launch leaves of the program (07_quarantine_and_regrowth.md R211; 09_ticks_order_sync.md; 13_reproducibility.md R372): choruses
that are abandoned, answers, a zeroisation and the loss of the holder after it touch neither the program, nor the launch, nor the epoch
function. One relation between the states before and after, kept by every operation on the way. -/

namespace Sys2Proof.Machine

/-- The register fields of the program and of the epoch function. -/
def RF.ofProgram : RF → Bool
  | .kprEpochCurrent | .kprEpochDraining | .kprEpochPending | .kprEpochProgramPending | .kprProgramDigestDigest | .kprStallLimitLimit => true
  | _ => false

/-- The registers, the programs, the launch and the epoch function. -/
def State.programParts (s : State) := (s.regs, s.prog, s.progNext, s.launch, s.epochFn)

/-- The program that is loaded and the one that waits, the launch, the epoch function and the registers of them stand. -/
structure OffProgram (s t : State) : Prop where
  prog : t.prog = s.prog
  next : t.progNext = s.progNext
  launch : t.launch = s.launch
  epoch : t.epochFn = s.epochFn
  regs : ∀ F, F.ofProgram = true → ∀ i, t.rf F i = s.rf F i

theorem OffProgram.trans {s t u : State} (h : OffProgram s t) (h' : OffProgram t u) : OffProgram s u where
  prog := h'.prog.trans h.prog
  next := h'.next.trans h.next
  launch := h'.launch.trans h.launch
  epoch := h'.epoch.trans h.epoch
  regs := fun F hF i => (h'.regs F hF i).trans (h.regs F hF i)

theorem OffProgram.of_same {s t : State} (h : t.programParts = s.programParts) : OffProgram s t := by
  simp only [State.programParts, Prod.mk.injEq] at h
  obtain ⟨hregs, hprog, hnext, hlaunch, hepoch⟩ := h
  exact ⟨hprog, hnext, hlaunch, hepoch, fun F _ i => by rw [State.rf, State.rf, hregs]⟩

theorem OffProgram.refl (s : State) : OffProgram s s := .of_same rfl

theorem OffProgram.then_same {s t u : State} (h : OffProgram s t) (hu : u.programParts = t.programParts) : OffProgram s u :=
  h.trans (.of_same hu)

theorem OffProgram.put {s t : State} (h : OffProgram s t) (F : RF) (i v : Nat) (hF : F.ofProgram = false) : OffProgram s (t.put F i v) :=
  h.trans ⟨rfl, rfl, rfl, rfl, fun G hG j => t.rf_put_field F G i j v (fun e => by simp [e, hG] at hF)⟩

theorem OffProgram.ite {s t u : State} {c : Prop} [Decidable c] (ht : OffProgram s t) (hu : OffProgram s u) : OffProgram s (if c then t else u) := by
  split
  · exact ht
  · exact hu

theorem OffProgram.foldl {α : Type} {f : State → α → State} (h : ∀ t a, OffProgram t (f t a)) (l : List α) (s : State) :
    OffProgram s (l.foldl f s) := by
  induction l generalizing s with
  | nil => exact .refl s
  | cons a l ih => exact (h s a).trans (ih _)

theorem OffProgram.bump {s t : State} (h : OffProgram s t) (F : RF) (i : Nat) (G : RF) (j m : Nat) (hF : F.ofProgram = false)
    (hG : G.ofProgram = false) : OffProgram s (t.bump F i G j m) :=
  .ite (h.put F i _ hF) ((h.put F i _ hF).put G j _ hG)

theorem State.offProgram_sample (s : State) (cls loc : Nat) (acts : List EvAct) : OffProgram s (s.sample cls loc acts) := by
  unfold State.sample
  split
  · exact .of_same rfl
  · exact .ite (.ite (.put (.of_same (by rfl)) _ _ _ (by rfl)) (.of_same (by rfl))) (.put (.of_same (by rfl)) _ _ _ (by rfl))

/-! ### Messages, and waits that end -/

theorem State.offProgram_setTaken (s : State) (l : List Taken) : OffProgram s (s.setTaken l) :=
  .put (.put (.of_same (by rfl)) .hptCreditsOutstanding 0 _ rfl) .hptCreditsHigh 0 _ rfl

theorem State.offProgram_sendMsg (s : State) (cls code units cid status payload : Nat) : OffProgram s (s.sendMsg cls code units cid status payload) :=
  .ite (.of_same (by rfl)) (.put (.of_same (by rfl)) _ _ _ (by rfl))

theorem State.offProgram_croak (s : State) (code units payload : Nat) : OffProgram s (s.croak code units payload) :=
  s.offProgram_sendMsg 2 code units 0 0 payload

theorem State.offProgram_respond (s : State) (op cid status units payload : Nat) : OffProgram s (s.respond op cid status units payload) :=
  .ite ((s.offProgram_sendMsg _ _ _ _ _ _).trans (State.offProgram_setTaken _ _)) (.refl s)

theorem State.offProgram_haltCore (s : State) (c : Nat) : OffProgram s (s.haltCore c) :=
  .ite (.put (.of_same (by rfl)) _ _ _ (by rfl)) (.put (.of_same (by rfl)) _ _ _ (by rfl))

theorem State.offProgram_trapAt (s : State) (c epc cause tval : Nat) : OffProgram s (s.trapAt c epc cause tval) :=
  .ite (s.offProgram_haltCore c) (.ite (.of_same (by rfl)) (.trans (.of_same (by rfl)) (State.offProgram_haltCore _ c)))

theorem State.offProgram_writeReg (s : State) (c rd : Nat) (v : Word) : OffProgram s (s.writeReg c rd v) :=
  .ite (.of_same (by rfl)) (.trans (.of_same (by rfl)) (State.offProgram_trapAt _ _ _ _ _))

theorem State.offProgram_endWait (s : State) (w : SemWait) (status value : Nat) : OffProgram s (s.endWait w status value) := by
  unfold State.endWait
  split
  · exact .of_same rfl
  · exact .trans (.of_same (by rfl)) (State.offProgram_writeReg _ _ _ _)
  · exact s.offProgram_respond _ _ _ _ _
  · exact .refl s

theorem State.offProgram_resolve (s : State) (c : Nat) : OffProgram s (s.resolve c) := by
  unfold State.resolve State.endWaits
  generalize resolveWaits c (sortBy (fun w => waitLoc w.owner) s.waits) (s.rf .semCountCount c) = r
  exact (OffProgram.put (.of_same (by rfl)) _ _ _ (by rfl)).trans (.foldl (fun t (w : SemWait × Nat) => t.offProgram_endWait w.1 0 w.2) _ _)

theorem State.offProgram_semAdded (s : State) (c n : Nat) : OffProgram s (s.semAdded c n) := by
  have hcount : OffProgram s (s.put .semCountCount c (Nat.min (s.rf .semCountCount c + n) 0xFFFFFFFF)) := .put (.refl s) _ _ _ (by rfl)
  unfold State.semAdded
  dsimp only
  generalize hs2 : (if 0xFFFFFFFF < s.rf .semCountCount c + n then
      ((s.put .semCountCount c (Nat.min (s.rf .semCountCount c + n) 0xFFFFFFFF)).put .semFlagsAddSat c 1).satEvent
      else s.put .semCountCount c (Nat.min (s.rf .semCountCount c + n) 0xFFFFFFFF)) = s2
  have hsat : OffProgram s s2 := hs2 ▸ .ite ((hcount.put .semFlagsAddSat c 1 rfl).trans (State.offProgram_sample _ _ _ _)) hcount
  exact .ite (hsat.then_same (by rfl)) hsat

theorem State.offProgram_semAdd (s : State) (c n : Nat) : OffProgram s (s.semAdd c n) := by
  rw [State.semAdd_eq]
  exact (s.offProgram_semAdded c n).trans (State.offProgram_resolve _ c)

/-! ### Captures, generations and records -/

theorem State.offProgram_dropHold (s : State) : OffProgram s s.dropHold := by
  unfold State.dropHold
  split
  · exact .ite (.refl s) (.trans (.of_same (by rfl)) (.ite (.refl _) (State.offProgram_semAdd _ _ _)))
  · exact .refl s

theorem State.offProgram_captureWithout (s : State) (layer : Nat) : OffProgram s (s.captureWithout layer) := by
  unfold State.captureWithout
  split
  · exact .ite (.ite (s.offProgram_dropHold.then_same (by rfl)) (.of_same (by rfl))) (.refl s)
  · exact .refl s

theorem State.offProgram_secRecord (s : State) (ty reason layer : Nat) (coFed : Bool) (dur step wtc hold : Nat) :
    OffProgram s (s.secRecord ty reason layer coFed dur step wtc hold) :=
  (OffProgram.put (.refl s) .kprSecLastRecord 0 _ rfl).trans (State.offProgram_sample _ 10 locKeeper _)

theorem State.offProgram_fallback (s : State) (layer step wtc : Nat) (coFed : Bool) : OffProgram s (s.fallback layer step wtc coFed) :=
  (((OffProgram.refl s).bump .kprSecFallbacksCount 0 .kprSecStatusCountSat 0 1 rfl rfl).put .kprSecStatusFallbackSeen 0 1 rfl).trans
    (State.offProgram_secRecord _ 3 0 layer coFed 0 step wtc 0)

theorem State.offProgram_beginCapture (s : State) (c : Capture) : OffProgram s (s.beginCapture c) :=
  .trans (.of_same (by rfl)) (.foldl (fun _ _ => (.of_same (by rfl))) _ _)

theorem State.offProgram_loseDst (n : Nat) (s : State) (t : Trickle) : OffProgram s (s.loseDst n t) := by
  unfold State.loseDst
  split
  · exact .trans (.of_same (by rfl)) (State.offProgram_secRecord _ _ _ _ _ _ _ _ _)
  · exact .refl s

theorem State.offProgram_markLost (s : State) (n : Nat) (g : Gen) : OffProgram s (s.markLost n g) :=
  (OffProgram.trans (.of_same (by rfl)) (State.offProgram_secRecord _ _ _ _ _ _ _ _ _)).then_same (by rfl)

theorem State.offProgram_loseGen (s : State) (n : Nat) : OffProgram s (s.loseGen n) := by
  cases hg : s.gen n with
  | none => rw [State.loseGen, hg]; exact .refl s
  | some g =>
    by_cases hst : g.state = 4 ∨ g.state = 3
    · simp only [State.loseGen, hg, if_pos hst]
      exact .refl s
    · rw [s.loseGen_eq hg hst]
      exact (s.offProgram_markLost n g).trans (.foldl (State.offProgram_loseDst n) _ _)

theorem State.offProgram_loseLayer (s : State) (layer : Nat) : OffProgram s (s.loseLayer layer) :=
  .foldl (fun t (g : Nat × Gen) => t.offProgram_loseGen g.1) _ s

/-! ### Regrowths that escalate, and the recovery they ask for -/

theorem State.offProgram_regrowRun (s : State) : OffProgram s s.regrowRun := .of_same rfl

theorem State.offProgram_writeRegrow (s : State) (r : Regrowth) (outcome reason : Nat) : OffProgram s (s.writeRegrow r outcome reason) := by
  have hposted : OffProgram s (s.regrowPosted r (s.regrowRecord r outcome reason)) :=
    (OffProgram.put (.refl s) .fstRegrowLastRecord _ _ rfl).trans (State.offProgram_sample _ 10 _ _)
  have hcounted := (hposted.trans (State.offProgram_regrowRun _)).bump .fstRegrowDoneDone (tileField r.failed) .fstRegrowFlagsDoneSat
    (tileField r.failed) 1 rfl rfl
  have hescalated := hposted.bump .fstRegrowEscalatedEscalated (tileField r.failed) .fstRegrowFlagsEscSat (tileField r.failed) 1 rfl rfl
  rw [State.writeRegrow_eq]
  exact hcounted.ite ((hescalated.trans (State.offProgram_croak _ _ _ _)).ite hposted)

theorem State.offProgram_releaseTarget (s : State) (r : Regrowth) : OffProgram s (s.releaseTarget r) := by
  unfold State.releaseTarget
  split
  · exact .ite (.of_same (by rfl)) (.refl s)
  · exact .refl s

theorem State.offProgram_clearPlace (s : State) (p : List Nat) : OffProgram s (s.clearPlace p) := by
  refine .foldl (fun t n => ?_) p s
  split
  · exact .ite (.foldl (fun _ _ => (.of_same (by rfl))) _ t) (.of_same (by rfl))
  · exact .refl t

theorem State.offProgram_moltBegin (s : State) (wafer : Bool) (cause field : Nat) (tilesAbsent : Bool) (dom : Domain) :
    OffProgram s (s.moltBegin wafer cause field tilesAbsent dom) :=
  ((s.offProgram_clearPlace _).trans (.ite (.put (.refl _) .kprHangStatusMoltOverwrite 0 1 rfl) (.refl _))).then_same (by rfl)

theorem State.offProgram_captureReset (s : State) (wafer : Bool) (cause field : Nat) (tilesAbsent : Bool) :
    OffProgram s (s.captureReset .compute wafer cause field tilesAbsent) := by
  unfold State.captureReset
  split
  · exact (s.offProgram_moltBegin _ _ _ _ _).put .aoiDomainsCompute 0 1 rfl
  · exact .put (.refl s) .aoiDomainsComputePending 0 1 rfl
  · exact .refl s

theorem State.offProgram_requestRecovery (s : State) (byHost : Bool) (cid : Option Nat) (cause : Nat) (trip : Bool) :
    OffProgram s (s.requestRecovery byHost cid cause trip) := by
  have hset : ∀ t : State, ∀ v, OffProgram t (t.setRec v) := fun t v => .put (.refl t) .kprHangStatusRecovery 0 v rfl
  refine .ite (.of_same (by rfl)) (.ite ?_ (.trans (.of_same (by rfl)) (.ite (hset _ 3) ?_)))
  · exact (OffProgram.put (.of_same (by rfl)) _ _ _ (by rfl)).trans (State.offProgram_croak _ _ _ _)
  · exact .ite ((hset _ 1).trans (State.offProgram_captureReset _ _ _ _ _)) ((hset _ 2).trans (State.offProgram_captureReset _ _ _ _ _))

theorem State.offProgram_escalateAll (s : State) (l : List Regrowth) (reason : Nat) : OffProgram s (s.escalateAll l reason) := by
  refine .ite (.refl s) (.trans (.foldl (fun t r => ?_) l s) (State.offProgram_requestRecovery _ _ _ _ _))
  exact ((t.offProgram_writeRegrow r 3 reason).trans (State.offProgram_releaseTarget _ r)).then_same (by rfl)

theorem State.offProgram_noSource (s : State) : OffProgram s s.noSource := .ite (s.offProgram_escalateAll _ _) (.refl s)

/-! ### Reloads from the partner's copy -/

theorem State.offProgram_answerRollback (s : State) (status code detail : Nat) : OffProgram s (s.answerRollback status code detail) := by
  unfold State.answerRollback
  split
  · dsimp only
    split
    · exact .trans (.of_same (by rfl)) (State.offProgram_respond _ _ _ _ _ _)
    · exact .of_same rfl
  · exact .refl s

theorem State.offProgram_reloadNext (s : State) : OffProgram s s.reloadNext := by
  unfold State.reloadNext
  split
  · split
    · exact .ite (.put (.of_same (by rfl)) _ _ _ (by rfl)) (.of_same (by rfl))
    · have hanswered : OffProgram s (({ s with sec := { s.sec with needed := true } } : State).answerRollback 10 0 0).noSource :=
        (OffProgram.trans (.of_same (by rfl)) (State.offProgram_answerRollback _ _ _ _)).trans (State.offProgram_noSource _)
      exact .ite (hanswered.put .kprHangStatusRecovery 0 4 rfl) hanswered
  · exact .refl s

theorem State.offProgram_reloadFail (s : State) : OffProgram s s.reloadFail := by
  unfold State.reloadFail
  split
  · refine .ite ?_ (.refl s)
    split
    · have hlost : ∀ n (g : Gen), OffProgram s ((s.loseGen n).fallback g.layer g.step g.wtc g.coFed) :=
        fun n g => (s.offProgram_loseGen n).trans (State.offProgram_fallback _ _ _ _ _)
      exact ((hlost _ _).trans (.ite (.foldl (fun t _ => t.offProgram_writeRegrow _ _ _) _ _) (.refl _))).trans (State.offProgram_reloadNext _)
    · exact s.offProgram_reloadNext
  · exact .refl s

theorem State.offProgram_partnerCopyLost (s : State) : OffProgram s s.partnerCopyLost :=
  (OffProgram.trans (.ite s.offProgram_reloadFail (.refl s)) (State.offProgram_loseLayer _ 1)).trans (State.offProgram_noSource _)

/-! ### Partners -/

theorem State.offProgram_setSecCapture (s : State) (c : Option Capture) : OffProgram s (s.setSecCapture c) := .of_same rfl

theorem State.offProgram_captureFallback (s : State) : OffProgram s s.captureFallback := by
  cases h : s.sec.capture with
  | none =>
    rw [State.captureFallback, h]
    exact .refl s
  | some c =>
    rw [State.captureFallback_of_capture h]
    refine .ite (.ite ?_ (.ite ?_ ?_)) (.refl s)
    · exact (s.offProgram_setSecCapture _).trans (State.offProgram_fallback _ _ _ _ _)
    · exact (s.offProgram_beginCapture _).trans (State.offProgram_fallback _ _ _ _ _)
    · exact (s.offProgram_fallback _ _ _ _).trans (State.offProgram_captureWithout _ 1)

theorem State.offProgram_setRole (s : State) (e role : Nat) : OffProgram s (s.setRole e role) := by
  unfold State.setRole
  split
  · exact .of_same rfl
  · exact .refl s

theorem State.offProgram_askHolder (s : State) : OffProgram s s.askHolder := by
  unfold State.askHolder
  split
  · exact .of_same rfl
  · exact (OffProgram.put (.of_same (by rfl)) _ _ _ (by rfl)).trans (State.offProgram_croak _ _ _ _)

theorem State.offProgram_chooseHolder (s : State) : OffProgram s s.chooseHolder :=
  .ite (.trans (.of_same (by rfl)) (State.offProgram_askHolder _)) (.put (.refl s) _ _ _ (by rfl))

theorem State.offProgram_renewalDue (s : State) : OffProgram s s.renewalDue := .of_same rfl

theorem State.offProgram_holderGone (s : State) : OffProgram s s.holderGone := by
  have hlost : OffProgram s (s.captureFallback.partnerCopyLost.setRole (s.rf .kprSecPairHolder 0) 0) :=
    (s.offProgram_captureFallback.trans (State.offProgram_partnerCopyLost _)).trans (State.offProgram_setRole _ _ _)
  have hcleared : OffProgram s s.holderCleared := (hlost.put .kprSecPairHolderValid 0 0 rfl).put .kprSecStatusCofed 0 0 rfl
  rw [State.holderGone_eq]
  exact ((hcleared.trans (State.offProgram_renewalDue _)).trans (State.offProgram_secRecord _ 8 0 0 false 0 0 0 0)).trans
    (State.offProgram_chooseHolder _)

/-! ### Choruses that are abandoned (R146) -/

theorem State.offProgram_showChorus (s : State) (k : Nat) : OffProgram s (s.showChorus k) :=
  (((OffProgram.refl s).put .lwdDigStatusOpen k _ rfl).put .lwdDigStatusRollcall k _ rfl).put .lwdDigStatusBackpressure k _ rfl

theorem State.offProgram_chorusPost (s : State) (k cls r : Nat) (acts : List EvAct) : OffProgram s (s.chorusPost k cls r acts) :=
  ((OffProgram.refl s).put .lwdChorusLastRecord k r rfl).trans (State.offProgram_sample _ _ _ _)

theorem State.offProgram_annDiscard (s : State) (k : Nat) : OffProgram s (s.annDiscard k) :=
  (OffProgram.refl s).bump .lwdAnnDiscardCount k .lwdDigFlagsSat k 32 rfl rfl

theorem State.offProgram_flitIn (s : State) (k coll chunk index : Nat) : OffProgram s (s.flitIn k coll chunk index) :=
  .ite (.of_same (by rfl)) (.of_same (by rfl))

theorem State.offProgram_chorusOpen {s : State} {k : Nat} {key : Nat × Nat × Nat} {p : Chorus × State} (h : s.chorusOpen k key = some p) :
    OffProgram s p.2 := by
  unfold State.chorusOpen at h
  dsimp only at h
  split at h
  · exact Option.some.inj h ▸ .refl s
  · split at h
    · exact Option.some.inj h ▸ .of_same rfl
    · cases h

/-- A chorus that a piece opens, changed and put back. -/
theorem State.offProgram_opened {s u : State} {k : Nat} {key : Nat × Nat × Nat} {f : Chorus × State → State}
    (hf : ∀ p, OffProgram p.2 (f p)) (h : (s.chorusOpen k key).map f = some u) : OffProgram s u := by
  obtain ⟨p, hp, rfl⟩ := Option.map_eq_some_iff.mp h
  exact (State.offProgram_chorusOpen hp).trans (hf p)

theorem State.offProgram_chorusPiece {s u : State} {k : Nat} {p : Piece} (h : s.chorusPiece k p = some u) : OffProgram s u := by
  unfold State.chorusPiece at h
  split at h
  next =>
    dsimp only at h
    split at h
    · split at h
      · exact Option.some.inj h ▸ s.offProgram_annDiscard k
      · split at h
        · split at h <;> exact Option.some.inj h ▸ (s.offProgram_annDiscard k).then_same (by rfl)
        · exact State.offProgram_opened (fun _ => .of_same (by rfl)) h
    · exact Option.some.inj h ▸ s.offProgram_annDiscard k
  next =>
    obtain ⟨v, hv, rfl⟩ := Option.map_eq_some_iff.mp h
    refine OffProgram.trans ?_ (State.offProgram_flitIn _ _ _ _ _)
    split at hv
    · dsimp only at hv
      split at hv
      · exact Option.some.inj hv ▸ .refl s
      · split at hv
        · split at hv
          · exact Option.some.inj hv ▸ .refl s
          · exact State.offProgram_opened (fun _ => .ite (.of_same (by rfl)) (.refl _)) hv
        · exact Option.some.inj hv ▸ .ite ((OffProgram.refl s).bump .lwdChunksUncheckedCount k .lwdDigFlagsSat k 64 rfl rfl) (.refl s)
    · exact Option.some.inj hv ▸ .refl s

theorem State.offProgram_chorusAdmit (n : Nat) (s : State) (k : Nat) : OffProgram s (State.chorusAdmit n s k) := by
  fun_induction State.chorusAdmit n s k with
  | case3 n s k p t hp u hu ih => exact (OffProgram.trans (.of_same (by rfl)) (State.offProgram_chorusPiece hu)).trans ih
  | _ => exact .refl _

theorem State.offProgram_chorusClose (s : State) (k : Nat) (c : Chorus) : OffProgram s (s.chorusClose k c) :=
  (OffProgram.trans (.of_same (by rfl)) (State.offProgram_chorusAdmit _ _ k)).trans (State.offProgram_showChorus _ k)

/-- A chorus that ends ABANDONED: counted, and its record kept and told. -/
theorem State.chorusEnd_abandoned (s : State) (k : Nat) (l : Collective) (c : Chorus) :
    s.chorusEnd k l c 4 [] 3 0 = (s.chorusCounted k c 4).chorusPost k 10
      (chorusRecord 4 (modeCode l) 3 0 c.coll c.inst c.chunk k 0x7FFF 0 l.contributors.length c.digest (expectedSum c) c.openWtc 0) [] := by
  unfold State.chorusEnd
  simp only [State.chorusCounted]

theorem State.offProgram_chorusEnd (s : State) (k : Nat) (l : Collective) (c : Chorus) : OffProgram s (s.chorusEnd k l c 4 [] 3 0) := by
  have hcounted : OffProgram s (s.chorusCounted k c 4) := (s.offProgram_chorusClose k c).bump (chorusCounter 4) k .lwdDigFlagsSat k (2 ^ 4) rfl rfl
  rw [s.chorusEnd_abandoned k l c]
  exact hcounted.trans (State.offProgram_chorusPost _ k 10 _ [])

theorem State.offProgram_chorusAbandon (s : State) (k : Nat) : OffProgram s (s.chorusAbandon k) := by
  refine (OffProgram.trans (.of_same (by rfl)) (.foldl (fun t c => ?_) _ _)).trans (State.offProgram_showChorus _ k)
  split
  · exact t.offProgram_chorusEnd k _ c
  · exact .refl t

/-! ### A launch ends (R153, R211) -/

theorem State.offProgram_zeroise (s : State) (launchEnd : Bool) : OffProgram s (s.zeroise launchEnd) := by
  have hcleared : ∀ t : State, OffProgram t (State.puts { t with jobKey := none, sec := { t.sec with sessionKey := none, clientKey := none } }
      [(.kprDigKeyLoaded, 0, 0), (.kprDigKeyTagsActive, 0, 0), (.kprDigKeyZeroisePending, 0, 0)]) := fun t =>
    ((OffProgram.put (.of_same (by rfl)) .kprDigKeyLoaded 0 0 (by rfl)).put .kprDigKeyTagsActive 0 0 rfl).put .kprDigKeyZeroisePending 0 0 rfl
  have htold := (OffProgram.ite (.of_same (by rfl)) (.refl s)).trans (hcleared
    (if launchEnd && (s.jobKey.isSome || s.sec.sessionKey.isSome) && decide (s.rf .kprSecPairHolderValid 0 = 1) then
      s.sendMgmt mgPairEnd s.holder 0 0 s.holderKey else s))
  exact .ite (htold.trans (State.offProgram_holderGone _)) htold

theorem State.offProgram_zeroisePending (s : State) : OffProgram s s.zeroisePending := .ite (s.offProgram_zeroise true) (.refl s)

/-- A launch that is marked as ended, and the rollback it owed dropped. -/
def State.launchStopped (s : State) : State :=
  { s with
    launch := { s.launch with running := false }
    sec := { s.sec with needed := false, voidWtc := none, neededAt := none } }

theorem State.endLaunch_eq (s : State) :
    s.endLaunch = (((List.range 16).foldl State.chorusAbandon s).answerRollback 3 0 0).launchStopped.zeroisePending := rfl

/-- A launch that ends: it runs no more, and the program and the epoch function stand. -/
theorem State.endLaunch_leaves {s t : State} (ht : s.endLaunch = t) :
    t.launch.running = false ∧ t.prog = s.prog ∧ ∀ F, F.ofProgram = true → ∀ i, t.rf F i = s.rf F i := by
  have hclosed : OffProgram s (((List.range 16).foldl State.chorusAbandon s).answerRollback 3 0 0) :=
    (OffProgram.foldl State.offProgram_chorusAbandon _ s).trans (State.offProgram_answerRollback _ 3 0 0)
  rw [s.endLaunch_eq] at ht
  generalize ((List.range 16).foldl State.chorusAbandon s).answerRollback 3 0 0 = u at hclosed ht
  have hkey := u.launchStopped.offProgram_zeroisePending
  rw [ht] at hkey
  refine ⟨by rw [hkey.launch]; rfl, hkey.prog.trans hclosed.prog, fun F hF i => (hkey.regs F hF i).trans (hclosed.regs F hF i)⟩

end Sys2Proof.Machine
end

section
/-! Programs as they are delivered, and the exchange of wafer time (07_quarantine_and_regrowth.md R211; 09_ticks_order_sync.md R275 to R277;
13_reproducibility.md R372). -/

namespace Sys2Proof.Machine

/-! ### A program that is delivered (R211, R372) -/

/-- The digest of a program's binary. -/
def programHash (p : Program) : Nat := shaNat (p.binary.map BitVec.toNat)

/-- PROGRAM_DIGEST and the stall limit written, and an input of the Run Digest changed. -/
def State.programNoted (s : State) (digest limit : Nat) : State :=
  (s.puts [(.kprProgramDigestDigest, 0, digest), (.kprStallLimitLimit, 0, limit)]).runStale

theorem State.programNoted_leaves {s t : State} {digest limit : Nat} (ht : s.programNoted digest limit = t) :
    t = { s with regs := t.regs, run := { s.run with stale := true } } ∧
      SameRegs s t [(.kprProgramDigestDigest, 0), (.kprStallLimitLimit, 0)] ∧ t.rf .kprProgramDigestDigest 0 = digest % 2 ^ 256 ∧
      t.rf .kprStallLimitLimit 0 = limit % 2 ^ 32 := by
  subst ht
  refine ⟨rfl, ?_, ?_, ?_⟩
  · exact (State.sameRegs_puts (l := [(.kprProgramDigestDigest, 0), (.kprStallLimitLimit, 0)])
      [(.kprProgramDigestDigest, 0, digest), (.kprStallLimitLimit, 0, limit)] s (by simp)).trans (.of_regs_eq _ rfl)
  · exact State.rf_puts_same (F := .kprProgramDigestDigest) (v := digest)
      [(.kprProgramDigestDigest, 0, digest), (.kprStallLimitLimit, 0, limit)] s (by simp) (by simp)
  · exact State.rf_puts_same (F := .kprStallLimitLimit) (v := limit)
      [(.kprProgramDigestDigest, 0, digest), (.kprStallLimitLimit, 0, limit)] s (by simp) (by simp)

theorem State.programDelivered_idle {s : State} (p : Program) (hidle : s.rf .kprHangStatusRecovery 0 = 0) :
    s.programDelivered p = s.programNoted (programHash p) (stallLimitOf p.stallLimit) := if_neg fun h => h.1 hidle

section
variable {s : State} (p : Program) {c : Instr} (hidle : s.rf .kprHangStatusRecovery 0 = 0) (hc : c = .programLoad p ∨ c = .programChange p)
include hidle hc

theorem program_loaded (hstopped : s.launch.running = false) :
    Completes (exec c s) (fun t => t = { s with regs := t.regs, run := { s.run with stale := true }, prog := some p } ∧
      SameRegs s t [(.kprProgramDigestDigest, 0), (.kprStallLimitLimit, 0)] ∧ t.rf .kprProgramDigestDigest 0 = (programHash p) % 2 ^ 256 ∧
      t.rf .kprStallLimitLimit 0 = stallLimitOf p.stallLimit % 2 ^ 32) := by
  have hnot : ¬ s.launch.running = true := by simp [hstopped]
  have hexec : exec c s = .next { s.programDelivered p with prog := some p } := by
    obtain rfl | rfl := hc
    · exact congrArg Host.Outcome.next (if_neg hnot)
    · exact congrArg Host.Outcome.next (if_neg hnot)
  rw [State.programDelivered_idle p hidle] at hexec
  refine .of_next hexec ?_
  generalize stallLimitOf p.stallLimit = limit
  generalize (programHash p) = digest
  obtain ⟨hframe, hregs, hdigest, hlimit⟩ := State.programNoted_leaves (s := s) (digest := digest) (limit := limit) rfl
  exact ⟨rfl, hregs.trans (.of_regs_eq _ rfl), hdigest, hlimit⟩

/-- R211: with a launch running it ends, and a drain in progress comes before the change. -/
theorem program_waits (hrunning : s.launch.running = true) (hdraining : s.rf .kprEpochDraining 0 = 1) :
    Completes (exec c s) (fun t => t.launch.running = false ∧ t.progNext = some p ∧ t.prog = s.prog ∧ t.rf .kprEpochProgramPending 0 = 1 ∧
      t.rf .kprProgramDigestDigest 0 = (programHash p) % 2 ^ 256) := by
  have hchange : s.changeProgram p = State.programAdvance { (s.programDelivered p).endLaunch with progNext := some p } := if_pos hrunning
  have hexec : exec c s = .next (s.changeProgram p) := by
    obtain rfl | rfl := hc
    · exact congrArg Host.Outcome.next (if_pos hrunning)
    · rfl
  rw [hchange, State.programDelivered_idle p hidle] at hexec
  generalize stallLimitOf p.stallLimit = limit at hexec
  generalize (programHash p) = digest at hexec ⊢
  generalize hu : s.programNoted digest limit = u at hexec
  obtain ⟨hframe, hregs, hdigest, -⟩ := State.programNoted_leaves hu
  generalize hv : u.endLaunch = v at hexec
  obtain ⟨hstopped, hprog, hstands⟩ := State.endLaunch_leaves hv
  have hvdraining : State.draining { v with progNext := some p } = true :=
    State.draining_eq_true (s := { v with progNext := some p }) ((hstands _ rfl 0).trans ((hregs _ _ (by simp)).trans hdraining))
  have hadvance : State.programAdvance { v with progNext := some p } = State.put { v with progNext := some p } .kprEpochProgramPending 0 1 :=
    if_pos hvdraining
  rw [hadvance] at hexec
  refine .of_next hexec ⟨hstopped, rfl, hprog.trans (by rw [hframe]), State.rf_put_same _ _ _ _, ?_⟩
  exact (State.rf_put_field _ .kprEpochProgramPending .kprProgramDigestDigest 0 0 1 (by decide)).trans ((hstands _ rfl 0).trans hdigest)

end

/-! ### The Wafer Time Counter (R275 to R277) -/

theorem wtcExchange_root {s : State} {k : Fin 16} {hops : Nat} {offset : Int} (hroot : s.rf .kprWtcCtrlRoot 0 = 1) :
    exec (.wtcExchange k hops offset) s = .next s :=
  congrArg Host.Outcome.next (if_pos (show s.isRoot = true from decide_eq_true hroot))

/-- What an exchange before the first launch writes. -/
def exchangeWrites (k hops error : Nat) : List (RF × Nat × Nat) :=
  [(.kprWtcStatusHops, 0, hops + 1), (.kprWtcStatusParent, 0, k), (.kprWtcStatusError, 0, error), (.kprWtcStatusSynced, 0, 1)]

theorem exchangeWrites_once (k hops error : Nat) : ((exchangeWrites k hops error).map (fun e => (e.1, e.2.1))).Nodup := by
  simp [exchangeWrites]

/-- The counter stepped to the parent's. -/
def State.wtcStepped (s : State) (k hops wtc error : Nat) : State :=
  State.puts { s with wtcSyncAt := s.now, wtc := wtc } (exchangeWrites k hops error)

theorem State.wtcStepped_leaves {s t : State} {k hops wtc error : Nat} (hk : k < 16) (hhops : hops + 1 < 16)
    (ht : s.wtcStepped k hops wtc error = t) :
    t = { s with regs := t.regs, wtcSyncAt := s.now, wtc := t.wtc } ∧ t.wtc = wtc ∧ t.rf .kprWtcStatusHops 0 = hops + 1 ∧
      t.rf .kprWtcStatusParent 0 = k ∧ t.rf .kprWtcStatusSynced 0 = 1 ∧
      SameRegs s t [(.kprWtcStatusHops, 0), (.kprWtcStatusParent, 0), (.kprWtcStatusError, 0), (.kprWtcStatusSynced, 0)] := by
  subst ht
  have hheld : ∀ F v, (F, 0, v) ∈ exchangeWrites k hops error → v < 2 ^ F.spec.width → (s.wtcStepped k hops wtc error).rf F 0 = v :=
    fun F v hm hv => (State.rf_puts_same _ _ hm (exchangeWrites_once k hops error)).trans (Nat.mod_eq_of_lt hv)
  exact ⟨rfl, rfl, hheld .kprWtcStatusHops _ (by simp [exchangeWrites]) hhops, hheld .kprWtcStatusParent _ (by simp [exchangeWrites]) hk,
    hheld .kprWtcStatusSynced _ (by simp [exchangeWrites]) (by decide),
    (SameRegs.of_regs_eq _ rfl).trans (State.sameRegs_puts _ _ (by simp [exchangeWrites]))⟩

theorem State.wtcExchange_steps {s : State} {k hops : Nat} {offset : Int} (hroot : s.rf .kprWtcCtrlRoot 0 ≠ 1) (hfar : hops + 1 ≤ 10)
    (hnearer : hops + 1 < s.rf .kprWtcStatusHops 0) (hfirst : s.launch.everLaunched = false) :
    s.wtcExchange k hops offset = s.wtcStepped k hops (((s.wtc : Int) + offset / 10).toNat % 2 ^ 64) (ofInt 16 (offset % 10)) := by
  have hnot : ¬ s.isRoot = true := fun h => hroot (of_decide_eq_true h)
  unfold State.wtcExchange
  dsimp only
  rw [if_neg hnot, if_neg (by omega), if_pos (by simp [hnearer])]
  exact if_pos hfirst

theorem wtcExchange_rows {s : State} {k : Fin 16} {hops : Nat} {offset : Int} (hroot : s.rf .kprWtcCtrlRoot 0 ≠ 1) (hfar : hops + 1 ≤ 10)
    (hnearer : hops + 1 < s.rf .kprWtcStatusHops 0) (hfirst : s.launch.everLaunched = false) :
    Completes (exec (.wtcExchange k hops offset) s) (fun t => t = { s with regs := t.regs, wtcSyncAt := s.now, wtc := t.wtc } ∧
      t.wtc = ((s.wtc : Int) + offset / 10).toNat % 2 ^ 64 ∧ t.rf .kprWtcStatusHops 0 = hops + 1 ∧ t.rf .kprWtcStatusParent 0 = k.val ∧
      t.rf .kprWtcStatusSynced 0 = 1 ∧
      SameRegs s t [(.kprWtcStatusHops, 0), (.kprWtcStatusParent, 0), (.kprWtcStatusError, 0), (.kprWtcStatusSynced, 0)]) :=
  .of_next (congrArg Host.Outcome.next (State.wtcExchange_steps hroot hfar hnearer hfirst))
    (State.wtcStepped_leaves k.isLt (by omega) rfl)

theorem wtcSyncLoss_early {s : State} (hearly : s.now < s.wtcSyncAt + 10000) : exec .wtcSyncLoss s = .next s :=
  congrArg Host.Outcome.next (if_neg (by omega))

/-- Synchronisation lost: what is written before the croak. -/
def State.unsynced (s : State) : State :=
  State.puts { s with wtcSlew := 0 } [(.kprWtcStatusSynced, 0, 0), (.kprWtcStatusUnsyncSeen, 0, 1), (.kprWtcStatusHops, 0, 15)]

theorem State.unsynced_leaves {s t : State} (ht : s.unsynced = t) :
    t.host = s.host ∧ t.rf .kprWtcStatusSynced 0 = 0 ∧ t.rf .kprWtcStatusUnsyncSeen 0 = 1 ∧ t.rf .kprWtcStatusHops 0 = 15 ∧
      SameRegs s t [(.kprWtcStatusSynced, 0), (.kprWtcStatusUnsyncSeen, 0), (.kprWtcStatusHops, 0)] := by
  subst ht
  have hheld : ∀ F v, (F, 0, v) ∈ [(RF.kprWtcStatusSynced, 0, 0), (.kprWtcStatusUnsyncSeen, 0, 1), (.kprWtcStatusHops, 0, 15)] →
      s.unsynced.rf F 0 = v % 2 ^ F.spec.width := fun F v hm => State.rf_puts_same _ _ hm (by simp)
  exact ⟨rfl, hheld .kprWtcStatusSynced 0 (by simp), hheld .kprWtcStatusUnsyncSeen 1 (by simp), hheld .kprWtcStatusHops 15 (by simp),
    (SameRegs.of_regs_eq _ rfl).trans (State.sameRegs_puts _ _ (by simp))⟩

/-- A message for which there is room changes no register. -/
theorem State.sendMsg_regs {s : State} {cls : Nat} (h : outRoom s.host.outQ cls = true) (code units cid status payload : Nat) :
    (s.sendMsg cls code units cid status payload).regs = s.regs := by
  rw [State.sendMsg, if_pos h]

/-- R277: 10,000 ticks without an exchange. -/
theorem wtcSyncLoss_rows {s : State} (hlate : s.wtcSyncAt + 10000 ≤ s.now) (hroot : s.rf .kprWtcCtrlRoot 0 ≠ 1)
    (hsynced : s.rf .kprWtcStatusSynced 0 = 1) (hroom : outRoom s.host.outQ 2 = true) :
    Completes (exec .wtcSyncLoss s) (fun t => t.rf .kprWtcStatusSynced 0 = 0 ∧ t.rf .kprWtcStatusUnsyncSeen 0 = 1 ∧ t.rf .kprWtcStatusHops 0 = 15 ∧
      SameRegs s t [(.kprWtcStatusSynced, 0), (.kprWtcStatusUnsyncSeen, 0), (.kprWtcStatusHops, 0)] ∧
      ∃ m, Queued s t m ∧ m.cls = 2 ∧ m.code = 0x12) := by
  have hnot : s.isRoot = false := decide_eq_false hroot
  have hexec : exec .wtcSyncLoss s = .next (s.unsynced.sendMsg 2 0x12 1 0 0 s.unsynced.wtcStatus) :=
    congrArg Host.Outcome.next ((if_pos hlate).trans (if_pos ⟨hsynced, hnot⟩))
  generalize hu : s.unsynced = u at hexec
  obtain ⟨hhost, hlost, hseen, hhops, hregs⟩ := State.unsynced_leaves hu
  have huroom : outRoom u.host.outQ 2 = true := hhost ▸ hroom
  have hsame : SameRegs u (u.sendMsg 2 0x12 1 0 0 u.wtcStatus) [] := .of_regs_eq _ (State.sendMsg_regs huroom _ _ _ _ _)
  obtain ⟨m, hqueued, hcls, hcode, -⟩ := u.sendMsg_queued (cls := 2) 0x12 1 u.wtcStatus huroom
  exact .of_next hexec ⟨(hsame _ _ (by simp)).trans hlost, (hsame _ _ (by simp)).trans hseen, (hsame _ _ (by simp)).trans hhops,
    hregs.trans (hsame.mono (by simp)), m, by rw [Queued, hqueued, hhost], hcls, hcode⟩

/-- Settles O39: a program delivered with no launch running and with one, the exchange of wafer time, and its loss. -/
theorem programsAndTimeExchange : Obligations.ProgramsAndTimeExchange := by
  intro s p k hops offset
  exact ⟨fun hstopped hidle c hc => program_loaded p hidle hc hstopped,
    fun hrunning hidle hdraining c hc => program_waits p hidle hc hrunning hdraining, wtcExchange_root,
    fun hroot hfar hnearer hfirst => wtcExchange_rows hroot hfar hnearer hfirst, wtcSyncLoss_early, wtcSyncLoss_rows⟩

end Sys2Proof.Machine
end
